-- ==== Sys2Proof/Word.lean ====
section
/-!
DEFINITION. The words of the K-1664 and their plainest arithmetic: bytes, the three word widths of the register and
lane formats, and the two halves of the die.
-/
namespace Sys2Proof

/-- One byte of a payload or of a memory. -/
abbrev Byte := BitVec 8

/-- A 64-bit register image as software sees it (R9). -/
abbrev Reg64 := BitVec 64

/-- The two halves of the die (R22): West is 0, East is 1. -/
inductive Half where
  | west
  | east
deriving DecidableEq, Repr

/-- A half's number: 0 West, 1 East. -/
def Half.num : Half → Nat
  | .west => 0
  | .east => 1

/-- The other half. -/
def Half.twin : Half → Half
  | .west => .east
  | .east => .west

/-- The half of a one-bit number. -/
def Half.ofBit (b : Nat) : Half := if b % 2 = 0 then .west else .east

end Sys2Proof
end

