-- ==== Sys2Proof/Syntax.lean ====
section
/-!
DEFINITION. The commands the block takes, and the types of their operands.
-/
namespace Sys2Proof

/-- A codeword as it arrives on a fabric port (R40, R41): the 64-bit codeword header, the four 128-byte slots, and
how many of its symbols are in error. -/
structure Codeword where
  hdr : BitVec 64
  slots : List (List Byte)
  symErr : Nat
deriving DecidableEq, Repr

/-- The path by which a register access arrives (R501): PCIe, MGT packets, SMBus. -/
inductive Path where
  | pcie
  | mgt
  | smbus
deriving DecidableEq, Repr

/-- Which part of a 64-bit register an access reaches (R9). -/
inductive Part where
  | whole
  | low
  | high
deriving DecidableEq, Repr

/-- A lane word's control flag C and data D (R90). -/
structure LaneWord where
  c : Bool
  d : BitVec 32
deriving DecidableEq, Repr

/-- What holds MSI-X messages back (R465): one vector's mask, the function mask, MSI-X Enable, Bus Master Enable. -/
inductive MsixHold where
  | vector (v : Nat)
  | function
  | enable
  | busMaster
deriving DecidableEq, Repr

/-- Whose clock a FIFO cycle belongs to (R435): the one clock, or both at once; the writer's alone; the reader's alone. -/
inductive FClk where
  | both
  | write
  | read
deriving DecidableEq, Repr

/-- An entry offered to a FIFO (R430, R438): its content's number, and whether it starts and ends a packet. -/
structure FPush where
  id : Nat
  first : Bool
  last : Bool
deriving DecidableEq, Repr

/-- A read of an entry (R433): segments corrected, and whether one segment could not be. -/
structure FErr where
  corr : Nat
  unc : Bool
deriving DecidableEq, Repr

/-- How a half's self-test ends (R602): every test passed, or the part that failed. -/
inductive TestRes where
  | pass
  | sram
  | engine
  | easel
  | span
deriving DecidableEq, Repr

/-- The levels of the strap pins (R599): PRIMARY_PREF (east when 1), SMB_ADDR, START_MODE, FW_ROM. -/
structure StrapPins where
  prefEast : Bool
  addr : BitVec 2
  startMode : BitVec 2
  fwRom : Bool
deriving DecidableEq, Repr

/-- What the Keeper samples at one pass (R555): three temperatures in 1/16 °C, the flow in Hz, four supplies in mV, the
levels of the sixteen alarm lines. -/
structure KeeperSample where
  tempW : Int
  tempE : Int
  tempEasel : Int
  flow : Nat
  vddCore : Nat
  vddEasel : Nat
  vddSerdes : Nat
  vddKeep : Nat
  alarms : BitVec 16
deriving DecidableEq, Repr

/-- A PCIe request that the function does not serve (R481): I/O, MRdLk or AtomicOp; a BAR0 read or write of a wrong
length or alignment; a BAR2 read that is too long. -/
inductive BarBad where
  | other
  | bar0Read
  | bar0Write
  | bar2Read
deriving DecidableEq, Repr


/-- The commands of the K-1664, one constructor for each row of the table of operations and events. -/
inductive Instr where
  /-- CODEWORD_RECEIVE (R41): A codeword arrives on a fabric port; FEC decodes it and its header's acknowledgement, NAK, credit and LPI fields are applied. -/
  | codewordReceive (n : Nat) (cw : Codeword)
  /-- REPLAY_TIMEOUT (R49): The oldest held flit has waited REPLAY_TMO and the sender replays from it. -/
  | replayTimeout (n : Nat)
  /-- PACKET_SEND (R67): The FIU sends one granted packet contiguously once credit and replay room allow. -/
  | packetSend (n : Nat) (vc : Nat)
  /-- DOWN_WAIT_EXPIRY (R58): After 1 ms in DOWN the fabric port enters TRAIN. -/
  | downWaitExpiry (n : Nat)
  /-- TRAIN_COMPLETE (R59): Lanes equalise, a width is chosen and the port enters ALIGN, or DOWN with CAUSE 2. -/
  | trainComplete (n : Nat) (lanes : Nat)
  /-- TRAIN_NO_SIGNAL (R58): No signal within 50 ms of TRAIN takes the port to DOWN with CAUSE 1. -/
  | trainNoSignal (n : Nat)
  /-- ALIGN_LOCK (R58): Sixty-four consistent correctable codewords end ALIGN towards INIT or resume. -/
  | alignLock (n : Nat)
  /-- ALIGN_TIMEOUT (R58): No lock within 1 ms of ALIGN takes the port to DOWN with CAUSE 3. -/
  | alignTimeout (n : Nat)
  /-- INIT_TIMEOUT (R58): No handshake within 1 ms of INIT, or invalid parameters, take the port to DOWN with CAUSE 5. -/
  | initTimeout (n : Nat)
  /-- RECOVER_TIMEOUT (R58): A RECOVER attempt exceeds 100 µs and a new attempt starts, or the port goes DOWN at RECOVER_LIMIT. -/
  | recoverTimeout (n : Nat)
  /-- LINK_SIGNAL_LOSS (R58): Loss of signal for 10 µs on a lane in use takes the fabric port to DOWN with CAUSE 1. -/
  | linkSignalLoss (n : Nat) (lane : Nat)
  /-- LOWPWR_WAKE_TIMEOUT (R58): No wake response within 2 µs in LOWPWR takes the port to DOWN with CAUSE 4. -/
  | lowpwrWakeTimeout (n : Nat)
  /-- FIU_EN_WRITE (R84): A write of FIU_LINK_CTRL.EN enables a port to DOWN or disables it, subject to the pool check of R52. -/
  | fiuEnWrite (n : Nat) (en : Bool) (path : Path)
  /-- FIU_RETRAIN (R84): Writing RETRAIN in ACTIVE takes the port to RECOVER. -/
  | fiuRetrain (n : Nat)
  /-- LP_REQ_WRITE (R64): Writing LP_REQ sets or clears LPI on the port. -/
  | lpReqWrite (n : Nat) (v : Bool)
  /-- FIU_CNT_CLR (R83): Writing 1 clears every counter on an FIU page. -/
  | fiuCntClr (n : Nat)
  /-- RX_PW (R75): A received PW packet is dispatched to the aperture or to the Palette of the named half. -/
  | rxPw (n : Nat)
  /-- RX_NPW (R75): A received NPW packet is dispatched to the Palette, or answered NO_WINDOW at the aperture. -/
  | rxNpw (n : Nat)
  /-- RX_RD (R75): A received RD packet is dispatched to the Palette, or answered NO_WINDOW at the aperture. -/
  | rxRd (n : Nat)
  /-- RX_AMO (R75): A received AMO packet is dispatched to the Palette, or answered NO_WINDOW at the aperture. -/
  | rxAmo (n : Nat)
  /-- RX_RSP (R78): A received RSP completes the outstanding read tag that it names, or is discarded as unexpected. -/
  | rxRsp (n : Nat)
  /-- RSP_TIMEOUT (R78): A read tag with no RSP within RSP_TMO completes as failed and is quarantined. -/
  | rspTimeout (h : Half) (t : Nat)
  /-- TAG_QUARANTINE_END (R78): A failed read tag leaves quarantine after twice RSP_TMO. -/
  | tagQuarantineEnd (h : Half) (t : Nat)
  /-- EGR_PORT_MASK_WRITE (R82): A write of ELIGIBLE changes a half's eligible egress set and holds destinations whose pin moves. -/
  | egrPortMaskWrite (h : Half) (mask : Nat)
  /-- FLOW_SETTLE_EXPIRY (R82): FLOW_SETTLE elapses for a held destination and its ordered packets go on the new pin. -/
  | flowSettleExpiry (h : Half) (dst : Nat)
  /-- APU_EN_WRITE (R97): A write of APU_CTRL.EN enables an Atnen port to DOWN or disables it. -/
  | apuEnWrite (n : Nat) (en : Bool)
  /-- APU_HOLD_WRITE (R97): A write of APU_CTRL.HOLD holds the port in HELD or releases it to DOWN. -/
  | apuHoldWrite (n : Nat) (hold : Bool)
  /-- TRAIN_START (R126): Writing TRAIN_START in DOWN takes the Atnen port to TRAIN. -/
  | trainStart (n : Nat)
  /-- ENUM_START (R126): Writing ENUM_START in ACTIVE takes the Atnen port to ENUM. -/
  | enumStart (n : Nat)
  /-- AUTO_TRAIN_EXPIRY (R97): After 10 ms in DOWN with AUTO_TRAIN=1 the Atnen port enters TRAIN. -/
  | autoTrainExpiry (n : Nat)
  /-- ATN_TRAIN_NO_SIGNAL (R97): No TRN word within 100 ms takes the Atnen port to DOWN with CAUSE 1. -/
  | atnTrainNoSignal (n : Nat)
  /-- ATN_LOCK_TIMEOUT (R97): Word lock or deskew not reached within 10 ms takes the Atnen port to DOWN with CAUSE 3. -/
  | atnLockTimeout (n : Nat)
  /-- TRN_WORD_RECEIVE (R98): A TRN word advances lane lock, lane choice and the READY and LAST exchange. -/
  | trnWordReceive (n : Nat) (lane : Nat) (good : Bool) (w : LaneWord)
  /-- ENUM_TIMEOUT (R97): ENUM_TMO elapses in ENUM and the port goes DOWN with CAUSE 6. -/
  | enumTimeout (n : Nat)
  /-- ENUM_END (R105): A STATUS ENUM_END word arrives and the device starts reading station headers and descriptors. -/
  | enumEnd (n : Nat) (w : BitVec 32)
  /-- ENUM_DONE (R108): Header and descriptor reads finish; lights are bound, the result is pushed and the port enters ACTIVE. -/
  | enumDone (n : Nat)
  /-- PARITY_ERROR (R92): A parity error on a lane carrying a logical lane takes the Atnen port to DOWN with CAUSE 4. -/
  | parityError (n : Nat)
  /-- ATN_SIGNAL_LOSS (R97): Loss of signal on a lane carrying a logical lane takes the Atnen port to DOWN with CAUSE 1. -/
  | atnSignalLoss (n : Nat)
  /-- FLOW_RECEIVE (R100): A FLOW word sets or clears hop or station-scope XOFF. -/
  | flowReceive (n : Nat) (w : BitVec 32)
  /-- LANE_RECEIVE (R103): A LANE word advances the steering sequence of one direction. -/
  | laneReceive (n : Nat) (w : BitVec 32)
  /-- STEER_TIMEOUT (R104): A late LANE answer or missing equal words aborts steering with STEER_FAIL. -/
  | steerTimeout (n : Nat)
  /-- ATN_RX_TXN_WR (R116): A station's WR transaction arrives and is forwarded as inbound PW packets, or discarded. -/
  | atnRxTxnWr (n : Nat) (w : BitVec 32) (ws : List LaneWord)
  /-- ATN_RX_RSP (R112): An RSP word with its payload completes an outstanding read part, or is discarded. -/
  | atnRxRsp (n : Nat) (w : BitVec 32) (ws : List LaneWord)
  /-- ATN_RD_TIMEOUT (R113): A read with no RSP within ATN_RD_TMO completes as failed and its number is quarantined. -/
  | atnRdTimeout (n : Nat) (stn : Nat) (tn : Nat)
  /-- TN_QUARANTINE_END (R113): A transaction number leaves quarantine after 2 × ATN_RD_TMO. -/
  | tnQuarantineEnd (n : Nat) (stn : Nat) (tn : Nat)
  /-- ATN_RX_INT (R117): An INT word arrives and waits for release behind the station's earlier writes. -/
  | atnRxInt (n : Nat) (w : BitVec 32) (ws : List LaneWord)
  /-- ATN_RX_BEACON (R205): A BEACON word is checked and accepted into its light or discarded. -/
  | atnRxBeacon (n : Nat) (w : BitVec 32) (ws : List LaneWord)
  /-- ATN_RX_VERIFY (R220): A VERIFY word closes a scheduled command and decides the transfer. -/
  | atnRxVerify (n : Nat) (w : BitVec 32) (ws : List LaneWord)
  /-- ATN_RX_WR_ERR (R174): A STATUS WR_ERR is attributed to a tracker entry or logged as an orphan. -/
  | atnRxWrErr (n : Nat) (w : BitVec 32) (ws : List LaneWord)
  /-- ATN_RX_UNIT_STATE (R207): A STATUS UNIT_STATE word changes the state of the unit's light. -/
  | atnRxUnitState (n : Nat) (w : BitVec 32) (ws : List LaneWord)
  /-- ATN_RX_STATION_FAULT (R121): A STATUS STATION_FAULT word raises STATION_FAULT. -/
  | atnRxStationFault (n : Nat) (w : BitVec 32) (ws : List LaneWord)
  /-- TSYNC_SEND (R119): Each TSYNC_INT with TSYNC_EN=1 the device sends a broadcast TSYNC. -/
  | tsyncSend (n : Nat)
  /-- APU_CNT_CLR (R125): Writing 1 clears every counter on an APU page. -/
  | apuCntClr (n : Nat)
  /-- PAL_PROBE (R159): A write of PAL_PROBE looks up an address and pushes one result word. -/
  | palProbe (h : Half) (a : Nat)
  /-- PAL_HALT_CLEAR (R158): A W1C write of PAL_HALT clears window halt bits. -/
  | palHaltClear (h : Half) (i : Nat) (mask : BitVec 64)
  /-- PAL_CTRL_EN_WRITE (R156): A write of PAL_CTRL.EN opens or closes a half's bridge. -/
  | palCtrlEnWrite (h : Half) (en : Bool)
  /-- PAL_CNT_CLR (R155): Writing 1 clears every counter on a PALETTE page. -/
  | palCntClr (h : Half)
  /-- WR_HOLD_EXPIRY (R173): WR_HOLD elapses after an entry's last word; the entry closes or is freed and an NPW is answered COMPLETE. -/
  | wrHoldExpiry (h : Half) (id : Nat)
  /-- LOCK_TIMEOUT (R181): LOCK_TMO elapses with no LOCK_RD answer and the lock is broken. -/
  | lockTimeout (n : Nat)
  /-- LOCK_BUDGET_BREAK (R182): A lock open for LOCK_BUDGET while a scheduled transfer waits is broken. -/
  | lockBudgetBreak (n : Nat)
  /-- INT_RELEASE (R191): An INT word is released to Lantern once the station's earlier writes are acknowledged or discarded. -/
  | intRelease (n : Nat)
  /-- CX_PWLOG_TAIL_WRITE (R195): A write of CX_PWLOG_TAIL advances the posted-write error log tail if in range. -/
  | cxPwlogTailWrite (h : Half) (v : BitVec 32)
  /-- CX_FARLOG_TAIL_WRITE (R195): A write of CX_FARLOG_TAIL advances the far-error log tail if in range. -/
  | cxFarlogTailWrite (h : Half) (v : BitVec 32)
  /-- CX_CNT_CLR (R192): Writing 1 clears every CROSSING counter and CX_LOCK_MAX. -/
  | cxCntClr (h : Half)
  /-- PPS_EDGE (R201): A PPS_IN rising edge is captured and may start a slew of the timebase. -/
  | ppsEdge
  /-- PPS_LOST (R201): No PPS edge for 2 s clears PPS_OK and raises PPS_LOST. -/
  | ppsLost
  /-- REF_EDGE_MISSING (R576): No REF100 edge for 200 ns clears REF_OK. -/
  | refEdgeMissing
  /-- REF_GATE (R576): Each 1 ms gate judges REF100 against the holdover oscillator and sets or clears REF_OK. -/
  | refGate (dev : Int) (edges : Bool)
  /-- HOLDOVER_MEASURE (R579): Each second with REF_OK the device measures HOLD_PPB. -/
  | holdoverMeasure (ppb : Int)
  /-- LIGHT_INDEX_TIMEOUT (R207): No accepted INDEX within 1.5 × PERIOD takes a LIT light to DRIFT. -/
  | lightIndexTimeout (l : Nat)
  /-- DRIFT_REVS_EXPIRY (R207): DRIFT_REVS revolutions pass without an INDEX and the light reacquires. -/
  | driftRevsExpiry (l : Nat)
  /-- LL_CTRL_EN_WRITE (R232): A write of LL_CTRL.EN starts or stops beacon processing; disabling sends lights to IDLE. -/
  | llCtrlEnWrite (h : Half) (en : Bool)
  /-- LL_HOLD_WRITE (R221): A write of LL_CFG.HOLD holds or releases a light's events. -/
  | llHoldWrite (l : Nat) (hold : Bool)
  /-- TSYNC_EN_WRITE (R204): A write of TSYNC_EN 0 sends the port's LIT lights to reacquire. -/
  | tsyncEnWrite (n : Nat) (en : Bool)
  /-- TB_SET (R231): A write of TB_SET sets both timebase copies and every light reacquires. -/
  | tbSet (v : BitVec 64) (path : Path)
  /-- LL_UNBIND (R211): A write of LL_UNBIND releases a light's binding when allowed. -/
  | llUnbind (h : Half) (l : Nat) (path : Path)
  /-- LL_CNT_CLR (R232): Writing 1 clears every counter on a LIGHT page. -/
  | llCntClr (h : Half)
  /-- SUB_ENABLE (R229): Enabling a beacon subscription is checked against the registered nodes. -/
  | subEnable (h : Half) (i : Nat) (on : Bool)
  /-- SUB_INTERVAL_EXPIRY (R229): At the end of an interval a written subscription slot is sent as one PW. -/
  | subIntervalExpiry (h : Half) (i : Nat)
  /-- SCH_CTRL_EN_WRITE (R233): A write of SCH_CTRL.EN lets events fire and feeds request, or stops them. -/
  | schCtrlEnWrite (h : Half) (en : Bool) (path : Path)
  /-- SCH_CNT_CLR (R233): Writing 1 clears every SCHED counter and HIGH_WATER. -/
  | schCntClr (h : Half)
  /-- EVENT_FIRE (R216): An event's fire instant arrives and it joins the port's scheduled-media class. -/
  | eventFire (h : Half) (id : Nat)
  /-- EVENT_DEADLINE_MISS (R219): An event not granted by its deadline is withdrawn and re-keyed to the next revolution. -/
  | eventDeadlineMiss (h : Half) (id : Nat)
  /-- VERIFY_TIMEOUT (R221): No VERIFY within VFY_TMO completes the transfer as failed. -/
  | verifyTimeout (h : Half) (vtag : BitVec 32)
  /-- STREAM_OPEN (R223): The Placement Engine opens a tape stream or has it refused for reservation. -/
  | streamOpen (l : Nat)
  /-- STREAM_CLOSE (R259): A stream without data for IDLE_S is closed with TAPE_STOP. -/
  | streamClose (l : Nat)
  /-- STREAM_CHUNK_OFFER (R224): A stream's credit and FIFO allow and it offers a 64 KiB chunk to the tape-feed class. -/
  | streamChunkOffer (h : Half) (i : Nat)
  /-- STREAM_FILL (R225): The fill writes whole blocks from the write buffer into a stream FIFO. -/
  | streamFill (h : Half) (i : Nat)
  /-- STRIPE_CHOOSE (R245): The Placement Engine chooses the members of a stripe and hands it to parity and scheduling. -/
  | stripeChoose (id : Nat)
  /-- NO_STRIPE_RETRY (R242): Waiting stripes are tried again at least every 1 ms. -/
  | noStripeRetry (h : Half)
  /-- SPIN_UP_ISSUE (R247): The engine sends SPIN_UP to a unit a waiting stripe needs, within the limits. -/
  | spinUpIssue (h : Half) (g : Nat)
  /-- SPIN_DOWN_IDLE (R247): A unit idle for IDLE_S, or over the fill limit, is sent SPIN_DOWN. -/
  | spinDownIdle (l : Nat)
  /-- STALL_RETRY (R249): A stalled stripe tries again once every 1 s. -/
  | stallRetry (id : Nat)
  /-- PL_LOOKUP_STRIPE (R255): A write of PL_LOOKUP_STRIPE pushes the stripe's map result. -/
  | plLookupStripe (h : Half) (v : BitVec 64)
  /-- POLICY_TICK (R261): Each TICK_MS a half evaluates the policy rules for each group. -/
  | policyTick (h : Half)
  /-- EFF_ARM (R267): Writing PL_EFF_CTRL.ARM arms an efficiency interval. -/
  | effArm (h : Half)
  /-- EFF_START (R267): At the start instant the accumulators are set to zero. -/
  | effStart (h : Half)
  /-- EFF_STOP (R267): At the stop instant THRU, LIMIT and the interval are pushed and EFF_DONE is raised. -/
  | effStop (h : Half)
  /-- PL_CNT_CLR (R269): Writing 1 clears every counter on a PLACE page. -/
  | plCntClr (h : Half)
  /-- DIKAR_REQ (R272): A MSG packet with a Dikar request is matched on its context's home half. -/
  | dikarReq (n : Nat)
  /-- OP_SLOT_GRANT (R281): A matched request waiting for an operation slot takes one when it frees. -/
  | opSlotGrant (h : Half)
  /-- ADMISSION (R282): A request is admitted on its object's home half, resolving the name and running checks 6 to 8. -/
  | admission (h : Half)
  /-- NAMESPACE_STEP (R279): A creation or DELETE step is carried out by the half holding primacy. -/
  | namespaceStep (h : Half) (id : Nat)
  /-- NS_TIMEOUT (R279): No namespace answer within NS_TMO completes the request RETRY_ELSEWHERE. -/
  | nsTimeout (h : Half) (id : Nat) (stood : Bool)
  /-- PULL_ISSUE (R292): A pull RD is issued once space for its bytes is reserved in the write buffer. -/
  | pullIssue (h : Half) (id : Nat)
  /-- WRITE_EFFECT (R283): A write's data and SIZE, GEN and MODIFIED are journalled as one step and take effect. -/
  | writeEffect (id : Nat)
  /-- SPAN_COPY (R284): PUT data is copied over the span into the object's home half write buffer. -/
  | spanCopy (id : Nat)
  /-- GET_PUSH (R294): Read data in Easel is pushed to the client buffer by PW packets. -/
  | getPush (h : Half) (id : Nat)
  /-- GET_COMPLETE (R294): Every push flit is acknowledged and the GET's completion is sent. -/
  | getComplete (h : Half) (id : Nat)
  /-- MERGE_RETRY (R285): A held merge is tried again once every 1 s. -/
  | mergeRetry (id : Nat)
  /-- NAME_COMPACT (R278): The primary half moves one live name entry earlier on its probe path in the background. -/
  | nameCompact
  /-- FENCE_COMPLETE (R290): A FENCE's covered set has ended and it takes the failed-write count and completes. -/
  | fenceComplete (id : Nat)
  /-- DK_CTRL_EN_WRITE (R302): A write of DK_CTRL.EN starts or stops Dikar service. -/
  | dkCtrlEnWrite (h : Half) (en : Bool) (path : Path)
  /-- DK_CNT_CLR (R301): Writing 1 clears every DIKAR counter and HIGH_WATER. -/
  | dkCntClr (h : Half)
  /-- CTX_OPEN (R311): CTX_CMD OPEN checks and opens a context. -/
  | ctxOpen
  /-- CTX_CLOSE (R312): CTX_CMD CLOSE puts a context in CLOSING, with or without FORCE. -/
  | ctxClose (force : Bool)
  /-- CTX_CLOSE_FINISH (R312): A CLOSING context's INFLIGHT reaches 0 and it becomes CLOSED. -/
  | ctxCloseFinish (c : Nat)
  /-- ME_APPEND_ENTRY (R319): CTX_CMD APPEND_ENTRY places the staged match entry at the list tail. -/
  | meAppendEntry
  /-- ME_REMOVE_ENTRY (R319): CTX_CMD REMOVE_ENTRY clears an entry's VALID bit. -/
  | meRemoveEntry
  /-- ME_READ_ENTRY (R319): CTX_CMD READ_ENTRY copies an entry into ME_VIEW and pushes a result. -/
  | meReadEntry
  /-- OVF_TIMEOUT (R320): An overflow request waiting OVF_TMO completes DENIED. -/
  | ovfTimeout (h : Half) (c : Nat)
  /-- PIN_WRITE (R313): A write of a context's PIN is accepted or refused at the pin limit. -/
  | pinWrite (v : Bool) (path : Path)
  /-- CQ_RECORD_WRITE (R322): A completion record is written to the queue once it is not full. -/
  | cqRecordWrite (c : Nat)
  /-- CQ_PI_WRITE (R322): The new CQ_PI is written within 1 µs and the context aggregate may strike. -/
  | cqPiWrite (c : Nat)
  /-- CQ_CI_WRITE (R323): An aperture write of a consumer index is accepted or ignored. -/
  | cqCiWrite (n : Nat)
  /-- RING_PI_WRITE (R325): An aperture write of a ring producer index lands in Easel. -/
  | ringPiWrite (n : Nat)
  /-- RING_DESC_WRITE (R325): An aperture write of a descriptor slot lands in Easel. -/
  | ringDescWrite (n : Nat)
  /-- RING_POLL (R329): A ring's poll reads its producer index and fetches descriptors. -/
  | ringPoll (r : Nat)
  /-- RING_ENABLE (R332): Writing RING_CTRL.EN 1 validates the ring and resets its indices. -/
  | ringEnable (path : Path)
  /-- RING_DISABLE (R332): Writing RING_CTRL.EN 0 stops fetching between descriptors. -/
  | ringDisable
  /-- RING_IDLE (R332): A disabled ring's records are all written and covered and it becomes IDLE. -/
  | ringIdle (r : Nat)
  /-- MT_CNT_CLR (R337): Writing 1 clears every counter on a MATCH page. -/
  | mtCntClr (h : Half)
  /-- COLL_MEMBER_GATHERED (R344): A member's contribution is durable and its rank is recorded as received. -/
  | collMemberGathered (h : Half) (id : Nat)
  /-- COLL_DEADLINE (R346): The collective's deadline passes and it closes with missing ranks. -/
  | collDeadline (h : Half) (i : Nat)
  /-- COLL_EFFECT (R347): A closing collective is journalled as one write, or abandoned. -/
  | collEffect (h : Half) (i : Nat)
  /-- COLL_NOTIFY (R351): A COLL_DONE EVT is sent to a node once all its completions are sent. -/
  | collNotify (h : Half) (i : Nat)
  /-- LINGER_EXPIRY (R343): A closed collective's linger entry expires after LINGER_S. -/
  | lingerExpiry (h : Half) (obj : Nat) (tag : Nat)
  /-- COL_CNT_CLR (R356): Writing 1 clears every counter on a COLLECTIVE page. -/
  | colCntClr (h : Half)
  /-- EZG_CARVE_WRITE (R365): A write of EZG_CARVE is checked and journalled as a new carve. -/
  | ezgCarveWrite (v : BitVec 64) (path : Path)
  /-- EZG_FORMAT (R366): EZG_CMD FORMAT discards all object content. -/
  | ezgFormat (gen : BitVec 32) (path : Path)
  /-- EZG_SVC_WRITE (R396): A write of EZG_CTRL.SVC starts or stops the Easel service when allowed. -/
  | ezgSvcWrite (v : Bool) (path : Path)
  /-- PAGE_RELEASE (R375): A write buffer page whose conditions all hold is released and journalled. -/
  | pageRelease (h : Half) (p : Nat)
  /-- JOURNAL_CHECKPOINT (R381): The device writes a CHECKPOINT naming the oldest unapplied step. -/
  | journalCheckpoint (h : Half)
  /-- CACHE_FILL (R377): A media read fills the read cache unless invalidated meanwhile. -/
  | cacheFill (h : Half)
  /-- PATROL_READ (R390): A controller's background patrol reads a line of its stack. -/
  | patrolRead (stack : Nat) (line : Nat) (errs : List Nat) (both : Bool)
  /-- WEAR_GAP_COPY (R392): After 64 line writes the gap line moves by one. -/
  | wearGapCopy (stack : Nat)
  /-- EZ_ELOG_TAIL_WRITE (R391): A write of EZ_ELOG_TAIL advances the Easel error log tail. -/
  | ezElogTailWrite (h : Half) (v : BitVec 32)
  /-- EZ_CNT_CLR (R397): Writing 1 clears every counter on an EASEL page. -/
  | ezCntClr (h : Half)
  /-- MEDIA_READ_DONE (R217): The unit and seal buffers of a passed read are read into Easel and checked. -/
  | mediaReadDone (h : Half) (vtag : BitVec 32)
  /-- SCRUB_INSERT (R412): An idle light gets its next scrub READ_SLOT event. -/
  | scrubInsert (l : Nat)
  /-- SCRUB_LATE (R412): A scrub pass not done when due raises SCRUB_LATE. -/
  | scrubLate (l : Nat)
  /-- REPAIR_DELAY_EXPIRY (R415): REPAIR_DELAY_S after a FAULT, its members become repairable. -/
  | repairDelayExpiry (l : Nat)
  /-- REPAIR_START (R416): A queued stripe is read, rebuilt and given new runs. -/
  | repairStart (h : Half)
  /-- UNREADABLE_RETRY (R417): An UNREADABLE stripe is tried again at least hourly. -/
  | unreadableRetry (h : Half)
  /-- MAP_SWEEP (R414): The map is swept for LOST stripes when the queue has room. -/
  | mapSweep (h : Half)
  /-- GESSO_START (R419): GS_CMD START checks and starts a Gesso job. -/
  | gessoStart (h : Half)
  /-- GESSO_ABORT (R423): GS_CMD ABORT withdraws a job's unfired events. -/
  | gessoAbort (h : Half) (job : Nat)
  /-- ER_CNT_CLR (R425): Writing 1 clears every counter on an ERASURE page. -/
  | erCntClr (h : Half)
  /-- FIFO_CYCLE (R431): A FIFO resolves one cycle's push and pop from its depth at the start. -/
  | fifoCycle (r : Nat) (qid : Nat) (c : FClk) (push : Option FPush) (pop : Bool) (e : FErr)
  /-- ARBITER_DECISION (R442): A free grant with requests makes a decision and ages losers. -/
  | arbiterDecision (r : Nat) (aid : Nat) (reqs : BitVec 8) (waits : List Nat)
  /-- ARBITER_PARKED_GRANT (R445): A parked owner asking alone takes the grant without a decision. -/
  | arbiterParkedGrant (r : Nat) (aid : Nat)
  /-- Q_FLUSH (R439): Writing Q_CFG.FLUSH empties a FIFO of a disabled owner. -/
  | qFlush (r : Nat) (qid : Nat) (path : Path)
  /-- Q_LEVEL_WRITE (R437): A write of Q_CFG.LEVEL arms or disarms the level event. -/
  | qLevelWrite (r : Nat) (qid : Nat) (v : Nat)
  /-- A_CFG_WRITE (R446): A write of A_CFG changes a requester's base or ceiling. -/
  | aCfgWrite (r : Nat) (aid : Nat) (q : Nat) (b : BitVec 4) (cl : BitVec 4)
  /-- Q_CNT_CLR (R450): Writing 1 clears the queue and arbiter counts of a page. -/
  | qCntClr (r : Nat)
  /-- STRIKE (R459): A strike reaches Lantern once its state is visible and goes to its route's targets. -/
  | strike
  /-- EVT_PEND_CLEAR (R458): A W1C write of EVT_PEND clears EVT_PEND and EVT_RAW bits. -/
  | evtPendClear (P : Nat) (mask : BitVec 64)
  /-- LAN_SUMMARY_CLEAR (R463): A W1C write of LAN_SUMMARY clears source bits. -/
  | lanSummaryClear (i : Nat) (mask : BitVec 64)
  /-- VECTOR_MOD_TIMER (R464): A COLLECTING vector's timer reaches MOD_US and it becomes DUE. -/
  | vectorModTimer (v : Nat)
  /-- VECTOR_SEND (R464): A DUE vector sends its MSI-X message when nothing holds it. -/
  | vectorSend (v : Nat)
  /-- MSIX_UNMASK (R465): Unmasking or enabling MSI-X releases held vectors. -/
  | msixUnmask (x : MsixHold)
  /-- HOST_SLEEP (R466): The function enters D3hot or the link enters L1. -/
  | hostSleep (d3 : Bool) (l1 : Bool) (pme : Bool)
  /-- HOST_RESUME (R466): The host resumes and held vectors send in ascending order. -/
  | hostResume (d0 : Bool) (l0 : Bool) (clear : Bool)
  /-- PME_REPEAT (R466): PM_PME is sent again every 100 ms while PME_Status is 1. -/
  | pmeRepeat
  /-- WAKE_TMO_EXPIRY (R466): WAKE_TMO passes without resumption and WAKE_OUT_N is asserted. -/
  | wakeTmoExpiry
  /-- FAB_GAP_EXPIRY (R468): The coalescing gap ends with strikes counted and a new message is queued. -/
  | fabGapExpiry (h : Half) (src : Nat)
  /-- FAB_EVT_SENT (R468): A queued event message's last flit leaves the fabric port. -/
  | fabEvtSent (id : Nat)
  /-- LAN_ROUTE_WRITE (R478): A write of LAN_ROUTE changes a source's route, clearing FAB_EN for an unregistered destination. -/
  | lanRouteWrite (src : Nat) (w : BitVec 64)
  /-- LAN_VEC_CFG_WRITE (R474): A write of MOD_CNT or MOD_US applies at once and may make a vector DUE. -/
  | lanVecCfgWrite (v : Nat) (w : BitVec 64)
  /-- LAN_CTRL_EN_WRITE (R474): A write of LAN_CTRL.EN lets strikes reach targets or holds them. -/
  | lanCtrlEnWrite (en : Bool)
  /-- LAN_CNT_CLR (R475): Writing 1 clears every LANTERN counter and every STRIKES. -/
  | lanCntClr
  /-- REG_WRITE (R493): A register write without a row of its own is judged field by field. -/
  | regWrite (P : Nat) (off : Nat) (part : Part) (v : BitVec 64) (path : Path)
  /-- RESULT_POP (R507): A read of RESULT_POP removes and returns one result word. -/
  | resultPop (q : Option Half) (path : Path)
  /-- RESULT_FLUSH (R507): Writing RESULT_CTRL.FLUSH empties a result queue. -/
  | resultFlush (q : Option Half)
  /-- ERRLOG_POP (R501): A read of ERRLOG_DATA pops the oldest page log entry. -/
  | errlogPop (P : Nat) (path : Path)
  /-- SHADOW_APPLY (R497): SHADOW_CMD.APPLY captures the page's shadow. -/
  | shadowApply (P : Nat) (path : Path)
  /-- SHADOW_DISCARD (R498): SHADOW_CMD.DISCARD returns the shadow to the values in force. -/
  | shadowDiscard (P : Nat)
  /-- SHADOW_BOUNDARY (R499): A captured shadow takes effect at its block's boundary. -/
  | shadowBoundary (P : Nat) (h : Half)
  /-- FLR (R483): A Function Level Reset returns the PCIe state and host pages to reset. -/
  | flr
  /-- PERST (R597): PERST_N resets the PCIe endpoint and retrains the link. -/
  | perst
  /-- PCIE_LINK_DOWN (R484): The PCIe link goes down and DUE vectors are held. -/
  | pcieLinkDown
  /-- PCIE_LINK_UP (R484): The PCIe link returns and held messages are sent. -/
  | pcieLinkUp (width : BitVec 4) (speed : BitVec 4)
  /-- BAR_UNSUPPORTED (R481): An unsupported PCIe request is completed UR or dropped and counted. -/
  | barUnsupported (x : BarBad) (off : BitVec 32)
  /-- DP_DATA_ACCESS (R510): An access to DP_DATA moves bytes at DP_ADDR and advances it. -/
  | dpDataAccess (wr : Bool) (wide : Bool) (v : BitVec 64)
  /-- BAR2_ACCESS (R514): A BAR2 access moves bytes through the data-port window. -/
  | bar2Access (wr : Bool) (off : Nat) (ben : List Bool) (data : List Byte)
  /-- DP_CLR (R515): Writing DP_CLR clears the data-port error state. -/
  | dpClr
  /-- GL_CNT_CLR (R503): Writing 1 clears CNT_CFG_REJECT. -/
  | glCntClr
  /-- HP_CNT_CLR (R504): Writing 1 clears every HOST counter. -/
  | hpCntClr
  /-- SMB_SET_OFFSET (R517): SMBus command 0x01 sets OFFSET. -/
  | smbSetOffset (w : BitVec 16)
  /-- SMB_READ64 (R517): SMBus command 0x02 returns the 64-bit register at OFFSET. -/
  | smbRead64
  /-- SMB_WRITE64 (R517): SMBus command 0x03 writes the 64-bit register at OFFSET. -/
  | smbWrite64 (v : BitVec 64)
  /-- SMB_READ32 (R517): SMBus command 0x04 returns a 32-bit half at OFFSET. -/
  | smbRead32
  /-- SMB_WRITE32 (R517): SMBus command 0x05 writes a 32-bit half at OFFSET. -/
  | smbWrite32 (v : BitVec 32)
  /-- SMB_READ_STATUS (R517): SMBus command 0x06 returns the status byte. -/
  | smbReadStatus
  /-- JTAG_EXTEST (R520): EXTEST takes the balls at Update-IR. -/
  | jtagExtest
  /-- JTAG_IDCODE (R518): IDCODE selects the identification register. -/
  | jtagIdcode
  /-- JTAG_SAMPLE_PRELOAD (R519): SAMPLE/PRELOAD captures the boundary without disturbing operation. -/
  | jtagSamplePreload (levels : List Bool) (load : List Bool)
  /-- JTAG_EXTEST_PULSE (R520): EXTEST_PULSE drives AC-coupled lane cells. -/
  | jtagExtestPulse
  /-- JTAG_EXTEST_TRAIN (R520): EXTEST_TRAIN drives AC-coupled lane cells with a train. -/
  | jtagExtestTrain
  /-- JTAG_CLAMP (R520): CLAMP holds the balls from the boundary register. -/
  | jtagClamp
  /-- JTAG_HIGHZ (R520): HIGHZ sets the balls high-impedance. -/
  | jtagHighz
  /-- JTAG_BYPASS (R519): BYPASS, or any unlisted opcode, selects the bypass register. -/
  | jtagBypass
  /-- JTAG_TRST (R597): TRST_N resets the TAP. -/
  | jtagTrst
  /-- PR_OPEN (R529): PR_CMD OPEN starts building a proposal. -/
  | prOpen (fm : Bool)
  /-- PR_APPEND (R528): PR_CMD APPEND adds the staged entry to the proposal. -/
  | prAppend (fm : Bool)
  /-- PR_SEAL (R530): PR_CMD SEAL checks the proposal, computes its digest and sets its deadline. -/
  | prSeal (fm : Bool)
  /-- PR_ABANDON (R529): PR_CMD ABANDON empties the proposal. -/
  | prAbandon (fm : Bool)
  /-- PR_CONFIRM_SP (R533): A write of PR_CONFIRM is SP's confirmation of the sealed proposal. -/
  | prConfirmSp (principal : BitVec 8) (ep : BitVec 32)
  /-- MGT_CONFIRM (R533): An MGT CONFIRM is the FM's confirmation of the sealed proposal. -/
  | mgtConfirm (n : Nat)
  /-- MGT_READ (R538): An MGT READ returns a BAR0 register to the fabric manager. -/
  | mgtRead (n : Nat)
  /-- MGT_WRITE (R538): An MGT WRITE writes a PROTECT page register. -/
  | mgtWrite (n : Nat)
  /-- PROPOSAL_EXPIRY (R535): A sealed proposal's deadline passes without commit. -/
  | proposalExpiry
  /-- EMERG_ASSERT (R539): EMERG_N held low for 1 ms counts as asserted. -/
  | emergAssert
  /-- EMERG_RELEASE (R539): EMERG_N held high for 1 ms counts as released and the stored mask clears. -/
  | emergRelease
  /-- PR_EMERG_WRITE (R539): A write of PR_EMERG stores the mask for OP 3. -/
  | prEmergWrite (v : BitVec 64) (path : Path)
  /-- EMERG_WINDOW_OFF (R539): Emergency OP 1 clears EN of one window. -/
  | emergWindowOff (target : BitVec 11) (path : Path)
  /-- EMERG_HALF_WINDOWS_OFF (R539): Emergency OP 2 clears EN of every window of a half. -/
  | emergHalfWindowsOff (target : BitVec 11) (path : Path)
  /-- EMERG_WREN_CLEAR (R539): Emergency OP 3 clears bits of the Atnen write-enable mask. -/
  | emergWrenClear (target : BitVec 11) (path : Path)
  /-- EMERG_PRIV_SRC_OFF (R539): Emergency OP 4 clears VALID of one PAL_PRIV_SRC entry. -/
  | emergPrivSrcOff (target : BitVec 11) (path : Path)
  /-- EMERG_INB_OFF (R539): Emergency OP 5 clears EN of one inbound entry. -/
  | emergInbOff (target : BitVec 11) (path : Path)
  /-- EMERG_KEY_RANGE_OFF (R539): Emergency OP 6 clears VALID of one key range entry. -/
  | emergKeyRangeOff (target : BitVec 11) (path : Path)
  /-- EMERG_ABANDON (R539): Emergency OP 7 abandons the proposal in any state. -/
  | emergAbandon (target : BitVec 11) (path : Path)
  /-- LEASE_RENEW (R542): Every 250 µs a half asks the Keeper to renew or grant its lease. -/
  | leaseRenew (h : Half) (reach : Bool)
  /-- LEASE_LAPSE (R543): A half's lease timer reaches 1 ms and it becomes secondary. -/
  | leaseLapse (h : Half)
  /-- PRIMACY_GRANT (R544): The Keeper grants the primacy token to an asking half. -/
  | primacyGrant (h : Half)
  /-- PREF_WAIT_EXPIRY (R544): The first grant's 5 ms wait for the preferred half ends. -/
  | prefWaitExpiry
  /-- KEEPER_TMO_EXPIRY (R545): Renewals unanswered for KEEPER_TMO make a half LOST. -/
  | keeperTmoExpiry (h : Half)
  /-- PRIMACY_RESTORE (R546): PRM_CMD RESTORE clears LOST and moves the token to the named half. -/
  | primacyRestore (h : Half) (reach : Bool)
  /-- RESTORE_WAIT_EXPIRY (R546): The named half does not reach the Keeper within 10 ms of a restore. -/
  | restoreWaitExpiry
  /-- PR_CNT_CLR (R549): Writing 1 clears every PROTECT counter. -/
  | prCntClr
  /-- PRM_CNT_CLR (R551): Writing 1 clears every PRIMACY counter. -/
  | prmCntClr
  /-- KEEPER_PASS (R557): Each millisecond the Keeper samples, filters and evaluates its rules. -/
  | keeperPass (x : KeeperSample)
  /-- KP_PWR_CMD (R563): A write of KP_PWR_CMD with GO moves the device towards a power state. -/
  | kpPwrCmd (target : BitVec 3) (path : Path)
  /-- DRAINED (R566): Every drain condition holds and the device enters QUIET or SLEEP. -/
  | drained
  /-- DRAIN_TIMEOUT (R566): DRAIN lasts DRAIN_TMO undrained and DRAIN_LATE is raised. -/
  | drainTimeout
  /-- WAKE_TIMER (R568): KP_TIME reaches KP_WAKE_TMR.AT and makes a wake request. -/
  | wakeTimer
  /-- KP_QUERY_SNAPSHOT (R561): KP_QUERY SNAPSHOT pushes the Keeper's input values. -/
  | kpQuerySnapshot (path : Path)
  /-- KP_LOG_POP (R560): A read of KP_LOG_POP pops one Keeper log word. -/
  | kpLogPop (path : Path)
  /-- KP_CNT_CLR (R573): Writing 1 clears every KEEPER counter. -/
  | kpCntClr
  /-- CAL_TEMP_CHECK (R581): Each millisecond a half marks ports whose temperature has moved by CAL_DELTA. -/
  | calTempCheck (h : Half)
  /-- CAL_RUN_START (R584): A calibration run starts steering a lane onto the spare, or is skipped. -/
  | calRunStart (h : Half) (i : Nat)
  /-- CAL_PATTERN_TIMEOUT (R588): No TRN pattern within 10 µs of SWAPPED aborts the run. -/
  | calPatternTimeout (h : Half) (i : Nat)
  /-- CAL_MEASURE_END (R586): Measurement ends and the new trims are applied between two words. -/
  | calMeasureEnd (h : Half) (i : Nat) (eye : Nat) (phase : BitVec 7) (voff : BitVec 6) (dfe1 : BitVec 6) (ctle : BitVec 5)
  /-- CAL_VERIFY_PASS (R587): 1,024 good TRN words after the step make the run succeed. -/
  | calVerifyPass (h : Half) (i : Nat)
  /-- CAL_VERIFY_TIMEOUT (R587): Verification fails within 20 µs and the old trims are restored. -/
  | calVerifyTimeout (h : Half) (i : Nat)
  /-- CAL_SWEEP (R591): CAL_CMD SWEEP marks the half's ACTIVE ports. -/
  | calSweep (h : Half)
  /-- CAL_RUN_CMD (R591): CAL_CMD RUN marks one lane. -/
  | calRunCmd (h : Half) (i : Nat) (k : Nat)
  /-- CAL_ABORT_CMD (R591): CAL_CMD ABORT ends every run and sweep of the half. -/
  | calAbortCmd (h : Half)
  /-- CAL_CLEAR_ABORTS (R591): CAL_CMD CLEAR_ABORTS resets a port's abort counts. -/
  | calClearAborts (h : Half) (i : Nat)
  /-- CAL_EN_WRITE (R593): A write of CAL_CTRL.EN enables calibration or ends runs. -/
  | calEnWrite (h : Half) (en : Bool)
  /-- CAL_CNT_CLR (R593): Writing 1 clears every CAL counter. -/
  | calCntClr (h : Half)
  /-- VDD_KEEP_UP (R600): VDD_KEEP comes into range and the Keeper boots. -/
  | vddKeepUp (p : StrapPins)
  /-- KEEPER_BOOT_DONE (R600): The Keeper answers on SMBus and drives MAIN_EN as the start mode asks. -/
  | keeperBootDone
  /-- SUPPLIES_IN_RANGE (R600): Every main supply is in range and step 2 ends when RESET_N is high. -/
  | suppliesInRange
  /-- SUPPLY_TIMEOUT (R602): A main supply is not in range within 100 ms of MAIN_EN. -/
  | supplyTimeout
  /-- RESET_N_RISE (R598): RESET_N rises and the halves leave reset once supplies are in range. -/
  | resetNRise
  /-- RESET_N_FALL (R601): RESET_N falls and both halves are reset as at a power loss. -/
  | resetNFall
  /-- SELF_TEST_DONE (R600): A half ends its self-test and loads its timebase and image. -/
  | selfTestDone (h : Half) (r : TestRes)
  /-- PRIMACY_STEP_TIMEOUT (R602): No grant within 10 ms ends step 4 NO_GRANT. -/
  | primacyStepTimeout
  /-- REPLAY_DONE (R383): A half's journal replay ends; when both have ended SVC is set. -/
  | replayDone (h : Half) (damaged : Bool)
  /-- PORT_WAIT_EXPIRY (R600): PORT_WAIT elapses and start-up step 6 ends. -/
  | portWaitExpiry (h : Half)
  /-- LIGHT_WAIT_EXPIRY (R600): LIGHT_WAIT elapses and start-up step 7 ends. -/
  | lightWaitExpiry (h : Half)
  /-- FABRIC_WAIT_EXPIRY (R600): FABRIC_WAIT elapses and start-up step 8 ends. -/
  | fabricWaitExpiry (h : Half)
  /-- RESUME_STEP (R600): With SVC set, the EN fields that ST_RESUME selects are set. -/
  | resumeStep (h : Half)
  /-- TB_FLOOR_SAVE (R604): Once per second the timebase is written into TB_FLOOR. -/
  | tbFloorSave
  /-- BROWN_OUT (R618): A main supply below brown-out for 1 µs resets both halves. -/
  | brownOut
  /-- BROWN_OUT_RECOVER (R618): A supply back in range within 4 ms releases the halves to restart. -/
  | brownOutRecover
  /-- VDD_KEEP_LOSS (R623): VDD_KEEP leaves its range and the Keeper stops. -/
  | vddKeepLoss
  /-- MAIN_SUPPLY_LOSS (R622): Main supplies are removed without MAIN_EN, a sudden power loss. -/
  | mainSupplyLoss
  /-- ST_CONTINUE (R605): ST_CMD CONTINUE lets a waiting step 5 run. -/
  | stContinue (pg : Half)
  /-- ST_RESTART (R605): ST_CMD RESTART resets both halves. -/
  | stRestart (pg : Half)
  /-- ST_HALF_RESET (R608): ST_CMD HALF_RESET resets one half while its twin runs. -/
  | stHalfReset (pg : Half) (h : Half)
  /-- ST_SINGLE (R606): ST_CMD SINGLE holds the twin in reset and lets the named half run alone. -/
  | stSingle (pg : Half) (h : Half)
  /-- ST_ACCEPT_LOSS (R605): ST_CMD ACCEPT_LOSS replays up to the damage and continues. -/
  | stAcceptLoss (pg : Half) (h : Half)
  /-- ST_KEEPER_RESTART (R609): ST_CMD KEEPER_RESTART reboots the Keeper. -/
  | stKeeperRestart (pg : Half) (p : StrapPins)
  /-- ST_BOOTLOG (R611): ST_CMD BOOTLOG pushes the Keeper's boot journal. -/
  | stBootlog (pg : Half)
  /-- ST_CNT_CLR (R613): Writing 1 clears every MGMT start-up counter. -/
  | stCntClr (h : Half)
  /-- TB_NOW_LOW_READ (R231): A 32-bit read of TB_NOW's low half returns it and latches the high half for the next 32-bit read. -/
  | tbNowLowRead (path : Path)
  /-- STEER_MATCH (R103): After 256 consecutive equal words on physical k and the spare, the device switches the lane's source at a word boundary and sends SWAPPED or RELEASE. -/
  | steerMatch (n : Nat)
  /-- STEER_PARITY_ERROR (R104): A parity error on the spare, or on physical k during steering, aborts steering without taking the port DOWN. -/
  | steerParityError (n : Nat)
  /-- SPAN_DOWN (R547): The die-to-die span is lost while the halves run, so XSTEPs cannot complete and compaction pauses. -/
  | spanDown
  /-- SPAN_UP (R278): The span returns, XSTEPs can complete again and name compaction resumes from where it stopped. -/
  | spanUp
  /-- GRANT_PARK (R445): A holder's burst ends while no requester asks, and the grant parks with its last owner. -/
  | grantPark (r : Nat) (aid : Nat)
  /-- MSIX_MASK (R465): The host masks a vector or the function, or clears MSI-X Enable or Bus Master Enable, so later DUE vectors are held and strikes may be discarded. -/
  | msixMask (x : MsixHold)
deriving DecidableEq, Repr

end Sys2Proof
end

