-- ==== Sys2Proof/Decode.lean ====
section
/-!
DEFINITION. The command that a word spells. The table of operations gives no row any bits: a command is an access, a packet
or an event, not a word, so no word spells one.
-/
namespace Sys2Proof

/-- The command of a word of the table's bits: none, for no row of the table has bits. -/
def decodeTableWord (_nbits _w : Nat) : Option Instr := none

end Sys2Proof
end

