-- ==== Sys2Proof/Config.lean ====
section
/-!
DEFINITION. What the spec leaves open and the model keeps open: opaque constants, of which nothing can be proved.
-/
namespace Sys2Proof.Config

/-- Whether a quotient that is not whole is rounded up, where the spec divides and does not say how (R208, R213). -/
opaque roundUp : Int → Int → Bool

/-- A quotient by zero, where a descriptor or an estimate of zero makes the spec's formula divide by it. -/
opaque quotZero : Int → Int

/-- Where in a unit's 16 MiB buffer a transfer with that VTAG stands, in units of 1 MiB; only its value modulo 16
counts (R122 gives the field, no rule the choice). -/
opaque bufSlot : Nat → Nat

/-- Whether the far side of a dual-clock FIFO sees a change after 3 of its cycles and not after 2, for each change
(R435 allows both). -/
opaque syncThree : Nat → Bool

/-- Where within 2 ns of the timebase a PPS edge is captured (R201); only its value modulo 5 counts. -/
opaque ppsJitter : Nat → Nat

/-- Which whole second is nearest to a capture half a second from both (R201). -/
opaque ppsTie : Nat → Bool

/-- How many records more than one, and how many lines, a journalled step takes (R379, R380 leave the payload open). -/
opaque jrnlShape : Nat → Nat × Nat

/-- The trims that TRAIN sets (R581): for a port, a lane and a trim, at each draw. -/
opaque trainTrim : Nat → Nat → Nat → Nat → Nat

/-- Line writes that a journalled step makes to each stack of a half, in the journal and in the tables (R379, R393). -/
opaque stepLines : Nat → Nat → Nat

/-- What a line of Easel reads as whose layout the spec does not give: byte at an address, at each draw (R367, R368,
R380). -/
opaque easelByte : Nat → Nat → BitVec 8

/-- What MEMBER, K, M and PANEL of a BLANK or LABEL seal hold (R405 gives them no value there); only its value modulo
2^17 counts. -/
opaque blankFields : Nat → Nat

/-- A value that the spec does not state, at each draw. -/
opaque freeNat : Nat → Nat

/-- Rodevar's manufacturer identity in IDCODE, 11 bits, as the BSDL file gives it (R518). -/
opaque jtagMfr : Nat

/-- The silicon revision in BLK_ID, 8 bits (R490). -/
opaque siliconRev : Nat

/-- The device's serial number, 64 bits (R503). -/
opaque serial : Nat

end Sys2Proof.Config
end

