-- ==== Sys2Proof/Machine/State.lean ====
section
/-!
DEFINITION. The state of the K-1664, as plain data, the reasons a command can stop, and the state at reset. Register
fields are kept in one sparse store of fields; what the spec gives the units beside their registers is kept in the
structures below, one for each unit. Each field's comment names its width, the chapter and rule that gives it, and its
reset value.
-/
namespace Sys2Proof.Machine

/-- A sparse table: entries in rising order of their numbers, entries equal to the default left out. -/
abbrev Table (α : Type) := List (Nat × α)

/-- Reasons a command can stop the machine. -/
inductive Fault where
  /-- an access to an Easel address outside the eight stacks; no command raises it, since every access that a command
  makes is to a place the spec gives, or fails as a rule says (R361, R513); safe -/
  | easelHole (addr : Nat)
deriving DecidableEq, Repr

/-- Reasons a command can be refused. -/
inductive Refusal where
  /-- the command of that mnemonic has no meaning; no command raises it, since every one has its meaning; safe -/
  | notModelled (mnemonic : String)
deriving DecidableEq, Repr

/-- Access types of register fields (R12). -/
inductive Acc where
  | ro
  | rw
  | wo
  | w1c
  | w1s
  | rpop
deriving DecidableEq, Repr

/-- Classes of writable fields (R14); `plain` stands for a field that no write reaches. -/
inductive FCls where
  | live
  | staged
  | stopped
  | guarded
  | plain
deriving DecidableEq, Repr

/-- A register field: byte offset in its page, lowest bit, width, access type, class, reset value, how many registers
of 8 bytes the array has, and whether it belongs to a select-and-view register (one value for each record). -/
structure Fld where
  off : Nat
  lo : Nat
  w : Nat
  acc : Acc
  cls : FCls
  rst : Nat
  n : Nat
  view : Bool
deriving DecidableEq, Repr

/-- The place of one field value: page number P (R485), byte offset, lowest bit, and the record selected (0 where the
register has no selector). -/
structure RKey where
  page : Nat
  off : Nat
  lo : Nat
  idx : Nat
deriving DecidableEq, Repr

/-- The field store: only values that differ from their reset values are listed, in the order of their places. -/
abbrev RTable := List (RKey × Nat)

/-- A pair of the two halves' values. -/
structure PerHalf (α : Type) where
  west : α
  east : α
deriving DecidableEq, Repr

/-- A strike on its way to Lantern (R456): its source, the half on which it arose, the timebase then, and the packets
whose flits must be acknowledged before it is sent (R459). -/
structure Strike where
  src : Nat
  half : Half
  time : Nat
  needs : List Nat
deriving DecidableEq, Repr

/-- One word of a result queue (R505-R508): payload, sequence number, and what RESULT_INFO shows of it. -/
structure ResWord where
  payload : Nat
  seq : Nat
  header : Bool
  kind : Nat
  index : Nat
  count : Nat
deriving DecidableEq, Repr

/-- A result queue (R505, R506): words held, next sequence number to give, words lost. -/
structure ResQ where
  words : List ResWord := []
  nextSeq : Nat := 0
  lost : Nat := 0
deriving DecidableEq, Repr

/-- A page log (R501): the unread refusals, oldest first, with their sequence numbers. -/
structure PageLog where
  entries : List (Nat × Nat) := []
  seq : Nat := 0
deriving DecidableEq, Repr

/-- A fabric packet (R68, R69): the four header words' fields and the payload. Words 1 to 3 are kept whole. -/
structure Packet where
  type : Nat
  ord : Bool
  salv : Bool
  src : Nat
  dst : Nat
  len : Nat
  w1 : Nat
  w2 : Nat
  w3 : Nat
  payload : List Byte
deriving DecidableEq, Repr

/-- A packet that the device has built: its running number, the half that built it, the packet. -/
structure QPkt where
  id : Nat
  half : Half
  pkt : Packet
deriving DecidableEq, Repr

/-- What leaves the device, as its surroundings see it. -/
inductive Out where
  /-- a flit on fabric port `port` -/
  | flit (port seq : Nat) (bytes : List Byte)
  /-- words on Atnen port `port`, in order: C and D of each -/
  | atn (port : Nat) (words : List (Bool × Nat))
  /-- an MSI-X message on vector `vec` -/
  | msix (vec : Nat)
  /-- a PM_PME message -/
  | pme
  /-- a value answered to a reader (path 0 PCIe, 1 MGT, 2 SMBus; 4 what the TAP's selected register captured) -/
  | answer (path : Nat) (value : Nat)
  /-- bytes answered to a data-port or BAR2 reader -/
  | bytes (data : List Byte)
  /-- an unsupported request completion, or a refused access -/
  | unsupported
  /-- a NACK on SMBus -/
  | nack
  /-- a level driven on a named output pin -/
  | pin (name : String) (level : Bool)
deriving DecidableEq, Repr

/-- A sent flit held for replay (R44): its SEQ, the packet it belongs to and its 128 bytes. -/
structure HeldFlit where
  seq : Nat
  pid : Nat
  bytes : List Byte
deriving DecidableEq, Repr

/-- A flit accepted into a receive buffer (R46, R55): its place in the port's arrival order, HEAD, TAIL and the 120
content bytes. -/
structure RxFlit where
  arr : Nat
  head : Bool
  tail : Bool
  data : List Byte
deriving DecidableEq, Repr

/-- What an FIU holds beside its registers. -/
structure FiuPort where
  /-- TX_NEXT, 12 bits; 02 R44, R87; reset 0 -/
  txNext : Nat := 0
  /-- EXPECT, 12 bits; 02 R46; reset 0 -/
  expect : Nat := 0
  /-- gap state, 1 bit; 02 R47; reset 0 -/
  gap : Bool := false
  /-- replay buffer, up to 1,536 flits; 02 R44, R50; reset empty -/
  held : List HeldFlit := []
  /-- packets with flits in the replay buffer, in the order sent; 02 R62; reset empty -/
  sent : List QPkt := []
  /-- ACK_SEQ of the NAK last answered by a replay, with the time its replay ended; 02 R48; reset none -/
  lastNak : Option (Nat × Nat) := none
  /-- oldest held SEQ at the start of the previous replay; 02 R49; reset none -/
  prevOldest : Option Nat := none
  /-- consecutive replays without progress; 02 R49; reset 0 -/
  noProg : Nat := 0
  /-- latest CRD_CUM for each VC, 11 bits; 02 R53; reset 0 -/
  crdCum : List (Nat × Nat) := []
  /-- consumed count for each VC, 11 bits; 02 R53; reset 0 -/
  consumed : List (Nat × Nat) := []
  /-- returned count for each VC, 11 bits; 02 R53; reset 0 (the pool at INIT) -/
  returned : List (Nat × Nat) := []
  /-- receive buffer of each VC; 02 R52, R55; reset empty -/
  vcbuf : List (Nat × List RxFlit) := []
  /-- place of the next packet in the port's arrival order; 02 R77; reset 0 -/
  arrNext : Nat := 0
  /-- transmit queue of each VC; 02 R67; reset empty -/
  txq : List (Nat × List QPkt) := []
  /-- VC whose granted packet waits for replay room or credit; 02 R50; reset none -/
  grant : Option Nat := none
  /-- consecutive uncorrectable codewords; 02 R58; reset 0 -/
  uncorrRun : Nat := 0
  /-- CW_NUM expected next, 8 bits; 02 R41, R58; reset none -/
  cwNext : Option Nat := none
  /-- consecutive consistent correctable codewords in alignment; 02 R58; reset 0 -/
  alignRun : Nat := 0
  /-- RECOVER attempts begun; 02 R58; reset 0 -/
  attempts : Nat := 0
  /-- alignment of a RECOVER reached, EXPECT exchange in progress; 02 R61; reset 0 -/
  resume : Bool := false
  /-- LPI asked for by the power manager, 1 bit; 02 R64, 17 R567; reset 0 -/
  pmLpi : Bool := false
  /-- consecutive codewords with LPI set in both directions; 02 R64; reset 0 -/
  lpiRun : Nat := 0
  /-- slot 0 content of the last CTL codeword, three words; 02 R60, R61; reset 0 -/
  ctl : Nat × Nat × Nat := (0, 0, 0)
  /-- consecutive CTL codewords with that content; 02 R60, R61; reset 0 -/
  ctlRun : Nat := 0
  /-- ACKED sent, ACKED received; 02 R60; reset 0 -/
  ackedTx : Bool := false
  ackedRx : Bool := false
deriving DecidableEq, Repr

/-- A change of a half's eligible set (R82): the set before, the set after, the destinations whose FLOW_SETTLE has
elapsed since. -/
structure PinChange where
  old : List Nat
  new : List Nat
  released : List Nat
deriving DecidableEq, Repr

/-- What a half's egress choice holds. -/
structure Egress where
  /-- rotating start of the adaptive choice; 02 R80; reset 0 -/
  rr : Nat := 0
  /-- changes of the eligible set that still hold destinations; 02 R82; reset empty -/
  changes : List PinChange := []
  /-- packets waiting for an eligible port or for the end of a hold; 02 R79, R82; reset empty -/
  waiting : List QPkt := []
  /-- an empty period in which a packet has waited; 02 R79; reset 0 -/
  noEgr : Bool := false
deriving DecidableEq, Repr

/-- Who issued a read tag (R75, R78, R292, R344): Dikar operation `op`, a member of a collective among them, pulls the
bytes at `off` of its client buffer. -/
inductive TagOwner where
  | pull (op off : Nat)
deriving DecidableEq, Repr

/-- A read tag (R78): free, outstanding with the bytes asked for, or quarantined. -/
inductive TagSt where
  | free
  | out (len : Nat) (owner : TagOwner)
  | quar
deriving DecidableEq, Repr

/-- Whose Atnen transaction this is (R123, R141, R180, R217, R224, R512): what its completion, failure or answer goes
back to. -/
inductive TxnOwner where
  /-- part `part` of bridge access `id` of half `h` -/
  | acc (h : Half) (id part : Nat)
  /-- the UNLOCK_WR that closes the locked sequence of access `id` -/
  | unlock (h : Half) (id : Nat)
  /-- the header read of station `stn` -/
  | hdr (stn : Nat)
  /-- the descriptor read of unit `unit` of station `stn` -/
  | desc (stn unit : Nat)
  /-- part `part` of data-port access `id` -/
  | dp (id part : Nat)
  /-- a data or seal burst of the scheduled transfer with that VTAG -/
  | evData (h : Half) (vtag : Nat)
  /-- the unit command of the scheduled transfer with that VTAG -/
  | evCmd (h : Half) (vtag : Nat)
  /-- the read at byte `off` of the unit buffer (`sb` 0) or the seal buffer (1) after a VERIFY PASS -/
  | evBuf (h : Half) (vtag sb off : Nat)
  /-- a burst of a chunk of a tape stream; the first and the last of the chunk are marked -/
  | chunk (h : Half) (stream : Nat) (first last : Bool)
  /-- a seal burst of a stream's block -/
  | tapeSeal (h : Half) (stream : Nat)
  /-- the TAPE_WRITE of a stream's block -/
  | tapeCmd (h : Half) (stream vtag : Nat)
  /-- a burst that goes before a unit command outside the scheduler -/
  | unitData (h : Half) (vtag : Nat)
  /-- a unit command outside the scheduler -/
  | unitCmd (h : Half) (vtag : Nat)
deriving DecidableEq, Repr

/-- An Atnen transaction (R109, R110): TYPE, station, words, byte enables, address, the bytes it writes in station
order, its owner. -/
structure Txn where
  ty : Nat
  stn : Nat
  words : Nat
  be : Nat
  addr : Nat
  data : List Byte
  own : TxnOwner
deriving DecidableEq, Repr

/-- A read outstanding on a port (R113): station, transaction number, words asked for, owner, whether it is the
LOCK_RD of the open lock. -/
structure RdOut where
  stn : Nat
  tn : Nat
  words : Nat
  own : TxnOwner
deriving DecidableEq, Repr

/-- A unit descriptor (R107). -/
structure UnitDesc where
  kind : Nat := 0
  depth : Nat := 0
  period : Nat := 0
  extent : Nat := 0
  geometry : Nat := 0
  slotBytes : Nat := 0
  leadNs : Nat := 0
  spinDw : Nat := 0
deriving DecidableEq, Repr

/-- A numbered station of a port (R106-R108). -/
structure Station where
  /-- header read with a good answer; 03 R106; reset 0 -/
  seen : Bool := false
  /-- 0xFF while unusable, else STN_KIND's kind; 03 R107; reset 0xFF -/
  kind : Nat := 255
  /-- serial number, 64 bits; 03 R106; reset 0 -/
  serial : Nat := 0
  /-- unit count, 0-96; 03 R106; reset 0 -/
  units : Nat := 0
  /-- unit descriptors; 03 R107; reset empty -/
  descs : List (Nat × UnitDesc) := []
  /-- header or descriptor reads not yet answered; 03 R105; reset 0 -/
  pend : Nat := 0
deriving DecidableEq, Repr

/-- An open locked sequence of a port (R115, R180). -/
structure LockSt where
  half : Half
  acc : Nat
  stn : Nat
  tn : Nat
  opened : Nat
  unlock : Option Txn
deriving DecidableEq, Repr

/-- An INT word waiting for its station's earlier writes (R117, R191): the packets that must be acknowledged first. -/
structure IntWait where
  word : Nat
  stn : Nat
  time : Nat
  needs : List Nat
deriving DecidableEq, Repr

/-- What an APU holds beside its registers. -/
structure ApuPort where
  /-- for each physical lane, consecutive good TRN words with TRN_CNT rising, and the last TRN_CNT; 03 R98; reset 0 -/
  trn : List (Nat × Nat × Nat) := []
  /-- READY=1 words sent and received; 03 R98; reset 0 -/
  readyTx : Nat := 0
  readyRx : Nat := 0
  /-- BAD_LANE reported by the station, 4 bits; 03 R98; reset 0xF -/
  badLaneRx : Nat := 15
  /-- the station has answered the MIRROR or RESTORE in force; 03 R103; reset 0 -/
  steerAns : Bool := false
  /-- numbered stations; 03 R105-R108; reset empty -/
  stations : List (Nat × Station) := []
  /-- serials of the port's previous enumeration; 03 R108; reset empty -/
  prevSerials : List Nat := []
  /-- ENUM_END has arrived in this ENUM; 03 R105; reset 0 -/
  enumEnd : Bool := false
  /-- last transaction number used for each station, 6 bits; 03 R113; reset 63 -/
  lastTn : List (Nat × Nat) := []
  /-- reads outstanding; 03 R113; reset empty -/
  reads : List RdOut := []
  /-- transaction numbers in quarantine (station, number); 03 R113; reset empty -/
  quar : List (Nat × Nat) := []
  /-- class queues of tape feed, scheduled media and management; 03 R123; reset empty -/
  tape : List Txn := []
  media : List Txn := []
  mgmt : List Txn := []
  /-- open locked sequence; 03 R115, 05 R180; reset none -/
  lock : Option LockSt := none
  /-- INT words waiting for release; 03 R117, 05 R191; reset empty -/
  ints : List IntWait := []
  /-- received words not taken while an INT waits for the event queue; 14 R472; reset empty -/
  rxHeld : List LaneWord := []
  /-- packets sent for each station's writes that the link neighbour has not acknowledged; 05 R191; reset empty -/
  inbPids : List (Nat × Nat) := []
deriving DecidableEq, Repr

/-- What a window gives an access when it is matched (R133, R139). `elem` is the element's size in bytes under DI, 0
under AI. -/
structure Win where
  idx : Nat
  base : Nat
  port : Nat
  stn : Nat
  tgt : Nat
  sopwe : Bool
  errRep : Bool
  lockMode : Nat
  fixed : Bool
  elem : Nat
deriving DecidableEq, Repr

/-- How far a part of an access has come: not issued, sent (and, for a read, outstanding), answered, failed, never to
be sent. -/
inductive PartSt where
  | idle
  | sent
  | done
  | failed
  | skipped
deriving DecidableEq, Repr

/-- A part of an access: one Atnen transaction, or the read of a read-modify-write with the bytes to merge, which its
answer turns into the write-back (R141-R144, R149, R153). -/
structure APart where
  /-- TYPE of the transaction (R110) -/
  ty : Nat
  addr : Nat
  words : Nat
  be : Nat
  /-- bytes to write, or the bytes read -/
  data : List Byte
  /-- bytes of a read-modify-write to merge: offset in the words read, byte -/
  rmw : List (Nat × Byte) := []
  isRmw : Bool := false
  st : PartSt := .idle
deriving DecidableEq, Repr

/-- How an access's tracker entry stands (R173). -/
inductive TrkSt where
  | none
  | opened
  | failed
deriving DecidableEq, Repr

/-- A bridge access that the Crossing Unit holds (R161, R166, R173). -/
structure Access where
  id : Nat
  pkt : Packet
  win : Win
  /-- offset of the access's first byte in the window -/
  o0 : Nat
  size : Nat
  parts : List APart
  /-- receive-buffer slots whose credit is returned when the access joins: fabric port, VC, flits; 05 R166, R173 -/
  slots : Nat × Nat × Nat
  /-- tracker entry; 05 R173 -/
  trk : TrkSt := .none
  /-- semaphore granules held; 05 R186 -/
  sems : List Nat := []
  /-- first failure code; 05 R166, R172 -/
  fail : Option Nat := none
  /-- the client has been answered, or needs no answer; 05 R165, R168 -/
  answered : Bool := false
  /-- WR_HOLD runs since this time; 05 R173 -/
  holdFrom : Option Nat := none
  /-- old value read by an atomic; 05 R180 -/
  oldVal : List Byte := []
  /-- timebase when the Palette accepted it; 05 R177 -/
  time : Nat := 0
deriving DecidableEq, Repr

/-- What a half's Crossing Unit holds beside its registers. -/
structure Cross where
  /-- accesses in the order in which they joined the queues: posted and non-posted queues, read records, tracker; 05 R161, R166, R173; reset empty -/
  accs : List Access := []
  /-- accesses waiting for a tracker entry or a read record, in arrival order; 05 R166, R173; reset empty -/
  wait : List Access := []
  /-- a period in which accesses wait for the tracker; 05 R173; reset 0 -/
  trkFull : Bool := false
  /-- posted-write error log, 4,096 entries of four words; 05 R178; reset empty -/
  pwLog : List (Nat × List Nat) := []
  /-- far-error log, 1,024 entries of four words; 05 R178; reset empty -/
  farLog : List (Nat × List Nat) := []
  /-- number of the next access; the model's own; reset DESIGN CHOICE 0 -/
  next : Nat := 0
deriving DecidableEq, Repr

/-- What a light holds beside its registers (R208, R209, R213, R218, R222). -/
structure Light where
  /-- bound to a unit, 1 bit; 03 R108, 06 R206; reset 0 -/
  bound : Bool := false
  /-- T_REF in 2^-16 ns; 06 R208; reset 0 -/
  tref : Int := 0
  /-- PERIOD in 2^-16 ns; 06 R208; reset 0 -/
  period : Int := 0
  /-- REF_COUNT, or B_REF of a tape light, before it is cut to 32 bits; 06 R208, R213; reset 0 -/
  refCount : Int := 0
  /-- serial of the station that the light is bound to; 03 R108; reset 0 -/
  serial : Nat := 0
  /-- the descriptor of the bound unit; 03 R107; reset as a blank descriptor -/
  desc : UnitDesc := {}
  /-- station reachable, 1 bit; 03 R99, 06 R207; reset 0 -/
  reach : Bool := false
  /-- the unit is present in its station's last enumeration; 03 R108, 06 R211; reset 0 -/
  present : Bool := false
  /-- last UNIT_STATE DETAIL; 03 R121; reset 1 (STOPPED) -/
  unitState : Nat := 1
  /-- first index of an acquisition, or the first TAPE_POS taken; 06 R208, R213; reset none -/
  first : Option Nat := none
  /-- consecutive rejected jumps; 06 R208; reset 0 -/
  jumps : Nat := 0
  /-- TS last accepted, 64 bits; 06 R205; reset none -/
  lastTs : Option Nat := none
  /-- TS of the last accepted INDEX or TAPE_POS, 64 bits; 06 R207; reset 0 -/
  lastIndex : Nat := 0
  /-- highest TACH VALUE since the last index; 06 R209; reset none -/
  tachMax : Option Nat := none
  /-- the figure that the previous revolution gave; 06 R209; reset none -/
  tachPrev : Option Nat := none
  /-- consecutive PASS results since HEALTH left GOOD; 06 R222; reset 0 -/
  passRun : Nat := 0
  /-- time since which the light has held no pending event and no read; 07 R247; reset 0 -/
  idleSince : Nat := 0
deriving DecidableEq, Repr

/-- Whose a scheduled transfer is (R214): the write of a member of a stripe or of a repair, a read of a plan, a scrub
read, a Gesso track's run or its check read. -/
inductive EvOwner where
  | stripe (stripe member : Nat)
  | plan (plan part : Nat)
  | scrub (light : Nat)
  | gesso (job unit : Nat)
  | gessoRd (job unit : Nat)
deriving DecidableEq, Repr

/-- How far a scheduled event has come (R215-R217): held or not yet fixed, fixed, fired, its first word granted, its
command sent, its buffer being read. -/
inductive EvSt where
  | held
  | fixed
  | fired
  | granted
  | verify
  | readback
deriving DecidableEq, Repr

/-- A scheduled event (R214). -/
structure Event where
  id : Nat
  light : Nat
  /-- 1 WRITE_SLOT, 2 READ_SLOT, 6 TAPE_READ (R122, R214) -/
  op : Nat
  track : Nat
  slot : Nat
  count : Nat
  /-- Easel address of each 64 KiB written or read; none where zeros are written -/
  panels : List (Option Nat)
  /-- the seals written or read back, 256 bytes for each 64 KiB (R405, R407) -/
  seals : List Byte
  owner : EvOwner
  st : EvSt := .held
  /-- target revolution N; 06 R216 -/
  rev : Int := 0
  /-- lead angle λ; 06 R215 -/
  lam : Nat := 0
  /-- slack in force at insertion; 06 R210 -/
  slack : Nat := 0
  /-- first word granted by its deadline; 06 R218 -/
  onTime : Bool := true
  /-- VTAG of the attempt; 06 R217 -/
  vtag : Nat := 0
  /-- when the command's last word was sent; 06 R221 -/
  sentAt : Nat := 0
  /-- bursts of the buffer read not yet answered; 06 R217, 12 R408 -/
  left : Nat := 0
  /-- what has been read for a read without an Easel place: scrub and Gesso; 12 R412 -/
  buf : List Byte := []
deriving DecidableEq, Repr

/-- How a scheduled transfer ends for its owner (R220, R221). -/
inductive EvOut where
  | pass
  | failed
  | handed (cause : Nat)
deriving DecidableEq, Repr

/-- A unit command outside the scheduler, without VERIFY yet: SPIN_UP 3, SPIN_DOWN 4, TAPE_STOP 7, LOCATE 8, and the
TAPE_WRITE 5 of a Gesso label (R122). -/
structure UnitCmd where
  light : Nat
  op : Nat
  vtag : Nat
  /-- the Gesso job and unit, or the stream, that sent it -/
  job : Option (Nat × Nat)
  sentAt : Nat
deriving DecidableEq, Repr

/-- A tape panel that a stream has to write (R225, R259): its place in the stream's order, the stripe, the member, and
the panel's index in the member. -/
structure TapeSrc where
  ord : Nat
  stripe : Nat
  member : Nat
  idx : Nat
  /-- Easel address of each of its sixteen 64 KiB (R373) -/
  pages : List (Option Nat)
  /-- its seal, 4,096 bytes (R405) -/
  seals : List Byte
deriving DecidableEq, Repr

/-- A block of a tape stream's FIFO: its place in the stream's order, the tape block it was last sent to, whether its
sending has begun, whether its rewind mark is set and valid, how many of its chunks are in the unit buffer, its
command's VTAG once sent (R225, R226). -/
structure TapeBlk where
  ord : Nat
  blk : Nat
  sent : Bool
  mark : Bool
  chunks : Nat
  vtag : Option Nat
  sentAt : Nat
deriving DecidableEq, Repr

/-- A tape stream (R223-R228). STATE codes as SCH_STR_VIEW[0]. -/
structure Stream where
  open_ : Bool := false
  state : Nat := 0
  light : Nat := 0
  /-- the FIFO's place in the Easel stream region; 11 R371 -/
  fifo : Nat := 0
  fifoLog2 : Nat := 0
  /-- R in bytes per second; 06 R223 -/
  res : Nat := 0
  /-- credit in bytes and the time to which it has been counted; 06 R224 -/
  credit : Nat := 0
  creditAt : Nat := 0
  /-- blocks in the FIFO, oldest first: sent and unverified, then unsent; 06 R225 -/
  blocks : List TapeBlk := []
  /-- panels of the stream not verified, in the stream's order; 06 R225, 07 R259 -/
  srcs : List TapeSrc := []
  /-- unverified blocks whose space in the FIFO was overwritten, with the tape block each was sent to and its VTAG;
  06 R226 -/
  lapped : List TapeBlk := []
  /-- place in the stream's order of the next block to fill, and of the next panel to append -/
  fillOrd : Nat := 0
  appOrd : Nat := 0
  /-- tape block after the last block verified in order; 06 R227 -/
  verBlk : Nat := 0
  /-- tape block of the next TAPE_WRITE; 06 R233 -/
  nextBlock : Nat := 0
  marksLost : Nat := 0
  /-- a chunk waits for or is in the tape-feed class; 06 R224 -/
  offered : Bool := false
  /-- the end of the stream is asked for; 07 R259 -/
  closing : Bool := false
  /-- since when no data has come; 07 R259 -/
  idleSince : Nat := 0
deriving DecidableEq, Repr

/-- A beacon subscription's record slot (R229, R230). -/
structure SubSlot where
  count : Nat := 0
  seq : Nat := 0
  written : Bool := false
  kind : Nat := 0
  state : Nat := 0
  ts : Nat := 0
  value : Nat := 0
  period : Nat := 0
deriving DecidableEq, Repr

/-- What a half's Angle Scheduler holds beside its registers. -/
structure Sched where
  /-- pending events, in order of insertion, up to 262,144; 06 R214; reset empty -/
  events : List Event := []
  /-- inserters waiting for room; 06 R214; reset empty -/
  wait : List Event := []
  /-- unit commands without VERIFY; 03 R122; reset empty -/
  cmds : List UnitCmd := []
  /-- next event number and next VTAG; 06 R217; reset 0 -/
  nextId : Nat := 0
  nextVtag : Nat := 0
  /-- tape streams, 256; 06 R223; reset closed -/
  streams : List (Nat × Stream) := []
  /-- subscription slots, 1,024; 06 R229; reset empty -/
  subs : List (Nat × SubSlot) := []
deriving DecidableEq, Repr

/-- What one unit tells another within a step: an Atnen read's answer, a transaction that was sent or lost, a
scheduled transfer's end, a unit command's end, a tape panel's end, a read tag's end, a light's change. -/
inductive Mail where
  | rdDone (own : TxnOwner) (port : Nat) (data : List Byte)
  | rdFail (own : TxnOwner) (port : Nat) (code : Nat)
  | sent (own : TxnOwner) (port : Nat)
  | lost (own : TxnOwner) (port : Nat) (code : Nat)
  | evDone (h : Half) (ev : Event) (out : EvOut)
  | cmdDone (h : Half) (c : UnitCmd) (result : Nat)
  | tapeDone (h : Half) (stream : Nat) (src : TapeSrc) (blk : Nat)
  | streamEnd (h : Half) (stream : Nat) (light : Nat) (srcs : List TapeSrc)
  | tagDone (h : Half) (owner : TagOwner) (data : Option (List Byte)) (code : Nat)
  | lightLit (light : Nat)
  | lightFault (light : Nat)
  | lightIdle (light : Nat)
  | wakeReq (cause : Nat)
  | portLeft (port : Nat)
  | steer (port what : Nat)
  | lightBound (light : Nat)
  | portUp (port : Nat)
  | trained (port : Nat)
  | repairMore (h : Half) (stripe : Nat)
  | lightAbsent (light : Nat)
deriving DecidableEq, Repr

/-- An entry of the name table that is not EMPTY (R277). -/
structure NameEnt where
  name : Nat := 0
  objId : Nat := 0
  size : Nat := 0
  gen : Nat := 0
  group : Nat := 255
  /-- TOMB; otherwise LIVE -/
  tomb : Bool := false
  creator : Nat := 0
  created : Nat := 0
  modified : Nat := 0
  /-- an entry is listed -/
  used : Bool := false
deriving DecidableEq, Repr

/-- A map entry: one member of one committed stripe (R253). -/
structure MapEnt where
  obj : Nat
  stripe : Nat
  member : Nat
  k : Nat
  m : Nat
  /-- s - 1 -/
  strip : Nat
  group : Nat
  /-- LOST; otherwise LIVE -/
  lost : Bool := false
  light : Nat
  /-- 1 disc, 2 tape -/
  kind : Nat
  track : Nat
  slot : Nat
  /-- commit generation, 32 bits -/
  gen : Nat
deriving DecidableEq, Repr

/-- A page of a write: the 64 KiB of the object that it holds, where it lies, and whether the stripe that holds these
bytes has been committed, superseded, withdrawn or abandoned (R373, R375). -/
structure WPg where
  panel : Nat
  half : Half
  page : Nat
  settled : Bool := false
deriving DecidableEq, Repr

/-- A write from its admission until its last page is released (R283-R286, R347, R373-R375). -/
structure Write where
  id : Nat
  obj : Nat
  home : Half
  /-- ranges: offset and length -/
  ranges : List (Nat × Nat)
  pages : List WPg := []
  /-- place in the order of effect; 0 before it takes effect -/
  ord : Nat := 0
  /-- its pages lie on the object's home half and its stripes have been built; 08 R284 -/
  built : Bool := false
  /-- the requests it carries out: operation and context; 08 R290 -/
  ops : List (Nat × Nat) := []
  /-- the geometry of its stripes, taken when it takes effect: group, bytes of a stripe's data; 08 R285 -/
  stripeBytes : Nat := 0
  /-- the collective's gather record, for a collective's assembly area; 10 R344 -/
  coll : Option Nat := none
deriving DecidableEq, Repr

/-- How far a member of a stripe record has come: to be placed, in flight, verified, or a member that a repair leaves
as it is (R248, R416). -/
inductive MemSt where
  | toPlace
  | flying
  | pass
  | kept
deriving DecidableEq, Repr

/-- A member of a stripe record (R240, R248). -/
structure SMember where
  light : Nat := 0
  track : Nat := 0
  slot : Nat := 0
  st : MemSt := .toPlace
  tries : Nat := 0
  /-- timebase at its choice; 12 R405, R406 -/
  stamp : Nat := 0
  /-- tape: index in the run and tape block of each panel verified; 07 R259 -/
  blks : List (Nat × Nat) := []
deriving DecidableEq, Repr

/-- How far a stripe record has come: its bytes are being merged, it waits to be chosen, its members are in flight, it
is verified and its commit is held. -/
inductive StripeSt where
  | merge
  | wait
  | chosen
  | ready
deriving DecidableEq, Repr

/-- A stripe on its way to the media (R240-R252, R285), or the rebuilt members of a stripe under repair (R416). -/
structure Stripe where
  id : Nat
  home : Half
  obj : Nat
  /-- stripe number within the object -/
  num : Nat
  /-- the write that built it, and that write's place in the order of effect -/
  write : Nat
  ord : Nat
  group : Nat
  k : Nat
  m : Nat
  s : Nat
  /-- 1 disc, 2 tape -/
  kind : Nat
  st : StripeSt := .merge
  /-- Easel address of each 64 KiB of data; none where it is all zeros -/
  units : List (Option Nat) := []
  /-- Easel address of each 64 KiB of parity -/
  parity : List Nat := []
  /-- in a repair: the rebuilt members, and the Easel address of each of their 64 KiB; 12 R416 -/
  rebuilt : List (Nat × List Nat) := []
  /-- write buffer pages that are the stripe's own -/
  own : List Nat := []
  members : List SMember := []
  /-- its merge found fewer than K readable members; 07 R285 -/
  held : Bool := false
  /-- a member was placed again 8 times, or its lost bytes found the lost-range list full; 07 R249, 11 R389 -/
  stalled : Bool := false
  /-- the object has been deleted, or the collective abandoned; 07 R252 -/
  gone : Bool := false
  /-- a newer stripe of that number has been committed; 07 R252 -/
  superseded : Bool := false
  /-- it waits under R242 -/
  noStripe : Bool := false
  /-- it is a repair -/
  repair : Bool := false
  /-- commit held until that gather record's collective takes effect; 10 R345 -/
  early : Option Nat := none
  /-- it waits on a spin-up limit; 07 R247 -/
  spinWait : Bool := false
deriving DecidableEq, Repr

/-- Whose a read plan is (R256-R258): a GET, the merge of a stripe, a repair. -/
inductive PlanOwner where
  | get (op : Nat)
  | merge (stripe : Nat)
  | repair (stripe : Nat)
deriving DecidableEq, Repr

/-- A member that a plan reads: its place, the write buffer pages that take it, and how it stands: 0 being read, 1 good,
2 struck out. -/
structure PlanMem where
  member : Nat
  light : Nat
  track : Nat
  slot : Nat
  pages : List Nat := []
  st : Nat := 0
  /-- transfers not yet ended -/
  left : Nat := 1
deriving DecidableEq, Repr

/-- A read plan for one committed stripe (R256-R258, R285, R416). -/
structure Plan where
  id : Nat
  home : Half
  owner : PlanOwner
  obj : Nat
  num : Nat
  k : Nat
  m : Nat
  s : Nat
  kind : Nat
  /-- 64 KiB units of the stripe's data that are wanted -/
  want : List Nat
  recon : Bool := false
  parts : List PlanMem := []
  /-- members struck out; 07 R258 -/
  struck : List Nat := []
  /-- pages that hold the wanted units once the plan is done: unit, page -/
  outs : List (Nat × Nat) := []
  done : Bool := false
  failed : Bool := false
  /-- it waits for a spin-up or for pages -/
  waits : Bool := false
  noCache : Bool := false
deriving DecidableEq, Repr

/-- A panel read for a GET that may enter the read cache (R377, R378). -/
structure Fill where
  obj : Nat
  /-- offset of its first byte, in units of 64 KiB -/
  panel : Nat
  page : Nat
deriving DecidableEq, Repr

/-- A cache panel: its key and its place in the CACHE region (R377). Lists of them are in order of use, the least
recently used first. -/
structure CachePanel where
  obj : Nat
  panel : Nat
  place : Nat
deriving DecidableEq, Repr

/-- A lost range (R389). -/
structure LostRange where
  obj : Nat
  off : Nat
  len : Nat
  gen : Nat
deriving DecidableEq, Repr

/-- What placement and erasure hold for a light beside its registers (R237, R248, R369, R411-R415). -/
structure PLight where
  /-- offset of its track table in TRACK; 11 R369; reset none -/
  tbl : Option Nat := none
  /-- words of the track table that are not zero; 07 R237; reset 0 -/
  tracks : Table Nat := []
  /-- tracks whose word reads as all ones since an uncorrectable error; 11 R388; reset none -/
  badTracks : List Nat := []
  /-- bad-run list, up to 64: track, slot, slots; 07 R248; reset empty -/
  bad : List (Nat × Nat × Nat) := []
  /-- panels written, from which WEAR is computed; 07 R270; reset 0 -/
  written : Nat := 0
  /-- runs already read in the scrub pass under way: track, slot; 12 R411; reset none -/
  scrubbed : List (Nat × Nat) := []
  /-- a scrub read in flight, or handed back and to be inserted again: object, stripe, member, and whether it is in
  flight; 12 R412, R413; reset none -/
  scrub : Option (Nat × Nat × Nat × Bool) := none
  /-- a pass is under way, when it is due, SCRUB_LATE has been raised in it; 12 R411, R412; reset none -/
  pass : Option (Nat × Bool) := none
  /-- REPAIR_DELAY_S has elapsed since the light entered FAULT; 12 R415; reset 0 -/
  delayOver : Bool := false
  /-- FIRED and MISSES at the last policy tick; 07 R261; reset 0 -/
  firedAt : Nat := 0
  missAt : Nat := 0
deriving DecidableEq, Repr

/-- A record of the repair queue (R414): the stripe, each LOST member and whether its light's FAULT made it LOST. -/
structure RepRec where
  obj : Nat
  num : Nat
  lost : List (Nat × Bool)
  /-- the repair that is under way -/
  job : Option Nat := none
  unreadable : Bool := false
deriving DecidableEq, Repr

/-- A unit of a Gesso job (R420-R423). Outcome codes as R423; none while it has not ended. -/
structure GUnit where
  unit : Nat
  light : Nat := 0
  out : Option Nat := none
  /-- its preparation has begun -/
  begun : Bool := false
  /-- it waits for its SPIN_UP to bring it to READY, or under the limits of R247 -/
  spin : Bool := false
  track : Nat := 0
  /-- transfers of the present track not yet ended -/
  left : Nat := 0
  /-- the check read of the present track is in flight -/
  check : Bool := false
  tracksDone : Nat := 0
  /-- tape: LOCATE 1, TAPE_WRITE 2, check read 3 -/
  tape : Nat := 0
deriving DecidableEq, Repr

/-- A Gesso job (R419-R423). -/
structure GJob where
  port : Nat
  stn : Nat
  unit : Nat
  stamp : Nat
  ending : Bool := false
  units : List GUnit
deriving DecidableEq, Repr

/-- A parameter set (R260). -/
structure ParamSet where
  halfSlack : Nat := 0xFFFFFFFF
  angleBand : Nat := 10000
  wearCap : Nat := 0xFFFF
  reconNs : Nat := 2000
  seekNs : Nat := 800000
  spinFill : Nat := 80
  locateMs : Nat := 40000
  suspectUse : Bool := false
deriving DecidableEq, Repr

/-- A rule (R261). -/
structure PolRule where
  input : Nat
  atOrAbove : Bool
  set : Nat
  group : Nat
  threshold : Nat
deriving DecidableEq, Repr

/-- A policy in force on a half (R262). -/
structure Policy where
  sets : List ParamSet
  rules : List PolRule
  tickMs : Nat
deriving DecidableEq, Repr

/-- What a half's Placement, Erasure and Easel services hold beside their registers. -/
structure PlaceHalf where
  /-- write buffer pages in use; 11 R373, R374; reset none -/
  used : List Nat := []
  /-- map entries; 07 R254; reset none -/
  map : List MapEnt := []
  /-- commit generation of the next MAP_COMMIT, 32 bits; 07 R253; reset DESIGN CHOICE 0 -/
  commitGen : Nat := 0
  /-- read cache; 11 R377; reset empty -/
  cache : List CachePanel := []
  /-- panels that may enter the cache; 11 R377; reset none -/
  fills : List Fill := []
  /-- lost-range list, up to 65,536; 11 R389; reset empty -/
  lost : List LostRange := []
  /-- lost ranges that found the list full: their stripes are held; 11 R389; reset none -/
  lostOwed : List LostRange := []
  /-- repair queue, up to 65,536; 12 R414; reset empty -/
  repairs : List RepRec := []
  /-- a sweep of the map is owed; 12 R414; reset 0 -/
  sweep : Bool := false
  /-- Gesso jobs by number, 8; 12 R419; reset none -/
  jobs : List (Nat × GJob) := []
  /-- pulls wait for pages; 11 R376; reset 0 -/
  wbFull : Bool := false
  /-- policy in force; 07 R262; reset none -/
  policy : Option Policy := none
  /-- captured entries of PLACE_GLOBAL that this half has taken and its twin has not; 15 R499; reset none -/
  plg : RTable := []
  /-- the policy is to be loaded at the next tick; 07 R263; reset 0 -/
  polDue : Bool := false
  /-- parameter set that the rules gave each group; none: its default; 07 R261; reset none -/
  setOf : List (Nat × Nat) := []
  /-- CNT_CACHE_HIT, CNT_CACHE_MISS at the last policy tick; 07 R261; reset 0 -/
  hitAt : Nat := 0
  lookAt : Nat := 0
  /-- cache lookups that hit, and all, since start; 07 R261; reset 0 -/
  hits : Nat := 0
  looks : Nat := 0
  /-- for each port, Atnen words sent for the bridge class and in all since the last tick; 07 R261; reset 0 -/
  words : List (Nat × Nat × Nat) := []
  /-- THRU of the interval, bytes; 07 R266; reset 0 -/
  thru : Nat := 0
  /-- LIMIT of the interval, bytes; 07 R266; reset 0 -/
  limit : Rat := 0
  /-- Easel error log, 4,096 entries of four words; 11 R391; reset empty -/
  elog : List (Nat × List Nat) := []
  /-- table lines whose last patrol visit needed a correction; 11 R387; reset none -/
  warned : List Nat := []
  /-- lines remapped to a spare; 11 R387; reset none -/
  retired : List Nat := []
  /-- for each of the four stacks: lines written and copied since the gap last moved, and physical lines the gap has
  passed; 11 R392; reset 0 -/
  gaps : List (Nat × Nat × Nat) := []
  /-- slots of the half's name table copy whose CHECK fails; 08 R277; reset none -/
  badNames : List Nat := []
  /-- Easel addresses of descriptor slots that cannot be read until they are written again; 11 R388; reset none -/
  badCw : List Nat := []
  /-- a spin-up waits on a limit of R247; 07 R247; reset 0 -/
  spinLimit : Bool := false
deriving DecidableEq, Repr

/-- What the object engines hold for the whole device. -/
structure Objects where
  /-- name table, by slot; both halves' copies; 08 R277; reset EMPTY -/
  names : Table NameEnt := []
  /-- SERIAL counter, 63 bits; 08 R276; reset 1 -/
  serial : Nat := 1
  /-- slot at which compaction stands; 08 R278; reset 0 -/
  compactAt : Nat := 0
  compacting : Bool := false
  /-- writes from admission to the release of their last page; 08 R283, 11 R373; reset none -/
  writes : List Write := []
  /-- next place in the order of effect; 08 R283; reset DESIGN CHOICE 1 -/
  nextOrd : Nat := 1
  /-- stripe records; 07 R240; reset none -/
  stripes : List Stripe := []
  /-- read plans; 07 R257; reset none -/
  plans : List Plan := []
  /-- placement of each light; 07 R237; reset as its fields -/
  lights : Table PLight := []
  /-- next number of a write, a stripe record or a plan; the model's own; reset DESIGN CHOICE 0 -/
  next : Nat := 0
deriving DecidableEq, Repr

/-- A match entry (R315). -/
structure MatchEnt where
  mtch : Nat := 0
  ignore : Nat := 0
  nameLo : Nat := 0
  nameHi : Nat := 0
  valid : Bool := false
  useOnce : Bool := false
  anyGroup : Bool := false
  /-- DOP_MASK, 7 bits -/
  dops : Nat := 0
  defGroup : Nat := 0
  ctx : Nat := 0
  hits : Nat := 0
deriving DecidableEq, Repr

/-- How far a Dikar operation has come (R281-R290, R344). -/
inductive OpSt where
  /-- matched, waits for an operation slot -/
  | slot
  /-- waits for its admission on the half `home` -/
  | admitting
  /-- waits for its namespace step -/
  | step
  /-- pulls its data -/
  | pull
  /-- a pull failed: waits for the reads outstanding -/
  | drain
  /-- a GET reads and pushes -/
  | get
  /-- a FENCE waits for its covered set -/
  | fence
  /-- a gathered or failed member waits for its collective's close -/
  | member
  /-- its status is decided; its record is not written -/
  | ended
deriving DecidableEq, Repr

/-- A Dikar operation, in match order by its number (R272-R299, R344). -/
structure DOp where
  id : Nat
  /-- the context's home half -/
  h : Half
  ctx : Nat
  /-- SRC_ID, MATCH and KEY of its MSG -/
  src : Nat
  mtch : Nat
  key : Nat
  /-- the eight words of its body -/
  body : List Nat
  /-- LEN was not 64 -/
  badLen : Bool := false
  /-- the ring it came from and its place in the ring's fetch order -/
  ring : Option (Nat × Nat) := none
  /-- the entry it matched; none: it completes DENIED -/
  ent : Option MatchEnt := none
  /-- it was matched while the service took no requests; 08 R302 -/
  turned : Bool := false
  /-- timebase at its match -/
  time : Nat := 0
  st : OpSt := .slot
  /-- it holds an operation slot -/
  slot : Bool := false
  /-- the half on which it is admitted -/
  home : Half
  obj : Nat := 0
  /-- offset of its range: OFFSET, or what an APPEND was assigned -/
  off : Nat := 0
  /-- its write -/
  write : Option Nat := none
  /-- bytes asked for, bytes landed, reads outstanding -/
  issued : Nat := 0
  landed : Nat := 0
  outst : Nat := 0
  /-- AUX of PULL_FAILED -/
  pullFail : Option Nat := none
  /-- pieces that wait to be pulled again: offset in the buffer, bytes; 11 R388 -/
  again : List (Nat × Nat) := []
  /-- its next read waits for pages, and for the collectives' cap -/
  waitPage : Bool := false
  waitCap : Bool := false
  /-- GET: bytes to move, bytes pushed, read plans, writes and 64 KiB units of them that it reads, packets pushed -/
  bytes : Nat := 0
  pushed : Nat := 0
  plans : List Nat := []
  reads : List (Nat × Nat) := []
  /-- GET: cache panels that it reads: 64 KiB unit of the object, place in CACHE -/
  hits : List (Nat × Nat) := []
  pids : List Nat := []
  /-- the object's SIZE, GEN and group at its admission -/
  size : Nat := 0
  gen : Nat := 0
  group : Nat := 255
  /-- the object was deleted after its admission -/
  gone : Bool := false
  /-- collective: gather record and rank; COLL_CRC, received -/
  coll : Option (Nat × Nat) := none
  crc : Nat := 0
  received : Bool := false
  /-- it takes its collective's outcome by the deadline: it was still pulling -/
  missing : Bool := false
  /-- its record is discarded: its context was closed by force while it waited for its collective; 09 R312 -/
  mute : Bool := false
deriving DecidableEq, Repr

/-- A request on an overflow list (R320). -/
structure OvfRec where
  ctx : Nat
  src : Nat
  mtch : Nat
  key : Nat
  body : List Nat
  badLen : Bool
  time : Nat
deriving DecidableEq, Repr

/-- A completion record that waits to be written: its body, the operation whose slot it keeps, and whether it has
waited for queue space (R322). -/
structure CqRec where
  body : List Nat
  op : Option Nat
  ring : Option Nat
  waited : Bool := false
deriving DecidableEq, Repr

/-- A context's completion queue beside its record (R321, R322). -/
structure Cq where
  recs : List CqRec := []
  /-- records written and not covered by an index write, and the rings they belong to -/
  uncovered : Nat := 0
  rings : List Nat := []
  /-- a period in which records wait for space -/
  full : Bool := false
deriving DecidableEq, Repr

/-- A descriptor fetched from a ring (R329, R331): its place in the fetch order, BATCH_END, and once it has ended its
completion body and whether it completed OK. -/
structure RDesc where
  seq : Nat
  last : Bool
  ended : Bool := false
  ok : Bool := false
  body : List Nat := []
deriving DecidableEq, Repr

/-- A work ring beside its registers (R324-R332, R370). -/
structure Ring where
  /-- Easel address of its descriptor block -/
  blk : Option Nat := none
  /-- next place in the fetch order -/
  next : Nat := 0
  /-- descriptors that no batch record has covered yet -/
  descs : List RDesc := []
  /-- the ring's records that wait, or that no index write covers -/
  open_ : Nat := 0
deriving DecidableEq, Repr

/-- What a half's Matching Engine holds (R306-R323). -/
structure MatchHalf where
  /-- match entries by number; 09 R315; reset invalid -/
  ents : Table MatchEnt := []
  /-- blocks of each context, in list order; 09 R316; reset none -/
  blocks : Table (List Nat) := []
  /-- slots used of each block; 09 R319; reset 0 -/
  usedSlots : Table Nat := []
  /-- overflow records in arrival order, up to 65,536; 09 R320; reset empty -/
  ovf : List OvfRec := []
  /-- duplicate filter, oldest first, up to 131,072: SRC_ID, CTX, MATCH, REQ_ID, time matched; 02 R63; reset empty -/
  salv : List (Nat × Nat × Nat × Nat × Nat) := []
  /-- cached contexts, least recently used first, up to 65,536; 09 R313; reset none -/
  cached : List Nat := []
  /-- completion queues; 09 R321; reset as its fields -/
  cqs : Table Cq := []
  /-- contexts in a forced close; 09 R312; reset none -/
  forced : List Nat := []
  /-- a period in which matched requests wait for a slot; 08 R281; reset 0 -/
  inflFull : Bool := false
deriving DecidableEq, Repr

/-- What the Object Service and Matching Engines hold for the whole device. -/
structure Dikar where
  /-- operations matched and not ended, in match order; 08 R281; reset none -/
  ops : List DOp := []
  /-- admission queues: operations in the order in which they reached their half; 08 R282; reset empty -/
  queue : PerHalf (List Nat) := ⟨[], []⟩
  /-- next number of an operation; the model's own; reset DESIGN CHOICE 0 -/
  next : Nat := 0
  halves : PerHalf MatchHalf := ⟨{}, {}⟩
  /-- work rings; 09 R324; reset as its fields -/
  rings : Table Ring := []
deriving DecidableEq, Repr

/-- A gather record (R339-R354). -/
structure Coll where
  obj : Nat
  tag : Nat
  nmemb : Nat
  /-- TMO of the members' bodies, and the timeout in force, ms -/
  tmo : Nat
  tmoMs : Nat
  notify : Bool
  partialOk : Bool
  create : Bool
  group : Nat
  deadline : Nat
  /-- the assembly area -/
  write : Nat
  /-- operations of the admitted members -/
  members : List Nat := []
  /-- CLOSING -/
  closing : Bool := false
  /-- stripes handed on early -/
  early : List Nat := []
  /-- COLL_DONE: what it carries, and the nodes still to be told -/
  doneBody : List Nat := []
  nodes : List Nat := []
  /-- completions not yet sent: operation numbers -/
  owed : List Nat := []
deriving DecidableEq, Repr

/-- What a half's Collective Engine holds (R343). -/
structure CollHalf where
  /-- gather records, 512; 10 R343; reset free -/
  recs : List (Nat × Coll) := []
  /-- linger table, oldest first, up to 4,096: OBJ_ID, TAG; 10 R343; reset empty -/
  linger : List (Nat × Nat) := []
  /-- a period in which reads wait on CAP_PCT; 10 R353; reset 0 -/
  capWait : Bool := false
deriving DecidableEq, Repr

/-- An entry of a FIFO (R430): its content's number, whether it starts and ends a packet, and how many cycles of the
reader's clock pass before it can be popped. -/
structure FEnt where
  id : Nat
  first : Bool
  last : Bool
  wait : Nat := 0
deriving DecidableEq, Repr

/-- What a FIFO instance holds (R430-R440, R451). -/
structure Fifo where
  /-- entries, oldest first; 13 R430; reset empty -/
  ents : List FEnt := []
  /-- pops that the writer's copy of the depth does not show yet, with the cycles of the writer's clock that pass
  before it does; 13 R435; reset none -/
  pops : List Nat := []
  /-- LEVEL, where software may write it, 24 bits; 13 R436, R451; reset 0 -/
  level : Nat := 0
  /-- the level event is armed; 13 R436; reset 1 -/
  armed : Bool := true
  /-- the rest of a flushed packet is being discarded; 13 R440; reset 0 -/
  dropRest : Bool := false
  /-- number of the entry that the last pop returned; 13 R430; reset none -/
  got : Option Nat := none
  /-- saturating counts of 32 bits, and the highest depth, 24 bits; 13 R433, R434, R439, R450; reset 0 -/
  corr : Nat := 0
  uncorr : Nat := 0
  flushDrop : Nat := 0
  high : Nat := 0
deriving DecidableEq, Repr

/-- A requester of an arbiter (R441, R446, R447, R453). -/
structure ArbReq where
  /-- base and ceiling, 4 bits each; 13 R441, R453; reset by R449 -/
  base : Nat
  ceil : Nat
  /-- current priority, 4 bits; 13 R441; reset B -/
  p : Nat
  /-- asking; 13 R454; reset 0 -/
  req : Bool := false
  /-- GRANTS, WAIT (64 bits), LONGEST, CUR_WAIT, saturating; 13 R447; reset 0 -/
  grants : Nat := 0
  waits : Nat := 0
  longest : Nat := 0
  curWait : Nat := 0
deriving DecidableEq, Repr

/-- What an arbiter instance holds (R441-R447). -/
structure Arb where
  /-- requesters by number, those that differ from their reset; 13 R441; reset by R449 -/
  reqs : List (Nat × ArbReq) := []
  /-- last winner of a decision; 13 R441; reset 0 -/
  last : Nat := 0
  /-- holder, or parked owner; 13 R441; reset none -/
  owner : Option Nat := none
  /-- the grant is held by its owner; otherwise it is parked; 13 R444, R445; reset 0 -/
  held : Bool := false
deriving DecidableEq, Repr

/-- What of a route a half coalesces (R468). -/
structure FabSrc where
  /-- strikes counted for the next message, not cut; 14 R468; reset 0 -/
  count : Nat := 0
  /-- timebases of the first and last strike counted; 14 R469; reset 0 -/
  first : Nat := 0
  last : Nat := 0
  /-- a message of the route waits or is held; 14 R468; reset 0 -/
  waiting : Bool := false
  /-- the coalescing gap runs; 14 R468; reset 0 -/
  gap : Bool := false
  /-- SOURCE messages queued on the route, 32 bits; 14 R469; reset 0 -/
  seq : Nat := 0
deriving DecidableEq, Repr

/-- A message for the event message queue (R469, R472): a SOURCE message of a route, or a released INT. -/
inductive EvtMsg where
  | source (h : Half) (src : Nat)
  | int (port : Nat) (word : Nat) (time : Nat)
deriving DecidableEq, Repr

/-- What Lantern and the PCIe function hold beside their registers. -/
structure Lantern where
  /-- MSI-X Enable, Bus Master Enable, the function mask, PME_En, PME_Status; 14 R465, R466; reset 0 -/
  msixEn : Bool := false
  busMaster : Bool := false
  funcMask : Bool := false
  pmeEn : Bool := false
  pmeStatus : Bool := false
  /-- mask bits of the MSI-X table, 64 bits; 14 R465, 15 R488; reset all ones (PCIe) -/
  vecMask : Nat := 2 ^ 64 - 1
  /-- address and data words of the MSI-X table, by byte offset of 8; 15 R488; reset 0 -/
  msixTable : List (Nat × Nat) := []
  /-- the host is asleep; 14 R466; reset 0 -/
  asleep : Bool := false
  /-- a vector has been held in this sleeping period: WAKE_TMO runs, or has elapsed; 14 R466; reset 0 -/
  held : Bool := false
  wakeDone : Bool := false
  /-- per half and source (half × 256 + source), what is coalesced; 14 R468; reset none -/
  fab : List (Nat × FabSrc) := []
  /-- messages in the event message queue, up to 4,096: packet number, message, strikes covered; 14 R472; reset empty -/
  evtq : List (Nat × EvtMsg × Nat) := []
  /-- messages held at a full queue; 14 R472; reset empty -/
  evtHeld : List EvtMsg := []
deriving DecidableEq, Repr

/-- A transaction of a data-port access in the Atnen space (R512). -/
structure DpPart where
  addr : Nat
  words : Nat
  be : Nat
  data : List Byte
  st : PartSt := .idle
deriving DecidableEq, Repr

/-- A data-port access, by DP_DATA or through BAR2 (R510, R514). -/
structure DpAcc where
  id : Nat
  /-- through BAR2; otherwise by DP_DATA -/
  bar2 : Bool
  write : Bool
  /-- by MGT or SMBus: how the answer goes back; 0 PCIe, 1 MGT, 2 SMBus -/
  path : Nat
  space : Nat
  addr : Nat
  size : Nat
  /-- bytes to write, and which of them are enabled -/
  data : List Byte
  ben : List Bool
  parts : List DpPart := []
  started : Bool := false
  fail : Option Nat := none
  /-- since when WR_HOLD runs; 15 R512 -/
  holdFrom : Option Nat := none
deriving DecidableEq, Repr

/-- The TAP (R518-R520): its instruction, the levels loaded into the boundary register, whether the balls were taken
since RESET_N was last asserted, so that the device is not in a defined functional state. -/
structure Tap where
  /-- instruction register, 8 bits; 15 R519; reset 0x01 (IDCODE, selected by TAP reset) -/
  ir : Nat := 1
  /-- boundary register, one level for each cell in the order of the BSDL file; 15 R518; reset DESIGN CHOICE empty -/
  cells : List Bool := []
  /-- the device is not in a defined functional state; 15 R520; reset 0 -/
  undef : Bool := false
deriving DecidableEq, Repr

/-- What disciplines the timebase, beside the TIMEBASE page (06 R199-R202, 18 R576-R579). -/
structure TimeRef where
  /-- each half's copy counts: it has been loaded at step 3; 06 R200, 19 R604; reset 0 -/
  run : PerHalf Bool := ⟨false, false⟩
  /-- the previous captured PPS edge, by the timebase; 18 R578; reset none -/
  lastPps : Option Nat := none
  /-- the next edge is used whatever its distance: the first, and the first after PPS_LOST or REF_BACK; 18 R578;
  reset 1 -/
  freshPps : Bool := true
  /-- what the slew has still to take away, ns; 06 R201; reset 0 -/
  slew : Int := 0
  /-- ticks since a tick was last skipped or repeated; 06 R201; reset 0 -/
  slewTick : Nat := 0
  /-- a REF100 edge has been missing in the gate under way; 18 R576; reset 0 -/
  gateBad : Bool := false
  /-- when the present holdover began, on the model's clock; 18 R579; reset 0 -/
  holdFrom : Nat := 0
  /-- latched high half of TB_NOW, 32 bits; 06 R231; reset none -/
  nowLatch : Option Nat := none
deriving DecidableEq, Repr

/-- A half's journal (R379-R381). -/
structure Jrnl where
  /-- JSEQ of the next record, 64 bits; 11 R380; reset 1 -/
  jseq : Nat := 1
  /-- lines written since the step that the last CHECKPOINT names; 11 R381; reset 0 -/
  fill : Nat := 0
  /-- records and lines of steps that wait for room, oldest first; 11 R381; reset none -/
  owed : List (Nat × Nat) := []
  /-- a period in which steps wait for room; 11 R381, R400; reset 0 -/
  full : Bool := false
deriving DecidableEq, Repr

/-- The proposal and the registration, beside the PROTECT page (R522, R527, R530). -/
structure Prot where
  /-- entries of the proposal, eight words each, in append order, up to 4,096; 16 R527, R528; reset empty -/
  entries : List (List Nat) := []
  /-- EPOCH recorded at SEAL, 32 bits; 16 R530; reset 0 -/
  epoch : Nat := 0
  /-- MKEY of the registration, 64 bits, never returned; 16 R522; reset 0 -/
  mkey : Nat := 0
  /-- emergency changes that wait for the span, OP, TARGET and MASK of each; 16 R540, R547; reset none -/
  emerg : List (Nat × Nat × Nat) := []
deriving DecidableEq, Repr

/-- A committed firmware image (R526): its bytes, the CRC-64 of its entry, its number among the target's commits. -/
structure FwImg where
  bytes : List Byte := []
  crc : Nat := 0
  gen : Nat := 0
deriving DecidableEq, Repr

/-- The strap pins (R599). -/
structure Straps where
  pref : Half := .west
  addr : Nat := 0
  startMode : Nat := 0
  fwRom : Bool := false
deriving DecidableEq, Repr

/-- The primacy token at the Keeper, and the halves' lease timers (R542-R546). -/
structure Lease where
  /-- the half that the Keeper last granted the token; 16 R542; reset none -/
  holder : Option Half := none
  /-- when the Keeper last answered the holder, on the model's clock; 16 R542; reset 0 -/
  lastAns : Nat := 0
  /-- the half that last held the token since the Keeper booted; 16 R544; reset none -/
  last : Option Half := none
  /-- the half that asked first and is held for the preferred one; 16 R544; reset none -/
  prefWait : Option Half := none
  /-- the preferred half's wait is over; 16 R544; reset 0 -/
  prefOver : Bool := false
  /-- the Keeper booted while the halves were running, at this moment; 16 R544; reset none -/
  quietFrom : Option Nat := none
  /-- the half that RESTORE named and that has not reached the Keeper yet; 16 R546; reset none -/
  restore : Option Half := none
  /-- each half's last answered renewal while it holds primacy, on the model's clock; 16 R542; reset none -/
  timer : PerHalf (Option Nat) := ⟨none, none⟩
  /-- each half asks for the token since this moment; 16 R543; reset none -/
  asks : PerHalf (Option Nat) := ⟨none, none⟩
deriving DecidableEq, Repr

/-- What the Keeper holds beside its page (R553-R574). -/
structure Keeper where
  /-- last 128 valid samples of inputs 0 to 7, newest first; 17 R556; reset empty -/
  wins : Table (List Int) := []
  /-- consecutive samples of inputs 8 to 23 that differ from the filtered value; 17 R556; reset 0 -/
  debs : Table Nat := []
  /-- consecutive passes in which each trip condition holds: three temperatures, flow, three supplies; 17 R571;
  reset 0 -/
  trips : Table Nat := []
  /-- a trip condition held at the last pass; 17 R571; reset 0 -/
  tripNow : Bool := false
  /-- TRIP is to be raised when ACTIVE is reached; 17 R571; reset 0 -/
  tripDue : Bool := false
  /-- log entries with their sequence numbers, up to 256; 17 R560; reset empty -/
  log : List (Nat × Nat) := []
  /-- next sequence number of the log, modulo 128; 17 R560; reset 0 -/
  logSeq : Nat := 0
  /-- DRAIN_LATE has been raised in this DRAIN; 17 R566; reset 0 -/
  late : Bool := false
  /-- EVT_PEND bits set while Lantern was unpowered; 17 R574; reset 0 -/
  owed : Nat := 0
  /-- EMERG_N counts as asserted; 16 R539; reset 0 -/
  emergN : Bool := false
  /-- primacy; 16 R542; reset as its fields -/
  lease : Lease := {}
  /-- straps sampled at the last boot; 19 R599; reset 0 (untied straps read 0, 20 R643) -/
  straps : Straps := {}
  /-- SMBus OFFSET, 12 bits, and whether the last SMBus write was refused in part; 15 R517; reset DESIGN CHOICE 0 -/
  smbOff : Nat := 0
  smbRefused : Bool := false
deriving DecidableEq, Repr

/-- The steps of a calibration run (R584): steering onto the spare, waiting for the pattern, measuring, verifying,
steering back; or steering a lane onto the spare to leave it there (R590). -/
inductive CalStep where
  | steer
  | pattern
  | measure
  | verify
  | restoring
  | park
deriving DecidableEq, Repr

/-- A receiver's trims: PHASE, VOFF, DFE1, CTLE (R593). -/
structure Trims where
  phase : Nat := 0
  voff : Nat := 0
  dfe1 : Nat := 0
  ctle : Nat := 0
deriving DecidableEq, Repr

/-- A calibration run: the half's i-th port, the logical lane, its step, the trims in force at its start, the TRN words
counted, the cause of its abort. -/
structure CalRun where
  port : Nat
  lane : Nat
  step : CalStep := .steer
  old : Trims := {}
  trn : Nat := 0
  trnLast : Nat := 0
  cause : Nat := 0
  stuck : Bool := false
deriving DecidableEq, Repr

/-- What a half's calibration holds beside its page (R581-R591). -/
structure Cal where
  /-- ports marked for a sweep, by their number in the half; 18 R581; reset none -/
  marked : List Nat := []
  /-- lanes marked by CAL_CMD RUN (port, lane); 18 R591; reset none -/
  lanes : List (Nat × Nat) := []
  /-- ports in a sweep, with the lane whose run comes next; 18 R582; reset none -/
  sweeps : List (Nat × Nat) := []
  /-- runs in progress; 18 R584; reset none -/
  runs : List CalRun := []
deriving DecidableEq, Repr

/-- A half's start-up (R600-R603): its state, its step, the codes of steps 3 and 5 to 9; the start-up record's masks
and ST_RESUME as they stood when this start began (R613); the number of the engine image that runs, 0 for the ROM
(R607). -/
structure BootHalf where
  state : Nat := 0
  step : Nat := 0
  s3 : Nat := 0
  s5 : Nat := 0
  s6 : Nat := 0
  s7 : Nat := 0
  s8 : Nat := 0
  s9 : Nat := 0
  apuEn : Nat := 0
  fiuEn : Nat := 0
  resume : Nat := 0
  img : Nat := 0
deriving DecidableEq, Repr

/-- A record of the Keeper's boot journal (R611): SEQ, CAUSE, the codes of steps 1, 2 and 4, BOOT, the halves'
codes. -/
structure BootRec where
  seq : Nat
  cause : Nat
  s1 : Nat
  s2 : Nat
  s4 : Nat
  boot : Nat
  west : BootHalf
  east : BootHalf
deriving DecidableEq, Repr

/-- Start-up (R597-R611). -/
structure Boot where
  /-- VDD_KEEP is in range; 19 R597; reset 0 -/
  vddKeep : Bool := false
  /-- the Keeper has booted and its SMBus target answers; 19 R600; reset 0 -/
  keeperUp : Bool := false
  /-- level of MAIN_EN; 19 R597; reset 0 -/
  mainEn : Bool := false
  /-- every main supply is in range, sequencing ended; 19 R600, 17 R571; reset 0 -/
  supplies : Bool := false
  /-- level of RESET_N; 19 R597; reset 0 (an untied RESET_N holds the halves in reset, 20 R643) -/
  resetN : Bool := false
  /-- a main supply is below brown-out; 20 R618; reset 0 -/
  brown : Bool := false
  /-- the span is up; 16 R547, 19 R600; reset 0 -/
  span : Bool := false
  /-- CAUSE and SEQ of the present start, codes of steps 1, 2 and 4; 19 R601, R602; reset 0 -/
  cause : Nat := 0
  seq : Nat := 0
  s1 : Nat := 0
  s2 : Nat := 0
  s4 : Nat := 0
  west : BootHalf := {}
  east : BootHalf := {}
  /-- the half that runs alone; 19 R606; reset none -/
  single : Option Half := none
  /-- CONTINUE has been given in this start; 19 R605; reset 0 -/
  goOn : Bool := false
  /-- START_MODE in force for this start; 19 R599, R609; reset 0 -/
  mode : Nat := 0
  /-- Keeper boots, modulo 65,536; 19 R611; reset 0, kept in the Keeper's store -/
  boots : Nat := 0
  /-- boot journal, up to 16 records, newest first; 19 R611; reset empty, kept in the Keeper's store -/
  recs : List BootRec := []
  /-- the two slots of the Keeper's image in its store, newest first; 19 R607; reset none -/
  slots : List FwImg := []
  /-- DEAD_DROP has been raised in this HALF_RESET; 19 R608; reset 0 -/
  deadDrop : Bool := false
  /-- number of the Keeper image that runs, 0 for the ROM; 19 R607; reset 0 -/
  img : Nat := 0
deriving DecidableEq, Repr

/-- The start-up record (R610). -/
structure StartRec where
  floor : Nat := 0
  nodeBase : Nat := 0
deriving DecidableEq, Repr

/-- The machine: every register field, buffer, queue, counter, mode and pin that the spec gives the device, the
model's own queue of waiting commands, and what has left the device. -/
structure State where
  /-- the commands that wait, first in, first out; the model's own queue; reset empty -/
  pending : List Instr
  /-- nanoseconds passed, counted by idle steps; the model's own clock for the waits the spec measures; reset DESIGN CHOICE 0 -/
  clk : Nat
  /-- each half's copy of the timebase, 64 bits; 06 R199, R200; reset 0 (19 R604: reads 0 until step 3 loads it) -/
  tb : PerHalf Nat
  /-- how many free values have been drawn; the model's own field; reset DESIGN CHOICE 0 -/
  freeSeq : Nat
  /-- every register field (see the register fields below); 15 R485-R490; reset: each field's reset value -/
  regs : RTable
  /-- shadows of STAGED fields, where they differ from the values in force; 15 R497; reset: the values in force -/
  shadow : RTable
  /-- captured shadow entries awaiting their boundary; 15 R497; reset empty -/
  captured : RTable
  /-- the latched high halves of WO registers: page, offset, the 32 bits; 15 R494; reset none -/
  woLatch : List (Nat × Nat × Nat)
  /-- page logs, 16 entries per page; 15 R501; reset empty -/
  logs : Table PageLog
  /-- result queues: 0 HOST, 1 West, 2 East, 4,096 words each; 15 R505, R506; reset empty -/
  results : Table ResQ
  /-- strikes on their way to Lantern; 14 R456, R459; reset empty -/
  strikes : List Strike
  /-- what has left the device, oldest first; the model's own record; reset empty -/
  out : List Out
  /-- running number of the next packet built; the model's own field; reset DESIGN CHOICE 0 -/
  nextPid : Nat
  /-- what each of the 16 fabric ports holds beside its registers; 02 R44-R64; reset as its fields -/
  fiu : Table FiuPort
  /-- each half's egress choice; 02 R79-R82; reset as its fields -/
  egr : PerHalf Egress
  /-- each half's 65,536 read tags; 02 R78; reset all free -/
  tags : PerHalf (Table TagSt)
  /-- what each of the 64 Atnen ports holds beside its registers; 03 R92-R123; reset as its fields -/
  apu : Table ApuPort
  /-- station table, mode of each serial: OBJECT where listed; held in Easel; 01 R24; reset BRIDGE -/
  stnMode : Table Bool
  /-- for each half (0 West, 1 East) the station serials it has seen; 03 R108; reset empty -/
  known : Table (List Nat)
  /-- each half's Crossing Unit; 05 R161-R191; reset as its fields -/
  cross : PerHalf Cross
  /-- what each of the 16,384 lights holds beside its registers; 06 R208-R222; reset as its fields -/
  lights : Table Light
  /-- each half's Angle Scheduler, streams and subscriptions; 06 R214-R230; reset as its fields -/
  sched : PerHalf Sched
  /-- what one unit tells another within a step, empty between steps; the model's own; reset empty -/
  mail : List Mail
  /-- Easel, 2 TiB of bytes, those that are not zero; 11 R361; reset PRESUMED zero -/
  easel : List Host.Cell
  /-- Lantern and the PCIe function; 14 R464-R472, 15 R480-R488; reset as its fields -/
  lan : Lantern
  /-- data-port accesses not complete, in arrival order; 15 R510-R514; reset empty -/
  dp : List DpAcc
  /-- number of the next data-port access; the model's own; reset DESIGN CHOICE 0 -/
  nextDp : Nat
  /-- the FIFO instances, by region and QID (R448); 13 R430-R440; reset as its fields -/
  fifos : Table Fifo
  /-- the arbiter instances, by region and identifier (R449); 13 R441-R447; reset as its fields -/
  arbs : Table Arb
  /-- what disciplines the timebase; 06 R199-R202, 18 R576-R579; reset as its fields -/
  time : TimeRef
  /-- each half's journal; 11 R379-R381; reset as its fields -/
  jrnl : PerHalf Jrnl
  /-- proposal and registration; 16 R522-R540; reset as its fields -/
  prot : Prot
  /-- firmware store: 0 Keeper, 1 West, 2 East engines; 16 R526; reset none -/
  fw : Table FwImg
  /-- firmware staging areas, West from 0, East from 0x80_0000, the bytes that are not zero; 15 R511; reset PRESUMED zero -/
  stage : List Host.Cell
  /-- the Keeper; 17 R553-R574, 16 R542-R546; reset as its fields -/
  keeper : Keeper
  /-- each half's calibration; 18 R581-R591; reset as its fields -/
  cal : PerHalf Cal
  /-- start-up; 19 R597-R611; reset as its fields -/
  boot : Boot
  /-- start-up record beside its registers; 19 R610; reset 0 (blank) -/
  record : StartRec
  /-- names, writes, stripes, read plans and the placement of lights; 07 R235-R271, 08 R276-R286; reset as its fields -/
  objs : Objects
  /-- each half's Placement Engine, Erasure Engine and Easel service; 07, 11, 12; reset as its fields -/
  place : PerHalf PlaceHalf
  /-- the Object Service and Matching Engines, completion queues and work rings; 08, 09; reset as its fields -/
  dikar : Dikar
  /-- each half's Collective Engine; 10 R339-R360; reset as its fields -/
  coll : PerHalf CollHalf
  /-- the TAP; 15 R518-R520; reset as its fields -/
  tap : Tap
deriving DecidableEq, Repr

/-- The machine before any supply is in range, every field at its reset value: an absent register field reads as its
reset value, every table and queue is empty, and the command queue is empty. -/
def State.reset : State where
  pending := []
  clk := 0
  tb := ⟨0, 0⟩
  freeSeq := 0
  regs := []
  shadow := []
  captured := []
  woLatch := []
  logs := []
  results := []
  strikes := []
  out := []
  nextPid := 0
  fiu := []
  egr := ⟨{}, {}⟩
  tags := ⟨[], []⟩
  apu := []
  stnMode := []
  known := []
  cross := ⟨{}, {}⟩
  lights := []
  sched := ⟨{}, {}⟩
  mail := []
  easel := []
  lan := {}
  dp := []
  nextDp := 0
  fifos := []
  arbs := []
  time := {}
  jrnl := ⟨{}, {}⟩
  prot := {}
  fw := []
  stage := []
  keeper := {}
  cal := ⟨{}, {}⟩
  boot := {}
  record := {}
  objs := {}
  place := ⟨{}, {}⟩
  dikar := {}
  coll := ⟨{}, {}⟩
  tap := {}

end Sys2Proof.Machine
end

