-- ==== Sys2Proof/Machine/Fields.lean ====
section
/-!
DEFINITION. The register fields of every page, one definition per field, from the register tables of the spec: byte
offset in the page, lowest bit, width, access type (R12), class (R14) and reset value, with the rule that lays it out.
A field of a select-and-view register holds one value per selectable record. Write-only fields hold no value.
-/
namespace Sys2Proof.Machine.R

/-! Page APU. -/

/-- R126: APU_CTRL bits 5:5, TSYNC_EN. -/
def APU_CTRL_TSYNC_EN : Fld := ⟨0x80, 5, 1, .rw, .live, 0x1, 1, false⟩

/-- R126: APU_CTRL bits 4:4, ENUM_START. -/
def APU_CTRL_ENUM_START : Fld := ⟨0x80, 4, 1, .wo, .live, 0x0, 1, false⟩

/-- R126: APU_CTRL bits 3:3, TRAIN_START. -/
def APU_CTRL_TRAIN_START : Fld := ⟨0x80, 3, 1, .wo, .live, 0x0, 1, false⟩

/-- R126: APU_CTRL bits 2:2, AUTO_TRAIN. -/
def APU_CTRL_AUTO_TRAIN : Fld := ⟨0x80, 2, 1, .rw, .live, 0x1, 1, false⟩

/-- R126: APU_CTRL bits 1:1, HOLD. -/
def APU_CTRL_HOLD : Fld := ⟨0x80, 1, 1, .rw, .live, 0x0, 1, false⟩

/-- R126: APU_CTRL bits 0:0, EN. -/
def APU_CTRL_EN : Fld := ⟨0x80, 0, 1, .rw, .live, 0x0, 1, false⟩

/-- R127: APU_STAT bits 63:48, STN_OFF. -/
def APU_STAT_STN_OFF : Fld := ⟨0x88, 48, 16, .ro, .plain, 0x0, 1, false⟩

/-- R127: APU_STAT bits 47:47, RX_HOP_OFF. -/
def APU_STAT_RX_HOP_OFF : Fld := ⟨0x88, 47, 1, .ro, .plain, 0x0, 1, false⟩

/-- R127: APU_STAT bits 46:46, TX_HOP_OFF. -/
def APU_STAT_TX_HOP_OFF : Fld := ⟨0x88, 46, 1, .ro, .plain, 0x0, 1, false⟩

/-- R127: APU_STAT bits 40:24, BUF_LEVEL. -/
def APU_STAT_BUF_LEVEL : Fld := ⟨0x88, 24, 17, .ro, .plain, 0x0, 1, false⟩

/-- R127: APU_STAT bits 21:21, ENUM_OVER. -/
def APU_STAT_ENUM_OVER : Fld := ⟨0x88, 21, 1, .ro, .plain, 0x0, 1, false⟩

/-- R127: APU_STAT bits 20:16, STN_COUNT. -/
def APU_STAT_STN_COUNT : Fld := ⟨0x88, 16, 5, .ro, .plain, 0x0, 1, false⟩

/-- R127: APU_STAT bits 11:8, CAUSE. -/
def APU_STAT_CAUSE : Fld := ⟨0x88, 8, 4, .ro, .plain, 0x0, 1, false⟩

/-- R127: APU_STAT bits 3:0, STATE. -/
def APU_STAT_STATE : Fld := ⟨0x88, 0, 4, .ro, .plain, 0x0, 1, false⟩

/-- R128: APU_STEER bits 15:12, TX_LANE. -/
def APU_STEER_TX_LANE : Fld := ⟨0x90, 12, 4, .ro, .plain, 0x0, 1, false⟩

/-- R128: APU_STEER bits 11:8, TX_STATE. -/
def APU_STEER_TX_STATE : Fld := ⟨0x90, 8, 4, .ro, .plain, 0x0, 1, false⟩

/-- R128: APU_STEER bits 7:4, RX_LANE. -/
def APU_STEER_RX_LANE : Fld := ⟨0x90, 4, 4, .ro, .plain, 0x0, 1, false⟩

/-- R128: APU_STEER bits 3:0, RX_STATE. -/
def APU_STEER_RX_STATE : Fld := ⟨0x90, 0, 4, .ro, .plain, 0x0, 1, false⟩

/-- R129: APU_TMO bits 47:32, ENUM_TMO. -/
def APU_TMO_ENUM_TMO : Fld := ⟨0x98, 32, 16, .rw, .live, 0x3e8, 1, false⟩

/-- R129: APU_TMO bits 31:16, TSYNC_INT. -/
def APU_TMO_TSYNC_INT : Fld := ⟨0x98, 16, 16, .rw, .live, 0x3e8, 1, false⟩

/-- R129: APU_TMO bits 15:0, ATN_RD_TMO. -/
def APU_TMO_ATN_RD_TMO : Fld := ⟨0x98, 0, 16, .rw, .live, 0x64, 1, false⟩

/-- R125: APU_RD_STAT bits 7:0, VALUE. -/
def APU_RD_STAT : Fld := ⟨0xa0, 0, 8, .ro, .plain, 0x0, 1, false⟩

/-- R125: CNT_TXN_TX bits 31:0, count. -/
def APU_CNT_TXN_TX : Fld := ⟨0xc0, 0, 32, .ro, .plain, 0x0, 1, false⟩

/-- R125: CNT_TXN_RX bits 31:0, count. -/
def APU_CNT_TXN_RX : Fld := ⟨0xc8, 0, 32, .ro, .plain, 0x0, 1, false⟩

/-- R125: CNT_XOFF_TX bits 31:0, count. -/
def APU_CNT_XOFF_TX : Fld := ⟨0xd0, 0, 32, .ro, .plain, 0x0, 1, false⟩

/-- R125: CNT_XOFF_RX bits 31:0, count. -/
def APU_CNT_XOFF_RX : Fld := ⟨0xd8, 0, 32, .ro, .plain, 0x0, 1, false⟩

/-- R125: CNT_RD_TMO bits 31:0, count. -/
def APU_CNT_RD_TMO : Fld := ⟨0xe0, 0, 32, .ro, .plain, 0x0, 1, false⟩

/-- R125: CNT_UNEXP_RSP bits 31:0, count. -/
def APU_CNT_UNEXP_RSP : Fld := ⟨0xe8, 0, 32, .ro, .plain, 0x0, 1, false⟩

/-- R125: CNT_PROTO bits 31:0, count. -/
def APU_CNT_PROTO : Fld := ⟨0xf0, 0, 32, .ro, .plain, 0x0, 1, false⟩

/-- R125: CNT_DOWN bits 31:0, count. -/
def APU_CNT_DOWN : Fld := ⟨0xf8, 0, 32, .ro, .plain, 0x0, 1, false⟩

/-- R125: CNT_STEER bits 31:0, count. -/
def APU_CNT_STEER : Fld := ⟨0x100, 0, 32, .ro, .plain, 0x0, 1, false⟩

/-- R125: CNT_STEER_FAIL bits 31:0, count. -/
def APU_CNT_STEER_FAIL : Fld := ⟨0x108, 0, 32, .ro, .plain, 0x0, 1, false⟩

/-- R125: APU_CNT_CLR bits 0:0, CLR. -/
def APU_CNT_CLR : Fld := ⟨0x110, 0, 1, .wo, .live, 0x0, 1, false⟩

/-- The fields of the APU page (the common header apart). -/
def pageAPU : List Fld :=
    [APU_CTRL_TSYNC_EN, APU_CTRL_ENUM_START, APU_CTRL_TRAIN_START, APU_CTRL_AUTO_TRAIN, APU_CTRL_HOLD,
     APU_CTRL_EN, APU_STAT_STN_OFF, APU_STAT_RX_HOP_OFF, APU_STAT_TX_HOP_OFF, APU_STAT_BUF_LEVEL,
     APU_STAT_ENUM_OVER, APU_STAT_STN_COUNT, APU_STAT_CAUSE, APU_STAT_STATE, APU_STEER_TX_LANE, APU_STEER_TX_STATE,
     APU_STEER_RX_LANE, APU_STEER_RX_STATE, APU_TMO_ENUM_TMO, APU_TMO_TSYNC_INT, APU_TMO_ATN_RD_TMO,
     APU_RD_STAT, APU_CNT_TXN_TX, APU_CNT_TXN_RX, APU_CNT_XOFF_TX, APU_CNT_XOFF_RX, APU_CNT_RD_TMO,
     APU_CNT_UNEXP_RSP, APU_CNT_PROTO, APU_CNT_DOWN, APU_CNT_STEER, APU_CNT_STEER_FAIL, APU_CNT_CLR]

/-! Page CAL. -/

/-- R593: CAL_CTRL bits 2:1, RESULTS. -/
def CAL_CTRL_RESULTS : Fld := ⟨0x200, 1, 2, .rw, .live, 0x1, 1, false⟩

/-- R593: CAL_CTRL bits 0:0, EN. -/
def CAL_CTRL_EN : Fld := ⟨0x200, 0, 1, .rw, .live, 0x1, 1, false⟩

/-- R593: CAL_CFG bits 20:16, MEAS_LOG2. -/
def CAL_CFG_MEAS_LOG2 : Fld := ⟨0x208, 16, 5, .rw, .staged, 0x10, 1, false⟩

/-- R593: CAL_CFG bits 10:8, PAR. -/
def CAL_CFG_PAR : Fld := ⟨0x208, 8, 3, .rw, .staged, 0x4, 1, false⟩

/-- R593: CAL_CFG bits 4:0, CAL_DELTA. -/
def CAL_CFG_CAL_DELTA : Fld := ⟨0x208, 0, 5, .rw, .staged, 0x6, 1, false⟩

/-- R593: CAL_CMD bits 18:16, LANE. -/
def CAL_CMD_LANE : Fld := ⟨0x210, 16, 3, .wo, .live, 0x0, 1, false⟩

/-- R593: CAL_CMD bits 12:8, PORT. -/
def CAL_CMD_PORT : Fld := ⟨0x210, 8, 5, .wo, .live, 0x0, 1, false⟩

/-- R593: CAL_CMD bits 3:0, OP. -/
def CAL_CMD_OP : Fld := ⟨0x210, 0, 4, .wo, .live, 0x0, 1, false⟩

/-- R593: CAL_STAT bits 63:48, T_NOW. -/
def CAL_STAT_T_NOW : Fld := ⟨0x218, 48, 16, .ro, .plain, 0x0, 1, false⟩

/-- R593: CAL_STAT bits 42:40, RUNNING. -/
def CAL_STAT_RUNNING : Fld := ⟨0x218, 40, 3, .ro, .plain, 0x0, 1, false⟩

/-- R593: CAL_STAT bits 39:39, BLOCKED. -/
def CAL_STAT_BLOCKED : Fld := ⟨0x218, 39, 1, .ro, .plain, 0x0, 1, false⟩

/-- R593: CAL_STAT bits 37:32, STUCK. -/
def CAL_STAT_STUCK : Fld := ⟨0x218, 32, 6, .ro, .plain, 0x0, 1, false⟩

/-- R593: CAL_STAT bits 31:0, MARKED. -/
def CAL_STAT_MARKED : Fld := ⟨0x218, 0, 32, .ro, .plain, 0x0, 1, false⟩

/-- R593: CAL_LANE_SEL bits 12:8, PORT. -/
def CAL_LANE_SEL_PORT : Fld := ⟨0x220, 8, 5, .rw, .live, 0x0, 1, false⟩

/-- R593: CAL_LANE_SEL bits 2:0, LANE. -/
def CAL_LANE_SEL_LANE : Fld := ⟨0x220, 0, 3, .rw, .live, 0x0, 1, false⟩

/-- R593: CAL_LANE_VIEW_0 bits 63:61, STATE. -/
def CAL_LANE_VIEW_0_STATE : Fld := ⟨0x228, 61, 3, .ro, .plain, 0x0, 1, true⟩

/-- R593: CAL_LANE_VIEW_0 bits 60:59, ABORTS. -/
def CAL_LANE_VIEW_0_ABORTS : Fld := ⟨0x228, 59, 2, .ro, .plain, 0x0, 1, true⟩

/-- R593: CAL_LANE_VIEW_0 bits 58:58, STUCK. -/
def CAL_LANE_VIEW_0_STUCK : Fld := ⟨0x228, 58, 1, .ro, .plain, 0x0, 1, true⟩

/-- R593: CAL_LANE_VIEW_0 bits 57:54, LAST_CAUSE. -/
def CAL_LANE_VIEW_0_LAST_CAUSE : Fld := ⟨0x228, 54, 4, .ro, .plain, 0x0, 1, true⟩

/-- R593: CAL_LANE_VIEW_0 bits 47:32, T_LAST. -/
def CAL_LANE_VIEW_0_T_LAST : Fld := ⟨0x228, 32, 16, .ro, .plain, 0x0, 1, true⟩

/-- R593: CAL_LANE_VIEW_0 bits 24:18, PHASE. -/
def CAL_LANE_VIEW_0_PHASE : Fld := ⟨0x228, 18, 7, .ro, .plain, 0x0, 1, true⟩

/-- R593: CAL_LANE_VIEW_0 bits 17:12, VOFF. -/
def CAL_LANE_VIEW_0_VOFF : Fld := ⟨0x228, 12, 6, .ro, .plain, 0x0, 1, true⟩

/-- R593: CAL_LANE_VIEW_0 bits 11:6, DFE1. -/
def CAL_LANE_VIEW_0_DFE1 : Fld := ⟨0x228, 6, 6, .ro, .plain, 0x0, 1, true⟩

/-- R593: CAL_LANE_VIEW_0 bits 4:0, CTLE. -/
def CAL_LANE_VIEW_0_CTLE : Fld := ⟨0x228, 0, 5, .ro, .plain, 0x0, 1, true⟩

/-- R593: CAL_LANE_VIEW_1 bits 63:0, LAST_RUN. -/
def CAL_LANE_VIEW_1_LAST_RUN : Fld := ⟨0x230, 0, 64, .ro, .plain, 0x0, 1, true⟩

/-- R593: CAL_LANE_VIEW_2 bits 63:32, RUNS. -/
def CAL_LANE_VIEW_2_RUNS : Fld := ⟨0x238, 32, 32, .ro, .plain, 0x0, 1, true⟩

/-- R593: CAL_LANE_VIEW_2 bits 31:0, ABORTED. -/
def CAL_LANE_VIEW_2_ABORTED : Fld := ⟨0x238, 0, 32, .ro, .plain, 0x0, 1, true⟩

/-- R593: CNT_SWEEP bits 31:0, count. -/
def CAL_CNT_SWEEP : Fld := ⟨0x300, 0, 32, .ro, .plain, 0x0, 1, false⟩

/-- R593: CNT_RUN_OK bits 31:0, count. -/
def CAL_CNT_RUN_OK : Fld := ⟨0x308, 0, 32, .ro, .plain, 0x0, 1, false⟩

/-- R593: CNT_ABORT bits 31:0, count. -/
def CAL_CNT_ABORT : Fld := ⟨0x310, 0, 32, .ro, .plain, 0x0, 1, false⟩

/-- R593: CNT_SKIP bits 31:0, count. -/
def CAL_CNT_SKIP : Fld := ⟨0x318, 0, 32, .ro, .plain, 0x0, 1, false⟩

/-- R593: CNT_STUCK bits 31:0, count. -/
def CAL_CNT_STUCK : Fld := ⟨0x320, 0, 32, .ro, .plain, 0x0, 1, false⟩

/-- R593: CAL_CNT_CLR bits 0:0, CLR. -/
def CAL_CNT_CLR : Fld := ⟨0x328, 0, 1, .wo, .live, 0x0, 1, false⟩

/-- The fields of the CAL page (the common header apart). -/
def pageCAL : List Fld :=
    [CAL_CTRL_RESULTS, CAL_CTRL_EN, CAL_CFG_MEAS_LOG2, CAL_CFG_PAR, CAL_CFG_CAL_DELTA, CAL_CMD_LANE,
     CAL_CMD_PORT, CAL_CMD_OP, CAL_STAT_T_NOW, CAL_STAT_RUNNING, CAL_STAT_BLOCKED, CAL_STAT_STUCK,
     CAL_STAT_MARKED, CAL_LANE_SEL_PORT, CAL_LANE_SEL_LANE, CAL_LANE_VIEW_0_STATE, CAL_LANE_VIEW_0_ABORTS,
     CAL_LANE_VIEW_0_STUCK, CAL_LANE_VIEW_0_LAST_CAUSE, CAL_LANE_VIEW_0_T_LAST, CAL_LANE_VIEW_0_PHASE,
     CAL_LANE_VIEW_0_VOFF, CAL_LANE_VIEW_0_DFE1, CAL_LANE_VIEW_0_CTLE, CAL_LANE_VIEW_1_LAST_RUN,
     CAL_LANE_VIEW_2_RUNS, CAL_LANE_VIEW_2_ABORTED, CAL_CNT_SWEEP, CAL_CNT_RUN_OK, CAL_CNT_ABORT,
     CAL_CNT_SKIP, CAL_CNT_STUCK, CAL_CNT_CLR]

/-! Page COLLECTIVE. -/

/-- R357: COL_CTRL bits 15:8, CAP_PCT. -/
def COL_CTRL_CAP_PCT : Fld := ⟨0x80, 8, 8, .rw, .live, 0x32, 1, false⟩

/-- R357: COL_CTRL bits 1:1, EARLY. -/
def COL_CTRL_EARLY : Fld := ⟨0x80, 1, 1, .rw, .live, 0x1, 1, false⟩

/-- R357: COL_CTRL bits 0:0, EN. -/
def COL_CTRL_EN : Fld := ⟨0x80, 0, 1, .rw, .live, 0x0, 1, false⟩

/-- R358: COL_TMO bits 47:32, LINGER_S. -/
def COL_TMO_LINGER_S : Fld := ⟨0x88, 32, 16, .rw, .live, 0xa, 1, false⟩

/-- R358: COL_TMO bits 11:0, DEF_TMO. -/
def COL_TMO_DEF_TMO : Fld := ⟨0x88, 0, 12, .rw, .live, 0x3e8, 1, false⟩

/-- R359: COL_STAT bits 52:32, HELD_MIB. -/
def COL_STAT_HELD_MIB : Fld := ⟨0x90, 32, 21, .ro, .plain, 0x0, 1, false⟩

/-- R359: COL_STAT bits 31:11, MEMBERS. -/
def COL_STAT_MEMBERS : Fld := ⟨0x90, 11, 21, .ro, .plain, 0x0, 1, false⟩

/-- R359: COL_STAT bits 9:0, GROUPS. -/
def COL_STAT_GROUPS : Fld := ⟨0x90, 0, 10, .ro, .plain, 0x0, 1, false⟩

/-- R359: COL_SEL bits 8:0, INDEX. -/
def COL_SEL_INDEX : Fld := ⟨0x98, 0, 9, .rw, .live, 0x0, 1, false⟩

/-- R359: COL_VIEW_0 bits 63:0, OBJ_ID. -/
def COL_VIEW_0_OBJ_ID : Fld := ⟨0xa0, 0, 64, .ro, .plain, 0x0, 1, true⟩

/-- R359: COL_VIEW_1 bits 63:40, TAG. -/
def COL_VIEW_1_TAG : Fld := ⟨0xa8, 40, 24, .ro, .plain, 0x0, 1, true⟩

/-- R359: COL_VIEW_1 bits 39:38, STATE. -/
def COL_VIEW_1_STATE : Fld := ⟨0xa8, 38, 2, .ro, .plain, 0x0, 1, true⟩

/-- R359: COL_VIEW_1 bits 37:37, PARTIAL_OK. -/
def COL_VIEW_1_PARTIAL_OK : Fld := ⟨0xa8, 37, 1, .ro, .plain, 0x0, 1, true⟩

/-- R359: COL_VIEW_1 bits 36:36, NOTIFY. -/
def COL_VIEW_1_NOTIFY : Fld := ⟨0xa8, 36, 1, .ro, .plain, 0x0, 1, true⟩

/-- R359: COL_VIEW_1 bits 35:20, NMEMB_M1. -/
def COL_VIEW_1_NMEMB_M1 : Fld := ⟨0xa8, 20, 16, .ro, .plain, 0x0, 1, true⟩

/-- R359: COL_VIEW_1 bits 19:12, GROUP. -/
def COL_VIEW_1_GROUP : Fld := ⟨0xa8, 12, 8, .ro, .plain, 0x0, 1, true⟩

/-- R359: COL_VIEW_1 bits 11:0, TMO. -/
def COL_VIEW_1_TMO : Fld := ⟨0xa8, 0, 12, .ro, .plain, 0x0, 1, true⟩

/-- R359: COL_VIEW_2 bits 63:47, RECEIVED. -/
def COL_VIEW_2_RECEIVED : Fld := ⟨0xb0, 47, 17, .ro, .plain, 0x0, 1, true⟩

/-- R359: COL_VIEW_2 bits 46:30, FAILED. -/
def COL_VIEW_2_FAILED : Fld := ⟨0xb0, 30, 17, .ro, .plain, 0x0, 1, true⟩

/-- R359: COL_VIEW_2 bits 29:13, ADMITTED. -/
def COL_VIEW_2_ADMITTED : Fld := ⟨0xb0, 13, 17, .ro, .plain, 0x0, 1, true⟩

/-- R359: COL_VIEW_3 bits 63:0, DEADLINE. -/
def COL_VIEW_3_DEADLINE : Fld := ⟨0xb8, 0, 64, .ro, .plain, 0x0, 1, true⟩

/-- R356: CNT_COLL_OPEN bits 31:0, count. -/
def COLLECTIVE_CNT_COLL_OPEN : Fld := ⟨0x100, 0, 32, .ro, .plain, 0x0, 1, false⟩

/-- R356: CNT_COLL_OK bits 31:0, count. -/
def COLLECTIVE_CNT_COLL_OK : Fld := ⟨0x108, 0, 32, .ro, .plain, 0x0, 1, false⟩

/-- R356: CNT_COLL_PARTIAL bits 31:0, count. -/
def COLLECTIVE_CNT_COLL_PARTIAL : Fld := ⟨0x110, 0, 32, .ro, .plain, 0x0, 1, false⟩

/-- R356: CNT_COLL_ABANDON bits 31:0, count. -/
def COLLECTIVE_CNT_COLL_ABANDON : Fld := ⟨0x118, 0, 32, .ro, .plain, 0x0, 1, false⟩

/-- R356: CNT_MEMBER bits 31:0, count. -/
def COLLECTIVE_CNT_MEMBER : Fld := ⟨0x120, 0, 32, .ro, .plain, 0x0, 1, false⟩

/-- R356: CNT_MEMBER_REJECT bits 31:0, count. -/
def COLLECTIVE_CNT_MEMBER_REJECT : Fld := ⟨0x128, 0, 32, .ro, .plain, 0x0, 1, false⟩

/-- R356: CNT_EARLY bits 31:0, count. -/
def COLLECTIVE_CNT_EARLY : Fld := ⟨0x130, 0, 32, .ro, .plain, 0x0, 1, false⟩

/-- R356: CNT_NOTIFY bits 31:0, count. -/
def COLLECTIVE_CNT_NOTIFY : Fld := ⟨0x138, 0, 32, .ro, .plain, 0x0, 1, false⟩

/-- R356: CNT_CAP_WAIT bits 31:0, count. -/
def COLLECTIVE_CNT_CAP_WAIT : Fld := ⟨0x140, 0, 32, .ro, .plain, 0x0, 1, false⟩

/-- R356: COL_CNT_CLR bits 0:0, CLR. -/
def COL_CNT_CLR : Fld := ⟨0x148, 0, 1, .wo, .live, 0x0, 1, false⟩

/-- The fields of the COLLECTIVE page (the common header apart). -/
def pageCOLLECTIVE : List Fld :=
    [COL_CTRL_CAP_PCT, COL_CTRL_EARLY, COL_CTRL_EN, COL_TMO_LINGER_S, COL_TMO_DEF_TMO, COL_STAT_HELD_MIB,
     COL_STAT_MEMBERS, COL_STAT_GROUPS, COL_SEL_INDEX, COL_VIEW_0_OBJ_ID, COL_VIEW_1_TAG, COL_VIEW_1_STATE,
     COL_VIEW_1_PARTIAL_OK, COL_VIEW_1_NOTIFY, COL_VIEW_1_NMEMB_M1, COL_VIEW_1_GROUP, COL_VIEW_1_TMO,
     COL_VIEW_2_RECEIVED, COL_VIEW_2_FAILED, COL_VIEW_2_ADMITTED, COL_VIEW_3_DEADLINE, COLLECTIVE_CNT_COLL_OPEN,
     COLLECTIVE_CNT_COLL_OK, COLLECTIVE_CNT_COLL_PARTIAL, COLLECTIVE_CNT_COLL_ABANDON, COLLECTIVE_CNT_MEMBER,
     COLLECTIVE_CNT_MEMBER_REJECT, COLLECTIVE_CNT_EARLY, COLLECTIVE_CNT_NOTIFY, COLLECTIVE_CNT_CAP_WAIT,
     COL_CNT_CLR]

/-! Page CONTEXTS. -/

/-- R334: CTX_SEL bits 19:0, CTX. -/
def CTX_SEL_CTX : Fld := ⟨0x80, 0, 20, .rw, .live, 0x0, 1, false⟩

/-- R309: CTX_VIEW_0 bits 63:62, STATE. -/
def CTX_VIEW_0_STATE : Fld := ⟨0x88, 62, 2, .ro, .plain, 0x0, 1, true⟩

/-- R309: CTX_VIEW_0 bits 61:61, HOME. -/
def CTX_VIEW_0_HOME : Fld := ⟨0x88, 61, 1, .rw, .stopped, 0x0, 1, true⟩

/-- R309: CTX_VIEW_0 bits 60:60, POISON. -/
def CTX_VIEW_0_POISON : Fld := ⟨0x88, 60, 1, .ro, .plain, 0x0, 1, true⟩

/-- R309: CTX_VIEW_0 bits 59:59, PIN. -/
def CTX_VIEW_0_PIN : Fld := ⟨0x88, 59, 1, .rw, .live, 0x0, 1, true⟩

/-- R309: CTX_VIEW_0 bits 58:58, SRC_ANY. -/
def CTX_VIEW_0_SRC_ANY : Fld := ⟨0x88, 58, 1, .rw, .stopped, 0x0, 1, true⟩

/-- R309: CTX_VIEW_0 bits 57:50, RANGE. -/
def CTX_VIEW_0_RANGE : Fld := ⟨0x88, 50, 8, .rw, .stopped, 0x0, 1, true⟩

/-- R309: CTX_VIEW_0 bits 49:38, OVF_MAX. -/
def CTX_VIEW_0_OVF_MAX : Fld := ⟨0x88, 38, 12, .rw, .live, 0x0, 1, true⟩

/-- R309: CTX_VIEW_0 bits 37:37, EVT_EN. -/
def CTX_VIEW_0_EVT_EN : Fld := ⟨0x88, 37, 1, .rw, .live, 0x0, 1, true⟩

/-- R309: CTX_VIEW_0 bits 36:32, EVT_AGG. -/
def CTX_VIEW_0_EVT_AGG : Fld := ⟨0x88, 32, 5, .rw, .live, 0x0, 1, true⟩

/-- R309: CTX_VIEW_0 bits 19:0, SRC. -/
def CTX_VIEW_0_SRC : Fld := ⟨0x88, 0, 20, .rw, .stopped, 0x0, 1, true⟩

/-- R309: CTX_VIEW_1 bits 63:0, KEY. -/
def CTX_VIEW_1_KEY : Fld := ⟨0x90, 0, 64, .rw, .stopped, 0x0, 1, true⟩

/-- R309: CTX_VIEW_2 bits 63:6, CQ_ADDR. -/
def CTX_VIEW_2_CQ_ADDR : Fld := ⟨0x98, 6, 58, .rw, .stopped, 0x0, 1, true⟩

/-- R309: CTX_VIEW_2 bits 4:0, CQ_LOG2. -/
def CTX_VIEW_2_CQ_LOG2 : Fld := ⟨0x98, 0, 5, .rw, .stopped, 0x0, 1, true⟩

/-- R309: CTX_VIEW_3 bits 63:3, CQ_PI_ADDR. -/
def CTX_VIEW_3_CQ_PI_ADDR : Fld := ⟨0xa0, 3, 61, .rw, .stopped, 0x0, 1, true⟩

/-- R309: CTX_VIEW_4 bits 63:0, CQ_KEY. -/
def CTX_VIEW_4_CQ_KEY : Fld := ⟨0xa8, 0, 64, .rw, .stopped, 0x0, 1, true⟩

/-- R309: CTX_VIEW_5 bits 63:44, CQ_NODE. -/
def CTX_VIEW_5_CQ_NODE : Fld := ⟨0xb0, 44, 20, .rw, .stopped, 0x0, 1, true⟩

/-- R309: CTX_VIEW_5 bits 42:26, CQ_PI. -/
def CTX_VIEW_5_CQ_PI : Fld := ⟨0xb0, 26, 17, .ro, .plain, 0x0, 1, true⟩

/-- R309: CTX_VIEW_5 bits 16:0, CQ_CI. -/
def CTX_VIEW_5_CQ_CI : Fld := ⟨0xb0, 0, 17, .ro, .plain, 0x0, 1, true⟩

/-- R309: CTX_VIEW_6 bits 63:47, HEAD_BLK. -/
def CTX_VIEW_6_HEAD_BLK : Fld := ⟨0xb8, 47, 17, .ro, .plain, 0x0, 1, true⟩

/-- R309: CTX_VIEW_6 bits 46:30, TAIL_BLK. -/
def CTX_VIEW_6_TAIL_BLK : Fld := ⟨0xb8, 30, 17, .ro, .plain, 0x0, 1, true⟩

/-- R309: CTX_VIEW_6 bits 29:6, ENTRIES. -/
def CTX_VIEW_6_ENTRIES : Fld := ⟨0xb8, 6, 24, .ro, .plain, 0x0, 1, true⟩

/-- R309: CTX_VIEW_7 bits 63:32, FAILED. -/
def CTX_VIEW_7_FAILED : Fld := ⟨0xc0, 32, 32, .ro, .plain, 0x0, 1, true⟩

/-- R309: CTX_VIEW_7 bits 31:20, OVF_COUNT. -/
def CTX_VIEW_7_OVF_COUNT : Fld := ⟨0xc0, 20, 12, .ro, .plain, 0x0, 1, true⟩

/-- R309: CTX_VIEW_7 bits 19:5, INFLIGHT. -/
def CTX_VIEW_7_INFLIGHT : Fld := ⟨0xc0, 5, 15, .ro, .plain, 0x0, 1, true⟩

/-- R335: CTX_CMD bits 4:4, FORCE. -/
def CTX_CMD_FORCE : Fld := ⟨0xc8, 4, 1, .wo, .live, 0x0, 1, false⟩

/-- R335: CTX_CMD bits 3:0, OP. -/
def CTX_CMD_OP : Fld := ⟨0xc8, 0, 4, .wo, .live, 0x0, 1, false⟩

/-- R334: ME_SEL bits 23:23, HALF. -/
def ME_SEL_HALF : Fld := ⟨0xd0, 23, 1, .rw, .live, 0x0, 1, false⟩

/-- R334: ME_SEL bits 22:0, VALUE. -/
def ME_SEL_VALUE : Fld := ⟨0xd0, 0, 23, .rw, .live, 0x0, 1, false⟩

/-- R334: ME_STAGE bits 63:0, VALUE. -/
def ME_STAGE : Fld := ⟨0xd8, 0, 64, .rw, .live, 0x0, 5, false⟩

/-- R334: ME_VIEW bits 63:0, VALUE. -/
def ME_VIEW : Fld := ⟨0x100, 0, 64, .ro, .plain, 0x0, 8, false⟩

/-- R334: KR_SEL bits 7:0, VALUE. -/
def KR_SEL : Fld := ⟨0x140, 0, 8, .rw, .live, 0x0, 1, false⟩

/-- R310: KR_VIEW_0 bits 63:63, VALID. -/
def KR_VIEW_0_VALID : Fld := ⟨0x148, 63, 1, .ro, .guarded, 0x0, 1, true⟩

/-- R310: KR_VIEW_0 bits 62:62, ANY_OK. -/
def KR_VIEW_0_ANY_OK : Fld := ⟨0x148, 62, 1, .ro, .guarded, 0x0, 1, true⟩

/-- R310: KR_VIEW_0 bits 51:32, CTX_HI. -/
def KR_VIEW_0_CTX_HI : Fld := ⟨0x148, 32, 20, .ro, .guarded, 0x0, 1, true⟩

/-- R310: KR_VIEW_0 bits 19:0, CTX_LO. -/
def KR_VIEW_0_CTX_LO : Fld := ⟨0x148, 0, 20, .ro, .guarded, 0x0, 1, true⟩

/-- R310: KR_VIEW_1 bits 63:0, KEY_LO. -/
def KR_VIEW_1_KEY_LO : Fld := ⟨0x150, 0, 64, .ro, .guarded, 0x0, 1, true⟩

/-- R310: KR_VIEW_2 bits 63:0, KEY_HI. -/
def KR_VIEW_2_KEY_HI : Fld := ⟨0x158, 0, 64, .ro, .guarded, 0x0, 1, true⟩

/-- R310: KR_VIEW_3 bits 51:32, SRC_HI. -/
def KR_VIEW_3_SRC_HI : Fld := ⟨0x160, 32, 20, .ro, .guarded, 0x0, 1, true⟩

/-- R310: KR_VIEW_3 bits 19:0, SRC_LO. -/
def KR_VIEW_3_SRC_LO : Fld := ⟨0x160, 0, 20, .ro, .guarded, 0x0, 1, true⟩

/-- The fields of the CONTEXTS page (the common header apart). -/
def pageCONTEXTS : List Fld :=
    [CTX_SEL_CTX, CTX_VIEW_0_STATE, CTX_VIEW_0_HOME, CTX_VIEW_0_POISON, CTX_VIEW_0_PIN, CTX_VIEW_0_SRC_ANY,
     CTX_VIEW_0_RANGE, CTX_VIEW_0_OVF_MAX, CTX_VIEW_0_EVT_EN, CTX_VIEW_0_EVT_AGG, CTX_VIEW_0_SRC,
     CTX_VIEW_1_KEY, CTX_VIEW_2_CQ_ADDR, CTX_VIEW_2_CQ_LOG2, CTX_VIEW_3_CQ_PI_ADDR, CTX_VIEW_4_CQ_KEY,
     CTX_VIEW_5_CQ_NODE, CTX_VIEW_5_CQ_PI, CTX_VIEW_5_CQ_CI, CTX_VIEW_6_HEAD_BLK, CTX_VIEW_6_TAIL_BLK,
     CTX_VIEW_6_ENTRIES, CTX_VIEW_7_FAILED, CTX_VIEW_7_OVF_COUNT, CTX_VIEW_7_INFLIGHT, CTX_CMD_FORCE,
     CTX_CMD_OP, ME_SEL_HALF, ME_SEL_VALUE, ME_STAGE, ME_VIEW, KR_SEL, KR_VIEW_0_VALID, KR_VIEW_0_ANY_OK,
     KR_VIEW_0_CTX_HI, KR_VIEW_0_CTX_LO, KR_VIEW_1_KEY_LO, KR_VIEW_2_KEY_HI, KR_VIEW_3_SRC_HI, KR_VIEW_3_SRC_LO]

/-! Page CROSSING. -/

/-- R193: CX_CTRL bits 31:16, LOCK_TMO. -/
def CX_CTRL_LOCK_TMO : Fld := ⟨0x80, 16, 16, .rw, .live, 0x40, 1, false⟩

/-- R193: CX_CTRL bits 15:8, WR_HOLD. -/
def CX_CTRL_WR_HOLD : Fld := ⟨0x80, 8, 8, .rw, .live, 0x18, 1, false⟩

/-- R194: CX_STAT bits 56:51, LOCKS_OPEN. -/
def CX_STAT_LOCKS_OPEN : Fld := ⟨0x88, 51, 6, .ro, .plain, 0x0, 1, false⟩

/-- R194: CX_STAT bits 50:44, SEM_HELD. -/
def CX_STAT_SEM_HELD : Fld := ⟨0x88, 44, 7, .ro, .plain, 0x0, 1, false⟩

/-- R194: CX_STAT bits 43:27, TRK_USED. -/
def CX_STAT_TRK_USED : Fld := ⟨0x88, 27, 17, .ro, .plain, 0x0, 1, false⟩

/-- R194: CX_STAT bits 26:13, BLK_USED. -/
def CX_STAT_BLK_USED : Fld := ⟨0x88, 13, 14, .ro, .plain, 0x0, 1, false⟩

/-- R194: CX_STAT bits 12:0, REC_USED. -/
def CX_STAT_REC_USED : Fld := ⟨0x88, 0, 13, .ro, .plain, 0x0, 1, false⟩

/-- R195: CX_PWLOG_HEAD bits 31:0, HEAD. -/
def CX_PWLOG_HEAD : Fld := ⟨0x90, 0, 32, .ro, .plain, 0x0, 1, false⟩

/-- R195: CX_PWLOG_TAIL bits 31:0, TAIL. -/
def CX_PWLOG_TAIL : Fld := ⟨0x98, 0, 32, .rw, .live, 0x0, 1, false⟩

/-- R195: CX_FARLOG_HEAD bits 31:0, HEAD. -/
def CX_FARLOG_HEAD : Fld := ⟨0xa0, 0, 32, .ro, .plain, 0x0, 1, false⟩

/-- R195: CX_FARLOG_TAIL bits 31:0, TAIL. -/
def CX_FARLOG_TAIL : Fld := ⟨0xa8, 0, 32, .rw, .live, 0x0, 1, false⟩

/-- R195: CX_LOG_BASE bits 63:32, FAR_BASE. -/
def CX_LOG_BASE_FAR_BASE : Fld := ⟨0xb0, 32, 32, .ro, .plain, 0x0, 1, false⟩

/-- R195: CX_LOG_BASE bits 31:0, PW_BASE. -/
def CX_LOG_BASE_PW_BASE : Fld := ⟨0xb0, 0, 32, .ro, .plain, 0x0, 1, false⟩

/-- R196: CX_INB_SEL bits 8:0, INDEX. -/
def CX_INB_SEL_INDEX : Fld := ⟨0xb8, 0, 9, .rw, .live, 0x0, 1, false⟩

/-- R196: CX_INB_VIEW bits 63:63, EN. -/
def CX_INB_VIEW_EN : Fld := ⟨0xc0, 63, 1, .ro, .guarded, 0x0, 1, true⟩

/-- R196: CX_INB_VIEW bits 62:43, DST. -/
def CX_INB_VIEW_DST : Fld := ⟨0xc0, 43, 20, .ro, .guarded, 0x0, 1, true⟩

/-- R196: CX_INB_VIEW bits 42:15, BASE. -/
def CX_INB_VIEW_BASE : Fld := ⟨0xc0, 15, 28, .ro, .guarded, 0x0, 1, true⟩

/-- R196: CX_INB_KEY bits 63:0, KEY. -/
def CX_INB_KEY : Fld := ⟨0xc8, 0, 64, .ro, .guarded, 0x0, 1, true⟩

/-- R192: CX_LOCK_MAX bits 63:0, VALUE. -/
def CX_LOCK_MAX : Fld := ⟨0xd0, 0, 64, .ro, .plain, 0x0, 1, false⟩

/-- R192: CNT_PW_FAIL bits 31:0, count. -/
def CROSSING_CNT_PW_FAIL : Fld := ⟨0x100, 0, 32, .ro, .plain, 0x0, 1, false⟩

/-- R192: CNT_FAR_RD bits 31:0, count. -/
def CROSSING_CNT_FAR_RD : Fld := ⟨0x108, 0, 32, .ro, .plain, 0x0, 1, false⟩

/-- R192: CNT_NPW_FAIL bits 31:0, count. -/
def CROSSING_CNT_NPW_FAIL : Fld := ⟨0x110, 0, 32, .ro, .plain, 0x0, 1, false⟩

/-- R192: CNT_AMO_FAIL bits 31:0, count. -/
def CROSSING_CNT_AMO_FAIL : Fld := ⟨0x118, 0, 32, .ro, .plain, 0x0, 1, false⟩

/-- R192: CNT_LOCK bits 31:0, count. -/
def CROSSING_CNT_LOCK : Fld := ⟨0x120, 0, 32, .ro, .plain, 0x0, 1, false⟩

/-- R192: CNT_LOCK_BROKEN bits 31:0, count. -/
def CROSSING_CNT_LOCK_BROKEN : Fld := ⟨0x128, 0, 32, .ro, .plain, 0x0, 1, false⟩

/-- R192: CNT_WR_ERR bits 31:0, count. -/
def CROSSING_CNT_WR_ERR : Fld := ⟨0x130, 0, 32, .ro, .plain, 0x0, 1, false⟩

/-- R192: CNT_WRERR_ORPHAN bits 31:0, count. -/
def CROSSING_CNT_WRERR_ORPHAN : Fld := ⟨0x138, 0, 32, .ro, .plain, 0x0, 1, false⟩

/-- R192: CNT_PWLOG_OVF bits 31:0, count. -/
def CROSSING_CNT_PWLOG_OVF : Fld := ⟨0x140, 0, 32, .ro, .plain, 0x0, 1, false⟩

/-- R192: CNT_FARLOG_OVF bits 31:0, count. -/
def CROSSING_CNT_FARLOG_OVF : Fld := ⟨0x148, 0, 32, .ro, .plain, 0x0, 1, false⟩

/-- R192: CNT_INB_PW bits 31:0, count. -/
def CROSSING_CNT_INB_PW : Fld := ⟨0x150, 0, 32, .ro, .plain, 0x0, 1, false⟩

/-- R192: CNT_INB_DROP bits 31:0, count. -/
def CROSSING_CNT_INB_DROP : Fld := ⟨0x158, 0, 32, .ro, .plain, 0x0, 1, false⟩

/-- R192: CNT_INT bits 31:0, count. -/
def CROSSING_CNT_INT : Fld := ⟨0x160, 0, 32, .ro, .plain, 0x0, 1, false⟩

/-- R192: CNT_TRK_FULL bits 31:0, count. -/
def CROSSING_CNT_TRK_FULL : Fld := ⟨0x168, 0, 32, .ro, .plain, 0x0, 1, false⟩

/-- R192: CX_CNT_CLR bits 0:0, CLR. -/
def CX_CNT_CLR : Fld := ⟨0x170, 0, 1, .wo, .live, 0x0, 1, false⟩

/-- R197: CX_LOCK_BUDGET bits 15:0, LOCK_BUDGET. -/
def CX_LOCK_BUDGET : Fld := ⟨0x200, 0, 16, .rw, .live, 0x1388, 32, false⟩

/-- The fields of the CROSSING page (the common header apart). -/
def pageCROSSING : List Fld :=
    [CX_CTRL_LOCK_TMO, CX_CTRL_WR_HOLD, CX_STAT_LOCKS_OPEN, CX_STAT_SEM_HELD, CX_STAT_TRK_USED,
     CX_STAT_BLK_USED, CX_STAT_REC_USED, CX_PWLOG_HEAD, CX_PWLOG_TAIL, CX_FARLOG_HEAD, CX_FARLOG_TAIL,
     CX_LOG_BASE_FAR_BASE, CX_LOG_BASE_PW_BASE, CX_INB_SEL_INDEX, CX_INB_VIEW_EN, CX_INB_VIEW_DST,
     CX_INB_VIEW_BASE, CX_INB_KEY, CX_LOCK_MAX, CROSSING_CNT_PW_FAIL, CROSSING_CNT_FAR_RD, CROSSING_CNT_NPW_FAIL,
     CROSSING_CNT_AMO_FAIL, CROSSING_CNT_LOCK, CROSSING_CNT_LOCK_BROKEN, CROSSING_CNT_WR_ERR, CROSSING_CNT_WRERR_ORPHAN,
     CROSSING_CNT_PWLOG_OVF, CROSSING_CNT_FARLOG_OVF, CROSSING_CNT_INB_PW, CROSSING_CNT_INB_DROP,
     CROSSING_CNT_INT, CROSSING_CNT_TRK_FULL, CX_CNT_CLR, CX_LOCK_BUDGET]

/-! Page DATA_PORT. -/

/-- R515: DP_ADDR bits 63:0, ADDR. -/
def DP_ADDR : Fld := ⟨0x80, 0, 64, .rw, .live, 0x0, 1, false⟩

/-- R515: DP_CFG bits 1:0, SPACE. -/
def DP_CFG_SPACE : Fld := ⟨0x88, 0, 2, .rw, .live, 0x0, 1, false⟩

/-- R515: DP_STRIDE bits 31:2, STRIDE. -/
def DP_STRIDE : Fld := ⟨0x90, 2, 30, .rw, .live, 0x2, 1, false⟩

/-- R515: DP_DATA bits 63:0, DATA. -/
def DP_DATA : Fld := ⟨0x98, 0, 64, .rw, .live, 0x0, 1, false⟩

/-- R515: DP_STAT bits 63:63, BUSY. -/
def DP_STAT_BUSY : Fld := ⟨0xa0, 63, 1, .ro, .plain, 0x0, 1, false⟩

/-- R515: DP_STAT bits 62:62, ERR_VALID. -/
def DP_STAT_ERR_VALID : Fld := ⟨0xa0, 62, 1, .ro, .plain, 0x0, 1, false⟩

/-- R515: DP_STAT bits 47:40, ERR_CODE. -/
def DP_STAT_ERR_CODE : Fld := ⟨0xa0, 40, 8, .ro, .plain, 0x0, 1, false⟩

/-- R515: DP_STAT bits 31:0, ERR_COUNT. -/
def DP_STAT_ERR_COUNT : Fld := ⟨0xa0, 0, 32, .ro, .plain, 0x0, 1, false⟩

/-- R515: DP_ERR_ADDR bits 63:0, ADDR. -/
def DP_ERR_ADDR : Fld := ⟨0xa8, 0, 64, .ro, .plain, 0x0, 1, false⟩

/-- R515: DP_WIN bits 63:20, BASE. -/
def DP_WIN_BASE : Fld := ⟨0xb0, 20, 44, .rw, .live, 0x0, 1, false⟩

/-- R515: DP_WIN bits 1:0, SPACE. -/
def DP_WIN_SPACE : Fld := ⟨0xb0, 0, 2, .rw, .live, 0x0, 1, false⟩

/-- R515: DP_CLR bits 0:0, CLR. -/
def DP_CLR : Fld := ⟨0xb8, 0, 1, .wo, .live, 0x0, 1, false⟩

/-- The fields of the DATA_PORT page (the common header apart). -/
def pageDATA_PORT : List Fld :=
    [DP_ADDR, DP_CFG_SPACE, DP_STRIDE, DP_DATA, DP_STAT_BUSY, DP_STAT_ERR_VALID, DP_STAT_ERR_CODE,
     DP_STAT_ERR_COUNT, DP_ERR_ADDR, DP_WIN_BASE, DP_WIN_SPACE, DP_CLR]

/-! Page DIKAR. -/

/-- R302: DK_CTRL bits 16:8, PULL_WIN. -/
def DK_CTRL_PULL_WIN : Fld := ⟨0x80, 8, 9, .rw, .live, 0x40, 1, false⟩

/-- R302: DK_CTRL bits 0:0, EN. -/
def DK_CTRL_EN : Fld := ⟨0x80, 0, 1, .rw, .live, 0x0, 1, false⟩

/-- R303: DK_STAT bits 59:32, NAMES. -/
def DK_STAT_NAMES : Fld := ⟨0x88, 32, 28, .ro, .plain, 0x0, 1, false⟩

/-- R303: DK_STAT bits 30:30, NS_LOCAL. -/
def DK_STAT_NS_LOCAL : Fld := ⟨0x88, 30, 1, .ro, .plain, 0x0, 1, false⟩

/-- R303: DK_STAT bits 29:15, HIGH_WATER. -/
def DK_STAT_HIGH_WATER : Fld := ⟨0x88, 15, 15, .ro, .plain, 0x0, 1, false⟩

/-- R303: DK_STAT bits 14:0, INFLIGHT. -/
def DK_STAT_INFLIGHT : Fld := ⟨0x88, 0, 15, .ro, .plain, 0x0, 1, false⟩

/-- R304: DK_TMO bits 63:32, RETRY_US. -/
def DK_TMO_RETRY_US : Fld := ⟨0x90, 32, 32, .rw, .live, 0x3e8, 1, false⟩

/-- R304: DK_TMO bits 15:0, NS_TMO. -/
def DK_TMO_NS_TMO : Fld := ⟨0x90, 0, 16, .rw, .live, 0xc8, 1, false⟩

/-- R301: CNT_REQ bits 31:0, count. -/
def DIKAR_CNT_REQ : Fld := ⟨0x100, 0, 32, .ro, .plain, 0x0, 1, false⟩

/-- R301: CNT_PUT bits 31:0, count. -/
def DIKAR_CNT_PUT : Fld := ⟨0x108, 0, 32, .ro, .plain, 0x0, 1, false⟩

/-- R301: CNT_GET bits 31:0, count. -/
def DIKAR_CNT_GET : Fld := ⟨0x110, 0, 32, .ro, .plain, 0x0, 1, false⟩

/-- R301: CNT_APPEND bits 31:0, count. -/
def DIKAR_CNT_APPEND : Fld := ⟨0x118, 0, 32, .ro, .plain, 0x0, 1, false⟩

/-- R301: CNT_DELETE bits 31:0, count. -/
def DIKAR_CNT_DELETE : Fld := ⟨0x120, 0, 32, .ro, .plain, 0x0, 1, false⟩

/-- R301: CNT_STAT bits 31:0, count. -/
def DIKAR_CNT_STAT : Fld := ⟨0x128, 0, 32, .ro, .plain, 0x0, 1, false⟩

/-- R301: CNT_FENCE bits 31:0, count. -/
def DIKAR_CNT_FENCE : Fld := ⟨0x130, 0, 32, .ro, .plain, 0x0, 1, false⟩

/-- R301: CNT_FAILED bits 31:0, count. -/
def DIKAR_CNT_FAILED : Fld := ⟨0x138, 0, 32, .ro, .plain, 0x0, 1, false⟩

/-- R301: CNT_RETRY_ELSEWHERE bits 31:0, count. -/
def DIKAR_CNT_RETRY_ELSEWHERE : Fld := ⟨0x140, 0, 32, .ro, .plain, 0x0, 1, false⟩

/-- R301: CNT_PULL_FAIL bits 31:0, count. -/
def DIKAR_CNT_PULL_FAIL : Fld := ⟨0x148, 0, 32, .ro, .plain, 0x0, 1, false⟩

/-- R301: CNT_MEDIA_LOST bits 31:0, count. -/
def DIKAR_CNT_MEDIA_LOST : Fld := ⟨0x150, 0, 32, .ro, .plain, 0x0, 1, false⟩

/-- R301: CNT_OBJ_GONE bits 31:0, count. -/
def DIKAR_CNT_OBJ_GONE : Fld := ⟨0x158, 0, 32, .ro, .plain, 0x0, 1, false⟩

/-- R301: CNT_MERGE_FAIL bits 31:0, count. -/
def DIKAR_CNT_MERGE_FAIL : Fld := ⟨0x160, 0, 32, .ro, .plain, 0x0, 1, false⟩

/-- R301: CNT_BAD_MSG bits 31:0, count. -/
def DIKAR_CNT_BAD_MSG : Fld := ⟨0x168, 0, 32, .ro, .plain, 0x0, 1, false⟩

/-- R301: CNT_NAME_REPAIR bits 31:0, count. -/
def DIKAR_CNT_NAME_REPAIR : Fld := ⟨0x170, 0, 32, .ro, .plain, 0x0, 1, false⟩

/-- R301: DK_CNT_CLR bits 0:0, CLR. -/
def DK_CNT_CLR : Fld := ⟨0x178, 0, 1, .wo, .live, 0x0, 1, false⟩

/-- The fields of the DIKAR page (the common header apart). -/
def pageDIKAR : List Fld :=
    [DK_CTRL_PULL_WIN, DK_CTRL_EN, DK_STAT_NAMES, DK_STAT_NS_LOCAL, DK_STAT_HIGH_WATER, DK_STAT_INFLIGHT,
     DK_TMO_RETRY_US, DK_TMO_NS_TMO, DIKAR_CNT_REQ, DIKAR_CNT_PUT, DIKAR_CNT_GET, DIKAR_CNT_APPEND,
     DIKAR_CNT_DELETE, DIKAR_CNT_STAT, DIKAR_CNT_FENCE, DIKAR_CNT_FAILED, DIKAR_CNT_RETRY_ELSEWHERE,
     DIKAR_CNT_PULL_FAIL, DIKAR_CNT_MEDIA_LOST, DIKAR_CNT_OBJ_GONE, DIKAR_CNT_MERGE_FAIL, DIKAR_CNT_BAD_MSG,
     DIKAR_CNT_NAME_REPAIR, DK_CNT_CLR]

/-! Page EASEL. -/

/-- R398: EZ_CTRL bits 23:16, SCRUB_H. -/
def EZ_CTRL_SCRUB_H : Fld := ⟨0x80, 16, 8, .rw, .live, 0x18, 1, false⟩

/-- R398: EZ_CTRL bits 4:0, RESERVE_PCT. -/
def EZ_CTRL_RESERVE_PCT : Fld := ⟨0x80, 0, 5, .rw, .live, 0x2, 1, false⟩

/-- R397: EZ_WB_STAT0 bits 56:32, USED. -/
def EZ_WB_STAT0_USED : Fld := ⟨0x88, 32, 25, .ro, .plain, 0x0, 1, false⟩

/-- R397: EZ_WB_STAT0 bits 24:0, TOTAL. -/
def EZ_WB_STAT0_TOTAL : Fld := ⟨0x88, 0, 25, .ro, .plain, 0x0, 1, false⟩

/-- R397: EZ_WB_STAT1 bits 56:32, PENDING. -/
def EZ_WB_STAT1_PENDING : Fld := ⟨0x90, 32, 25, .ro, .plain, 0x0, 1, false⟩

/-- R397: EZ_WB_STAT1 bits 24:0, RESERVE. -/
def EZ_WB_STAT1_RESERVE : Fld := ⟨0x90, 0, 25, .ro, .plain, 0x0, 1, false⟩

/-- R397: EZ_JRNL_STAT bits 44:32, FILL. -/
def EZ_JRNL_STAT_FILL : Fld := ⟨0x98, 32, 13, .ro, .plain, 0x0, 1, false⟩

/-- R397: EZ_JRNL_STAT bits 3:0, REPLAY. -/
def EZ_JRNL_STAT_REPLAY : Fld := ⟨0x98, 0, 4, .ro, .plain, 0x0, 1, false⟩

/-- R397: EZ_JSEQ bits 63:0, VALUE. -/
def EZ_JSEQ : Fld := ⟨0xa0, 0, 64, .ro, .plain, 0x0, 1, false⟩

/-- R397: EZ_ELOG_HEAD bits 31:0, HEAD. -/
def EZ_ELOG_HEAD : Fld := ⟨0xa8, 0, 32, .ro, .plain, 0x0, 1, false⟩

/-- R397: EZ_ELOG_TAIL bits 31:0, TAIL. -/
def EZ_ELOG_TAIL : Fld := ⟨0xb0, 0, 32, .rw, .live, 0x0, 1, false⟩

/-- R397: EZ_STK_SEL bits 1:0, VALUE. -/
def EZ_STK_SEL : Fld := ⟨0xb8, 0, 2, .rw, .live, 0x0, 1, false⟩

/-- R399: EZ_STK_VIEW_0 bits 63:0, LINE_WRITES. -/
def EZ_STK_VIEW_0_LINE_WRITES : Fld := ⟨0xc0, 0, 64, .ro, .plain, 0x0, 1, true⟩

/-- R399: EZ_STK_VIEW_1 bits 63:63, WARN. -/
def EZ_STK_VIEW_1_WARN : Fld := ⟨0xc8, 63, 1, .ro, .plain, 0x0, 1, true⟩

/-- R399: EZ_STK_VIEW_1 bits 62:62, SPARES_OUT. -/
def EZ_STK_VIEW_1_SPARES_OUT : Fld := ⟨0xc8, 62, 1, .ro, .plain, 0x0, 1, true⟩

/-- R399: EZ_STK_VIEW_1 bits 51:32, LIFE_PPM. -/
def EZ_STK_VIEW_1_LIFE_PPM : Fld := ⟨0xc8, 32, 20, .ro, .plain, 0x0, 1, true⟩

/-- R399: EZ_STK_VIEW_1 bits 18:0, SPARES_LEFT. -/
def EZ_STK_VIEW_1_SPARES_LEFT : Fld := ⟨0xc8, 0, 19, .ro, .plain, 0x40000, 1, true⟩

/-- R399: EZ_STK_VIEW_2 bits 63:32, ROT_PASSES. -/
def EZ_STK_VIEW_2_ROT_PASSES : Fld := ⟨0xd0, 32, 32, .ro, .plain, 0x0, 1, true⟩

/-- R399: EZ_STK_VIEW_2 bits 31:0, RETIRED. -/
def EZ_STK_VIEW_2_RETIRED : Fld := ⟨0xd0, 0, 32, .ro, .plain, 0x0, 1, true⟩

/-- R399: EZ_STK_VIEW_3 bits 63:32, CORR. -/
def EZ_STK_VIEW_3_CORR : Fld := ⟨0xd8, 32, 32, .ro, .plain, 0x0, 1, true⟩

/-- R399: EZ_STK_VIEW_3 bits 31:0, UNCORR. -/
def EZ_STK_VIEW_3_UNCORR : Fld := ⟨0xd8, 0, 32, .ro, .plain, 0x0, 1, true⟩

/-- R397: CNT_CORR bits 31:0, count. -/
def EASEL_CNT_CORR : Fld := ⟨0x100, 0, 32, .ro, .plain, 0x0, 1, false⟩

/-- R397: CNT_UNCORR bits 31:0, count. -/
def EASEL_CNT_UNCORR : Fld := ⟨0x108, 0, 32, .ro, .plain, 0x0, 1, false⟩

/-- R397: CNT_RETIRE bits 31:0, count. -/
def EASEL_CNT_RETIRE : Fld := ⟨0x110, 0, 32, .ro, .plain, 0x0, 1, false⟩

/-- R397: CNT_DATA_LOST bits 31:0, count. -/
def EASEL_CNT_DATA_LOST : Fld := ⟨0x118, 0, 32, .ro, .plain, 0x0, 1, false⟩

/-- R397: CNT_META_LOST bits 31:0, count. -/
def EASEL_CNT_META_LOST : Fld := ⟨0x120, 0, 32, .ro, .plain, 0x0, 1, false⟩

/-- R397: CNT_WB_WAIT bits 31:0, count. -/
def EASEL_CNT_WB_WAIT : Fld := ⟨0x128, 0, 32, .ro, .plain, 0x0, 1, false⟩

/-- R397: CNT_JRNL_WAIT bits 31:0, count. -/
def EASEL_CNT_JRNL_WAIT : Fld := ⟨0x130, 0, 32, .ro, .plain, 0x0, 1, false⟩

/-- R397: CNT_CACHE_HIT bits 31:0, count. -/
def EASEL_CNT_CACHE_HIT : Fld := ⟨0x138, 0, 32, .ro, .plain, 0x0, 1, false⟩

/-- R397: CNT_CACHE_MISS bits 31:0, count. -/
def EASEL_CNT_CACHE_MISS : Fld := ⟨0x140, 0, 32, .ro, .plain, 0x0, 1, false⟩

/-- R397: CNT_CACHE_INVAL bits 31:0, count. -/
def EASEL_CNT_CACHE_INVAL : Fld := ⟨0x148, 0, 32, .ro, .plain, 0x0, 1, false⟩

/-- R397: CNT_ELOG_OVF bits 31:0, count. -/
def EASEL_CNT_ELOG_OVF : Fld := ⟨0x150, 0, 32, .ro, .plain, 0x0, 1, false⟩

/-- R397: EZ_CNT_CLR bits 0:0, CLR. -/
def EZ_CNT_CLR : Fld := ⟨0x158, 0, 1, .wo, .live, 0x0, 1, false⟩

/-- The fields of the EASEL page (the common header apart). -/
def pageEASEL : List Fld :=
    [EZ_CTRL_SCRUB_H, EZ_CTRL_RESERVE_PCT, EZ_WB_STAT0_USED, EZ_WB_STAT0_TOTAL, EZ_WB_STAT1_PENDING,
     EZ_WB_STAT1_RESERVE, EZ_JRNL_STAT_FILL, EZ_JRNL_STAT_REPLAY, EZ_JSEQ, EZ_ELOG_HEAD, EZ_ELOG_TAIL,
     EZ_STK_SEL, EZ_STK_VIEW_0_LINE_WRITES, EZ_STK_VIEW_1_WARN, EZ_STK_VIEW_1_SPARES_OUT, EZ_STK_VIEW_1_LIFE_PPM,
     EZ_STK_VIEW_1_SPARES_LEFT, EZ_STK_VIEW_2_ROT_PASSES, EZ_STK_VIEW_2_RETIRED, EZ_STK_VIEW_3_CORR,
     EZ_STK_VIEW_3_UNCORR, EASEL_CNT_CORR, EASEL_CNT_UNCORR, EASEL_CNT_RETIRE, EASEL_CNT_DATA_LOST,
     EASEL_CNT_META_LOST, EASEL_CNT_WB_WAIT, EASEL_CNT_JRNL_WAIT, EASEL_CNT_CACHE_HIT, EASEL_CNT_CACHE_MISS,
     EASEL_CNT_CACHE_INVAL, EASEL_CNT_ELOG_OVF, EZ_CNT_CLR]

/-! Page EASEL_GLOBAL. -/

/-- R396: EZG_CTRL bits 1:1, WL_EN. -/
def EZG_CTRL_WL_EN : Fld := ⟨0x80, 1, 1, .rw, .stopped, 0x1, 1, false⟩

/-- R396: EZG_CTRL bits 0:0, SVC. -/
def EZG_CTRL_SVC : Fld := ⟨0x80, 0, 1, .rw, .live, 0x0, 1, false⟩

/-- R396: EZG_STAT bits 63:32, CARVE_GEN. -/
def EZG_STAT_CARVE_GEN : Fld := ⟨0x88, 32, 32, .ro, .plain, 0x0, 1, false⟩

/-- R396: EZG_STAT bits 15:12, CAUSE. -/
def EZG_STAT_CAUSE : Fld := ⟨0x88, 12, 4, .ro, .plain, 0x0, 1, false⟩

/-- R396: EZG_STAT bits 11:8, E_REPLAY. -/
def EZG_STAT_E_REPLAY : Fld := ⟨0x88, 8, 4, .ro, .plain, 0x0, 1, false⟩

/-- R396: EZG_STAT bits 7:4, W_REPLAY. -/
def EZG_STAT_W_REPLAY : Fld := ⟨0x88, 4, 4, .ro, .plain, 0x0, 1, false⟩

/-- R396: EZG_STAT bits 3:0, STATE. -/
def EZG_STAT_STATE : Fld := ⟨0x88, 0, 4, .ro, .plain, 0x0, 1, false⟩

/-- R396: EZG_CARVE bits 63:59, NAME_LOG2. -/
def EZG_CARVE_NAME_LOG2 : Fld := ⟨0x90, 59, 5, .rw, .stopped, 0x0, 1, false⟩

/-- R396: EZG_CARVE bits 58:53, MAP_GIB. -/
def EZG_CARVE_MAP_GIB : Fld := ⟨0x90, 53, 6, .rw, .stopped, 0x0, 1, false⟩

/-- R396: EZG_CARVE bits 52:43, TRACK_GIB. -/
def EZG_CARVE_TRACK_GIB : Fld := ⟨0x90, 43, 10, .rw, .stopped, 0x0, 1, false⟩

/-- R396: EZG_CARVE bits 42:33, STREAM_GIB. -/
def EZG_CARVE_STREAM_GIB : Fld := ⟨0x90, 33, 10, .rw, .stopped, 0x0, 1, false⟩

/-- R396: EZG_CARVE bits 32:23, RING_GIB. -/
def EZG_CARVE_RING_GIB : Fld := ⟨0x90, 23, 10, .rw, .stopped, 0x0, 1, false⟩

/-- R396: EZG_CARVE bits 22:13, CACHE_GIB. -/
def EZG_CARVE_CACHE_GIB : Fld := ⟨0x90, 13, 10, .rw, .stopped, 0x0, 1, false⟩

/-- R396: EZG_CARVE bits 12:10, FIFO_OFF. -/
def EZG_CARVE_FIFO_OFF : Fld := ⟨0x90, 10, 3, .rw, .stopped, 0x0, 1, false⟩

/-- R396: EZG_CMD bits 63:32, GEN. -/
def EZG_CMD_GEN : Fld := ⟨0x98, 32, 32, .wo, .live, 0x0, 1, false⟩

/-- R396: EZG_CMD bits 3:0, OP. -/
def EZG_CMD_OP : Fld := ⟨0x98, 0, 4, .wo, .live, 0x0, 1, false⟩

/-- R396: EZG_WEAR bits 19:0, WARN_PPM. -/
def EZG_WEAR_WARN_PPM : Fld := ⟨0xa0, 0, 20, .rw, .live, 0xdbba0, 1, false⟩

/-- The fields of the EASEL_GLOBAL page (the common header apart). -/
def pageEASEL_GLOBAL : List Fld :=
    [EZG_CTRL_WL_EN, EZG_CTRL_SVC, EZG_STAT_CARVE_GEN, EZG_STAT_CAUSE, EZG_STAT_E_REPLAY, EZG_STAT_W_REPLAY,
     EZG_STAT_STATE, EZG_CARVE_NAME_LOG2, EZG_CARVE_MAP_GIB, EZG_CARVE_TRACK_GIB, EZG_CARVE_STREAM_GIB,
     EZG_CARVE_RING_GIB, EZG_CARVE_CACHE_GIB, EZG_CARVE_FIFO_OFF, EZG_CMD_GEN, EZG_CMD_OP, EZG_WEAR_WARN_PPM]

/-! Page EGRESS. -/

/-- R89: EGR_CTRL bits 31:16, FLOW_SETTLE. -/
def EGR_CTRL_FLOW_SETTLE : Fld := ⟨0x80, 16, 16, .rw, .live, 0x14, 1, false⟩

/-- R89: EGR_CTRL bits 1:1, SPAN_SPILL. -/
def EGR_CTRL_SPAN_SPILL : Fld := ⟨0x80, 1, 1, .rw, .live, 0x1, 1, false⟩

/-- R89: EGR_CTRL bits 0:0, ADAPT_EN. -/
def EGR_CTRL_ADAPT_EN : Fld := ⟨0x80, 0, 1, .rw, .live, 0x1, 1, false⟩

/-- R89: EGR_PORT_MASK bits 7:0, ELIGIBLE. -/
def EGR_PORT_MASK_ELIGIBLE : Fld := ⟨0x88, 0, 8, .rw, .live, 0xff, 1, false⟩

/-- R89: EGR_RSP_TMO bits 15:0, RSP_TMO. -/
def EGR_RSP_TMO : Fld := ⟨0x90, 0, 16, .rw, .live, 0x3e8, 1, false⟩

/-- The fields of the EGRESS page (the common header apart). -/
def pageEGRESS : List Fld :=
    [EGR_CTRL_FLOW_SETTLE, EGR_CTRL_SPAN_SPILL, EGR_CTRL_ADAPT_EN, EGR_PORT_MASK_ELIGIBLE, EGR_RSP_TMO]

/-! Page ERASURE. -/

/-- R426: ER_CTRL bits 55:48, GESSO_PAR. -/
def ER_CTRL_GESSO_PAR : Fld := ⟨0x80, 48, 8, .rw, .live, 0x10, 1, false⟩

/-- R426: ER_CTRL bits 47:32, REPAIR_DELAY_S. -/
def ER_CTRL_REPAIR_DELAY_S : Fld := ⟨0x80, 32, 16, .rw, .live, 0x12c, 1, false⟩

/-- R426: ER_CTRL bits 31:16, REPAIR_MAX. -/
def ER_CTRL_REPAIR_MAX : Fld := ⟨0x80, 16, 16, .rw, .live, 0x40, 1, false⟩

/-- R426: ER_CTRL bits 15:8, SCRUB_DAYS. -/
def ER_CTRL_SCRUB_DAYS : Fld := ⟨0x80, 8, 8, .rw, .live, 0x1e, 1, false⟩

/-- R426: ER_CTRL bits 1:1, REPAIR_EN. -/
def ER_CTRL_REPAIR_EN : Fld := ⟨0x80, 1, 1, .rw, .live, 0x1, 1, false⟩

/-- R426: ER_CTRL bits 0:0, SCRUB_EN. -/
def ER_CTRL_SCRUB_EN : Fld := ⟨0x80, 0, 1, .rw, .live, 0x0, 1, false⟩

/-- R427: ER_STAT bits 59:56, JOBS. -/
def ER_STAT_JOBS : Fld := ⟨0x88, 56, 4, .ro, .plain, 0x0, 1, false⟩

/-- R427: ER_STAT bits 46:30, UNREADABLE. -/
def ER_STAT_UNREADABLE : Fld := ⟨0x88, 30, 17, .ro, .plain, 0x0, 1, false⟩

/-- R427: ER_STAT bits 29:17, ACTIVE. -/
def ER_STAT_ACTIVE : Fld := ⟨0x88, 17, 13, .ro, .plain, 0x0, 1, false⟩

/-- R427: ER_STAT bits 16:0, QUEUED. -/
def ER_STAT_QUEUED : Fld := ⟨0x88, 0, 17, .ro, .plain, 0x0, 1, false⟩

/-- R428: GS_TGT bits 19:14, PORT. -/
def GS_TGT_PORT : Fld := ⟨0x90, 14, 6, .rw, .live, 0x0, 1, false⟩

/-- R428: GS_TGT bits 13:10, STN. -/
def GS_TGT_STN : Fld := ⟨0x90, 10, 4, .rw, .live, 0x0, 1, false⟩

/-- R428: GS_TGT bits 6:0, UNIT. -/
def GS_TGT_UNIT : Fld := ⟨0x90, 0, 7, .rw, .live, 0x7f, 1, false⟩

/-- R425: GS_CMD bits 10:8, JOB. -/
def GS_CMD_JOB : Fld := ⟨0x98, 8, 3, .wo, .live, 0x0, 1, false⟩

/-- R425: GS_CMD bits 3:0, OP. -/
def GS_CMD_OP : Fld := ⟨0x98, 0, 4, .wo, .live, 0x0, 1, false⟩

/-- R425: GS_SEL bits 2:0, VALUE. -/
def GS_SEL : Fld := ⟨0xa0, 0, 3, .rw, .live, 0x0, 1, false⟩

/-- R428: GS_VIEW_0 bits 63:62, STATE. -/
def GS_VIEW_0_STATE : Fld := ⟨0xa8, 62, 2, .ro, .plain, 0x0, 1, true⟩

/-- R428: GS_VIEW_0 bits 61:56, PORT. -/
def GS_VIEW_0_PORT : Fld := ⟨0xa8, 56, 6, .ro, .plain, 0x0, 1, true⟩

/-- R428: GS_VIEW_0 bits 55:52, STN. -/
def GS_VIEW_0_STN : Fld := ⟨0xa8, 52, 4, .ro, .plain, 0x0, 1, true⟩

/-- R428: GS_VIEW_0 bits 51:45, UNIT. -/
def GS_VIEW_0_UNIT : Fld := ⟨0xa8, 45, 7, .ro, .plain, 0x0, 1, true⟩

/-- R428: GS_VIEW_0 bits 44:38, TOTAL. -/
def GS_VIEW_0_TOTAL : Fld := ⟨0xa8, 38, 7, .ro, .plain, 0x0, 1, true⟩

/-- R428: GS_VIEW_0 bits 37:31, DONE. -/
def GS_VIEW_0_DONE : Fld := ⟨0xa8, 31, 7, .ro, .plain, 0x0, 1, true⟩

/-- R428: GS_VIEW_0 bits 30:24, FAILED. -/
def GS_VIEW_0_FAILED : Fld := ⟨0xa8, 24, 7, .ro, .plain, 0x0, 1, true⟩

/-- R428: GS_VIEW_1 bits 63:32, TRACKS_TOTAL. -/
def GS_VIEW_1_TRACKS_TOTAL : Fld := ⟨0xb0, 32, 32, .ro, .plain, 0x0, 1, true⟩

/-- R428: GS_VIEW_1 bits 31:0, TRACKS_DONE. -/
def GS_VIEW_1_TRACKS_DONE : Fld := ⟨0xb0, 0, 32, .ro, .plain, 0x0, 1, true⟩

/-- R425: ER_LIGHT_SEL bits 13:0, VALUE. -/
def ER_LIGHT_SEL : Fld := ⟨0xb8, 0, 14, .rw, .live, 0x0, 1, false⟩

/-- R425: ER_LIGHT_VIEW bits 63:62, PREP. -/
def ER_LIGHT_VIEW_PREP : Fld := ⟨0xc0, 62, 2, .ro, .plain, 0x0, 1, true⟩

/-- R425: ER_LIGHT_VIEW bits 31:0, SCRUB_TRACK. -/
def ER_LIGHT_VIEW_SCRUB_TRACK : Fld := ⟨0xc0, 0, 32, .ro, .plain, 0x0, 1, true⟩

/-- R425: ER_PASS_START bits 63:0, VALUE. -/
def ER_PASS_START : Fld := ⟨0xc8, 0, 64, .ro, .plain, 0x0, 1, true⟩

/-- R425: CNT_PARITY bits 31:0, count. -/
def ERASURE_CNT_PARITY : Fld := ⟨0x100, 0, 32, .ro, .plain, 0x0, 1, false⟩

/-- R425: CNT_SEAL_BAD bits 31:0, count. -/
def ERASURE_CNT_SEAL_BAD : Fld := ⟨0x108, 0, 32, .ro, .plain, 0x0, 1, false⟩

/-- R425: CNT_CRC_BAD bits 31:0, count. -/
def ERASURE_CNT_CRC_BAD : Fld := ⟨0x110, 0, 32, .ro, .plain, 0x0, 1, false⟩

/-- R425: CNT_SCRUB bits 31:0, count. -/
def ERASURE_CNT_SCRUB : Fld := ⟨0x118, 0, 32, .ro, .plain, 0x0, 1, false⟩

/-- R425: CNT_REPAIR bits 31:0, count. -/
def ERASURE_CNT_REPAIR : Fld := ⟨0x120, 0, 32, .ro, .plain, 0x0, 1, false⟩

/-- R425: CNT_REVIVE bits 31:0, count. -/
def ERASURE_CNT_REVIVE : Fld := ⟨0x128, 0, 32, .ro, .plain, 0x0, 1, false⟩

/-- R425: CNT_UNREADABLE bits 31:0, count. -/
def ERASURE_CNT_UNREADABLE : Fld := ⟨0x130, 0, 32, .ro, .plain, 0x0, 1, false⟩

/-- R425: CNT_GS_BAD bits 31:0, count. -/
def ERASURE_CNT_GS_BAD : Fld := ⟨0x138, 0, 32, .ro, .plain, 0x0, 1, false⟩

/-- R425: ER_CNT_CLR bits 0:0, CLR. -/
def ER_CNT_CLR : Fld := ⟨0x140, 0, 1, .wo, .live, 0x0, 1, false⟩

/-- The fields of the ERASURE page (the common header apart). -/
def pageERASURE : List Fld :=
    [ER_CTRL_GESSO_PAR, ER_CTRL_REPAIR_DELAY_S, ER_CTRL_REPAIR_MAX, ER_CTRL_SCRUB_DAYS, ER_CTRL_REPAIR_EN,
     ER_CTRL_SCRUB_EN, ER_STAT_JOBS, ER_STAT_UNREADABLE, ER_STAT_ACTIVE, ER_STAT_QUEUED, GS_TGT_PORT,
     GS_TGT_STN, GS_TGT_UNIT, GS_CMD_JOB, GS_CMD_OP, GS_SEL, GS_VIEW_0_STATE, GS_VIEW_0_PORT, GS_VIEW_0_STN,
     GS_VIEW_0_UNIT, GS_VIEW_0_TOTAL, GS_VIEW_0_DONE, GS_VIEW_0_FAILED, GS_VIEW_1_TRACKS_TOTAL, GS_VIEW_1_TRACKS_DONE,
     ER_LIGHT_SEL, ER_LIGHT_VIEW_PREP, ER_LIGHT_VIEW_SCRUB_TRACK, ER_PASS_START, ERASURE_CNT_PARITY,
     ERASURE_CNT_SEAL_BAD, ERASURE_CNT_CRC_BAD, ERASURE_CNT_SCRUB, ERASURE_CNT_REPAIR, ERASURE_CNT_REVIVE,
     ERASURE_CNT_UNREADABLE, ERASURE_CNT_GS_BAD, ER_CNT_CLR]

/-! Page FIU. -/

/-- R84: FIU_LINK_CTRL bits 31:24, REPLAY_TMO. -/
def FIU_LINK_CTRL_REPLAY_TMO : Fld := ⟨0x80, 24, 8, .rw, .live, 0x10, 1, false⟩

/-- R84: FIU_LINK_CTRL bits 23:20, REPLAY_LIMIT. -/
def FIU_LINK_CTRL_REPLAY_LIMIT : Fld := ⟨0x80, 20, 4, .rw, .live, 0x4, 1, false⟩

/-- R84: FIU_LINK_CTRL bits 19:16, RECOVER_LIMIT. -/
def FIU_LINK_CTRL_RECOVER_LIMIT : Fld := ⟨0x80, 16, 4, .rw, .live, 0x3, 1, false⟩

/-- R84: FIU_LINK_CTRL bits 7:7, WIDTH4_OK. -/
def FIU_LINK_CTRL_WIDTH4_OK : Fld := ⟨0x80, 7, 1, .rw, .stopped, 0x1, 1, false⟩

/-- R84: FIU_LINK_CTRL bits 6:6, LP_REQ. -/
def FIU_LINK_CTRL_LP_REQ : Fld := ⟨0x80, 6, 1, .rw, .live, 0x0, 1, false⟩

/-- R84: FIU_LINK_CTRL bits 1:1, RETRAIN. -/
def FIU_LINK_CTRL_RETRAIN : Fld := ⟨0x80, 1, 1, .wo, .live, 0x0, 1, false⟩

/-- R84: FIU_LINK_CTRL bits 0:0, EN. -/
def FIU_LINK_CTRL_EN : Fld := ⟨0x80, 0, 1, .rw, .live, 0x0, 1, false⟩

/-- R85: FIU_LINK_STAT bits 59:40, PEER_NODE. -/
def FIU_LINK_STAT_PEER_NODE : Fld := ⟨0x88, 40, 20, .ro, .plain, 0x0, 1, false⟩

/-- R85: FIU_LINK_STAT bits 39:32, PEER_PORT. -/
def FIU_LINK_STAT_PEER_PORT : Fld := ⟨0x88, 32, 8, .ro, .plain, 0x0, 1, false⟩

/-- R85: FIU_LINK_STAT bits 31:24, LANE_MASK. -/
def FIU_LINK_STAT_LANE_MASK : Fld := ⟨0x88, 24, 8, .ro, .plain, 0x0, 1, false⟩

/-- R85: FIU_LINK_STAT bits 23:20, CAUSE. -/
def FIU_LINK_STAT_CAUSE : Fld := ⟨0x88, 20, 4, .ro, .plain, 0x0, 1, false⟩

/-- R85: FIU_LINK_STAT bits 19:18, WIDTH. -/
def FIU_LINK_STAT_WIDTH : Fld := ⟨0x88, 18, 2, .ro, .plain, 0x0, 1, false⟩

/-- R85: FIU_LINK_STAT bits 3:0, STATE. -/
def FIU_LINK_STAT_STATE : Fld := ⟨0x88, 0, 4, .ro, .plain, 0x0, 1, false⟩

/-- R86: FIU_VC_POOL_LO bits 58:48, POOL_VC3. -/
def FIU_VC_POOL_LO_POOL_VC3 : Fld := ⟨0x90, 48, 11, .rw, .stopped, 0x180, 1, false⟩

/-- R86: FIU_VC_POOL_LO bits 42:32, POOL_VC2. -/
def FIU_VC_POOL_LO_POOL_VC2 : Fld := ⟨0x90, 32, 11, .rw, .stopped, 0x100, 1, false⟩

/-- R86: FIU_VC_POOL_LO bits 26:16, POOL_VC1. -/
def FIU_VC_POOL_LO_POOL_VC1 : Fld := ⟨0x90, 16, 11, .rw, .stopped, 0x280, 1, false⟩

/-- R86: FIU_VC_POOL_LO bits 10:0, POOL_VC0. -/
def FIU_VC_POOL_LO_POOL_VC0 : Fld := ⟨0x90, 0, 11, .rw, .stopped, 0x280, 1, false⟩

/-- R86: FIU_VC_POOL_HI bits 26:16, POOL_VC5. -/
def FIU_VC_POOL_HI_POOL_VC5 : Fld := ⟨0x98, 16, 11, .rw, .stopped, 0x40, 1, false⟩

/-- R86: FIU_VC_POOL_HI bits 10:0, POOL_VC4. -/
def FIU_VC_POOL_HI_POOL_VC4 : Fld := ⟨0x98, 0, 11, .rw, .stopped, 0x40, 1, false⟩

/-- R83: FIU_CRD_AVAIL_LO bits 63:48, CRD_VC3. -/
def FIU_CRD_AVAIL_LO_CRD_VC3 : Fld := ⟨0xa0, 48, 16, .ro, .plain, 0x0, 1, false⟩

/-- R83: FIU_CRD_AVAIL_LO bits 47:32, CRD_VC2. -/
def FIU_CRD_AVAIL_LO_CRD_VC2 : Fld := ⟨0xa0, 32, 16, .ro, .plain, 0x0, 1, false⟩

/-- R83: FIU_CRD_AVAIL_LO bits 31:16, CRD_VC1. -/
def FIU_CRD_AVAIL_LO_CRD_VC1 : Fld := ⟨0xa0, 16, 16, .ro, .plain, 0x0, 1, false⟩

/-- R83: FIU_CRD_AVAIL_LO bits 15:0, CRD_VC0. -/
def FIU_CRD_AVAIL_LO_CRD_VC0 : Fld := ⟨0xa0, 0, 16, .ro, .plain, 0x0, 1, false⟩

/-- R83: FIU_CRD_AVAIL_HI bits 31:16, CRD_VC5. -/
def FIU_CRD_AVAIL_HI_CRD_VC5 : Fld := ⟨0xa8, 16, 16, .ro, .plain, 0x0, 1, false⟩

/-- R83: FIU_CRD_AVAIL_HI bits 15:0, CRD_VC4. -/
def FIU_CRD_AVAIL_HI_CRD_VC4 : Fld := ⟨0xa8, 0, 16, .ro, .plain, 0x0, 1, false⟩

/-- R87: FIU_SEQ_STAT bits 46:36, REPLAY_FILL. -/
def FIU_SEQ_STAT_REPLAY_FILL : Fld := ⟨0xb0, 36, 11, .ro, .plain, 0x0, 1, false⟩

/-- R87: FIU_SEQ_STAT bits 35:24, RX_EXPECT. -/
def FIU_SEQ_STAT_RX_EXPECT : Fld := ⟨0xb0, 24, 12, .ro, .plain, 0x0, 1, false⟩

/-- R87: FIU_SEQ_STAT bits 23:12, TX_OLDEST. -/
def FIU_SEQ_STAT_TX_OLDEST : Fld := ⟨0xb0, 12, 12, .ro, .plain, 0x0, 1, false⟩

/-- R87: FIU_SEQ_STAT bits 11:0, TX_NEXT. -/
def FIU_SEQ_STAT_TX_NEXT : Fld := ⟨0xb0, 0, 12, .ro, .plain, 0x0, 1, false⟩

/-- R83: CNT_FEC_CORR bits 31:0, count. -/
def FIU_CNT_FEC_CORR : Fld := ⟨0xc0, 0, 32, .ro, .plain, 0x0, 1, false⟩

/-- R83: CNT_FEC_UNCORR bits 31:0, count. -/
def FIU_CNT_FEC_UNCORR : Fld := ⟨0xc8, 0, 32, .ro, .plain, 0x0, 1, false⟩

/-- R83: CNT_CRC_ERR bits 31:0, count. -/
def FIU_CNT_CRC_ERR : Fld := ⟨0xd0, 0, 32, .ro, .plain, 0x0, 1, false⟩

/-- R83: CNT_NAK_TX bits 31:0, count. -/
def FIU_CNT_NAK_TX : Fld := ⟨0xd8, 0, 32, .ro, .plain, 0x0, 1, false⟩

/-- R83: CNT_REPLAY bits 31:0, count. -/
def FIU_CNT_REPLAY : Fld := ⟨0xe0, 0, 32, .ro, .plain, 0x0, 1, false⟩

/-- R83: CNT_DUP bits 31:0, count. -/
def FIU_CNT_DUP : Fld := ⟨0xe8, 0, 32, .ro, .plain, 0x0, 1, false⟩

/-- R83: CNT_MALFORMED bits 31:0, count. -/
def FIU_CNT_MALFORMED : Fld := ⟨0xf0, 0, 32, .ro, .plain, 0x0, 1, false⟩

/-- R83: CNT_RECOVER bits 31:0, count. -/
def FIU_CNT_RECOVER : Fld := ⟨0xf8, 0, 32, .ro, .plain, 0x0, 1, false⟩

/-- R83: FIU_CNT_CLR bits 0:0, CLR. -/
def FIU_CNT_CLR : Fld := ⟨0x100, 0, 1, .wo, .live, 0x0, 1, false⟩

/-- The fields of the FIU page (the common header apart). -/
def pageFIU : List Fld :=
    [FIU_LINK_CTRL_REPLAY_TMO, FIU_LINK_CTRL_REPLAY_LIMIT, FIU_LINK_CTRL_RECOVER_LIMIT, FIU_LINK_CTRL_WIDTH4_OK,
     FIU_LINK_CTRL_LP_REQ, FIU_LINK_CTRL_RETRAIN, FIU_LINK_CTRL_EN, FIU_LINK_STAT_PEER_NODE, FIU_LINK_STAT_PEER_PORT,
     FIU_LINK_STAT_LANE_MASK, FIU_LINK_STAT_CAUSE, FIU_LINK_STAT_WIDTH, FIU_LINK_STAT_STATE, FIU_VC_POOL_LO_POOL_VC3,
     FIU_VC_POOL_LO_POOL_VC2, FIU_VC_POOL_LO_POOL_VC1, FIU_VC_POOL_LO_POOL_VC0, FIU_VC_POOL_HI_POOL_VC5,
     FIU_VC_POOL_HI_POOL_VC4, FIU_CRD_AVAIL_LO_CRD_VC3, FIU_CRD_AVAIL_LO_CRD_VC2, FIU_CRD_AVAIL_LO_CRD_VC1,
     FIU_CRD_AVAIL_LO_CRD_VC0, FIU_CRD_AVAIL_HI_CRD_VC5, FIU_CRD_AVAIL_HI_CRD_VC4, FIU_SEQ_STAT_REPLAY_FILL,
     FIU_SEQ_STAT_RX_EXPECT, FIU_SEQ_STAT_TX_OLDEST, FIU_SEQ_STAT_TX_NEXT, FIU_CNT_FEC_CORR, FIU_CNT_FEC_UNCORR,
     FIU_CNT_CRC_ERR, FIU_CNT_NAK_TX, FIU_CNT_REPLAY, FIU_CNT_DUP, FIU_CNT_MALFORMED, FIU_CNT_RECOVER,
     FIU_CNT_CLR]

/-! Page GLOBAL. -/

/-- R503: GL_NODE_BASE bits 19:0, NODE_BASE. -/
def GL_NODE_BASE : Fld := ⟨0x80, 0, 20, .rw, .stopped, 0x0, 1, false⟩

/-- R503: GL_CFG_LAST bits 63:50, PAGE. -/
def GL_CFG_LAST_PAGE : Fld := ⟨0x88, 50, 14, .ro, .plain, 0x0, 1, false⟩

/-- R503: GL_CFG_LAST bits 49:38, OFFSET. -/
def GL_CFG_LAST_OFFSET : Fld := ⟨0x88, 38, 12, .ro, .plain, 0x0, 1, false⟩

/-- R503: GL_CFG_LAST bits 37:34, CAUSE. -/
def GL_CFG_LAST_CAUSE : Fld := ⟨0x88, 34, 4, .ro, .plain, 0x0, 1, false⟩

/-- R503: GL_CFG_LAST bits 33:32, PATH. -/
def GL_CFG_LAST_PATH : Fld := ⟨0x88, 32, 2, .ro, .plain, 0x0, 1, false⟩

/-- R503: GL_CFG_LAST bits 31:0, TIME. -/
def GL_CFG_LAST_TIME : Fld := ⟨0x88, 0, 32, .ro, .plain, 0x0, 1, false⟩

/-- R503: CNT_CFG_REJECT bits 31:0, count. -/
def GLOBAL_CNT_CFG_REJECT : Fld := ⟨0x90, 0, 32, .ro, .plain, 0x0, 1, false⟩

/-- R503: GL_SERIAL bits 63:0, SERIAL. -/
def GL_SERIAL : Fld := ⟨0x98, 0, 64, .ro, .plain, 0x0, 1, false⟩

/-- R503: GL_CNT_CLR bits 0:0, CLR. -/
def GL_CNT_CLR : Fld := ⟨0xa0, 0, 1, .wo, .live, 0x0, 1, false⟩

/-- The fields of the GLOBAL page (the common header apart). -/
def pageGLOBAL : List Fld :=
    [GL_NODE_BASE, GL_CFG_LAST_PAGE, GL_CFG_LAST_OFFSET, GL_CFG_LAST_CAUSE, GL_CFG_LAST_PATH, GL_CFG_LAST_TIME,
     GLOBAL_CNT_CFG_REJECT, GL_SERIAL, GL_CNT_CLR]

/-! Page HDR. -/

/-- R490: BLK_ID bits 63:48, TYPE. -/
def BLK_ID_TYPE : Fld := ⟨0x0, 48, 16, .ro, .plain, 0x0, 1, false⟩

/-- R490: BLK_ID bits 47:32, INSTANCE. -/
def BLK_ID_INSTANCE : Fld := ⟨0x0, 32, 16, .ro, .plain, 0x0, 1, false⟩

/-- R490: BLK_ID bits 31:16, REVISION. -/
def BLK_ID_REVISION : Fld := ⟨0x0, 16, 16, .ro, .plain, 0x0, 1, false⟩

/-- R490: BLK_CAP bits 63:48, COUNT. -/
def BLK_CAP_COUNT : Fld := ⟨0x8, 48, 16, .ro, .plain, 0x0, 1, false⟩

/-- R490: BLK_CAP bits 3:3, HAS_RPOP. -/
def BLK_CAP_HAS_RPOP : Fld := ⟨0x8, 3, 1, .ro, .plain, 0x0, 1, false⟩

/-- R490: BLK_CAP bits 2:2, HAS_GUARDED. -/
def BLK_CAP_HAS_GUARDED : Fld := ⟨0x8, 2, 1, .ro, .plain, 0x0, 1, false⟩

/-- R490: BLK_CAP bits 1:1, HAS_STOPPED. -/
def BLK_CAP_HAS_STOPPED : Fld := ⟨0x8, 1, 1, .ro, .plain, 0x0, 1, false⟩

/-- R490: BLK_CAP bits 0:0, HAS_STAGED. -/
def BLK_CAP_HAS_STAGED : Fld := ⟨0x8, 0, 1, .ro, .plain, 0x0, 1, false⟩

/-- R490: CTRL bits 0:0, FREEZE. -/
def CTRL_FREEZE : Fld := ⟨0x10, 0, 1, .rw, .live, 0x0, 1, false⟩

/-- R490: STAT bits 2:2, APPLY_PENDING. -/
def STAT_APPLY_PENDING : Fld := ⟨0x18, 2, 1, .ro, .plain, 0x0, 1, false⟩

/-- R490: STAT bits 1:1, SHADOW_DIRTY. -/
def STAT_SHADOW_DIRTY : Fld := ⟨0x18, 1, 1, .ro, .plain, 0x0, 1, false⟩

/-- R490: STAT bits 0:0, ENABLED. -/
def STAT_ENABLED : Fld := ⟨0x18, 0, 1, .ro, .plain, 0x0, 1, false⟩

/-- R457: EVT_RAW bits 63:0, RAW. -/
def EVT_RAW : Fld := ⟨0x20, 0, 64, .ro, .plain, 0x0, 1, false⟩

/-- R457: EVT_PEND bits 63:0, PEND. -/
def EVT_PEND : Fld := ⟨0x28, 0, 64, .w1c, .live, 0x0, 1, false⟩

/-- R457: EVT_EN bits 63:0, EN. -/
def EVT_EN : Fld := ⟨0x30, 0, 64, .rw, .live, 0x0, 1, false⟩

/-- R457: EVT_ROUTE bits 8:8, NONE. -/
def EVT_ROUTE_NONE : Fld := ⟨0x38, 8, 1, .ro, .plain, 0x0, 1, false⟩

/-- R457: EVT_ROUTE bits 7:0, SOURCE. -/
def EVT_ROUTE_SOURCE : Fld := ⟨0x38, 0, 8, .ro, .plain, 0x0, 1, false⟩

/-- R490: ERRLOG_HEAD bits 31:0, HEAD. -/
def ERRLOG_HEAD : Fld := ⟨0x40, 0, 32, .ro, .plain, 0x0, 1, false⟩

/-- R490: ERRLOG_DATA bits 63:0, ENTRY. -/
def ERRLOG_DATA_ENTRY : Fld := ⟨0x48, 0, 64, .rpop, .plain, 0x0, 1, false⟩

/-- R498: SHADOW_CMD bits 1:1, DISCARD. -/
def SHADOW_CMD_DISCARD : Fld := ⟨0x60, 1, 1, .wo, .live, 0x0, 1, false⟩

/-- R498: SHADOW_CMD bits 0:0, APPLY. -/
def SHADOW_CMD_APPLY : Fld := ⟨0x60, 0, 1, .wo, .live, 0x0, 1, false⟩

/-- R490: CLASS_STAT bits 31:16, REJECTS. -/
def CLASS_STAT_REJECTS : Fld := ⟨0x68, 16, 16, .ro, .plain, 0x0, 1, false⟩

/-- R490: CLASS_STAT bits 15:0, SHADOW_WRITES. -/
def CLASS_STAT_SHADOW_WRITES : Fld := ⟨0x68, 0, 16, .ro, .plain, 0x0, 1, false⟩

/-- The fields of the HDR page (the common header apart). -/
def pageHDR : List Fld :=
    [BLK_ID_TYPE, BLK_ID_INSTANCE, BLK_ID_REVISION, BLK_CAP_COUNT, BLK_CAP_HAS_RPOP, BLK_CAP_HAS_GUARDED,
     BLK_CAP_HAS_STOPPED, BLK_CAP_HAS_STAGED, CTRL_FREEZE, STAT_APPLY_PENDING, STAT_SHADOW_DIRTY,
     STAT_ENABLED, EVT_RAW, EVT_PEND, EVT_EN, EVT_ROUTE_NONE, EVT_ROUTE_SOURCE, ERRLOG_HEAD, ERRLOG_DATA_ENTRY,
     SHADOW_CMD_DISCARD, SHADOW_CMD_APPLY, CLASS_STAT_REJECTS, CLASS_STAT_SHADOW_WRITES]

/-! Page HOST. -/

/-- R504: HP_LINK bits 11:10, DSTATE. -/
def HP_LINK_DSTATE : Fld := ⟨0x80, 10, 2, .ro, .plain, 0x0, 1, false⟩

/-- R504: HP_LINK bits 9:9, L1. -/
def HP_LINK_L1 : Fld := ⟨0x80, 9, 1, .ro, .plain, 0x0, 1, false⟩

/-- R504: HP_LINK bits 8:8, UP. -/
def HP_LINK_UP : Fld := ⟨0x80, 8, 1, .ro, .plain, 0x0, 1, false⟩

/-- R504: HP_LINK bits 7:4, WIDTH. -/
def HP_LINK_WIDTH : Fld := ⟨0x80, 4, 4, .ro, .plain, 0x0, 1, false⟩

/-- R504: HP_LINK bits 3:0, SPEED. -/
def HP_LINK_SPEED : Fld := ⟨0x80, 0, 4, .ro, .plain, 0x0, 1, false⟩

/-- R504: HP_BAR_LAST bits 35:32, CAUSE. -/
def HP_BAR_LAST_CAUSE : Fld := ⟨0x88, 32, 4, .ro, .plain, 0x0, 1, false⟩

/-- R504: HP_BAR_LAST bits 31:0, OFFSET. -/
def HP_BAR_LAST_OFFSET : Fld := ⟨0x88, 0, 32, .ro, .plain, 0x0, 1, false⟩

/-- R504: CNT_BAR_ERR bits 31:0, count. -/
def HOST_CNT_BAR_ERR : Fld := ⟨0x100, 0, 32, .ro, .plain, 0x0, 1, false⟩

/-- R504: CNT_DP_ERR bits 31:0, count. -/
def HOST_CNT_DP_ERR : Fld := ⟨0x108, 0, 32, .ro, .plain, 0x0, 1, false⟩

/-- R504: CNT_LINK_DOWN bits 31:0, count. -/
def HOST_CNT_LINK_DOWN : Fld := ⟨0x110, 0, 32, .ro, .plain, 0x0, 1, false⟩

/-- R504: HP_CNT_CLR bits 0:0, CLR. -/
def HP_CNT_CLR : Fld := ⟨0x118, 0, 1, .wo, .live, 0x0, 1, false⟩

/-- The fields of the HOST page (the common header apart). -/
def pageHOST : List Fld :=
    [HP_LINK_DSTATE, HP_LINK_L1, HP_LINK_UP, HP_LINK_WIDTH, HP_LINK_SPEED, HP_BAR_LAST_CAUSE, HP_BAR_LAST_OFFSET,
     HOST_CNT_BAR_ERR, HOST_CNT_DP_ERR, HOST_CNT_LINK_DOWN, HP_CNT_CLR]

/-! Page KEEPER. -/

/-- R573: KP_PWR_STAT bits 47:40, DRAIN_WAIT. -/
def KP_PWR_STAT_DRAIN_WAIT : Fld := ⟨0x200, 40, 8, .ro, .plain, 0x0, 1, false⟩

/-- R573: KP_PWR_STAT bits 39:36, TRIP_CAUSE. -/
def KP_PWR_STAT_TRIP_CAUSE : Fld := ⟨0x200, 36, 4, .ro, .plain, 0x0, 1, false⟩

/-- R573: KP_PWR_STAT bits 35:32, WAKE_CAUSE. -/
def KP_PWR_STAT_WAKE_CAUSE : Fld := ⟨0x200, 32, 4, .ro, .plain, 0x0, 1, false⟩

/-- R573: KP_PWR_STAT bits 31:26, WAKE_RULE. -/
def KP_PWR_STAT_WAKE_RULE : Fld := ⟨0x200, 26, 6, .ro, .plain, 0x0, 1, false⟩

/-- R573: KP_PWR_STAT bits 21:19, LAST. -/
def KP_PWR_STAT_LAST : Fld := ⟨0x200, 19, 3, .ro, .plain, 0x0, 1, false⟩

/-- R573: KP_PWR_STAT bits 18:16, TARGET. -/
def KP_PWR_STAT_TARGET : Fld := ⟨0x200, 16, 3, .ro, .plain, 0x4, 1, false⟩

/-- R573: KP_PWR_STAT bits 2:0, STATE. -/
def KP_PWR_STAT_STATE : Fld := ⟨0x200, 0, 3, .ro, .plain, 0x4, 1, false⟩

/-- R573: KP_PWR_CMD bits 3:3, GO. -/
def KP_PWR_CMD_GO : Fld := ⟨0x208, 3, 1, .wo, .live, 0x0, 1, false⟩

/-- R573: KP_PWR_CMD bits 2:0, TARGET. -/
def KP_PWR_CMD_TARGET : Fld := ⟨0x208, 0, 3, .wo, .live, 0x0, 1, false⟩

/-- R573: KP_PWR_CFG bits 18:18, FABRIC_WAKE. -/
def KP_PWR_CFG_FABRIC_WAKE : Fld := ⟨0x210, 18, 1, .rw, .live, 0x1, 1, false⟩

/-- R573: KP_PWR_CFG bits 17:16, DRAIN_SPIN. -/
def KP_PWR_CFG_DRAIN_SPIN : Fld := ⟨0x210, 16, 2, .rw, .live, 0x1, 1, false⟩

/-- R573: KP_PWR_CFG bits 15:0, DRAIN_TMO. -/
def KP_PWR_CFG_DRAIN_TMO : Fld := ⟨0x210, 0, 16, .rw, .live, 0xa, 1, false⟩

/-- R573: KP_TRIP bits 31:16, FLOW_MS. -/
def KP_TRIP_FLOW_MS : Fld := ⟨0x218, 16, 16, .rw, .live, 0x7d0, 1, false⟩

/-- R573: KP_TRIP bits 15:0, FLOW_MIN. -/
def KP_TRIP_FLOW_MIN : Fld := ⟨0x218, 0, 16, .rw, .live, 0x0, 1, false⟩

/-- R573: KP_WAKE_TMR bits 63:63, EN. -/
def KP_WAKE_TMR_EN : Fld := ⟨0x220, 63, 1, .rw, .live, 0x0, 1, false⟩

/-- R573: KP_WAKE_TMR bits 47:0, AT. -/
def KP_WAKE_TMR_AT : Fld := ⟨0x220, 0, 48, .rw, .live, 0x0, 1, false⟩

/-- R573: KP_TIME bits 47:0, TIME. -/
def KP_TIME : Fld := ⟨0x228, 0, 48, .ro, .plain, 0x0, 1, false⟩

/-- R573: KP_IN_SEL bits 4:0, INPUT. -/
def KP_IN_SEL_INPUT : Fld := ⟨0x230, 0, 5, .rw, .live, 0x0, 1, false⟩

/-- R573: KP_IN_CFG bits 11:11, INV. -/
def KP_IN_CFG_INV : Fld := ⟨0x238, 11, 1, .rw, .staged, 0x0, 1, true⟩

/-- R573: KP_IN_CFG bits 10:8, AVG_LOG2. -/
def KP_IN_CFG_AVG_LOG2 : Fld := ⟨0x238, 8, 3, .rw, .staged, 0x3, 1, true⟩

/-- R573: KP_IN_CFG bits 7:0, DEB. -/
def KP_IN_CFG_DEB : Fld := ⟨0x238, 0, 8, .rw, .staged, 0x4, 1, true⟩

/-- R573: KP_IN_VIEW bits 63:63, VALID. -/
def KP_IN_VIEW_VALID : Fld := ⟨0x240, 63, 1, .ro, .plain, 0x0, 1, true⟩

/-- R573: KP_IN_VIEW bits 47:32, RAW. -/
def KP_IN_VIEW_RAW : Fld := ⟨0x240, 32, 16, .ro, .plain, 0x0, 1, true⟩

/-- R573: KP_IN_VIEW bits 15:0, FILT. -/
def KP_IN_VIEW_FILT : Fld := ⟨0x240, 0, 16, .ro, .plain, 0x0, 1, true⟩

/-- R573: KP_RULE_SEL bits 5:0, RULE. -/
def KP_RULE_SEL_RULE : Fld := ⟨0x248, 0, 6, .rw, .live, 0x0, 1, false⟩

/-- R573: KP_RULE_0 bits 63:63, EN. -/
def KP_RULE_0_EN : Fld := ⟨0x250, 63, 1, .rw, .staged, 0x0, 1, true⟩

/-- R573: KP_RULE_0 bits 62:58, INPUT. -/
def KP_RULE_0_INPUT : Fld := ⟨0x250, 58, 5, .rw, .staged, 0x0, 1, true⟩

/-- R573: KP_RULE_0 bits 57:56, OP. -/
def KP_RULE_0_OP : Fld := ⟨0x250, 56, 2, .rw, .staged, 0x0, 1, true⟩

/-- R573: KP_RULE_0 bits 55:51, STATES. -/
def KP_RULE_0_STATES : Fld := ⟨0x250, 51, 5, .rw, .staged, 0x0, 1, true⟩

/-- R573: KP_RULE_0 bits 50:50, ACT_WAKE. -/
def KP_RULE_0_ACT_WAKE : Fld := ⟨0x250, 50, 1, .rw, .staged, 0x0, 1, true⟩

/-- R573: KP_RULE_0 bits 49:49, ACT_WAKE_OUT. -/
def KP_RULE_0_ACT_WAKE_OUT : Fld := ⟨0x250, 49, 1, .rw, .staged, 0x0, 1, true⟩

/-- R573: KP_RULE_0 bits 48:48, ACT_HOLD. -/
def KP_RULE_0_ACT_HOLD : Fld := ⟨0x250, 48, 1, .rw, .staged, 0x0, 1, true⟩

/-- R573: KP_RULE_0 bits 47:47, ACT_LOG. -/
def KP_RULE_0_ACT_LOG : Fld := ⟨0x250, 47, 1, .rw, .staged, 0x0, 1, true⟩

/-- R573: KP_RULE_0 bits 46:46, LOG_FALL. -/
def KP_RULE_0_LOG_FALL : Fld := ⟨0x250, 46, 1, .rw, .staged, 0x0, 1, true⟩

/-- R573: KP_RULE_0 bits 45:39, PORT. -/
def KP_RULE_0_PORT : Fld := ⟨0x250, 39, 7, .rw, .staged, 0x0, 1, true⟩

/-- R573: KP_RULE_0 bits 15:0, THRESH. -/
def KP_RULE_0_THRESH : Fld := ⟨0x250, 0, 16, .rw, .staged, 0x0, 1, true⟩

/-- R573: KP_RULE_1 bits 63:63, MATCH. -/
def KP_RULE_1_MATCH : Fld := ⟨0x258, 63, 1, .ro, .plain, 0x0, 1, true⟩

/-- R573: KP_RULE_1 bits 15:0, HYST. -/
def KP_RULE_1_HYST : Fld := ⟨0x258, 0, 16, .rw, .staged, 0x0, 1, true⟩

/-- R573: KP_OUT bits 1:1, BY_LANTERN. -/
def KP_OUT_BY_LANTERN : Fld := ⟨0x260, 1, 1, .ro, .plain, 0x0, 1, false⟩

/-- R573: KP_OUT bits 0:0, BY_RULE. -/
def KP_OUT_BY_RULE : Fld := ⟨0x260, 0, 1, .ro, .plain, 0x0, 1, false⟩

/-- R573: KP_HOLD bits 63:0, PORTS. -/
def KP_HOLD_PORTS : Fld := ⟨0x268, 0, 64, .ro, .plain, 0x0, 1, false⟩

/-- R573: KP_LOG_POP bits 63:0, ENTRY. -/
def KP_LOG_POP_ENTRY : Fld := ⟨0x270, 0, 64, .rpop, .plain, 0x0, 1, false⟩

/-- R573: KP_LOG_STAT bits 63:32, LOST. -/
def KP_LOG_STAT_LOST : Fld := ⟨0x278, 32, 32, .ro, .plain, 0x0, 1, false⟩

/-- R573: KP_LOG_STAT bits 8:0, DEPTH. -/
def KP_LOG_STAT_DEPTH : Fld := ⟨0x278, 0, 9, .ro, .plain, 0x0, 1, false⟩

/-- R573: KP_QUERY bits 3:0, OP. -/
def KP_QUERY_OP : Fld := ⟨0x280, 0, 4, .wo, .live, 0x0, 1, false⟩

/-- R573: CNT_WAKE bits 31:0, count. -/
def KEEPER_CNT_WAKE : Fld := ⟨0x300, 0, 32, .ro, .plain, 0x0, 1, false⟩

/-- R573: CNT_DRAIN bits 31:0, count. -/
def KEEPER_CNT_DRAIN : Fld := ⟨0x308, 0, 32, .ro, .plain, 0x0, 1, false⟩

/-- R573: CNT_DRAIN_LATE bits 31:0, count. -/
def KEEPER_CNT_DRAIN_LATE : Fld := ⟨0x310, 0, 32, .ro, .plain, 0x0, 1, false⟩

/-- R573: CNT_TRIP bits 31:0, count. -/
def KEEPER_CNT_TRIP : Fld := ⟨0x318, 0, 32, .ro, .plain, 0x0, 1, false⟩

/-- R573: CNT_RULE_EDGE bits 31:0, count. -/
def KEEPER_CNT_RULE_EDGE : Fld := ⟨0x320, 0, 32, .ro, .plain, 0x0, 1, false⟩

/-- R573: KP_CNT_CLR bits 0:0, CLR. -/
def KP_CNT_CLR : Fld := ⟨0x328, 0, 1, .wo, .live, 0x0, 1, false⟩

/-- The fields of the KEEPER page (the common header apart). -/
def pageKEEPER : List Fld :=
    [KP_PWR_STAT_DRAIN_WAIT, KP_PWR_STAT_TRIP_CAUSE, KP_PWR_STAT_WAKE_CAUSE, KP_PWR_STAT_WAKE_RULE,
     KP_PWR_STAT_LAST, KP_PWR_STAT_TARGET, KP_PWR_STAT_STATE, KP_PWR_CMD_GO, KP_PWR_CMD_TARGET, KP_PWR_CFG_FABRIC_WAKE,
     KP_PWR_CFG_DRAIN_SPIN, KP_PWR_CFG_DRAIN_TMO, KP_TRIP_FLOW_MS, KP_TRIP_FLOW_MIN, KP_WAKE_TMR_EN,
     KP_WAKE_TMR_AT, KP_TIME, KP_IN_SEL_INPUT, KP_IN_CFG_INV, KP_IN_CFG_AVG_LOG2, KP_IN_CFG_DEB,
     KP_IN_VIEW_VALID, KP_IN_VIEW_RAW, KP_IN_VIEW_FILT, KP_RULE_SEL_RULE, KP_RULE_0_EN, KP_RULE_0_INPUT,
     KP_RULE_0_OP, KP_RULE_0_STATES, KP_RULE_0_ACT_WAKE, KP_RULE_0_ACT_WAKE_OUT, KP_RULE_0_ACT_HOLD,
     KP_RULE_0_ACT_LOG, KP_RULE_0_LOG_FALL, KP_RULE_0_PORT, KP_RULE_0_THRESH, KP_RULE_1_MATCH, KP_RULE_1_HYST,
     KP_OUT_BY_LANTERN, KP_OUT_BY_RULE] ++
    [KP_HOLD_PORTS, KP_LOG_POP_ENTRY, KP_LOG_STAT_LOST, KP_LOG_STAT_DEPTH, KP_QUERY_OP, KEEPER_CNT_WAKE,
     KEEPER_CNT_DRAIN, KEEPER_CNT_DRAIN_LATE, KEEPER_CNT_TRIP, KEEPER_CNT_RULE_EDGE, KP_CNT_CLR]

/-! Page LANTERN. -/

/-- R477: LAN_CTRL bits 31:16, WAKE_TMO. -/
def LAN_CTRL_WAKE_TMO : Fld := ⟨0x80, 16, 16, .rw, .live, 0x64, 1, false⟩

/-- R477: LAN_CTRL bits 0:0, EN. -/
def LAN_CTRL_EN : Fld := ⟨0x80, 0, 1, .rw, .live, 0x0, 1, false⟩

/-- R477: LAN_STAT bits 38:32, VEC_DUE. -/
def LAN_STAT_VEC_DUE : Fld := ⟨0x88, 32, 7, .ro, .plain, 0x0, 1, false⟩

/-- R477: LAN_STAT bits 30:24, VEC_COLLECTING. -/
def LAN_STAT_VEC_COLLECTING : Fld := ⟨0x88, 24, 7, .ro, .plain, 0x0, 1, false⟩

/-- R477: LAN_STAT bits 17:17, WAKE_OUT. -/
def LAN_STAT_WAKE_OUT : Fld := ⟨0x88, 17, 1, .ro, .plain, 0x0, 1, false⟩

/-- R477: LAN_STAT bits 16:16, HOST_ASLEEP. -/
def LAN_STAT_HOST_ASLEEP : Fld := ⟨0x88, 16, 1, .ro, .plain, 0x0, 1, false⟩

/-- R477: LAN_STAT bits 12:0, EVTQ_DEPTH. -/
def LAN_STAT_EVTQ_DEPTH : Fld := ⟨0x88, 0, 13, .ro, .plain, 0x0, 1, false⟩

/-- R475: LAN_SRC_SEL bits 7:0, SOURCE. -/
def LAN_SRC_SEL_SOURCE : Fld := ⟨0x90, 0, 8, .rw, .live, 0x0, 1, false⟩

/-- R478: LAN_ROUTE bits 63:63, MSIX_EN. -/
def LAN_ROUTE_MSIX_EN : Fld := ⟨0x98, 63, 1, .rw, .live, 0x0, 1, true⟩

/-- R478: LAN_ROUTE bits 62:62, FAB_EN. -/
def LAN_ROUTE_FAB_EN : Fld := ⟨0x98, 62, 1, .rw, .live, 0x0, 1, true⟩

/-- R478: LAN_ROUTE bits 61:61, KEEP_EN. -/
def LAN_ROUTE_KEEP_EN : Fld := ⟨0x98, 61, 1, .rw, .live, 0x0, 1, true⟩

/-- R478: LAN_ROUTE bits 60:55, VECTOR. -/
def LAN_ROUTE_VECTOR : Fld := ⟨0x98, 55, 6, .rw, .live, 0x0, 1, true⟩

/-- R478: LAN_ROUTE bits 54:35, FAB_DST. -/
def LAN_ROUTE_FAB_DST : Fld := ⟨0x98, 35, 20, .rw, .live, 0x0, 1, true⟩

/-- R478: LAN_ROUTE bits 34:19, FAB_GAP_US. -/
def LAN_ROUTE_FAB_GAP_US : Fld := ⟨0x98, 19, 16, .rw, .live, 0x0, 1, true⟩

/-- R478: LAN_SRC_STAT bits 63:32, STRIKES. -/
def LAN_SRC_STAT_STRIKES : Fld := ⟨0xa0, 32, 32, .ro, .plain, 0x0, 1, true⟩

/-- R478: LAN_SRC_STAT bits 31:16, FAB_COUNT. -/
def LAN_SRC_STAT_FAB_COUNT : Fld := ⟨0xa0, 16, 16, .ro, .plain, 0x0, 1, true⟩

/-- R478: LAN_SRC_STAT bits 15:15, FAB_WAIT. -/
def LAN_SRC_STAT_FAB_WAIT : Fld := ⟨0xa0, 15, 1, .ro, .plain, 0x0, 1, true⟩

/-- R475: LAN_VEC_SEL bits 5:0, VECTOR. -/
def LAN_VEC_SEL_VECTOR : Fld := ⟨0xa8, 0, 6, .rw, .live, 0x0, 1, false⟩

/-- R479: LAN_VEC_CFG bits 39:32, MOD_CNT. -/
def LAN_VEC_CFG_MOD_CNT : Fld := ⟨0xb0, 32, 8, .rw, .live, 0x1, 1, true⟩

/-- R479: LAN_VEC_CFG bits 31:16, MOD_US. -/
def LAN_VEC_CFG_MOD_US : Fld := ⟨0xb0, 16, 16, .rw, .live, 0x0, 1, true⟩

/-- R479: LAN_VEC_STAT bits 63:62, STATE. -/
def LAN_VEC_STAT_STATE : Fld := ⟨0xb8, 62, 2, .ro, .plain, 0x0, 1, true⟩

/-- R479: LAN_VEC_STAT bits 61:61, WAIT_MASK. -/
def LAN_VEC_STAT_WAIT_MASK : Fld := ⟨0xb8, 61, 1, .ro, .plain, 0x0, 1, true⟩

/-- R479: LAN_VEC_STAT bits 60:60, WAIT_HOST. -/
def LAN_VEC_STAT_WAIT_HOST : Fld := ⟨0xb8, 60, 1, .ro, .plain, 0x0, 1, true⟩

/-- R479: LAN_VEC_STAT bits 47:32, COUNT. -/
def LAN_VEC_STAT_COUNT : Fld := ⟨0xb8, 32, 16, .ro, .plain, 0x0, 1, true⟩

/-- R479: LAN_VEC_STAT bits 31:0, SENT. -/
def LAN_VEC_STAT_SENT : Fld := ⟨0xb8, 0, 32, .ro, .plain, 0x0, 1, true⟩

/-- R475: LAN_SUMMARY bits 63:0, VALUE. -/
def LAN_SUMMARY : Fld := ⟨0xc0, 0, 64, .w1c, .live, 0x0, 4, false⟩

/-- R475: CNT_STRIKE bits 31:0, count. -/
def LANTERN_CNT_STRIKE : Fld := ⟨0x100, 0, 32, .ro, .plain, 0x0, 1, false⟩

/-- R475: CNT_MSIX bits 31:0, count. -/
def LANTERN_CNT_MSIX : Fld := ⟨0x108, 0, 32, .ro, .plain, 0x0, 1, false⟩

/-- R475: CNT_MSIX_DROP bits 31:0, count. -/
def LANTERN_CNT_MSIX_DROP : Fld := ⟨0x110, 0, 32, .ro, .plain, 0x0, 1, false⟩

/-- R475: CNT_PME bits 31:0, count. -/
def LANTERN_CNT_PME : Fld := ⟨0x118, 0, 32, .ro, .plain, 0x0, 1, false⟩

/-- R475: CNT_WAKE_OUT bits 31:0, count. -/
def LANTERN_CNT_WAKE_OUT : Fld := ⟨0x120, 0, 32, .ro, .plain, 0x0, 1, false⟩

/-- R475: CNT_FAB_EVT bits 31:0, count. -/
def LANTERN_CNT_FAB_EVT : Fld := ⟨0x128, 0, 32, .ro, .plain, 0x0, 1, false⟩

/-- R475: CNT_FAB_COALESCED bits 31:0, count. -/
def LANTERN_CNT_FAB_COALESCED : Fld := ⟨0x130, 0, 32, .ro, .plain, 0x0, 1, false⟩

/-- R475: CNT_INT bits 31:0, count. -/
def LANTERN_CNT_INT : Fld := ⟨0x138, 0, 32, .ro, .plain, 0x0, 1, false⟩

/-- R475: CNT_INT_DROP bits 31:0, count. -/
def LANTERN_CNT_INT_DROP : Fld := ⟨0x140, 0, 32, .ro, .plain, 0x0, 1, false⟩

/-- R475: LAN_CNT_CLR bits 0:0, CLR. -/
def LAN_CNT_CLR : Fld := ⟨0x148, 0, 1, .wo, .live, 0x0, 1, false⟩

/-- The fields of the LANTERN page (the common header apart). -/
def pageLANTERN : List Fld :=
    [LAN_CTRL_WAKE_TMO, LAN_CTRL_EN, LAN_STAT_VEC_DUE, LAN_STAT_VEC_COLLECTING, LAN_STAT_WAKE_OUT,
     LAN_STAT_HOST_ASLEEP, LAN_STAT_EVTQ_DEPTH, LAN_SRC_SEL_SOURCE, LAN_ROUTE_MSIX_EN, LAN_ROUTE_FAB_EN,
     LAN_ROUTE_KEEP_EN, LAN_ROUTE_VECTOR, LAN_ROUTE_FAB_DST, LAN_ROUTE_FAB_GAP_US, LAN_SRC_STAT_STRIKES,
     LAN_SRC_STAT_FAB_COUNT, LAN_SRC_STAT_FAB_WAIT, LAN_VEC_SEL_VECTOR, LAN_VEC_CFG_MOD_CNT, LAN_VEC_CFG_MOD_US,
     LAN_VEC_STAT_STATE, LAN_VEC_STAT_WAIT_MASK, LAN_VEC_STAT_WAIT_HOST, LAN_VEC_STAT_COUNT, LAN_VEC_STAT_SENT,
     LAN_SUMMARY, LANTERN_CNT_STRIKE, LANTERN_CNT_MSIX, LANTERN_CNT_MSIX_DROP, LANTERN_CNT_PME, LANTERN_CNT_WAKE_OUT,
     LANTERN_CNT_FAB_EVT, LANTERN_CNT_FAB_COALESCED, LANTERN_CNT_INT, LANTERN_CNT_INT_DROP, LAN_CNT_CLR]

/-! Page LIGHT. -/

/-- R232: LL_CTRL bits 0:0, EN. -/
def LL_CTRL_EN : Fld := ⟨0x80, 0, 1, .rw, .live, 0x0, 1, false⟩

/-- R232: LL_STAT bits 55:42, FAULT_COUNT. -/
def LL_STAT_FAULT_COUNT : Fld := ⟨0x88, 42, 14, .ro, .plain, 0x0, 1, false⟩

/-- R232: LL_STAT bits 41:28, DRIFT_COUNT. -/
def LL_STAT_DRIFT_COUNT : Fld := ⟨0x88, 28, 14, .ro, .plain, 0x0, 1, false⟩

/-- R232: LL_STAT bits 27:14, ACQ_COUNT. -/
def LL_STAT_ACQ_COUNT : Fld := ⟨0x88, 14, 14, .ro, .plain, 0x0, 1, false⟩

/-- R232: LL_STAT bits 13:0, LIT_COUNT. -/
def LL_STAT_LIT_COUNT : Fld := ⟨0x88, 0, 14, .ro, .plain, 0x0, 1, false⟩

/-- R232: LL_SEL bits 13:0, LIGHT. -/
def LL_SEL_LIGHT : Fld := ⟨0x90, 0, 14, .rw, .live, 0x0, 1, false⟩

/-- R232: LL_TUNE bits 63:60, DRIFT_REVS. -/
def LL_TUNE_DRIFT_REVS : Fld := ⟨0x98, 60, 4, .rw, .staged, 0x8, 1, false⟩

/-- R232: LL_TUNE bits 59:56, LEAD_N_LOG2. -/
def LL_TUNE_LEAD_N_LOG2 : Fld := ⟨0x98, 56, 4, .rw, .staged, 0xa, 1, false⟩

/-- R232: LL_TUNE bits 55:40, LEAD_DN. -/
def LL_TUNE_LEAD_DN : Fld := ⟨0x98, 40, 16, .rw, .staged, 0x64, 1, false⟩

/-- R232: LL_TUNE bits 39:24, LEAD_UP. -/
def LL_TUNE_LEAD_UP : Fld := ⟨0x98, 24, 16, .rw, .staged, 0x7d0, 1, false⟩

/-- R232: LL_TUNE bits 23:20, GP. -/
def LL_TUNE_GP : Fld := ⟨0x98, 20, 4, .rw, .staged, 0x4, 1, false⟩

/-- R232: LL_TUNE bits 19:16, GT. -/
def LL_TUNE_GT : Fld := ⟨0x98, 16, 4, .rw, .staged, 0x2, 1, false⟩

/-- R232: LL_TUNE bits 15:0, JUMP_TOL. -/
def LL_TUNE_JUMP_TOL : Fld := ⟨0x98, 0, 16, .rw, .staged, 0x100, 1, false⟩

/-- R210: LL_VIEW_0 bits 63:61, STATE. -/
def LL_VIEW_0_STATE : Fld := ⟨0xa0, 61, 3, .ro, .plain, 0x0, 1, true⟩

/-- R210: LL_VIEW_0 bits 60:59, KIND. -/
def LL_VIEW_0_KIND : Fld := ⟨0xa0, 59, 2, .ro, .plain, 0x0, 1, true⟩

/-- R210: LL_VIEW_0 bits 58:53, PORT. -/
def LL_VIEW_0_PORT : Fld := ⟨0xa0, 53, 6, .ro, .plain, 0x0, 1, true⟩

/-- R210: LL_VIEW_0 bits 52:49, STN. -/
def LL_VIEW_0_STN : Fld := ⟨0xa0, 49, 4, .ro, .plain, 0x0, 1, true⟩

/-- R210: LL_VIEW_0 bits 48:42, UNIT. -/
def LL_VIEW_0_UNIT : Fld := ⟨0xa0, 42, 7, .ro, .plain, 0x0, 1, true⟩

/-- R210: LL_VIEW_0 bits 41:40, HEALTH. -/
def LL_VIEW_0_HEALTH : Fld := ⟨0xa0, 40, 2, .ro, .plain, 0x0, 1, true⟩

/-- R210: LL_VIEW_0 bits 39:32, CMD_DEPTH. -/
def LL_VIEW_0_CMD_DEPTH : Fld := ⟨0xa0, 32, 8, .ro, .plain, 0x0, 1, true⟩

/-- R210: LL_VIEW_1 bits 63:0, T_REF. -/
def LL_VIEW_1_T_REF : Fld := ⟨0xa8, 0, 64, .ro, .plain, 0x0, 1, true⟩

/-- R210: LL_VIEW_2 bits 63:16, PERIOD. -/
def LL_VIEW_2_PERIOD : Fld := ⟨0xb0, 16, 48, .ro, .plain, 0x0, 1, true⟩

/-- R210: LL_VIEW_2 bits 15:0, PERIOD_FRAC. -/
def LL_VIEW_2_PERIOD_FRAC : Fld := ⟨0xb0, 0, 16, .ro, .plain, 0x0, 1, true⟩

/-- R210: LL_VIEW_3 bits 63:32, EXTENT. -/
def LL_VIEW_3_EXTENT : Fld := ⟨0xb8, 32, 32, .ro, .plain, 0x0, 1, true⟩

/-- R210: LL_VIEW_3 bits 31:16, SLOTS. -/
def LL_VIEW_3_SLOTS : Fld := ⟨0xb8, 16, 16, .ro, .plain, 0x0, 1, true⟩

/-- R210: LL_VIEW_3 bits 15:4, TACH_N. -/
def LL_VIEW_3_TACH_N : Fld := ⟨0xb8, 4, 12, .ro, .plain, 0x0, 1, true⟩

/-- R210: LL_VIEW_4 bits 63:44, LEAD_NS. -/
def LL_VIEW_4_LEAD_NS : Fld := ⟨0xc0, 44, 20, .ro, .plain, 0x0, 1, true⟩

/-- R210: LL_VIEW_4 bits 31:16, ON_TIME_RUN. -/
def LL_VIEW_4_ON_TIME_RUN : Fld := ⟨0xc0, 16, 16, .ro, .plain, 0x0, 1, true⟩

/-- R210: LL_VIEW_4 bits 15:8, MISS_RUN. -/
def LL_VIEW_4_MISS_RUN : Fld := ⟨0xc0, 8, 8, .ro, .plain, 0x0, 1, true⟩

/-- R210: LL_VIEW_5 bits 63:32, FIRED. -/
def LL_VIEW_5_FIRED : Fld := ⟨0xc8, 32, 32, .ro, .plain, 0x0, 1, true⟩

/-- R210: LL_VIEW_5 bits 31:0, MISSES. -/
def LL_VIEW_5_MISSES : Fld := ⟨0xc8, 0, 32, .ro, .plain, 0x0, 1, true⟩

/-- R210: LL_VIEW_6 bits 63:48, SLACK_NS. -/
def LL_VIEW_6_SLACK_NS : Fld := ⟨0xd0, 48, 16, .rw, .live, 0x1f40, 1, true⟩

/-- R210: LL_VIEW_6 bits 47:47, HOLD. -/
def LL_VIEW_6_HOLD : Fld := ⟨0xd0, 47, 1, .rw, .live, 0x0, 1, true⟩

/-- R210: LL_VIEW_7 bits 63:32, REF_COUNT. -/
def LL_VIEW_7_REF_COUNT : Fld := ⟨0xd8, 32, 32, .ro, .plain, 0x0, 1, true⟩

/-- R232: LL_SUB_SEL bits 9:0, INDEX. -/
def LL_SUB_SEL_INDEX : Fld := ⟨0x100, 0, 10, .rw, .live, 0x0, 1, false⟩

/-- R232: LL_SUB_CTRL bits 63:63, EN. -/
def LL_SUB_CTRL_EN : Fld := ⟨0x108, 63, 1, .rw, .live, 0x0, 1, true⟩

/-- R232: LL_SUB_CTRL bits 62:60, KIND_MASK. -/
def LL_SUB_CTRL_KIND_MASK : Fld := ⟨0x108, 60, 3, .rw, .live, 0x0, 1, true⟩

/-- R232: LL_SUB_CTRL bits 59:40, INTERVAL. -/
def LL_SUB_CTRL_INTERVAL : Fld := ⟨0x108, 40, 20, .rw, .live, 0x0, 1, true⟩

/-- R232: LL_SUB_CTRL bits 33:14, DST. -/
def LL_SUB_CTRL_DST : Fld := ⟨0x108, 14, 20, .rw, .live, 0x0, 1, true⟩

/-- R232: LL_SUB_CTRL bits 13:0, LIGHT. -/
def LL_SUB_CTRL_LIGHT : Fld := ⟨0x108, 0, 14, .rw, .live, 0x0, 1, true⟩

/-- R232: LL_SUB_ADDR bits 63:5, ADDR. -/
def LL_SUB_ADDR : Fld := ⟨0x110, 5, 59, .rw, .live, 0x0, 1, true⟩

/-- R232: LL_SUB_KEY bits 63:0, KEY. -/
def LL_SUB_KEY : Fld := ⟨0x118, 0, 64, .rw, .live, 0x0, 1, true⟩

/-- R232: CNT_BEACON bits 31:0, count. -/
def LIGHT_CNT_BEACON : Fld := ⟨0x180, 0, 32, .ro, .plain, 0x0, 1, false⟩

/-- R232: CNT_BEACON_DROP bits 31:0, count. -/
def LIGHT_CNT_BEACON_DROP : Fld := ⟨0x188, 0, 32, .ro, .plain, 0x0, 1, false⟩

/-- R232: CNT_PHASE_JUMP bits 31:0, count. -/
def LIGHT_CNT_PHASE_JUMP : Fld := ⟨0x190, 0, 32, .ro, .plain, 0x0, 1, false⟩

/-- R232: CNT_REACQUIRE bits 31:0, count. -/
def LIGHT_CNT_REACQUIRE : Fld := ⟨0x198, 0, 32, .ro, .plain, 0x0, 1, false⟩

/-- R232: CNT_SUB_SENT bits 31:0, count. -/
def LIGHT_CNT_SUB_SENT : Fld := ⟨0x1a0, 0, 32, .ro, .plain, 0x0, 1, false⟩

/-- R232: CNT_SUB_COALESCED bits 31:0, count. -/
def LIGHT_CNT_SUB_COALESCED : Fld := ⟨0x1a8, 0, 32, .ro, .plain, 0x0, 1, false⟩

/-- R232: LL_CNT_CLR bits 0:0, CLR. -/
def LL_CNT_CLR : Fld := ⟨0x1b0, 0, 1, .wo, .live, 0x0, 1, false⟩

/-- R232: LL_UNBIND bits 63:63, GO. -/
def LL_UNBIND_GO : Fld := ⟨0x1b8, 63, 1, .wo, .live, 0x0, 1, false⟩

/-- R232: LL_UNBIND bits 13:0, LIGHT. -/
def LL_UNBIND_LIGHT : Fld := ⟨0x1b8, 0, 14, .wo, .live, 0x0, 1, false⟩

/-- The fields of the LIGHT page (the common header apart). -/
def pageLIGHT : List Fld :=
    [LL_CTRL_EN, LL_STAT_FAULT_COUNT, LL_STAT_DRIFT_COUNT, LL_STAT_ACQ_COUNT, LL_STAT_LIT_COUNT,
     LL_SEL_LIGHT, LL_TUNE_DRIFT_REVS, LL_TUNE_LEAD_N_LOG2, LL_TUNE_LEAD_DN, LL_TUNE_LEAD_UP, LL_TUNE_GP,
     LL_TUNE_GT, LL_TUNE_JUMP_TOL, LL_VIEW_0_STATE, LL_VIEW_0_KIND, LL_VIEW_0_PORT, LL_VIEW_0_STN,
     LL_VIEW_0_UNIT, LL_VIEW_0_HEALTH, LL_VIEW_0_CMD_DEPTH, LL_VIEW_1_T_REF, LL_VIEW_2_PERIOD, LL_VIEW_2_PERIOD_FRAC,
     LL_VIEW_3_EXTENT, LL_VIEW_3_SLOTS, LL_VIEW_3_TACH_N, LL_VIEW_4_LEAD_NS, LL_VIEW_4_ON_TIME_RUN,
     LL_VIEW_4_MISS_RUN, LL_VIEW_5_FIRED, LL_VIEW_5_MISSES, LL_VIEW_6_SLACK_NS, LL_VIEW_6_HOLD, LL_VIEW_7_REF_COUNT,
     LL_SUB_SEL_INDEX, LL_SUB_CTRL_EN, LL_SUB_CTRL_KIND_MASK, LL_SUB_CTRL_INTERVAL, LL_SUB_CTRL_DST,
     LL_SUB_CTRL_LIGHT] ++
    [LL_SUB_ADDR, LL_SUB_KEY, LIGHT_CNT_BEACON, LIGHT_CNT_BEACON_DROP, LIGHT_CNT_PHASE_JUMP,
     LIGHT_CNT_REACQUIRE, LIGHT_CNT_SUB_SENT, LIGHT_CNT_SUB_COALESCED, LL_CNT_CLR, LL_UNBIND_GO,
     LL_UNBIND_LIGHT]

/-! Page MATCH. -/

/-- R337: MT_CTRL bits 31:16, OVF_TMO. -/
def MT_CTRL_OVF_TMO : Fld := ⟨0x80, 16, 16, .rw, .live, 0x3e8, 1, false⟩

/-- R337: MT_STAT bits 48:32, OVF_USED. -/
def MT_STAT_OVF_USED : Fld := ⟨0x88, 32, 17, .ro, .plain, 0x0, 1, false⟩

/-- R337: MT_STAT bits 31:17, PINNED. -/
def MT_STAT_PINNED : Fld := ⟨0x88, 17, 15, .ro, .plain, 0x0, 1, false⟩

/-- R337: MT_STAT bits 16:0, CACHED. -/
def MT_STAT_CACHED : Fld := ⟨0x88, 0, 17, .ro, .plain, 0x0, 1, false⟩

/-- R337: MT_STAT2 bits 41:24, BLOCKS_USED. -/
def MT_STAT2_BLOCKS_USED : Fld := ⟨0x90, 24, 18, .ro, .plain, 0x0, 1, false⟩

/-- R337: MT_STAT2 bits 23:0, ENTRIES_USED. -/
def MT_STAT2_ENTRIES_USED : Fld := ⟨0x90, 0, 24, .ro, .plain, 0x0, 1, false⟩

/-- R337: MT_AP_LAST bits 63:44, SRC_ID. -/
def MT_AP_LAST_SRC_ID : Fld := ⟨0x98, 44, 20, .ro, .plain, 0x0, 1, false⟩

/-- R337: MT_AP_LAST bits 43:24, CTX. -/
def MT_AP_LAST_CTX : Fld := ⟨0x98, 24, 20, .ro, .plain, 0x0, 1, false⟩

/-- R337: MT_AP_LAST bits 3:0, CAUSE. -/
def MT_AP_LAST_CAUSE : Fld := ⟨0x98, 0, 4, .ro, .plain, 0x0, 1, false⟩

/-- R337: CNT_MSG bits 31:0, count. -/
def MATCH_CNT_MSG : Fld := ⟨0x100, 0, 32, .ro, .plain, 0x0, 1, false⟩

/-- R337: CNT_MATCH bits 31:0, count. -/
def MATCH_CNT_MATCH : Fld := ⟨0x108, 0, 32, .ro, .plain, 0x0, 1, false⟩

/-- R337: CNT_STEPS bits 31:0, count. -/
def MATCH_CNT_STEPS : Fld := ⟨0x110, 0, 32, .ro, .plain, 0x0, 1, false⟩

/-- R337: CNT_NO_MATCH bits 31:0, count. -/
def MATCH_CNT_NO_MATCH : Fld := ⟨0x118, 0, 32, .ro, .plain, 0x0, 1, false⟩

/-- R337: CNT_OVF bits 31:0, count. -/
def MATCH_CNT_OVF : Fld := ⟨0x120, 0, 32, .ro, .plain, 0x0, 1, false⟩

/-- R337: CNT_CTX_REJECT bits 31:0, count. -/
def MATCH_CNT_CTX_REJECT : Fld := ⟨0x128, 0, 32, .ro, .plain, 0x0, 1, false⟩

/-- R337: CNT_CTX_CLOSED bits 31:0, count. -/
def MATCH_CNT_CTX_CLOSED : Fld := ⟨0x130, 0, 32, .ro, .plain, 0x0, 1, false⟩

/-- R337: CNT_CACHE_MISS bits 31:0, count. -/
def MATCH_CNT_CACHE_MISS : Fld := ⟨0x138, 0, 32, .ro, .plain, 0x0, 1, false⟩

/-- R337: CNT_DESC bits 31:0, count. -/
def MATCH_CNT_DESC : Fld := ⟨0x140, 0, 32, .ro, .plain, 0x0, 1, false⟩

/-- R337: CNT_POLL bits 31:0, count. -/
def MATCH_CNT_POLL : Fld := ⟨0x148, 0, 32, .ro, .plain, 0x0, 1, false⟩

/-- R337: CNT_CQ_REC bits 31:0, count. -/
def MATCH_CNT_CQ_REC : Fld := ⟨0x150, 0, 32, .ro, .plain, 0x0, 1, false⟩

/-- R337: CNT_CQ_FULL bits 31:0, count. -/
def MATCH_CNT_CQ_FULL : Fld := ⟨0x158, 0, 32, .ro, .plain, 0x0, 1, false⟩

/-- R337: CNT_CQ_BAD_CI bits 31:0, count. -/
def MATCH_CNT_CQ_BAD_CI : Fld := ⟨0x160, 0, 32, .ro, .plain, 0x0, 1, false⟩

/-- R337: CNT_CQ_DISCARD bits 31:0, count. -/
def MATCH_CNT_CQ_DISCARD : Fld := ⟨0x168, 0, 32, .ro, .plain, 0x0, 1, false⟩

/-- R337: CNT_AP_REJECT bits 31:0, count. -/
def MATCH_CNT_AP_REJECT : Fld := ⟨0x170, 0, 32, .ro, .plain, 0x0, 1, false⟩

/-- R337: MT_CNT_CLR bits 0:0, CLR. -/
def MT_CNT_CLR : Fld := ⟨0x178, 0, 1, .wo, .live, 0x0, 1, false⟩

/-- R337: CNT_SALV_DUP bits 31:0, count. -/
def MATCH_CNT_SALV_DUP : Fld := ⟨0x180, 0, 32, .ro, .plain, 0x0, 1, false⟩

/-- R337: CNT_SALV_EVICT bits 31:0, count. -/
def MATCH_CNT_SALV_EVICT : Fld := ⟨0x188, 0, 32, .ro, .plain, 0x0, 1, false⟩

/-- The fields of the MATCH page (the common header apart). -/
def pageMATCH : List Fld :=
    [MT_CTRL_OVF_TMO, MT_STAT_OVF_USED, MT_STAT_PINNED, MT_STAT_CACHED, MT_STAT2_BLOCKS_USED, MT_STAT2_ENTRIES_USED,
     MT_AP_LAST_SRC_ID, MT_AP_LAST_CTX, MT_AP_LAST_CAUSE, MATCH_CNT_MSG, MATCH_CNT_MATCH, MATCH_CNT_STEPS,
     MATCH_CNT_NO_MATCH, MATCH_CNT_OVF, MATCH_CNT_CTX_REJECT, MATCH_CNT_CTX_CLOSED, MATCH_CNT_CACHE_MISS,
     MATCH_CNT_DESC, MATCH_CNT_POLL, MATCH_CNT_CQ_REC, MATCH_CNT_CQ_FULL, MATCH_CNT_CQ_BAD_CI, MATCH_CNT_CQ_DISCARD,
     MATCH_CNT_AP_REJECT, MT_CNT_CLR, MATCH_CNT_SALV_DUP, MATCH_CNT_SALV_EVICT]

/-! Page MGMT. -/

/-- R613: ST_STAT bits 59:56, CAUSE. -/
def ST_STAT_CAUSE : Fld := ⟨0x200, 56, 4, .ro, .plain, 0x0, 1, false⟩

/-- R613: ST_STAT bits 55:48, SEQ. -/
def ST_STAT_SEQ : Fld := ⟨0x200, 48, 8, .ro, .plain, 0x0, 1, false⟩

/-- R613: ST_STAT bits 47:40, S1. -/
def ST_STAT_S1 : Fld := ⟨0x200, 40, 8, .ro, .plain, 0x0, 1, false⟩

/-- R613: ST_STAT bits 39:32, S2. -/
def ST_STAT_S2 : Fld := ⟨0x200, 32, 8, .ro, .plain, 0x0, 1, false⟩

/-- R613: ST_STAT bits 31:24, S4. -/
def ST_STAT_S4 : Fld := ⟨0x200, 24, 8, .ro, .plain, 0x0, 1, false⟩

/-- R613: ST_STAT bits 23:20, W_STEP. -/
def ST_STAT_W_STEP : Fld := ⟨0x200, 20, 4, .ro, .plain, 0x0, 1, false⟩

/-- R613: ST_STAT bits 19:16, E_STEP. -/
def ST_STAT_E_STEP : Fld := ⟨0x200, 16, 4, .ro, .plain, 0x0, 1, false⟩

/-- R613: ST_STAT bits 7:4, W_STATE. -/
def ST_STAT_W_STATE : Fld := ⟨0x200, 4, 4, .ro, .plain, 0x0, 1, false⟩

/-- R613: ST_STAT bits 3:0, E_STATE. -/
def ST_STAT_E_STATE : Fld := ⟨0x200, 0, 4, .ro, .plain, 0x0, 1, false⟩

/-- R613: ST_W_CODES bits 47:40, S3. -/
def ST_W_CODES_S3 : Fld := ⟨0x208, 40, 8, .ro, .plain, 0x0, 1, false⟩

/-- R613: ST_W_CODES bits 39:32, S5. -/
def ST_W_CODES_S5 : Fld := ⟨0x208, 32, 8, .ro, .plain, 0x0, 1, false⟩

/-- R613: ST_W_CODES bits 31:24, S6. -/
def ST_W_CODES_S6 : Fld := ⟨0x208, 24, 8, .ro, .plain, 0x0, 1, false⟩

/-- R613: ST_W_CODES bits 23:16, S7. -/
def ST_W_CODES_S7 : Fld := ⟨0x208, 16, 8, .ro, .plain, 0x0, 1, false⟩

/-- R613: ST_W_CODES bits 15:8, S8. -/
def ST_W_CODES_S8 : Fld := ⟨0x208, 8, 8, .ro, .plain, 0x0, 1, false⟩

/-- R613: ST_W_CODES bits 7:0, S9. -/
def ST_W_CODES_S9 : Fld := ⟨0x208, 0, 8, .ro, .plain, 0x0, 1, false⟩

/-- R613: ST_E_CODES bits 47:40, S3. -/
def ST_E_CODES_S3 : Fld := ⟨0x210, 40, 8, .ro, .plain, 0x0, 1, false⟩

/-- R613: ST_E_CODES bits 39:32, S5. -/
def ST_E_CODES_S5 : Fld := ⟨0x210, 32, 8, .ro, .plain, 0x0, 1, false⟩

/-- R613: ST_E_CODES bits 31:24, S6. -/
def ST_E_CODES_S6 : Fld := ⟨0x210, 24, 8, .ro, .plain, 0x0, 1, false⟩

/-- R613: ST_E_CODES bits 23:16, S7. -/
def ST_E_CODES_S7 : Fld := ⟨0x210, 16, 8, .ro, .plain, 0x0, 1, false⟩

/-- R613: ST_E_CODES bits 15:8, S8. -/
def ST_E_CODES_S8 : Fld := ⟨0x210, 8, 8, .ro, .plain, 0x0, 1, false⟩

/-- R613: ST_E_CODES bits 7:0, S9. -/
def ST_E_CODES_S9 : Fld := ⟨0x210, 0, 8, .ro, .plain, 0x0, 1, false⟩

/-- R613: ST_CMD bits 4:4, HALF. -/
def ST_CMD_HALF : Fld := ⟨0x218, 4, 1, .wo, .live, 0x0, 1, false⟩

/-- R613: ST_CMD bits 3:0, OP. -/
def ST_CMD_OP : Fld := ⟨0x218, 0, 4, .wo, .live, 0x0, 1, false⟩

/-- R613: ST_WAIT bits 47:32, FABRIC_WAIT. -/
def ST_WAIT_FABRIC_WAIT : Fld := ⟨0x220, 32, 16, .rw, .live, 0xc8, 1, false⟩

/-- R613: ST_WAIT bits 31:16, LIGHT_WAIT. -/
def ST_WAIT_LIGHT_WAIT : Fld := ⟨0x220, 16, 16, .rw, .live, 0x64, 1, false⟩

/-- R613: ST_WAIT bits 15:0, PORT_WAIT. -/
def ST_WAIT_PORT_WAIT : Fld := ⟨0x220, 0, 16, .rw, .live, 0xc8, 1, false⟩

/-- R613: ST_APU_EN bits 31:0, MASK. -/
def ST_APU_EN_MASK : Fld := ⟨0x228, 0, 32, .rw, .live, 0xffffffff, 1, false⟩

/-- R613: ST_FIU_EN bits 7:0, MASK. -/
def ST_FIU_EN_MASK : Fld := ⟨0x230, 0, 8, .rw, .live, 0x0, 1, false⟩

/-- R613: ST_RESUME bits 5:5, LAN. -/
def ST_RESUME_LAN : Fld := ⟨0x238, 5, 1, .rw, .live, 0x0, 1, false⟩

/-- R613: ST_RESUME bits 4:4, SCH. -/
def ST_RESUME_SCH : Fld := ⟨0x238, 4, 1, .rw, .live, 0x0, 1, false⟩

/-- R613: ST_RESUME bits 3:3, PL. -/
def ST_RESUME_PL : Fld := ⟨0x238, 3, 1, .rw, .live, 0x0, 1, false⟩

/-- R613: ST_RESUME bits 2:2, COL. -/
def ST_RESUME_COL : Fld := ⟨0x238, 2, 1, .rw, .live, 0x0, 1, false⟩

/-- R613: ST_RESUME bits 1:1, DK. -/
def ST_RESUME_DK : Fld := ⟨0x238, 1, 1, .rw, .live, 0x0, 1, false⟩

/-- R613: ST_RESUME bits 0:0, PAL. -/
def ST_RESUME_PAL : Fld := ⟨0x238, 0, 1, .rw, .live, 0x0, 1, false⟩

/-- R613: ST_READY bits 63:0, TIME. -/
def ST_READY_TIME : Fld := ⟨0x240, 0, 64, .ro, .plain, 0x0, 1, false⟩

/-- R613: CNT_START bits 31:0, count. -/
def MGMT_CNT_START : Fld := ⟨0x300, 0, 32, .ro, .plain, 0x0, 1, false⟩

/-- R613: CNT_HALF_RESET bits 31:0, count. -/
def MGMT_CNT_HALF_RESET : Fld := ⟨0x308, 0, 32, .ro, .plain, 0x0, 1, false⟩

/-- R613: CNT_DEAD_DROP bits 31:0, count. -/
def MGMT_CNT_DEAD_DROP : Fld := ⟨0x310, 0, 32, .ro, .plain, 0x0, 1, false⟩

/-- R613: CNT_FW_FALLBACK bits 31:0, count. -/
def MGMT_CNT_FW_FALLBACK : Fld := ⟨0x318, 0, 32, .ro, .plain, 0x0, 1, false⟩

/-- R613: ST_CNT_CLR bits 0:0, CLR. -/
def ST_CNT_CLR : Fld := ⟨0x320, 0, 1, .wo, .live, 0x0, 1, false⟩

/-- The fields of the MGMT page (the common header apart). -/
def pageMGMT : List Fld :=
    [ST_STAT_CAUSE, ST_STAT_SEQ, ST_STAT_S1, ST_STAT_S2, ST_STAT_S4, ST_STAT_W_STEP, ST_STAT_E_STEP,
     ST_STAT_W_STATE, ST_STAT_E_STATE, ST_W_CODES_S3, ST_W_CODES_S5, ST_W_CODES_S6, ST_W_CODES_S7,
     ST_W_CODES_S8, ST_W_CODES_S9, ST_E_CODES_S3, ST_E_CODES_S5, ST_E_CODES_S6, ST_E_CODES_S7, ST_E_CODES_S8,
     ST_E_CODES_S9, ST_CMD_HALF, ST_CMD_OP, ST_WAIT_FABRIC_WAIT, ST_WAIT_LIGHT_WAIT, ST_WAIT_PORT_WAIT,
     ST_APU_EN_MASK, ST_FIU_EN_MASK, ST_RESUME_LAN, ST_RESUME_SCH, ST_RESUME_PL, ST_RESUME_COL, ST_RESUME_DK,
     ST_RESUME_PAL, ST_READY_TIME, MGMT_CNT_START, MGMT_CNT_HALF_RESET, MGMT_CNT_DEAD_DROP, MGMT_CNT_FW_FALLBACK,
     ST_CNT_CLR]

/-! Page PALETTE. -/

/-- R156: PAL_CTRL bits 0:0, EN. -/
def PAL_CTRL_EN : Fld := ⟨0x80, 0, 1, .rw, .live, 0x0, 1, false⟩

/-- R156: PAL_STAT bits 63:32, PAL_GEN. -/
def PAL_STAT_PAL_GEN : Fld := ⟨0x88, 32, 32, .ro, .plain, 0x0, 1, false⟩

/-- R156: PAL_STAT bits 20:16, SEM_COUNT. -/
def PAL_STAT_SEM_COUNT : Fld := ⟨0x88, 16, 5, .ro, .plain, 0x0, 1, false⟩

/-- R156: PAL_STAT bits 10:0, WIN_COUNT. -/
def PAL_STAT_WIN_COUNT : Fld := ⟨0x88, 0, 11, .ro, .plain, 0x0, 1, false⟩

/-- R157: PAL_WIN_SEL bits 9:0, INDEX. -/
def PAL_WIN_SEL_INDEX : Fld := ⟨0x90, 0, 10, .rw, .live, 0x0, 1, false⟩

/-- R159: PAL_PROBE bits 63:0, VALUE. -/
def PAL_PROBE : Fld := ⟨0x98, 0, 64, .wo, .live, 0x0, 1, false⟩

/-- R133: PAL_WIN_VIEW_0 bits 63:12, BASE. -/
def PAL_WIN_VIEW_0_BASE : Fld := ⟨0xa0, 12, 52, .ro, .guarded, 0x0, 1, true⟩

/-- R133: PAL_WIN_VIEW_0 bits 5:0, SIZE_LOG2. -/
def PAL_WIN_VIEW_0_SIZE_LOG2 : Fld := ⟨0xa0, 0, 6, .ro, .guarded, 0x0, 1, true⟩

/-- R133: PAL_WIN_VIEW_1 bits 47:42, PORT. -/
def PAL_WIN_VIEW_1_PORT : Fld := ⟨0xa8, 42, 6, .ro, .guarded, 0x0, 1, true⟩

/-- R133: PAL_WIN_VIEW_1 bits 41:38, STN. -/
def PAL_WIN_VIEW_1_STN : Fld := ⟨0xa8, 38, 4, .ro, .guarded, 0x0, 1, true⟩

/-- R133: PAL_WIN_VIEW_1 bits 35:0, TGT_ADDR. -/
def PAL_WIN_VIEW_1_TGT_ADDR : Fld := ⟨0xa8, 0, 36, .ro, .guarded, 0x0, 1, true⟩

/-- R133: PAL_WIN_VIEW_2 bits 11:11, CTX_CHECK. -/
def PAL_WIN_VIEW_2_CTX_CHECK : Fld := ⟨0xb0, 11, 1, .ro, .guarded, 0x0, 1, true⟩

/-- R133: PAL_WIN_VIEW_2 bits 10:10, KEY_CHECK. -/
def PAL_WIN_VIEW_2_KEY_CHECK : Fld := ⟨0xb0, 10, 1, .ro, .guarded, 0x0, 1, true⟩

/-- R133: PAL_WIN_VIEW_2 bits 9:9, SOPWE. -/
def PAL_WIN_VIEW_2_SOPWE : Fld := ⟨0xb0, 9, 1, .ro, .guarded, 0x0, 1, true⟩

/-- R133: PAL_WIN_VIEW_2 bits 8:8, ERR_REPORT. -/
def PAL_WIN_VIEW_2_ERR_REPORT : Fld := ⟨0xb0, 8, 1, .ro, .guarded, 0x0, 1, true⟩

/-- R133: PAL_WIN_VIEW_2 bits 7:6, LOCK_MODE. -/
def PAL_WIN_VIEW_2_LOCK_MODE : Fld := ⟨0xb0, 6, 2, .ro, .guarded, 0x0, 1, true⟩

/-- R133: PAL_WIN_VIEW_2 bits 5:5, BURST. -/
def PAL_WIN_VIEW_2_BURST : Fld := ⟨0xb0, 5, 1, .ro, .guarded, 0x0, 1, true⟩

/-- R133: PAL_WIN_VIEW_2 bits 4:3, ELEM. -/
def PAL_WIN_VIEW_2_ELEM : Fld := ⟨0xb0, 3, 2, .ro, .guarded, 0x0, 1, true⟩

/-- R133: PAL_WIN_VIEW_2 bits 2:2, ORDER. -/
def PAL_WIN_VIEW_2_ORDER : Fld := ⟨0xb0, 2, 1, .ro, .guarded, 0x0, 1, true⟩

/-- R133: PAL_WIN_VIEW_2 bits 1:1, WR_EN. -/
def PAL_WIN_VIEW_2_WR_EN : Fld := ⟨0xb0, 1, 1, .ro, .guarded, 0x0, 1, true⟩

/-- R133: PAL_WIN_VIEW_2 bits 0:0, EN. -/
def PAL_WIN_VIEW_2_EN : Fld := ⟨0xb0, 0, 1, .ro, .guarded, 0x0, 1, true⟩

/-- R133: PAL_WIN_VIEW_3 bits 63:0, WIN_KEY. -/
def PAL_WIN_VIEW_3_WIN_KEY : Fld := ⟨0xb8, 0, 64, .ro, .guarded, 0x0, 1, true⟩

/-- R133: PAL_WIN_VIEW_4 bits 63:0, WIN_RKEY. -/
def PAL_WIN_VIEW_4_WIN_RKEY : Fld := ⟨0xc0, 0, 64, .ro, .guarded, 0x0, 1, true⟩

/-- R133: PAL_WIN_VIEW_5 bits 51:32, CTX_HI. -/
def PAL_WIN_VIEW_5_CTX_HI : Fld := ⟨0xc8, 32, 20, .ro, .guarded, 0x0, 1, true⟩

/-- R133: PAL_WIN_VIEW_5 bits 19:0, CTX_LO. -/
def PAL_WIN_VIEW_5_CTX_LO : Fld := ⟨0xc8, 0, 20, .ro, .guarded, 0x0, 1, true⟩

/-- R133: PAL_WIN_VIEW_7 bits 31:0, GEN. -/
def PAL_WIN_VIEW_7_GEN : Fld := ⟨0xd8, 0, 32, .ro, .plain, 0x0, 1, true⟩

/-- R158: PAL_HALT bits 63:0, HALT. -/
def PAL_HALT : Fld := ⟨0x100, 0, 64, .w1c, .live, 0x0, 16, false⟩

/-- R158: PAL_PRIV_SRC bits 20:20, VALID. -/
def PAL_PRIV_SRC_VALID : Fld := ⟨0x180, 20, 1, .ro, .guarded, 0x0, 8, false⟩

/-- R158: PAL_PRIV_SRC bits 19:0, SRC. -/
def PAL_PRIV_SRC : Fld := ⟨0x180, 0, 20, .ro, .guarded, 0x0, 8, false⟩

/-- R155: CNT_ACCESS bits 31:0, count. -/
def PALETTE_CNT_ACCESS : Fld := ⟨0x200, 0, 32, .ro, .plain, 0x0, 1, false⟩

/-- R155: CNT_ATN_TXN bits 31:0, count. -/
def PALETTE_CNT_ATN_TXN : Fld := ⟨0x208, 0, 32, .ro, .plain, 0x0, 1, false⟩

/-- R155: CNT_NO_WINDOW bits 31:0, count. -/
def PALETTE_CNT_NO_WINDOW : Fld := ⟨0x210, 0, 32, .ro, .plain, 0x0, 1, false⟩

/-- R155: CNT_KEY_DENIED bits 31:0, count. -/
def PALETTE_CNT_KEY_DENIED : Fld := ⟨0x218, 0, 32, .ro, .plain, 0x0, 1, false⟩

/-- R155: CNT_WR_REJECT bits 31:0, count. -/
def PALETTE_CNT_WR_REJECT : Fld := ⟨0x220, 0, 32, .ro, .plain, 0x0, 1, false⟩

/-- R155: CNT_AMO_REJECT bits 31:0, count. -/
def PALETTE_CNT_AMO_REJECT : Fld := ⟨0x228, 0, 32, .ro, .plain, 0x0, 1, false⟩

/-- R155: CNT_RMW bits 31:0, count. -/
def PALETTE_CNT_RMW : Fld := ⟨0x230, 0, 32, .ro, .plain, 0x0, 1, false⟩

/-- R155: PAL_CNT_CLR bits 0:0, CLR. -/
def PAL_CNT_CLR : Fld := ⟨0x238, 0, 1, .wo, .live, 0x0, 1, false⟩

/-- The fields of the PALETTE page (the common header apart). -/
def pagePALETTE : List Fld :=
    [PAL_CTRL_EN, PAL_STAT_PAL_GEN, PAL_STAT_SEM_COUNT, PAL_STAT_WIN_COUNT, PAL_WIN_SEL_INDEX, PAL_PROBE,
     PAL_WIN_VIEW_0_BASE, PAL_WIN_VIEW_0_SIZE_LOG2, PAL_WIN_VIEW_1_PORT, PAL_WIN_VIEW_1_STN, PAL_WIN_VIEW_1_TGT_ADDR,
     PAL_WIN_VIEW_2_CTX_CHECK, PAL_WIN_VIEW_2_KEY_CHECK, PAL_WIN_VIEW_2_SOPWE, PAL_WIN_VIEW_2_ERR_REPORT,
     PAL_WIN_VIEW_2_LOCK_MODE, PAL_WIN_VIEW_2_BURST, PAL_WIN_VIEW_2_ELEM, PAL_WIN_VIEW_2_ORDER, PAL_WIN_VIEW_2_WR_EN,
     PAL_WIN_VIEW_2_EN, PAL_WIN_VIEW_3_WIN_KEY, PAL_WIN_VIEW_4_WIN_RKEY, PAL_WIN_VIEW_5_CTX_HI, PAL_WIN_VIEW_5_CTX_LO,
     PAL_WIN_VIEW_7_GEN, PAL_HALT, PAL_PRIV_SRC_VALID, PAL_PRIV_SRC, PALETTE_CNT_ACCESS, PALETTE_CNT_ATN_TXN,
     PALETTE_CNT_NO_WINDOW, PALETTE_CNT_KEY_DENIED, PALETTE_CNT_WR_REJECT, PALETTE_CNT_AMO_REJECT,
     PALETTE_CNT_RMW, PAL_CNT_CLR]

/-! Page PLACE. -/

/-- R269: PL_CTRL bits 0:0, EN. -/
def PL_CTRL_EN : Fld := ⟨0x80, 0, 1, .rw, .live, 0x0, 1, false⟩

/-- R269: PL_STAT bits 55:40, STALLED. -/
def PL_STAT_STALLED : Fld := ⟨0x88, 40, 16, .ro, .plain, 0x0, 1, false⟩

/-- R269: PL_STAT bits 39:20, PENDING. -/
def PL_STAT_PENDING : Fld := ⟨0x88, 20, 20, .ro, .plain, 0x0, 1, false⟩

/-- R269: PL_STAT bits 11:0, SPINNING_UP. -/
def PL_STAT_SPINNING_UP : Fld := ⟨0x88, 0, 12, .ro, .plain, 0x0, 1, false⟩

/-- R269: PL_SPIN bits 15:0, SPINUP_BUDGET. -/
def PL_SPIN_SPINUP_BUDGET : Fld := ⟨0x90, 0, 16, .rw, .live, 0x7d0, 1, false⟩

/-- R269: PL_LIGHT_SEL bits 13:0, LIGHT. -/
def PL_LIGHT_SEL_LIGHT : Fld := ⟨0x98, 0, 14, .rw, .live, 0x0, 1, false⟩

/-- R270: PL_LIGHT_VIEW_0 bits 63:56, GROUP. -/
def PL_LIGHT_VIEW_0_GROUP : Fld := ⟨0xa0, 56, 8, .rw, .staged, 0xff, 1, true⟩

/-- R270: PL_LIGHT_VIEW_0 bits 55:55, WR_OFF. -/
def PL_LIGHT_VIEW_0_WR_OFF : Fld := ⟨0xa0, 55, 1, .rw, .live, 0x0, 1, true⟩

/-- R270: PL_LIGHT_VIEW_0 bits 47:32, WEAR. -/
def PL_LIGHT_VIEW_0_WEAR : Fld := ⟨0xa0, 32, 16, .ro, .plain, 0x0, 1, true⟩

/-- R270: PL_LIGHT_VIEW_0 bits 31:0, CUR_TRACK. -/
def PL_LIGHT_VIEW_0_CUR_TRACK : Fld := ⟨0xa0, 0, 32, .ro, .plain, 0x0, 1, true⟩

/-- R270: PL_LIGHT_VIEW_1 bits 63:24, FREE. -/
def PL_LIGHT_VIEW_1_FREE : Fld := ⟨0xa8, 24, 40, .ro, .plain, 0x0, 1, true⟩

/-- R270: PL_LIGHT_VIEW_1 bits 23:16, BAD. -/
def PL_LIGHT_VIEW_1_BAD : Fld := ⟨0xa8, 16, 8, .ro, .plain, 0x0, 1, true⟩

/-- R270: PL_LIGHT_VIEW_2 bits 63:0, BUSY_UNTIL. -/
def PL_LIGHT_VIEW_2_BUSY_UNTIL : Fld := ⟨0xb0, 0, 64, .ro, .plain, 0x0, 1, true⟩

/-- R270: PL_LIGHT_VIEW_3 bits 63:32, BR_CMDS. -/
def PL_LIGHT_VIEW_3_BR_CMDS : Fld := ⟨0xb8, 32, 32, .ro, .plain, 0x0, 1, true⟩

/-- R270: PL_LIGHT_VIEW_3 bits 31:0, BR_SHORT. -/
def PL_LIGHT_VIEW_3_BR_SHORT : Fld := ⟨0xb8, 0, 32, .ro, .plain, 0x0, 1, true⟩

/-- R269: PL_LOOKUP_OBJ bits 63:0, OBJ_ID. -/
def PL_LOOKUP_OBJ_OBJ_ID : Fld := ⟨0xc0, 0, 64, .rw, .live, 0x0, 1, false⟩

/-- R269: PL_LOOKUP_STRIPE bits 35:0, STRIPE. -/
def PL_LOOKUP_STRIPE : Fld := ⟨0xc8, 0, 36, .wo, .live, 0x0, 1, false⟩

/-- R269: PL_EFF_START bits 63:0, VALUE. -/
def PL_EFF_START : Fld := ⟨0xd0, 0, 64, .rw, .live, 0x0, 1, false⟩

/-- R269: PL_EFF_STOP bits 63:0, VALUE. -/
def PL_EFF_STOP : Fld := ⟨0xd8, 0, 64, .rw, .live, 0x0, 1, false⟩

/-- R269: PL_EFF_CTRL bits 2:2, RUNNING. -/
def PL_EFF_CTRL_RUNNING : Fld := ⟨0xe0, 2, 1, .ro, .plain, 0x0, 1, false⟩

/-- R269: PL_EFF_CTRL bits 1:1, ARMED. -/
def PL_EFF_CTRL_ARMED : Fld := ⟨0xe0, 1, 1, .ro, .plain, 0x0, 1, false⟩

/-- R269: PL_EFF_CTRL bits 0:0, ARM. -/
def PL_EFF_CTRL_ARM : Fld := ⟨0xe0, 0, 1, .wo, .live, 0x0, 1, false⟩

/-- R269: CNT_STRIPE bits 31:0, count. -/
def PLACE_CNT_STRIPE : Fld := ⟨0x100, 0, 32, .ro, .plain, 0x0, 1, false⟩

/-- R269: CNT_COMMIT bits 31:0, count. -/
def PLACE_CNT_COMMIT : Fld := ⟨0x108, 0, 32, .ro, .plain, 0x0, 1, false⟩

/-- R269: CNT_REPLACE bits 31:0, count. -/
def PLACE_CNT_REPLACE : Fld := ⟨0x110, 0, 32, .ro, .plain, 0x0, 1, false⟩

/-- R269: CNT_STALL bits 31:0, count. -/
def PLACE_CNT_STALL : Fld := ⟨0x118, 0, 32, .ro, .plain, 0x0, 1, false⟩

/-- R269: CNT_NO_STRIPE bits 31:0, count. -/
def PLACE_CNT_NO_STRIPE : Fld := ⟨0x120, 0, 32, .ro, .plain, 0x0, 1, false⟩

/-- R269: CNT_RD_DIRECT bits 31:0, count. -/
def PLACE_CNT_RD_DIRECT : Fld := ⟨0x128, 0, 32, .ro, .plain, 0x0, 1, false⟩

/-- R269: CNT_RD_RECON bits 31:0, count. -/
def PLACE_CNT_RD_RECON : Fld := ⟨0x130, 0, 32, .ro, .plain, 0x0, 1, false⟩

/-- R269: CNT_SUPERSEDE bits 31:0, count. -/
def PLACE_CNT_SUPERSEDE : Fld := ⟨0x138, 0, 32, .ro, .plain, 0x0, 1, false⟩

/-- R269: CNT_SPINUP bits 31:0, count. -/
def PLACE_CNT_SPINUP : Fld := ⟨0x140, 0, 32, .ro, .plain, 0x0, 1, false⟩

/-- R269: CNT_SPINDOWN bits 31:0, count. -/
def PLACE_CNT_SPINDOWN : Fld := ⟨0x148, 0, 32, .ro, .plain, 0x0, 1, false⟩

/-- R269: CNT_MEMBER_LOST bits 31:0, count. -/
def PLACE_CNT_MEMBER_LOST : Fld := ⟨0x150, 0, 32, .ro, .plain, 0x0, 1, false⟩

/-- R269: PL_CNT_CLR bits 0:0, CLR. -/
def PL_CNT_CLR : Fld := ⟨0x158, 0, 1, .wo, .live, 0x0, 1, false⟩

/-- The fields of the PLACE page (the common header apart). -/
def pagePLACE : List Fld :=
    [PL_CTRL_EN, PL_STAT_STALLED, PL_STAT_PENDING, PL_STAT_SPINNING_UP, PL_SPIN_SPINUP_BUDGET, PL_LIGHT_SEL_LIGHT,
     PL_LIGHT_VIEW_0_GROUP, PL_LIGHT_VIEW_0_WR_OFF, PL_LIGHT_VIEW_0_WEAR, PL_LIGHT_VIEW_0_CUR_TRACK,
     PL_LIGHT_VIEW_1_FREE, PL_LIGHT_VIEW_1_BAD, PL_LIGHT_VIEW_2_BUSY_UNTIL, PL_LIGHT_VIEW_3_BR_CMDS,
     PL_LIGHT_VIEW_3_BR_SHORT, PL_LOOKUP_OBJ_OBJ_ID, PL_LOOKUP_STRIPE, PL_EFF_START, PL_EFF_STOP,
     PL_EFF_CTRL_RUNNING, PL_EFF_CTRL_ARMED, PL_EFF_CTRL_ARM, PLACE_CNT_STRIPE, PLACE_CNT_COMMIT,
     PLACE_CNT_REPLACE, PLACE_CNT_STALL, PLACE_CNT_NO_STRIPE, PLACE_CNT_RD_DIRECT, PLACE_CNT_RD_RECON,
     PLACE_CNT_SUPERSEDE, PLACE_CNT_SPINUP, PLACE_CNT_SPINDOWN, PLACE_CNT_MEMBER_LOST, PL_CNT_CLR]

/-! Page PLACE_GLOBAL. -/

/-- R268: PLG_GRP_SEL bits 7:0, INDEX. -/
def PLG_GRP_SEL_INDEX : Fld := ⟨0x80, 0, 8, .rw, .live, 0x0, 1, false⟩

/-- R268: PLG_GRP_VIEW_0 bits 63:63, EN. -/
def PLG_GRP_VIEW_0_EN : Fld := ⟨0x88, 63, 1, .rw, .staged, 0x0, 1, true⟩

/-- R268: PLG_GRP_VIEW_0 bits 62:61, KIND. -/
def PLG_GRP_VIEW_0_KIND : Fld := ⟨0x88, 61, 2, .rw, .staged, 0x0, 1, true⟩

/-- R268: PLG_GRP_VIEW_0 bits 60:56, K. -/
def PLG_GRP_VIEW_0_K : Fld := ⟨0x88, 56, 5, .rw, .staged, 0x0, 1, true⟩

/-- R268: PLG_GRP_VIEW_0 bits 55:53, M. -/
def PLG_GRP_VIEW_0_M : Fld := ⟨0x88, 53, 3, .rw, .staged, 0x0, 1, true⟩

/-- R268: PLG_GRP_VIEW_0 bits 52:49, STRIP. -/
def PLG_GRP_VIEW_0_STRIP : Fld := ⟨0x88, 49, 4, .rw, .staged, 0x0, 1, true⟩

/-- R268: PLG_GRP_VIEW_0 bits 48:47, DOMAIN_MIN. -/
def PLG_GRP_VIEW_0_DOMAIN_MIN : Fld := ⟨0x88, 47, 2, .rw, .staged, 0x0, 1, true⟩

/-- R268: PLG_GRP_VIEW_0 bits 46:46, SPIN_MGD. -/
def PLG_GRP_VIEW_0_SPIN_MGD : Fld := ⟨0x88, 46, 1, .rw, .staged, 0x0, 1, true⟩

/-- R268: PLG_GRP_VIEW_0 bits 45:43, SET. -/
def PLG_GRP_VIEW_0_SET : Fld := ⟨0x88, 43, 3, .rw, .staged, 0x0, 1, true⟩

/-- R268: PLG_GRP_VIEW_1 bits 63:48, IDLE_S. -/
def PLG_GRP_VIEW_1_IDLE_S : Fld := ⟨0x90, 48, 16, .rw, .staged, 0x258, 1, true⟩

/-- R268: PLG_POLICY bits 63:12, ADDR. -/
def PLG_POLICY_ADDR : Fld := ⟨0x98, 12, 52, .rw, .staged, 0x0, 1, false⟩

/-- R268: PLG_POLICY_STAT bits 63:32, GEN. -/
def PLG_POLICY_STAT_GEN : Fld := ⟨0xa0, 32, 32, .ro, .plain, 0x0, 1, false⟩

/-- R268: PLG_POLICY_STAT bits 7:4, CAUSE. -/
def PLG_POLICY_STAT_CAUSE : Fld := ⟨0xa0, 4, 4, .ro, .plain, 0x0, 1, false⟩

/-- R268: PLG_POLICY_STAT bits 0:0, LOADED. -/
def PLG_POLICY_STAT_LOADED : Fld := ⟨0xa0, 0, 1, .ro, .plain, 0x0, 1, false⟩

/-- The fields of the PLACE_GLOBAL page (the common header apart). -/
def pagePLACE_GLOBAL : List Fld :=
    [PLG_GRP_SEL_INDEX, PLG_GRP_VIEW_0_EN, PLG_GRP_VIEW_0_KIND, PLG_GRP_VIEW_0_K, PLG_GRP_VIEW_0_M,
     PLG_GRP_VIEW_0_STRIP, PLG_GRP_VIEW_0_DOMAIN_MIN, PLG_GRP_VIEW_0_SPIN_MGD, PLG_GRP_VIEW_0_SET,
     PLG_GRP_VIEW_1_IDLE_S, PLG_POLICY_ADDR, PLG_POLICY_STAT_GEN, PLG_POLICY_STAT_CAUSE, PLG_POLICY_STAT_LOADED]

/-! Page PRIMACY. -/

/-- R551: PRM_STAT bits 11:8, CAUSE. -/
def PRM_STAT_CAUSE : Fld := ⟨0x200, 8, 4, .ro, .plain, 0x0, 1, false⟩

/-- R551: PRM_STAT bits 7:7, PREF. -/
def PRM_STAT_PREF : Fld := ⟨0x200, 7, 1, .ro, .plain, 0x0, 1, false⟩

/-- R551: PRM_STAT bits 6:6, E_REACH. -/
def PRM_STAT_E_REACH : Fld := ⟨0x200, 6, 1, .ro, .plain, 0x0, 1, false⟩

/-- R551: PRM_STAT bits 5:5, W_REACH. -/
def PRM_STAT_W_REACH : Fld := ⟨0x200, 5, 1, .ro, .plain, 0x0, 1, false⟩

/-- R551: PRM_STAT bits 4:4, E_LOST. -/
def PRM_STAT_E_LOST : Fld := ⟨0x200, 4, 1, .ro, .plain, 0x0, 1, false⟩

/-- R551: PRM_STAT bits 3:3, W_LOST. -/
def PRM_STAT_W_LOST : Fld := ⟨0x200, 3, 1, .ro, .plain, 0x0, 1, false⟩

/-- R551: PRM_STAT bits 1:0, HOLDER. -/
def PRM_STAT_HOLDER : Fld := ⟨0x200, 0, 2, .ro, .plain, 0x0, 1, false⟩

/-- R551: PRM_CMD bits 4:4, HALF. -/
def PRM_CMD_HALF : Fld := ⟨0x208, 4, 1, .wo, .live, 0x0, 1, false⟩

/-- R551: PRM_CMD bits 3:0, OP. -/
def PRM_CMD_OP : Fld := ⟨0x208, 0, 4, .wo, .live, 0x0, 1, false⟩

/-- R551: PRM_TMO bits 15:0, KEEPER_TMO. -/
def PRM_TMO_KEEPER_TMO : Fld := ⟨0x210, 0, 16, .rw, .live, 0xa, 1, false⟩

/-- R551: PRM_LAST bits 63:0, TIME. -/
def PRM_LAST_TIME : Fld := ⟨0x218, 0, 64, .ro, .plain, 0x0, 1, false⟩

/-- R551: CNT_GRANT bits 31:0, count. -/
def PRIMACY_CNT_GRANT : Fld := ⟨0x220, 0, 32, .ro, .plain, 0x0, 1, false⟩

/-- R551: CNT_LAPSE bits 31:0, count. -/
def PRIMACY_CNT_LAPSE : Fld := ⟨0x228, 0, 32, .ro, .plain, 0x0, 1, false⟩

/-- R551: CNT_LOST bits 31:0, count. -/
def PRIMACY_CNT_LOST : Fld := ⟨0x230, 0, 32, .ro, .plain, 0x0, 1, false⟩

/-- R551: PRM_CNT_CLR bits 0:0, CLR. -/
def PRM_CNT_CLR : Fld := ⟨0x238, 0, 1, .wo, .live, 0x0, 1, false⟩

/-- The fields of the PRIMACY page (the common header apart). -/
def pagePRIMACY : List Fld :=
    [PRM_STAT_CAUSE, PRM_STAT_PREF, PRM_STAT_E_REACH, PRM_STAT_W_REACH, PRM_STAT_E_LOST, PRM_STAT_W_LOST,
     PRM_STAT_HOLDER, PRM_CMD_HALF, PRM_CMD_OP, PRM_TMO_KEEPER_TMO, PRM_LAST_TIME, PRIMACY_CNT_GRANT,
     PRIMACY_CNT_LAPSE, PRIMACY_CNT_LOST, PRM_CNT_CLR]

/-! Page PROTECT. -/

/-- R549: PR_STAT bits 60:58, END_CAUSE. -/
def PR_STAT_END_CAUSE : Fld := ⟨0x200, 58, 3, .ro, .plain, 0x0, 1, false⟩

/-- R549: PR_STAT bits 57:54, CONF_CAUSE. -/
def PR_STAT_CONF_CAUSE : Fld := ⟨0x200, 54, 4, .ro, .plain, 0x0, 1, false⟩

/-- R549: PR_STAT bits 53:50, CAUSE. -/
def PR_STAT_CAUSE : Fld := ⟨0x200, 50, 4, .ro, .plain, 0x0, 1, false⟩

/-- R549: PR_STAT bits 49:49, CONF_FM. -/
def PR_STAT_CONF_FM : Fld := ⟨0x200, 49, 1, .ro, .plain, 0x0, 1, false⟩

/-- R549: PR_STAT bits 48:48, CONF_SP. -/
def PR_STAT_CONF_SP : Fld := ⟨0x200, 48, 1, .ro, .plain, 0x0, 1, false⟩

/-- R549: PR_STAT bits 47:47, FM_VALID. -/
def PR_STAT_FM_VALID : Fld := ⟨0x200, 47, 1, .ro, .plain, 0x0, 1, false⟩

/-- R549: PR_STAT bits 46:46, KEY_SET. -/
def PR_STAT_KEY_SET : Fld := ⟨0x200, 46, 1, .ro, .plain, 0x0, 1, false⟩

/-- R549: PR_STAT bits 45:44, OPENER. -/
def PR_STAT_OPENER : Fld := ⟨0x200, 44, 2, .ro, .plain, 0x0, 1, false⟩

/-- R549: PR_STAT bits 43:31, ENTRIES. -/
def PR_STAT_ENTRIES : Fld := ⟨0x200, 31, 13, .ro, .plain, 0x0, 1, false⟩

/-- R549: PR_STAT bits 1:0, STATE. -/
def PR_STAT_STATE : Fld := ⟨0x200, 0, 2, .ro, .plain, 0x0, 1, false⟩

/-- R549: PR_EPOCH bits 31:0, EPOCH. -/
def PR_EPOCH : Fld := ⟨0x208, 0, 32, .ro, .plain, 0x1, 1, false⟩

/-- R549: PR_DIGEST bits 63:0, DIGEST. -/
def PR_DIGEST : Fld := ⟨0x210, 0, 64, .ro, .plain, 0x0, 1, false⟩

/-- R549: PR_DEADLINE bits 63:0, DEADLINE. -/
def PR_DEADLINE : Fld := ⟨0x218, 0, 64, .ro, .plain, 0x0, 1, false⟩

/-- R549: PR_CMD bits 3:0, OP. -/
def PR_CMD_OP : Fld := ⟨0x220, 0, 4, .wo, .live, 0x0, 1, false⟩

/-- R549: PR_ENTRY bits 63:0, WORD. -/
def PR_ENTRY : Fld := ⟨0x228, 0, 64, .rw, .live, 0x0, 8, false⟩

/-- R549: PR_CONF_DIGEST bits 63:0, DIGEST. -/
def PR_CONF_DIGEST : Fld := ⟨0x268, 0, 64, .rw, .live, 0x0, 1, false⟩

/-- R549: PR_CONFIRM bits 39:32, PRINCIPAL. -/
def PR_CONFIRM_PRINCIPAL : Fld := ⟨0x270, 32, 8, .wo, .live, 0x0, 1, false⟩

/-- R549: PR_CONFIRM bits 31:0, EPOCH. -/
def PR_CONFIRM_EPOCH : Fld := ⟨0x270, 0, 32, .wo, .live, 0x0, 1, false⟩

/-- R549: PR_FM bits 51:32, NODE. -/
def PR_FM_NODE : Fld := ⟨0x278, 32, 20, .ro, .guarded, 0x0, 1, false⟩

/-- R549: PR_FM bits 31:0, CONFIRM_WINDOW. -/
def PR_FM_CONFIRM_WINDOW : Fld := ⟨0x278, 0, 32, .ro, .guarded, 0x2710, 1, false⟩

/-- R549: PR_ATN_WREN bits 63:0, MASK. -/
def PR_ATN_WREN_MASK : Fld := ⟨0x280, 0, 64, .ro, .guarded, 0x0, 1, false⟩

/-- R549: PR_NODE_SEL bits 5:0, INDEX. -/
def PR_NODE_SEL_INDEX : Fld := ⟨0x288, 0, 6, .rw, .live, 0x0, 1, false⟩

/-- R549: PR_NODE_VIEW bits 63:63, VALID. -/
def PR_NODE_VIEW_VALID : Fld := ⟨0x290, 63, 1, .ro, .guarded, 0x0, 1, true⟩

/-- R549: PR_NODE_VIEW bits 51:32, HI. -/
def PR_NODE_VIEW_HI : Fld := ⟨0x290, 32, 20, .ro, .guarded, 0x0, 1, true⟩

/-- R549: PR_NODE_VIEW bits 19:0, LO. -/
def PR_NODE_VIEW_LO : Fld := ⟨0x290, 0, 20, .ro, .guarded, 0x0, 1, true⟩

/-- R549: PR_FW_GEN bits 47:32, EAST. -/
def PR_FW_GEN_EAST : Fld := ⟨0x298, 32, 16, .ro, .plain, 0x0, 1, false⟩

/-- R549: PR_FW_GEN bits 31:16, WEST. -/
def PR_FW_GEN_WEST : Fld := ⟨0x298, 16, 16, .ro, .plain, 0x0, 1, false⟩

/-- R549: PR_FW_GEN bits 15:0, KEEPER. -/
def PR_FW_GEN_KEEPER : Fld := ⟨0x298, 0, 16, .ro, .plain, 0x0, 1, false⟩

/-- R549: PR_EMERG bits 63:0, MASK. -/
def PR_EMERG_MASK : Fld := ⟨0x2a0, 0, 64, .wo, .live, 0x0, 1, false⟩

/-- R549: PR_EMERG_OP bits 14:4, TARGET. -/
def PR_EMERG_OP_TARGET : Fld := ⟨0x2a8, 4, 11, .wo, .live, 0x0, 1, false⟩

/-- R549: PR_EMERG_OP bits 3:0, OP. -/
def PR_EMERG_OP : Fld := ⟨0x2a8, 0, 4, .wo, .live, 0x0, 1, false⟩

/-- R549: PR_EMERG_STAT bits 0:0, ASSERTED. -/
def PR_EMERG_STAT_ASSERTED : Fld := ⟨0x2b0, 0, 1, .ro, .plain, 0x0, 1, false⟩

/-- R549: CNT_PROPOSAL bits 31:0, count. -/
def PROTECT_CNT_PROPOSAL : Fld := ⟨0x300, 0, 32, .ro, .plain, 0x0, 1, false⟩

/-- R549: CNT_COMMIT bits 31:0, count. -/
def PROTECT_CNT_COMMIT : Fld := ⟨0x308, 0, 32, .ro, .plain, 0x0, 1, false⟩

/-- R549: CNT_EXPIRED bits 31:0, count. -/
def PROTECT_CNT_EXPIRED : Fld := ⟨0x310, 0, 32, .ro, .plain, 0x0, 1, false⟩

/-- R549: CNT_CONF_DUP bits 31:0, count. -/
def PROTECT_CNT_CONF_DUP : Fld := ⟨0x318, 0, 32, .ro, .plain, 0x0, 1, false⟩

/-- R549: CNT_MGT_REJECT bits 31:0, count. -/
def PROTECT_CNT_MGT_REJECT : Fld := ⟨0x320, 0, 32, .ro, .plain, 0x0, 1, false⟩

/-- R549: CNT_EMERG bits 31:0, count. -/
def PROTECT_CNT_EMERG : Fld := ⟨0x328, 0, 32, .ro, .plain, 0x0, 1, false⟩

/-- R549: PR_CNT_CLR bits 0:0, CLR. -/
def PR_CNT_CLR : Fld := ⟨0x330, 0, 1, .wo, .live, 0x0, 1, false⟩

/-- The fields of the PROTECT page (the common header apart). -/
def pagePROTECT : List Fld :=
    [PR_STAT_END_CAUSE, PR_STAT_CONF_CAUSE, PR_STAT_CAUSE, PR_STAT_CONF_FM, PR_STAT_CONF_SP, PR_STAT_FM_VALID,
     PR_STAT_KEY_SET, PR_STAT_OPENER, PR_STAT_ENTRIES, PR_STAT_STATE, PR_EPOCH, PR_DIGEST, PR_DEADLINE,
     PR_CMD_OP, PR_ENTRY, PR_CONF_DIGEST, PR_CONFIRM_PRINCIPAL, PR_CONFIRM_EPOCH, PR_FM_NODE, PR_FM_CONFIRM_WINDOW,
     PR_ATN_WREN_MASK, PR_NODE_SEL_INDEX, PR_NODE_VIEW_VALID, PR_NODE_VIEW_HI, PR_NODE_VIEW_LO, PR_FW_GEN_EAST,
     PR_FW_GEN_WEST, PR_FW_GEN_KEEPER, PR_EMERG_MASK, PR_EMERG_OP_TARGET, PR_EMERG_OP, PR_EMERG_STAT_ASSERTED,
     PROTECT_CNT_PROPOSAL, PROTECT_CNT_COMMIT, PROTECT_CNT_EXPIRED, PROTECT_CNT_CONF_DUP, PROTECT_CNT_MGT_REJECT,
     PROTECT_CNT_EMERG, PR_CNT_CLR]

/-! Page QUEUES. -/

/-- R451: Q_SEL bits 15:10, TYPE. -/
def Q_SEL_TYPE : Fld := ⟨0x80, 10, 6, .rw, .live, 0x0, 1, false⟩

/-- R451: Q_SEL bits 9:0, INDEX. -/
def Q_SEL_INDEX : Fld := ⟨0x80, 0, 10, .rw, .live, 0x0, 1, false⟩

/-- R451: Q_CFG bits 47:24, LEVEL. -/
def Q_CFG_LEVEL : Fld := ⟨0x88, 24, 24, .rw, .live, 0x0, 1, true⟩

/-- R451: Q_CFG bits 0:0, FLUSH. -/
def Q_CFG_FLUSH : Fld := ⟨0x88, 0, 1, .wo, .stopped, 0x0, 1, true⟩

/-- R452: Q_STAT bits 63:40, DEPTH. -/
def Q_STAT_DEPTH : Fld := ⟨0x90, 40, 24, .ro, .plain, 0x0, 1, true⟩

/-- R452: Q_STAT bits 39:16, CAPACITY. -/
def Q_STAT_CAPACITY : Fld := ⟨0x90, 16, 24, .ro, .plain, 0x0, 1, true⟩

/-- R452: Q_STAT bits 5:5, OPEN_PKT. -/
def Q_STAT_OPEN_PKT : Fld := ⟨0x90, 5, 1, .ro, .plain, 0x0, 1, true⟩

/-- R452: Q_STAT bits 4:4, DUAL. -/
def Q_STAT_DUAL : Fld := ⟨0x90, 4, 1, .ro, .plain, 0x0, 1, true⟩

/-- R452: Q_STAT bits 3:3, FRAMED. -/
def Q_STAT_FRAMED : Fld := ⟨0x90, 3, 1, .ro, .plain, 0x0, 1, true⟩

/-- R452: Q_STAT bits 2:2, ARMED. -/
def Q_STAT_ARMED : Fld := ⟨0x90, 2, 1, .ro, .plain, 0x0, 1, true⟩

/-- R452: Q_STAT bits 1:1, FULL. -/
def Q_STAT_FULL : Fld := ⟨0x90, 1, 1, .ro, .plain, 0x0, 1, true⟩

/-- R452: Q_STAT bits 0:0, EMPTY. -/
def Q_STAT_EMPTY : Fld := ⟨0x90, 0, 1, .ro, .plain, 0x0, 1, true⟩

/-- R450: Q_CORR bits 31:0, CORR. -/
def Q_CORR : Fld := ⟨0x98, 0, 32, .ro, .plain, 0x0, 1, true⟩

/-- R450: Q_UNCORR bits 31:0, UNCORR. -/
def Q_UNCORR : Fld := ⟨0xa0, 0, 32, .ro, .plain, 0x0, 1, true⟩

/-- R450: Q_FLUSH_DROP bits 31:0, FLUSH_DROP. -/
def Q_FLUSH_DROP : Fld := ⟨0xa8, 0, 32, .ro, .plain, 0x0, 1, true⟩

/-- R450: Q_HIGH bits 23:0, VALUE. -/
def Q_HIGH : Fld := ⟨0xb0, 0, 24, .ro, .plain, 0x0, 1, true⟩

/-- R450: Q_LAST bits 31:16, QID_UNCORR. -/
def Q_LAST_QID_UNCORR : Fld := ⟨0xb8, 16, 16, .ro, .plain, 0x0, 1, false⟩

/-- R450: Q_LAST bits 15:0, QID_LEVEL. -/
def Q_LAST_QID_LEVEL : Fld := ⟨0xb8, 0, 16, .ro, .plain, 0x0, 1, false⟩

/-- R453: A_SEL bits 18:16, REQ. -/
def A_SEL_REQ : Fld := ⟨0x100, 16, 3, .rw, .live, 0x0, 1, false⟩

/-- R453: A_SEL bits 15:10, TYPE. -/
def A_SEL_TYPE : Fld := ⟨0x100, 10, 6, .rw, .live, 0x0, 1, false⟩

/-- R453: A_SEL bits 9:0, INDEX. -/
def A_SEL_INDEX : Fld := ⟨0x100, 0, 10, .rw, .live, 0x0, 1, false⟩

/-- R453: A_CFG bits 7:4, CL. -/
def A_CFG_CL : Fld := ⟨0x108, 4, 4, .rw, .live, 0x0, 1, true⟩

/-- R453: A_CFG bits 3:0, B. -/
def A_CFG_B : Fld := ⟨0x108, 0, 4, .rw, .live, 0x0, 1, true⟩

/-- R454: A_STAT bits 15:15, FIXED. -/
def A_STAT_FIXED : Fld := ⟨0x110, 15, 1, .ro, .plain, 0x0, 1, true⟩

/-- R454: A_STAT bits 14:14, PARKED. -/
def A_STAT_PARKED : Fld := ⟨0x110, 14, 1, .ro, .plain, 0x0, 1, true⟩

/-- R454: A_STAT bits 13:11, OWNER. -/
def A_STAT_OWNER : Fld := ⟨0x110, 11, 3, .ro, .plain, 0x0, 1, true⟩

/-- R454: A_STAT bits 10:8, LAST. -/
def A_STAT_LAST : Fld := ⟨0x110, 8, 3, .ro, .plain, 0x0, 1, true⟩

/-- R454: A_STAT bits 4:4, REQUESTING. -/
def A_STAT_REQUESTING : Fld := ⟨0x110, 4, 1, .ro, .plain, 0x0, 1, true⟩

/-- R454: A_STAT bits 3:0, P. -/
def A_STAT_P : Fld := ⟨0x110, 0, 4, .ro, .plain, 0x0, 1, true⟩

/-- R450: A_GRANTS bits 31:0, GRANTS. -/
def A_GRANTS : Fld := ⟨0x118, 0, 32, .ro, .plain, 0x0, 1, true⟩

/-- R450: A_WAIT bits 63:0, WAIT. -/
def A_WAIT : Fld := ⟨0x120, 0, 64, .ro, .plain, 0x0, 1, true⟩

/-- R450: A_LONGEST bits 31:0, LONGEST. -/
def A_LONGEST : Fld := ⟨0x128, 0, 32, .ro, .plain, 0x0, 1, true⟩

/-- R450: A_CUR_WAIT bits 31:0, CUR_WAIT. -/
def A_CUR_WAIT : Fld := ⟨0x130, 0, 32, .ro, .plain, 0x0, 1, true⟩

/-- R450: Q_CNT_CLR bits 0:0, CLR. -/
def Q_CNT_CLR : Fld := ⟨0x138, 0, 1, .wo, .live, 0x0, 1, false⟩

/-- The fields of the QUEUES page (the common header apart). -/
def pageQUEUES : List Fld :=
    [Q_SEL_TYPE, Q_SEL_INDEX, Q_CFG_LEVEL, Q_CFG_FLUSH, Q_STAT_DEPTH, Q_STAT_CAPACITY, Q_STAT_OPEN_PKT,
     Q_STAT_DUAL, Q_STAT_FRAMED, Q_STAT_ARMED, Q_STAT_FULL, Q_STAT_EMPTY, Q_CORR, Q_UNCORR, Q_FLUSH_DROP,
     Q_HIGH, Q_LAST_QID_UNCORR, Q_LAST_QID_LEVEL, A_SEL_REQ, A_SEL_TYPE, A_SEL_INDEX, A_CFG_CL, A_CFG_B,
     A_STAT_FIXED, A_STAT_PARKED, A_STAT_OWNER, A_STAT_LAST, A_STAT_REQUESTING, A_STAT_P, A_GRANTS,
     A_WAIT, A_LONGEST, A_CUR_WAIT, Q_CNT_CLR]

/-! Page RESULT. -/

/-- R507: RESULT_POP bits 63:63, VALID. -/
def RESULT_POP_VALID : Fld := ⟨0xc0, 63, 1, .rpop, .plain, 0x0, 1, false⟩

/-- R507: RESULT_POP bits 62:56, SEQ. -/
def RESULT_POP_SEQ : Fld := ⟨0xc0, 56, 7, .rpop, .plain, 0x0, 1, false⟩

/-- R507: RESULT_POP bits 55:0, PAYLOAD. -/
def RESULT_POP_PAYLOAD : Fld := ⟨0xc0, 0, 56, .rpop, .plain, 0x0, 1, false⟩

/-- R507: RESULT_INFO bits 63:63, HEADER. -/
def RESULT_INFO_HEADER : Fld := ⟨0xc8, 63, 1, .ro, .plain, 0x0, 1, false⟩

/-- R507: RESULT_INFO bits 47:40, KIND. -/
def RESULT_INFO_KIND : Fld := ⟨0xc8, 40, 8, .ro, .plain, 0x0, 1, false⟩

/-- R507: RESULT_INFO bits 31:16, INDEX. -/
def RESULT_INFO_INDEX : Fld := ⟨0xc8, 16, 16, .ro, .plain, 0x0, 1, false⟩

/-- R507: RESULT_INFO bits 15:0, COUNT. -/
def RESULT_INFO_COUNT : Fld := ⟨0xc8, 0, 16, .ro, .plain, 0x0, 1, false⟩

/-- R507: RESULT_STAT bits 63:32, LOST. -/
def RESULT_STAT_LOST : Fld := ⟨0xd0, 32, 32, .ro, .plain, 0x0, 1, false⟩

/-- R507: RESULT_STAT bits 22:16, NEXT_SEQ. -/
def RESULT_STAT_NEXT_SEQ : Fld := ⟨0xd0, 16, 7, .ro, .plain, 0x0, 1, false⟩

/-- R507: RESULT_STAT bits 12:0, DEPTH. -/
def RESULT_STAT_DEPTH : Fld := ⟨0xd0, 0, 13, .ro, .plain, 0x0, 1, false⟩

/-- R507: RESULT_CTRL bits 0:0, FLUSH. -/
def RESULT_CTRL_FLUSH : Fld := ⟨0xd8, 0, 1, .wo, .live, 0x0, 1, false⟩

/-- The fields of the RESULT page (the common header apart). -/
def pageRESULT : List Fld :=
    [RESULT_POP_VALID, RESULT_POP_SEQ, RESULT_POP_PAYLOAD, RESULT_INFO_HEADER, RESULT_INFO_KIND,
     RESULT_INFO_INDEX, RESULT_INFO_COUNT, RESULT_STAT_LOST, RESULT_STAT_NEXT_SEQ, RESULT_STAT_DEPTH,
     RESULT_CTRL_FLUSH]

/-! Page RINGS. -/

/-- R336: RING_SEL bits 15:0, RING. -/
def RING_SEL_RING : Fld := ⟨0x80, 0, 16, .rw, .live, 0x0, 1, false⟩

/-- R336: RING_CTRL bits 63:63, EN. -/
def RING_CTRL_EN : Fld := ⟨0x88, 63, 1, .rw, .live, 0x0, 1, true⟩

/-- R336: RING_CTRL bits 60:56, SIZE_LOG2. -/
def RING_CTRL_SIZE_LOG2 : Fld := ⟨0x88, 56, 5, .rw, .stopped, 0x4, 1, true⟩

/-- R336: RING_CTRL bits 55:53, CLASS. -/
def RING_CTRL_CLASS : Fld := ⟨0x88, 53, 3, .rw, .stopped, 0x7, 1, true⟩

/-- R336: RING_CTRL bits 52:48, AGG. -/
def RING_CTRL_AGG : Fld := ⟨0x88, 48, 5, .rw, .stopped, 0x0, 1, true⟩

/-- R336: RING_CTRL bits 47:47, AGG_EN. -/
def RING_CTRL_AGG_EN : Fld := ⟨0x88, 47, 1, .rw, .stopped, 0x0, 1, true⟩

/-- R336: RING_CTRL bits 46:24, ENTRY. -/
def RING_CTRL_ENTRY : Fld := ⟨0x88, 24, 23, .rw, .stopped, 0x0, 1, true⟩

/-- R336: RING_CTRL bits 19:0, CTX. -/
def RING_CTRL_CTX : Fld := ⟨0x88, 0, 20, .rw, .stopped, 0x0, 1, true⟩

/-- R336: RING_NODE bits 63:44, NODE. -/
def RING_NODE : Fld := ⟨0x90, 44, 20, .rw, .stopped, 0x0, 1, true⟩

/-- R336: RING_CI_ADDR bits 63:3, ADDR. -/
def RING_CI_ADDR : Fld := ⟨0x98, 3, 61, .rw, .stopped, 0x0, 1, true⟩

/-- R336: RING_CI_KEY bits 63:0, KEY. -/
def RING_CI_KEY : Fld := ⟨0xa0, 0, 64, .rw, .stopped, 0x0, 1, true⟩

/-- R336: RING_STAT bits 63:63, IDLE. -/
def RING_STAT_IDLE : Fld := ⟨0xa8, 63, 1, .ro, .plain, 0x1, 1, true⟩

/-- R336: RING_STAT bits 62:62, LAPPED. -/
def RING_STAT_LAPPED : Fld := ⟨0xa8, 62, 1, .ro, .plain, 0x0, 1, true⟩

/-- R336: RING_STAT bits 61:61, HALF. -/
def RING_STAT_HALF : Fld := ⟨0xa8, 61, 1, .ro, .plain, 0x0, 1, true⟩

/-- R336: RING_STAT bits 48:32, PI. -/
def RING_STAT_PI : Fld := ⟨0xa8, 32, 17, .ro, .plain, 0x0, 1, true⟩

/-- R336: RING_STAT bits 31:17, OUTSTANDING. -/
def RING_STAT_OUTSTANDING : Fld := ⟨0xa8, 17, 15, .ro, .plain, 0x0, 1, true⟩

/-- R336: RING_STAT bits 16:0, CI. -/
def RING_STAT_CI : Fld := ⟨0xa8, 0, 17, .ro, .plain, 0x0, 1, true⟩

/-- R336: POLL_LOAD bits 63:32, EAST. -/
def POLL_LOAD_EAST : Fld := ⟨0xb0, 32, 32, .ro, .plain, 0x0, 1, false⟩

/-- R336: POLL_LOAD bits 31:0, WEST. -/
def POLL_LOAD_WEST : Fld := ⟨0xb0, 0, 32, .ro, .plain, 0x0, 1, false⟩

/-- The fields of the RINGS page (the common header apart). -/
def pageRINGS : List Fld :=
    [RING_SEL_RING, RING_CTRL_EN, RING_CTRL_SIZE_LOG2, RING_CTRL_CLASS, RING_CTRL_AGG, RING_CTRL_AGG_EN,
     RING_CTRL_ENTRY, RING_CTRL_CTX, RING_NODE, RING_CI_ADDR, RING_CI_KEY, RING_STAT_IDLE, RING_STAT_LAPPED,
     RING_STAT_HALF, RING_STAT_PI, RING_STAT_OUTSTANDING, RING_STAT_CI, POLL_LOAD_EAST, POLL_LOAD_WEST]

/-! Page SCHED. -/

/-- R233: SCH_CTRL bits 39:24, VFY_TMO. -/
def SCH_CTRL_VFY_TMO : Fld := ⟨0x80, 24, 16, .rw, .live, 0x64, 1, false⟩

/-- R233: SCH_CTRL bits 23:16, RES_CAP_PCT. -/
def SCH_CTRL_RES_CAP_PCT : Fld := ⟨0x80, 16, 8, .rw, .live, 0x32, 1, false⟩

/-- R233: SCH_CTRL bits 15:8, MISS_LIMIT. -/
def SCH_CTRL_MISS_LIMIT : Fld := ⟨0x80, 8, 8, .rw, .live, 0x8, 1, false⟩

/-- R233: SCH_CTRL bits 0:0, EN. -/
def SCH_CTRL_EN : Fld := ⟨0x80, 0, 1, .rw, .live, 0x0, 1, false⟩

/-- R233: SCH_STAT bits 46:38, STREAMS. -/
def SCH_STAT_STREAMS : Fld := ⟨0x88, 38, 9, .ro, .plain, 0x0, 1, false⟩

/-- R233: SCH_STAT bits 37:19, HIGH_WATER. -/
def SCH_STAT_HIGH_WATER : Fld := ⟨0x88, 19, 19, .ro, .plain, 0x0, 1, false⟩

/-- R233: SCH_STAT bits 18:0, PENDING. -/
def SCH_STAT_PENDING : Fld := ⟨0x88, 0, 19, .ro, .plain, 0x0, 1, false⟩

/-- R233: SCH_STR_SEL bits 7:0, INDEX. -/
def SCH_STR_SEL_INDEX : Fld := ⟨0x90, 0, 8, .rw, .live, 0x0, 1, false⟩

/-- R233: SCH_STR_VIEW_0 bits 63:63, OPEN. -/
def SCH_STR_VIEW_0_OPEN : Fld := ⟨0x98, 63, 1, .ro, .plain, 0x0, 1, true⟩

/-- R233: SCH_STR_VIEW_0 bits 62:60, STATE. -/
def SCH_STR_VIEW_0_STATE : Fld := ⟨0x98, 60, 3, .ro, .plain, 0x0, 1, true⟩

/-- R233: SCH_STR_VIEW_0 bits 59:46, LIGHT. -/
def SCH_STR_VIEW_0_LIGHT : Fld := ⟨0x98, 46, 14, .ro, .plain, 0x0, 1, true⟩

/-- R233: SCH_STR_VIEW_0 bits 45:40, FIFO_LOG2. -/
def SCH_STR_VIEW_0_FIFO_LOG2 : Fld := ⟨0x98, 40, 6, .ro, .plain, 0x0, 1, true⟩

/-- R233: SCH_STR_VIEW_1 bits 63:32, RES_KIB. -/
def SCH_STR_VIEW_1_RES_KIB : Fld := ⟨0xa0, 32, 32, .ro, .plain, 0x0, 1, true⟩

/-- R233: SCH_STR_VIEW_1 bits 31:0, CREDIT. -/
def SCH_STR_VIEW_1_CREDIT : Fld := ⟨0xa0, 0, 32, .ro, .plain, 0x0, 1, true⟩

/-- R233: SCH_STR_VIEW_2 bits 63:32, UNSENT. -/
def SCH_STR_VIEW_2_UNSENT : Fld := ⟨0xa8, 32, 32, .ro, .plain, 0x0, 1, true⟩

/-- R233: SCH_STR_VIEW_2 bits 31:0, UNVERIFIED. -/
def SCH_STR_VIEW_2_UNVERIFIED : Fld := ⟨0xa8, 0, 32, .ro, .plain, 0x0, 1, true⟩

/-- R233: SCH_STR_VIEW_3 bits 63:32, NEXT_BLOCK. -/
def SCH_STR_VIEW_3_NEXT_BLOCK : Fld := ⟨0xb0, 32, 32, .ro, .plain, 0x0, 1, true⟩

/-- R233: SCH_STR_VIEW_3 bits 31:0, MARKS_LOST. -/
def SCH_STR_VIEW_3_MARKS_LOST : Fld := ⟨0xb0, 0, 32, .ro, .plain, 0x0, 1, true⟩

/-- R233: CNT_FIRED bits 31:0, count. -/
def SCHED_CNT_FIRED : Fld := ⟨0x100, 0, 32, .ro, .plain, 0x0, 1, false⟩

/-- R233: CNT_MISS_LATE bits 31:0, count. -/
def SCHED_CNT_MISS_LATE : Fld := ⟨0x108, 0, 32, .ro, .plain, 0x0, 1, false⟩

/-- R233: CNT_MISS_STN bits 31:0, count. -/
def SCHED_CNT_MISS_STN : Fld := ⟨0x110, 0, 32, .ro, .plain, 0x0, 1, false⟩

/-- R233: CNT_HANDBACK bits 31:0, count. -/
def SCHED_CNT_HANDBACK : Fld := ⟨0x118, 0, 32, .ro, .plain, 0x0, 1, false⟩

/-- R233: CNT_VFY_TMO bits 31:0, count. -/
def SCHED_CNT_VFY_TMO : Fld := ⟨0x120, 0, 32, .ro, .plain, 0x0, 1, false⟩

/-- R233: CNT_MARK_LOST bits 31:0, count. -/
def SCHED_CNT_MARK_LOST : Fld := ⟨0x128, 0, 32, .ro, .plain, 0x0, 1, false⟩

/-- R233: CNT_BACKHITCH bits 31:0, count. -/
def SCHED_CNT_BACKHITCH : Fld := ⟨0x130, 0, 32, .ro, .plain, 0x0, 1, false⟩

/-- R233: CNT_TAPE_STALL bits 31:0, count. -/
def SCHED_CNT_TAPE_STALL : Fld := ⟨0x138, 0, 32, .ro, .plain, 0x0, 1, false⟩

/-- R233: CNT_RES_REFUSED bits 31:0, count. -/
def SCHED_CNT_RES_REFUSED : Fld := ⟨0x140, 0, 32, .ro, .plain, 0x0, 1, false⟩

/-- R233: SCH_CNT_CLR bits 0:0, CLR. -/
def SCH_CNT_CLR : Fld := ⟨0x148, 0, 1, .wo, .live, 0x0, 1, false⟩

/-- The fields of the SCHED page (the common header apart). -/
def pageSCHED : List Fld :=
    [SCH_CTRL_VFY_TMO, SCH_CTRL_RES_CAP_PCT, SCH_CTRL_MISS_LIMIT, SCH_CTRL_EN, SCH_STAT_STREAMS,
     SCH_STAT_HIGH_WATER, SCH_STAT_PENDING, SCH_STR_SEL_INDEX, SCH_STR_VIEW_0_OPEN, SCH_STR_VIEW_0_STATE,
     SCH_STR_VIEW_0_LIGHT, SCH_STR_VIEW_0_FIFO_LOG2, SCH_STR_VIEW_1_RES_KIB, SCH_STR_VIEW_1_CREDIT,
     SCH_STR_VIEW_2_UNSENT, SCH_STR_VIEW_2_UNVERIFIED, SCH_STR_VIEW_3_NEXT_BLOCK, SCH_STR_VIEW_3_MARKS_LOST,
     SCHED_CNT_FIRED, SCHED_CNT_MISS_LATE, SCHED_CNT_MISS_STN, SCHED_CNT_HANDBACK, SCHED_CNT_VFY_TMO,
     SCHED_CNT_MARK_LOST, SCHED_CNT_BACKHITCH, SCHED_CNT_TAPE_STALL, SCHED_CNT_RES_REFUSED, SCH_CNT_CLR]

/-! Page TIMEBASE. -/

/-- R231: TB_NOW bits 63:0, NOW. -/
def TB_NOW : Fld := ⟨0x80, 0, 64, .ro, .plain, 0x0, 1, false⟩

/-- R231: TB_CTRL bits 0:0, PPS_EN. -/
def TB_CTRL_PPS_EN : Fld := ⟨0x88, 0, 1, .rw, .live, 0x0, 1, false⟩

/-- R231: TB_SET bits 63:0, VALUE. -/
def TB_SET : Fld := ⟨0x90, 0, 64, .wo, .stopped, 0x0, 1, false⟩

/-- R231: TB_STAT bits 63:32, PPS_ERR. -/
def TB_STAT_PPS_ERR : Fld := ⟨0x98, 32, 32, .ro, .plain, 0x0, 1, false⟩

/-- R231: TB_STAT bits 3:3, PPS_FAR. -/
def TB_STAT_PPS_FAR : Fld := ⟨0x98, 3, 1, .ro, .plain, 0x0, 1, false⟩

/-- R231: TB_STAT bits 2:2, PPS_OK. -/
def TB_STAT_PPS_OK : Fld := ⟨0x98, 2, 1, .ro, .plain, 0x0, 1, false⟩

/-- R231: TB_STAT bits 1:1, HOLDOVER. -/
def TB_STAT_HOLDOVER : Fld := ⟨0x98, 1, 1, .ro, .plain, 0x0, 1, false⟩

/-- R231: TB_STAT bits 0:0, REF_OK. -/
def TB_STAT_REF_OK : Fld := ⟨0x98, 0, 1, .ro, .plain, 0x0, 1, false⟩

/-- R231: TB_PPS_CAP bits 63:0, CAP. -/
def TB_PPS_CAP : Fld := ⟨0xa0, 0, 64, .ro, .plain, 0x0, 1, false⟩

/-- R596: TB_REF_MEAS bits 63:32, DEV. -/
def TB_REF_MEAS_DEV : Fld := ⟨0xa8, 32, 32, .ro, .plain, 0x0, 1, false⟩

/-- R596: TB_REF_MEAS bits 15:0, GOOD_GATES. -/
def TB_REF_MEAS_GOOD_GATES : Fld := ⟨0xa8, 0, 16, .ro, .plain, 0x0, 1, false⟩

/-- R596: TB_HOLD bits 63:32, HOLD_PPB. -/
def TB_HOLD_HOLD_PPB : Fld := ⟨0xb0, 32, 32, .ro, .plain, 0x0, 1, false⟩

/-- R596: TB_HOLD bits 31:31, HOLD_VALID. -/
def TB_HOLD_HOLD_VALID : Fld := ⟨0xb0, 31, 1, .ro, .plain, 0x0, 1, false⟩

/-- R596: TB_HOLD bits 30:0, HOLD_S. -/
def TB_HOLD_HOLD_S : Fld := ⟨0xb0, 0, 31, .ro, .plain, 0x0, 1, false⟩

/-- R596: CNT_PPS_GLITCH bits 31:0, count. -/
def TIMEBASE_CNT_PPS_GLITCH : Fld := ⟨0xb8, 0, 32, .ro, .plain, 0x0, 1, false⟩

/-- R596: CNT_HOLDOVER bits 31:0, count. -/
def TIMEBASE_CNT_HOLDOVER : Fld := ⟨0xc0, 0, 32, .ro, .plain, 0x0, 1, false⟩

/-- The fields of the TIMEBASE page (the common header apart). -/
def pageTIMEBASE : List Fld :=
    [TB_NOW, TB_CTRL_PPS_EN, TB_SET, TB_STAT_PPS_ERR, TB_STAT_PPS_FAR, TB_STAT_PPS_OK, TB_STAT_HOLDOVER,
     TB_STAT_REF_OK, TB_PPS_CAP, TB_REF_MEAS_DEV, TB_REF_MEAS_GOOD_GATES, TB_HOLD_HOLD_PPB, TB_HOLD_HOLD_VALID,
     TB_HOLD_HOLD_S, TIMEBASE_CNT_PPS_GLITCH, TIMEBASE_CNT_HOLDOVER]

end Sys2Proof.Machine.R
end

