-- ==== Sys2Proof/Machine/Ops.lean ====
section
/-!
DEFINITION. The named operations over the state: sparse tables, register fields, page numbers, events and strikes,
counters, refusals, result queues and the device's output. Every family of commands is written over these.
-/
namespace Sys2Proof.Machine

/-! Sparse tables. -/

/-- The value a table holds at a key, its default where none is listed. -/
def tgetBy {κ α : Type} [DecidableEq κ] (d : α) : List (κ × α) → κ → α
  | [], _ => d
  | (k', v) :: r, k => if k' = k then v else tgetBy d r k

/-- Insertion that keeps the order of the numbers `code` gives the keys. -/
def tinsBy {κ α : Type} [DecidableEq κ] (code : κ → Nat) : List (κ × α) → κ → α → List (κ × α)
  | [], k, v => [(k, v)]
  | (k', v') :: r, k, v =>
    if k' = k then (k, v) :: r
    else if code k < code k' then (k, v) :: (k', v') :: r
    else (k', v') :: tinsBy code r k v

/-- A table with the value at a key replaced; the default is never listed. -/
def tputBy {κ α : Type} [DecidableEq κ] [DecidableEq α] (code : κ → Nat) (d : α) (t : List (κ × α)) (k : κ) (v : α) :
    List (κ × α) :=
  if v = d then t.filter (fun p => decide (p.1 ≠ k)) else tinsBy code t k v

/-- The value of a numbered table at `k`. -/
def tget {α : Type} (d : α) (t : Table α) (k : Nat) : α := tgetBy d t k

/-- A numbered table with the value at `k` replaced. -/
def tput {α : Type} [DecidableEq α] (d : α) (t : Table α) (k : Nat) (v : α) : Table α := tputBy (fun n => n) d t k v

/-- The keys of a table are strictly rising and no entry is the default. -/
def twf {κ α : Type} [DecidableEq α] (code : κ → Nat) (d : α) : List (κ × α) → Bool
  | [] => true
  | [(_, v)] => decide (v ≠ d)
  | (k, v) :: (k', v') :: r => decide (v ≠ d) && decide (code k < code k') && twf code d ((k', v') :: r)

/-- The part of a pair that belongs to a half. -/
def PerHalf.at {α : Type} (p : PerHalf α) : Half → α
  | .west => p.west
  | .east => p.east

/-- A pair with one half's part replaced. -/
def PerHalf.put {α : Type} (p : PerHalf α) (h : Half) (v : α) : PerHalf α :=
  match h with
  | .west => { p with west := v }
  | .east => { p with east := v }

/-! Register fields. -/

/-- The number that orders the places of the field store. -/
def RKey.code (k : RKey) : Nat := ((k.page * 4096 + k.off) * 64 + k.lo) * 16777216 + k.idx

/-- The field of register `i` of an array of registers. -/
def Fld.at (f : Fld) (i : Nat) : Fld := { f with off := f.off + 8 * i }

/-- The place of field `f` of page `P` for record `i`. -/
def Fld.key (f : Fld) (P i : Nat) : RKey := ⟨P, f.off, f.lo, i⟩

/-- The value in force of field `f` of page `P` for the selected record `i`. -/
def rdI (s : State) (P : Nat) (f : Fld) (i : Nat) : Nat := tgetBy f.rst s.regs (f.key P i)

/-- The value in force of field `f` of page `P`. -/
def rd (s : State) (P : Nat) (f : Fld) : Nat := rdI s P f 0

/-- Field `f` of page `P`, record `i`, set to `v`, cut to the field's width. -/
def wrI (P : Nat) (f : Fld) (i v : Nat) (s : State) : State :=
  { s with regs := tputBy RKey.code f.rst s.regs (f.key P i) (v % 2 ^ f.w) }

/-- Field `f` of page `P` set to `v`. -/
def wr (P : Nat) (f : Fld) (v : Nat) (s : State) : State := wrI P f 0 v s

/-- A one-bit field read as a truth value. -/
def rdB (s : State) (P : Nat) (f : Fld) : Bool := rd s P f != 0

/-- A one-bit field of record `i` read as a truth value. -/
def rdBI (s : State) (P : Nat) (f : Fld) (i : Nat) : Bool := rdI s P f i != 0

/-- The records for which field `f` of page `P` does not hold its reset value, in rising order. -/
def listedIdx (s : State) (P : Nat) (f : Fld) : List Nat :=
  (s.regs.filter (fun e => decide (e.1.page = P ∧ e.1.off = f.off ∧ e.1.lo = f.lo))).map (·.1.idx)

/-- A truth value as a one-bit field. -/
def bit (b : Bool) : Nat := if b then 1 else 0

/-! Page numbers (R485-R487). -/

/-- Page `q` of the global region. -/
def pgG (q : Nat) : Nat := 4 * q

/-- Page `q` of a half's region. -/
def pgH (q : Nat) (h : Half) : Nat := 4 * q + 1 + h.num

def pgGlobal : Nat := pgG 0
def pgHost : Nat := pgG 1
def pgLantern : Nat := pgG 2
def pgTimebase : Nat := pgG 3
def pgKeeper : Nat := pgG 4
def pgProtect : Nat := pgG 5
def pgPrimacy : Nat := pgG 6
def pgContexts : Nat := pgG 7
def pgRings : Nat := pgG 8
def pgPlaceG : Nat := pgG 9
def pgEaselG : Nat := pgG 10
def pgQueuesG : Nat := pgG 11
def pgDataPort : Nat := pgG 12
def pgMgmt (h : Half) : Nat := pgH 0 h
def pgEgress (h : Half) : Nat := pgH 1 h
def pgPalette (h : Half) : Nat := pgH 2 h
def pgCrossing (h : Half) : Nat := pgH 3 h
def pgLight (h : Half) : Nat := pgH 4 h
def pgSched (h : Half) : Nat := pgH 5 h
def pgPlace (h : Half) : Nat := pgH 6 h
def pgDikar (h : Half) : Nat := pgH 7 h
def pgMatch (h : Half) : Nat := pgH 8 h
def pgColl (h : Half) : Nat := pgH 9 h
def pgErasure (h : Half) : Nat := pgH 10 h
def pgQueues (h : Half) : Nat := pgH 11 h
def pgEasel (h : Half) : Nat := pgH 12 h
def pgCal (h : Half) : Nat := pgH 13 h

/-- The half of fabric port F[n]: 0-7 West, 8-15 East (R487). -/
def fHalf (n : Nat) : Half := if n < 8 then .west else .east

/-- The half of Atnen port A[n]: 0-31 West, 32-63 East (R487). -/
def aHalf (n : Nat) : Half := if n < 32 then .west else .east

/-- The half of a light: 0-8,191 West, the rest East (R23). -/
def lHalf (l : Nat) : Half := if l < 8192 then .west else .east

/-- The FIU page of F[n]. -/
def pgFiu (n : Nat) : Nat := pgH (16 + n % 8) (fHalf n)

/-- The APU page of A[n]. -/
def pgApu (n : Nat) : Nat := pgH (32 + n % 32) (aHalf n)

/-- The page kinds (R486, R487); none for a reserved page and for MSIX. -/
inductive PageKind where
  | global | host | lantern | timebase | keeper | protect | primacy | contexts | rings | placeG | easelG | queuesG
  | dataPort | mgmt | egress | palette | crossing | light | sched | place | dikar | matching | coll | erasure
  | queues | easel | cal | fiu | apu
deriving DecidableEq, Repr

/-- The kind of page P (R485-R487). -/
def pageKind (P : Nat) : Option PageKind :=
  let q := P / 4
  if P % 4 = 0 then
    [PageKind.global, .host, .lantern, .timebase, .keeper, .protect, .primacy, .contexts, .rings, .placeG, .easelG,
      .queuesG, .dataPort][q]?
  else if P % 4 = 3 then none
  else if q < 14 then
    [PageKind.mgmt, .egress, .palette, .crossing, .light, .sched, .place, .dikar, .matching, .coll, .erasure, .queues,
      .easel, .cal][q]?
  else if 16 ≤ q ∧ q < 24 then some .fiu
  else if 32 ≤ q ∧ q < 64 then some .apu
  else none

/-- The half whose page P is, where it is a half's. -/
def pageHalf (P : Nat) : Option Half :=
  if P % 4 = 1 then some .west else if P % 4 = 2 then some .east else none

/-- The Lantern source that page P strikes (R460, R461, R486, R487); none for a page without events. -/
def pageSource (P : Nat) : Option Nat :=
  let e := (P % 4 - 1) * 32
  match pageKind P with
  | some .global => some 3
  | some .host => some 5
  | some .lantern => some 4
  | some .timebase => some 240
  | some .keeper => some 0
  | some .protect => some 1
  | some .primacy => some 2
  | some .contexts => none
  | some .rings => some 244
  | some .placeG => some 243
  | some .easelG => some 186
  | some .queuesG => some 245
  | some .dataPort => none
  | some .mgmt => some (32 + e + 11)
  | some .egress => some (32 + e)
  | some .palette => some (32 + e + 1)
  | some .crossing => some (32 + e + 2)
  | some .light => some (32 + e + 3)
  | some .sched => some (32 + e + 4)
  | some .place => some (32 + e + 5)
  | some .dikar => some (32 + e + 6)
  | some .matching => some (32 + e + 7)
  | some .coll => some (32 + e + 8)
  | some .erasure => some (32 + e + 9)
  | some .queues => some (32 + e + 10)
  | some .easel => some (184 + (P % 4 - 1))
  | some .cal => some (241 + (P % 4 - 1))
  | some .fiu => some (96 + (P % 4 - 1) * 8 + (P / 4 - 16))
  | some .apu => some (112 + (P % 4 - 1) * 32 + (P / 4 - 32))
  | none => none

/-! Time. -/

/-- A half's copy of the timebase (R199, R200). -/
def nowH (s : State) (h : Half) : Nat := s.tb.at h

/-- The West copy, which TB_NOW shows (R231). -/
def now (s : State) : Nat := s.tb.west

/-! Events and strikes (R456, R459, R460). -/

/-- A strike of source `src` that arises on half `h`. -/
def strike (src : Nat) (h : Half) (s : State) : State :=
  { s with strikes := s.strikes ++ [⟨src, h, nowH s h, []⟩] }

/-- An occurrence of event `b` of page `P`, whose strike goes to source `src`: EVT_RAW is set; where EVT_EN is 1,
EVT_PEND is set and one strike is sent (R456). -/
def raiseTo (src P b : Nat) (s : State) : State :=
  let s1 := wr P R.EVT_RAW (rd s P R.EVT_RAW ||| 2 ^ b) s
  if (rd s P R.EVT_EN).testBit b then
    strike src ((pageHalf P).getD .west) (wr P R.EVT_PEND (rd s P R.EVT_PEND ||| 2 ^ b) s1)
  else s1

/-- An occurrence of event `b` of page `P` (R456). -/
def raise (P b : Nat) (s : State) : State := raiseTo ((pageSource P).getD 0) P b s

/-- `raise` where a condition holds. -/
def raiseIf (c : Bool) (P b : Nat) (s : State) : State := if c then raise P b s else s

/-! Counters. -/

/-- A counter of page `P` grown by `k`, saturating, unless the page's FREEZE is 1 (R490). -/
def bumpBy (P : Nat) (f : Fld) (k : Nat) (s : State) : State :=
  if rdB s P R.CTRL_FREEZE then s else wr P f (min (rd s P f + k) (2 ^ f.w - 1)) s

/-- A counter of page `P` grown by one. -/
def bump (P : Nat) (f : Fld) (s : State) : State := bumpBy P f 1 s

/-- A list of registers of page `P` set to zero: what a counter-clear bit does, FREEZE or not (R490). -/
def clearAll (P : Nat) (fs : List Fld) (s : State) : State := fs.foldl (fun t f => wr P f 0 t) s

/-! Refused writes (R500, R501). -/

/-- CLASS of a log entry (R501). -/
def FCls.code : FCls → Nat
  | .live => 0
  | .staged => 1
  | .stopped => 2
  | .guarded => 3
  | .plain => 0

/-- PATH of a log entry (R501); the device at a boundary is none. -/
def pathCode : Option Path → Nat
  | some .pcie => 0
  | some .mgt => 1
  | some .smbus => 2
  | none => 3

/-- A page log with one refusal more: past 16 unread entries the oldest is overwritten (R501). -/
def pushLog (payload : Nat) (l : PageLog) : PageLog :=
  let es := if l.entries.length < 16 then l.entries else l.entries.drop 1
  { entries := es ++ [(l.seq, payload)], seq := (l.seq + 1) % 128 }

/-- The page's log, counts and GLOBAL records of one refusal at byte `off` of page `P` (R500, R501). While the main
supplies are off, a refusal by SMBus is kept in the KEEPER page's log only (R516). -/
def cfgReject (P off cause : Nat) (cls : FCls) (path : Option Path) (s : State) : State :=
  let t := now s % 2 ^ 32
  let payload := off * 2 ^ 44 + cause * 2 ^ 40 + cls.code * 2 ^ 38 + pathCode path * 2 ^ 36 + t
  let s1 := { s with logs := tput {} s.logs P (pushLog payload (tget {} s.logs P)) }
  let s2 := wr P R.ERRLOG_HEAD (rd s1 P R.ERRLOG_HEAD + 1) s1
  if path = some .smbus ∧ rd s pgKeeper R.KP_PWR_STAT_STATE ≤ 1 then s2
  else
    let s3 := wr P R.CLASS_STAT_REJECTS (min (rd s2 P R.CLASS_STAT_REJECTS + 1) 65535) s2
    let s4 := bump pgGlobal R.GLOBAL_CNT_CFG_REJECT s3
    let s5 := wr pgGlobal R.GL_CFG_LAST_PAGE P (wr pgGlobal R.GL_CFG_LAST_OFFSET off
      (wr pgGlobal R.GL_CFG_LAST_CAUSE cause (wr pgGlobal R.GL_CFG_LAST_PATH (pathCode path)
      (wr pgGlobal R.GL_CFG_LAST_TIME t s4))))
    raise pgGlobal 0 s5

/-! Result queues (R505, R506). -/

/-- The page of result queue `q`: 0 HOST, 1 West MGMT, 2 East MGMT. -/
def resPage (q : Nat) : Nat := if q = 0 then pgHost else if q = 1 then pgMgmt .west else pgMgmt .east

/-- The result queue of a half. -/
def resOf (h : Half) : Nat := 1 + h.num

/-- The words of a result, numbered from `seq`, with what RESULT_INFO shows of each. -/
def resWords (kind count : Nat) : Nat → Nat → List Nat → List ResWord
  | _, _, [] => []
  | seq, i, p :: ps =>
    ⟨p % 2 ^ 56, seq % 128, decide (count ≠ 0 ∧ i = 0), kind, i, if i = 0 then count else 0⟩ ::
      resWords kind count (seq + 1) (i + 1) ps

/-- One result pushed whole onto queue `q`: a single word where `ws` has one word and `header` is false, else a header
word with the count before the words. A result that does not fit is discarded whole, its numbers used up (R506). -/
def pushResult (q kind : Nat) (header : Bool) (ws : List Nat) (s : State) : State :=
  let r := tget {} s.results q
  let all := if header then ws.length :: ws else ws
  let cnt := if header then ws.length else 0
  let n := all.length
  if r.words.length + n ≤ 4096 then
    let r' : ResQ := { r with words := r.words ++ resWords kind cnt r.nextSeq 0 all, nextSeq := (r.nextSeq + n) % 128 }
    raiseIf r.words.isEmpty (resPage q) 0 { s with results := tput {} s.results q r' }
  else
    let r' : ResQ := { r with lost := min (r.lost + n) (2 ^ 32 - 1), nextSeq := (r.nextSeq + n) % 128 }
    raise (resPage q) 1 { s with results := tput {} s.results q r' }

/-- One unit tells another. -/
def post (m : Mail) (s : State) : State := { s with mail := s.mail ++ [m] }

/-! What leaves the device. -/

/-- One more thing has left the device. -/
def emit (o : Out) (s : State) : State := { s with out := s.out ++ [o] }

/-- The command goes on to its next state. -/
def done (s : State) : Host.Outcome State Fault Refusal := .next s

/-! Bit fields and bytes. -/

/-- Bits `hi`:`lo` of a number. -/
def bits (w hi lo : Nat) : Nat := (w / 2 ^ lo) % 2 ^ (hi + 1 - lo)

/-- The little-endian number of a list of bytes. -/
def leNat : List Byte → Nat
  | [] => 0
  | b :: r => b.toNat + 256 * leNat r

/-- `n` little-endian bytes of a number. -/
def leBytes : Nat → Nat → List Byte
  | 0, _ => []
  | n + 1, w => BitVec.ofNat 8 w :: leBytes n (w / 256)

/-- `n` zero bytes. -/
def zeros (n : Nat) : List Byte := List.replicate n 0

/-- The first `n` bytes, filled up with zeros. -/
def fit (n : Nat) (l : List Byte) : List Byte := l.take n ++ zeros (n - l.length)

/-- A list cut into `k` pieces of `n`, the last filled up with zeros. -/
def pieces (n : Nat) : Nat → List Byte → List (List Byte)
  | 0, _ => []
  | k + 1, l => fit n l :: pieces n k (l.drop n)

/-- One bit step of a reflected CRC with reversed polynomial `poly`. -/
def crcBit (poly c : Nat) : Nat := if c % 2 = 1 then (c / 2) ^^^ poly else c / 2

/-- One byte of a reflected CRC. -/
def crcByte (poly c : Nat) (b : Byte) : Nat :=
  let x := c ^^^ b.toNat
  crcBit poly (crcBit poly (crcBit poly (crcBit poly (crcBit poly (crcBit poly (crcBit poly (crcBit poly x)))))))

/-- CRC-32C (R43): polynomial 0x1EDC6F41 reflected, initial value and final XOR all ones. -/
def crc32c (l : List Byte) : Nat := (l.foldl (crcByte 0x82F63B78) 0xFFFFFFFF) ^^^ 0xFFFFFFFF

end Sys2Proof.Machine
end

