-- ==== Sys2Proof/Machine/EaselMem.lean ====
section
/-!
DEFINITION. Easel as an addressed memory (R361, R362): bytes in one canonical form, reads and writes of byte runs.
-/
namespace Sys2Proof.Machine

/-- What a byte of Easel that nothing has written reads as. PRESUMED: the spec gives none. -/
def ezBlank : Byte := 0

/-- The byte of a cell list at an address. -/
def cellGet (a : Nat) : List Host.Cell → Byte
  | [] => ezBlank
  | (b, v) :: r => if b = a then v else if b < a then cellGet a r else ezBlank

/-- A cell list with one byte written: rising addresses, no blank byte listed. -/
def cellPut (a : Nat) (v : Byte) : List Host.Cell → List Host.Cell
  | [] => if v = ezBlank then [] else [(a, v)]
  | (b, w) :: r =>
    if b < a then (b, w) :: cellPut a v r
    else if b = a then (if v = ezBlank then r else (a, v) :: r)
    else if v = ezBlank then (b, w) :: r else (a, v) :: (b, w) :: r

/-- A cell list with a run of bytes written. -/
def cellPuts (a : Nat) : List Byte → List Host.Cell → List Host.Cell
  | [], m => m
  | v :: vs, m => cellPuts (a + 1) vs (cellPut a v m)

/-- The canonical form: addresses strictly rising, no entry equal to what an unlisted address reads as. -/
def Memory.wf : List Host.Cell → Bool
  | [] => true
  | [(_, v)] => decide (v ≠ ezBlank)
  | (a, v) :: (b, w) :: r => decide (v ≠ ezBlank) && decide (a < b) && Memory.wf ((b, w) :: r)

/-- The byte of Easel at an address. -/
def ezByte (s : State) (a : Nat) : Byte := cellGet a s.easel

/-- `n` bytes of Easel from an address. -/
def ezRead (s : State) (a n : Nat) : List Byte := (List.range n).map (fun i => ezByte s (a + i))

/-- Bytes of Easel written from an address. -/
def ezWrite (a : Nat) (bs : List Byte) (s : State) : State := { s with easel := cellPuts a bs s.easel }

/-- An Easel address exists: bit 40 selects the half, bits 63:41 are zero (R361). -/
def ezValid (a : Nat) : Bool := decide (a < 2 ^ 41)

/-- The Easel address of offset `o` of a half (R361). -/
def ezAddr (h : Half) (o : Nat) : Nat := h.num * 2 ^ 40 + o

/-- A disc panel's bytes (R235). -/
def panelBytes : Nat := 65536

/-- A tape panel's bytes (R235). -/
def tapeBytes : Nat := 1048576

/-- Sizes of the regions before WRITE_BUF in a half's Easel, in GiB: SYS, JOURNAL, TABLES, NAME, MAP, TRACK, STREAM,
RING, CACHE, under the carve in force (R363). -/
def regionSizes (s : State) : List Nat :=
  let g := fun f => rd s pgEaselG f
  [2, 8, 1, (2 ^ (g R.EZG_CARVE_NAME_LOG2 + 6) + 2 ^ 30 - 1) / 2 ^ 30, g R.EZG_CARVE_MAP_GIB, g R.EZG_CARVE_TRACK_GIB,
    g R.EZG_CARVE_STREAM_GIB, g R.EZG_CARVE_RING_GIB, g R.EZG_CARVE_CACHE_GIB]

/-- Offset at which region `r` of R363 starts, 0 SYS to 9 WRITE_BUF. -/
def regionBase (s : State) (r : Nat) : Nat := ((regionSizes s).take r).sum * 2 ^ 30

/-- Bytes of WRITE_BUF: the remainder of the half's TiB (R363). -/
def wbufBytes (s : State) : Nat := 2 ^ 40 - regionBase s 9

/-! Line writes (R361, R393). -/

/-- The stack of an Easel address, 0 to 7 (R361). -/
def ezStack (a : Nat) : Nat := a / 2 ^ 40 % 2 * 4 + (bits a 9 8 ^^^ bits a 11 10)

/-- `n` line writes more to a stack: LINE_WRITES, LIFE_PPM, and WEAR_WARN once (R393). -/
def addLines (st n : Nat) (s : State) : State :=
  let P := pgEasel (if st < 4 then .west else .east)
  let i := st % 4
  let w := (rdI s P R.EZ_STK_VIEW_0_LINE_WRITES i + n) % 2 ^ 64
  let ppm := min 1048575 (w / 1073741824000)
  let s1 := wrI P R.EZ_STK_VIEW_1_LIFE_PPM i ppm (wrI P R.EZ_STK_VIEW_0_LINE_WRITES i w s)
  if rd s pgEaselG R.EZG_WEAR_WARN_PPM ≤ ppm ∧ ¬ rdBI s P R.EZ_STK_VIEW_1_WARN i then
    raiseTo (176 + st) P 11 (wrI P R.EZ_STK_VIEW_1_WARN i 1 s1)
  else s1

/-- Bytes written by the device: every line that they touch counts as one line write (R393). -/
def ezStore (a : Nat) (bs : List Byte) (s : State) : State :=
  if bs.isEmpty then s
  else
    let l0 := a / 256
    let n := (a + bs.length - 1) / 256 + 1 - l0
    (List.range n).foldl (fun t i => addLines (ezStack ((l0 + i) * 256)) 1 t) (ezWrite a bs s)

end Sys2Proof.Machine
end

