-- ==== Sys2Proof/Machine/Atnen.lean ====
section
/-!
DEFINITION. What the Light List, the schedulers, the Crossing Unit and the port units share of an Atnen port: its
state, its stations, its class queues and the words of its transactions (chapter 03).
-/
namespace Sys2Proof.Machine

/-! Port states (R96). -/
def asDISABLED : Nat := 0
def asHELD : Nat := 1
def asDOWN : Nat := 2
def asTRAIN : Nat := 3
def asENUM : Nat := 4
def asACTIVE : Nat := 5

/-- The state of A[n]. -/
def apuState (s : State) (n : Nat) : Nat := rd s (pgApu n) R.APU_STAT_STATE

/-- What A[n] holds beside its registers. -/
def apuGet (s : State) (n : Nat) : ApuPort := tget {} s.apu n

/-- A[n] changed. -/
def apuMod (n : Nat) (f : ApuPort → ApuPort) (s : State) : State :=
  { s with apu := tput {} s.apu n (f (apuGet s n)) }

/-- Station `stn` of A[n]. -/
def stnGet (s : State) (n stn : Nat) : Station := tget {} (apuGet s n).stations stn

/-- Station `stn` of A[n] changed. -/
def stnMod (n stn : Nat) (f : Station → Station) (s : State) : State :=
  apuMod n (fun p => { p with stations := tput {} p.stations stn (f (tget {} p.stations stn)) }) s

/-- The station answers: numbered in this enumeration and not unusable (R107). -/
def stnUsable (s : State) (n stn : Nat) : Bool := (stnGet s n stn).seen && (stnGet s n stn).kind != 255

/-- A station is in OBJECT mode (R24). -/
def stnObject (s : State) (n stn : Nat) : Bool := tget false s.stnMode (stnGet s n stn).serial

/-! Transaction types (R110). -/
def txWR : Nat := 0
def txRD : Nat := 1
def txLOCK : Nat := 2
def txUNLOCK : Nat := 3
def txDPWR : Nat := 4
def txDPRD : Nat := 5

/-- The class queues of R123 that are lists of transactions. -/
inductive AClass where
  | tape
  | media
  | mgmt
deriving DecidableEq, Repr

/-- Transactions at the tail of a class queue of A[n] (R123). -/
def pushTxns (n : Nat) (c : AClass) (ts : List Txn) (s : State) : State :=
  apuMod n (fun p =>
    match c with
    | .tape => { p with tape := p.tape ++ ts }
    | .media => { p with media := p.media ++ ts }
    | .mgmt => { p with mgmt := p.mgmt ++ ts }) s

/-- Four bytes of a lane word, the first at D31:24 (R111). -/
def beBytes (w : Nat) : List Byte :=
  [BitVec.ofNat 8 (w / 2 ^ 24), BitVec.ofNat 8 (w / 2 ^ 16), BitVec.ofNat 8 (w / 2 ^ 8), BitVec.ofNat 8 w]

/-- The big-endian number of up to four bytes (R111). -/
def beNat (l : List Byte) : Nat := l.foldl (fun a b => 256 * a + b.toNat) 0

/-- The words of a byte run, four bytes each (R111). -/
def wordsOf : Nat → List Byte → List Nat
  | 0, _ => []
  | n + 1, l => beNat (fit 4 l) :: wordsOf n (l.drop 4)

/-- A unit's command FIFO, its buffer and its seal buffer (R122, R407). -/
def unitFifo (u : Nat) : Nat := 0x10000 + 0x1000 * u
def unitBuf (u : Nat) : Nat := 2 ^ 32 + 2 ^ 24 * u
def sealBuf (u : Nat) : Nat := 2 ^ 33 + 2 ^ 16 * u

/-- WR bursts of at most 64 words that write `data` from station address `a` (R217). -/
def wrBursts (stn : Nat) (own : TxnOwner) : Nat → Nat → List Byte → List Txn
  | 0, _, _ => []
  | k + 1, a, data =>
    ⟨txWR, stn, 64, 15, a, fit 256 data, own⟩ :: wrBursts stn own k (a + 256) (data.drop 256)

/-- RD bursts of 64 words from station address `a`; `own` is given each burst's offset (R217). -/
def rdBursts (stn : Nat) (own : Nat → TxnOwner) : Nat → Nat → Nat → List Txn
  | 0, _, _ => []
  | k + 1, a, off => ⟨txRD, stn, 64, 15, a + off, [], own off⟩ :: rdBursts stn own k a (off + 256)

/-- The eight words of a unit command (R122). -/
def cmdBytes (op track angle count len off vtag : Nat) : List Byte :=
  ([op % 256 * 2 ^ 24, track, angle % 65536 * 65536 + count % 65536, len, off, vtag, 0, 0].map beBytes).flatten

/-- A unit command as a DP_WR of 8 words (R122). -/
def cmdTxn (stn unit : Nat) (own : TxnOwner) (op track angle count len off vtag : Nat) : Txn :=
  ⟨txDPWR, stn, 8, 15, unitFifo unit, cmdBytes op track angle count len off vtag, own⟩

/-- The words left on A[n] toward the stations. -/
def emitAtn (n : Nat) (ws : List (Bool × Nat)) (s : State) : State := emit (.atn n ws) s

/-! Registered nodes (R525). -/

/-- A node is registered for the site when it lies in a VALID range of the site node table (R525). -/
def nodeReg (s : State) (id : Nat) : Bool :=
  (List.range 64).any (fun i => rdBI s pgProtect R.PR_NODE_VIEW_VALID i &&
    decide (rdI s pgProtect R.PR_NODE_VIEW_LO i ≤ id ∧ id ≤ rdI s pgProtect R.PR_NODE_VIEW_HI i))

/-! Quotients the spec does not round. -/

/-- `a / b`; where it is not whole the rounding is open, by zero the result is open. -/
def openDiv (a b : Int) : Int :=
  if b = 0 then Config.quotZero a
  else if a % b = 0 then a / b
  else a / b + (if Config.roundUp a b then 1 else 0)

/-- The nearest whole number to `a / b`; a tie is open. -/
def openRound (a b : Int) : Int :=
  if b = 0 then Config.quotZero a
  else if 2 * (a % b) = b then a / b + (if Config.roundUp a b then 1 else 0)
  else (2 * a + b) / (2 * b)

/-- ⌈a / b⌉; by zero the result is open. -/
def ceilDiv (a b : Int) : Int := if b = 0 then Config.quotZero a else -((-a) / b)

/-- ⌈a / b⌉ of naturals. -/
def cdiv (a b : Nat) : Nat := (a + b - 1) / b

end Sys2Proof.Machine
end

