-- ==== Sys2Proof/Machine/Fifo.lean ====
section
/-!
DEFINITION. The FIFO primitive and the arbiter (chapter 13): their instances, one cycle of a FIFO, levels, flushes,
decisions, parking and counts.
-/
namespace Sys2Proof.Machine

/-! Instances (R448, R449). -/

/-- The half of a QUEUES region: 0 global, 1 West, 2 East. -/
def regHalf (r : Nat) : Option Half := if r = 1 then some .west else if r = 2 then some .east else none

/-- The QUEUES page of a region. -/
def pgRegQ (r : Nat) : Nat :=
  match regHalf r with
  | some h => pgQueues h
  | none => pgQueuesG

/-- The region of a half. -/
def regOf (h : Half) : Nat := 1 + h.num

/-- The key of an instance in its table. -/
def qKey (r qid : Nat) : Nat := r * 65536 + qid

def qType (qid : Nat) : Nat := qid / 1024
def qIndex (qid : Nat) : Nat := qid % 1024

/-- The `i`-th fabric port and Atnen port of a half. -/
def fPort (h : Half) (i : Nat) : Nat := 8 * h.num + i
def aPort (h : Half) (i : Nat) : Nat := 32 * h.num + i

/-- POOL_VCv of F[n] (R86). -/
def poolFld (vc : Nat) : Option Fld :=
  [R.FIU_VC_POOL_LO_POOL_VC0, R.FIU_VC_POOL_LO_POOL_VC1, R.FIU_VC_POOL_LO_POOL_VC2, R.FIU_VC_POOL_LO_POOL_VC3,
    R.FIU_VC_POOL_HI_POOL_VC4, R.FIU_VC_POOL_HI_POOL_VC5][vc]?

/-- Size of stream `i`'s FIFO in 64 KiB chunks (R223, R371). -/
def streamChunks (s : State) (h : Half) (i : Nat) : Nat :=
  let x := tget {} (s.sched.at h).streams i
  2 ^ ((if x.open_ then x.fifoLog2 else 24 + rd s pgEaselG R.EZG_CARVE_FIFO_OFF) - 16)

/-- Capacity C of an instance; none where the identifier names none (R448). -/
def fifoCap (s : State) (r qid : Nat) : Option Nat :=
  let i := qIndex qid
  match regHalf r with
  | none => if r = 0 ∧ qType qid = 0x0A ∧ i = 0 then some 4096 else none
  | some h =>
    match qType qid with
    | 0x01 =>
      if i < 64 then (poolFld (i % 8)).map (fun f => rd s (pgFiu (fPort h (i / 8))) f) else none
    | 0x02 => if i < 64 ∧ i % 8 < 6 then some 128 else none
    | 0x03 => if i < 16 then some 16 else none
    | 0x04 => if i < 32 then some 16384 else none
    | 0x05 => if i < 128 then some 512 else none
    | 0x06 => if i < 64 then some 32 else none
    | 0x07 => if i < 256 then some (streamChunks s h i) else none
    | 0x08 => if i < 4 then some 1024 else none
    | 0x09 => if i < 4 then some 256 else none
    | _ => none

/-- Framed instances (R438, R448). -/
def fifoFramed (qid : Nat) : Bool := [0x01, 0x02, 0x05, 0x08].contains (qType qid)
/-- Dual-clock instances (R435, R448). -/
def fifoDual (qid : Nat) : Bool := [0x03, 0x06, 0x08].contains (qType qid)
/-- Instances whose LEVEL software may write (R448). -/
def fifoLevelRw (qid : Nat) : Bool := [0x08, 0x09, 0x0A].contains (qType qid)

/-- The owner of an instance is disabled (R448). -/
def fifoOwnerOff (s : State) (r qid : Nat) : Bool :=
  let i := qIndex qid
  match regHalf r with
  | none => false
  | some h =>
    match qType qid with
    | 0x01 => !rdB s (pgFiu (fPort h (i / 8))) R.FIU_LINK_CTRL_EN
    | 0x02 => !rdB s (pgFiu (fPort h (i / 8))) R.FIU_LINK_CTRL_EN
    | 0x03 => !rdB s (pgFiu (fPort h (i / 2))) R.FIU_LINK_CTRL_EN
    | 0x04 => !rdB s (pgApu (aPort h i)) R.APU_CTRL_EN
    | 0x05 => !rdB s (pgApu (aPort h (i / 4))) R.APU_CTRL_EN
    | 0x06 => !rdB s (pgApu (aPort h (i / 2))) R.APU_CTRL_EN
    | 0x07 => !rdB s (pgSched h) R.SCH_CTRL_EN
    | _ => !rdB s pgEaselG R.EZG_CTRL_SVC

def fifoGet (s : State) (r qid : Nat) : Fifo := tget {} s.fifos (qKey r qid)
def fifoMod (r qid : Nat) (f : Fifo → Fifo) (s : State) : State :=
  { s with fifos := tput {} s.fifos (qKey r qid) (f (fifoGet s r qid)) }

/-- LEVEL in force: fixed at 10,240 for the APU receive buffer and at 0 for the others that software may not write. -/
def fifoLevel (qid : Nat) (f : Fifo) : Nat :=
  if fifoLevelRw qid then f.level else if qType qid = 0x04 then 10240 else 0

/-- The writer's copy of the depth (R435): every entry in use, and pops that it has not seen. -/
def Fifo.depth (f : Fifo) : Nat := f.ents.length + f.pops.length

/-- The entries that the reader can see: those whose wait is over, and of packets only whole ones (R435, R438). -/
def Fifo.seen (framed : Bool) (f : Fifo) : List FEnt :=
  let v := f.ents.takeWhile (fun e => e.wait == 0)
  if framed then (v.reverse.dropWhile (fun e => !e.last)).reverse else v

/-- FULL as the writer sees it (R432). -/
def Fifo.full (cap : Nat) (f : Fifo) : Bool := decide (cap ≤ f.depth)
/-- EMPTY as the reader sees it (R432, R438). -/
def Fifo.empty (framed : Bool) (f : Fifo) : Bool := (f.seen framed).isEmpty

/-- A packet whose length is not written yet, or the rest of a flushed one being discarded (R452). -/
def Fifo.openPkt (framed : Bool) (f : Fifo) : Bool :=
  framed && (f.dropRest || f.ents.getLast?.any (fun e => !e.last))

/-- Time passes on a FIFO's clocks: copies of the far side come nearer (R435). -/
def Fifo.tick (c : FClk) (f : Fifo) : Fifo :=
  let f1 : Fifo := if c = .write then f else { f with ents := f.ents.map (fun e => { e with wait := e.wait - 1 }) }
  if c = .read then f1 else { f1 with pops := (f1.pops.map (· - 1)).filter (· != 0) }

/-- A push offered in a cycle: held where `full`, discarded where it goes on with a flushed packet, else taken with `w`
cycles to become visible (R431, R440). -/
def Fifo.pushed (framed full : Bool) (w : Nat) (p : FPush) (f : Fifo) : Fifo :=
  if framed && f.dropRest && !p.first then { f with flushDrop := min (f.flushDrop + 1) (2 ^ 32 - 1) }
  else if full then f
  else { f with dropRest := false, ents := f.ents ++ [⟨p.id, p.first, p.last, w⟩] }

/-- How many entries a pop takes: one, or, where the entry is uncorrectable in a framed FIFO, the rest of its packet
(R434). -/
def popCount (framed unc : Bool) (es : List FEnt) : Nat :=
  if framed && unc then (es.takeWhile (fun e => !e.last)).length + 1 else 1

/-- A pop in a cycle: the oldest entry is returned, or discarded where it is uncorrectable (R431, R433, R434). -/
def Fifo.popped (framed dual : Bool) (w : Nat) (e : FErr) (f : Fifo) : Fifo :=
  let k := popCount framed e.unc f.ents
  { f with
    ents := f.ents.drop k, pops := if dual then f.pops ++ List.replicate k w else f.pops,
    got := if e.unc then none else (f.ents.head?).map (·.id), corr := min (f.corr + e.corr) (2 ^ 32 - 1),
    uncorr := if e.unc then min (f.uncorr + 1) (2 ^ 32 - 1) else f.uncorr }

/-- The level event after a cycle in which the depth went from `d0` to `d1`: fired or not, armed or not (R436). -/
def levelAfter (lvl d0 d1 : Nat) (armed : Bool) : Bool × Bool :=
  if armed && decide (lvl ≠ 0 ∧ d0 < lvl ∧ lvl ≤ d1) then (true, false)
  else (false, armed || decide (d1 < lvl ∧ lvl ≤ d0))

/-- Cycles until the far side of a dual-clock FIFO sees a change: 2 or 3, left open (R435). -/
def syncLag (dual : Bool) (k : Nat) : Nat := if !dual then 0 else if Config.syncThree k then 3 else 2

/-- One cycle of a FIFO, decided from its depth and flags at the start (R430-R438). The truth values say that the level
event fired and that a pop found an uncorrectable entry. -/
def Fifo.cycle (cap lvl : Nat) (framed dual : Bool) (lag : Nat) (c : FClk) (push : Option FPush) (pop : Bool) (e : FErr)
    (f : Fifo) : Fifo × Bool × Bool :=
  let t := f.tick c
  let full := t.full cap
  let doPop := pop && c != .write && !t.empty framed
  let f1 := if doPop then t.popped framed dual lag e else t
  let f2 :=
    match push with
    | some p => if c = FClk.read then f1 else f1.pushed framed full lag p
    | none => f1
  let (fired, armed) := levelAfter lvl f.depth f2.depth f.armed
  ({ f2 with armed := armed, high := min (max f.high f2.depth) (2 ^ 24 - 1) }, fired, doPop && e.unc)

/-- One cycle of the instance, with its level event and the report of an uncorrectable entry (R434, R436, R455). The
truth value says that an entry was discarded as uncorrectable. -/
def fifoCycle (r qid : Nat) (c : FClk) (push : Option FPush) (pop : Bool) (e : FErr) (s : State) : State × Bool :=
  match fifoCap s r qid with
  | none => (s, false)
  | some cap =>
    let f := fifoGet s r qid
    let dual := fifoDual qid
    let (f', fired, unc) :=
      f.cycle cap (fifoLevel qid f) (fifoFramed qid) dual (syncLag dual s.freeSeq) c push pop e
    let P := pgRegQ r
    let s1 := { fifoMod r qid (fun _ => f') s with freeSeq := s.freeSeq + 1 }
    let s2 := if fired && fifoLevelRw qid then raise P 0 (wr P R.Q_LAST_QID_LEVEL qid s1) else s1
    (if unc then raise P 1 (wr P R.Q_LAST_QID_UNCORR qid s2) else s2, unc)

/-! Flush (R439, R440). -/

/-- Every entry discarded; the rest of an open packet will be discarded as it comes (R439, R440). -/
def Fifo.flush (framed : Bool) (f : Fifo) : Fifo :=
  { f with
    ents := [], pops := [], armed := true, dropRest := f.openPkt framed,
    flushDrop := min (f.flushDrop + f.ents.length) (2 ^ 32 - 1) }

/-- The instance flushed by its own block or by software. -/
def fifoFlush (r qid : Nat) (s : State) : State := fifoMod r qid (Fifo.flush (fifoFramed qid)) s

/-- Instances flushed by their block. -/
def fifoFlushAll (r : Nat) (qids : List Nat) (s : State) : State := qids.foldl (fun t q => fifoFlush r q t) s

/-- The packet still being pushed discarded, as an FIU does when it leaves the link (R62). -/
def fifoDropOpen (r qid : Nat) (s : State) : State :=
  fifoMod r qid (fun f =>
    let keep := (f.ents.reverse.dropWhile (fun e => !e.last)).reverse
    { f with ents := keep, flushDrop := min (f.flushDrop + (f.ents.length - keep.length)) (2 ^ 32 - 1) }) s

/-- The FIFOs of a fabric port when it leaves the link: transmit queues flushed, partly received packets discarded
(R62). -/
def fiuFifos (n : Nat) (s : State) : State :=
  let r := regOf (fHalf n)
  let q := fun ty v => ty * 1024 + 8 * (n % 8) + v
  (List.range 6).foldl (fun t v => fifoDropOpen r (q 1 v) (fifoFlush r (q 2 v) t)) s

/-- The FIFOs of an Atnen port when it leaves ENUM or ACTIVE: its class queues flushed (R99). -/
def apuFifos (n : Nat) (s : State) : State :=
  fifoFlushAll (regOf (aHalf n)) ((List.range 4).map (fun c => 5 * 1024 + 4 * (n % 32) + c)) s

/-- LEVEL written: values above C act as C; the event is armed where the depth is below it; a fixed level ignores the
write (R437, R451). -/
def levelWrite (r qid v : Nat) (s : State) : State :=
  match fifoCap s r qid with
  | none => s
  | some cap =>
    if fifoLevelRw qid then
      fifoMod r qid (fun f => { f with level := min v cap, armed := decide (f.depth < min v cap) }) s
    else s

/-! Arbiters (R441-R447, R449). -/

/-- Base and ceiling at reset of requester `q` of an arbiter, and whether they are fixed; none where there is none
(R67, R123, R449). -/
def arbCfg (r aid q : Nat) : Option (Nat × Nat × Bool) :=
  let i := qIndex aid
  if r ≠ 1 ∧ r ≠ 2 then none
  else
    match qType aid with
    | 0x21 => if i < 8 then ([(12, 15), (6, 12), (4, 10), (6, 12), (8, 14), (10, 15)][q]?).map (fun x => (x.1, x.2, true))
      else none
    | 0x22 => if i < 32 then ([(12, 15), (10, 14), (8, 13), (4, 9)][q]?).map (fun x => (x.1, x.2, true)) else none
    | 0x23 =>
      if i < 4 then
        ([(8, 12), (10, 14), (6, 11), (12, 15), (9, 13), (2, 8), (14, 15), (1, 5)][q]?).map (fun x => (x.1, x.2, q == 6))
      else none
    | 0x24 => if i = 0 then ([(8, 12), (10, 14), (12, 15), (4, 10)][q]?).map (fun x => (x.1, x.2, false)) else none
    | _ => none

/-- A requester at reset: p = B (R441). -/
def arbReset (r aid q : Nat) : ArbReq :=
  match arbCfg r aid q with
  | some (b, c, _) => ⟨b, c, b, false, 0, 0, 0, 0⟩
  | none => ⟨0, 0, 0, false, 0, 0, 0, 0⟩

def arbGet (s : State) (r aid : Nat) : Arb := tget {} s.arbs (qKey r aid)
def arbMod (r aid : Nat) (f : Arb → Arb) (s : State) : State :=
  { s with arbs := tput {} s.arbs (qKey r aid) (f (arbGet s r aid)) }

/-- Requester `q` of an arbiter. -/
def arbReq (r aid : Nat) (a : Arb) (q : Nat) : ArbReq := tget (arbReset r aid q) a.reqs q

/-- The arbiter with requester `q` changed. -/
def arbPut (r aid q : Nat) (x : ArbReq) (a : Arb) : Arb := { a with reqs := tput (arbReset r aid q) a.reqs q x }

/-- The requesters of an arbiter. -/
def arbReqs (r aid : Nat) : List Nat := (List.range 8).filter (fun q => (arbCfg r aid q).isSome)

/-- The effective ceiling (R441). -/
def ArbReq.top (x : ArbReq) : Nat := max x.base x.ceil

/-- The winner among those asking: the highest p, ties by counting upwards from after the last winner (R442). -/
def arbWinner (r aid : Nat) (a : Arb) (asks : Nat → Bool) : Option Nat :=
  let order := (List.range 8).map (fun i => (a.last + 1 + i) % 8)
  let cand := order.filter (fun q => (arbCfg r aid q).isSome && asks q)
  cand.foldl (fun b q =>
    match b with
    | none => some q
    | some w => if (arbReq r aid a w).p < (arbReq r aid a q).p then some q else some w) none

/-- Cycles that a request waited, added to its counts (R447). -/
def ArbReq.waited (k : Nat) (x : ArbReq) : ArbReq :=
  { x with waits := min (x.waits + k) (2 ^ 64 - 1), curWait := min (x.curWait + k) (2 ^ 32 - 1) }

/-- A request that ends in a grant (R447). -/
def ArbReq.granted (x : ArbReq) : ArbReq :=
  { x with grants := min (x.grants + 1) (2 ^ 32 - 1), longest := max x.longest x.curWait, curWait := 0 }

/-- A decision: the winner's p returns to its base, losers that asked age by one up to their ceilings, the winner holds
the grant (R442-R444, R447). `waits` are the cycles that each requester has waited since the arbiter's last change. -/
def arbDecide (r aid : Nat) (asks : Nat → Bool) (waits : List Nat) (w : Nat) (a : Arb) : Arb :=
  let step := fun (b : Arb) (q : Nat) =>
    let x := arbReq r aid a q
    let y := if asks q then x.waited ((waits[q]?).getD 0) else { x with curWait := 0 }
    let z := if q = w then { y.granted with p := x.base } else if asks q then { y with p := min (x.p + 1) x.top } else y
    arbPut r aid q { z with req := asks q } b
  { (arbReqs r aid).foldl step a with last := w, owner := some w, held := true }

/-- The parked owner alone takes the grant (R445, R447). -/
def arbParked (r aid w : Nat) (a : Arb) : Arb :=
  { arbPut r aid w { (arbReq r aid a w).granted with req := true } a with held := true }

/-- The burst ends and nobody asks: the grant parks (R445). -/
def arbPark (r aid : Nat) (a : Arb) : Arb :=
  { (arbReqs r aid).foldl (fun b q => arbPut r aid q { arbReq r aid a q with req := false, curWait := 0 } b) a with
    held := false }

/-- A write of A_CFG: a changed B sets p to it; a changed CL lowers p to the new effective ceiling (R446, R453). -/
def arbCfgWrite (r aid q b cl : Nat) (s : State) : State :=
  match arbCfg r aid q with
  | some (_, _, false) =>
    arbMod r aid (fun a =>
      let x := arbReq r aid a q
      let y : ArbReq := { x with base := b, ceil := cl, p := if x.base = b then x.p else b }
      arbPut r aid q { y with p := if x.ceil = cl then y.p else min y.p y.top } a) s
  | _ => s

/-- The counts of every instance of a region cleared (R450). -/
def qCntClr (r : Nat) (s : State) : State :=
  let mine := fun (k : Nat) => k / 65536 == r
  { s with
    fifos := (s.fifos.map (fun p =>
      if mine p.1 then (p.1, { p.2 with corr := 0, uncorr := 0, flushDrop := 0, high := 0 }) else p)).filter
      (fun p => p.2 != {}),
    arbs := (s.arbs.map (fun p =>
      if mine p.1 then
        (p.1, { p.2 with
          reqs := (p.2.reqs.map (fun x => (x.1, { x.2 with grants := 0, waits := 0, longest := 0 }))).filter
            (fun x => x.2 != arbReset r (p.1 % 65536) x.1) })
      else p)).filter (fun p => p.2 != {}) }

end Sys2Proof.Machine
end

