-- ==== Sys2Proof/Machine/Packet.lean ====
section
/-!
DEFINITION. Fabric packets (R66-R73): their header words, their flits, and back. The flit builder and the packet
reader are each other's inverse on the packets the formats allow.
-/
namespace Sys2Proof.Machine

def tPW : Nat := 1
def tNPW : Nat := 2
def tRD : Nat := 3
def tRSP : Nat := 4
def tAMO : Nat := 5
def tMSG : Nat := 6
def tEVT : Nat := 7
def tMGT : Nat := 8

/-- ADDR of PW, NPW, RD and AMO (R69). -/
def Packet.addr (p : Packet) : Nat := p.w1
/-- TAG (R69). -/
def Packet.tag (p : Packet) : Nat := bits p.w2 63 48
/-- CTX (R69). -/
def Packet.ctx (p : Packet) : Nat := bits p.w2 31 12
/-- RLEN of an RD: bytes requested less one (R69). -/
def Packet.rlen (p : Packet) : Nat := bits p.w2 11 0
/-- AOP of an AMO (R69). -/
def Packet.aop (p : Packet) : Nat := bits p.w2 39 36
/-- ASIZE of an AMO (R69). -/
def Packet.asize (p : Packet) : Nat := bits p.w2 35 32
/-- STATUS of an RSP (R69). -/
def Packet.status (p : Packet) : Nat := bits p.w2 47 40
/-- OP of a MSG, EVT_CODE of an EVT, MOP of an MGT (R69). -/
def Packet.op (p : Packet) : Nat := bits p.w2 39 32
/-- KEY (R69). -/
def Packet.key (p : Packet) : Nat := p.w3

/-- Header word 0 (R68). -/
def Packet.w0 (p : Packet) : Nat :=
  p.type % 16 * 2 ^ 60 + bit p.ord * 2 ^ 59 + bit p.salv * 2 ^ 58 + p.src % 2 ^ 20 * 2 ^ 36 + p.dst % 2 ^ 20 * 2 ^ 16 +
    p.len % 2 ^ 13

/-- The 32 header bytes (R67). -/
def Packet.header (p : Packet) : List Byte := leBytes 8 p.w0 ++ leBytes 8 p.w1 ++ leBytes 8 p.w2 ++ leBytes 8 p.w3

/-- The packet whose header and payload bytes these are; bytes past LEN are padding (R68, R72). -/
def Packet.ofBytes (l : List Byte) : Packet :=
  let w0 := leNat (l.take 8)
  { type := bits w0 63 60, ord := w0.testBit 59, salv := w0.testBit 58, src := bits w0 55 36, dst := bits w0 35 16,
    len := bits w0 12 0, w1 := leNat ((l.drop 8).take 8), w2 := leNat ((l.drop 16).take 8),
    w3 := leNat ((l.drop 24).take 8), payload := (l.drop 32).take (bits w0 12 0) }

/-- Flits of a packet with LEN payload bytes: one up to 88 bytes, else 1 + ⌈(LEN - 88)/120⌉ (R72). -/
def flitCount (len : Nat) : Nat := if len ≤ 88 then 1 else 1 + (len - 88 + 119) / 120

/-- The VC on which a packet type travels (R66). -/
def vcOfType (t : Nat) : Nat :=
  if t = tRSP then 0 else if t = tPW then 1 else if t = tRD ∨ t = tNPW ∨ t = tAMO then 2
  else if t = tMSG then 3 else if t = tEVT then 4 else if t = tMGT then 5 else 7

/-- The flit header word (R42). -/
def flitHdr (seq vc : Nat) (head tail : Bool) : Nat :=
  seq % 4096 * 2 ^ 20 + vc % 8 * 2 ^ 17 + bit head * 2 ^ 16 + bit tail * 2 ^ 15

/-- A flit of 128 bytes: header word, 120 content bytes, CRC-32C (R42, R43). -/
def mkFlit (seq vc : Nat) (head tail : Bool) (data : List Byte) : List Byte :=
  let b := leBytes 4 (flitHdr seq vc head tail) ++ data
  b ++ leBytes 4 (crc32c b)

/-- The flits of content pieces, numbered from `seq` modulo 4,096; the first has HEAD, the last TAIL (R42, R44). -/
def mkFlits (vc : Nat) : Nat → Bool → List (List Byte) → List (Nat × List Byte)
  | _, _, [] => []
  | seq, head, d :: ds => (seq % 4096, mkFlit seq vc head ds.isEmpty d) :: mkFlits vc (seq + 1) false ds

/-- A packet's flits from SEQ `seq` (R42, R67, R72). -/
def packetFlits (seq : Nat) (p : Packet) : List (Nat × List Byte) :=
  mkFlits (vcOfType p.type) seq true (pieces 120 (flitCount p.len) (p.header ++ p.payload))

/-- The CRC of a received flit is good (R43). -/
def flitOk (b : List Byte) : Bool := decide (b.length = 128) && (crc32c (b.take 124) == leNat (b.drop 124))

/-- SEQ of a received flit (R42). -/
def flitSeq (b : List Byte) : Nat := bits (leNat (b.take 4)) 31 20
/-- VC of a received flit (R42). -/
def flitVc (b : List Byte) : Nat := bits (leNat (b.take 4)) 19 17
/-- HEAD of a received flit (R42). -/
def flitHead (b : List Byte) : Bool := (leNat (b.take 4)).testBit 16
/-- TAIL of a received flit (R42). -/
def flitTail (b : List Byte) : Bool := (leNat (b.take 4)).testBit 15
/-- Content of a received flit (R42). -/
def flitData (b : List Byte) : List Byte := (b.drop 4).take 120

/-! The packets the device builds. -/

/-- A PW of `data` to `addr` at node `dst` with context and key (R69, R73). -/
def mkPW (ord : Bool) (dst addr ctx key : Nat) (data : List Byte) : Packet :=
  ⟨tPW, ord, false, 0, dst, data.length, addr, ctx % 2 ^ 20 * 2 ^ 12, key, data⟩

/-- An RD of `n` bytes (R69, R73). -/
def mkRD (dst addr ctx key tag n : Nat) : Packet :=
  ⟨tRD, false, false, 0, dst, 0, addr, tag % 2 ^ 16 * 2 ^ 48 + ctx % 2 ^ 20 * 2 ^ 12 + (n - 1) % 4096, key, []⟩

/-- An RSP to the request `q`, with status and data (R69, R71, R78). -/
def mkRSP (q : Packet) (status : Nat) (data : List Byte) : Packet :=
  ⟨tRSP, false, false, 0, q.src, data.length, 0, q.tag * 2 ^ 48 + status % 256 * 2 ^ 40, 0, data⟩

/-- A MSG with OP `op` on context `ctx` (R69, R73). -/
def mkMSG (dst mtch op ctx key : Nat) (data : List Byte) : Packet :=
  ⟨tMSG, true, false, 0, dst, data.length, mtch, op % 256 * 2 ^ 32 + ctx % 2 ^ 20 * 2 ^ 12, key, data⟩

/-- An EVT with EVT_CODE `code` (R69, R73). -/
def mkEVT (dst code evtData : Nat) (data : List Byte) : Packet :=
  ⟨tEVT, true, false, 0, dst, data.length, evtData, code % 256 * 2 ^ 32, 0, data⟩

/-- An MGT answer (R69, R73). -/
def mkMGT (dst madr mop tag : Nat) (data : List Byte) : Packet :=
  ⟨tMGT, true, false, 0, dst, data.length, madr, tag % 2 ^ 16 * 2 ^ 48 + mop % 256 * 2 ^ 32, 0, data⟩

def stComplete : Nat := 0
def stFarErr : Nat := 1
def stNoWindow : Nat := 2
def stKeyDenied : Nat := 3
def stWriteRejected : Nat := 4
def stAtomicRejected : Nat := 5
def stMalformed : Nat := 6

end Sys2Proof.Machine
end

