-- ==== Sys2Proof/Machine/Fiu.lean ====
section
/-!
DEFINITION. The fabric link commands (chapter 02): codewords, sequence numbers and replay, credits, link states,
salvage, egress choice and pins, and the sending of packets.
-/
namespace Sys2Proof.Machine

/-! Link states (R57). -/
def fsDISABLED : Nat := 0
def fsDOWN : Nat := 1
def fsTRAIN : Nat := 2
def fsALIGN : Nat := 3
def fsINIT : Nat := 4
def fsACTIVE : Nat := 5
def fsRECOVER : Nat := 6
def fsLOWPWR : Nat := 7

/-- The link state of F[n]. -/
def fiuState (s : State) (n : Nat) : Nat := rd s (pgFiu n) R.FIU_LINK_STAT_STATE

/-- What F[n] holds beside its registers. -/
def fiuGet (s : State) (n : Nat) : FiuPort := tget {} s.fiu n

/-- F[n] changed. -/
def fiuMod (n : Nat) (f : FiuPort → FiuPort) (s : State) : State :=
  { s with fiu := tput {} s.fiu n (f (fiuGet s n)) }

/-- The node ID of a half: NODE_BASE with bit 0 ignored, plus 1 for East (R74). -/
def nodeId (s : State) (h : Half) : Nat := rd s pgGlobal R.GL_NODE_BASE / 2 * 2 + h.num

/-- The half whose node ID this is (R74). -/
def nodeHalf (s : State) (id : Nat) : Option Half :=
  if id = nodeId s .west then some .west else if id = nodeId s .east then some .east else none

/-- The receive pool of a VC (R52, R86). -/
def poolOf (s : State) (n vc : Nat) : Nat := ((poolFld vc).map (fun f => rd s (pgFiu n) f)).getD 0

/-- The pools keep R52: VC0 to VC5 between 35 and 1,024 flits, together at most 2,048. -/
def poolsOk (s : State) (n : Nat) : Bool :=
  let ps := [0, 1, 2, 3, 4, 5].map (poolOf s n)
  ps.all (fun p => decide (35 ≤ p ∧ p ≤ 1024)) && decide (ps.sum ≤ 2048)

/-- The sender's available credit on a VC (R53). -/
def creditAvail (p : FiuPort) (vc : Nat) : Nat := (tget 0 p.crdCum vc + 2048 - tget 0 p.consumed vc) % 2048

/-! Egress choice (R79-R82). -/

/-- A half's own ports that are ACTIVE and set in its EGR_PORT_MASK (R79). -/
def ownElig (s : State) (h : Half) : List Nat :=
  ((List.range 8).map (fun i => 8 * h.num + i)).filter (fun n =>
    decide (fiuState s n = fsACTIVE) && (rd s (pgEgress h) R.EGR_PORT_MASK_ELIGIBLE).testBit (n % 8))

/-- The eligible set of a half, the other half's where its own is empty and SPAN_SPILL is 1 (R79). -/
def eligible (s : State) (h : Half) : List Nat :=
  let own := ownElig s h
  if own.isEmpty && rdB s (pgEgress h) R.EGR_CTRL_SPAN_SPILL then ownElig s h.twin else own

/-- The weight of port `p` for destination `d` (R81). -/
def pinHash (d p : Nat) : Nat := crc32c (leBytes 3 (d * 16 + p))

/-- pin(DST_ID): the eligible port of the highest weight, ties to the lower index (R81). -/
def pin (d : Nat) : List Nat → Option Nat
  | [] => none
  | p :: r =>
    match pin d r with
    | none => some p
    | some q => if pinHash d q > pinHash d p then some q else some p

/-- Destination `d` is held: some change moved its pin and its FLOW_SETTLE has not elapsed (R82). -/
def egrHeld (e : Egress) (d : Nat) : Bool :=
  e.changes.any (fun c => decide (pin d c.old ≠ pin d c.new) && !c.released.contains d)

/-- Flits queued to send on F[n] across all VCs (R80). -/
def backlog (s : State) (n : Nat) : Nat :=
  ((fiuGet s n).txq.map (fun q => (q.2.map (fun k => flitCount k.pkt.len)).sum)).sum

/-- Lanes in use of F[n]: 8, or 4 at width 4 (R59, R85). -/
def fiuWidth (s : State) (n : Nat) : Nat := if rd s (pgFiu n) R.FIU_LINK_STAT_WIDTH = 1 then 4 else 8

/-- The score of R80, where the port has credit for the packet. -/
def egrScore (s : State) (pkt : Packet) (n : Nat) : Option Int :=
  let cr := creditAvail (fiuGet s n) (vcOfType pkt.type)
  if cr < flitCount pkt.len then none
  else some ((min cr 1024 : Nat) - (backlog s n * (8 / fiuWidth s n) : Nat))

/-- The port of the highest score in a list, the earlier on a tie (R80). -/
def bestPort (s : State) (pkt : Packet) : List Nat → Option (Int × Nat)
  | [] => none
  | p :: r =>
    match egrScore s pkt p, bestPort s pkt r with
    | none, b => b
    | some x, none => some (x, p)
    | some x, some (y, q) => if y > x then some (y, q) else some (x, p)

/-- The packet's place at the tail of F[n]'s transmit queue of its VC (R67). -/
def txEnqueue (n : Nat) (q : QPkt) (s : State) : State :=
  fiuMod n (fun p => { p with txq := tput [] p.txq (vcOfType q.pkt.type) (tget [] p.txq (vcOfType q.pkt.type) ++ [q]) }) s

def egrMod (h : Half) (f : Egress → Egress) (s : State) : State := { s with egr := s.egr.put h (f (s.egr.at h)) }

/-- The packet waits in its half's egress choice; NO_EGRESS is raised once in an empty period (R79). -/
def egrWait (q : QPkt) (empty : Bool) (s : State) : State :=
  let e := s.egr.at q.half
  let s1 := egrMod q.half (fun e => { e with waiting := e.waiting ++ [q], noEgr := e.noEgr || empty }) s
  raiseIf (empty && !e.noEgr) (pgEgress q.half) 0 s1

/-- A packet of its half is given an egress port, or waits (R79-R82). -/
def egrPut (q : QPkt) (s : State) : State :=
  let E := eligible s q.half
  let e := s.egr.at q.half
  if E.isEmpty then egrWait q true s
  else
    let pn := (pin q.pkt.dst E).getD 0
    if q.pkt.ord then
      if egrHeld e q.pkt.dst || e.waiting.any (fun w => w.pkt.ord && w.pkt.dst == q.pkt.dst) then egrWait q false s
      else txEnqueue pn q s
    else if rdB s (pgEgress q.half) R.EGR_CTRL_ADAPT_EN then
      let rot := E.drop (e.rr % E.length) ++ E.take (e.rr % E.length)
      let n := ((bestPort s q.pkt rot).map (·.2)).getD pn
      txEnqueue n q (egrMod q.half (fun e => { e with rr := (e.rr + 1) % E.length }) s)
    else txEnqueue pn q s

/-- Every waiting packet of a half is tried again, in order. -/
def egrDrain (h : Half) (s : State) : State :=
  let ws := (s.egr.at h).waiting
  ws.foldl (fun t q => egrPut q t) (egrMod h (fun e => { e with waiting := [] }) s)

/-- What follows when the half's eligible set was `old` before: a change raises FLOW_REPIN, holds the destinations
whose pin moves, ends an empty period and lets waiting packets go (R79, R82). -/
def egrAfterHalf (h : Half) (old : List Nat) (s : State) : State :=
  let new := eligible s h
  if new = old then s
  else
    let s1 := egrMod h (fun e => { e with changes := e.changes ++ [⟨old, new, []⟩], noEgr := e.noEgr && new.isEmpty }) s
    egrDrain h (raise (pgEgress h) 2 s1)

/-- A change of the link states or masks, with what it does to both halves' eligible sets. -/
def withEgress (f : State → State) (s : State) : State :=
  let ow := eligible s .west
  let oe := eligible s .east
  egrAfterHalf .east oe (egrAfterHalf .west ow (f s))

/-- A packet built by half `h` is handed to its egress choice, with its SRC_ID (R74). -/
def sendPkt (h : Half) (pkt : Packet) (s : State) : State :=
  let q : QPkt := ⟨s.nextPid, h, { pkt with src := nodeId s h }⟩
  egrPut q { s with nextPid := s.nextPid + 1 }

/-- Packet `id` still waits to be sent, or has a flit that the link neighbour has not acknowledged (R45, R459). -/
def pktOpen (s : State) (id : Nat) : Bool :=
  s.egr.west.waiting.any (·.id == id) || s.egr.east.waiting.any (·.id == id) ||
    s.fiu.any (fun p => p.2.sent.any (·.id == id) || p.2.txq.any (fun q => q.2.any (·.id == id)))

/-! Link state changes (R58, R62). -/

/-- F[n]'s state set, with what follows for the eligible sets. -/
def fiuSetState (n st : Nat) (s : State) : State := withEgress (wr (pgFiu n) R.FIU_LINK_STAT_STATE st) s

/-- The number of VCs whose buffer ends in a partly received packet (R62). -/
def partials (p : FiuPort) : Nat := (p.vcbuf.filter (fun v => v.2.getLast?.any (fun f => !f.tail))).length

/-- A VC buffer without its last, incomplete packet. -/
def dropPartial (l : List RxFlit) : List RxFlit :=
  (l.reverse.dropWhile (fun f => !f.tail)).reverse

/-- Packets handed back on entry to DOWN or DISABLED: those with an unacknowledged flit carry SALV=1, then those still
queued (R62). -/
def handBack (p : FiuPort) : List QPkt :=
  p.sent.map (fun q => { q with pkt := { q.pkt with salv := true } }) ++ (p.txq.map (·.2)).flatten

/-- Packets to be sent again go ahead of the later packets of their flows (R62, R82). -/
def resend (qs : List QPkt) (s : State) : State :=
  [Half.west, .east].foldl (fun t h =>
    egrDrain h (egrMod h (fun e => { e with waiting := qs.filter (fun q => decide (q.half = h)) ++ e.waiting }) t)) s

/-- What leaving the link does (R62): partial packets are discarded and counted, buffers emptied, unacknowledged and
queued packets handed back to the egress choice of the half that built them. -/
def fiuSalvage (n : Nat) (enter : State → State) (s : State) : State :=
  let p := fiuGet s n
  let back := handBack p
  let s1 := bumpBy (pgFiu n) R.FIU_CNT_MALFORMED (partials p) s
  let s2 := fiuMod n (fun p => { p with
    held := [], sent := [], txq := [], grant := none, gap := false, lastNak := none, prevOldest := none, noProg := 0,
    vcbuf := (p.vcbuf.map (fun v => (v.1, dropPartial v.2))).filter (fun v => !v.2.isEmpty), uncorrRun := 0,
    cwNext := none, alignRun := 0, attempts := 0, resume := false, lpiRun := 0, ctlRun := 0, ackedTx := false,
    ackedRx := false }) s1
  resend back (enter (fiuFifos n s2))

/-- Entry to DOWN with a cause (R58, R62, R88). -/
def fiuDown (n cause : Nat) (s : State) : State :=
  fiuSalvage n (fun s => fiuSetState n fsDOWN
    (raise (pgFiu n) 1 (wr (pgFiu n) R.FIU_LINK_STAT_CAUSE cause s))) s

/-- Entry to DISABLED (R58, R62). -/
def fiuDisable (n : Nat) (s : State) : State :=
  fiuSalvage n (fun s => fiuSetState n fsDISABLED (wr (pgFiu n) R.FIU_LINK_STAT_CAUSE 8 s)) s

/-- Entry to RECOVER, its first attempt (R58, R61, R88). -/
def fiuRecover (n : Nat) (s : State) : State :=
  let s1 := fiuMod n (fun p => { p with
    attempts := 1, alignRun := 0, resume := false, ctlRun := 0, uncorrRun := 0,
    noProg := 0, lpiRun := 0, cwNext := none }) s
  fiuSetState n fsRECOVER (raise (pgFiu n) 2 (bump (pgFiu n) R.FIU_CNT_RECOVER s1))

/-- Entry to INIT: sequence numbers and both credit counts start again (R44, R46, R53, R60). -/
def fiuInit (n : Nat) (s : State) : State :=
  let s1 := fiuMod n (fun p => { p with
    txNext := 0, expect := 0, gap := false, consumed := [], crdCum := [],
    returned := [0, 1, 2, 3, 4, 5].foldl (fun t v => tput 0 t v (poolOf s n v)) [], vcbuf := [],
    ctlRun := 0, ackedTx := false, ackedRx := false }) s
  fiuSetState n fsINIT s1

/-! Acknowledgement and replay (R45, R48, R49). -/

/-- The held flits left when ACK_SEQ `a` arrives: those after the named one; all of them where it names none (R45). -/
def ackHeld (a : Nat) : List HeldFlit → List HeldFlit
  | [] => []
  | f :: r => if f.seq = a then r else ackHeld a r

/-- ACK_SEQ `a` frees every held flit up to the named one; one that names no held flit is ignored (R45). -/
def ackApply (a : Nat) (p : FiuPort) : FiuPort :=
  if p.held.any (fun f => f.seq == a) then
    let held := ackHeld a p.held
    { p with held := held, sent := p.sent.filter (fun q => held.any (fun f => f.pid == q.id)) }
  else p

/-- The held flits go out again with their original content (R48). -/
def emitFlits (n : Nat) (fs : List HeldFlit) (s : State) : State :=
  fs.foldl (fun t f => emit (.flit n f.seq f.bytes) t) s

/-- A replay from the oldest held flit, with the progress test of R49. -/
def fiuReplay (n : Nat) (s : State) : State :=
  let p := fiuGet s n
  match p.held with
  | [] => s
  | f :: _ =>
    let np := if p.prevOldest = some f.seq then p.noProg + 1 else 0
    let s1 := emitFlits n p.held (bump (pgFiu n) R.FIU_CNT_REPLAY s)
    let s2 := fiuMod n (fun p => { p with prevOldest := some f.seq, noProg := np }) s1
    if max 1 (rd s (pgFiu n) R.FIU_LINK_CTRL_REPLAY_LIMIT) ≤ np then
      fiuRecover n (raise (pgFiu n) 4 s2)
    else s2

/-- REPLAY_TMO in ns (R84). -/
def replayTmo (s : State) (n : Nat) : Nat := 256 * max 1 (rd s (pgFiu n) R.FIU_LINK_CTRL_REPLAY_TMO)

/-- A NAK with ACK_SEQ `a`: applied as an acknowledgement, then a replay, unless the NAK repeats the one answered
within the last REPLAY_TMO (R48). -/
def fiuNak (n a : Nat) (s : State) : State :=
  let s1 := fiuMod n (ackApply a) s
  match (fiuGet s n).lastNak with
  | some (a', t) =>
    if a' = a ∧ s.clk < t + replayTmo s n then s1
    else fiuReplay n (fiuMod n (fun p => { p with lastNak := some (a, s.clk) }) s1)
  | none => fiuReplay n (fiuMod n (fun p => { p with lastNak := some (a, s.clk) }) s1)

/-! Received codewords. -/

/-- One CRC-good flit in ACTIVE (R46, R47, R55, R56). The truth value says whether the link went DOWN. -/
def rxFlit (n : Nat) (b : List Byte) (s : State) : State :=
  let p := fiuGet s n
  let d := (flitSeq b + 4096 - p.expect) % 4096
  if d = 0 then
    let vc := flitVc b
    let buf := tget [] p.vcbuf vc
    if vc ≥ 6 ∨ buf.length ≥ poolOf s n vc then fiuDown n 9 (raise (pgFiu n) 7 s)
    else
      let fl : RxFlit := ⟨p.arrNext, flitHead b, flitTail b, flitData b⟩
      fiuMod n (fun p => { p with
        vcbuf := tput [] p.vcbuf vc (buf ++ [fl]), expect := (p.expect + 1) % 4096,
        gap := false, arrNext := if flitHead b then p.arrNext + 1 else p.arrNext }) s
  else if d < 2048 then
    if p.gap then s
    else bump (pgFiu n) R.FIU_CNT_NAK_TX (fiuMod n (fun p => { p with gap := true }) s)
  else bump (pgFiu n) R.FIU_CNT_DUP s

/-- The valid slots of a codeword in slot order; each flit counts only while the port is ACTIVE (R41, R43). -/
def rxSlots (n : Nat) : Nat → Nat → List (List Byte) → State → State
  | _, _, [], s => s
  | valid, i, b :: r, s =>
    let s1 :=
      if valid.testBit i && decide (fiuState s n = fsACTIVE) then
        if flitOk b then rxFlit n b s else bump (pgFiu n) R.FIU_CNT_CRC_ERR s
      else s
    rxSlots n valid (i + 1) r s1

/-- LPI is set by the device on F[n] (R64). -/
def lpiTx (s : State) (n : Nat) : Bool := rdB s (pgFiu n) R.FIU_LINK_CTRL_LP_REQ || (fiuGet s n).pmLpi

/-- The LPI bit of a received header: 64 codewords with LPI both ways and nothing unacknowledged enter LOWPWR; LPI
clear leaves it (R64). -/
def rxLpi (n : Nat) (lpi : Bool) (s : State) : State :=
  let run := if lpi && lpiTx s n then (fiuGet s n).lpiRun + 1 else 0
  let s1 := fiuMod n (fun p => { p with lpiRun := run }) s
  if fiuState s n = fsACTIVE ∧ 64 ≤ run ∧ (fiuGet s n).held = [] then fiuSetState n fsLOWPWR s1
  else if fiuState s n = fsLOWPWR ∧ ¬ lpi then fiuSetState n fsACTIVE s1
  else s1

/-- The acknowledgement, NAK and credit fields of a header (R41, R45, R48, R53). -/
def rxHeader (n : Nat) (hdr : Nat) (s : State) : State :=
  let a := bits hdr 49 38
  let s1 := fiuMod n (fun p => { p with crdCum := tput 0 p.crdCum (bits hdr 37 35) (bits hdr 34 24) }) s
  if hdr.testBit 50 then fiuNak n a s1 else fiuMod n (ackApply a) s1

/-- The three words of slot 0 (R60). -/
def ctlWords (b : List Byte) : Nat × Nat × Nat :=
  (leNat (b.take 8), leNat ((b.drop 8).take 8), leNat ((b.drop 16).take 8))

/-- INIT parameters are valid: VERSION 1 and pools of VC0 to VC5 of at least 35 (R60). -/
def ctlValid (c : Nat × Nat × Nat) : Bool :=
  decide (bits c.1 63 56 = 1) &&
    [bits c.2.1 10 0, bits c.2.1 26 16, bits c.2.1 42 32, bits c.2.1 58 48, bits c.2.2 10 0, bits c.2.2 26 16].all
      (fun p => decide (35 ≤ p))

/-- A CTL codeword in INIT: 16 identical valid ones set ACKED; with ACKED sent and received the port is ACTIVE and the
peer is recorded; 16 identical ones with invalid parameters take the port DOWN (R58, R60, R88). DEDUCED: invalid
parameters are judged after as many codewords as valid ones. -/
def rxInit (n : Nat) (c : Nat × Nat × Nat) (s : State) : State :=
  let p := fiuGet s n
  let run := if p.ctl = c then p.ctlRun + 1 else 1
  let tx := p.ackedTx || (decide (16 ≤ run) && ctlValid c)
  let rx := c.1.testBit 27
  let s1 := fiuMod n (fun p => { p with ctl := c, ctlRun := run, ackedTx := tx, ackedRx := rx }) s
  if tx && rx && ctlValid c then
    raise (pgFiu n) 0 (fiuSetState n fsACTIVE (wr (pgFiu n) R.FIU_LINK_STAT_PEER_NODE (bits c.1 55 36)
      (wr (pgFiu n) R.FIU_LINK_STAT_PEER_PORT (bits c.1 35 28) s1)))
  else if 16 ≤ run ∧ ctlValid c = false then fiuDown n 5 s1
  else s1

/-- A CTL codeword while a RECOVER resumes: 16 identical ones carrying the peer's EXPECT acknowledge EXPECT-1, replay
the rest and make the port ACTIVE (R61). -/
def rxResume (n : Nat) (c : Nat × Nat × Nat) (s : State) : State :=
  let p := fiuGet s n
  let run := if p.ctl = c then p.ctlRun + 1 else 1
  let s1 := fiuMod n (fun p => { p with ctl := c, ctlRun := run }) s
  if p.resume ∧ 16 ≤ run ∧ bits c.1 63 60 = 5 then
    let e := bits c.1 11 0
    let s2 := fiuMod n (fun p => { ackApply ((e + 4095) % 4096) p with resume := false, attempts := 0 }) s1
    fiuSetState n fsACTIVE (emitFlits n (fiuGet s2 n).held s2)
  else s1

/-- A correctable codeword, by link state. -/
def rxGood (n : Nat) (cw : Codeword) (s : State) : State :=
  let hdr := cw.hdr.toNat
  let p := fiuGet s n
  let num := bits hdr 63 56
  let consistent := p.cwNext = none ∨ p.cwNext = some num
  let s1 := fiuMod n (fun p => { p with uncorrRun := 0, cwNext := some ((num + 1) % 256) })
    (bumpBy (pgFiu n) R.FIU_CNT_FEC_CORR cw.symErr s)
  let ctl := hdr.testBit 55
  let c := ctlWords (cw.slots.headD [])
  let st := fiuState s n
  if st = fsACTIVE then
    if ¬ consistent then fiuRecover n s1
    else
      let s2 := rxLpi n (hdr.testBit 23) (rxHeader n hdr s1)
      if ctl then s2 else rxSlots n (bits hdr 54 51) 0 cw.slots s2
  else if st = fsLOWPWR then rxLpi n (hdr.testBit 23) (rxHeader n hdr s1)
  else if st = fsINIT then
    let s2 := rxHeader n hdr s1
    if ctl then rxInit n c s2 else s2
  else if st = fsALIGN then
    fiuMod n (fun p => { p with alignRun := if consistent then p.alignRun + 1 else 1 }) s1
  else if st = fsRECOVER then
    if p.resume then (if ctl then rxResume n c s1 else s1)
    else fiuMod n (fun p => { p with alignRun := if consistent then p.alignRun + 1 else 1 }) s1
  else s

/-- CODEWORD_RECEIVE. FEC corrects up to 16 symbols (R40); a codeword past that is discarded whole, header and flits
(R43), and the sixteenth in a row takes an ACTIVE port to RECOVER (R58). -/
def codewordReceive (n : Nat) (cw : Codeword) (s : State) : State :=
  if fiuState s n = fsDISABLED ∨ fiuState s n = fsDOWN ∨ fiuState s n = fsTRAIN then s
  else if cw.symErr ≤ 16 then rxGood n cw s
  else
    let run := (fiuGet s n).uncorrRun + 1
    let s1 := fiuMod n (fun p => { p with uncorrRun := run, alignRun := 0, cwNext := p.cwNext.map (fun k => (k + 1) % 256) })
      (raise (pgFiu n) 8 (bump (pgFiu n) R.FIU_CNT_FEC_UNCORR s))
    if fiuState s n = fsACTIVE ∧ 16 ≤ run then fiuRecover n s1 else s1

/-- The head packet of F[n]'s queue of a VC goes out whole: its flits numbered, held and sent, its credit consumed
(R44, R50, R54, R67). -/
def sendHead (n vc : Nat) (q : QPkt) (rest : List QPkt) (s : State) : State :=
  let p := fiuGet s n
  let fl := packetFlits p.txNext q.pkt
  let held := fl.map (fun f => (⟨f.1, q.id, f.2⟩ : HeldFlit))
  let s1 := fiuMod n (fun p => { p with
    txq := tput [] p.txq vc rest, grant := none, txNext := (p.txNext + fl.length) % 4096, held := p.held ++ held,
    sent := p.sent ++ [q], consumed := tput 0 p.consumed vc ((tget 0 p.consumed vc + fl.length) % 2048) }) s
  emitFlits n held s1

/-- PACKET_SEND (R67): the packet granted on a VC is sent once credit (R54) and replay room (R50) allow; until then
the FIU holds the grant. -/
def packetSend (n vc : Nat) (s : State) : State :=
  let p := fiuGet s n
  match fiuState s n, tget [] p.txq vc with
  | 5, q :: rest =>
    let k := flitCount q.pkt.len
    if p.held.length + k ≤ 1536 ∧ k ≤ creditAvail p vc then sendHead n vc q rest s
    else fiuMod n (fun p => { p with grant := some vc }) s
  | _, _ => s

/-- TRAIN_COMPLETE (R58, R59): `lanes` has bit i set where lane i equalised. -/
def trainComplete (n lanes : Nat) (s : State) : State :=
  let P := pgFiu n
  let use (mask w : Nat) (s : State) : State :=
    fiuSetState n fsALIGN (fiuMod n (fun p => { p with alignRun := 0, cwNext := none })
      (wr P R.FIU_LINK_STAT_LANE_MASK mask (wr P R.FIU_LINK_STAT_WIDTH w s)))
  if fiuState s n ≠ fsTRAIN then s
  else if lanes % 256 = 255 then use 255 2 s
  else if rdB s P R.FIU_LINK_CTRL_WIDTH4_OK then
    if lanes % 16 = 15 then raise P 3 (use 15 1 s)
    else if lanes / 16 % 16 = 15 then raise P 3 (use 240 1 s)
    else fiuDown n 2 s
  else fiuDown n 2 s

/-- A write of FIU_LINK_CTRL.EN (R52, R58, R84). -/
def fiuEnWrite (n : Nat) (en : Bool) (path : Path) (s : State) : State :=
  let P := pgFiu n
  if rdB s P R.FIU_LINK_CTRL_EN = en then s
  else if en then
    if poolsOk s n then fiuSetState n fsDOWN (raise P 1 (wr P R.FIU_LINK_CTRL_EN 1 s))
    else cfgReject P 0x80 3 .live (some path) s
  else fiuDisable n (wr P R.FIU_LINK_CTRL_EN 0 s)

/-- FIU_RETRAIN (R58, R84): acts in ACTIVE only. -/
def fiuRetrain (n : Nat) (s : State) : State := if fiuState s n = fsACTIVE then fiuRecover n s else s

/-- The device's LPI on F[n] may have cleared: LOWPWR is left (R64). -/
def lpiCheck (n : Nat) (s : State) : State :=
  if fiuState s n = fsLOWPWR ∧ ¬ lpiTx s n then
    fiuSetState n fsACTIVE (fiuMod n (fun p => { p with lpiRun := 0 }) s)
  else s

/-- A write of LP_REQ (R64, R84). -/
def lpReqWrite (n : Nat) (v : Bool) (s : State) : State := lpiCheck n (wr (pgFiu n) R.FIU_LINK_CTRL_LP_REQ (bit v) s)

/-- The counters of the FIU page (R83). -/
def fiuCounters : List Fld :=
  [R.FIU_CNT_FEC_CORR, R.FIU_CNT_FEC_UNCORR, R.FIU_CNT_CRC_ERR, R.FIU_CNT_NAK_TX, R.FIU_CNT_REPLAY, R.FIU_CNT_DUP,
    R.FIU_CNT_MALFORMED, R.FIU_CNT_RECOVER]

/-- A write of EGR_PORT_MASK.ELIGIBLE (R82, R89). -/
def egrMaskWrite (h : Half) (mask : Nat) (s : State) : State :=
  withEgress (wr (pgEgress h) R.EGR_PORT_MASK_ELIGIBLE mask) s

end Sys2Proof.Machine
end

