-- ==== Sys2Proof/Machine/Shadow.lean ====
section
/-!
DEFINITION. The fields of a page, and the shadow of its STAGED fields: capture and boundary (R497-R499).
-/
namespace Sys2Proof.Machine

/-- The block-specific fields of a page kind. -/
def kindFields : PageKind → List Fld
  | .global => R.pageGLOBAL
  | .host => R.pageHOST ++ R.pageRESULT
  | .lantern => R.pageLANTERN
  | .timebase => R.pageTIMEBASE
  | .keeper => R.pageKEEPER
  | .protect => R.pagePROTECT
  | .primacy => R.pagePRIMACY
  | .contexts => R.pageCONTEXTS
  | .rings => R.pageRINGS
  | .placeG => R.pagePLACE_GLOBAL
  | .easelG => R.pageEASEL_GLOBAL
  | .queuesG => R.pageQUEUES
  | .dataPort => R.pageDATA_PORT
  | .mgmt => R.pageMGMT ++ R.pageRESULT
  | .egress => R.pageEGRESS
  | .palette => R.pagePALETTE
  | .crossing => R.pageCROSSING
  | .light => R.pageLIGHT
  | .sched => R.pageSCHED
  | .place => R.pagePLACE
  | .dikar => R.pageDIKAR
  | .matching => R.pageMATCH
  | .coll => R.pageCOLLECTIVE
  | .erasure => R.pageERASURE
  | .queues => R.pageQUEUES
  | .easel => R.pageEASEL
  | .cal => R.pageCAL
  | .fiu => R.pageFIU
  | .apu => R.pageAPU

/-- Every field of page `P`, the common header first (R490). -/
def pageFields (P : Nat) : List Fld :=
  match pageKind P with
  | some k => R.pageHDR ++ kindFields k
  | none => []

/-- The fields of the register at byte `off` of page `P`. -/
def regFields (P off : Nat) : List Fld :=
  (pageFields P).filterMap (fun f =>
    if f.off ≤ off ∧ off < f.off + 8 * f.n ∧ (off - f.off) % 8 = 0 then some { f with off := off, n := 1 } else none)

/-- The field at a place. -/
def fldOf (k : RKey) : Option Fld := (regFields k.page k.off).find? (fun f => f.lo == k.lo)

/-- The value in force at a place. -/
def keyVal (s : State) (k : RKey) : Nat :=
  match fldOf k with
  | some f => tgetBy f.rst s.regs k
  | none => 0

/-- The value in force at a place set. -/
def putKey (k : RKey) (v : Nat) (s : State) : State :=
  match fldOf k with
  | some f => { s with regs := tputBy RKey.code f.rst s.regs k (v % 2 ^ f.w) }
  | none => s

/-- The shadow value of a STAGED field at a place (R497). -/
def shadowVal (s : State) (k : RKey) : Nat := tgetBy (keyVal s k) s.shadow k

/-- The captured entries of page `P` that `sel` picks take effect together (R497). -/
def boundary (P : Nat) (sel : RKey → Bool) (s : State) : State :=
  let hit := s.captured.filter (fun e => e.1.page == P && sel e.1)
  let s1 := { s with captured := s.captured.filter (fun e => !(e.1.page == P && sel e.1)) }
  hit.foldl (fun t e => putKey e.1 e.2 t) s1

end Sys2Proof.Machine
end

