-- ==== Sys2Proof/Machine/Light.lean ====
section
/-!
DEFINITION. The timebase's discipline by PPS, the Light List's estimators and the beacon subscriptions (chapter 06,
R199-R213, R229-R232), with the fixing and handing back of scheduled events that a light's changes bring.
-/
namespace Sys2Proof.Machine

/-! Light states (R206). -/
def lsUNASSIGNED : Nat := 0
def lsIDLE : Nat := 1
def lsACQUIRE : Nat := 2
def lsLIT : Nat := 3
def lsDRIFT : Nat := 4
def lsFAULT : Nat := 5

/-- What light `l` holds beside its registers. -/
def lgt (s : State) (l : Nat) : Light := tget {} s.lights l

/-- Light `l` changed. -/
def lgtMod (l : Nat) (f : Light → Light) (s : State) : State :=
  { s with lights := tput {} s.lights l (f (lgt s l)) }

/-- The LIGHT page of light `l`. -/
def pgL (l : Nat) : Nat := pgLight (lHalf l)

/-- A view field of light `l` (R210). -/
def lV (s : State) (l : Nat) (f : Fld) : Nat := rdI s (pgL l) f l

/-- A view field of light `l` set. -/
def lPut (l : Nat) (f : Fld) (v : Nat) (s : State) : State := wrI (pgL l) f l v s

/-- STATE of light `l` (R206). -/
def lightState (s : State) (l : Nat) : Nat := lV s l R.LL_VIEW_0_STATE

/-- The Atnen port of light `l`. -/
def lightPort (s : State) (l : Nat) : Nat := lV s l R.LL_VIEW_0_PORT

/-- The light is a disc light; otherwise a tape light (R210). -/
def isDisc (s : State) (l : Nat) : Bool := lV s l R.LL_VIEW_0_KIND == 1

/-- LL_TUNE of the half of light `l`. -/
def tune (s : State) (l : Nat) (f : Fld) : Nat := rd s (pgL l) f

/-- The light that the half holds for unit `u` of station `stn` of A[n]: bound to the station's serial and that unit
index, the unit present (R108, R205). -/
def lightOf (s : State) (n stn u : Nat) : Option Nat :=
  let st := stnGet s n stn
  (s.lights.find? (fun p => p.2.bound && p.2.present && decide (lHalf p.1 = aHalf n) && st.seen &&
    p.2.serial == st.serial && lV s p.1 R.LL_VIEW_0_UNIT == u)).map (·.1)

/-! Scheduled events: what a light's changes do to them. -/

/-- What half `h`'s scheduler holds. -/
def schMod (h : Half) (f : Sched → Sched) (s : State) : State := { s with sched := s.sched.put h (f (s.sched.at h)) }

/-- Event `id` of half `h` changed. -/
def evMod (h : Half) (id : Nat) (f : Event → Event) (s : State) : State :=
  schMod h (fun c => { c with events := c.events.map (fun e => if e.id = id then f e else e) }) s

/-- Event `id` of half `h`. -/
def evGet (s : State) (h : Half) (id : Nat) : Option Event := (s.sched.at h).events.find? (fun e => e.id == id)

/-- The pending event, command or transfer of half `h` with that VTAG. -/
def evByVtag (s : State) (h : Half) (vtag : Nat) : Option Event :=
  (s.sched.at h).events.find? (fun e => e.vtag == vtag && (e.st == .granted || e.st == .verify || e.st == .readback))

/-- The transaction belongs to the scheduled transfer with that VTAG of half `h`. -/
def txnOfEv (h : Half) (vtag : Nat) (t : Txn) : Bool :=
  match t.own with
  | .evData h' v => decide (h' = h) && v == vtag
  | .evCmd h' v => decide (h' = h) && v == vtag
  | .evBuf h' v _ _ => decide (h' = h) && v == vtag
  | _ => false

/-- What waits on a port for a transfer is taken back. -/
def dropEvTxns (h : Half) (e : Event) (s : State) : State :=
  if e.st = .granted ∨ e.st = .readback then
    apuMod (lightPort s e.light) (fun p => { p with media := p.media.filter (fun t => !txnOfEv h e.vtag t) }) s
  else s

/-- An event leaves the scheduler with an outcome; the owner hears of it (R220, R221). -/
def evEnd (h : Half) (e : Event) (out : EvOut) (s : State) : State :=
  let s1 := schMod h (fun c => { c with events := c.events.filter (fun x => x.id != e.id) }) (dropEvTxns h e s)
  post (.evDone h e out) s1

/-- A transfer is handed back with a cause: 1 PORT_DOWN, 2 PHASE_LOST, 3 UNIT_FAULT, 4 UNIT_IDLE, 5 CANCELLED
(R221). -/
def handOne (h : Half) (cause : Nat) (s : State) (e : Event) : State :=
  bump (pgSched h) R.SCHED_CNT_HANDBACK (evEnd h e (.handed cause) s)

/-- Every event of light `l` that `sel` picks is handed back (R221). -/
def handBackEvents (l cause : Nat) (sel : Event → Bool) (s : State) : State :=
  let h := lHalf l
  ((s.sched.at h).events.filter (fun e => e.light == l && sel e)).foldl (handOne h cause) s

/-- The event's first word has not been granted (R221). -/
def ungranted (e : Event) : Bool := e.st == .held || e.st == .fixed || e.st == .fired

/-! Angles and fire instants (R212, R215, R216). -/

/-- A(s) = ⌊s × 65,536 / SLOTS⌋ (R212). -/
def slotAngle (s : State) (l slot : Nat) : Nat := slot * 65536 / lV s l R.LL_VIEW_3_SLOTS

/-- The angle of light `l` at instant `t` ns (R212). -/
def angleAt (s : State) (l : Nat) (t : Int) : Int :=
  let x := lgt s l
  if x.period = 0 then Config.quotZero t else ((t * 65536 - x.tref) % x.period) * 65536 / x.period

/-- SLACK_NS in force, at least 1,000 (R210). -/
def slackOf (s : State) (l : Nat) : Nat := max 1000 (lV s l R.LL_VIEW_6_SLACK_NS)

/-- X of R215: the transfer time of a write. -/
def xferNs (s : State) (l op c : Nat) : Nat := if op = 1 then cdiv (c * (lgt s l).desc.slotBytes) 24 else 0

/-- λ of R215 for transfer time `x` and slack `sl`. -/
def leadAngle (s : State) (l x sl : Nat) : Nat :=
  (ceilDiv (((lV s l R.LL_VIEW_4_LEAD_NS + x + sl : Nat) : Int) * 65536 * 65536) (lgt s l).period).toNat

/-- F of a disc light for angle difference `d` = A - λ, `m` revolutions after T_REF (R215). -/
def fireDisc (s : State) (l : Nat) (d m : Int) : Int :=
  ceilDiv ((lgt s l).tref * 65536 + (m * 65536 + d) * (lgt s l).period) (2 ^ 32)

/-- The smallest m whose F(m) is at least instant `t` (R215). -/
def firstRev (s : State) (l : Nat) (d t : Int) : Int :=
  let p := (lgt s l).period * 65536
  let num := (t - 1) * 2 ^ 32 - (lgt s l).tref * 65536 - d * (lgt s l).period
  if p = 0 then Config.quotZero num else num / p + 1

/-- F of a TAPE_READ of tape block `b` (R215). -/
def fireTape (s : State) (l b slk : Nat) : Int :=
  let x := lgt s l
  ceilDiv (x.tref + ((b : Int) - x.refCount) * x.period) 65536 - (lV s l R.LL_VIEW_4_LEAD_NS + slk : Nat)

/-- The event's fire instant under the light's current estimate (R216). -/
def fireAt (s : State) (e : Event) : Int :=
  if e.op = 6 then fireTape s e.light e.track e.slack
  else fireDisc s e.light ((slotAngle s e.light e.slot : Int) - e.lam) (e.rev - (lgt s e.light).refCount)

/-- An event's figures fixed at this moment (R215, R216). -/
def fixEvent (s : State) (e : Event) : Event :=
  if e.op = 6 then { e with st := .fixed }
  else
    let lam := leadAngle s e.light (xferNs s e.light e.op e.count) e.slack
    let d : Int := (slotAngle s e.light e.slot : Int) - lam
    let m := firstRev s e.light d ((nowH s (lHalf e.light) : Nat) + 1000)
    { e with st := .fixed, lam := lam, rev := (lgt s e.light).refCount + m }

/-- The held events of light `l` are fixed: it is LIT and HOLD is 0 (R214, R215). -/
def fixHeld (l : Nat) (s : State) : State :=
  if lightState s l = lsLIT then
    schMod (lHalf l) (fun c => { c with
      events := c.events.map (fun e => if e.light = l ∧ e.st = .held then fixEvent s e else e) }) s
  else s

/-! State changes of a light (R206, R207, R222). -/

/-- HEALTH set; SUSPECT raises LIGHT_SUSPECT (R222, R234). -/
def setHealth (l v : Nat) (s : State) : State :=
  let s1 := lPut l R.LL_VIEW_0_HEALTH v (lgtMod l (fun x => { x with passRun := 0 }) s)
  raiseIf (decide (v = 1 ∧ lV s l R.LL_VIEW_0_HEALTH ≠ 1)) (pgL l) 5 s1

/-- A light with no estimate. -/
def Light.blank (x : Light) : Light := { x with tref := 0, period := 0, refCount := 0, first := none, jumps := 0 }

/-- Entry into ACQUIRE with a cleared estimate. -/
def enterAcquire (l : Nat) (s : State) : State := lPut l R.LL_VIEW_0_STATE lsACQUIRE (lgtMod l Light.blank s)

/-- "Reacquire" (R207), with the events whose first word is not granted handed back (R221). -/
def reacquire (l : Nat) (s : State) : State :=
  let s1 := raise (pgL l) 3 (bump (pgL l) R.LIGHT_CNT_REACQUIRE (enterAcquire l s))
  handBackEvents l 2 ungranted s1

/-- Entry into FAULT (R207, R221, R222). -/
def enterFault (l : Nat) (s : State) : State :=
  if lightState s l = lsFAULT ∨ lightState s l = lsUNASSIGNED then s
  else
    let s1 := raise (pgL l) 2 (setHealth l 2 (lPut l R.LL_VIEW_0_STATE lsFAULT s))
    post (.lightFault l) (handBackEvents l 3 (fun _ => true) s1)

/-- Entry into IDLE (R207, R221). -/
def enterIdle (l : Nat) (s : State) : State :=
  let st := lightState s l
  let s1 := lPut l R.LL_VIEW_0_STATE lsIDLE s
  if st = lsACQUIRE ∨ st = lsLIT ∨ st = lsDRIFT then post (.lightIdle l) (handBackEvents l 4 (fun _ => true) s1)
  else s1

/-- Entry into LIT from ACQUIRE: LIGHT_LIT, FAILED becomes SUSPECT, held events are fixed (R207, R215, R222). -/
def enterLit (l : Nat) (s : State) : State :=
  let s1 := raise (pgL l) 0 (lPut l R.LL_VIEW_0_STATE lsLIT s)
  let s2 := if lV s1 l R.LL_VIEW_0_HEALTH = 2 then setHealth l 1 s1 else s1
  post (.lightLit l) (fixHeld l s2)

/-- Entry into DRIFT (R207). -/
def enterDrift (l : Nat) (s : State) : State := raise (pgL l) 1 (lPut l R.LL_VIEW_0_STATE lsDRIFT s)

/-- DRIFT back to LIT (R207); events held since are fixed. -/
def leaveDrift (l : Nat) (s : State) : State :=
  if lightState s l = lsDRIFT then fixHeld l (lPut l R.LL_VIEW_0_STATE lsLIT s) else s

/-- MISS_RUN one more, and HEALTH SUSPECT when it reaches MISS_LIMIT (R222). -/
def missOne (l : Nat) (s : State) : State :=
  let run := min 255 (lV s l R.LL_VIEW_4_MISS_RUN + 1)
  let s1 := lPut l R.LL_VIEW_5_MISSES (lV s l R.LL_VIEW_5_MISSES + 1) (lPut l R.LL_VIEW_4_MISS_RUN run s)
  let lim := max 1 (rd s (pgSched (lHalf l)) R.SCH_CTRL_MISS_LIMIT)
  if run = lim ∧ lV s l R.LL_VIEW_4_MISS_RUN < lim then
    raise (pgSched (lHalf l)) 1 (if lV s1 l R.LL_VIEW_0_HEALTH = 0 then setHealth l 1 s1 else s1)
  else s1

/-- A change of LEAD_NS, kept within 1,000 and 1,048,575 (R218). -/
def setLead (l : Nat) (v : Int) (s : State) : State :=
  lPut l R.LL_VIEW_4_LEAD_NS (min 1048575 (max 1000 v)).toNat s

/-- SLOT_MISSED of a transfer that was on time (R218). -/
def leadUp (l : Nat) (s : State) : State :=
  lPut l R.LL_VIEW_4_ON_TIME_RUN 0 (setLead l (lV s l R.LL_VIEW_4_LEAD_NS + tune s l R.LL_TUNE_LEAD_UP : Nat) s)

/-- PASS: ON_TIME_RUN one more, LEAD_NS down after 2^LEAD_N_LOG2 of them; MISS_RUN 0; HEALTH back to GOOD after as
many PASS results in a row (R218, R220, R222). -/
def passOne (l : Nat) (s : State) : State :=
  let n := 2 ^ tune s l R.LL_TUNE_LEAD_N_LOG2
  let run := min 65535 (lV s l R.LL_VIEW_4_ON_TIME_RUN + 1)
  let s1 := lPut l R.LL_VIEW_4_MISS_RUN 0 s
  let s2 :=
    if n ≤ run then
      lPut l R.LL_VIEW_4_ON_TIME_RUN 0
        (setLead l ((lV s l R.LL_VIEW_4_LEAD_NS : Int) - tune s l R.LL_TUNE_LEAD_DN) s1)
    else lPut l R.LL_VIEW_4_ON_TIME_RUN run s1
  if lV s l R.LL_VIEW_0_HEALTH = 1 then
    let pr := (lgt s l).passRun + 1
    if n ≤ pr then setHealth l 0 s2 else lgtMod l (fun x => { x with passRun := pr }) s2
  else s2

/-! Estimators (R208, R209, R213). -/

/-- TS of a beacon, widened to the 64-bit value nearest the half's timebase (R118). -/
def widen (now ts : Nat) : Nat :=
  let m := 2 ^ 46
  let d := (ts % m + m - now % m) % m
  if d < m / 2 then (now + d) % 2 ^ 64 else (now + 2 ^ 64 + d - m) % 2 ^ 64

/-- TSYNC_EN of the light's port is 1 (R204). -/
def tsyncOn (s : State) (l : Nat) : Bool := rdB s (pgApu (lightPort s l)) R.APU_CTRL_TSYNC_EN

/-- A rejected jump: the first goes to DRIFT, a second in a row reacquires (R207, R208). -/
def jump (l : Nat) (s : State) : State :=
  let s1 := bump (pgL l) R.LIGHT_CNT_PHASE_JUMP (lgtMod l (fun x => { x with jumps := x.jumps + 1 }) s)
  if (lgt s l).jumps = 0 ∧ lightState s l = lsLIT then enterDrift l s1 else reacquire l s1

/-- What a TACH figure of the revolution that ends teaches (R209). -/
def tachIndex (l : Nat) (s : State) : State :=
  let x := lgt s l
  let fig := x.tachMax.map (· + 1)
  let s1 := lgtMod l (fun x => { x with tachMax := none, tachPrev := fig }) s
  match fig with
  | some v => if x.tachPrev = some v then lPut l R.LL_VIEW_3_TACH_N v s1 else s1
  | none => s1

/-- An accepted INDEX at stamp `t` (R208). -/
def indexBeacon (l t : Nat) (s : State) : State :=
  let x := lgt s l
  let st := lightState s l
  if st = lsACQUIRE then
    match x.first with
    | none => lgtMod l (fun x => { x with first := some t, lastIndex := t }) s
    | some f =>
      let d : Int := (t : Int) - f
      let nom : Int := x.desc.period
      if (d - nom).natAbs ≤ x.desc.period / 50 ∧ tsyncOn s l then
        enterLit l (lgtMod l (fun x => { x with
          period := d * 65536, tref := t * 65536, jumps := 0, refCount := 0, lastIndex := t }) s)
      else lgtMod l (fun x => { x with first := some t, lastIndex := t }) s
  else if st = lsLIT ∨ st = lsDRIFT then
    let n := openRound ((t : Int) * 65536 - x.tref) x.period
    if n < 1 then s
    else
      let pred := x.tref + n * x.period
      let e := (t : Int) * 65536 - pred
      if e.natAbs * 65536 > tune s l R.LL_TUNE_JUMP_TOL * x.period.natAbs then jump l s
      else
        leaveDrift l (lgtMod l (fun x => { x with
          jumps := 0, period := x.period + openDiv (e / 2 ^ tune s l R.LL_TUNE_GP) n,
          tref := pred + e / 2 ^ tune s l R.LL_TUNE_GT, refCount := x.refCount + n, lastIndex := t }) s)
  else s

/-- An accepted TACH with VALUE `v` at stamp `t` (R209). -/
def tachBeacon (l t v : Nat) (s : State) : State :=
  let x := lgt s l
  let s1 := lgtMod l (fun x => { x with tachMax := some (max v (x.tachMax.getD 0)) }) s
  let tn := lV s l R.LL_VIEW_3_TACH_N
  if tn = 0 ∨ lightState s l ≠ lsLIT then s1
  else
    let off := openDiv ((v : Int) * x.period) tn
    let n := openRound ((t : Int) * 65536 - x.tref - off) x.period
    let e := (t : Int) * 65536 - (x.tref + n * x.period + off)
    if e.natAbs * 65536 ≤ tune s l R.LL_TUNE_JUMP_TOL * x.period.natAbs then
      lgtMod l (fun x => { x with tref := x.tref + e / 2 ^ tune s l R.LL_TUNE_GT }) s1
    else s1

/-- An accepted TAPE_POS with block `b` at stamp `t` (R213). -/
def tapeBeacon (l t b : Nat) (s : State) : State :=
  let x := lgt s l
  let st := lightState s l
  if st = lsACQUIRE then
    match x.first with
    | none =>
      lgtMod l (fun x => { x with
        first := some t, tref := t * 65536, refCount := b, lastIndex := t,
        period := openDiv (1000000000 * 65536) x.desc.period }) s
    | some _ =>
      if (b : Int) > x.refCount then
        if tsyncOn s l then
          enterLit l (lgtMod l (fun x => { x with
            period := openDiv ((t : Int) * 65536 - x.tref) (b - x.refCount), tref := t * 65536, refCount := b,
            jumps := 0, lastIndex := t }) s)
        else lgtMod l (fun x => { x with first := some t, tref := t * 65536, refCount := b, lastIndex := t }) s
      else bump (pgL l) R.LIGHT_CNT_PHASE_JUMP s
  else if st = lsLIT ∨ st = lsDRIFT then
    let db := (b : Int) - x.refCount
    let e := (t : Int) * 65536 - (x.tref + db * x.period)
    if db ≤ 0 ∨ e.natAbs * 65536 > tune s l R.LL_TUNE_JUMP_TOL * x.period.natAbs then jump l s
    else
      leaveDrift l (lgtMod l (fun x => { x with
        jumps := 0, period := x.period + openDiv (e / 2 ^ tune s l R.LL_TUNE_GP) db,
        tref := (t : Int) * 65536 - e + e / 2 ^ tune s l R.LL_TUNE_GT, refCount := b, lastIndex := t }) s)
  else s

/-! Subscriptions (R229, R230). -/

/-- Slot `i` of half `h`'s subscriptions changed. -/
def subMod (h : Half) (i : Nat) (f : SubSlot → SubSlot) (s : State) : State :=
  schMod h (fun c => { c with subs := tput {} c.subs i (f (tget {} c.subs i)) }) s

/-- Word 2 of the light entry: PERIOD and PERIOD_FRAC (R210). -/
def periodWord (s : State) (l : Nat) : Nat := ((lgt s l).period % 2 ^ 64).toNat

/-- An accepted beacon offered to one subscription (R229). -/
def subOffer (l kind t v : Nat) (s : State) (i : Nat) : State :=
  let h := lHalf l
  let P := pgL l
  if rdBI s P R.LL_SUB_CTRL_EN i && rdI s P R.LL_SUB_CTRL_LIGHT i == l &&
      (rdI s P R.LL_SUB_CTRL_KIND_MASK i).testBit kind then
    let w := (tget {} (s.sched.at h).subs i).written
    let s1 := if w then bump P R.LIGHT_CNT_SUB_COALESCED s else s
    subMod h i (fun x => { x with
      count := min 65535 (x.count + 1), written := true, kind := kind, state := lightState s l, ts := t, value := v,
      period := periodWord s l }) s1
  else s

/-- The record of a subscription as 32 bytes (R230). -/
def subRecord (l i : Nat) (x : SubSlot) : List Byte :=
  leBytes 8 (l % 2 ^ 14 * 2 ^ 50 + x.kind % 8 * 2 ^ 47 + x.state % 8 * 2 ^ 44 + x.count % 2 ^ 16 * 2 ^ 28 +
      i % 1024 * 2 ^ 18) ++
    leBytes 8 x.ts ++ leBytes 8 (x.value % 2 ^ 32 * 2 ^ 32 + x.seq % 2 ^ 32) ++ leBytes 8 x.period

/-- At the end of its interval a written slot is sent as one PW (R229). -/
def subSend (h : Half) (i : Nat) (s : State) : State :=
  let P := pgLight h
  let x := tget {} (s.sched.at h).subs i
  if rdBI s P R.LL_SUB_CTRL_EN i && x.written then
    let l := rdI s P R.LL_SUB_CTRL_LIGHT i
    let pkt := mkPW false (rdI s P R.LL_SUB_CTRL_DST i) (rdI s P R.LL_SUB_ADDR i * 32) 0 (rdI s P R.LL_SUB_KEY i)
      (subRecord l i x)
    sendPkt h pkt (bump P R.LIGHT_CNT_SUB_SENT
      (subMod h i (fun x => { x with count := 0, written := false, seq := (x.seq + 1) % 2 ^ 32 }) s))
  else s

/-- A subscription's EN set; one whose destination is not registered is disabled with SUB_REJECT (R229). -/
def subEnable (h : Half) (i : Nat) (on : Bool) (s : State) : State :=
  let P := pgLight h
  let s1 := wrI P R.LL_SUB_CTRL_EN i (bit on) s
  if on && !rdBI s P R.LL_SUB_CTRL_EN i && !nodeReg s (rdI s P R.LL_SUB_CTRL_DST i) then
    raise P 4 (wrI P R.LL_SUB_CTRL_EN i 0 s1)
  else s1

/-! Beacons (R205). -/

/-- A BEACON of unit `u` of station `stn` on A[n], KIND 0 INDEX, 1 TACH or 2 TAPE_POS (R118, R205). -/
def beacon (n stn u kind ts v : Nat) (s0 : State) : State :=
  let h := aHalf n
  let P := pgLight h
  let s := boundary P (fun _ => true) s0
  let drop := bump P R.LIGHT_CNT_BEACON_DROP s
  if !rdB s P R.LL_CTRL_EN then drop
  else
    match lightOf s n stn u with
    | none => drop
    | some l =>
      if isDisc s l == (kind == 2) then drop
      else
        let t := widen (nowH s h) ts
        if (lgt s l).lastTs.any (fun o => decide (t ≤ o)) then drop
        else
          let s1 := bump P R.LIGHT_CNT_BEACON (lgtMod l (fun x => { x with lastTs := some t }) s)
          let s2 :=
            if kind = 0 then tachIndex l (indexBeacon l t s1)
            else if kind = 1 then tachBeacon l t v s1
            else tapeBeacon l t v s1
          (listedIdx s2 P R.LL_SUB_CTRL_EN).foldl (subOffer l kind t v) s2

/-! Unit states (R207). -/

/-- Every light bound to station `stn` of A[n]. -/
def stnLights (s : State) (n stn : Nat) : List Nat :=
  (s.lights.filter (fun p => p.2.bound && decide (lHalf p.1 = aHalf n) &&
    p.2.serial == (stnGet s n stn).serial && (stnGet s n stn).seen)).map (·.1)

/-- A STATUS UNIT_STATE of the unit of light `l` (R121, R207). The Light List disabled keeps the light IDLE (R206). -/
def unitStateTo (l d : Nat) (s : State) : State :=
  let s0 := lgtMod l (fun x => { x with unitState := d }) s
  let s1 := if d = 0 then post (.lightAbsent l) s0 else s0
  let st := lightState s l
  let turning := (isDisc s l && d == 3) || (!isDisc s l && d == 8)
  if d = 5 then enterFault l s1
  else if (st = lsIDLE ∨ st = lsFAULT) ∧ turning then
    if (lgt s l).reach && rdB s (pgL l) R.LL_CTRL_EN then enterAcquire l s1 else s1
  else if (st = lsACQUIRE ∨ st = lsLIT ∨ st = lsDRIFT) ∧ d ≠ 3 ∧ d ≠ 8 then enterIdle l s1
  else s1

/-- The light's station is unreachable (R99, R207). -/
def unreach (s : State) (l : Nat) : State := enterFault l (lgtMod l (fun x => { x with reach := false }) s)

/-- The lights on A[n], by their view fields. -/
def portLights (s : State) (n : Nat) : List Nat :=
  (s.lights.filter (fun p => p.2.bound && lightPort s p.1 == n)).map (·.1)

/-- The LIT and DRIFT lights of A[n] reacquire: its TSYNC_EN is 0, or it re-enters ENUM (R207). -/
def portReacquire (n : Nat) (s : State) : State :=
  ((portLights s n).filter (fun l => lightState s l == lsLIT || lightState s l == lsDRIFT)).foldl
    (fun t l => reacquire l t) s

end Sys2Proof.Machine
end

