-- ==== Sys2Proof/Machine/Sched.lean ====
section
/-!
DEFINITION. The Angle Scheduler's events and their VERIFY words, unit commands and tape streams (chapter 06,
R214-R228).
-/
namespace Sys2Proof.Machine

/-- UNIT of light `l`, and its station. -/
def lightUnit (s : State) (l : Nat) : Nat := lV s l R.LL_VIEW_0_UNIT
def lightStn (s : State) (l : Nat) : Nat := lV s l R.LL_VIEW_0_STN

/-- Most events a half's scheduler holds (R214). -/
def schRoom : Nat := 262144

/-- A new VTAG of half `h` (R217). -/
def vtagOf (s : State) (h : Half) : Nat := (s.sched.at h).nextVtag

/-- The next VTAG used up. -/
def vtagUse (h : Half) (s : State) : State := schMod h (fun c => { c with nextVtag := (c.nextVtag + 1) % 2 ^ 32 }) s

/-! Insertion (R214). -/

/-- An event put into the table: fixed at once where its light is LIT with HOLD 0, held otherwise. -/
def schAdmit (h : Half) (e : Event) (s : State) : State :=
  let e1 := { e with id := (s.sched.at h).nextId, slack := slackOf s e.light, st := EvSt.held }
  let e2 := if lightState s e.light = lsLIT ∧ ¬ rdBI s (pgL e.light) R.LL_VIEW_6_HOLD e.light then fixEvent s e1 else e1
  let s1 := schMod h (fun c => { c with events := c.events ++ [e2], nextId := c.nextId + 1 }) s
  let P := pgSched h
  lgtMod e.light (fun x => { x with idleSince := s.clk })
    (wr P R.SCH_STAT_HIGH_WATER (max (rd s1 P R.SCH_STAT_HIGH_WATER) (s1.sched.at h).events.length) s1)

/-- An insert: refused back at once for a light in UNASSIGNED or FAULT; waiting where the table is full (R214). -/
def schInsert (e : Event) (s : State) : State :=
  let h := lHalf e.light
  let st := lightState s e.light
  if st = lsUNASSIGNED ∨ st = lsFAULT then post (.evDone h e (.handed 3)) s
  else if (s.sched.at h).wait = [] ∧ (s.sched.at h).events.length < schRoom then schAdmit h e s
  else
    raiseIf (s.sched.at h).wait.isEmpty (pgSched h) 0 (schMod h (fun c => { c with wait := c.wait ++ [e] }) s)

/-- Waiting inserters come in while there is room, in the order they asked (R214). -/
def schDrain (h : Half) : Nat → State → State
  | 0, s => s
  | k + 1, s =>
    match (s.sched.at h).wait with
    | [] => s
    | e :: r =>
      if (s.sched.at h).events.length < schRoom then
        schDrain h k (schInsert e (schMod h (fun c => { c with wait := r }) s))
      else s

/-! Firing and the media class (R216-R219). -/

/-- The instant by which the first word must be granted (R215). -/
def deadline (s : State) (e : Event) : Int := fireAt s e + e.slack

/-- A fixed event whose fire instant has come joins the media class; none in a power state other than ACTIVE (R216,
R564). -/
def eventFire (h : Half) (id : Nat) (s : State) : State :=
  match evGet s h id with
  | none => s
  | some e =>
    if e.st = .fixed ∧ lightState s e.light = lsLIT ∧ ¬ rdBI s (pgL e.light) R.LL_VIEW_6_HOLD e.light ∧
        rdB s (pgSched h) R.SCH_CTRL_EN ∧ rd s pgKeeper R.KP_PWR_STAT_STATE = 4 ∧ fireAt s e ≤ nowH s h then
      lPut e.light R.LL_VIEW_5_FIRED (lV s e.light R.LL_VIEW_5_FIRED + 1)
        (bump (pgSched h) R.SCHED_CNT_FIRED (evMod h id (fun e => { e with st := .fired }) s))
    else s

/-- An event not granted by its deadline is withdrawn and takes the next revolution; a TAPE_READ has none and ends as
failed (R219). -/
def eventMiss (h : Half) (id : Nat) (s : State) : State :=
  match evGet s h id with
  | none => s
  | some e =>
    if (e.st = .fixed ∨ e.st = .fired) ∧ deadline s e < nowH s h then
      let s1 := missOne e.light (bump (pgSched h) R.SCHED_CNT_MISS_LATE s)
      if e.op = 6 then evEnd h e .failed s1
      else evMod h id (fun e => { e with st := .fixed, rev := e.rev + 1 }) s1
    else s

/-- Commands open on the unit of light `l` without VERIFY (R122, R216). -/
def openCmds (s : State) (l : Nat) : Nat :=
  let c := s.sched.at (lHalf l)
  (c.events.filter (fun e => e.light == l && (e.st == .granted || e.st == .verify))).length +
    (c.cmds.filter (fun u => u.light == l)).length +
    ((c.streams.filter (fun p => p.2.open_ && p.2.light == l)).map
      (fun p => ((p.2.blocks ++ p.2.lapped).filter (fun b => b.vtag.isSome)).length)).sum

/-- Room for one command more on the unit (R122). -/
def cmdRoom (s : State) (l : Nat) : Bool := decide (openCmds s l < lV s l R.LL_VIEW_0_CMD_DEPTH)

/-- Event `a` goes before `b`: earliest deadline, lowest light number, earliest insertion (R216). -/
def edfBefore (s : State) (a b : Event) : Bool :=
  let da := deadline s a
  let db := deadline s b
  decide (da < db) || (decide (da = db) && (decide (a.light < b.light) ||
    (a.light == b.light && decide (a.id < b.id))))

/-- The fired event of A[n] that goes next (R216). -/
def edfHead (s : State) (n : Nat) : Option Event :=
  ((s.sched.at (aHalf n)).events.filter (fun e =>
      e.st == .fired && lightPort s e.light == n && cmdRoom s e.light)).foldl
    (fun b e => match b with
      | none => some e
      | some x => if edfBefore s e x then some e else some x) none

/-- The bytes of 64 KiB unit `a`, zeros where it has no place in Easel. -/
def panelData (s : State) (a : Option Nat) : List Byte :=
  match a with
  | some a => ezRead s a panelBytes
  | none => zeros panelBytes

/-- Offset of a transfer in its unit's buffer. -/
def bufOff (vtag : Nat) : Nat := Config.bufSlot vtag % 16 * 2 ^ 20

/-- The transactions of a scheduled transfer: for a write its data bursts, one seal burst for each 64 KiB, then its
command; for a read its command (R217, R408). -/
def evTxns (s : State) (h : Half) (e : Event) (vtag : Nat) : List Txn :=
  let stn := lightStn s e.light
  let u := lightUnit s e.light
  let n := e.panels.length
  let o := bufOff vtag
  let angle := if e.op = 6 then 0 else slotAngle s e.light e.slot
  let cmd := cmdTxn stn u (.evCmd h vtag) e.op e.track angle e.count (n * panelBytes) o vtag
  if e.op = 1 then
    wrBursts stn (.evData h vtag) (256 * n) (unitBuf u + o) ((e.panels.map (panelData s)).flatten) ++
      wrBursts stn (.evData h vtag) n (sealBuf u + o / 256) e.seals ++ [cmd]
  else [cmd]

/-- The grant of a fired event's first word: a new VTAG, on time or not, its transactions in the media class (R217,
R218). -/
def evGrant (h : Half) (e : Event) (s : State) : State :=
  let v := vtagOf s h
  let late := decide (deadline s e < nowH s h)
  pushTxns (lightPort s e.light) .media (evTxns s h e v)
    (evMod h e.id (fun e => { e with st := .granted, vtag := v, onTime := !late }) (vtagUse h s))

/-! Unit commands outside the scheduler (R122). -/

/-- A command to the unit of light `l`, with bursts before it (R122). -/
def unitCmd (l op blk count len : Nat) (job : Option (Nat × Nat)) (pre : Nat → List Txn) (s : State) : State :=
  let h := lHalf l
  let v := vtagOf s h
  let t := cmdTxn (lightStn s l) (lightUnit s l) (.unitCmd h v) op blk 0 count len (bufOff v) v
  pushTxns (lightPort s l) .media (pre v ++ [t])
    (schMod h (fun c => { c with cmds := c.cmds ++ [⟨l, op, v, job, s.clk⟩] }) (vtagUse h s))

/-- A command without data. -/
def plainCmd (l op blk : Nat) (s : State) : State := unitCmd l op blk 0 0 none (fun _ => []) s

/-! Tape streams (R223-R228). -/

def strGet (s : State) (h : Half) (i : Nat) : Stream := tget {} (s.sched.at h).streams i

def strMod (h : Half) (i : Nat) (f : Stream → Stream) (s : State) : State :=
  schMod h (fun c => { c with streams := tput {} c.streams i (f (tget {} c.streams i)) }) s

/-- The open stream of light `l`. -/
def strOfLight (s : State) (l : Nat) : Option (Nat × Stream) :=
  (s.sched.at (lHalf l)).streams.find? (fun p => p.2.open_ && p.2.light == l)

/-- Stream states (R233). -/
def tsCLOSED : Nat := 0
def tsSTREAMING : Nat := 1
def tsREWINDING : Nat := 2
def tsSTOPPING : Nat := 3
def tsREFILL : Nat := 4
def tsLOCATING : Nat := 5

/-- R of a tape light in bytes per second: blocks per second × 1,048,576 × 17/16 (R223). -/
def strRes (s : State) (l : Nat) : Nat := (lgt s l).desc.period * tapeBytes * 17 / 16

/-- The open reservations on A[n] (R223). -/
def resOnPort (s : State) (n : Nat) : Nat :=
  (((s.sched.at (aHalf n)).streams.filter (fun p => p.2.open_ && lightPort s p.2.light == n)).map (·.2.res)).sum

/-- FIFOs that the stream region holds, at most 256 (R371). -/
def strFifos (s : State) : Nat :=
  min 256 (rd s pgEaselG R.EZG_CARVE_STREAM_GIB * 2 ^ 30 / 2 ^ (24 + rd s pgEaselG R.EZG_CARVE_FIFO_OFF))

/-- The first number below `n` that `used` does not hold. -/
def firstFree (used : List Nat) : Nat → Nat → Option Nat
  | 0, _ => none
  | k + 1, i => if used.contains i then firstFree used k (i + 1) else some i

/-- Opening a stream on tape light `l` with write position `pos`, or its refusal (R223, R371). The truth value says
whether it opened. -/
def streamOpen (l pos : Nat) (s : State) : State × Bool :=
  let h := lHalf l
  let P := pgSched h
  let n := lightPort s l
  let refuse := raise P 5 (bump P R.SCHED_CNT_RES_REFUSED s)
  let cap := min 90 (rd s P R.SCH_CTRL_RES_CAP_PCT) * 240000000
  let opens := (s.sched.at h).streams.filter (fun p => p.2.open_)
  if isDisc s l ∨ lightState s l ≠ lsLIT ∨ (lgt s l).desc.geometry ≠ tapeBytes then (s, false)
  else if (strOfLight s l).isSome ∨ cap < resOnPort s n + strRes s l then (refuse, false)
  else
    match firstFree (opens.map (·.1)) 256 0, firstFree (opens.map (·.2.fifo)) (strFifos s) 0 with
    | some i, some f =>
      (strMod h i (fun _ => {
          open_ := true, state := tsSTREAMING, light := l, fifo := f,
          fifoLog2 := 24 + rd s pgEaselG R.EZG_CARVE_FIFO_OFF, res := strRes s l, creditAt := s.clk, verBlk := pos,
          nextBlock := pos, idleSince := s.clk }) s, true)
    | _, _ => (refuse, false)

/-- Blocks that the stream's FIFO holds. -/
def fifoBlocks (x : Stream) : Nat := 2 ^ (x.fifoLog2 - 20)

/-- The Easel address of block `ord` of a stream's FIFO. -/
def fifoAddr (s : State) (h : Half) (x : Stream) (ord : Nat) : Nat :=
  ezAddr h (regionBase s 6 + x.fifo * 2 ^ x.fifoLog2 + ord % fifoBlocks x * tapeBytes)

/-- Unsent blocks of the FIFO (R225). -/
def unsentBlocks (x : Stream) : List TapeBlk := x.blocks.filter (fun b => !b.sent)

/-- One block filled into free space, or over the oldest unverified block when the unsent data has fallen below a
quarter (R225, R226). -/
def streamFill (h : Half) (i : Nat) (s : State) : State :=
  let x := strGet s h i
  match x.srcs.find? (fun p => p.ord == x.fillOrd) with
  | none => s
  | some src =>
    let n := fifoBlocks x
    let put := fun t =>
      ezStore (fifoAddr s h x src.ord) ((src.pages.map (panelData s)).flatten)
        (strMod h i (fun x => { x with
                                       blocks := x.blocks ++ [⟨src.ord, 0, false, false, 0, none, 0⟩],
                                       fillOrd := x.fillOrd + 1 }) t)
    if !x.open_ || x.state == tsSTOPPING then s
    else if x.blocks.length < n then put s
    else if 4 * (unsentBlocks x).length < n then
      match x.blocks with
      | b :: r =>
        if b.sent then
          let s1 := strMod h i (fun x => { x with blocks := r, lapped := x.lapped ++ [{ b with mark := false }] }) s
          let s2 :=
            if b.mark then
              raise (pgSched h) 2 (bump (pgSched h) R.SCHED_CNT_MARK_LOST
                (strMod h i (fun x => { x with marksLost := min (2 ^ 32 - 1) (x.marksLost + 1) }) s1))
            else s1
          put s2
        else s
      | [] => s
    else s

/-- The credit of a stream at this moment (R224). -/
def creditNow (s : State) (x : Stream) : Nat := min 131072 (x.credit + (s.clk - x.creditAt) * x.res / 1000000000)

/-- The block whose chunk goes next: one begun and not whole, else the oldest unsent. -/
def nextChunkBlk (x : Stream) : Option TapeBlk :=
  x.blocks.find? (fun b => !b.sent || decide (b.chunks < 16))

/-- The unit buffer has room: fewer than 16 unverified blocks in it, or the block is begun (R224). -/
def strRoom (x : Stream) (b : TapeBlk) : Bool :=
  b.sent || decide (((x.blocks ++ x.lapped).filter (fun y => y.sent)).length < 16)

/-- A feed's conditions other than credit hold (R224). -/
def feedReady (s : State) (h : Half) (x : Stream) : Bool :=
  x.open_ && rdB s (pgSched h) R.SCH_CTRL_EN && (x.state == tsSTREAMING || x.state == tsREWINDING) && !x.offered &&
    decide (apuState s (lightPort s x.light) = asACTIVE) &&
    (match nextChunkBlk x with
      | some b => strRoom x b && cmdRoom s x.light && (!x.closing || b.sent)
      | none => false)

/-- A feed is due within `w` ns (R224). -/
def feedDue (s : State) (h : Half) (x : Stream) (w : Nat) : Bool :=
  feedReady s h x && decide (65536 ≤ creditNow s x + w * x.res / 1000000000)

/-- Offset in the unit buffer of the block at place `ord` of a stream: the buffer holds 16 blocks (R224). -/
def blkOff (ord : Nat) : Nat := ord % 16 * tapeBytes

/-- The chunk's bursts, the first and the last marked. -/
def chunkBursts (stn : Nat) (h : Half) (i : Nat) : Nat → Bool → Nat → List Byte → List Txn
  | 0, _, _, _ => []
  | k + 1, first, a, data =>
    ⟨txWR, stn, 64, 15, a, fit 256 data, .chunk h i first (k == 0)⟩ ::
      chunkBursts stn h i k false (a + 256) (data.drop 256)

/-- A stream offers one 64 KiB chunk to the tape-feed class (R224). -/
def chunkOffer (h : Half) (i : Nat) (s : State) : State :=
  let x := strGet s h i
  if feedReady s h x ∧ 65536 ≤ creditNow s x then
    match nextChunkBlk x with
    | none => s
    | some b =>
      let u := lightUnit s x.light
      let o := b.chunks * panelBytes
      pushTxns (lightPort s x.light) .tape
        (chunkBursts (lightStn s x.light) h i 256 true (unitBuf u + blkOff b.ord + o)
          (ezRead s (fifoAddr s h x b.ord + o) panelBytes))
        (strMod h i (fun x => { x with offered := true }) s)
  else s

/-- Block `ord` of a stream changed. -/
def blkMod (ord : Nat) (f : TapeBlk → TapeBlk) (x : Stream) : Stream :=
  { x with blocks := x.blocks.map (fun b => if b.ord = ord then f b else b) }

/-- What waits on the port for a stream is taken back. -/
def dropStreamTxns (h : Half) (i : Nat) (x : Stream) (s : State) : State :=
  apuMod (lightPort s x.light) (fun p => { p with
    tape := p.tape.filter (fun t =>
    match t.own with
    | .chunk h' j _ _ => !(decide (h' = h) && j == i)
    | .tapeSeal h' j => !(decide (h' = h) && j == i)
    | .tapeCmd h' j _ => !(decide (h' = h) && j == i)
    | _ => true) }) s

/-- TAPE_STOP sent to a stream at a block boundary (R227, R259, R565). -/
def streamStop (h : Half) (i : Nat) (s : State) : State :=
  let x := strGet s h i
  plainCmd x.light 7 0 (strMod h i (fun x => { x with state := tsSTOPPING, offered := false, closing := true }) s)

/-- A stream is to be closed: TAPE_STOP goes out at the next block boundary (R259, R565). -/
def streamClose (h : Half) (i : Nat) (s : State) : State :=
  let x := strGet s h i
  if !x.open_ then s
  else if (x.state == tsSTREAMING || x.state == tsREWINDING) && !x.blocks.any (fun b => b.sent && decide (b.chunks < 16)) then
    streamStop h i (dropStreamTxns h i x s)
  else strMod h i (fun x => { x with closing := true }) s

/-- A burst of a chunk has been sent: the first takes the credit and sets the block's mark, the last completes the
chunk, and the sixteenth chunk brings the seal and the TAPE_WRITE (R224, R226, R408). -/
def chunkSent (h : Half) (i : Nat) (first last : Bool) (s : State) : State :=
  let x := strGet s h i
  match nextChunkBlk x with
  | none => s
  | some b =>
    let s1 :=
      if first then
        strMod h i (fun x =>
          blkMod b.ord (fun b => { b with sent := true, mark := true })
            { x with credit := creditNow s x - 65536, creditAt := s.clk }) s
      else s
    if last then
      let s2 := strMod h i (fun x => blkMod b.ord (fun b => { b with chunks := b.chunks + 1 })
        { x with offered := false }) s1
      if b.chunks + 1 = 16 then
        let v := vtagOf s h
        let u := lightUnit s x.light
        let stn := lightStn s x.light
        let seals := ((x.srcs.find? (fun p => p.ord == b.ord)).map (·.seals)).getD []
        let stop := fun t => if x.closing then streamStop h i t else t
        stop <| pushTxns (lightPort s x.light) .tape
          (wrBursts stn (.tapeSeal h i) 16 (sealBuf u + blkOff b.ord / 256) seals ++
            [cmdTxn stn u (.tapeCmd h i v) 5 x.nextBlock 0 1 tapeBytes (blkOff b.ord) v])
          (vtagUse h (strMod h i (fun x => blkMod b.ord (fun b => { b with blk := x.nextBlock, vtag := some v })
            { x with nextBlock := x.nextBlock + 1 }) s2))
      else s2
    else s1

/-- A block to be sent again from its start. -/
def TapeBlk.unsend (b : TapeBlk) : TapeBlk := { b with sent := false, mark := false, chunks := 0, vtag := none }

/-- A back-hitch at block `k` of the stream's order: TAPE_STOP now, the rest when it is done (R227). -/
def backhitch (h : Half) (i k : Nat) (s : State) : State :=
  let x := strGet s h i
  let s1 := dropStreamTxns h i x s
  let s2 := strMod h i (fun x => { x with
    state := tsSTOPPING, offered := false, fillOrd := k, blocks := x.blocks.filter (fun b => b.ord < k),
    lapped := x.lapped.filter (fun b => b.ord < k) }) s1
  plainCmd x.light 7 0 (raise (pgSched h) 3 (bump (pgSched h) R.SCHED_CNT_BACKHITCH s2))

/-- The place of the oldest unverified block, or of the next to send. -/
def oldestOrd (x : Stream) : Nat := ((x.lapped ++ x.blocks).map (·.ord)).foldl min x.fillOrd

/-- The unit of an open stream stopped STREAMING while the stream was not stopping (R228). -/
def tapeStall (h : Half) (i : Nat) (s : State) : State :=
  let x := strGet s h i
  if x.open_ && (x.state == tsSTREAMING || x.state == tsREWINDING) then
    backhitch h i (oldestOrd x) (raise (pgSched h) 4 (bump (pgSched h) R.SCHED_CNT_TAPE_STALL s))
  else s

/-- The stream ends; its panels go back to their owner, and the light's write position is the block after those it has
sent (R221, R227, R239, R371). -/
def streamEnd (h : Half) (i : Nat) (s : State) : State :=
  let x := strGet s h i
  post (.streamEnd h i x.light x.srcs) (strMod h i (fun _ => {}) (dropStreamTxns h i x
    (wrI (pgPlace h) R.PL_LIGHT_VIEW_0_CUR_TRACK x.light x.nextBlock s)))

/-- A tape block's VERIFY (R226, R227). -/
def tapeVerify (h : Half) (i : Nat) (b : TapeBlk) (result : Nat) (s : State) : State :=
  let x := strGet s h i
  let lapped := x.lapped.any (fun y => y.ord == b.ord)
  if result = 0 then
    let s1 := strMod h i (fun x => { x with
      blocks := x.blocks.filter (fun y => y.ord != b.ord), lapped := x.lapped.filter (fun y => y.ord != b.ord),
      srcs := x.srcs.filter (fun p => p.ord != b.ord), verBlk := if oldestOrd x = b.ord then b.blk + 1 else x.verBlk,
      state := if x.state = tsREWINDING then tsSTREAMING else x.state }) s
    match x.srcs.find? (fun p => p.ord == b.ord) with
    | some src => post (.tapeDone h i src b.blk) s1
    | none => s1
  else
    let s1 :=
      if lapped || !b.mark then backhitch h i b.ord s
      else
        strMod h i (fun x => { x with
          state := tsREWINDING, offered := false,
          blocks := x.blocks.map (fun y => if b.ord ≤ y.ord then y.unsend else y) }) (dropStreamTxns h i x s)
    if result = 4 ∨ 6 ≤ result then enterFault x.light (streamEnd h i s1) else s1

/-- A unit command outside the scheduler is closed by its VERIFY; TAPE_STOP and LOCATE carry a stream on (R227,
R259). -/
def cmdVerify (h : Half) (c : UnitCmd) (result : Nat) (s : State) : State :=
  let s1 := post (.cmdDone h c result) (schMod h (fun x => { x with cmds := x.cmds.filter (fun u => u.vtag != c.vtag) }) s)
  let s2 :=
    match strOfLight s1 c.light with
    | some (i, x) =>
      if c.job.isSome then s1
      else if c.op = 7 ∧ x.state = tsSTOPPING then
        if x.closing && (x.srcs.isEmpty || rd s pgKeeper R.KP_PWR_STAT_STATE != 4) then streamEnd h i s1
        else plainCmd c.light 8 x.verBlk (strMod h i (fun x => { x with
          state := tsREFILL, closing := false, nextBlock := x.verBlk, lapped := x.lapped ++ x.blocks, blocks := [] }) s1)
      else if c.op = 8 ∧ x.state = tsLOCATING then
        (if x.closing then streamStop h i s1 else strMod h i (fun x => { x with state := tsSTREAMING }) s1)
      else s1
    | none => s1
  if result = 4 ∨ 6 ≤ result then enterFault c.light s2 else s2

/-- A unit command outside the scheduler has been sent. -/
def unitCmdSent (h : Half) (vtag : Nat) (s : State) : State :=
  match (s.sched.at h).cmds.find? (fun c => c.vtag == vtag) with
  | none => s
  | some c =>
    let s1 := schMod h (fun x => { x with
      cmds := x.cmds.map (fun u => if u.vtag = vtag then { u with sentAt := s.clk } else u) }) s
    match strOfLight s c.light with
    | some (i, x) => if c.op = 8 ∧ x.state = tsREFILL then strMod h i (fun x => { x with state := tsLOCATING }) s1 else s1
    | none => s1

/-! VERIFY (R120, R220). -/

/-- The stream and block of a VTAG. -/
def blkByVtag (s : State) (h : Half) (vtag : Nat) : Option (Nat × TapeBlk) :=
  (s.sched.at h).streams.findSome? (fun p =>
    ((p.2.blocks ++ p.2.lapped).find? (fun b => b.vtag == some vtag)).map (fun b => (p.1, b)))

/-- A result other than PASS ends a light's run of PASS results (R222). -/
def breakRun (l : Nat) (s : State) : State := lgtMod l (fun x => { x with passRun := 0 }) s

/-- The VERIFY that closes a scheduled command (R220). -/
def evVerify (h : Half) (e : Event) (result : Nat) (s : State) : State :=
  let l := e.light
  if result = 0 then
    let s1 := passOne l s
    if e.op = 1 then evEnd h e .pass s1
    else
      let n := e.panels.length
      let stn := lightStn s l
      let u := lightUnit s l
      pushTxns (lightPort s l) .media
        (rdBursts stn (.evBuf h e.vtag 0) (256 * n) (unitBuf u + bufOff e.vtag) 0 ++
          rdBursts stn (.evBuf h e.vtag 1) n (sealBuf u + bufOff e.vtag / 256) 0)
        (evMod h e.id (fun e => { e with
          st := .readback, left := 257 * n, seals := zeros (256 * n),
          buf := if e.panels.all (·.isSome) then [] else zeros (panelBytes * n) }) s1)
  else if result = 3 then
    let s1 := missOne l (breakRun l s)
    let s2 := if isDisc s l then bump (pgSched h) R.SCHED_CNT_MISS_STN s1 else s1
    let s3 := if e.onTime then leadUp l s2 else s2
    if e.op = 6 then evEnd h e .failed s3
    else if lightState s l = lsACQUIRE then evMod h e.id (fun e => { e with st := .held }) s3
    else evMod h e.id (fun e => { e with st := .fixed, rev := e.rev + 1 }) s3
  else if result = 1 ∨ result = 2 then evEnd h e .failed (lPut l R.LL_VIEW_4_MISS_RUN 0 (breakRun l s))
  else if result = 5 then handOne h 5 (breakRun l s) e
  else enterFault l (evEnd h e .failed (breakRun l s))

/-- A VERIFY word of A[n] with RESULT and VTAG (R120, R220, R221, R227). -/
def verifyWord (n result vtag : Nat) (s : State) : State :=
  let h := aHalf n
  match (s.sched.at h).events.find? (fun e => e.vtag == vtag && e.st == .verify) with
  | some e => evVerify h e result s
  | none =>
    match (s.sched.at h).cmds.find? (fun c => c.vtag == vtag) with
    | some c => cmdVerify h c result s
    | none =>
      match blkByVtag s h vtag with
      | some (i, b) => tapeVerify h i b result s
      | none => bump (pgApu n) R.APU_CNT_PROTO s

/-- No VERIFY within VFY_TMO after the command's last word (R221). -/
def verifyTimeout (h : Half) (vtag : Nat) (s : State) : State :=
  let late := raise (pgSched h) 6 (bump (pgSched h) R.SCHED_CNT_VFY_TMO s)
  match (s.sched.at h).events.find? (fun e => e.vtag == vtag && e.st == .verify) with
  | some e => evEnd h e .failed late
  | none =>
    match (s.sched.at h).cmds.find? (fun c => c.vtag == vtag) with
    | some c => cmdVerify h c 1 late
    | none =>
      match blkByVtag s h vtag with
      | some (i, b) => tapeVerify h i b 1 late
      | none => s

/-! Answers of the buffer reads (R217, R408). -/

/-- A byte run replaced within a byte list. -/
def setRange (off : Nat) (d l : List Byte) : List Byte := l.take off ++ d ++ l.drop (off + d.length)

/-- A burst of a passed read's buffer has been answered: its bytes go to Easel or into the seals. -/
def evBufDone (h : Half) (vtag sb off : Nat) (data : List Byte) (s : State) : State :=
  match evByVtag s h vtag with
  | none => s
  | some e =>
    let s1 := evMod h e.id (fun e => { e with
      left := e.left - 1, seals := if sb = 1 then setRange off data e.seals else e.seals,
      buf := if sb = 0 ∧ e.buf ≠ [] then setRange off data e.buf else e.buf }) s
    match e.panels[off / panelBytes]? with
    | some (some a) => if sb = 0 then ezStore (a + off % panelBytes) data s1 else s1
    | _ => s1

/-- A burst of a passed read's buffer has failed: the transfer completes as failed. -/
def evBufFail (h : Half) (vtag : Nat) (s : State) : State :=
  match evByVtag s h vtag with
  | none => s
  | some e => evEnd h e .failed s

/-- The buffers of a passed read are read: the transfer completes to its owner (R217, R220). -/
def mediaReadDone (h : Half) (vtag : Nat) (s : State) : State :=
  match evByVtag s h vtag with
  | none => s
  | some e => if e.st = .readback ∧ e.left = 0 then evEnd h e .pass s else s

/-! The port leaves ENUM or ACTIVE (R99, R221). -/

/-- Every event on the lights of A[n] is handed back, unit commands end, feeds stop. -/
def schPortDown (n : Nat) (s : State) : State :=
  let h := aHalf n
  let ls := portLights s n
  let s1 := ls.foldl (fun t l => handBackEvents l 1 (fun _ => true) t) s
  let cs := (s1.sched.at h).cmds.filter (fun c => ls.contains c.light)
  let s2 := cs.foldl (fun t c => post (.cmdDone h c 5) t)
    (schMod h (fun x => { x with cmds := x.cmds.filter (fun c => !ls.contains c.light) }) s1)
  schMod h (fun x => { x with
    streams := x.streams.map (fun p => if ls.contains p.2.light then (p.1, { p.2 with offered := false }) else p) }) s2

end Sys2Proof.Machine
end

