-- ==== Sys2Proof/Machine/Palette.lean ====
section
/-!
DEFINITION. The Palette (chapter 04): windows, the checks of an access, and its translation into Atnen parts.
-/
namespace Sys2Proof.Machine

/-- A descriptor field of window `w` of half `h` (R133). -/
def winF (s : State) (h : Half) (w : Nat) (f : Fld) : Nat := rdI s (pgPalette h) f w

/-- The first byte of a window and its size (R133). -/
def winBase (s : State) (h : Half) (w : Nat) : Nat := winF s h w R.PAL_WIN_VIEW_0_BASE * 4096
def winSize (s : State) (h : Half) (w : Nat) : Nat := 2 ^ winF s h w R.PAL_WIN_VIEW_0_SIZE_LOG2

/-- The enabled windows of half `h`. -/
def winsOn (s : State) (h : Half) : List Nat := listedIdx s (pgPalette h) R.PAL_WIN_VIEW_2_EN

/-- The window chosen for an access whose first byte is `a`: the smallest that holds it, then the lowest index
(R135). -/
def winLookup (s : State) (h : Half) (a : Nat) : Option Nat :=
  ((winsOn s h).filter (fun w => decide (winBase s h w ≤ a ∧ a < winBase s h w + winSize s h w))).foldl
    (fun b w =>
      match b with
      | none => some w
      | some x =>
        if winSize s h w < winSize s h x ∨ (winSize s h w = winSize s h x ∧ w < x) then some w else some x) none

/-- Bytes of an access (R135): RLEN + 1, LEN, or the operand's size. -/
def accSize (p : Packet) : Nat :=
  if p.type = tRD then p.rlen + 1 else if p.type = tAMO then 2 ^ p.asize else p.len

/-- The last byte of an access (R135). -/
def accLast (p : Packet) : Nat := p.addr + (accSize p - 1)

/-- A source named in PAL_PRIV_SRC (R136, R158). -/
def privSrc (s : State) (h : Half) (src : Nat) : Bool :=
  (List.range 8).any (fun j => rdB s (pgPalette h) (R.PAL_PRIV_SRC_VALID.at j) &&
    rd s (pgPalette h) (R.PAL_PRIV_SRC.at j) == src)

/-- The halt bit of a window (R158). -/
def winHalted (s : State) (h : Half) (w : Nat) : Bool :=
  (rd s (pgPalette h) (R.PAL_HALT.at (w / 64))).testBit (w % 64)

/-- A halt bit set; WIN_HALTED when it goes from 0 to 1 (R158, R160). -/
def setHalt (h : Half) (w : Nat) (s : State) : State :=
  let f := R.PAL_HALT.at (w / 64)
  raiseIf (!winHalted s h w) (pgPalette h) 5 (wr (pgPalette h) f (rd s (pgPalette h) f ||| 2 ^ (w % 64)) s)

/-- What an access takes from its window (R133, R139). -/
def mkWin (s : State) (h : Half) (w : Nat) : Win :=
  let f := winF s h w
  ⟨w, winBase s h w, f R.PAL_WIN_VIEW_1_PORT, f R.PAL_WIN_VIEW_1_STN, f R.PAL_WIN_VIEW_1_TGT_ADDR,
    f R.PAL_WIN_VIEW_2_SOPWE == 1, f R.PAL_WIN_VIEW_2_ERR_REPORT == 1, f R.PAL_WIN_VIEW_2_LOCK_MODE,
    f R.PAL_WIN_VIEW_2_BURST == 1,
    if f R.PAL_WIN_VIEW_2_ORDER = 1 then 2 ^ f R.PAL_WIN_VIEW_2_ELEM else 0⟩

/-- A fixed-window write covers a partial word, or under DI a partial element (R136, R144). -/
def partialWrite (x : Win) (o n : Nat) : Bool :=
  let e := max 4 x.elem
  decide (n ≠ 0) && (o % e != 0 || n % e != 0 || (x.elem != 0 && (o % x.elem != 0 || n % x.elem != 0)))

/-- The checks of R136 in order: the status of the first that fails, with the window where one was found. -/
def palCheck (s : State) (h : Half) (p : Packet) : Option (Nat × Option Win) :=
  match winLookup s h p.addr with
  | none => some (stNoWindow, none)
  | some w =>
    let x := mkWin s h w
    let f := winF s h w
    if !rdB s (pgPalette h) R.PAL_CTRL_EN || rd s pgKeeper R.KP_PWR_STAT_STATE != 4 || decide (x.base + winSize s h w ≤ accLast p) then some (stNoWindow, none)
    else if x.lockMode = 1 ∧ ¬ privSrc s h p.src then some (stKeyDenied, some x)
    else if f R.PAL_WIN_VIEW_2_CTX_CHECK = 1 ∧
        ¬ (f R.PAL_WIN_VIEW_5_CTX_LO ≤ p.ctx ∧ p.ctx ≤ f R.PAL_WIN_VIEW_5_CTX_HI) then some (stKeyDenied, some x)
    else if f R.PAL_WIN_VIEW_2_KEY_CHECK = 1 ∧ p.key ≠ f R.PAL_WIN_VIEW_3_WIN_KEY ∧
        ¬ (p.type = tRD ∧ p.key = f R.PAL_WIN_VIEW_4_WIN_RKEY) then some (stKeyDenied, some x)
    else
      let closed := f R.PAL_WIN_VIEW_2_WR_EN = 0 || winHalted s h w || stnObject s x.port x.stn
      if p.type = tRD then none
      else if p.type = tAMO then
        if closed || x.lockMode == 2 || x.fixed || p.addr % 2 ^ p.asize != 0 then some (stAtomicRejected, some x)
        else none
      else if closed || (x.fixed && partialWrite x (p.addr - x.base) p.len) then some (stWriteRejected, some x)
      else none

/-! Byte order (R147, R148). -/

/-- The station offset of the Hokuken byte at window offset `o`. -/
def byteMap (elem o : Nat) : Nat := if elem = 0 then o else o - o % elem + elem - 1 - o % elem

/-- The station bytes of a byte run at window offset `o`, with their station offsets. -/
def mapBytes (elem o : Nat) (d : List Byte) : List (Nat × Byte) :=
  (List.range d.length).zipWith (fun i b => (byteMap elem (o + i), b)) d

/-- The byte at an offset in a list of offset and byte pairs, zero where there is none. -/
def pick (m : List (Nat × Byte)) (a : Nat) : Byte := ((m.find? (fun p => p.1 == a)).map (·.2)).getD 0

/-- The station bytes at offsets `a` to `a + n - 1` of whole elements and words. -/
def gather (m : List (Nat × Byte)) (a n : Nat) : List Byte := (List.range n).map (fun i => pick m (a + i))

/-! Translation (R140-R144, R149, R153). -/

/-- Byte enables of `k` bytes from byte `i` of a word: bit 3 enables the first (R111). -/
def beMask (i k : Nat) : Nat := ((List.range k).map (fun j => 2 ^ (3 - (i + j)))).sum

/-- A run of station bytes as WRs: partly covered words alone with their BE, full words in bursts that end at 256-byte
boundaries (R142). -/
def splitWr : Nat → Nat → List Byte → List APart
  | 0, _, _ => []
  | fuel + 1, a, d =>
    if d.isEmpty then []
    else if a % 4 ≠ 0 ∨ d.length < 4 then
      let k := min (4 - a % 4) d.length
      ⟨txWR, a - a % 4, 1, beMask (a % 4) k, zeros (a % 4) ++ d.take k ++ zeros (4 - a % 4 - k), [], false, .idle⟩ ::
        splitWr fuel (a + k) (d.drop k)
    else
      let k := min (d.length / 4 * 4) (256 - a % 256)
      ⟨txWR, a, k / 4, 15, d.take k, [], false, .idle⟩ :: splitWr fuel (a + k) (d.drop k)

/-- Whole words to one address in runs of up to 64 (R141, R144). -/
def runsWr (tgt : Nat) : Nat → List Byte → List APart
  | 0, _ => []
  | fuel + 1, d =>
    if d.isEmpty then []
    else ⟨txDPWR, tgt, (min 256 d.length) / 4, 15, d.take 256, [], false, .idle⟩ :: runsWr tgt fuel (d.drop 256)

/-- The word offsets that hold the station bytes of a read at window offset `o` of `n` bytes, in rising order
(R143). -/
def readWords (elem o n : Nat) : List Nat :=
  let lo := o / 8 * 8
  let need := (List.range n).map (fun i => byteMap elem (o + i) / 4)
  ((List.range (n / 4 + 5)).map (fun i => lo / 4 + i)).filter (fun w => need.contains w)

/-- Rising words as bursts: a burst ends where the next word does not follow, or at a 256-byte boundary of station
address (R142, R143). -/
def burstsOf (tgt : Nat) : List Nat → List (Nat × Nat)
  | [] => []
  | w :: r =>
    let a := tgt + 4 * w
    match burstsOf tgt r with
    | [] => [(a, 1)]
    | (b, k) :: t => if b = a + 4 ∧ b % 256 ≠ 0 then (a, k + 1) :: t else (a, 1) :: (b, k) :: t

/-- The parts of a read (R141, R143, R144). -/
def readParts (x : Win) (o n : Nat) : List APart :=
  let ws := readWords x.elem o n
  if x.fixed then
    (List.range ((ws.length + 63) / 64)).map (fun i =>
      (⟨txDPRD, x.tgt, min 64 (ws.length - 64 * i), 15, [], [], false, .idle⟩ : APart))
  else (burstsOf x.tgt ws).map (fun b => (⟨txRD, b.1, b.2, 15, [], [], false, .idle⟩ : APart))

/-- A partial DI element: the read of the words that hold it, with the bytes to merge (R149). -/
def rmwPart (x : Win) (o : Nat) (d : List Byte) : APart :=
  let e0 := o - o % x.elem
  let w0 := e0 / 4 * 4
  ⟨txRD, x.tgt + w0, max 4 x.elem / 4, 15, [], (mapBytes x.elem o d).map (fun p => (p.1 - w0, p.2)), true, .idle⟩

/-- The parts of a write through an INC window: a partial element at the start, the whole elements, a partial element
at the end (R142, R149). -/
def incWrite (x : Win) (o : Nat) (d : List Byte) : List APart :=
  let n := d.length
  if x.elem = 0 then splitWr (n + 1) (x.tgt + o) d
  else
    let k0 := if o % x.elem = 0 ∧ x.elem ≤ n then 0 else min n (x.elem - o % x.elem)
    let head := if k0 = 0 then [] else [rmwPart x o (d.take k0)]
    let o1 := o + k0
    let k1 := (n - k0) / x.elem * x.elem
    let mid := splitWr (k1 + 1) (x.tgt + o1) (gather (mapBytes x.elem o1 ((d.drop k0).take k1)) o1 k1)
    let tail := if n - k0 - k1 = 0 then [] else [rmwPart x (o1 + k1) (d.drop (k0 + k1))]
    head ++ mid ++ tail

/-- The parts of an atomic: the read of one or two whole words, then the write-back (R153). -/
def amoParts (x : Win) (o n : Nat) : List APart :=
  let w := max x.elem n
  let a := x.tgt + (o - o % w)
  let lock := x.lockMode = 0
  [⟨if lock then txLOCK else txRD, a, w / 4, 15, [], [], false, .idle⟩,
    ⟨if lock then txUNLOCK else txWR, a, w / 4, 15, [], [], false, .idle⟩]

/-- The Atnen parts of an access (R141). -/
def accParts (x : Win) (p : Packet) : List APart :=
  let o := p.addr - x.base
  if p.type = tRD then readParts x o (accSize p)
  else if p.type = tAMO then amoParts x o (accSize p)
  else if p.len = 0 then []
  else if x.fixed then runsWr x.tgt (p.len + 1) (gather (mapBytes x.elem o p.payload) o p.len)
  else incWrite x o p.payload

/-- The window offset of each byte of a read, found among the words read in order (R143, R147, R148). -/
def readBytes (x : Win) (o n : Nat) (words : List Byte) : List Byte :=
  let ws := readWords x.elem o n
  (List.range n).map (fun i =>
    let a := byteMap x.elem (o + i)
    (words[4 * (ws.findIdx (· == a / 4)) + a % 4]?).getD 0)

/-- The operand bytes of an atomic among the words read from its part's address (R153). -/
def amoOld (x : Win) (o n : Nat) (words : List Byte) : List Byte :=
  let w := max x.elem n
  (List.range n).map (fun i => (words[byteMap x.elem (o + i) - (o - o % w)]?).getD 0)

/-- The words of an atomic with the new operand bytes in place (R153). -/
def amoNew (x : Win) (o : Nat) (new words : List Byte) : List Byte :=
  let w := max x.elem new.length
  let m := (mapBytes x.elem o new).map (fun p => (p.1 - (o - o % w), p.2))
  (List.range words.length).map (fun i =>
    if m.any (fun p => p.1 == i) then pick m i else (words[i]?).getD 0)

/-- The operation of an atomic on operands of `n` bytes (R70). -/
def amoOp (aop n old : Nat) (payload : List Byte) : Nat :=
  let a := leNat (payload.take n)
  let b := leNat ((payload.drop n).take n)
  let m := 2 ^ (8 * n)
  match aop with
  | 0 => (old + a) % m
  | 1 => a
  | 2 => if old = a then b else old
  | 3 => old &&& a
  | 4 => old ||| a
  | _ => old ^^^ a

/-- The 8-byte granules that an atomic's operand or element touches (R186). -/
def granules (x : Win) (o n : Nat) : List Nat :=
  let w := max x.elem n
  let a := x.tgt + (o - o % w)
  ((List.range w).map (fun i => (a + i) / 8)).dedup

/-- A failing status's counter and event (R137, R155, R160). -/
def palCount (h : Half) (st : Nat) (s : State) : State :=
  let P := pgPalette h
  if st = stNoWindow then raise P 0 (bump P R.PALETTE_CNT_NO_WINDOW s)
  else if st = stKeyDenied then raise P 1 (bump P R.PALETTE_CNT_KEY_DENIED s)
  else if st = stWriteRejected then raise P 2 (bump P R.PALETTE_CNT_WR_REJECT s)
  else raise P 3 (bump P R.PALETTE_CNT_AMO_REJECT s)

/-- Each partial element counts and raises NARROW_RMW (R150). -/
def countRmw (h : Half) (ps : List APart) (s : State) : State :=
  (ps.filter (·.isRmw)).foldl (fun t _ => raise (pgPalette h) 4 (bump (pgPalette h) R.PALETTE_CNT_RMW t)) s

end Sys2Proof.Machine
end

