-- ==== Sys2Proof/Machine/Crossing.lean ====
section
/-!
DEFINITION. The Crossing Unit (chapter 05): the order of accesses, split reads, failures and their logs, the tracker,
atomics on locked ports and under semaphores.
-/
namespace Sys2Proof.Machine

/-! Failure codes (R172). -/
def cPORT_DOWN : Nat := 0x10
def cNO_STATION : Nat := 0x11
def cADDR_ERR : Nat := 0x12
def cMEDIA_ERR : Nat := 0x13
def cWRITE_PROTECT : Nat := 0x14
def cLOCK_CONFLICT : Nat := 0x15
def cSTATION_FAULT : Nat := 0x16
def cRD_TIMEOUT : Nat := 0x17
def cRSP_LEN : Nat := 0x18
def cLOCK_TMO : Nat := 0x19
def cLOCK_BUDGET : Nat := 0x1A
def cINB_NO_MAP : Nat := 0x1B
def cQUEUE_LOST : Nat := 0x1C

/-- The failure code of an RSTAT other than OK (R112, R172). -/
def rstatCode (r : Nat) : Nat :=
  if r = 1 then cADDR_ERR else if r = 2 then cMEDIA_ERR else if r = 3 then cLOCK_CONFLICT else cSTATION_FAULT

/-- The failure code of a WR_ERR code (R121, R172). -/
def wrErrCode (c : Nat) : Nat :=
  if c = 1 then cADDR_ERR else if c = 2 then cMEDIA_ERR else if c = 3 then cWRITE_PROTECT
  else if c = 4 then cLOCK_CONFLICT else cSTATION_FAULT

def crossMod (h : Half) (f : Cross → Cross) (s : State) : State := { s with cross := s.cross.put h (f (s.cross.at h)) }

def accGet (s : State) (h : Half) (id : Nat) : Option Access := (s.cross.at h).accs.find? (fun a => a.id == id)

/-- Access `id` of half `h` changed. -/
def accMod (h : Half) (id : Nat) (f : Access → Access) (s : State) : State :=
  crossMod h (fun c => { c with accs := c.accs.map (fun a => if a.id = id then f a else a) }) s

/-- Part `i` of an access changed. -/
def partMod (i : Nat) (f : APart → APart) (a : Access) : Access :=
  { a with parts := a.parts.mapIdx (fun j p => if j = i then f p else p) }

/-- A posted access: PW or NPW (R161). -/
def isPosted (a : Access) : Bool := a.pkt.type == tPW || a.pkt.type == tNPW

/-- Two accesses go to one station. -/
def sameTgt (a b : Access) : Bool := a.win.port == b.win.port && a.win.stn == b.win.stn

/-- The access has been wholly sent: nothing waits and no read-modify-write is between its read and its write. -/
def wholly (a : Access) : Bool := a.parts.all (fun p => p.st != .idle && !(p.isRmw && p.st == .sent))

/-- Slots freed: their credit is returned on the fabric port (R55). -/
def slotsBack (sl : Nat × Nat × Nat) (s : State) : State :=
  if sl.2.2 = 0 then s
  else fiuMod sl.1 (fun p => { p with
    returned := tput 0 p.returned sl.2.1 ((tget 0 p.returned sl.2.1 + sl.2.2) % 2048) }) s

/-! Contexts' failed writes (R175). -/

/-- One failed write counted on an open context, and its mark set (R175, R306). -/
def ctxFail (ctx : Nat) (s : State) : State :=
  if rdI s pgContexts R.CTX_VIEW_0_STATE ctx = 1 then
    wrI pgContexts R.CTX_VIEW_0_POISON ctx 1
      (wrI pgContexts R.CTX_VIEW_7_FAILED ctx (rdI s pgContexts R.CTX_VIEW_7_FAILED ctx + 1) s)
  else s

/-! Error logs (R178, R179). -/

/-- The four words of a log entry with running number `num` (R179). -/
def logWords (src ctx : Nat) (win : Option Nat) (port stn kind code len addr time num tag ty : Nat) : List Nat :=
  [src % 2 ^ 20 * 2 ^ 44 + ctx % 2 ^ 20 * 2 ^ 24 + win.getD 0 % 2 ^ 10 * 2 ^ 14 + port % 64 * 2 ^ 8 + stn % 16 * 16 +
      kind,
    code % 256 * 2 ^ 56 + len % 2 ^ 13 * 2 ^ 43 + bit win.isSome * 2 ^ 42 + addr % 2 ^ 36,
    time,
    num % 2 ^ 32 * 2 ^ 32 + tag % 2 ^ 16 * 2 ^ 16 + ty % 16 * 2 ^ 12]

/-- One entry at the HEAD of the posted-write error log; the oldest is overwritten when it is full (R178). -/
def pwLogPut (h : Half) (mk : Nat → List Nat) (s : State) : State :=
  let P := pgCrossing h
  let n := rd s P R.CX_PWLOG_HEAD
  let s1 := wr P R.CX_PWLOG_HEAD (n + 1) (crossMod h (fun c => { c with pwLog := tput [] c.pwLog (n % 4096) (mk n) }) s)
  if (n + 1 + 2 ^ 32 - rd s P R.CX_PWLOG_TAIL) % 2 ^ 32 > 4096 then
    raise P 6 (bump P R.CROSSING_CNT_PWLOG_OVF (wr P R.CX_PWLOG_TAIL (rd s P R.CX_PWLOG_TAIL + 1) s1))
  else s1

/-- One entry at the HEAD of the far-error log (R178). -/
def farLogPut (h : Half) (mk : Nat → List Nat) (s : State) : State :=
  let P := pgCrossing h
  let n := rd s P R.CX_FARLOG_HEAD
  let s1 :=
    wr P R.CX_FARLOG_HEAD (n + 1) (crossMod h (fun c => { c with farLog := tput [] c.farLog (n % 1024) (mk n) }) s)
  if (n + 1 + 2 ^ 32 - rd s P R.CX_FARLOG_TAIL) % 2 ^ 32 > 1024 then
    raise P 7 (bump P R.CROSSING_CNT_FARLOG_OVF (wr P R.CX_FARLOG_TAIL (rd s P R.CX_FARLOG_TAIL + 1) s1))
  else s1

/-- The station address of an access's first byte (R140, R148). -/
def firstAddr (a : Access) : Nat := if a.win.fixed then a.win.tgt else a.win.tgt + byteMap a.win.elem a.o0

/-- The log entry of an access. -/
def accEntry (s : State) (h : Half) (p : Packet) (w : Option Win) (kind code len addr n : Nat) : List Nat :=
  logWords p.src p.ctx (w.map (·.idx)) ((w.map (·.port)).getD 0) ((w.map (·.stn)).getD 0) kind code len addr
    (nowH s h) n (if kind = 0 then 0 else p.tag) p.type

/-- What a failed posted write does (R175): log, PW_FAIL, the context's count and mark, and the window's halt bit where
SOPWE is 1 and the Palette did not reject it. KIND is 0 PW, or 3 AMO for a write-back (R185). -/
def pwFail (h : Half) (p : Packet) (w : Option Win) (kind code addr : Nat) (pal : Bool) (s : State) : State :=
  let P := pgCrossing h
  let s1 := pwLogPut h (accEntry s h p w kind code (accSize p) addr) s
  let s2 := ctxFail p.ctx (raise P 0 (bump P R.CROSSING_CNT_PW_FAIL s1))
  match w with
  | some x => if x.sopwe && !pal then setHalt h x.idx s2 else s2
  | none => s2

/-- The RSP to an access (R165, R168). -/
def accAnswer (h : Half) (p : Packet) (st : Nat) (data : List Byte) (s : State) : State := sendPkt h (mkRSP p st data) s

/-- The access is gone; its record, blocks and tracker entry are free. -/
def accDrop (h : Half) (id : Nat) (s : State) : State :=
  crossMod h (fun c => { c with accs := c.accs.filter (fun a => a.id != id) }) s

/-- All ones, with the status that ERR_REPORT gives (R170, R183). -/
def allOnes (h : Half) (a : Access) (s : State) : State :=
  accAnswer h a.pkt (if a.win.errRep then stFarErr else stComplete) (List.replicate a.size 0xFF) s

/-! Failures of accesses the unit holds. -/

/-- The first failure of a posted access (R171, R175); later ones are absorbed. `addr` is the failed word's. -/
def postedFail (h : Half) (a : Access) (code addr : Nat) (s : State) : State :=
  if a.fail.isSome then s
  else
    let s1 := accMod h a.id (fun a => { a with fail := some code, trk := .failed, answered := true }) s
    if a.pkt.type = tPW then pwFail h a.pkt (some a.win) 0 code addr false s1
    else
      let P := pgCrossing h
      accAnswer h a.pkt stFarErr []
        (raise P 2 (bump P R.CROSSING_CNT_NPW_FAIL
          (farLogPut h (accEntry s h a.pkt (some a.win) 2 code a.size addr) s1)))

/-- A read is answered once no part of it waits or is outstanding (R168-R170). -/
def readTry (h : Half) (id : Nat) (s : State) : State :=
  match accGet s h id with
  | none => s
  | some a =>
    if a.pkt.type = tRD ∧ a.parts.all (fun p => p.st != .idle && p.st != .sent) then
      let s1 := accDrop h id s
      if a.fail.isSome then allOnes h a s1
      else accAnswer h a.pkt stComplete (readBytes a.win a.o0 a.size ((a.parts.map (·.data)).flatten)) s1
    else s

/-- A part of a read fails: parts not issued stay so, the failure is logged once (R169, R170). -/
def readFail (h : Half) (a : Access) (code : Nat) (s : State) : State :=
  let skip := fun (p : APart) => if p.st = .idle then { p with st := PartSt.skipped } else p
  let s1 := accMod h a.id (fun a => { a with parts := a.parts.map skip, fail := some (a.fail.getD code) }) s
  if a.fail.isSome then s1
  else
    let P := pgCrossing h
    raise P 1 (bump P R.CROSSING_CNT_FAR_RD
      (farLogPut h (accEntry s h a.pkt (some a.win) 1 code a.size (firstAddr a)) s1))

/-- An atomic fails before it is answered: all ones, logged, AMO_FAIL; with LOCK_BROKEN where its lock was broken
(R183, R184, R186). -/
def amoFail (h : Half) (a : Access) (code : Nat) (broken : Bool) (s : State) : State :=
  let P := pgCrossing h
  let s1 := farLogPut h (accEntry s h a.pkt (some a.win) 3 code a.size (firstAddr a)) (accDrop h a.id s)
  let s2 := raise P 3 (bump P R.CROSSING_CNT_AMO_FAIL s1)
  let s3 := if broken then raise P 4 (bump P R.CROSSING_CNT_LOCK_BROKEN s2) else s2
  allOnes h a s3

/-! Joining the queues (R161, R166, R173). -/

/-- The target is out of reach: the port is not ACTIVE, or no usable station holds the number (R145, R172). -/
def tgtDead (s : State) (port stn : Nat) : Option Nat :=
  if apuState s port ≠ asACTIVE then some cPORT_DOWN
  else if !stnUsable s port stn then some cNO_STATION
  else none

/-- An access whose target is out of reach fails: what it has not sent stays so, and an entry none of whose words was
sent is freed (R169, R171, R175). -/
def accDead (h : Half) (code : Nat) (s : State) (a : Access) : State :=
  if isPosted a then
    let s1 := postedFail h a code (firstAddr a) s
    let sent := a.parts.any (fun p => p.st != .idle)
    if sent then
      accMod h a.id (fun a => { a with
        parts := a.parts.map (fun p => if p.st = .idle then { p with st := .skipped } else p),
        holdFrom := some s.clk }) s1
    else accDrop h a.id s1
  else if a.pkt.type = tRD then readTry h a.id (readFail h a code s)
  else if a.parts.all (fun p => p.st == .idle) then amoFail h a code false s
  else s

/-- Tracker entries in use (R173). -/
def trkUsed (c : Cross) : Nat := (c.accs.filter (fun a => a.trk != .none)).length

/-- Read records in use (R166). -/
def recUsed (c : Cross) : Nat := (c.accs.filter (fun a => !isPosted a && !a.answered)).length

/-- Reassembly blocks in use (R167). -/
def blkUsed (c : Cross) : Nat :=
  ((c.accs.filter (fun a => a.pkt.type == tRD)).map (fun a =>
    (a.parts.filter (fun p => p.st == .sent || p.st == .done || p.st == .failed)).length)).sum

/-- Room for an access to join: a tracker entry for a posted one, a record for the others (R166, R173). -/
def accRoom (c : Cross) (a : Access) : Bool :=
  if isPosted a then decide (trkUsed c < 65536) else decide (recUsed c < 4096)

/-- An access joins its station's queue; its slots' credit goes back (R55, R161). -/
def accJoin (h : Half) (a : Access) (s : State) : State :=
  let a1 := { a with trk := if isPosted a then TrkSt.opened else .none, slots := (0, 0, 0) }
  let s1 := slotsBack a.slots (crossMod h (fun c => { c with accs := c.accs ++ [a1] }) s)
  if a.parts.isEmpty then s1
  else
    match tgtDead s a.win.port a.win.stn with
    | some code => accDead h code s1 a1
    | none => s1

/-- Posted accesses of LEN 0 that have come to their place: an NPW is answered COMPLETE (R141, R165). -/
def sweepEmpty (h : Half) : Nat → State → State
  | 0, s => s
  | k + 1, s =>
    let accs := (s.cross.at h).accs
    match accs.find? (fun a => a.parts.isEmpty &&
        !(accs.any (fun b => decide (b.id < a.id) && isPosted b && sameTgt a b && !wholly b))) with
    | none => s
    | some a =>
      let s1 := accDrop h a.id s
      sweepEmpty h k (if a.pkt.type = tNPW then accAnswer h a.pkt stComplete [] s1 else s1)

/-- Waiting accesses join while there is room, in arrival order of their kind (R166, R173). -/
def accAdmit (h : Half) : Nat → State → State
  | 0, s => s
  | k + 1, s =>
    let c := s.cross.at h
    let heads := (c.wait.find? isPosted).toList ++ (c.wait.find? (fun a => !isPosted a)).toList
    match heads.find? (accRoom c) with
    | none => s
    | some a =>
      let s1 := crossMod h (fun c => { c with wait := c.wait.filter (fun b => b.id != a.id) }) s
      let s2 := if (s1.cross.at h).wait.any isPosted then s1 else crossMod h (fun c => { c with trkFull := false }) s1
      accAdmit h k (accJoin h a s2)

/-- What follows any change of the unit's accesses. -/
def crossSettle (h : Half) (s : State) : State :=
  let s1 := accAdmit h ((s.cross.at h).wait.length) s
  sweepEmpty h ((s1.cross.at h).accs.length) s1

/-- A bridge access reaches the Palette of half `h` (R136, R137, R161, R173). -/
def crossArrive (h : Half) (p : Packet) (slots : Nat × Nat × Nat) (s : State) : State :=
  match palCheck s h p with
  | some (st, w) =>
    let s1 := slotsBack slots (palCount h st s)
    if p.type = tPW then pwFail h p w 0 st 0 true s1 else accAnswer h p st [] s1
  | none =>
    match winLookup s h p.addr with
    | none => s
    | some wi =>
      let x := mkWin s h wi
      let ps := accParts x p
      let c := s.cross.at h
      let a : Access :=
        { id := c.next, pkt := p, win := x, o0 := p.addr - x.base, size := accSize p, parts := ps, slots := slots,
          time := nowH s h }
      let s1 := countRmw h ps (bump (pgPalette h) R.PALETTE_CNT_ACCESS
        (crossMod h (fun c => { c with next := c.next + 1 }) s))
      let P := pgCrossing h
      let waits := c.wait.any (fun b => isPosted b == isPosted a) || !accRoom c a
      if waits then
        let s2 := crossMod h (fun c => { c with wait := c.wait ++ [a] }) s1
        if isPosted a then
          raiseIf (!c.trkFull) P 9 (bump P R.CROSSING_CNT_TRK_FULL (crossMod h (fun c => { c with trkFull := true }) s2))
        else s2
      else crossSettle h (accJoin h a s1)

/-! Transaction numbers (R113). -/

/-- The number that the next read to a station takes, where the limits leave one (R113). -/
def tnNext (s : State) (n stn : Nat) : Option Nat :=
  let p := apuGet s n
  if 128 ≤ p.reads.length ∨ 8 ≤ (p.reads.filter (fun r => r.stn == stn)).length then none
  else
    let last := tget 63 p.lastTn stn
    ((List.range 64).map (fun i => (last + 1 + i) % 64)).find? (fun t =>
      !(p.reads.any (fun r => r.stn == stn && r.tn == t)) && !(p.quar.contains (stn, t)))

/-! Lock admission (R182). -/

/-- LOCK_BUDGET of A[n], at least 1,000 (R197). -/
def lockBudget (s : State) (n : Nat) : Nat := max 1000 (rd s (pgCrossing (aHalf n)) (R.CX_LOCK_BUDGET.at (n % 32)))

/-- A scheduled transfer or a tape feed waits for A[n] (R182). -/
def schedWaiting (s : State) (n : Nat) : Bool :=
  let h := aHalf n
  !(apuGet s n).media.isEmpty || !(apuGet s n).tape.isEmpty ||
    (s.sched.at h).events.any (fun e => e.st == .fired && lightPort s e.light == n)

/-- A scheduled transfer is due within `w` ns on A[n] (R182, R224). -/
def schedDue (s : State) (n w : Nat) : Bool :=
  let h := aHalf n
  schedWaiting s n ||
    (s.sched.at h).events.any (fun e => e.st == .fixed && lightPort s e.light == n &&
      decide (fireAt s e ≤ (nowH s h + w : Nat))) ||
    (s.sched.at h).streams.any (fun p => lightPort s p.2.light == n && feedDue s h p.2 w)

/-! Semaphores (R186, R187). -/

/-- Semaphore entries of the half in use: port, station, granule. -/
def semsHeld (c : Cross) : List (Nat × Nat × Nat) :=
  (c.accs.map (fun a => a.sems.map (fun g => (a.win.port, a.win.stn, g)))).flatten

def isSem (a : Access) : Bool := a.pkt.type == tAMO && a.win.lockMode == 1

/-- The entries that an atomic needs. -/
def semNeeds (a : Access) : List (Nat × Nat × Nat) :=
  (granules a.win a.o0 a.size).map (fun g => (a.win.port, a.win.stn, g))

/-- The head of a non-posted queue: nothing non-posted before it is unissued, nothing posted before it is unsent. -/
def npHead (c : Cross) (a : Access) : Bool :=
  !(c.accs.any (fun b => decide (b.id < a.id) && sameTgt a b && !wholly b))

/-- An atomic that could take its entries is held back by an earlier head: one short of free entries holds back every
later one, one that needs a held granule those that need the same (R186). -/
def semBehind (c : Cross) (a : Access) : Bool :=
  let held := semsHeld c
  c.accs.any (fun b => decide (b.id < a.id) && isSem b && b.sems.isEmpty && b.parts.all (fun p => p.st == .idle) &&
    npHead c b &&
    (decide (64 < held.length + (semNeeds b).length) ||
      ((semNeeds b).any (fun k => held.contains k) && (semNeeds b).any (fun k => (semNeeds a).contains k))))

/-- The atomic may take its semaphore entries now (R186). -/
def semFree (c : Cross) (a : Access) : Bool :=
  let held := semsHeld c
  !((semNeeds a).any (fun k => held.contains k)) && decide (held.length + (semNeeds a).length ≤ 64) && !semBehind c a

/-- The next write or read-modify-write part touches a held granule (R187). -/
def semBlocks (c : Cross) (a : Access) (p : APart) : Bool :=
  (semsHeld c).any (fun k => k.1 == a.win.port && k.2.1 == a.win.stn &&
    decide (p.addr < 8 * k.2.2 + 8 ∧ 8 * k.2.2 < p.addr + 4 * p.words))

/-! Heads (R162-R164). -/

/-- The part that goes next: the first not issued, none while a read-modify-write or an atomic's read is outstanding. -/
def nextPart (a : Access) : Option (Nat × APart) :=
  if a.parts.any (fun p => p.st == .sent && (p.isRmw || a.pkt.type == tAMO)) then none
  else
    let i := a.parts.findIdx (fun p => p.st == .idle)
    (a.parts[i]?).map (fun p => (i, p))

/-- A non-posted head is stalled on a resource (R163). -/
def npStalled (s : State) (h : Half) (a : Access) : Bool :=
  let c := s.cross.at h
  match nextPart a with
  | none => false
  | some (i, p) =>
    if a.pkt.type = tRD then (tnNext s a.win.port a.win.stn).isNone || decide (8192 ≤ blkUsed c)
    else if i = 0 then
      (tnNext s a.win.port a.win.stn).isNone || decide (65536 ≤ trkUsed c) ||
        (if isSem a then !semFree c a else schedDue s a.win.port (lockBudget s a.win.port))
    else decide (p.ty = txUNLOCK)

/-- The access is a head that may go (R162-R164, R187). -/
def headReady (s : State) (h : Half) (a : Access) : Bool :=
  let c := s.cross.at h
  let before := c.accs.filter (fun b => decide (b.id < a.id) && sameTgt a b && !wholly b)
  (tgtDead s a.win.port a.win.stn).isNone &&
  !(rd s (pgApu a.win.port) R.APU_STAT_STN_OFF).testBit a.win.stn &&
  (match nextPart a with
    | none => false
    | some (_, p) =>
      if isPosted a then
        !(before.any isPosted) &&
          (match before.find? (fun b => !isPosted b) with
            | some b => npStalled s h b
            | none => true) &&
          !(semBlocks c a p) && (!p.isRmw || (tnNext s a.win.port a.win.stn).isSome)
      else before.isEmpty && !npStalled s h a)

/-- The bridge class of A[n]: its oldest ready head and the part that goes (R163). -/
def bridgeHead (s : State) (n : Nat) : Option (Access × Nat × APart) :=
  let h := aHalf n
  match (s.cross.at h).accs.find? (fun a => a.win.port == n && headReady s h a) with
  | none => none
  | some a => (nextPart a).map (fun p => (a, p.1, p.2))

/-- The Atnen transaction of a part. -/
def partTxn (h : Half) (a : Access) (i : Nat) (p : APart) : Txn :=
  ⟨p.ty, a.win.stn, p.words, p.be, p.addr, p.data, .acc h a.id i⟩

/-- The words of an atomic to write back once its read has been answered, and its old value (R70, R153). -/
def amoWrite (a : Access) (words : List Byte) : List Byte × List Byte :=
  let old := amoOld a.win a.o0 a.size words
  (old, amoNew a.win a.o0 (leBytes a.size (amoOp a.pkt.aop a.size (leNat old) a.pkt.payload)) words)

/-- A part of an access has been granted and sent. A write whose access is then wholly sent starts WR_HOLD; a
semaphore atomic's write releases its entries and answers it (R165, R173, R186). -/
def partSent (h : Half) (a : Access) (i : Nat) (s : State) : State :=
  let s1 := accMod h a.id (fun a =>
    let b := partMod i (fun p => { p with st := .sent }) a
    { b with
      trk := if a.pkt.type = tAMO ∧ i = 0 then .opened else b.trk,
      sems := if isSem a ∧ i = 0 then granules a.win a.o0 a.size else b.sems,
      holdFrom := if wholly b ∧ a.pkt.type ≠ tRD ∧ ¬ (a.pkt.type = tAMO ∧ i = 0) then some s.clk else b.holdFrom }) s
  if isSem a && i == 1 then
    accAnswer h a.pkt stComplete a.oldVal (accMod h a.id (fun a => { a with sems := [], answered := true }) s1)
  else s1

/-! Answers to reads. -/

/-- The read of part `i` has been answered with these words (R149, R153, R168, R180). -/
def partRead (h : Half) (id i : Nat) (words : List Byte) (s : State) : State :=
  match accGet s h id with
  | none => s
  | some a =>
    if a.pkt.type = tRD then readTry h id (accMod h id (partMod i (fun p => { p with st := .done, data := words })) s)
    else if a.pkt.type = tAMO then
      let (old, new) := amoWrite a words
      accMod h id (fun a =>
        let b := partMod 1 (fun p => { p with data := new }) (partMod 0 (fun p => { p with st := .done }) a)
        { b with oldVal := old }) s
    else
      accMod h id (partMod i (fun p => { p with
        ty := txWR, isRmw := false, rmw := [], st := .idle,
        data := (List.range words.length).map (fun k =>
          if p.rmw.any (fun q => q.1 == k) then pick p.rmw k else (words[k]?).getD 0) })) s

/-- The read of part `i` has failed with a code (R152, R169, R184, R186). -/
def partReadFail (h : Half) (id i code : Nat) (s : State) : State :=
  match accGet s h id with
  | none => s
  | some a =>
    if a.pkt.type = tRD then
      readTry h id (readFail h { a with parts := (partMod i (fun p => { p with st := .failed }) a).parts } code
        (accMod h id (partMod i (fun p => { p with st := .failed })) s))
    else if a.pkt.type = tAMO then amoFail h a code false s
    else
      let s1 := accMod h id (fun a =>
        let b := partMod i (fun p => { p with st := .skipped }) a
        { b with holdFrom := if wholly b then some s.clk else b.holdFrom }) s
      postedFail h a code (firstAddr a) s1

/-! WR_HOLD, WR_ERR (R165, R173, R174). -/

/-- WR_HOLD has elapsed since the last word of access `id` was sent: a delivered entry closes, a failed one is freed,
an NPW that did not fail is answered COMPLETE (R165, R173). -/
def holdExpiry (h : Half) (id : Nat) (s : State) : State :=
  match accGet s h id with
  | none => s
  | some a =>
    if a.holdFrom.isSome then
      let s1 := accDrop h id s
      crossSettle h (if a.pkt.type = tNPW ∧ ¬ a.answered then accAnswer h a.pkt stComplete [] s1 else s1)
    else s

/-- The access holds a sent write to that port and station over that address. -/
def coversWr (n stn addr : Nat) (a : Access) : Bool :=
  a.win.port == n && a.win.stn == stn &&
    a.parts.any (fun p => p.st == .sent && (p.ty == txWR || p.ty == txDPWR || p.ty == txUNLOCK) &&
      (if p.ty = txDPWR then decide (p.addr ≤ addr ∧ addr < p.addr + 4)
       else decide (p.addr ≤ addr ∧ addr < p.addr + 4 * p.words)))

/-- A STATUS WR_ERR from station `stn` of A[n] (R174, R175, R185); `dp` says that it belongs to a data-port write
(R512) where no entry matches. -/
def wrErr (n stn code addr : Nat) (dp : Bool) (s : State) : State :=
  let h := aHalf n
  let P := pgCrossing h
  let s1 := bump P R.CROSSING_CNT_WR_ERR s
  let accs := (s.cross.at h).accs
  let hit := fun (t : TrkSt) => accs.find? (fun a => a.trk == t && coversWr n stn addr a)
  match hit .opened with
  | some a =>
    if a.pkt.type = tAMO then
      pwFail h a.pkt (some a.win) 3 (wrErrCode code) addr false (accMod h a.id (fun a => { a with trk := .failed }) s1)
    else postedFail h a (wrErrCode code) addr s1
  | none =>
    match hit .failed with
    | some _ => s1
    | none =>
      if dp then s1
      else raise P 5 (bump P R.CROSSING_CNT_WRERR_ORPHAN
        (pwLogPut h (fun k => logWords (nodeId s h) 0 none n stn 5 (wrErrCode code) 0 addr (nowH s h) k 0 0) s1))

/-! A port leaves ACTIVE (R99, R171, R173, R175, R186). -/

/-- What leaving ACTIVE does to one access on the port: what was not wholly sent fails, what was sent counts as
delivered. `all` says that outstanding reads have failed too (the port left ENUM or ACTIVE for good). -/
def accLeft (h : Half) (s : State) (a : Access) : State :=
  if isPosted a then
    if wholly a then
      if a.pkt.type = tNPW ∧ ¬ a.answered then accMod h a.id (fun a => { a with trk := .none }) s
      else accDrop h a.id s
    else accDrop h a.id (postedFail h a cPORT_DOWN (firstAddr a) s)
  else if a.pkt.type = tRD then
    if a.parts.any (fun p => p.st == .idle) then readTry h a.id (readFail h a cPORT_DOWN s) else s
  else if a.answered then accDrop h a.id s
  else if a.parts.all (fun p => p.st == .idle) then amoFail h a cPORT_DOWN false s
  else if isSem a ∧ (a.parts[0]?).any (fun p => p.st == .done) then amoFail h a cPORT_DOWN false s
  else s

/-- A[n] has left ACTIVE: every bridge access to it is judged, in order. -/
def crossLeft (n : Nat) (s : State) : State :=
  let h := aHalf n
  crossSettle h (((s.cross.at h).accs.filter (fun a => a.win.port == n)).foldl (accLeft h) s)

end Sys2Proof.Machine
end

