-- ==== Sys2Proof/Machine/Lantern.lean ====
section
/-!
DEFINITION. Lantern (chapter 14): strikes and routes, MSI-X vectors and their moderation, host sleep, coalesced fabric
messages, station INT words.
-/
namespace Sys2Proof.Machine

def lanMod (f : Lantern → Lantern) (s : State) : State := { s with lan := f s.lan }

/-- The route of a source (R478). -/
def route (s : State) (src : Nat) (f : Fld) : Nat := rdI s pgLantern f src

/-- A packet has not left a fabric port yet (R468): it waits for a port or stands in a transmit queue. -/
def pktUnsent (s : State) (id : Nat) : Bool :=
  s.egr.west.waiting.any (·.id == id) || s.egr.east.waiting.any (·.id == id) ||
    s.fiu.any (fun p => p.2.txq.any (fun q => q.2.any (·.id == id)))

/-! Vectors (R464-R467). -/
def vsIDLE : Nat := 0
def vsCOLLECTING : Nat := 1
def vsDUE : Nat := 2

def vecState (s : State) (v : Nat) : Nat := rdI s pgLantern R.LAN_VEC_STAT_STATE v

/-- The vectors not IDLE, in rising order. -/
def vecsBusy (s : State) : List Nat := listedIdx s pgLantern R.LAN_VEC_STAT_STATE

/-- MOD_CNT, 0 acting as 1 (R479). -/
def modCnt (s : State) (v : Nat) : Nat := max 1 (rdI s pgLantern R.LAN_VEC_CFG_MOD_CNT v)

/-- The vector is held by its mask, the function mask, MSI-X Enable or Bus Master Enable (R465). -/
def vecMasked (s : State) (v : Nat) : Bool :=
  s.lan.vecMask.testBit v || s.lan.funcMask || !s.lan.msixEn || !s.lan.busMaster

/-- The host sleeps, or the PCIe link is down (R466, R484). -/
def hostAway (s : State) : Bool := s.lan.asleep || !rdB s pgHost R.HP_LINK_UP

/-- The first vector held in a sleeping period: PM_PME where PME_En is 1 and the link is up, and WAKE_TMO runs (R466,
R484). -/
def hostHold (s : State) : State :=
  if hostAway s && !s.lan.held && (vecsBusy s).any (fun v => vecState s v == vsDUE) then
    let s1 := lanMod (fun l => { l with held := true }) s
    if s.lan.asleep && s.lan.pmeEn && !s.lan.pmeStatus && rdB s pgHost R.HP_LINK_UP then
      emit .pme (bump pgLantern R.LANTERN_CNT_PME
        (wr pgHost R.HP_LINK_L1 0 (lanMod (fun l => { l with pmeStatus := true }) s1)))
    else s1
  else s

/-- A vector becomes DUE (R464); R466 holds it where the host sleeps. -/
def vecDue (v : Nat) (s : State) : State := hostHold (wrI pgLantern R.LAN_VEC_STAT_STATE v vsDUE s)

/-- A COLLECTING vector whose COUNT has reached MOD_CNT becomes DUE (R464). -/
def vecCheck (v : Nat) (s : State) : State :=
  if vecState s v = vsCOLLECTING ∧ modCnt s v ≤ rdI s pgLantern R.LAN_VEC_STAT_COUNT v then vecDue v s else s

/-- A strike routed to a vector (R464, R465). -/
def vecStrike (v : Nat) (s : State) : State :=
  if !s.lan.msixEn || !s.lan.busMaster then raise pgLantern 4 (bump pgLantern R.LANTERN_CNT_MSIX_DROP s)
  else
    let s1 := wrI pgLantern R.LAN_VEC_STAT_COUNT v (min 65535 (rdI s pgLantern R.LAN_VEC_STAT_COUNT v + 1)) s
    vecCheck v (if vecState s v = vsIDLE then wrI pgLantern R.LAN_VEC_STAT_STATE v vsCOLLECTING s1 else s1)

/-- A DUE vector sends its message when nothing holds it (R464-R466, R474). -/
def vecSend (v : Nat) (s : State) : State :=
  if vecState s v = vsDUE ∧ ¬ vecMasked s v ∧ ¬ hostAway s ∧ rdB s pgLantern R.LAN_CTRL_EN then
    emit (.msix v) (bump pgLantern R.LANTERN_CNT_MSIX
      (wrI pgLantern R.LAN_VEC_STAT_SENT v (rdI s pgLantern R.LAN_VEC_STAT_SENT v + 1)
        (wrI pgLantern R.LAN_VEC_STAT_COUNT v 0 (wrI pgLantern R.LAN_VEC_STAT_STATE v vsIDLE s))))
  else s

/-- Every DUE vector sends, in ascending order, where nothing holds it. -/
def vecSendAll (s : State) : State := (List.range 64).foldl (fun t v => vecSend v t) s

/-- In DRAIN every COLLECTING vector becomes DUE at once (R467). -/
def vecDrain (s : State) : State :=
  ((vecsBusy s).filter (fun v => vecState s v == vsCOLLECTING)).foldl (fun t v => vecDue v t) s

/-- No vector is COLLECTING or DUE, those that wait only on their masks apart (R467). -/
def vecsDelivered (s : State) : Bool :=
  (vecsBusy s).all (fun v => vecState s v == vsDUE && vecMasked s v && !hostAway s)

/-- The pin WAKE_OUT_N, low while Lantern or a Keeper rule asserts it (R466, R571). -/
def wakeOut (s : State) : State :=
  emit (.pin "WAKE_OUT_N" (!(rdB s pgKeeper R.KP_OUT_BY_LANTERN || rdB s pgKeeper R.KP_OUT_BY_RULE))) s

/-- WAKE_TMO has passed since the first vector was held (R466). -/
def wakeTmo (s : State) : State :=
  if hostAway s && s.lan.held && !s.lan.wakeDone then
    wakeOut (raise pgLantern 0 (bump pgLantern R.LANTERN_CNT_WAKE_OUT
      (wr pgKeeper R.KP_OUT_BY_LANTERN 1 (wr pgLantern R.LAN_STAT_WAKE_OUT 1
        (lanMod (fun l => { l with wakeDone := true }) s)))))
  else s

/-- Resumption: held messages go in ascending order, then WAKE_OUT_N is released (R466, R484). -/
def hostResume (s : State) : State :=
  if !s.lan.asleep && rdB s pgHost R.HP_LINK_UP && rd s pgHost R.HP_LINK_DSTATE == 0 && !s.lan.pmeStatus then
    let s1 := vecSendAll s
    let s2 := lanMod (fun l => { l with held := false, wakeDone := false }) s1
    if rdB s pgLantern R.LAN_STAT_WAKE_OUT then
      wakeOut (wr pgKeeper R.KP_OUT_BY_LANTERN 0 (wr pgLantern R.LAN_STAT_WAKE_OUT 0 s2))
    else s2
  else s

/-! Fabric messages (R468-R472). -/

def fabKey (h : Half) (src : Nat) : Nat := h.num * 256 + src
def fabGet (s : State) (h : Half) (src : Nat) : FabSrc := tget {} s.lan.fab (fabKey h src)
def fabMod (h : Half) (src : Nat) (f : FabSrc → FabSrc) (s : State) : State :=
  lanMod (fun l => { l with fab := tput {} l.fab (fabKey h src) (f (fabGet s h src)) }) s

/-- The first page that strikes a source, for EVT_PEND in a message (R460, R469). -/
def pageOfSource (src : Nat) : Option Nat :=
  if 208 ≤ src ∧ src < 240 then none
  else if 176 ≤ src ∧ src < 184 then some (pgEasel (if src < 180 then .west else .east))
  else (List.range 256).find? (fun P => pageSource P == some src)

/-- A SOURCE message (R469). -/
def sourceMsg (s : State) (src : Nat) (x : FabSrc) : Packet :=
  mkEVT (route s src R.LAN_ROUTE_FAB_DST) 1 (src % 256 * 2 ^ 56 + min 65535 x.count * 2 ^ 40)
    (leBytes 8 x.first ++ leBytes 8 x.last ++
      leBytes 8 (((pageOfSource src).map (fun P => rd s P R.EVT_PEND)).getD 0) ++ leBytes 8 (x.seq % 2 ^ 32))

/-- The inbound map entry of a station position (R189, R196). -/
def inbIdx (n stn : Nat) : Nat := 16 * (n % 32) + stn
def inbF (s : State) (n stn : Nat) (f : Fld) : Nat := rdI s (pgCrossing (aHalf n)) f (inbIdx n stn)

/-- STN, UNIT and VECTOR of an INT word (R117). -/
def intStn (w : Nat) : Nat := bits w 27 24

/-- A STATION_INT message (R469, R471). -/
def intMsg (s : State) (n w time : Nat) : Packet :=
  mkEVT (inbF s n (intStn w) R.CX_INB_VIEW_DST) 2
    (n % 64 * 2 ^ 58 + intStn w * 2 ^ 54 + bits w 23 17 * 2 ^ 47 + bits w 16 9 * 2 ^ 39) (leBytes 8 time)

/-- Most messages in the event message queue (R472). -/
def evtRoom : Nat := 4096

/-- A message taken into the queue: it goes to its half's egress (R468, R472). -/
def evtAccept (m : EvtMsg) (s : State) : State :=
  let id := s.nextPid
  match m with
  | .source h src =>
    let x := fabGet s h src
    let s1 := lanMod (fun l => { l with evtq := l.evtq ++ [(id, m, x.count)] }) s
    fabMod h src (fun x => { x with count := 0, waiting := true, seq := (x.seq + 1) % 2 ^ 32 })
      (sendPkt h (sourceMsg s src x) s1)
  | .int n w t =>
    sendPkt (aHalf n) (intMsg s n w t) (lanMod (fun l => { l with evtq := l.evtq ++ [(id, m, 0)] }) s)

/-- A message offered to the queue; at a full queue it is a held push, with EVTQ_FULL once per full period (R472). -/
def evtPush (m : EvtMsg) (s : State) : State :=
  if s.lan.evtHeld.isEmpty && decide (s.lan.evtq.length < evtRoom) then evtAccept m s
  else raiseIf s.lan.evtHeld.isEmpty pgLantern 1 (lanMod (fun l => { l with evtHeld := l.evtHeld ++ [m] }) s)

/-- Held pushes come in as places fall free, in order. -/
def evtDrain : Nat → State → State
  | 0, s => s
  | k + 1, s =>
    match s.lan.evtHeld with
    | [] => s
    | m :: r =>
      if s.lan.evtq.length < evtRoom then evtDrain k (evtAccept m (lanMod (fun l => { l with evtHeld := r }) s)) else s

/-- A strike routed to the fabric (R468). -/
def fabStrike (st : Strike) (s : State) : State :=
  let h := st.half
  let x := fabGet s h st.src
  let s1 := fabMod h st.src (fun x => { x with
    count := x.count + 1, first := if x.count = 0 then st.time else x.first, last := st.time }) s
  if x.waiting || x.gap then s1 else evtPush (.source h st.src) (fabMod h st.src (fun x => { x with waiting := true }) s1)

/-- The gap of a route ends; with strikes counted one more message is queued (R468). -/
def fabGapEnd (h : Half) (src : Nat) (s : State) : State :=
  let x := fabGet s h src
  if !x.gap then s
  else
    let s1 := fabMod h src (fun x => { x with gap := false }) s
    if x.count = 0 then s1 else evtPush (.source h src) (fabMod h src (fun x => { x with waiting := true }) s1)

/-- Message `id` of the queue has left its fabric port (R468, R472). -/
def evtSent (id : Nat) (s : State) : State :=
  match s.lan.evtq.find? (fun m => m.1 == id) with
  | none => s
  | some (_, m, n) =>
    if pktUnsent s id then s
    else
      let s1 := lanMod (fun l => { l with evtq := l.evtq.filter (fun m => m.1 != id) }) s
      let s2 :=
        match m with
        | .source h src =>
          let s2 := bumpBy pgLantern R.LANTERN_CNT_FAB_COALESCED (n - 1) (bump pgLantern R.LANTERN_CNT_FAB_EVT
            (fabMod h src (fun x => { x with waiting := false, gap := true }) s1))
          if route s src R.LAN_ROUTE_FAB_GAP_US = 0 then fabGapEnd h src s2 else s2
        | .int _ _ _ => bump pgLantern R.LANTERN_CNT_INT s1
      evtDrain s2.lan.evtHeld.length s2

/-- A released INT (R471): a STATION_INT message where the station's inbound entry is enabled, else discarded. -/
def intRelease (n w time : Nat) (s : State) : State :=
  let s1 := bump (pgCrossing (aHalf n)) R.CROSSING_CNT_INT s
  if inbF s n (intStn w) R.CX_INB_VIEW_EN = 1 then evtPush (.int n w time) s1
  else raise pgLantern 2 (bump pgLantern R.LANTERN_CNT_INT_DROP s1)

/-- A station's INT waits at the full event queue: the port's receive buffer is not read (R472). -/
def intHeld (s : State) (n : Nat) : Bool :=
  s.lan.evtHeld.any (fun m => match m with | .int k _ _ => k == n | _ => false)

/-! Strikes (R459, R462, R463). -/

/-- A strike at Lantern: counted and summarised, and with LAN_CTRL.EN sent to every target of its route (R462,
R463). -/
def lanStrike (st : Strike) (s : State) : State :=
  let f := R.LAN_SUMMARY.at (st.src / 64)
  let s1 := bump pgLantern R.LANTERN_CNT_STRIKE
    (wrI pgLantern R.LAN_SRC_STAT_STRIKES st.src (route s st.src R.LAN_SRC_STAT_STRIKES + 1)
      (wr pgLantern f (rd s pgLantern f ||| 2 ^ (st.src % 64)) s))
  if !rdB s pgLantern R.LAN_CTRL_EN then s1
  else
    let s2 := if route s st.src R.LAN_ROUTE_MSIX_EN = 1 then vecStrike (route s st.src R.LAN_ROUTE_VECTOR) s1 else s1
    let s3 := if route s st.src R.LAN_ROUTE_FAB_EN = 1 then fabStrike st s2 else s2
    if route s st.src R.LAN_ROUTE_KEEP_EN = 1 then post (.wakeReq 5) s3 else s3

/-- The strike on its way whose state can be seen (R459): the oldest whose packets are all acknowledged. -/
def strikeNext (s : State) : Option Strike := s.strikes.find? (fun t => t.needs.all (fun id => !pktOpen s id))

/-- One strike reaches Lantern (R459). -/
def strikeOne (s : State) : State :=
  match strikeNext s with
  | none => s
  | some t => lanStrike t { s with strikes := s.strikes.erase t }

/-! Register effects of the LANTERN page. -/

/-- FAB_EN of a route has become 0: what it had counted and its held pushes are dropped (R468, R474). -/
def fabOff (src : Nat) (s : State) : State :=
  let held := fun h => s.lan.evtHeld.contains (.source h src)
  [Half.west, .east].foldl (fun t h => fabMod h src (fun x => { x with
      count := 0, waiting := x.waiting && !held h })
    (lanMod (fun l => { l with evtHeld := l.evtHeld.filter (fun m => m != .source h src) }) t)) s

/-- LAN_ROUTE of a source written whole (R468, R474, R478). -/
def routeWrite (src w : Nat) (s : State) : State :=
  let put := fun (f : Fld) t => wrI pgLantern f src (bits w (f.lo + f.w - 1) f.lo) t
  let s1 := put R.LAN_ROUTE_MSIX_EN (put R.LAN_ROUTE_FAB_EN (put R.LAN_ROUTE_KEEP_EN (put R.LAN_ROUTE_VECTOR
    (put R.LAN_ROUTE_FAB_DST (put R.LAN_ROUTE_FAB_GAP_US s)))))
  let was := route s src R.LAN_ROUTE_FAB_EN = 1
  if route s1 src R.LAN_ROUTE_FAB_EN = 1 then
    if ¬ was ∧ ¬ nodeReg s (route s1 src R.LAN_ROUTE_FAB_DST) then
      raise pgLantern 3 (wrI pgLantern R.LAN_ROUTE_FAB_EN src 0 s1)
    else s1
  else if was then fabOff src s1
  else s1

/-- LAN_VEC_CFG of a vector written: the new values apply at once (R474, R479). -/
def vecCfgWrite (v w : Nat) (s : State) : State :=
  vecCheck v (wrI pgLantern R.LAN_VEC_CFG_MOD_CNT v (bits w 39 32) (wrI pgLantern R.LAN_VEC_CFG_MOD_US v (bits w 31 16) s))

/-- LAN_CTRL.EN written (R462, R474): at 1, DUE vectors send. -/
def lanEnWrite (en : Bool) (s : State) : State :=
  let s1 := wr pgLantern R.LAN_CTRL_EN (bit en) s
  if en then vecSendAll s1 else s1

/-- What holds messages back, set or cleared (R465). -/
def msixSet (x : MsixHold) (on : Bool) (s : State) : State :=
  match x with
  | .vector v =>
    let b := 2 ^ (v % 64)
    lanMod (fun l => { l with vecMask := if on then l.vecMask ||| b else l.vecMask &&& (2 ^ 64 - 1 - b) }) s
  | .function => lanMod (fun l => { l with funcMask := on }) s
  | .enable => lanMod (fun l => { l with msixEn := !on }) s
  | .busMaster => lanMod (fun l => { l with busMaster := !on }) s

/-- The counters of the LANTERN page. -/
def lanCounters : List Fld :=
  [R.LANTERN_CNT_STRIKE, R.LANTERN_CNT_MSIX, R.LANTERN_CNT_MSIX_DROP, R.LANTERN_CNT_PME, R.LANTERN_CNT_WAKE_OUT,
    R.LANTERN_CNT_FAB_EVT, R.LANTERN_CNT_FAB_COALESCED, R.LANTERN_CNT_INT, R.LANTERN_CNT_INT_DROP]

/-- What LAN_CNT_CLR does (R475). -/
def lanCntClr (s : State) : State :=
  (listedIdx s pgLantern R.LAN_SRC_STAT_STRIKES).foldl (fun t i => wrI pgLantern R.LAN_SRC_STAT_STRIKES i 0 t)
    (clearAll pgLantern lanCounters s)

end Sys2Proof.Machine
end

