-- ==== Sys2Proof/Machine/Apu.lean ====
section
/-!
DEFINITION. The Atnen port unit (chapter 03): port states, training, enumeration and the binding of lights, steering,
flow control, transactions and their answers, side-band words, and what a port's grant sends.
-/
namespace Sys2Proof.Machine

/-! Words (R94, R95, R100, R103, R109, R119). -/

/-- CODE of a control word (R94). -/
def wCode (w : Nat) : Nat := bits w 31 28

/-- A FLOW word (R100). -/
def flowWord (off scope : Bool) (stn : Nat) : Nat := 2 ^ 28 + bit off * 2 ^ 27 + bit scope * 2 ^ 26 + stn % 16 * 2 ^ 22

/-- A LANE word (R103). -/
def laneWord (op k : Nat) : Nat := 2 * 2 ^ 28 + op % 8 * 2 ^ 25 + k % 16 * 2 ^ 21

/-- A TXN word and its address word (R109). -/
def txnWords (t : Txn) (tn : Nat) : List (Bool × Nat) :=
  [(true, 3 * 2 ^ 28 + t.ty % 8 * 2 ^ 25 + t.stn % 16 * 2 ^ 21 + tn % 64 * 2 ^ 15 + (t.words - 1) % 64 * 2 ^ 9 +
      t.be % 16 * 2 ^ 5 + bits t.addr 35 32 * 2),
    (false, t.addr % 2 ^ 32)]

/-- A transaction's payload words (R111); reads carry none. -/
def txnPayload (t : Txn) : List (Bool × Nat) :=
  if t.ty = txRD ∨ t.ty = txLOCK ∨ t.ty = txDPRD then [] else (wordsOf t.words t.data).map (fun w => (false, w))

/-- The transaction expects an RSP (R110). -/
def isRead (t : Txn) : Bool := t.ty == txRD || t.ty == txLOCK || t.ty == txDPRD

/-! Steering (R103, R104). -/
def ssNONE : Nat := 0
def ssMIRROR : Nat := 1
def ssSWAPPED : Nat := 2
def ssRESTORE : Nat := 3
def ssFIXED : Nat := 4

def rxSteer (s : State) (n : Nat) : Nat := rd s (pgApu n) R.APU_STEER_RX_STATE
def rxLane (s : State) (n : Nat) : Nat := rd s (pgApu n) R.APU_STEER_RX_LANE

/-- The steering state into the device set, its step not answered yet. -/
def setRxSteer (n st : Nat) (s : State) : State :=
  apuMod n (fun p => { p with steerAns := false }) (wr (pgApu n) R.APU_STEER_RX_STATE st s)

/-- Steering of logical lane `k` into the device begins: MIRROR is sent (R103). -/
def steerStart (n k : Nat) (s : State) : State :=
  if rxSteer s n = ssNONE ∧ apuState s n = asACTIVE then
    emitAtn n [(true, laneWord 1 k)] (wr (pgApu n) R.APU_STEER_RX_LANE k (setRxSteer n ssMIRROR s))
  else s

/-- Steering goes on with step 5: RESTORE is sent (R103). -/
def steerRestore (n : Nat) (s : State) : State :=
  emitAtn n [(true, laneWord 4 (rxLane s n))] (setRxSteer n ssRESTORE s)

/-- An abort of steering into the device: before the switch of step 3 it ends with RELEASE, from there on it goes on
from step 5, in step 7 it ends with FIX (R104). -/
def steerAbort (n : Nat) (s : State) : State :=
  let st := rxSteer s n
  let k := rxLane s n
  let ans := (apuGet s n).steerAns
  if st = ssMIRROR ∨ st = ssSWAPPED ∨ st = ssRESTORE then
    let s1 := raise (pgApu n) 8 (bump (pgApu n) R.APU_CNT_STEER_FAIL s)
    if st = ssMIRROR then post (.steer n 0) (emitAtn n [(true, laneWord 6 k)] (setRxSteer n ssNONE s1))
    else if st = ssRESTORE ∧ ans then
      post (.steer n 3) (raise (pgApu n) 9 (emitAtn n [(true, laneWord 7 k)] (setRxSteer n ssFIXED s1)))
    else post (.steer n 0) (steerRestore n s1)
  else s

/-- 256 consecutive equal words on both lanes: the source of lane k is switched (R103). -/
def steerMatch (n : Nat) (s : State) : State :=
  let st := rxSteer s n
  let k := rxLane s n
  if (apuGet s n).steerAns then
    if st = ssMIRROR then post (.steer n 1) (emitAtn n [(true, laneWord 3 k)] (setRxSteer n ssSWAPPED s))
    else if st = ssRESTORE then
      post (.steer n 2) (bump (pgApu n) R.APU_CNT_STEER (emitAtn n [(true, laneWord 6 k)] (setRxSteer n ssNONE s)))
    else s
  else s

/-- A LANE word from the station: an answer for the direction into the device, or a step of the other direction, which
the device answers (R103, R104). -/
def laneReceive (n w : Nat) (s : State) : State :=
  let op := bits w 27 25
  let k := bits w 24 21
  let P := pgApu n
  let tx := rd s P R.APU_STEER_TX_STATE
  if (op = 2 ∧ rxSteer s n = ssMIRROR) ∨ (op = 5 ∧ rxSteer s n = ssRESTORE) then
    apuMod n (fun p => { p with steerAns := true }) s
  else if op = 1 ∧ tx = ssNONE then
    emitAtn n [(true, laneWord 2 k)] (wr P R.APU_STEER_TX_LANE k (wr P R.APU_STEER_TX_STATE ssMIRROR s))
  else if op = 3 ∧ tx = ssMIRROR then wr P R.APU_STEER_TX_STATE ssSWAPPED s
  else if op = 4 ∧ (tx = ssSWAPPED ∨ tx = ssRESTORE) then
    emitAtn n [(true, laneWord 5 k)] (wr P R.APU_STEER_TX_STATE ssRESTORE s)
  else if op = 6 ∧ (tx = ssMIRROR ∨ tx = ssRESTORE) then wr P R.APU_STEER_TX_STATE ssNONE s
  else if op = 7 ∧ tx = ssRESTORE then raise P 9 (wr P R.APU_STEER_TX_STATE ssFIXED s)
  else s

/-! Reads and their owners (R99, R113). -/

/-- A station becomes unusable until the next ENUM (R107). -/
def stnBad (n stn : Nat) (s : State) : State := stnMod n stn (fun x => { x with kind := 255, pend := 0 }) s

/-- A read has failed with a code; its owner acts (R107, R169, R184, R217). -/
def readFailed (n : Nat) (r : RdOut) (code : Nat) (s : State) : State :=
  match r.own with
  | .acc h id i => crossSettle h (partReadFail h id i code s)
  | .hdr stn => stnBad n stn s
  | .desc stn _ => stnBad n stn s
  | .evBuf h v _ _ => evBufFail h v s
  | own => post (.rdFail own n code) s

/-- A read no longer outstanding. -/
def dropRead (n : Nat) (r : RdOut) (s : State) : State :=
  apuMod n (fun p => { p with reads := p.reads.filter (fun x => !(x.stn == r.stn && x.tn == r.tn)) }) s

/-- A transaction number in quarantine (R113). -/
def quarantine (n : Nat) (r : RdOut) (s : State) : State :=
  apuMod n (fun p => { p with quar := p.quar ++ [(r.stn, r.tn)] }) s

/-- The LOCK_RD of the port's open lock. -/
def isLockRd (s : State) (n : Nat) (r : RdOut) : Bool :=
  (apuGet s n).lock.any (fun l => l.stn == r.stn && l.tn == r.tn && l.unlock.isNone)

/-- The transaction that breaks a sequence: it closes the lock and writes nothing (R115). -/
def breakTxn (l : LockSt) (addr : Nat) : Txn := ⟨txUNLOCK, l.stn, 1, 0, addr, zeros 4, .unlock l.half l.acc⟩

/-- An open lock whose RSP has not arrived is broken (R181-R183). -/
def lockBreak (n code : Nat) (s : State) : State :=
  match (apuGet s n).lock with
  | none => s
  | some l =>
    if l.unlock.isSome then s
    else
      match accGet s l.half l.acc with
      | none => s
      | some a =>
        let addr := ((a.parts[0]?).map (·.addr)).getD 0
        let r : RdOut := ⟨l.stn, l.tn, 0, .unlock l.half l.acc⟩
        let s1 := quarantine n r (dropRead n r s)
        let s2 := apuMod n (fun p => { p with lock := some { l with unlock := some (breakTxn l addr) } }) s1
        crossSettle l.half (amoFail l.half a code true s2)

/-! Leaving ENUM or ACTIVE (R99). -/

/-- An open locked sequence ends with the port: its atomic is answered all ones (R99). -/
def lockEnd (n : Nat) (s : State) : State :=
  match (apuGet s n).lock with
  | none => s
  | some l =>
    let s1 := apuMod n (fun p => { p with lock := none }) s
    match accGet s1 l.half l.acc with
    | some a => if a.answered then s1 else amoFail l.half a cPORT_DOWN false s1
    | none => s1

/-- What the APU does when the port leaves ENUM or ACTIVE for DOWN, HELD or DISABLED (R99). -/
def portCleanup (n : Nat) (s : State) : State :=
  let p := apuGet s n
  let lockRd := fun (r : RdOut) => isLockRd s n r
  let s1 := schPortDown n s
  let s2 := apuFifos n (apuMod n (fun p => { p with reads := [], tape := [], media := [], mgmt := [] }) s1)
  let s3 := lockEnd n s2
  let s4 := (p.reads.filter (fun r => !lockRd r)).foldl (fun t r => readFailed n r cPORT_DOWN t) s3
  let s5 := p.mgmt.foldl (fun t x => post (.lost x.own n cPORT_DOWN) t) s4
  let s6 := crossLeft n s5
  let s7 := (portLights s6 n).foldl unreach s6
  let P := pgApu n
  post (.portLeft n) (wr P R.APU_STAT_STN_OFF 0 (wr P R.APU_STAT_RX_HOP_OFF 0 (wr P R.APU_STAT_TX_HOP_OFF 0 s7)))

/-- The port state set, with R99 where it leaves ENUM or ACTIVE for a state below. -/
def apuSetState (n st : Nat) (s : State) : State :=
  let was := apuState s n
  let s1 := wr (pgApu n) R.APU_STAT_STATE st s
  if (was = asENUM ∨ was = asACTIVE) ∧ st < asENUM then portCleanup n s1 else s1

/-- Entry into DOWN (R97, R125, R130); no cause where it stays unchanged. -/
def apuDown (n : Nat) (cause : Option Nat) (s : State) : State :=
  let P := pgApu n
  let s1 := match cause with
    | some c => wr P R.APU_STAT_CAUSE c s
    | none => s
  raise P 1 (bump P R.APU_CNT_DOWN (apuSetState n asDOWN s1))

/-- A Keeper rule or HOLD holds the port (R97). -/
def apuHeldNow (s : State) (n : Nat) : Bool :=
  rdB s (pgApu n) R.APU_CTRL_HOLD || (rd s pgKeeper R.KP_HOLD_PORTS).testBit n

/-- HOLD or the Keeper's hold has changed (R97). -/
def apuHoldCheck (n : Nat) (s : State) : State :=
  let st := apuState s n
  if apuHeldNow s n then
    if st = asDISABLED ∨ st = asHELD then s
    else apuSetState n asHELD (wr (pgApu n) R.APU_STAT_CAUSE 9 s)
  else if st = asHELD then apuDown n none s
  else s

/-- EN written (R97). -/
def apuEnWrite (n : Nat) (en : Bool) (s : State) : State :=
  let s1 := wr (pgApu n) R.APU_CTRL_EN (bit en) s
  if en then if apuState s n = asDISABLED then apuHoldCheck n (apuDown n none s1) else s1
  else if apuState s n = asDISABLED then s1
  else apuSetState n asDISABLED (wr (pgApu n) R.APU_STAT_CAUSE 8 s1)

/-- Entry into TRAIN: lane locks and steering start afresh (R98, R104). -/
def apuTrain (n : Nat) (s : State) : State :=
  let P := pgApu n
  let s1 := apuMod n (fun p => { p with trn := [], readyTx := 0, readyRx := 0, badLaneRx := 15, steerAns := false }) s
  wr P R.APU_STAT_STATE asTRAIN (wr P R.APU_STEER_RX_STATE 0 (wr P R.APU_STEER_RX_LANE 0
    (wr P R.APU_STEER_TX_STATE 0 (wr P R.APU_STEER_TX_LANE 0 s1))))

/-- Entry into ENUM: the chain is numbered afresh (R105, R113, R207). -/
def apuEnum (n : Nat) (s : State) : State :=
  let P := pgApu n
  let s1 := if apuState s n = asACTIVE then crossLeft n (wr P R.APU_STAT_STATE asENUM s) else wr P R.APU_STAT_STATE asENUM s
  let s2 := apuMod n (fun p => { p with
    prevSerials := if p.stations.isEmpty then p.prevSerials
                   else (p.stations.filter (fun x => x.2.seen)).map (fun x => x.2.serial),
    stations := [], enumEnd := false, lastTn := [] }) (portReacquire n s1)
  emitAtn n [(true, 0xA * 2 ^ 28)] (wr P R.APU_STAT_STN_COUNT 0 (wr P R.APU_STAT_STN_OFF 0 s2))

/-! Training (R98). -/

/-- Lanes that have found 64 good TRN words in a row (R98). -/
def lockedLanes (p : ApuPort) : List Nat := (p.trn.filter (fun x => decide (64 ≤ x.2.1))).map (·.1)

/-- A TRN word on physical lane `lane`; `good` is its parity (R98). -/
def trnWord (n lane : Nat) (good c : Bool) (w : Nat) (s : State) : State :=
  if apuState s n ≠ asTRAIN ∨ 9 ≤ lane then s
  else
    let p := apuGet s n
    let (run, last) := tget (0, 0) p.trn lane
    let cnt := bits w 15 0
    let ok := good && c && wCode w == 14
    let run' := if ok then (if run ≠ 0 ∧ cnt = (last + 1) % 65536 then run + 1 else 1) else 0
    let p1 : ApuPort := { p with trn := tput (0, 0) p.trn lane (run', cnt) }
    let locked := lockedLanes p1
    let ref := locked.head? == some lane
    let tx := if decide (8 ≤ locked.length) && ref then p1.readyTx + 1 else p1.readyTx
    let rx := if ok && ref then (if w.testBit 23 then p1.readyRx + 1 else 0) else p1.readyRx
    let p2 : ApuPort := { p1 with readyTx := tx, readyRx := rx, badLaneRx := if ok then bits w 19 16 else p1.badLaneRx }
    let s1 := apuMod n (fun _ => p2) s
    if ok && w.testBit 22 && decide (8 ≤ locked.length ∧ 64 ≤ tx ∧ 64 ≤ rx) then
      let P := pgApu n
      let bad := (List.range 8).filter (fun k => !locked.contains k)
      let s2 := match bad with
        | k :: _ => raise P 9 (wr P R.APU_STEER_RX_LANE k (wr P R.APU_STEER_RX_STATE ssFIXED s1))
        | [] => s1
      let s3 := if p2.badLaneRx < 8 then
          raise P 9 (wr P R.APU_STEER_TX_LANE p2.badLaneRx (wr P R.APU_STEER_TX_STATE ssFIXED s2))
        else s2
      apuEnum n (post (.trained n) s3)
    else s1

/-- Word lock or deskew not reached in time: too few usable lanes where some have locked (R97). -/
def lockTimeout (n : Nat) (s : State) : State :=
  if apuState s n = asTRAIN then
    let k := (lockedLanes (apuGet s n)).length
    apuDown n (some (if 0 < k ∧ k < 8 then 2 else 3)) s
  else s

/-! Enumeration (R105-R108). -/

/-- ENUM_END has arrived: headers are read next, 6 words each (R105, R106). -/
def enumEnd (n w : Nat) (s : State) : State :=
  let P := pgApu n
  if apuState s n = asENUM ∧ ¬ (apuGet s n).enumEnd then
    let c := min 16 (bits w 4 0)
    let ovr := w.testBit 5
    let s1 := apuMod n (fun p => { p with
      enumEnd := true, stations := (List.range c).map (fun i => (i, { pend := 1 })) }) s
    let s2 := raiseIf ovr P 3 (wr P R.APU_STAT_ENUM_OVER (bit ovr) (wr P R.APU_STAT_STN_COUNT c s1))
    pushTxns n .mgmt ((List.range c).map (fun i => ⟨txRD, i, 6, 15, 0, [], .hdr i⟩)) s2
  else s

/-- Word `i` of an answer. -/
def wordAt (d : List Byte) (i : Nat) : Nat := beNat ((d.drop (4 * i)).take 4)

/-- A station's header (R106, R107). -/
def hdrDone (n stn : Nat) (d : List Byte) (s : State) : State :=
  let kw := wordAt d 3
  let kind := bits kw 31 24
  let units := bits kw 23 16
  let serial := wordAt d 1 * 2 ^ 32 + wordAt d 2
  let ok := decide (1 ≤ kind ∧ kind ≤ 3 ∧ units ≤ 96 ∧ bits kw 15 0 = 1 ∧ wordAt d 5 ≤ 50)
  let s1 := stnMod n stn (fun x => { x with
    seen := true, serial := serial, kind := if ok then kind else 255, units := if ok then units else 0,
    pend := if ok then units else 0 }) s
  if ok then
    pushTxns n .mgmt ((List.range units).map (fun u => ⟨txRD, stn, 7, 15, 0x1000 + 64 * u, [], .desc stn u⟩)) s1
  else s1

/-- A unit's descriptor (R107). -/
def descDone (n stn u : Nat) (d : List Byte) (s : State) : State :=
  let k := bits (wordAt d 0) 31 24
  let x : UnitDesc :=
    { kind := k, depth := bits (wordAt d 0) 23 16, period := wordAt d 1, extent := wordAt d 2, geometry := wordAt d 3,
      slotBytes := wordAt d 4, leadNs := wordAt d 5, spinDw := wordAt d 6 }
  if (stnGet s n stn).kind = 255 then s
  else if k = 0 ∨ ((k = 1 ∨ k = 2) ∧ 1 ≤ x.depth ∧ x.depth ≤ 64 ∧ (k = 1 ∨ x.slotBytes = 0)) then
    stnMod n stn (fun y => { y with descs := tput {} y.descs u x, pend := y.pend - 1 }) s
  else stnBad n stn s

/-- The lowest free light of a half (R23). -/
def freeLight (s : State) (h : Half) : Option Nat :=
  (List.range 8192).map (fun i => 8192 * h.num + i) |>.find? (fun l => !(lgt s l).bound)

/-- Which light of the half is bound to a serial and unit index (R108). -/
def boundLight (s : State) (h : Half) (serial u : Nat) : Option Nat :=
  (s.lights.find? (fun p => p.2.bound && decide (lHalf p.1 = h) && p.2.serial == serial &&
    lV s p.1 R.LL_VIEW_0_UNIT == u)).map (·.1)

/-- What a descriptor gives a light's view (R210). -/
def descView (l n stn u : Nat) (d : UnitDesc) (s : State) : State :=
  lPut l R.LL_VIEW_0_PORT n (lPut l R.LL_VIEW_0_STN stn (lPut l R.LL_VIEW_0_UNIT u
    (lPut l R.LL_VIEW_0_KIND d.kind (lPut l R.LL_VIEW_0_CMD_DEPTH d.depth (lPut l R.LL_VIEW_3_EXTENT d.extent
    (lPut l R.LL_VIEW_3_SLOTS (if d.kind = 1 then d.geometry else 0) s))))))

/-- Light `l` bound to unit `u` of station `stn` for the first time (R108, R210, R222). -/
def bindLight (l n stn u : Nat) (d : UnitDesc) (s : State) : State :=
  let x : Light := { bound := true, serial := (stnGet s n stn).serial, desc := d, reach := true, present := true }
  let zero := [R.LL_VIEW_3_TACH_N, R.LL_VIEW_4_ON_TIME_RUN, R.LL_VIEW_4_MISS_RUN, R.LL_VIEW_5_FIRED,
    R.LL_VIEW_5_MISSES, R.LL_VIEW_0_HEALTH]
  let s1 := zero.foldl (fun t f => lPut l f 0 t) (lgtMod l (fun _ => x) s)
  let s2 := setLead l d.leadNs (descView l n stn u d s1)
  post (.lightBound l) (lPut l R.LL_VIEW_0_STATE lsIDLE s2)

/-- A light that the half's reset left UNASSIGNED with its binding kept is bound again (R108, R207, R384). -/
def wakeBound (l : Nat) (s : State) : State :=
  if lightState s l = lsUNASSIGNED ∧ (lgt s l).bound = true then
    setLead l (lgt s l).desc.leadNs (lPut l R.LL_VIEW_0_STATE lsIDLE s)
  else s

/-- One unit of a usable station: its light comes back, or it takes the lowest free one (R108). -/
def bindUnit (n stn u : Nat) (s : State) : State :=
  let st := stnGet s n stn
  let d := tget {} st.descs u
  match boundLight s (aHalf n) st.serial u with
  | some l =>
    let s1 := lPut l R.LL_VIEW_0_PORT n (lPut l R.LL_VIEW_0_STN stn
      (wakeBound l (if d.kind = 0 then s else lgtMod l (fun x => { x with desc := d }) s)))
    if d.kind = 0 then enterFault l (lgtMod l (fun x => { x with present := false, reach := true }) s1)
    else descView l n stn u d (lgtMod l (fun x => { x with present := true, reach := true, desc := d }) s1)
  | none =>
    if d.kind = 0 then s
    else
      match freeLight s (aHalf n) with
      | some l => bindLight l n stn u d s
      | none => s

/-- A light bound before the half's reset goes out of reach when its station is found unusable or absent (R108). -/
def goneLight (s : State) (l : Nat) : State := unreach (wakeBound l s) l

/-- A station's lights go out of reach (R108). -/
def stnGone (h : Half) (serial : Nat) (s : State) : State :=
  ((s.lights.filter (fun p => p.2.bound && decide (lHalf p.1 = h) && p.2.serial == serial)).map (·.1)).foldl goneLight s

/-- One numbered station at the end of an enumeration: its lights, STATION_NEW (R108). The truth value says new. -/
def bindStation (n stn : Nat) (s : State) : State × Bool :=
  let h := aHalf n
  let st := stnGet s n stn
  if st.kind = 255 then (if st.seen then stnGone h st.serial s else s, false)
  else
    let isNew := !((tget [] s.known h.num).contains st.serial)
    let s1 := if isNew then
        raise (pgApu n) 4 { s with known := tput [] s.known h.num (tget [] s.known h.num ++ [st.serial]) }
      else s
    ((List.range st.units).foldl (fun t u => bindUnit n stn u t) s1, isNew)

/-- The lights that a station holds on its half, by serial. -/
def serialLights (s : State) (h : Half) (serial : Nat) : List Nat :=
  (s.lights.filter (fun p => p.2.bound && decide (lHalf p.1 = h) && p.2.serial == serial)).map (·.1)

/-- A station word of the enumeration result (R108). -/
def stationWord (s : State) (n stn : Nat) (isNew : Bool) : Nat :=
  let st := stnGet s n stn
  let ls := if st.kind = 255 then [] else serialLights s (aHalf n) st.serial
  stn * 2 ^ 52 + st.units * 2 ^ 45 + min 127 ls.length * 2 ^ 38 + (ls.head?).getD 0 * 2 ^ 24 +
    bit (stnObject s n stn) * 2 ^ 23 + st.kind * 2 ^ 15 + bit isNew * 2 ^ 14

/-- The stations of the half's result: bound in station order, with their words. -/
def bindAll (n : Nat) : List Nat → State → State × List Nat
  | [], s => (s, [])
  | stn :: r, s =>
    let (s1, isNew) := bindStation n stn s
    let w := stationWord s1 n stn isNew
    let (s2, ws) := bindAll n r s1
    (s2, w :: ws)

/-- Header and descriptor reads have ended: lights are bound, the result is pushed and the port is ACTIVE (R105, R108,
R130). -/
def enumDone (n : Nat) (s : State) : State :=
  let p := apuGet s n
  let P := pgApu n
  let h := aHalf n
  if apuState s n = asENUM ∧ p.enumEnd ∧ p.stations.all (fun x => x.2.pend == 0) then
    let (s1, ws) := bindAll n (p.stations.map (·.1)) s
    let cur := ((p.stations.filter (fun x => x.2.seen)).map (fun x => x.2.serial))
    let lost := p.prevSerials.filter (fun x => !cur.contains x)
    let s2 := lost.foldl (fun t x => raise P 5 (stnGone h x t)) s1
    let port := n % 64 * 2 ^ 50 + rd s P R.APU_STAT_STN_COUNT * 2 ^ 45 + rd s P R.APU_STAT_ENUM_OVER * 2 ^ 44
    let s3 := raise P 2 (pushResult (resOf h) 1 true (port :: ws) s2)
    let s4 := raise P 0 (wr P R.APU_STAT_STN_OFF 0 (wr P R.APU_STAT_STATE asACTIVE s3))
    let strs := (s4.sched.at h).streams.filter (fun x => x.2.open_ && lightPort s4 x.2.light == n &&
      (x.2.blocks ++ x.2.lapped).any (·.sent))
    post (.portUp n) (strs.foldl (fun t x => tapeStall h x.1 t) s4)
  else s

/-! Inbound writes and INT words (R116, R190, R191). -/

/-- The PW of inbound bytes at station address `a`, and its place among the station's (R190, R191). -/
def inbPw (n stn a : Nat) (d : List Byte) (s : State) : State :=
  let h := aHalf n
  let dst := inbF s n stn R.CX_INB_VIEW_DST
  let addr := inbF s n stn R.CX_INB_VIEW_BASE * 2 ^ 36 + a
  let s1 := apuMod n (fun p => { p with inbPids := p.inbPids.filter (fun x => pktOpen s x.2) ++ [(stn, s.nextPid)] }) s
  sendPkt h (mkPW true dst addr 0 (rd s (pgCrossing h) R.CX_INB_KEY) d)
    (bump (pgCrossing h) R.CROSSING_CNT_INB_PW s1)

/-- Runs of adjacent enabled bytes of a word: first byte and length (R190). -/
def beRuns (be : Nat) : List (Nat × Nat) :=
  let on := fun i => be.testBit (3 - i)
  (List.range 4).filterMap (fun i =>
    if on i && (i == 0 || !on (i - 1)) then
      some (i, ((List.range (4 - i)).map (i + ·)).takeWhile (fun j => on j) |>.length)
    else none)

/-- A WR from station `stn`: forwarded as PW packets, or discarded with INB_DROP (R190). -/
def inbWrite (n stn be a : Nat) (d : List Byte) (s : State) : State :=
  let h := aHalf n
  let P := pgCrossing h
  if inbF s n stn R.CX_INB_VIEW_EN = 1 then
    if d.length = 4 then (beRuns be).foldl (fun t r => inbPw n stn (a + r.1) ((d.drop r.1).take r.2) t) s
    else inbPw n stn a d s
  else
    raise P 8 (bump P R.CROSSING_CNT_INB_DROP
      (farLogPut h (fun k => logWords (nodeId s h) 0 none n stn 4 cINB_NO_MAP d.length a (nowH s h) k 0 0) s))

/-- A TXN word from a station with its address and payload: only WR is served (R116). -/
def rxTxn (n w a : Nat) (d : List Byte) (s : State) : State :=
  let P := pgApu n
  if bits w 27 25 = txWR then
    inbWrite n (bits w 24 21) (bits w 8 5) (bits w 4 1 * 2 ^ 32 + a) d (bump P R.APU_CNT_TXN_RX s)
  else raise P 10 (bump P R.APU_CNT_PROTO s)

/-- An INT word waits behind its station's earlier writes (R117, R191). -/
def rxInt (n w : Nat) (s : State) : State :=
  let stn := intStn w
  apuMod n (fun p => { p with
    ints := p.ints ++ [⟨w, stn, nowH s (aHalf n), (p.inbPids.filter (fun x => x.1 == stn)).map (·.2)⟩] }) s

/-- The first INT of A[n] whose station's earlier writes have all been acknowledged goes to Lantern (R191, R471). -/
def intGo (n : Nat) (s : State) : State :=
  match (apuGet s n).ints.find? (fun i => i.needs.all (fun id => !pktOpen s id)) with
  | none => s
  | some i => intRelease n i.word i.time (apuMod n (fun p => { p with ints := p.ints.erase i }) s)

/-! Answers (R112, R113). -/

/-- The RSP of the open lock's LOCK_RD: OK leads to the UNLOCK_WR, any other ends the sequence (R180, R184). -/
def lockRsp (n : Nat) (l : LockSt) (fail : Option Nat) (d : List Byte) (s : State) : State :=
  match accGet s l.half l.acc with
  | none => apuMod n (fun p => { p with lock := none }) s
  | some a =>
    match fail with
    | some code => crossSettle l.half (amoFail l.half a code false (apuMod n (fun p => { p with lock := none }) s))
    | none =>
      let s1 := partRead l.half l.acc 0 d s
      match accGet s1 l.half l.acc with
      | some b =>
        match b.parts[1]? with
        | some q =>
          apuMod n (fun p => { p with
            lock := some { l with
            unlock := some ⟨txUNLOCK, l.stn, q.words, q.be, q.addr, q.data, .unlock l.half l.acc⟩ } }) s1
        | none => s1
      | none => s1

/-- A read has been answered OK; its owner acts (R106, R107, R168, R217). -/
def readDone (n : Nat) (r : RdOut) (d : List Byte) (s : State) : State :=
  match r.own with
  | .acc h id i => crossSettle h (partRead h id i d s)
  | .hdr stn => hdrDone n stn d s
  | .desc stn u => descDone n stn u d s
  | .evBuf h v sb off => evBufDone h v sb off d s
  | own => post (.rdDone own n d) s

/-- An RSP word with its payload bytes (R112, R113). -/
def rxRsp (n w : Nat) (d : List Byte) (s0 : State) : State :=
  let P := pgApu n
  let stn := bits w 27 24
  let tn := bits w 23 18
  let stat := bits w 11 9
  let s := bump P R.APU_CNT_TXN_RX s0
  match (apuGet s n).reads.find? (fun r => r.stn == stn && r.tn == tn) with
  | none =>
    raiseIf (!(apuGet s n).quar.contains (stn, tn)) P 7 (bump P R.APU_CNT_UNEXP_RSP s)
  | some r =>
    let fail := if stat ≠ 0 then some (rstatCode stat) else if bits w 17 12 + 1 ≠ r.words then some cRSP_LEN else none
    let s1 := dropRead n r s
    match (apuGet s n).lock with
    | some l =>
      if isLockRd s n r then lockRsp n l fail d s1
      else match fail with
        | some c => readFailed n r c s1
        | none => readDone n r d s1
    | none =>
      match fail with
      | some c => readFailed n r c s1
      | none => readDone n r d s1

/-- No RSP within ATN_RD_TMO (R113, R181). -/
def readTimeout (n stn tn : Nat) (s : State) : State :=
  let P := pgApu n
  match (apuGet s n).reads.find? (fun r => r.stn == stn && r.tn == tn) with
  | none => s
  | some r =>
    let s1 := raise P 6 (bump P R.APU_CNT_RD_TMO s)
    if isLockRd s n r then lockBreak n cRD_TIMEOUT s1
    else readFailed n r cRD_TIMEOUT (quarantine n r (dropRead n r s1))

/-! The port stream (R92-R95, R100, R101, R117-R121). -/

/-- A data-port write to that station covers the address (R512). -/
def dpCovers (s : State) (n stn addr : Nat) : Bool :=
  s.dp.any (fun a => a.write && a.space == 1 && bits a.addr 45 40 == n && bits a.addr 39 36 == stn &&
    a.parts.any (fun p => p.st == .sent && decide (p.addr ≤ addr ∧ addr < p.addr + 4 * p.words)))

/-- A STATUS word with its follow word (R121). -/
def rxStatus (n w f : Nat) (s : State) : State :=
  let P := pgApu n
  let stn := bits w 27 24
  let kind := bits w 23 20
  if kind = 0 then enumEnd n w s
  else if kind = 1 then
    let addr := bits w 11 8 * 2 ^ 32 + f
    let dp := dpCovers s n stn addr
    let s1 := wrErr n stn (bits w 7 0) addr dp s
    if dp then post (.lost (.dp 0 0) n (wrErrCode (bits w 7 0) * 2 ^ 40 + stn * 2 ^ 36 + addr)) s1 else s1
  else if kind = 2 then
    match lightOf s n stn (bits w 19 13) with
    | none => s
    | some l =>
      let d := bits w 3 0
      let s1 := match strOfLight s l with
        | some (i, _) => if d = 8 then s else tapeStall (aHalf n) i s
        | none => s
      unitStateTo l d s1
  else if kind = 3 then raise P 11 s
  else bump P R.APU_CNT_PROTO s

/-- A FLOW word: hop scope or station scope (R100). -/
def rxFlow (n w : Nat) (s : State) : State :=
  let P := pgApu n
  let off := w.testBit 27
  if w.testBit 26 then
    let b := 2 ^ bits w 25 22
    let cur := rd s P R.APU_STAT_STN_OFF
    wr P R.APU_STAT_STN_OFF (if off then cur ||| b else cur &&& (65535 - b)) s
  else
    let s1 := wr P R.APU_STAT_RX_HOP_OFF (bit off) s
    if off then bump P R.APU_CNT_XOFF_RX s1 else s1

/-- Follow words of a control word without payload (R94, R95, R121); none for a reserved CODE and for a word with
payload. -/
def followCount (w : Nat) : Option Nat :=
  match wCode w with
  | 0 => some 0
  | 1 => some 0
  | 2 => some 0
  | 5 => some 0
  | 6 => some 2
  | 7 => some 2
  | 8 => some 1
  | 9 => some (if bits w 23 20 = 1 then 1 else 0)
  | 10 => some 0
  | 14 => some 0
  | _ => none

/-- A control word without payload, with its follow words (R94). -/
def rxControl (n w : Nat) (f : List Nat) (s : State) : State :=
  match wCode w with
  | 1 => rxFlow n w s
  | 2 => laneReceive n w s
  | 5 => rxInt n w s
  | 6 =>
    if 3 ≤ bits w 16 14 then bump (pgApu n) R.APU_CNT_PROTO s
    else beacon n (bits w 27 24) (bits w 23 17) (bits w 16 14) (bits w 13 0 * 2 ^ 32 + (f[0]?).getD 0) ((f[1]?).getD 0) s
  | 8 => verifyWord n (bits w 16 13) ((f[0]?).getD 0) s
  | 9 => rxStatus n w ((f[0]?).getD 0) s
  | _ => s

/-- Words with C=0 in front; none where one with C=1 stands among them (R95). -/
def takeFollow : Nat → List LaneWord → Option (List Nat × List LaneWord)
  | 0, ws => some ([], ws)
  | _ + 1, [] => some ([], [])
  | k + 1, w :: ws => if w.c then none else (takeFollow k ws).map (fun r => (w.d.toNat :: r.1, r.2))

/-- A payload run of `k` words with the control words inserted in it; none on a protocol error (R95). -/
def takePayload : Nat → Nat → List LaneWord → Option (List Nat × List (Nat × List Nat) × List LaneWord)
  | 0, _, _ => some ([], [], [])
  | _ + 1, 0, ws => some ([], [], ws)
  | _ + 1, _ + 1, [] => some ([], [], [])
  | fuel + 1, k + 1, w :: ws =>
    if w.c then
      match followCount w.d.toNat with
      | none => none
      | some c =>
        match takeFollow c ws with
        | none => none
        | some (f, r) => (takePayload fuel (k + 1) r).map (fun x => (x.1, (w.d.toNat, f) :: x.2.1, x.2.2))
    else (takePayload fuel k ws).map (fun x => (w.d.toNat :: x.1, x.2.1, x.2.2))

/-- A protocol error takes the port to DOWN with CAUSE 7 (R94, R97). -/
def protoError (n : Nat) (s : State) : State := apuDown n (some 7) s

/-- The port carries control words and transactions. -/
def apuLive (s : State) (n : Nat) : Bool := apuState s n == asENUM || apuState s n == asACTIVE

/-- The words of the port stream in order; those after a fatal word are discarded (R92, R94, R95). -/
def atnWords (n : Nat) : Nat → List LaneWord → State → State
  | 0, _, s => s
  | _ + 1, [], s => s
  | fuel + 1, w :: ws, s =>
    let d := w.d.toNat
    if !apuLive s n then s
    else if !w.c then protoError n s
    else
      match followCount d with
      | some c =>
        match takeFollow c ws with
        | none => protoError n s
        | some (f, r) => atnWords n fuel r (rxControl n d f s)
      | none =>
        if wCode d = 3 then
          let ty := bits d 27 25
          if 6 ≤ ty then protoError n s
          else
            match takeFollow 1 ws with
            | none => protoError n s
            | some (a, r) =>
              let k := if ty = txWR ∨ ty = txUNLOCK ∨ ty = txDPWR then bits d 14 9 + 1 else 0
              match takePayload (ws.length + 1) k r with
              | none => protoError n s
              | some (p, ins, r2) =>
                let s1 := rxTxn n d ((a[0]?).getD 0) ((p.map beBytes).flatten) s
                atnWords n fuel r2 (ins.foldl (fun t x => rxControl n x.1 x.2 t) s1)
        else if wCode d = 4 then
          let k := if bits d 11 9 = 0 then bits d 17 12 + 1 else 0
          match takePayload (ws.length + 1) k ws with
          | none => protoError n s
          | some (p, ins, r2) =>
            let s1 := rxRsp n d ((p.map beBytes).flatten) s
            atnWords n fuel r2 (ins.foldl (fun t x => rxControl n x.1 x.2 t) s1)
        else protoError n s

/-- The words that take room in the receive buffer: not IDLE, FLOW, LANE or TRN (R101). -/
def takesRoom (w : LaneWord) : Bool :=
  !(w.c && (wCode w.d.toNat == 0 || wCode w.d.toNat == 1 || wCode w.d.toNat == 2 || wCode w.d.toNat == 14))

/-- The buffer level after a change: hop XOFF above 40 KiB, XON below 32 KiB, overflow above 64 KiB (R101). -/
def bufLevel (n : Nat) (s : State) : State :=
  let P := pgApu n
  let lv := 4 * ((apuGet s n).rxHeld.filter takesRoom).length
  let s1 := wr P R.APU_STAT_BUF_LEVEL (min lv 65536) s
  if lv > 65536 then apuDown n (some 5) s1
  else if lv > 40960 ∧ ¬ rdB s P R.APU_STAT_TX_HOP_OFF then
    emitAtn n [(true, flowWord true false 0)] (bump P R.APU_CNT_XOFF_TX (wr P R.APU_STAT_TX_HOP_OFF 1 s1))
  else if lv < 32768 ∧ rdB s P R.APU_STAT_TX_HOP_OFF then
    emitAtn n [(true, flowWord false false 0)] (wr P R.APU_STAT_TX_HOP_OFF 0 s1)
  else s1

/-- Words arrive on A[n]. While an INT waits for the event queue they stay in the receive buffer, FLOW and LANE words
apart (R472). -/
def atnReceive (n : Nat) (ws : List LaneWord) (s : State) : State :=
  if !apuLive s n then s
  else if intHeld s n then
    let s1 := (ws.filter (fun w => !takesRoom w)).foldl (fun t w => rxControl n w.d.toNat [] t) s
    bufLevel n (apuMod n (fun p => { p with rxHeld := p.rxHeld ++ ws.filter takesRoom }) s1)
  else atnWords n (ws.length + 1) ws s

/-- Held words are taken once no INT waits (R472). -/
def atnDrain (n : Nat) (s : State) : State :=
  let ws := (apuGet s n).rxHeld
  if ws.isEmpty || intHeld s n then s
  else bufLevel n (atnWords n (ws.length + 1) ws (apuMod n (fun p => { p with rxHeld := [] }) s))

/-! The port's grant (R113, R123, R180). -/

/-- A transaction may go: its station is not under station-scope XOFF, and a read has a number (R100, R113, R123). -/
def txnCan (s : State) (n : Nat) (t : Txn) : Bool :=
  !(rd s (pgApu n) R.APU_STAT_STN_OFF).testBit t.stn && (!isRead t || (tnNext s n t.stn).isSome)

/-- What a class of A[n] would send: 0 tape, 1 media, 2 management, 3 bridge (R123). An event gives its first word when
granted. -/
def classHead (s : State) (n cls : Nat) : Option (Sum Txn Event) :=
  let p := apuGet s n
  match cls with
  | 0 => (p.tape.head?).map .inl
  | 1 =>
    match p.media with
    | t :: _ => some (.inl t)
    | [] => (edfHead s n).map .inr
  | 2 => (p.mgmt.head?).map .inl
  | _ => (bridgeHead s n).map (fun x => .inl (partTxn (aHalf n) x.1 x.2.1 x.2.2))

/-- A class asks for the grant (R123): the port carries transactions, nothing stops its head, and no lock is open. With
a lock open only its UNLOCK_WR is granted, to the bridge class. -/
def apuAsks (s : State) (n cls : Nat) : Bool :=
  let st := apuState s n
  !rdB s (pgApu n) R.APU_STAT_RX_HOP_OFF &&
  (match (apuGet s n).lock with
    | some l => cls == 3 && st == asACTIVE && (l.unlock.any (fun t => txnCan s n t))
    | none =>
      (st == asACTIVE || (st == asENUM && cls == 2)) &&
      (match classHead s n cls with
        | some (.inl t) => txnCan s n t
        | some (.inr e) => !(rd s (pgApu n) R.APU_STAT_STN_OFF).testBit (lightStn s e.light)
        | none => false))

/-- A bridge command to the FIFO of a unit is measured against its light's angle (R265). -/
def brMeasure (n : Nat) (t : Txn) (s : State) : State :=
  let u := (t.addr - 0x10000) / 0x1000
  let op := bits (wordAt t.data 0) 31 24
  if t.ty = txDPWR ∧ t.words = 8 ∧ 0x10000 ≤ t.addr ∧ t.addr = unitFifo u ∧ u < 96 ∧ (op = 1 ∨ op = 2) ∧
      ¬ stnObject s n t.stn then
    match lightOf s n t.stn u with
    | none => s
    | some l =>
      if lightState s l ≠ lsLIT then s
      else
        let P := pgPlace (lHalf l)
        let a : Int := bits (wordAt t.data 2) 31 16
        let d := (a - angleAt s l (nowH s (lHalf l))) % 65536
        let lam := leadAngle s l 0 (slackOf s l)
        let s1 := wrI P R.PL_LIGHT_VIEW_3_BR_CMDS l (rdI s P R.PL_LIGHT_VIEW_3_BR_CMDS l + 1) s
        if d < lam then wrI P R.PL_LIGHT_VIEW_3_BR_SHORT l (rdI s P R.PL_LIGHT_VIEW_3_BR_SHORT l + 1) s1 else s1
  else s

/-- The port's longest lock (R192). -/
def lockMax (h : Half) (d : Nat) (s : State) : State :=
  wr (pgCrossing h) R.CX_LOCK_MAX (max d (rd s (pgCrossing h) R.CX_LOCK_MAX)) s

/-- A lock's UNLOCK_WR has been sent: the lock closes, and an atomic whose lock was not broken is answered with the old
value (R180, R183). -/
def unlockSent (n : Nat) (h : Half) (id : Nat) (s : State) : State :=
  match (apuGet s n).lock with
  | none => s
  | some l =>
    let s1 := lockMax h (s.clk - l.opened) (apuMod n (fun p => { p with lock := none }) s)
    match accGet s1 h id with
    | some a =>
      accAnswer h a.pkt stComplete a.oldVal (accMod h id (fun a => { a with answered := true }) (partSent h a 1 s1))
    | none => s1

/-- What a sent transaction means to its owner. -/
def txnSent (n : Nat) (t : Txn) (tn : Nat) (s : State) : State :=
  match t.own with
  | .acc h id i =>
    match accGet s h id with
    | none => s
    | some a =>
      let s1 := brMeasure n t (bump (pgPalette h) R.PALETTE_CNT_ATN_TXN (partSent h a i s))
      if t.ty = txLOCK then
        bump (pgCrossing h) R.CROSSING_CNT_LOCK
          (apuMod n (fun p => { p with lock := some ⟨h, id, t.stn, tn, s.clk, none⟩ }) s1)
      else s1
  | .unlock h id => unlockSent n h id (bump (pgPalette h) R.PALETTE_CNT_ATN_TXN s)
  | .evCmd h v =>
    match evByVtag s h v with
    | some e => evMod h e.id (fun e => { e with st := .verify, sentAt := s.clk }) s
    | none => s
  | .chunk h i first last => chunkSent h i first last s
  | .tapeCmd h i v =>
    strMod h i (fun x => { x with
      blocks := x.blocks.map (fun b => if b.vtag = some v then { b with sentAt := s.clk } else b) }) s
  | .unitCmd h v => unitCmdSent h v s
  | .dp id i => post (.sent (.dp id i) n) s
  | _ => s

/-- Words sent on A[n] since the last policy tick, of the bridge class and in all (R261). -/
def countWords (n : Nat) (t : Txn) (k : Nat) (s : State) : State :=
  let h := aHalf n
  let b := match t.own with
    | .acc _ _ _ => k
    | .unlock _ _ => k
    | _ => 0
  let p := s.place.at h
  let o := tget (0, 0) p.words n
  { s with place := s.place.put h { p with words := tput (0, 0) p.words n (o.1 + b, o.2 + k) } }

/-- A transaction leaves on A[n]; a read takes its number (R109, R113). -/
def txnGo (n : Nat) (t : Txn) (s : State) : State :=
  let tn := if isRead t then (tnNext s n t.stn).getD 0 else 0
  let s1 := if isRead t then
      apuMod n (fun p => { p with reads := p.reads ++ [⟨t.stn, tn, t.words, t.own⟩], lastTn := tput 63 p.lastTn t.stn tn }) s
    else s
  let ws := txnWords t tn ++ txnPayload t
  txnSent n t tn (countWords n t ws.length (bump (pgApu n) R.APU_CNT_TXN_TX (emitAtn n ws s1)))

/-- The head of a class taken from its queue. -/
def popClass (n cls : Nat) (s : State) : State :=
  apuMod n (fun p =>
    match cls with
    | 0 => { p with tape := p.tape.drop 1 }
    | 1 => { p with media := p.media.drop 1 }
    | 2 => { p with mgmt := p.mgmt.drop 1 }
    | _ => p) s

/-- The port arbiter's winner sends its transaction (R123). -/
def apuGrant (n cls : Nat) (s : State) : State :=
  if !apuAsks s n cls then s
  else
    match (apuGet s n).lock with
    | some l =>
      match l.unlock with
      | some t => txnGo n t s
      | none => s
    | none =>
      match classHead s n cls with
      | none => s
      | some (.inl t) => txnGo n t (popClass n cls s)
      | some (.inr e) =>
        let s1 := evGrant (aHalf n) e s
        match (apuGet s1 n).media with
        | t :: _ => txnGo n t (popClass n 1 s1)
        | [] => s1

/-- A broadcast TSYNC with the half's timebase (R119). -/
def tsync (n : Nat) (s : State) : State :=
  let t := nowH s (aHalf n)
  if apuLive s n && rdB s (pgApu n) R.APU_CTRL_TSYNC_EN && !rdB s (pgApu n) R.APU_STAT_RX_HOP_OFF then
    emitAtn n [(true, 7 * 2 ^ 28 + 2 ^ 27), (false, t / 2 ^ 32 % 2 ^ 32), (false, t % 2 ^ 32)] s
  else s

/-- The counters of an APU page. -/
def apuCounters : List Fld :=
  [R.APU_CNT_TXN_TX, R.APU_CNT_TXN_RX, R.APU_CNT_XOFF_TX, R.APU_CNT_XOFF_RX, R.APU_CNT_RD_TMO, R.APU_CNT_UNEXP_RSP,
    R.APU_CNT_PROTO, R.APU_CNT_DOWN, R.APU_CNT_STEER, R.APU_CNT_STEER_FAIL]

end Sys2Proof.Machine
end

