-- ==== Sys2Proof/Machine/Base.lean ====
section
/-!
DEFINITION. What many chapters ask: which halves are up, the power state, who holds primacy, and the journal
(R379-R382, R542, R562, R603).
-/
namespace Sys2Proof.Machine

/-! Halves and power (R562, R603). -/

def hsDOWN : Nat := 0
def hsSTARTING : Nat := 1
def hsRUNNING : Nat := 2
def hsFAILED : Nat := 3
def hsHALTED : Nat := 4
def hsSINGLE : Nat := 5

def Boot.half (b : Boot) : Half → BootHalf
  | .west => b.west
  | .east => b.east

def bootMod (f : Boot → Boot) (s : State) : State := { s with boot := f s.boot }

def bhMod (h : Half) (f : BootHalf → BootHalf) (s : State) : State :=
  match h with
  | .west => bootMod (fun b => { b with west := f b.west }) s
  | .east => bootMod (fun b => { b with east := f b.east }) s

/-- STATE of a half (R603). -/
def halfState (s : State) (h : Half) : Nat := (s.boot.half h).state

/-- A half has ended step 3 and is neither in reset nor failed: its engines and pages are live (R489, R600, R603). -/
def halfUp (s : State) (h : Half) : Bool :=
  let b := s.boot.half h
  (b.s3 == 2 || b.s3 == 3 || b.s3 == 6) && (b.state == hsSTARTING || b.state == hsRUNNING || b.state == hsHALTED || b.state == hsSINGLE)

/-- The half's Management Complex is powered: out of reset (R600, R603). -/
def mgmtUp (s : State) (h : Half) : Bool := halfState s h != hsDOWN

/-- A half that serves device-wide pages: West, or East while West is down (R540). -/
def leadHalf (s : State) : Option Half :=
  if halfUp s .west then some .west else if halfUp s .east then some .east else none

/-- Power states (R562). -/
def psOFF : Nat := 0
def psSLEEP : Nat := 1
def psQUIET : Nat := 2
def psDRAIN : Nat := 3
def psACTIVE : Nat := 4

def power (s : State) : Nat := rd s pgKeeper R.KP_PWR_STAT_STATE

/-- New work is taken: ACTIVE (R564). -/
def takesWork (s : State) : Bool := power s == psACTIVE

/-- Engines that QUIET gates run: ACTIVE or DRAIN (R562). -/
def enginesOn (s : State) : Bool := decide (psDRAIN ≤ power s)

/-! Primacy (R542, R543). -/

def keeperMod (f : Keeper → Keeper) (s : State) : State := { s with keeper := f s.keeper }
def leaseMod (f : Lease → Lease) (s : State) : State := keeperMod (fun k => { k with lease := f k.lease }) s

/-- A half holds primacy while its own timer shows less than 1 ms since the last answered renewal (R542). -/
def holds (s : State) (h : Half) : Bool :=
  match s.keeper.lease.timer.at h with
  | some t => decide (s.clk < t + 1000000)
  | none => false

/-- At least 200 µs of the lease remain: a step may start (R543). -/
def holdsLong (s : State) (h : Half) : Bool :=
  match s.keeper.lease.timer.at h with
  | some t => decide (s.clk + 200000 ≤ t + 1000000)
  | none => false

/-- The primary half (R542). -/
def primary (s : State) : Option Half :=
  if holds s .west then some .west else if holds s .east then some .east else none

/-- The primary half may start a step now (R543). -/
def primaryReady (s : State) : Bool := (primary s).any (holdsLong s)

/-! The journal (R379-R382). -/

/-- Lines of a half's journal: 4 GiB of 64 bytes (R363, R380). -/
def jrnlLines : Nat := 2 ^ 26

def jrnlMod (h : Half) (f : Jrnl → Jrnl) (s : State) : State := { s with jrnl := s.jrnl.put h (f (s.jrnl.at h)) }

/-- Records and lines of the next step: at least one record, 1 to 64 lines each. The layout of the payload is open, but no
step takes more than half of the journal, so that one fits into an empty journal (R380, R381). DEDUCED. -/
def stepShape (s : State) : Nat × Nat :=
  let a := (Config.jrnlShape s.freeSeq).1 % 2 ^ 19
  (a + 1, a + 1 + (Config.jrnlShape s.freeSeq).2 % (63 * (a + 1) + 1))

/-- The next step has room in a half's journal (R381). -/
def jrnlRoom (s : State) (h : Half) : Bool :=
  (s.jrnl.at h).owed.isEmpty && decide ((s.jrnl.at h).fill + (stepShape s).2 ≤ jrnlLines)

/-- A step begins to wait for journal space: CNT_JRNL_WAIT, and JOURNAL_FULL once in a period (R381, R400). -/
def jrnlWait (h : Half) (s : State) : State :=
  let s1 := bump (pgEasel h) R.EASEL_CNT_JRNL_WAIT s
  raiseIf (!(s.jrnl.at h).full) (pgEasel h) 1 (jrnlMod h (fun j => { j with full := true }) s1)

/-- One step journalled on a half. Where it finds no room its record waits, first in, first out (R381). -/
def jrnl (h : Half) (s : State) : State :=
  let (r, l) := stepShape s
  let s1 := (List.range 4).foldl (fun t i => addLines (4 * h.num + i) (Config.stepLines s.freeSeq i) t)
    { s with freeSeq := s.freeSeq + 1 }
  if jrnlRoom s h then jrnlMod h (fun j => { j with jseq := (j.jseq + r) % 2 ^ 64, fill := j.fill + l }) s1
  else jrnlWait h (jrnlMod h (fun j => { j with owed := j.owed ++ [(r, l)] }) s1)

/-- One step journalled on both halves, the starting half last (R382). -/
def jrnlBoth (h : Half) (s : State) : State := jrnl h (jrnl h.twin s)

/-- Waiting records are written as room allows. -/
def jrnlPay (h : Half) : Nat → State → State
  | 0, s => s
  | k + 1, s =>
    match (s.jrnl.at h).owed with
    | [] => jrnlMod h (fun j => { j with full := false }) s
    | (r, l) :: q =>
      if (s.jrnl.at h).fill + l ≤ jrnlLines then
        jrnlPay h k (jrnlMod h (fun j => { j with jseq := (j.jseq + r) % 2 ^ 64, fill := j.fill + l, owed := q }) s)
      else s

/-- A CHECKPOINT record: every step journalled so far is applied, so the space before it is free (R381). -/
def checkpoint (h : Half) (s : State) : State :=
  let s1 := jrnlMod h (fun j => { j with jseq := (j.jseq + 1) % 2 ^ 64, fill := 1 }) s
  jrnlPay h ((s1.jrnl.at h).owed.length + 1) s1

end Sys2Proof.Machine
end

