-- ==== Sys2Proof/Machine/Cal.lean ====
section
/-!
DEFINITION. Calibration of the Atnen receivers (chapter 18, R581-R595): marks, sweeps, runs, aborts and STUCK lanes.
-/
namespace Sys2Proof.Machine

def calMod (h : Half) (f : Cal → Cal) (s : State) : State := { s with cal := s.cal.put h (f (s.cal.at h)) }

/-- The record of a lane in CAL_LANE_VIEW (R593). -/
def laneIdx (i k : Nat) : Nat := 8 * i + k
def laneV (s : State) (h : Half) (i k : Nat) (f : Fld) : Nat := rdI s (pgCal h) f (laneIdx i k)
def lanePut (h : Half) (i k : Nat) (f : Fld) (v : Nat) (s : State) : State := wrI (pgCal h) f (laneIdx i k) v s

/-- The signed value of a 16-bit field. -/
def sgn16 (v : Nat) : Int := if v < 32768 then v else (v : Int) - 65536

/-- The half's filtered die temperature, 1/16 °C: Keeper input 0 or 1 (R555, R581). -/
def tNow (s : State) (h : Half) : Nat := rdI s pgKeeper R.KP_IN_VIEW_FILT h.num

/-- T_LAST of the half's i-th port set (R581). -/
def setTLast (h : Half) (i v : Nat) (s : State) : State :=
  (List.range 8).foldl (fun t k => lanePut h i k R.CAL_LANE_VIEW_0_T_LAST v t) s

/-- CAL_DELTA in 1/16 °C (R581, R593). -/
def calDelta (s : State) (h : Half) : Nat := 16 * max 1 (rd s (pgCal h) R.CAL_CFG_CAL_DELTA)

/-- PAR, 1 to 4 (R593). -/
def calPar (s : State) (h : Half) : Nat := min 4 (max 1 (rd s (pgCal h) R.CAL_CFG_PAR))

/-- Calibration runs in ACTIVE, DRAIN and QUIET (R581). -/
def calPower (s : State) : Bool := decide (psQUIET ≤ power s)

/-- The port is marked or in a sweep (R593). -/
def calBusy (s : State) (h : Half) (i : Nat) : Bool :=
  (s.cal.at h).marked.contains i || (s.cal.at h).sweeps.any (fun p => p.1 == i)

/-- STATE of a lane that no run has: MARKED or IDLE (R593). -/
def laneRest (s : State) (h : Half) (i k : Nat) : Nat :=
  if (s.cal.at h).lanes.contains (i, k) || (s.cal.at h).marked.contains i ||
      (s.cal.at h).sweeps.any (fun p => p.1 == i && decide (p.2 ≤ k)) then 1 else 0

/-- STATE of a lane (R593). -/
def laneState (s : State) (h : Half) (i k : Nat) : Nat :=
  match (s.cal.at h).runs.find? (fun r => r.port == i && r.lane == k) with
  | none => laneRest s h i k
  | some r =>
    match r.step with
    | .steer => 2
    | .pattern => 2
    | .park => 2
    | .measure => 3
    | .verify => 4
    | .restoring => 5

/-- Marked ports begin to wait for REF100 (R583). -/
def calBlock (h : Half) (s : State) : State :=
  if rdB s pgTimebase R.TB_STAT_REF_OK ∨ rdB s (pgCal h) R.CAL_STAT_BLOCKED ∨
      ((s.cal.at h).marked = [] ∧ (s.cal.at h).lanes = [] ∧ (s.cal.at h).sweeps = []) then s
  else raise (pgCal h) 3 (wr (pgCal h) R.CAL_STAT_BLOCKED 1 s)

/-- A port marked for a sweep, in ascending order (R581, R582). -/
def calMark (h : Half) (i : Nat) (s : State) : State :=
  if (s.cal.at h).marked.contains i then s
  else calMod h (fun c => { c with marked := (c.marked.filter (· < i)) ++ [i] ++ c.marked.filter (i < ·) }) s

/-- The port's temperature has moved by more than CAL_DELTA since T_LAST (R581). -/
def calMoved (s : State) (h : Half) (i : Nat) : Bool :=
  decide (calDelta s h < (sgn16 (tNow s h) - sgn16 (laneV s h i 0 R.CAL_LANE_VIEW_0_T_LAST)).natAbs)

/-- The temperature test of one port that is ACTIVE and in no sweep (R581, R582). -/
def calJudge (h : Half) (s : State) (i : Nat) : State :=
  if calPower s && decide (apuState s (aPort h i) = asACTIVE) && !(s.cal.at h).sweeps.any (fun p => p.1 == i) &&
      calMoved s h i then calMark h i s
  else s

/-- The temperature test of every port of a half (R581). -/
def calTempCheck (h : Half) (s : State) : State := calBlock h ((List.range 32).foldl (calJudge h) s)

/-- The result of a run's end or of a skip, as CAL_CTRL.RESULTS selects (R595). -/
def calResult (h : Half) (i k outcome cause : Nat) (s : State) : State :=
  let r := rd s (pgCal h) R.CAL_CTRL_RESULTS
  if r = 0 ∨ (r = 1 ∧ outcome ≠ 1 ∧ outcome ≠ 3) then s
  else
    pushResult (resOf h) 9 false
      [i % 32 * 2 ^ 51 + k % 8 * 2 ^ 48 + outcome % 4 * 2 ^ 46 + cause % 16 * 2 ^ 42 +
        laneV s h i k R.CAL_LANE_VIEW_0_ABORTS % 4 * 2 ^ 40 + nowH s h % 2 ^ 32] s

/-- A sweep whose lanes are done ends: SWEEP_DONE, and the port is judged afresh (R582, R594). -/
def sweepEnd (h : Half) (i : Nat) (s : State) : State :=
  let s1 := calMod h (fun c => { c with sweeps := c.sweeps.filter (fun p => p.1 != i) }) s
  calJudge h (raise (pgCal h) 0 s1) i

/-- A sweep goes on with the next lane, or ends after lane 7 (R582). -/
def sweepNext (h : Half) (i : Nat) (s : State) : State :=
  match (s.cal.at h).sweeps.find? (fun p => p.1 == i) with
  | none => s
  | some (_, k) => if 8 ≤ k then sweepEnd h i s else s

/-- The run of a port. -/
def runOf (s : State) (h : Half) (i : Nat) : Option CalRun := (s.cal.at h).runs.find? (fun r => r.port == i)

def runMod (h : Half) (i : Nat) (f : CalRun → CalRun) (s : State) : State :=
  calMod h (fun c => { c with runs := c.runs.map (fun r => if r.port = i then f r else r) }) s

/-- A run is over: LAST_RUN, RUNS, its result, and the sweep goes on (R589, R593, R595). -/
def runEnd (h : Half) (r : CalRun) (s : State) : State :=
  let i := r.port
  let k := r.lane
  let s1 := calMod h (fun c => { c with runs := c.runs.filter (fun x => x.port != i) }) s
  let s2 := lanePut h i k R.CAL_LANE_VIEW_1_LAST_RUN (nowH s h)
    (lanePut h i k R.CAL_LANE_VIEW_2_RUNS (laneV s h i k R.CAL_LANE_VIEW_2_RUNS + 1) s1)
  let outcome := if r.stuck then 3 else if r.cause ≠ 0 then 1 else 0
  let s3 := if r.cause = 0 then bump (pgCal h) R.CAL_CNT_RUN_OK s2 else s2
  sweepNext h i (calResult h i k outcome r.cause s3)

/-- A lane's trims in force (R586). -/
def trims (s : State) (h : Half) (i k : Nat) : Trims :=
  let f := laneV s h i k
  ⟨f R.CAL_LANE_VIEW_0_PHASE, f R.CAL_LANE_VIEW_0_VOFF, f R.CAL_LANE_VIEW_0_DFE1, f R.CAL_LANE_VIEW_0_CTLE⟩

/-- All trims of a lane take their values together (R586). -/
def putTrims (h : Half) (i k : Nat) (t : Trims) (s : State) : State :=
  lanePut h i k R.CAL_LANE_VIEW_0_PHASE t.phase (lanePut h i k R.CAL_LANE_VIEW_0_VOFF t.voff
    (lanePut h i k R.CAL_LANE_VIEW_0_DFE1 t.dfe1 (lanePut h i k R.CAL_LANE_VIEW_0_CTLE t.ctle s)))

/-- The lane is left on the spare: OP 7 FIX (R104, R590). -/
def calFix (n k : Nat) (s : State) : State :=
  raise (pgApu n) 9 (emitAtn n [(true, laneWord 7 k)] (setRxSteer n ssFIXED s))

/-- The lane becomes STUCK (R590). -/
def calStick (h : Half) (i k : Nat) (s : State) : State :=
  raise (pgCal h) 2 (bump (pgCal h) R.CAL_CNT_STUCK (lanePut h i k R.CAL_LANE_VIEW_0_STUCK 1 s))

/-- The causes that count towards the three-abort rule (R588). -/
def calCounted (c : Nat) : Bool := c == 1 || c == 4 || c == 5 || c == 6 || c == 7

/-- What an abort records: CAL_ABORT, CNT_ABORT, LAST_CAUSE, the lane's counts (R589). -/
def calNote (h : Half) (i k c : Nat) (s : State) : State :=
  let P := pgCal h
  let n := laneV s h i k R.CAL_LANE_VIEW_0_ABORTS
  let s1 := raise P 1 (bump P R.CAL_CNT_ABORT (lanePut h i k R.CAL_LANE_VIEW_0_LAST_CAUSE c
    (lanePut h i k R.CAL_LANE_VIEW_2_ABORTED (laneV s h i k R.CAL_LANE_VIEW_2_ABORTED + 1) s)))
  if calCounted c then lanePut h i k R.CAL_LANE_VIEW_0_ABORTS (min 3 (n + 1)) s1 else s1

/-- A run aborts with a cause (R588-R590). The old trims are in force again, and steering ends from where it stands: a
third counted abort leaves the lane on the spare, or steers it there. -/
def runAbort (h : Half) (r : CalRun) (c : Nat) (s : State) : State :=
  let i := r.port
  let k := r.lane
  let n := aPort h i
  let s1 := calNote h i k c (if r.step = .verify then putTrims h i k r.old s else s)
  let st := rxSteer s1 n
  if c = 8 then runEnd h { r with cause := 8 } s1
  else if calCounted c ∧ 3 ≤ laneV s1 h i k R.CAL_LANE_VIEW_0_ABORTS then
    let s2 := calStick h i k s1
    if st = ssSWAPPED ∨ st = ssRESTORE then runEnd h { r with cause := c, stuck := true } (calFix n k s2)
    else if st = ssNONE then
      steerStart n k (runMod h i (fun x => { x with step := .park, cause := c, stuck := true }) s2)
    else runMod h i (fun x => { x with step := .park, cause := c, stuck := true }) s2
  else if st = ssSWAPPED then steerRestore n (runMod h i (fun x => { x with step := .restoring, cause := c }) s1)
  else if st = ssMIRROR then
    runEnd h { r with cause := c } (emitAtn n [(true, laneWord 6 k)] (setRxSteer n ssNONE s1))
  else if st = ssRESTORE then runMod h i (fun x => { x with step := .restoring, cause := c }) s1
  else runEnd h { r with cause := c } s1

/-- A run is before the step in which the new trims come into force (R586, R588). -/
def beforeStep (r : CalRun) : Bool := r.step == .steer || r.step == .pattern || r.step == .measure

/-- What the port's steering tells its run: 0 aborted, 1 swapped, 2 released, 3 fixed (R104, R584, R588, R590). -/
def calSteer (n what : Nat) (s : State) : State :=
  let h := aHalf n
  let i := n % 32
  match runOf s h i with
  | none => s
  | some r =>
    if r.step = .park then
      if what = 1 then runEnd h r (calFix n r.lane s)
      else if what = 0 then runEnd h r s
      else s
    else if what = 1 then runMod h i (fun x => { x with step := .pattern, trn := 0 }) s
    else if what = 0 then
      if beforeStep r then runAbort h r 5 s
      else runMod h i (fun x => { x with step := .restoring }) s
    else runEnd h r s

/-- The port leaves ACTIVE: its run aborts with PORT_DOWN and its sweep ends (R588, R589). -/
def calPortLeft (n : Nat) (s : State) : State :=
  let h := aHalf n
  let i := n % 32
  let s1 := match runOf s h i with
    | some r => runAbort h r 8 s
    | none => s
  if (s1.cal.at h).sweeps.any (fun p => p.1 == i) then sweepEnd h i s1 else s1

/-- TRAIN has ended: new trims, T_LAST, no counts, no STUCK lane (R581, R589). -/
def calTrained (n : Nat) (s : State) : State :=
  let h := aHalf n
  let i := n % 32
  let d := s.freeSeq
  let s1 := (List.range 8).foldl (fun t k =>
    putTrims h i k ⟨Config.trainTrim d n k 0 % 128, Config.trainTrim d n k 1 % 64, Config.trainTrim d n k 2 % 64,
        Config.trainTrim d n k 3 % 32⟩
      (lanePut h i k R.CAL_LANE_VIEW_0_ABORTS 0 (lanePut h i k R.CAL_LANE_VIEW_0_STUCK 0 t)))
    { s with freeSeq := d + 1 }
  setTLast h i (tNow s h) s1

/-- One lane's run starts, or is skipped with its cause (R582, R584). The staged CAL_CFG takes effect first (R499). -/
def laneRun (h : Half) (i k : Nat) (s0 : State) : State :=
  let n := aPort h i
  let skip := fun c (s : State) =>
    calResult h i k 2 c (bump (pgCal h) R.CAL_CNT_SKIP s)
  if apuState s0 n ≠ asACTIVE then skip 8 s0
  else if rxSteer s0 n ≠ ssNONE ∨ laneV s0 h i k R.CAL_LANE_VIEW_0_STUCK = 1 then skip 9 s0
  else
    let s := boundary (pgCal h) (fun _ => true) s0
    steerStart n k (calMod h (fun c => { c with
      runs := c.runs ++ [{ port := i, lane := k, old := trims s h i k }] }) s)

/-- Ports whose sweeps or single lanes are under way (R582). -/
def calOpen (s : State) (h : Half) : Nat :=
  (s.cal.at h).sweeps.length +
    ((s.cal.at h).runs.filter (fun r => !(s.cal.at h).sweeps.any (fun p => p.1 == r.port))).length

/-- The next run of the half's i-th port (R582, R583): the next lane of its sweep; or its sweep starts, lowest marked
port first; or a lane that CAL_CMD RUN marked. -/
def calRunStart (h : Half) (i : Nat) (s : State) : State :=
  let c := s.cal.at h
  if !calPower s || !rdB s (pgCal h) R.CAL_CTRL_EN || !rdB s pgTimebase R.TB_STAT_REF_OK ||
      (runOf s h i).isSome then s
  else
    match c.sweeps.find? (fun p => p.1 == i) with
    | some (_, k) =>
      let s1 := calMod h (fun c => { c with sweeps := c.sweeps.map (fun p => if p.1 = i then (i, k + 1) else p) }) s
      let s2 := laneRun h i k s1
      if (runOf s2 h i).isSome then s2 else sweepNext h i s2
    | none =>
      if calPar s h ≤ calOpen s h then s
      else if c.marked.head? = some i then
        let s1 := calMod h (fun c => { c with marked := c.marked.filter (· ≠ i), sweeps := c.sweeps ++ [(i, 1)] }) s
        let s2 := bump (pgCal h) R.CAL_CNT_SWEEP (setTLast h i (tNow s h) s1)
        laneRun h i 0 s2
      else
        match c.lanes.find? (fun p => p.1 == i) with
        | none => s
        | some p =>
          laneRun h i p.2 (calMod h (fun c => { c with lanes := c.lanes.filter (fun q => q != p) }) s)

/-- A word on the lane under calibration (R584, R585, R587, R588): TRN words in order count; another word is traffic
once step 4 has begun. -/
def calWord (n lane : Nat) (isTrn good : Bool) (cnt : Nat) (s : State) : State :=
  let h := aHalf n
  let i := n % 32
  match runOf s h i with
  | none => s
  | some r =>
    if r.lane ≠ lane ∨ (r.step ≠ .pattern ∧ r.step ≠ .measure ∧ r.step ≠ .verify) then s
    else if !isTrn then
      if good then runAbort h r 4 s else runMod h i (fun x => { x with trn := 0 }) s
    else
      let run := if !good then 0 else if r.trn ≠ 0 ∧ cnt = (r.trnLast + 1) % 65536 then r.trn + 1 else 1
      let s1 := runMod h i (fun x => { x with trn := run, trnLast := cnt }) s
      if r.step = .pattern ∧ 64 ≤ run then runMod h i (fun x => { x with step := .measure, trn := 0 }) s1 else s1

/-- Step 4 is not reached within its bound (R588). -/
def calPatternTimeout (h : Half) (i : Nat) (s : State) : State :=
  match runOf s h i with
  | some r => if r.step = .pattern then runAbort h r 1 s else s
  | none => s

/-- Measurement ends: an eye narrower than 16/128 UI aborts, else the new trims come into force together and are
verified (R585, R586, R588). -/
def calMeasureEnd (h : Half) (i eye : Nat) (t : Trims) (s : State) : State :=
  match runOf s h i with
  | some r =>
    if r.step ≠ .measure then s
    else if eye < 16 then runAbort h r 7 s
    else runMod h i (fun x => { x with step := .verify, trn := 0 }) (putTrims h i r.lane t s)
  | none => s

/-- 1,024 good TRN words in a row: the run succeeds and ends with step 7 (R587). -/
def calVerifyPass (h : Half) (i : Nat) (s : State) : State :=
  match runOf s h i with
  | some r =>
    if r.step = .verify ∧ 1024 ≤ r.trn then
      steerRestore (aPort h i) (runMod h i (fun x => { x with step := .restoring })
        (lanePut h i r.lane R.CAL_LANE_VIEW_0_ABORTS 0 (lanePut h i r.lane R.CAL_LANE_VIEW_0_LAST_CAUSE 0 s)))
    else s
  | none => s

/-- Verification fails (R587, R588). -/
def calVerifyTimeout (h : Half) (i : Nat) (s : State) : State :=
  match runOf s h i with
  | some r => if r.step = .verify then runAbort h r 6 s else s
  | none => s

/-- CAL_CMD SWEEP marks every ACTIVE port of the half (R581, R591). -/
def calSweep (h : Half) (s : State) : State :=
  calBlock h ((List.range 32).foldl (fun t i => if apuState t (aPort h i) = asACTIVE then calMark h i t else t) s)

/-- CAL_CMD RUN marks one lane (R581, R591). -/
def calRunCmd (h : Half) (i k : Nat) (s : State) : State :=
  calBlock h (calMod h (fun c => { c with
    lanes := if c.lanes.contains (i % 32, k % 8) then c.lanes else c.lanes ++ [(i % 32, k % 8)] }) s)

/-- CAL_CMD ABORT, and EN written 0: every run ends with cause 10, nothing is marked, every sweep ends (R591, R593). A
run that is parking a STUCK lane or already steering back goes on to its end. -/
def calAbortAll (h : Half) (s : State) : State :=
  let c := s.cal.at h
  let s1 := calMod h (fun c => { c with marked := [], lanes := [], sweeps := [] }) s
  let s2 := c.sweeps.foldl (fun t _ => raise (pgCal h) 0 t) s1
  let s3 := (c.runs.filter (fun r => r.step != .restoring && r.step != .park)).foldl (fun t r => runAbort h r 10 t) s2
  wr (pgCal h) R.CAL_STAT_BLOCKED 0 s3

/-- CAL_CMD CLEAR_ABORTS (R591). -/
def calClearAborts (h : Half) (i : Nat) (s : State) : State :=
  (List.range 8).foldl (fun t k => lanePut h (i % 32) k R.CAL_LANE_VIEW_0_ABORTS 0 t) s

/-- CAL_CTRL.EN written (R591, R593). -/
def calEnWrite (h : Half) (en : Bool) (s : State) : State :=
  let s1 := wr (pgCal h) R.CAL_CTRL_EN (bit en) s
  if en then s1 else calAbortAll h s1

/-- REF100 is judged missing (2) or off (3): runs before the step abort, marked ports wait (R583, R588, R592). -/
def calRefLost (c : Nat) (h : Half) (s : State) : State :=
  calBlock h (((s.cal.at h).runs.filter beforeStep).foldl (fun t r => runAbort h r c t) s)

/-- REF_OK sets: the wait ends and every port is judged afresh (R583). -/
def calRefBack (h : Half) (s : State) : State := calTempCheck h (wr (pgCal h) R.CAL_STAT_BLOCKED 0 s)

end Sys2Proof.Machine
end

