-- ==== Sys2Proof/Machine/Counters.lean ====
section
/-!
DEFINITION. The counters of each register page that has a counter-clear register, in the order of their offsets.
-/
namespace Sys2Proof.Machine

/-- The counters of a PALETTE page (R155). -/
def palCounters : List Fld :=
  [R.PALETTE_CNT_ACCESS, R.PALETTE_CNT_ATN_TXN, R.PALETTE_CNT_NO_WINDOW, R.PALETTE_CNT_KEY_DENIED,
    R.PALETTE_CNT_WR_REJECT, R.PALETTE_CNT_AMO_REJECT, R.PALETTE_CNT_RMW]

/-- The counters of a CROSSING page (R192). -/
def crossCounters : List Fld :=
  [R.CROSSING_CNT_PW_FAIL, R.CROSSING_CNT_FAR_RD, R.CROSSING_CNT_NPW_FAIL, R.CROSSING_CNT_AMO_FAIL,
    R.CROSSING_CNT_LOCK, R.CROSSING_CNT_LOCK_BROKEN, R.CROSSING_CNT_WR_ERR, R.CROSSING_CNT_WRERR_ORPHAN,
    R.CROSSING_CNT_PWLOG_OVF, R.CROSSING_CNT_FARLOG_OVF, R.CROSSING_CNT_INB_PW, R.CROSSING_CNT_INB_DROP,
    R.CROSSING_CNT_INT, R.CROSSING_CNT_TRK_FULL]

/-- The counters of a LIGHT page (R232). -/
def lightCounters : List Fld :=
  [R.LIGHT_CNT_BEACON, R.LIGHT_CNT_BEACON_DROP, R.LIGHT_CNT_PHASE_JUMP, R.LIGHT_CNT_REACQUIRE,
    R.LIGHT_CNT_SUB_SENT, R.LIGHT_CNT_SUB_COALESCED]

/-- The counters of a SCHED page (R233). -/
def schedCounters : List Fld :=
  [R.SCHED_CNT_FIRED, R.SCHED_CNT_MISS_LATE, R.SCHED_CNT_MISS_STN, R.SCHED_CNT_HANDBACK, R.SCHED_CNT_VFY_TMO,
    R.SCHED_CNT_MARK_LOST, R.SCHED_CNT_BACKHITCH, R.SCHED_CNT_TAPE_STALL, R.SCHED_CNT_RES_REFUSED]

/-- The counters of an ERASURE page (R425). -/
def erasureCounters : List Fld :=
  [R.ERASURE_CNT_PARITY, R.ERASURE_CNT_SEAL_BAD, R.ERASURE_CNT_CRC_BAD, R.ERASURE_CNT_SCRUB, R.ERASURE_CNT_REPAIR,
    R.ERASURE_CNT_REVIVE, R.ERASURE_CNT_UNREADABLE, R.ERASURE_CNT_GS_BAD]

/-- The counters of a DIKAR page (R301). -/
def dikarCounters : List Fld :=
  [R.DIKAR_CNT_REQ, R.DIKAR_CNT_PUT, R.DIKAR_CNT_GET, R.DIKAR_CNT_APPEND, R.DIKAR_CNT_DELETE, R.DIKAR_CNT_STAT,
    R.DIKAR_CNT_FENCE, R.DIKAR_CNT_FAILED, R.DIKAR_CNT_RETRY_ELSEWHERE, R.DIKAR_CNT_PULL_FAIL,
    R.DIKAR_CNT_MEDIA_LOST, R.DIKAR_CNT_OBJ_GONE, R.DIKAR_CNT_MERGE_FAIL, R.DIKAR_CNT_BAD_MSG,
    R.DIKAR_CNT_NAME_REPAIR]

/-- The counters of a PLACE page (R269). -/
def placeCounters : List Fld :=
  [R.PLACE_CNT_STRIPE, R.PLACE_CNT_COMMIT, R.PLACE_CNT_REPLACE, R.PLACE_CNT_STALL, R.PLACE_CNT_NO_STRIPE,
    R.PLACE_CNT_RD_DIRECT, R.PLACE_CNT_RD_RECON, R.PLACE_CNT_SUPERSEDE, R.PLACE_CNT_SPINUP, R.PLACE_CNT_SPINDOWN,
    R.PLACE_CNT_MEMBER_LOST]

/-- The counters of a MATCH page (R337). -/
def matchCounters : List Fld :=
  [R.MATCH_CNT_MSG, R.MATCH_CNT_MATCH, R.MATCH_CNT_STEPS, R.MATCH_CNT_NO_MATCH, R.MATCH_CNT_OVF,
    R.MATCH_CNT_CTX_REJECT, R.MATCH_CNT_CTX_CLOSED, R.MATCH_CNT_CACHE_MISS, R.MATCH_CNT_DESC, R.MATCH_CNT_POLL,
    R.MATCH_CNT_CQ_REC, R.MATCH_CNT_CQ_FULL, R.MATCH_CNT_CQ_BAD_CI, R.MATCH_CNT_CQ_DISCARD, R.MATCH_CNT_AP_REJECT,
    R.MATCH_CNT_SALV_DUP, R.MATCH_CNT_SALV_EVICT]

/-- The counters of an EASEL page (R397). -/
def easelCounters : List Fld :=
  [R.EASEL_CNT_CORR, R.EASEL_CNT_UNCORR, R.EASEL_CNT_RETIRE, R.EASEL_CNT_DATA_LOST, R.EASEL_CNT_META_LOST,
    R.EASEL_CNT_WB_WAIT, R.EASEL_CNT_JRNL_WAIT, R.EASEL_CNT_CACHE_HIT, R.EASEL_CNT_CACHE_MISS,
    R.EASEL_CNT_CACHE_INVAL, R.EASEL_CNT_ELOG_OVF]

/-- The counters of a PROTECT page (R549). -/
def protectCounters : List Fld :=
  [R.PROTECT_CNT_PROPOSAL, R.PROTECT_CNT_COMMIT, R.PROTECT_CNT_EXPIRED, R.PROTECT_CNT_CONF_DUP,
    R.PROTECT_CNT_MGT_REJECT, R.PROTECT_CNT_EMERG]

/-- The counters of a PRIMACY page (R551). -/
def primacyCounters : List Fld :=
  [R.PRIMACY_CNT_GRANT, R.PRIMACY_CNT_LAPSE, R.PRIMACY_CNT_LOST]

/-- The counters of a COLLECTIVE page (R356). -/
def collCounters : List Fld :=
  [R.COLLECTIVE_CNT_COLL_OPEN, R.COLLECTIVE_CNT_COLL_OK, R.COLLECTIVE_CNT_COLL_PARTIAL,
    R.COLLECTIVE_CNT_COLL_ABANDON, R.COLLECTIVE_CNT_MEMBER, R.COLLECTIVE_CNT_MEMBER_REJECT, R.COLLECTIVE_CNT_EARLY,
    R.COLLECTIVE_CNT_NOTIFY, R.COLLECTIVE_CNT_CAP_WAIT]

/-- The counters of a HOST page (R504). -/
def hostCounters : List Fld :=
  [R.HOST_CNT_BAR_ERR, R.HOST_CNT_DP_ERR, R.HOST_CNT_LINK_DOWN]

/-- The counters of a MGMT page (R613). -/
def mgmtCounters : List Fld :=
  [R.MGMT_CNT_START, R.MGMT_CNT_HALF_RESET, R.MGMT_CNT_DEAD_DROP, R.MGMT_CNT_FW_FALLBACK]

/-- The counters of a KEEPER page (R573). -/
def keeperCounters : List Fld :=
  [R.KEEPER_CNT_WAKE, R.KEEPER_CNT_DRAIN, R.KEEPER_CNT_DRAIN_LATE, R.KEEPER_CNT_TRIP, R.KEEPER_CNT_RULE_EDGE]

/-- The counters of a CAL page (R593). -/
def calCounters : List Fld := [R.CAL_CNT_SWEEP, R.CAL_CNT_RUN_OK, R.CAL_CNT_ABORT, R.CAL_CNT_SKIP, R.CAL_CNT_STUCK]

end Sys2Proof.Machine
end

