-- ==== Sys2Proof/Machine/Crc64.lean ====
section
/-!
DEFINITION. The CRC-64 of R404 (blocks, digests, collectives) and the arithmetic of GF(2^8) (R402).
-/
namespace Sys2Proof.Machine

/-- The ECMA-182 polynomial (R404). -/
def crc64Poly : Nat := 0x42F0E1EBA9EA3693

/-- One bit step, most significant bit first (R404). -/
def crc64Bit (c : Nat) : Nat := if 2 ^ 63 ≤ c then (c * 2 % 2 ^ 64) ^^^ crc64Poly else c * 2

/-- One byte of the CRC-64 (R404). -/
def crc64Byte (c : Nat) (b : Byte) : Nat :=
  let x := c ^^^ (b.toNat * 2 ^ 56)
  crc64Bit (crc64Bit (crc64Bit (crc64Bit (crc64Bit (crc64Bit (crc64Bit (crc64Bit x)))))))

/-- The CRC-64 of bytes, going on from a value (R404). -/
def crc64From (c : Nat) (l : List Byte) : Nat := l.foldl crc64Byte c

/-- The CRC-64 of bytes: initial value 0, final XOR 0, not reflected (R404). -/
def crc64 (l : List Byte) : Nat := crc64From 0 l

/-- Multiplication by x in GF(2^8) with x^8 + x^4 + x^3 + x^2 + 1 (R402). -/
def gfX (a : Nat) : Nat := if 128 ≤ a then (a * 2 % 256) ^^^ 0x1D else a * 2

/-- Multiplication in GF(2^8), over the low `n` bits of `b` (R402). -/
def gfMulN : Nat → Nat → Nat → Nat
  | 0, _, _ => 0
  | n + 1, a, b => (if b % 2 = 1 then a else 0) ^^^ gfMulN n (gfX a) (b / 2)

/-- Multiplication in GF(2^8) (R402). -/
def gfMul (a b : Nat) : Nat := gfMulN 8 a b

/-- a^(2^n) in GF(2^8). -/
def gfSqN : Nat → Nat → Nat
  | 0, a => a
  | n + 1, a => gfSqN n (gfMul a a)

/-- The inverse in GF(2^8): a^254, the product of a^(2^i) for i from 1 to 7 (R402). -/
def gfInv (a : Nat) : Nat :=
  gfMul (gfSqN 1 a) (gfMul (gfSqN 2 a) (gfMul (gfSqN 3 a) (gfMul (gfSqN 4 a) (gfMul (gfSqN 5 a)
    (gfMul (gfSqN 6 a) (gfSqN 7 a))))))

/-- C[i][j] = Y_j ⊗ (X_i ⊕ Y_j)^-1 with X_i = i and Y_j = j + 4 (R402). -/
def gfCoef (i j : Nat) : Nat := gfMul (j + 4) (gfInv (i ^^^ (j + 4)))

end Sys2Proof.Machine
end

