-- ==== Sys2Proof/Machine/Pages.lean ====
section
/-!
DEFINITION. What the object engines share: numbers, write buffer pages, the content of an object's bytes in Easel, and
the read cache (R285, R373-R378).
-/
namespace Sys2Proof.Machine

/-- What a half's placement, erasure and Easel services hold. -/
def plMod (h : Half) (f : PlaceHalf → PlaceHalf) (s : State) : State := { s with place := s.place.put h (f (s.place.at h)) }

def objMod (f : Objects → Objects) (s : State) : State := { s with objs := f s.objs }

/-- Placement of light `l` beside its registers. -/
def plt (s : State) (l : Nat) : PLight := tget {} s.objs.lights l

def pltMod (l : Nat) (f : PLight → PLight) (s : State) : State :=
  objMod (fun o => { o with lights := tput {} o.lights l (f (tget {} o.lights l)) }) s

/-- The next number of a write, a stripe record or a plan used up. -/
def nextUse (s : State) : State := objMod (fun o => { o with next := o.next + 1 }) s

/-- The half of an OBJ_ID: bit 63 (R276). -/
def objHome (obj : Nat) : Half := if obj.testBit 63 then .east else .west

/-! Pages (R373-R376). -/

/-- A carve is in force (R364, R365). -/
def carved (s : State) : Bool := rd s pgEaselG R.EZG_CARVE_NAME_LOG2 != 0

/-- Pages of a half's write buffer (R363, R373, R397). -/
def wbTotal (s : State) : Nat := if carved s then wbufBytes s / panelBytes else 0

/-- Pages kept back from pulls (R374, R398). -/
def wbReserve (s : State) (h : Half) : Nat :=
  wbTotal s * min 20 (max 1 (rd s (pgEasel h) R.EZ_CTRL_RESERVE_PCT)) / 100

/-- The Easel address of page `p` of a half's write buffer. -/
def pageAddr (s : State) (h : Half) (p : Nat) : Nat := ezAddr h (regionBase s 9 + p * panelBytes)

/-- The lowest free page; a pull's must leave the reserve (R374). -/
def freePage (s : State) (h : Half) (pull : Bool) : Option Nat :=
  let u := (s.place.at h).used
  if pull && decide (wbTotal s - wbReserve s h < u.length + 1) then none else firstFree u (wbTotal s) 0

def takePage (h : Half) (p : Nat) (s : State) : State := plMod h (fun x => { x with used := x.used ++ [p] }) s

/-- `n` pages for work other than pulls, all or none (R374). -/
def takePages (h : Half) : Nat → State → Option (List Nat × State)
  | 0, s => some ([], s)
  | n + 1, s =>
    match freePage s h false with
    | none => none
    | some p => (takePages h n (takePage h p s)).map (fun r => (p :: r.1, r.2))

/-! Writes and the bytes they hold (R283-R285, R373). -/

def wrGet (s : State) (id : Nat) : Option Write := s.objs.writes.find? (fun w => w.id == id)

def wrMod (id : Nat) (f : Write → Write) (s : State) : State :=
  objMod (fun o => { o with writes := o.writes.map (fun w => if w.id = id then f w else w) }) s

/-- A write's range covers a byte. -/
def covers (w : Write) (o : Nat) : Bool := w.ranges.any (fun r => decide (r.1 ≤ o ∧ o < r.1 + r.2))

/-- A write's page for 64 KiB unit `p` of the object. -/
def wrPage (w : Write) (p : Nat) : Option WPg := w.pages.find? (fun g => g.panel == p)

/-- Writes of an object in effect that hold unit `p` in a page that `sel` picks, the latest first. -/
def unitWrites (s : State) (obj p : Nat) (sel : Write → WPg → Bool) : List (Write × WPg) :=
  let ws := (s.objs.writes.filter (fun w => w.obj == obj && w.ord != 0)).filterMap (fun w =>
    match wrPage w p with
    | some g => if sel w g then some (w, g) else none
    | none => none)
  ws.foldl (fun acc x => (acc.takeWhile (fun y => decide (x.1.ord < y.1.ord))) ++ [x] ++
    (acc.dropWhile (fun y => decide (x.1.ord < y.1.ord)))) []

/-- Writes whose stripe for unit `p` has not been committed (R29, R256). -/
def liveWrites (s : State) (obj p : Nat) : List (Write × WPg) := unitWrites s obj p (fun _ g => !g.settled)

/-- Byte `i` of a unit: the latest write that covers it, else `base` (R285). -/
def unitByte (s : State) (p i : Nat) (base : Byte) : List (Write × WPg) → Byte
  | [] => base
  | (w, g) :: r =>
    if covers w (p * panelBytes + i) then ezByte s (pageAddr s g.half g.page + i) else unitByte s p i base r

/-- The 65,536 bytes of a unit over the bytes of `base`; bytes at or beyond SIZE are zero (R285). -/
def unitBytes (s : State) (p size : Nat) (ws : List (Write × WPg)) (base : Option Nat) : List Byte :=
  (List.range panelBytes).map (fun i =>
    if size ≤ p * panelBytes + i then 0
    else unitByte s p i (match base with
      | some a => ezByte s (a + i)
      | none => 0) ws)

/-- Some byte of a unit below SIZE, from offset `lo` to `hi`, is covered by no write. -/
def unitGap (p lo hi : Nat) (ws : List (Write × WPg)) : Bool :=
  (List.range (hi - lo)).any (fun i => !ws.any (fun x => covers x.1 (p * panelBytes + lo + i)))

/-! The read cache (R377, R378). -/

/-- Panels that the cache holds: CACHE_GIB of 64 KiB (R363, R377). -/
def cacheSize (s : State) : Nat := rd s pgEaselG R.EZG_CARVE_CACHE_GIB * 2 ^ 14

/-- The Easel address of a cache panel's bytes. -/
def cacheAddr (s : State) (h : Half) (place : Nat) : Nat := ezAddr h (regionBase s 8 + place * panelBytes)

def cacheGet (s : State) (h : Half) (obj p : Nat) : Option CachePanel :=
  (s.place.at h).cache.find? (fun c => c.obj == obj && c.panel == p)

/-- A cache lookup: a hit becomes the most recently used (R377). -/
def cacheLook (h : Half) (obj p : Nat) (s : State) : State × Option Nat :=
  let P := pgEasel h
  match cacheGet s h obj p with
  | some c =>
    (plMod h (fun x => { x with
      cache := x.cache.filter (fun y => y != c) ++ [c], hits := x.hits + 1, looks := x.looks + 1 })
      (bump P R.EASEL_CNT_CACHE_HIT s), some c.place)
  | none => (plMod h (fun x => { x with looks := x.looks + 1 }) (bump P R.EASEL_CNT_CACHE_MISS s), none)

/-- Cache panels and fills of an object's units that `sel` picks are dropped, each panel counted (R378). -/
def cacheDrop (obj : Nat) (sel : Nat → Bool) (s : State) : State :=
  let h := objHome obj
  let hit := (s.place.at h).cache.filter (fun c => c.obj == obj && sel c.panel)
  bumpBy (pgEasel h) R.EASEL_CNT_CACHE_INVAL hit.length (plMod h (fun x => { x with
    cache := x.cache.filter (fun c => !(c.obj == obj && sel c.panel)),
    fills := x.fills.filter (fun c => !(c.obj == obj && sel c.panel)) }) s)

/-- The units that a range touches. -/
def rangeUnits (off len : Nat) : List Nat :=
  if len = 0 then []
  else (List.range ((off + len - 1) / panelBytes + 1 - off / panelBytes)).map (fun i => off / panelBytes + i)

/-! Lost ranges (R389). -/

/-- A range overlaps a lost range of the object. -/
def lostHit (s : State) (obj off len : Nat) : Bool :=
  (s.place.at (objHome obj)).lost.any (fun r =>
    r.obj == obj && decide (r.off < off + len ∧ off < r.off + r.len))

/-- What is left of a lost range over which `off`, `len` is written. -/
def lostTrim (off len : Nat) (r : LostRange) : List LostRange :=
  let e := r.off + r.len
  if off + len ≤ r.off ∨ e ≤ off then [r]
  else
    (if r.off < off then [{ r with len := off - r.off }] else []) ++
      (if off + len < e then [{ r with off := off + len, len := e - (off + len) }] else [])

/-- A write in effect trims or removes lost ranges (R389). -/
def lostWrite (obj off len : Nat) (s : State) : State :=
  plMod (objHome obj) (fun x => { x with
    lost := (x.lost.map (fun r => if r.obj = obj then lostTrim off len r else [r])).flatten,
    lostOwed := (x.lostOwed.map (fun r => if r.obj = obj then lostTrim off len r else [r])).flatten }) s

end Sys2Proof.Machine
end

