-- ==== Sys2Proof/Machine/Place.lean ====
section
/-!
DEFINITION. Placement (chapter 07): groups, parameter sets, tracks and runs, eligibility, the choice of a stripe's
members, and spin-up and spin-down (R235-R247, R260).
-/
namespace Sys2Proof.Machine

/-! Groups and parameter sets (R240, R260, R261, R264). -/

def grpF (s : State) (h : Half) (g : Nat) (f : Fld) : Nat :=
  tgetBy (rdI s pgPlaceG f g) (s.place.at h).plg (f.key pgPlaceG g)
def grpK (s : State) (h : Half) (g : Nat) : Nat := grpF s h g R.PLG_GRP_VIEW_0_K
def grpM (s : State) (h : Half) (g : Nat) : Nat := grpF s h g R.PLG_GRP_VIEW_0_M
/-- s of group `g`. -/
def grpS (s : State) (h : Half) (g : Nat) : Nat := grpF s h g R.PLG_GRP_VIEW_0_STRIP + 1
/-- KIND: 1 disc, 2 tape. -/
def grpKind (s : State) (h : Half) (g : Nat) : Nat := grpF s h g R.PLG_GRP_VIEW_0_KIND
def grpEn (s : State) (h : Half) (g : Nat) : Bool := g != 255 && grpF s h g R.PLG_GRP_VIEW_0_EN == 1
def grpSpin (s : State) (h : Half) (g : Nat) : Bool := grpF s h g R.PLG_GRP_VIEW_0_SPIN_MGD == 1

/-! The boundaries of PLACE_GLOBAL (R268, R497, R499). -/

/-- What a field of PLACE_GLOBAL will hold once the captured entries are in force. -/
def plgNext (s : State) (h : Half) (g : Nat) (f : Fld) : Nat := tgetBy (grpF s h g f) s.captured (f.key pgPlaceG g)

/-- A group edit that R268 lets in. -/
def grpEditOk (s : State) (h : Half) (g : Nat) : Bool :=
  let v := plgNext s h g
  v R.PLG_GRP_VIEW_0_EN == 0 ||
    decide (1 ≤ v R.PLG_GRP_VIEW_0_K ∧ v R.PLG_GRP_VIEW_0_K ≤ 16 ∧ v R.PLG_GRP_VIEW_0_M ≤ 4 ∧
      v R.PLG_GRP_VIEW_0_DOMAIN_MIN ≤ 2 ∧ (v R.PLG_GRP_VIEW_0_KIND = 1 ∨ v R.PLG_GRP_VIEW_0_KIND = 2))

/-- An entry of a group's VIEW[0]. -/
def isGrpKey (g : Nat) (k : RKey) : Bool := k.page == pgPlaceG && k.off == R.PLG_GRP_VIEW_0_EN.off && k.idx == g

/-- A captured edit of group `g` that R268 refuses is dropped with CFG_REJECT. -/
def grpRefuse (h : Half) (s : State) (g : Nat) : State :=
  if grpEditOk s h g then s
  else cfgReject pgPlaceG R.PLG_GRP_VIEW_0_EN.off 3 .staged none
    { s with captured := s.captured.filter (fun e => !isGrpKey g e.1) }

/-- Captured entries of PLACE_GLOBAL that `sel` picks take effect on half `h`; those that both halves have taken are in
force (R497, R499). -/
def plgBoundary (h : Half) (sel : RKey → Bool) (s : State) : State :=
  let mine := (s.place.at h).plg
  let hit := s.captured.filter (fun e => e.1.page == pgPlaceG && sel e.1 && !mine.any (fun x => x.1 == e.1))
  let s1 := plMod h (fun x => { x with plg := x.plg ++ hit }) s
  let both := fun (k : RKey) => (s1.place.west).plg.any (fun x => x.1 == k) && (s1.place.east).plg.any (fun x => x.1 == k)
  let s2 := (s1.captured.filter (fun e => both e.1)).foldl (fun t e => putKey e.1 e.2 t) s1
  let left := fun (l : RTable) => l.filter (fun e => !both e.1)
  plMod .east (fun x => { x with plg := left x.plg }) (plMod .west (fun x => { x with plg := left x.plg })
    { s2 with captured := left s2.captured })

/-- A half's next stripe choice is the boundary of the groups (R499). -/
def groupBoundary (h : Half) (s : State) : State :=
  let gs := ((s.captured.filter (fun e => e.1.page == pgPlaceG && e.1.off == R.PLG_GRP_VIEW_0_EN.off)).map (·.1.idx)).dedup
  plgBoundary h (fun k => k.off != R.PLG_POLICY_ADDR.off)
    ((gs.filter (fun g => !(s.place.at h).plg.any (fun e => isGrpKey g e.1))).foldl (fun t g => grpRefuse h t g) s)

/-- 64 KiB units of one panel: 1 disc, 16 tape (R235, R373). -/
def kindUnits (kind : Nat) : Nat := if kind = 2 then 16 else 1

/-- The parameter set of group `g` on half `h` (R261-R264). -/
def grpSet (s : State) (h : Half) (g : Nat) : ParamSet :=
  match (s.place.at h).policy with
  | none => {}
  | some p =>
    let d := grpF s h g R.PLG_GRP_VIEW_0_SET
    let i := ((((s.place.at h).setOf.find? (fun x => x.1 == g)).map (·.2)).getD d)
    (p.sets[if i < p.sets.length then i else 0]?).getD {}

/-! Placement records (R270). -/

def plV (s : State) (l : Nat) (f : Fld) : Nat := rdI s (pgPlace (lHalf l)) f l
def plPut (l : Nat) (f : Fld) (v : Nat) (s : State) : State := wrI (pgPlace (lHalf l)) f l v s

def lightGroup (s : State) (l : Nat) : Nat := plV s l R.PL_LIGHT_VIEW_0_GROUP
def wrOff (s : State) (l : Nat) : Bool := plV s l R.PL_LIGHT_VIEW_0_WR_OFF == 1
def curTrack (s : State) (l : Nat) : Nat := plV s l R.PL_LIGHT_VIEW_0_CUR_TRACK
def wear (s : State) (l : Nat) : Nat := plV s l R.PL_LIGHT_VIEW_0_WEAR

/-- Panels of a light: slots of every track, or tape blocks (R270). -/
def capacity (s : State) (l : Nat) : Nat :=
  lV s l R.LL_VIEW_3_EXTENT * (if isDisc s l then lV s l R.LL_VIEW_3_SLOTS else 1)

/-- A light's descriptor makes it eligible (R236). -/
def geomOk (s : State) (l : Nat) : Bool :=
  let d := (lgt s l).desc
  if isDisc s l then d.slotBytes == panelBytes && decide (1 ≤ d.geometry ∧ d.geometry ≤ 64)
  else lV s l R.LL_VIEW_0_KIND == 2 && d.geometry == tapeBytes

/-- FREE changed by `d`, not below zero. -/
def freeAdd (l : Nat) (d : Int) (s : State) : State :=
  plPut l R.PL_LIGHT_VIEW_1_FREE ((plV s l R.PL_LIGHT_VIEW_1_FREE : Int) + d).toNat s

/-- `n` panels more written: WEAR (R270). -/
def wearAdd (l n : Nat) (s : State) : State :=
  let w := (plt s l).written + n
  let c := capacity s l
  plPut l R.PL_LIGHT_VIEW_0_WEAR (if c = 0 then (min 65535 (Config.quotZero (w * 256)).toNat) else min 65535 (w * 256 / c))
    (pltMod l (fun x => { x with written := w }) s)

/-! Tracks and runs (R237, R238, R248, R251). -/

/-- The word of a track: bit s is set while slot s holds a live panel; all ones after an uncorrectable error (R237,
R388). -/
def trackWord (s : State) (l t : Nat) : Nat :=
  if (plt s l).badTracks.contains t then 2 ^ 64 - 1 else tget 0 (plt s l).tracks t

/-- Two runs of one track have a slot in common. -/
def runsMeet (a n b m : Nat) : Bool := decide (a < b + m ∧ b < a + n)

/-- A pending write or repair has claimed a slot of the run, or a read that chose it has not ended (R237, R251). -/
def runClaimed (s : State) (l t a n : Nat) : Bool :=
  s.objs.stripes.any (fun x => x.kind == 1 && x.members.any (fun y =>
      (y.st == .flying || y.st == .pass) && y.light == l && y.track == t && runsMeet a n y.slot x.s)) ||
    s.objs.plans.any (fun x => x.kind == 1 && x.parts.any (fun y =>
      y.st == 0 && y.light == l && y.track == t && runsMeet a n y.slot x.s))

/-- The run holds a listed one's slot (R248). -/
def runBad (s : State) (l t a n : Nat) : Bool :=
  (plt s l).bad.any (fun b => b.1 == t && runsMeet a n b.2.1 b.2.2)

/-- A run of `n` free slots of track `t` from slot `a` (R237). -/
def runFree (s : State) (l t a n : Nat) : Bool :=
  decide (a + n ≤ lV s l R.LL_VIEW_3_SLOTS) && !((List.range n).any (fun i => (trackWord s l t).testBit (a + i))) &&
    !runClaimed s l t a n && !runBad s l t a n

/-- Start slots of the free runs of a track. -/
def trackRuns (s : State) (l t n : Nat) : List Nat :=
  (List.range (lV s l R.LL_VIEW_3_SLOTS)).filter (fun a => runFree s l t a n)

/-- The tracks after `t` that hold a free run, at most `left`, with their runs (R238). -/
def scanTracks (s : State) (l n : Nat) : Nat → Nat → Nat → List (Nat × Nat)
  | 0, _, _ => []
  | _ + 1, _, 0 => []
  | fuel + 1, t, left + 1 =>
    let rs := trackRuns s l t n
    let t' := if lV s l R.LL_VIEW_3_EXTENT ≤ t + 1 then 0 else t + 1
    if rs.isEmpty then scanTracks s l n fuel t' (left + 1)
    else rs.map (fun a => (t, a)) ++ scanTracks s l n fuel t' left

/-- The free runs that R238 reaches: track and slot. -/
def reachedRuns (s : State) (l n : Nat) : List (Nat × Nat) :=
  let e := lV s l R.LL_VIEW_3_EXTENT
  let c := curTrack s l
  (trackRuns s l c n).map (fun a => (c, a)) ++ scanTracks s l n (e - 1) (if e ≤ c + 1 then 0 else c + 1) 15

/-- Slot bits of a run in a track's word. -/
def runMask (a n : Nat) : Nat := ((List.range n).map (fun i => 2 ^ (a + i))).sum

/-- A run's bits set or cleared in the track table (R250). -/
def markRun (l t a n : Nat) (live : Bool) (s : State) : State :=
  pltMod l (fun x => { x with
    tracks := tput 0 x.tracks t
      (if live then tget 0 x.tracks t ||| runMask a n
       else tget 0 x.tracks t ^^^ (tget 0 x.tracks t &&& runMask a n)) }) s

/-- A run put into the light's bad-run list; a full list sets WR_OFF and raises BAD_RUN_FULL (R248). -/
def badRun (l t a n : Nat) (s : State) : State :=
  let b := (plt s l).bad
  if b.contains (t, a, n) ∨ 64 ≤ b.length then s
  else
    let s1 := pltMod l (fun x => { x with bad := x.bad ++ [(t, a, n)] }) s
    if b.length + 1 = 64 then raise (pgPlace (lHalf l)) 5 (plPut l R.PL_LIGHT_VIEW_0_WR_OFF 1 s1) else s1

/-! The instant of a run (R244). Instants are counted in 2^-32 ns. -/

def ns32 (t : Int) : Int := t * 2 ^ 32

/-- The earliest instant at which slot `a` of track `t` comes under the head, with `x` the transfer time; another track
than CUR_TRACK costs SEEK_NS. -/
def runInstant (s : State) (l t a x seek : Nat) : Int :=
  let g := lgt s l
  let ang : Int := slotAngle s l a
  let d := ang - leadAngle s l x (slackOf s l)
  let lo := max (nowH s (lHalf l) + 1000) (plV s l R.PL_LIGHT_VIEW_2_BUSY_UNTIL)
  let m := firstRev s l d lo
  g.tref * 65536 + (m * 65536 + ang) * g.period + (if t = curTrack s l then 0 else ns32 seek)

/-- A run with its instant. -/
structure RunAt where
  t : Int
  track : Nat
  slot : Nat
deriving DecidableEq, Repr

/-- Run `a` goes before run `b`: sooner, on CUR_TRACK, lower track, lower slot (R244). -/
def runBefore (c : Nat) (a b : RunAt) : Bool :=
  decide (a.t < b.t) || (decide (a.t = b.t) && (
    if a.track = c ∧ b.track ≠ c then true
    else if b.track = c ∧ a.track ≠ c then false
    else decide (a.track < b.track) || (a.track == b.track && decide (a.slot < b.slot))))

/-- The first of a list under an order. -/
def bestBy {α : Type} (lt : α → α → Bool) : List α → Option α
  | [] => none
  | x :: r =>
    match bestBy lt r with
    | none => some x
    | some y => if lt y x then some y else some x

/-- The run of `n` slots that R244 chooses on a disc light. -/
def discRun (s : State) (l n seek : Nat) : Option RunAt :=
  let x := xferNs s l 1 n
  bestBy (runBefore (curTrack s l)) ((reachedRuns s l n).map (fun r => ⟨runInstant s l r.1 r.2 x seek, r.1, r.2⟩))

/-- Bytes of a stream not sent and queued (R244). -/
def streamAhead (x : Stream) : Nat :=
  ((x.blocks.map (fun b => (16 - b.chunks) * panelBytes)).sum) +
    ((x.srcs.filter (fun p => decide (x.fillOrd ≤ p.ord))).length * tapeBytes)

/-- The tape block after every panel that the stream has taken (R239). -/
def streamTail (x : Stream) : Nat :=
  x.nextBlock + (x.srcs.filter (fun p => !((x.blocks ++ x.lapped).any (fun b => b.ord == p.ord && b.vtag.isSome)))).length

/-- T of a tape light with an open stream that has room for `n` blocks (R243, R244). -/
def tapeRun (s : State) (l n : Nat) : Option RunAt :=
  match strOfLight s l with
  | none => none
  | some (_, x) =>
    if streamTail x + n ≤ lV s l R.LL_VIEW_3_EXTENT then
      some ⟨openDiv (ns32 (nowH s (lHalf l) * x.res) + ns32 (streamAhead x * 1000000000)) x.res, 0, 0⟩
    else none

/-! Eligibility (R243). -/

/-- A light of group `g` stands well for a new member, apart from its run (R243). -/
def lightEligible (s : State) (home : Half) (g l : Nat) : Bool :=
  let p := lightPort s l
  let x := lgt s l
  let ps := grpSet s home g
  x.bound && lightGroup s l == g && grpEn s home g && lV s l R.LL_VIEW_0_KIND == grpKind s home g && geomOk s l &&
    stnObject s p (lightStn s l) && x.reach && apuState s p == asACTIVE && lightState s l == lsLIT &&
    !rdBI s (pgL l) R.LL_VIEW_6_HOLD l && !wrOff s l &&
    (let hl := lV s l R.LL_VIEW_0_HEALTH
     hl == 0 || (hl == 1 && ps.suspectUse)) &&
    decide (wear s l ≤ ps.wearCap) && (!isDisc s l || (plt s l).tbl.isSome)

/-- A candidate of a choice: its light, the run and its instant. -/
structure Cand where
  light : Nat
  run : RunAt
deriving DecidableEq, Repr

/-- The lights eligible for a new member of a stripe of group `g` with `n` panels, none of `used` (R243). -/
def candidates (s : State) (home : Half) (g n : Nat) (used : List Nat) : List Cand :=
  (s.lights.map (·.1)).filterMap (fun l =>
    if lightEligible s home g l && !used.contains l then
      ((if isDisc s l then discRun s l n (grpSet s home g).seekNs else tapeRun s l n).map (fun r => ⟨l, r⟩))
    else none)

/-! Failure domains (R242). -/

/-- The domain of a light at level 0 UNIT, 1 STATION, 2 PORT. -/
def domain (s : State) (lv l : Nat) : Nat :=
  if lv = 2 then lightPort s l else if lv = 1 then lightPort s l * 16 + lightStn s l else l

/-- The highest level at which candidates offer `n` domains outside `taken` (R242, R248). -/
def levelOf (s : State) (cs : List Cand) (taken : List Nat) (n : Nat) : Option Nat :=
  [2, 1, 0].find? (fun lv =>
    let old := taken.map (domain s lv)
    decide (n ≤ (((cs.map (fun c => domain s lv c.light)).filter (fun d => !old.contains d)).dedup).length))

/-! One pick of R245. -/

def minT (cs : List Cand) : Option Int := (cs.map (fun c => c.run.t)).foldl (fun b t => match b with
  | none => some t
  | some x => some (min x t)) none

/-- Lowest WEAR, then lowest T, then lowest light number (R245). -/
def candBefore (s : State) (a b : Cand) : Bool :=
  decide (wear s a.light < wear s b.light) || (wear s a.light == wear s b.light &&
    (decide (a.run.t < b.run.t) || (decide (a.run.t = b.run.t) && decide (a.light < b.light))))

/-- One member picked among candidates whose domain at level `lv` no earlier member has taken (R245). -/
def pickMember (s : State) (home : Half) (ps : ParamSet) (lv : Nat) (taken : List Nat) (cs : List Cand) :
    Option Cand :=
  let old := taken.map (domain s lv)
  let c := cs.filter (fun x => !old.contains (domain s lv x.light))
  let ch := c.filter (fun x => decide (lHalf x.light = home))
  let co := c.filter (fun x => decide (lHalf x.light ≠ home))
  let away :=
    match minT co, minT ch with
    | some to_, some th => ps.halfSlack != 0xFFFFFFFF && decide (to_ + ns32 ps.halfSlack < th)
    | _, none => true
    | none, _ => false
  let c1 := if !ch.isEmpty && !away then ch else c
  match minT c1 with
  | none => none
  | some t => bestBy (candBefore s) (c1.filter (fun x => decide (x.run.t ≤ t + ns32 ps.angleBand)))

/-- `n` members picked in order (R245). -/
def pickAll (s : State) (home : Half) (ps : ParamSet) (lv : Nat) (cs : List Cand) : Nat → List Nat → Option (List Cand)
  | 0, _ => some []
  | n + 1, taken =>
    match pickMember s home ps lv taken cs with
    | none => none
    | some c => (pickAll s home ps lv (cs.filter (fun x => x.light != c.light)) n (taken ++ [c.light])).map (c :: ·)

/-- The members of a stripe of group `g` (R242, R245). -/
def chooseStripe (s : State) (home : Half) (g k m n : Nat) : Option (List Cand) :=
  let cs := candidates s home g n []
  match levelOf s cs [] (k + m) with
  | some lv => if grpF s home g R.PLG_GRP_VIEW_0_DOMAIN_MIN ≤ lv then pickAll s home (grpSet s home g) lv cs (k + m) [] else none
  | none => none

/-- One member placed again, the stripe's other members at `taken` (R248). -/
def chooseOne (s : State) (home : Half) (g n : Nat) (taken : List Nat) : Option Cand :=
  let cs := candidates s home g n taken
  match levelOf s cs taken 1 with
  | some lv =>
    if grpF s home g R.PLG_GRP_VIEW_0_DOMAIN_MIN ≤ lv then pickMember s home (grpSet s home g) lv taken cs else none
  | none => none

/-! Spin-up and spin-down (R247). -/

/-- Raw rate of a disc light: SLOTS × 65,536 bytes over PERIOD, as the numerator over 2^-16 ns and the period. -/
def rawRate (s : State) (l : Nat) : Rat :=
  let p := (lgt s l).period
  if p = 0 then (Config.quotZero (lV s l R.LL_VIEW_3_SLOTS * 65536) : Rat)
  else ((lV s l R.LL_VIEW_3_SLOTS * 65536 * 65536 : Nat) : Rat) / (p : Rat)

/-- Raw rate that the descriptor's period gives a light that is not turning. -/
def nominalRate (s : State) (l : Nat) : Rat :=
  let p := (lgt s l).desc.period
  if p = 0 then (Config.quotZero (lV s l R.LL_VIEW_3_SLOTS * 65536) : Rat)
  else ((lV s l R.LL_VIEW_3_SLOTS * 65536 : Nat) : Rat) / (p : Rat)

/-- Raw rates of the LIT disc lights of OBJECT stations on A[n] (R247). -/
def litRate (s : State) (n : Nat) : Rat :=
  ((portLights s n).filter (fun l => isDisc s l && lightState s l == lsLIT && stnObject s n (lightStn s l))).foldl
    (fun a l => a + rawRate s l) 0

/-- The fill limit of group `g` on half `h`: SPIN_FILL_PCT percent of 24 bytes per ns (R247). -/
def fillLimit (s : State) (h : Half) (g : Nat) : Rat := ((min 95 (grpSet s h g).spinFill * 24 : Nat) : Rat) / 100

/-- A SPIN_UP or SPIN_DOWN without VERIFY is on its way to the light's unit. -/
def spinPending (s : State) (l op : Nat) : Bool := (s.sched.at (lHalf l)).cmds.any (fun c => c.light == l && c.op == op)

/-- SPINUP_DW of the half's units in SPINNING_UP, a SPIN_UP on its way counted (R247). -/
def spinLoad (s : State) (h : Half) : Nat :=
  ((s.lights.filter (fun x => x.2.bound && decide (lHalf x.1 = h) && (x.2.unitState == 2 || spinPending s x.1 3))).map
    (fun x => x.2.desc.spinDw)).sum

/-- Both limits of R247 hold for a SPIN_UP of light `l` in group `g`. -/
def spinAllowed (s : State) (g l : Nat) : Bool :=
  let h := lHalf l
  decide (spinLoad s h + (lgt s l).desc.spinDw ≤ rd s (pgPlace h) R.PL_SPIN_SPINUP_BUDGET) &&
    decide (litRate s (lightPort s l) + nominalRate s l ≤ fillLimit s h g) && cmdRoom s l

/-- SPIN_UP sent to light `l` (R247). -/
def spinUp (l : Nat) (s : State) : State := bump (pgPlace (lHalf l)) R.PLACE_CNT_SPINUP (plainCmd l 3 0 s)

/-- SPIN_DOWN sent to light `l` (R247). -/
def spinDown (l : Nat) (s : State) : State := bump (pgPlace (lHalf l)) R.PLACE_CNT_SPINDOWN (plainCmd l 4 0 s)

/-- A light is held by a pending event or a read (R247). -/
def lightBusy (s : State) (l : Nat) : Bool :=
  ((s.sched.at (lHalf l)).events ++ (s.sched.at (lHalf l)).wait).any (fun e => e.light == l)

/-- The units that a SPIN_UP may take: STOPPED, of the group, usable, lowest WEAR, then lowest light number (R247). -/
def spinBefore (s : State) (a b : Nat) : Bool :=
  decide (wear s a < wear s b) || (wear s a == wear s b && decide (a < b))

/-- A stopped unit of group `g` that `sel` picks (R247). -/
def spinChoice (s : State) (g : Nat) (sel : Nat → Bool) : Option Nat :=
  bestBy (spinBefore s) ((s.lights.map (·.1)).filter (fun l =>
    let x := lgt s l
    x.bound && x.present && x.reach && isDisc s l && lightGroup s l == g && x.unitState == 1 && !spinPending s l 3 &&
      lightState s l == lsIDLE && stnObject s (lightPort s l) (lightStn s l) &&
      apuState s (lightPort s l) == asACTIVE && sel l))

/-- A SPIN_UP of light `l` of group `g` goes out, or waits on a limit: SPIN_LIMIT once per wait (R247). -/
def spinTry (h : Half) (g l : Nat) (s : State) : State :=
  if spinAllowed s g l then plMod h (fun x => { x with spinLimit := false }) (spinUp l s)
  else raiseIf (!(s.place.at h).spinLimit) (pgPlace h) 3 (plMod h (fun x => { x with spinLimit := true }) s)

/-- The group keeps K + M eligible lights at DOMAIN_MIN without light `l` (R247). -/
def spareable (s : State) (h : Half) (g l : Nat) : Bool :=
  let ls := (s.lights.map (·.1)).filter (fun x => x != l && lightEligible s h g x)
  decide (grpK s h g + grpM s h g ≤ ((ls.map (domain s (grpF s h g R.PLG_GRP_VIEW_0_DOMAIN_MIN))).dedup).length)

/-- The port of light `l` turns more than its fill limit, and no idle light of the port has been idle longer (R247). -/
def overFill (s : State) (h : Half) (g l : Nat) : Bool :=
  let n := lightPort s l
  decide (fillLimit s h g < litRate s n) &&
    ((portLights s n).filter (fun x => lightState s x == lsLIT && isDisc s x && !lightBusy s x &&
      grpSpin s h (lightGroup s x))).all (fun x =>
        decide ((lgt s l).idleSince < (lgt s x).idleSince ∨ ((lgt s l).idleSince = (lgt s x).idleSince ∧ l ≤ x)))

/-- An idle unit spins down: idle for IDLE_S with enough lights left, or the longest idle of a port over its limit
(R247). -/
def spinDownIdle (l : Nat) (s : State) : State :=
  let h := lHalf l
  let g := lightGroup s l
  if isDisc s l && grpSpin s h g && grpEn s h g && lightState s l == lsLIT && !lightBusy s l && !spinPending s l 4 &&
      cmdRoom s l && (overFill s h g l || spareable s h g l) then spinDown l s
  else s

/-! The end of an event's slots (R244). -/

/-- BUSY_UNTIL after an event of `n` slots at instant `t` in 2^-32 ns. -/
def setBusy (l n : Nat) (t : Int) (s : State) : State :=
  let sl : Int := lV s l R.LL_VIEW_3_SLOTS
  plPut l R.PL_LIGHT_VIEW_2_BUSY_UNTIL (openDiv (t * sl + n * (lgt s l).period * 65536) (sl * 2 ^ 32)).toNat s

end Sys2Proof.Machine
end

