-- ==== Sys2Proof/Machine/Stripe.lean ====
section
/-!
DEFINITION. Stripes from their bytes to the map: parity, seals and their checks, the map, read plans, merges, the choice
of members, commits, and what a light's changes do to them (chapter 07 R246-R259, chapter 08 R284-R285, chapter 12
R402-R410, R414-R417).
-/
namespace Sys2Proof.Machine

def stpGet (s : State) (id : Nat) : Option Stripe := s.objs.stripes.find? (fun x => x.id == id)

def stpMod (id : Nat) (f : Stripe → Stripe) (s : State) : State :=
  objMod (fun o => { o with stripes := o.stripes.map (fun x => if x.id = id then f x else x) }) s

/-- Member `m` of a stripe record changed. -/
def smMod (m : Nat) (f : SMember → SMember) (x : Stripe) : Stripe :=
  { x with members := x.members.mapIdx (fun i y => if i = m then f y else y) }

def planGet (s : State) (id : Nat) : Option Plan := s.objs.plans.find? (fun x => x.id == id)

def planMod (id : Nat) (f : Plan → Plan) (s : State) : State :=
  objMod (fun o => { o with plans := o.plans.map (fun x => if x.id = id then f x else x) }) s

def planDrop (id : Nat) (s : State) : State :=
  objMod (fun o => { o with plans := o.plans.filter (fun x => x.id != id) }) s

/-- 64 KiB units of a member's run. -/
def runUnits (kind sN : Nat) : Nat := sN * kindUnits kind

/-! Parity and rebuilding (R402, R403). -/

/-- One term added: `acc` ⊕ c ⊗ `d`, byte by byte (R402). -/
def gfAdd (c : Nat) (acc d : List Byte) : List Byte :=
  List.zipWith (fun x y => x ^^^ BitVec.ofNat 8 (gfMul c y.toNat)) acc d

/-- The sum of cᵢ ⊗ dᵢ over 64 KiB units (R402). -/
def gfSum (cs : List Nat) (ds : List (List Byte)) : List Byte :=
  (cs.zip ds).foldl (fun acc x => gfAdd x.1 acc x.2) (zeros panelBytes)

/-- How member `r` follows from the K data members (R402, R241). -/
def gfRow (k r : Nat) : List Nat :=
  (List.range k).map (fun j =>
    if k = 1 then 1 else if r < k then (if r = j then 1 else 0) else gfCoef (r - k) j)

/-- A row with `c` times another row added. -/
def rowAdd (c : Nat) (a b : List Nat) : List Nat := List.zipWith (fun x y => x ^^^ gfMul c y) a b

/-- One step of the elimination at column `c`: rows with their images, those done and those to do. -/
def gfStep (c : Nat) (p : List (List Nat × List Nat) × List (List Nat × List Nat)) :
    List (List Nat × List Nat) × List (List Nat × List Nat) :=
  match p.2.find? (fun r => (r.1[c]?).getD 0 != 0) with
  | none => p
  | some r =>
    let v := gfInv ((r.1[c]?).getD 0)
    let r' := (r.1.map (gfMul v), r.2.map (gfMul v))
    let clear := fun (q : List Nat × List Nat) =>
      let d := (q.1[c]?).getD 0
      (rowAdd d q.1 r'.1, rowAdd d q.2 r'.2)
    (p.1.map clear ++ [r'], (p.2.filter (fun q => q != r)).map clear)

/-- The K data members from the members `ms`: for each data member the coefficient of each of `ms` (R403). -/
def gfSolve (k : Nat) (ms : List Nat) : List (List Nat) :=
  let rows := ms.mapIdx (fun i r => (gfRow k r, (List.range k).map (fun j => if j = i then 1 else 0)))
  (((List.range k).foldl (fun p c => gfStep c p) ([], rows)).1).map (·.2)

/-! Seals (R405, R409). -/

/-- KIND of a seal: 1 DATA, 2 PARITY, 3 BLANK, 4 LABEL. -/
def sealKind (k member : Nat) : Nat := if member < k then 1 else 2

/-- The first 60 bytes of a seal, with zeros where SEAL_CRC stands (R405). -/
def sealHead (kind member k m panel obj num stamp : Nat) : List Byte :=
  leBytes 8 (0x5E41 * 2 ^ 48 + kind * 2 ^ 44 + member * 2 ^ 39 + k * 2 ^ 34 + m * 2 ^ 31 + panel * 2 ^ 27) ++
    leBytes 8 obj ++ leBytes 8 (num * 2 ^ 28) ++ leBytes 8 stamp ++ zeros 28

/-- The CRC-64 of each 4 KiB block (R404, R405). -/
def blockCrcs (d : List Byte) : List Nat := (pieces 4096 (d.length / 4096) d).map crc64

/-- The seal of a panel: a 256th of its size (R405). -/
def mkSeal (kind member k m panel obj num stamp : Nat) (d : List Byte) : List Byte :=
  let hd := sealHead kind member k m panel obj num stamp
  fit (d.length / 256) (hd.take 56 ++ leBytes 8 (crc32c hd) ++ ((blockCrcs d).map (leBytes 8)).flatten)

/-- A seal's own check: MAGIC and SEAL_CRC (R409). -/
def sealSound (b : List Byte) : Bool :=
  bits (leNat (b.take 8)) 63 48 == 0x5E41 && leNat ((b.drop 56).take 4) == crc32c (b.take 56 ++ zeros 4)

/-- A seal says what the map entry and the run say (R409). -/
def sealMatches (kind member k m panel obj num : Nat) (b : List Byte) : Bool :=
  let w := leNat (b.take 8)
  bits w 47 44 == kind && bits w 43 39 == member && bits w 38 34 == k && bits w 33 31 == m && bits w 30 27 == panel &&
    leNat ((b.drop 8).take 8) == obj && bits (leNat ((b.drop 16).take 8)) 63 28 == num

/-- Every block read has the CRC-64 that the seal gives (R409). -/
def blocksOk (b d : List Byte) : Bool :=
  (blockCrcs d).zipIdx.all (fun x => leNat ((b.drop (64 + 8 * x.2)).take 8) == x.1)

/-- A member read: 0 good, 1 SEAL_BAD, 2 CRC_BAD, the first failing check over its panels (R409). `first` is the index
in the run of the first panel read, `p` the panel size. -/
def readCheck (e : MapEnt) (p first : Nat) (seals data : List Byte) : Nat :=
  let n := data.length / p
  let sl := fun i => (seals.drop (i * (p / 256))).take (p / 256)
  let kind := sealKind e.k e.member
  if (List.range n).any (fun i =>
      !(sealSound (sl i)) || !(sealMatches kind e.member e.k e.m (first + i) e.obj e.stripe (sl i))) then 1
  else if (List.range n).any (fun i => !blocksOk (sl i) ((data.drop (i * p)).take p)) then 2 else 0

/-! The map (R253, R254) and the repair queue (R414). -/

/-- The entries of a committed stripe. -/
def mapStripe (s : State) (obj num : Nat) : List MapEnt :=
  (s.place.at (objHome obj)).map.filter (fun e => e.obj == obj && e.stripe == num)

def mapMod (h : Half) (f : List MapEnt → List MapEnt) (s : State) : State := plMod h (fun x => { x with map := f x.map }) s

/-- A stripe record takes part in the repair queue: the LOST member joins its record, a new record is made, or, with the
queue full, REPAIR_FULL is raised and a sweep is owed (R414). -/
def queueRepair (obj num member : Nat) (fault : Bool) (s : State) : State :=
  let h := objHome obj
  let q := (s.place.at h).repairs
  if q.any (fun r => r.obj == obj && r.num == num) then
    let s1 := plMod h (fun x => { x with repairs := x.repairs.map (fun r =>
      if r.obj = obj ∧ r.num = num then
        { r with lost := r.lost.filter (fun y => y.1 != member) ++ [(member, fault)] } else r) }) s
    (q.filterMap (fun r => if r.obj = obj ∧ r.num = num then r.job else none)).foldl (fun t j =>
      post (.repairMore h j) t) s1
  else if q.length < 65536 then plMod h (fun x => { x with repairs := x.repairs ++ [{ obj, num, lost := [(member, fault)] }] }) s
  else raise (pgErasure h) 3 (plMod h (fun x => { x with sweep := true }) s)

/-- A map entry becomes LOST (R252, R253, R409). -/
def memberLost (obj num member : Nat) (fault : Bool) (s : State) : State :=
  let h := objHome obj
  if (mapStripe s obj num).any (fun e => e.member == member && !e.lost) then
    queueRepair obj num member fault
      (raise (pgPlace h) 2 (bump (pgPlace h) R.PLACE_CNT_MEMBER_LOST
        (mapMod h (fun es => es.map (fun e =>
          if e.obj = obj ∧ e.stripe = num ∧ e.member = member then { e with lost := true } else e)) s)))
  else s

/-- A member that fails the checks of R409: counted, the run listed, its entry LOST (R410). -/
def memberBad (h : Half) (e : MapEnt) (c : Nat) (s : State) : State :=
  let P := pgErasure h
  let s1 :=
    if c = 1 then raise P 0 (bump P R.ERASURE_CNT_SEAL_BAD s) else raise P 1 (bump P R.ERASURE_CNT_CRC_BAD s)
  memberLost e.obj e.stripe e.member false (badRun e.light e.track e.slot (e.strip + 1) s1)

/-- A member of a committed stripe can be read: LIVE, its light LIT and not FAILED (R257). -/
def entReadable (s : State) (e : MapEnt) : Bool :=
  !e.lost && lightState s e.light == lsLIT && lV s e.light R.LL_VIEW_0_HEALTH != 2

/-! Read plans (R256-R258). -/

/-- The cost of a member in 2^-32 ns, as an instant (R257). -/
def memberCost (s : State) (h : Half) (e : MapEnt) : Int :=
  let ps := grpSet s h e.group
  let g := lgt s e.light
  if e.kind = 1 then
    let sl : Int := lV s e.light R.LL_VIEW_3_SLOTS
    runInstant s e.light e.track e.slot 0 ps.seekNs +
      openDiv (((e.strip + 1 : Nat) : Int) * g.period * 65536) sl + ns32 (cdiv ((e.strip + 1) * panelBytes) 24)
  else
    let now : Int := nowH s (lHalf e.light)
    let at_ := (g.tref + ((e.track : Int) - g.refCount) * g.period) * 65536
    if ns32 now < at_ then at_ else ns32 (now + ps.locateMs * 1000000)

/-- A cheaper member first; ties go to the lower light (R257). -/
def costBefore (s : State) (h : Half) (a b : MapEnt) : Bool :=
  let x := memberCost s h a
  let y := memberCost s h b
  decide (x < y) || (decide (x = y) && decide (a.light < b.light))

/-- The `n` cheapest members. -/
def cheapest (s : State) (h : Half) : Nat → List MapEnt → List MapEnt
  | 0, _ => []
  | n + 1, es =>
    match bestBy (costBefore s h) es with
    | none => []
    | some e => e :: cheapest s h n (es.filter (fun x => x.member != e.member))

/-- The largest cost of a list of members. -/
def maxCost (s : State) (h : Half) (es : List MapEnt) : Int :=
  match es.map (memberCost s h) with
  | [] => 0
  | c :: r => r.foldl max c

/-- The plan reads for a repair, which always takes the rebuild plan (R416). -/
def PlanOwner.isRepair : PlanOwner → Bool
  | .repair _ => true
  | _ => false

/-- The members that a plan reads, and whether it rebuilds; none where fewer than K can be read (R257). -/
def planChoice (s : State) (p : Plan) : Option (List MapEnt × Bool) :=
  let es := mapStripe s p.obj p.num
  let ok := es.filter (fun e => entReadable s e && !p.struck.contains e.member)
  let need := ((p.want.map (· / runUnits p.kind p.s)).dedup)
  let direct := ok.filter (fun e => need.contains e.member)
  let recon := cheapest s p.home p.k ok
  let reconNs := match es with
    | e :: _ => (grpSet s p.home e.group).reconNs
    | [] => 0
  if direct.length = need.length ∧ ¬ p.owner.isRepair then
    if recon.length = p.k ∧ maxCost s p.home recon + ns32 reconNs < maxCost s p.home direct then some (recon, true)
    else some (direct, false)
  else if recon.length = p.k ∧ 0 < p.k then some (recon, true) else none

/-- A needed disc member whose light is only IDLE, in a group with SPIN_MGD 1 (R258). -/
def planSpin (s : State) (p : Plan) : List MapEnt :=
  (mapStripe s p.obj p.num).filter (fun e =>
    !e.lost && !p.struck.contains e.member && e.kind == 1 && lightState s e.light == lsIDLE && grpSpin s p.home e.group &&
      lV s e.light R.LL_VIEW_0_HEALTH != 2)

/-- The events of one member's read: one for a disc run, one for each block of a tape run (R214, R257). -/
def readEvents (s : State) (h : Half) (op kind light track slot sN : Nat) (pages : List (Option Nat)) (own : EvOwner) :
    List Event :=
  let _ := s
  let _ := h
  if kind = 1 then [⟨0, light, op, track, slot, sN, pages, [], own, .held, 0, 0, 0, true, 0, 0, 0, []⟩]
  else (List.range sN).map (fun i =>
    ⟨0, light, 6, track + i, 0, 1, (pages.drop (16 * i)).take 16, [], own, .held, 0, 0, 0, true, 0, 0, 0, []⟩)

/-- One member's read of a plan begins. -/
def planRead (p : Plan) (recon : Bool) (i : Nat) (e : MapEnt) (pages : List Nat) (s : State) : State :=
  let P := pgPlace p.home
  let s1 := bump P (if recon then R.PLACE_CNT_RD_RECON else R.PLACE_CNT_RD_DIRECT) s
  let s2 := if e.kind = 1 then
      setBusy e.light (e.strip + 1)
        (runInstant s e.light e.track e.slot 0 (grpSet s p.home e.group).seekNs) s1 else s1
  (readEvents s p.home 2 e.kind e.light e.track e.slot (e.strip + 1)
    (pages.map (fun g => some (pageAddr s p.home g))) (.plan p.id i)).foldl (fun t x => schInsert x t) s2

/-- The reads of a plan begin where its pages can be had; parts of the plan keep their places (R257, R258, R374). -/
def planGo (p : Plan) (es : List MapEnt) (recon : Bool) (s : State) : State :=
  let old := p.parts.map (·.member)
  let new := es.filter (fun e => !old.contains e.member)
  let n := runUnits p.kind p.s
  match takePages p.home (n * new.length) s with
  | none => planMod p.id (fun x => { x with waits := true }) s
  | some (pgs, s1) =>
    let mems := new.zipIdx.map (fun x =>
      ({ member := x.1.member, light := x.1.light, track := x.1.track, slot := x.1.slot,
         pages := (pgs.drop (n * x.2)).take n, left := if p.kind = 1 then 1 else p.s } : PlanMem))
    let s2 := planMod p.id (fun x => { x with parts := x.parts ++ mems, recon := recon, waits := false }) s1
    (new.zip mems).zipIdx.foldl (fun t x => planRead p recon (p.parts.length + x.2) x.1.1 x.1.2.pages t) s2

/-- A plan is made or made again: its members chosen, a spin-up waited for, or the plan fails (R257, R258, R30). -/
def planTry (id : Nat) (s : State) : State :=
  match planGet s id with
  | none => s
  | some p =>
    if p.done || p.failed then s
    else
      match planChoice s p with
      | some (es, recon) => planGo p es recon s
      | none =>
        match planSpin s p with
        | [] => planMod id (fun x => { x with failed := true, waits := false }) s
        | es =>
          es.foldl (fun t e =>
              if (lgt t e.light).unitState = 1 ∧ ¬ spinPending t e.light 3 then spinTry p.home e.group e.light t else t)
            (planMod id (fun x => { x with waits := true }) s)

/-- A plan for units of a committed stripe (R257). -/
def planNew (owner : PlanOwner) (e : MapEnt) (want : List Nat) (noCache : Bool) (s : State) : State × Nat :=
  let id := s.objs.next
  let p : Plan := {
    id, home := objHome e.obj, owner, obj := e.obj, num := e.stripe, k := e.k, m := e.m, s := e.strip + 1,
    kind := e.kind, want, noCache }
  (planTry id (nextUse (objMod (fun o => { o with plans := o.plans ++ [p] }) s)), id)

/-- The parts of a plan that are good. -/
def goodParts (p : Plan) : List PlanMem := p.parts.filter (fun x => x.st == 1)

/-- Unit `u` of a member's run among a part's pages. -/
def partPage (x : PlanMem) (u : Nat) : Nat := (x.pages[u]?).getD 0

/-- The bytes of unit `u` of a member's run, as the plan's K good parts give them (R403). -/
def planUnit (s : State) (p : Plan) (member u : Nat) : List Byte :=
  let g := goodParts p
  match g.find? (fun x => x.member == member || p.k == 1) with
  | some x => ezRead s (pageAddr s p.home (partPage x u)) panelBytes
  | none =>
    let xs := g.take p.k
    let ds := xs.map (fun x => ezRead s (pageAddr s p.home (partPage x u)) panelBytes)
    let inv := gfSolve p.k (xs.map (·.member))
    let data := fun j => gfSum ((inv[j]?).getD []) ds
    if member < p.k then data member
    else gfSum (gfRow p.k member) ((List.range p.k).map data)

/-- The wanted units that no part holds as it is (R403). -/
def planMissing (p : Plan) : List Nat :=
  p.want.filter (fun u => !(goodParts p).any (fun x => x.member == u / runUnits p.kind p.s))

/-- The wanted units are laid out: in a part's page, or rebuilt into a page of their own (R374, R403). -/
def planOuts (p : Plan) (s : State) : Option State :=
  let n := runUnits p.kind p.s
  let miss := planMissing p
  match takePages p.home miss.length s with
  | none => none
  | some (pgs, s1) =>
    let s2 := (miss.zip pgs).foldl (fun t x =>
      ezStore (pageAddr s p.home x.2) (planUnit s p (x.1 / n) (x.1 % n)) t) s1
    let own := (p.want.filter (fun u => !miss.contains u)).filterMap (fun u =>
      ((goodParts p).find? (fun x => x.member == u / n)).map (fun x => (u, partPage x (u % n))))
    some (planMod p.id (fun x => { x with outs := own ++ miss.zip pgs, done := true, waits := false }) s2)

/-! Stripe data (R240, R241, R285). -/

/-- 64 KiB units of a stripe's data. -/
def stpUnits (x : Stripe) : Nat := x.k * runUnits x.kind x.s

/-- A lost range that has found no room in the list lies in a stripe's bytes: the stripe is held (R389). -/
def owedIn (x : Stripe) (r : LostRange) : Bool :=
  let n := stpUnits x * panelBytes
  r.obj == x.obj && decide (r.off < (x.num + 1) * n ∧ x.num * n < r.off + r.len) && !x.repair

/-- STALLED: placed again 8 times, or held by the full lost-range list (R249, R389). -/
def isStalled (s : State) (x : Stripe) : Bool := x.stalled || (s.place.at x.home).lostOwed.any (owedIn x)

/-- The places of a member's 64 KiB: data, parity, or what a repair has rebuilt. -/
def memberPlaces (x : Stripe) (m : Nat) : List (Option Nat) :=
  let n := runUnits x.kind x.s
  if x.repair then (((x.rebuilt.find? (fun y => y.1 == m)).map (·.2)).getD []).map some
  else if m < x.k then (x.units.drop (m * n)).take n
  else ((x.parity.drop ((m - x.k) * n)).take n).map some

/-- The seals of a member's panels (R405, R406). -/
def memberSeals (s : State) (x : Stripe) (m stamp : Nat) : List Byte :=
  let q := kindUnits x.kind
  let ps := memberPlaces x m
  ((List.range x.s).map (fun i =>
    mkSeal (sealKind x.k m) m x.k x.m i x.obj x.num stamp
      ((((ps.drop (q * i)).take q).map (panelData s)).flatten))).flatten

/-- Parity unit `u` of parity member `i` (R241, R402). -/
def parityUnit (s : State) (x : Stripe) (i u : Nat) : List Byte :=
  let n := runUnits x.kind x.s
  gfSum (gfRow x.k (x.k + i)) ((List.range x.k).map (fun j => panelData s ((x.units[j * n + u]?).getD none)))

/-! Placing members (R246, R248, R259). -/

/-- A chosen member's run is claimed and its event inserted, or its panels appended to its stream (R246, R259). -/
def placeMember (id m : Nat) (c : Cand) (s : State) : State :=
  match stpGet s id with
  | none => s
  | some x =>
    let stamp := nowH s x.home
    let l := c.light
    let seals := memberSeals s x m stamp
    let ps := memberPlaces x m
    let s1 := stpMod id (smMod m (fun y => { y with
      light := l, track := c.run.track, slot := c.run.slot, st := .flying, stamp := stamp, blks := [] })) s
    if x.kind = 1 then
      let s2 := setBusy l x.s c.run.t (plPut l R.PL_LIGHT_VIEW_0_CUR_TRACK c.run.track (freeAdd l (-(x.s : Int)) s1))
      schInsert ⟨0, l, 1, c.run.track, c.run.slot, x.s, ps, seals, .stripe id m, .held, 0, 0, 0, true, 0, 0, 0, []⟩ s2
    else
      match strOfLight s1 l with
      | none => s1
      | some (i, _) =>
        (List.range x.s).foldl (fun t j =>
          strMod (lHalf l) i (fun y => { y with
            srcs := y.srcs ++ [⟨y.appOrd, id, m, j, (ps.drop (16 * j)).take 16, (seals.drop (4096 * j)).take 4096⟩],
            appOrd := y.appOrd + 1, idleSince := t.clk }) t) (freeAdd l (-(x.s : Int)) s1)

/-- The lights of a stripe's other members: a repair's kept members stand where the map has them (R248, R416). -/
def otherLights (s : State) (x : Stripe) (m : Nat) : List Nat :=
  x.members.zipIdx.filterMap (fun y =>
    if y.2 = m then none
    else if y.1.st = .kept then ((mapStripe s x.obj x.num).find? (fun e => e.member == y.2)).map (·.light)
    else if y.1.st = .toPlace then none else some y.1.light)

/-- NO_STRIPE: raised once in a period in which stripes of the half wait (R242). -/
def noStripe (id : Nat) (s : State) : State :=
  match stpGet s id with
  | none => s
  | some x =>
    let P := pgPlace x.home
    let was := s.objs.stripes.any (fun y => decide (y.home = x.home) && y.noStripe)
    raiseIf (!was) P 0 (bump P R.PLACE_CNT_NO_STRIPE (stpMod id (fun y => { y with noStripe := true }) s))

/-- The domains at DOMAIN_MIN that a waiting stripe's group already has (R247). -/
def haveDomains (s : State) (h : Half) (g : Nat) : List Nat :=
  let lv := grpF s h g R.PLG_GRP_VIEW_0_DOMAIN_MIN
  (((s.lights.map (·.1)).filter (fun l => lightEligible s h g l)).map (domain s lv)).dedup

/-- A stripe that waits asks for one more turning unit, in a domain that it lacks (R247). -/
def spinForStripe (h : Half) (g : Nat) (s : State) : State :=
  if grpSpin s h g ∧ grpEn s h g then
    let lv := grpF s h g R.PLG_GRP_VIEW_0_DOMAIN_MIN
    let have_ := haveDomains s h g
    match spinChoice s g (fun l => !have_.contains (domain s lv l)) with
    | some l => spinTry h g l s
    | none => s
  else s

/-- Members of a chosen stripe that have no place yet are placed again, one pick each (R248). -/
def placeWaiting (id : Nat) (s : State) : State :=
  match stpGet s id with
  | none => s
  | some x =>
    if x.st ≠ .chosen then s
    else
      (List.range x.members.length).foldl (fun t m =>
        match stpGet t id with
        | none => t
        | some y =>
          if (y.members[m]?).map (·.st) = some .toPlace && (!y.repair || y.rebuilt.any (fun r => r.1 == m)) then
            match chooseOne t y.home y.group y.s (otherLights t y m) with
            | some c => placeMember id m c (stpMod id (fun z => { z with noStripe := false }) t)
            | none => if y.noStripe then t else noStripe id t
          else t) s

/-- A stripe is chosen: parity is computed into pages, seals are built, events are inserted (R245, R246, R374). -/
def stripeChoose (id : Nat) (s : State) : State :=
  match stpGet s id with
  | none => s
  | some x =>
    if x.st ≠ .wait || !rdB s (pgPlace x.home) R.PL_CTRL_EN || !takesWork s || isStalled s x then s
    else
      let s0 := boundary (pgPlace x.home) (fun _ => true) (groupBoundary x.home s)
      match chooseStripe s0 x.home x.group x.k x.m x.s with
      | none => spinForStripe x.home x.group (noStripe id s0)
      | some cs =>
        let n := runUnits x.kind x.s
        match takePages x.home (n * x.m) s0 with
        | none => s0
        | some (pgs, s1) =>
          let P := pgPlace x.home
          let addrs := pgs.map (pageAddr s x.home)
          let s2 := (List.range (n * x.m)).foldl (fun t u =>
            ezStore ((addrs[u]?).getD 0) (parityUnit s x (u / n) (u % n)) t) s1
          let s3 := stpMod id (fun y => { y with
            st := .chosen, parity := addrs, own := y.own ++ pgs, members := List.replicate (x.k + x.m) {},
            noStripe := false }) s2
          let s4 := bump P R.PLACE_CNT_STRIPE (bump (pgErasure x.home) R.ERASURE_CNT_PARITY s3)
          cs.zipIdx.foldl (fun t c => placeMember id c.2 c.1 t) s4

/-! Building a stripe (R284, R285). -/

/-- The object's entry by OBJ_ID. -/
def objEnt (s : State) (obj : Nat) : Option (Nat × NameEnt) :=
  s.objs.names.find? (fun p => p.2.used && !p.2.tomb && p.2.objId == obj)

/-- Units of a stripe that need what is committed: some byte below SIZE is in no write, and the map holds the stripe
(R285). -/
def mergeWants (s : State) (x : Stripe) (size : Nat) : List Nat :=
  if (mapStripe s x.obj x.num).isEmpty then []
  else (List.range (stpUnits x)).filter (fun u =>
    let p := x.num * stpUnits x + u
    let hi := min panelBytes (size - p * panelBytes)
    unitGap p 0 hi (liveWrites s x.obj p))

/-- One unit of a stripe is put together: in the write's own page where it has one, in a page of the stripe's where
another write or the media give bytes, nowhere where it is all zeros (R235, R285, R373). -/
def mergeUnit (id size u : Nat) (outs : List (Nat × Nat)) (s : State) : Option State :=
  match stpGet s id with
  | none => none
  | some x =>
    let p := x.num * stpUnits x + u
    let ws := liveWrites s x.obj p
    let base := (outs.find? (fun o => o.1 == u)).map (fun o => pageAddr s x.home o.2)
    let put := fun (a : Option Nat) (t : State) => stpMod id (fun y => { y with units := y.units ++ [a] }) t
    match ((wrGet s x.write).bind (fun w => wrPage w p)), ws.isEmpty && base.isNone with
    | some g, _ =>
      let a := pageAddr s g.half g.page
      if x.early.isSome then some (put (some a) s)
      else some (put (some a) (ezStore a (unitBytes s p size ws base) s))
    | none, true => some (put none s)
    | none, false =>
      match freePage s x.home false with
      | none => none
      | some g =>
        let a := pageAddr s x.home g
        some (put (some a) (stpMod id (fun y => { y with own := y.own ++ [g] })
          (ezStore a (unitBytes s p size ws base) (takePage x.home g s))))

/-- Every unit of a stripe is put together; a stripe that finds no page waits (R285, R374). -/
def mergeAll (id size : Nat) (outs : List (Nat × Nat)) (s : State) : State :=
  match stpGet s id with
  | none => s
  | some x =>
    match (List.range (stpUnits x)).foldl (fun o u => o.bind (mergeUnit id size u outs)) (some s) with
    | some t => stpMod id (fun y => { y with st := .wait, held := false }) t
    | none => stpMod id (fun y => { y with units := [] }) s

/-- The plan of a stripe's merge has ended (R285). -/
def mergePlanEnd (p : Plan) (id : Nat) (s : State) : State :=
  match stpGet s id with
  | none => planDrop p.id s
  | some x =>
    let size := ((objEnt s x.obj).map (·.2.size)).getD 0
    if p.failed then
      raise (pgDikar x.home) 7 (bump (pgDikar x.home) R.DIKAR_CNT_MERGE_FAIL
        (stpMod id (fun y => { y with held := true }) (planDrop p.id s)))
    else if p.done then
      let t := mergeAll id size p.outs s
      if (stpGet t id).any (fun y => y.st == .wait) then planDrop p.id t else t
    else s

/-- A stripe begins to be put together: from Easel alone, or with a merge read (R285). -/
def mergeStart (id : Nat) (s : State) : State :=
  match stpGet s id with
  | none => s
  | some x =>
    if x.st ≠ .merge ∨ x.gone then s
    else
      let size := ((objEnt s x.obj).map (·.2.size)).getD 0
      match (if x.early.isSome then [] else mergeWants s x size), mapStripe s x.obj x.num with
      | [], _ => mergeAll id size [] s
      | _, [] => mergeAll id size [] s
      | want, e :: _ =>
        match s.objs.plans.find? (fun p => p.owner == .merge id) with
        | some p => if p.waits then planTry p.id s else mergePlanEnd p id s
        | none =>
          let r := planNew (.merge id) e want true s
          match planGet r.1 r.2 with
          | some p => mergePlanEnd p id r.1
          | none => r.1

/-- A write's stripe number `num` is built in the geometry of the object's group (R285). -/
def stripeNew (w : Write) (g num : Nat) (early : Option Nat) (s : State) : State :=
  let id := s.objs.next
  let x : Stripe := {
    id, home := w.home, obj := w.obj, num, write := w.id, ord := w.ord, group := g, k := grpK s w.home g,
    m := grpM s w.home g, s := grpS s w.home g, kind := grpKind s w.home g, early }
  mergeStart id (nextUse (objMod (fun o => { o with stripes := o.stripes ++ [x] }) s))

/-- Stripe numbers that the ranges of a write touch. -/
def wrStripes (w : Write) (sb : Nat) : List Nat :=
  if sb = 0 then []
  else (w.ranges.map (fun r =>
    if r.2 = 0 then [] else (List.range ((r.1 + r.2 - 1) / sb + 1 - r.1 / sb)).map (fun i => r.1 / sb + i))).flatten.dedup

/-- The bytes of a stripe's data in group `g`. -/
def grpStripeBytes (s : State) (h : Half) (g : Nat) : Nat :=
  grpK s h g * runUnits (grpKind s h g) (grpS s h g) * panelBytes

/-- A write whose pages lie on its object's home half has its stripes built (R284). -/
def buildStripes (id : Nat) (s : State) : State :=
  match wrGet s id with
  | none => s
  | some w =>
    match objEnt s w.obj with
    | none => s
    | some (_, e) =>
      let sb := grpStripeBytes s w.home e.group
      let early := (s.objs.stripes.filter (fun x => x.write == id && !x.gone)).map (·.num)
      let s1 := wrMod id (fun x => { x with built := true, stripeBytes := sb }) s
      match wrGet s1 id with
      | none => s1
      | some w1 =>
        ((wrStripes w1 sb).filter (fun n => !early.contains n)).foldl (fun t n => stripeNew w1 e.group n none t) s1

/-! Commits (R250-R252). -/

/-- A member's run is released: its bits cleared, its panels free (R250, R251). -/
def releaseEnt (s : State) (e : MapEnt) : State :=
  if e.kind = 1 then freeAdd e.light ((e.strip : Int) + 1) (markRun e.light e.track e.slot (e.strip + 1) false s) else s

/-- A claimed run that never reached the map is released. -/
def releaseMember (x : Stripe) (y : SMember) (s : State) : State :=
  if x.kind = 1 ∧ (y.st = .flying ∨ y.st = .pass) then freeAdd y.light x.s s else s

/-- A plan whose owner is gone (R258). -/
def planOrphan (s : State) (p : Plan) : Bool :=
  match p.owner with
  | .get d => !s.dikar.ops.any (fun x => x.id == d)
  | .merge x => (stpGet s x).isNone
  | .repair x => (stpGet s x).isNone

/-- Plans whose owners are gone are forgotten once none of their reads is in flight, so that their pages stay held till
then (R375). -/
def plansReap (s : State) : State :=
  objMod (fun o => { o with plans := o.plans.filter (fun p => !planOrphan s p || p.parts.any (fun y => y.st == 0)) }) s

/-- A stripe record ends without a commit: its runs are released; its pages stay until their release (R252, R375). -/
def stripeDrop (id : Nat) (s : State) : State :=
  match stpGet s id with
  | none => s
  | some x =>
    let s1 := x.members.foldl (fun t y => releaseMember x y t) s
    plansReap (objMod (fun o => { o with stripes := o.stripes.filter (fun y => y.id != id) }) s1)

/-- Pages of writes up to `ord` that hold units of a stripe no longer hold its only copy (R27, R375). -/
def settleUnits (obj ord lo n : Nat) (s : State) : State :=
  objMod (fun o => { o with writes := o.writes.map (fun w =>
    if w.obj = obj ∧ w.ord ≠ 0 ∧ w.ord ≤ ord then
      { w with pages := w.pages.map (fun g => if lo ≤ g.panel ∧ g.panel < lo + n then { g with settled := true } else g) }
    else w) }) s

/-- The map entries of a stripe's members. -/
def newEnts (x : Stripe) (gen : Nat) (sel : Nat → Bool) : List MapEnt :=
  x.members.zipIdx.filterMap (fun y =>
    if sel y.2 then
      let first := (y.1.blks.find? (fun b => b.1 == 0)).map (·.2)
      some {
        obj := x.obj, stripe := x.num, member := y.2, k := x.k, m := x.m, strip := x.s - 1, group := x.group,
        light := y.1.light, kind := x.kind, track := if x.kind = 1 then y.1.track else first.getD 0,
        slot := y.1.slot, gen := gen }
    else none)

/-- The repair of a stripe is abandoned with its record (R424). -/
def dropRepairs (obj num : Nat) (s : State) : State :=
  let h := objHome obj
  let js := ((s.place.at h).repairs.filter (fun r => r.obj == obj && r.num == num)).filterMap (·.job)
  js.foldl (fun t j => stpMod j (fun x => { x with gone := true }) t)
    (plMod h (fun x => { x with repairs := x.repairs.filter (fun r => !(r.obj == obj && r.num == num)) }) s)

/-- The commit of a stripe: entries added, those it supersedes removed and their runs released, track bits set, one
journalled step (R250). -/
def commitStripe (x : Stripe) (s : State) : State :=
  let h := x.home
  let gen := (s.place.at h).commitGen
  let old := mapStripe s x.obj x.num
  let ents := newEnts x gen (fun _ => true)
  let s1 := old.foldl releaseEnt (dropRepairs x.obj x.num s)
  let s2 := ents.foldl (fun t e => if e.kind = 1 then markRun e.light e.track e.slot (e.strip + 1) true t else t) s1
  let s3 := mapMod h (fun es => es.filter (fun e => !(e.obj == x.obj && e.stripe == x.num)) ++ ents) s2
  let s4 := plMod h (fun y => { y with commitGen := (gen + 1) % 2 ^ 32 }) s3
  let s5 := objMod (fun o => { o with
    stripes := (o.stripes.filter (fun y => y.id != x.id)).map (fun y =>
      if y.obj = x.obj ∧ y.num = x.num ∧ ¬ y.repair ∧ y.early.isNone ∧ y.ord < x.ord then { y with superseded := true } else y) }) s4
  jrnl h (bump (pgPlace h) R.PLACE_CNT_COMMIT (settleUnits x.obj x.ord (x.num * stpUnits x) (stpUnits x) s5))

/-- The commit of a repair: the rebuilt members replace the LOST ones (R416). -/
def commitRepair (x : Stripe) (s : State) : State :=
  let h := x.home
  let gen := (s.place.at h).commitGen
  let mine := fun m => (x.members[m]?).any (fun y => y.st == .pass)
  let old := (mapStripe s x.obj x.num).filter (fun e => mine e.member)
  let ents := newEnts x gen mine
  let s1 := old.foldl releaseEnt s
  let s2 := ents.foldl (fun t e => if e.kind = 1 then markRun e.light e.track e.slot (e.strip + 1) true t else t) s1
  let s3 := mapMod h (fun es =>
    es.filter (fun e => !(e.obj == x.obj && e.stripe == x.num && mine e.member)) ++ ents) s2
  let s4 := plMod h (fun y => { y with
    commitGen := (gen + 1) % 2 ^ 32,
    repairs := (y.repairs.map (fun r =>
      if r.job = some x.id then { r with job := none, lost := r.lost.filter (fun l => !mine l.1) } else r)).filter
        (fun r => !r.lost.isEmpty) }) s3
  jrnl h (bumpBy (pgErasure h) R.ERASURE_CNT_REPAIR ents.length
    (plansReap (objMod (fun o => { o with stripes := o.stripes.filter (fun y => y.id != x.id) }) s4)))

/-- Every member of a stripe has a PASS (R250). -/
def allPass (x : Stripe) : Bool := !x.members.isEmpty && x.members.all (fun y => y.st == .pass || y.st == .kept)

/-- No transfer of a stripe is in flight. -/
def noneFlying (x : Stripe) : Bool := x.members.all (fun y => y.st != .flying)

/-- A stripe that has come to its end is committed, or not, as R250 and R252 give. -/
def stripeEnd (id : Nat) (s : State) : State :=
  match stpGet s id with
  | none => s
  | some x =>
    if x.gone then (if noneFlying x then stripeDrop id s else s)
    else if !(allPass x) ∨ x.st = .merge ∨ x.st = .wait ∨ (s.place.at x.home).lostOwed.any (owedIn x) = true then s
    else if x.repair then commitRepair x s
    else if x.superseded then bump (pgPlace x.home) R.PLACE_CNT_SUPERSEDE (stripeDrop id s)
    else if x.early.isSome then stpMod id (fun y => { y with st := .ready }) s
    else commitStripe x s

/-- Unfired events of a stripe are withdrawn (R252). -/
def withdraw (id : Nat) (s : State) : State :=
  let mine := fun (e : Event) => match e.owner with
    | .stripe i _ => i == id
    | _ => false
  let hit := fun (e : Event) => mine e && (e.st == .held || e.st == .fixed)
  let gone := ([Half.west, .east].map (fun h =>
    (((s.sched.at h).events.filter hit) ++ ((s.sched.at h).wait.filter mine)).filterMap (fun e => match e.owner with
      | .stripe _ m => some m
      | _ => none))).flatten
  let clear := fun (h : Half) (t : State) => schMod h (fun c => { c with
    events := c.events.filter (fun e => !hit e), wait := c.wait.filter (fun e => !mine e),
    streams := c.streams.map (fun p => (p.1, { p.2 with
      srcs := p.2.srcs.filter (fun y => !(y.stripe == id && decide (p.2.fillOrd ≤ y.ord))) })) }) t
  let s1 := clear .east (clear .west s)
  match stpGet s id with
  | none => s1
  | some x =>
    gone.foldl (fun t m => stpMod id (smMod m (fun y => { y with st := .toPlace }))
      ((x.members[m]?).elim t (fun y => releaseMember x y t))) s1

/-- A stripe is withdrawn: the object was deleted or the collective abandoned (R252, R345). -/
def stripeGone (id : Nat) (s : State) : State := stripeEnd id (withdraw id (stpMod id (fun x => { x with gone := true }) s))

/-! How a member's transfer ends (R248, R249). -/

/-- A member is to be placed again; the ninth failure without a PASS stalls the stripe (R248, R249). -/
def replaceMember (id m : Nat) (s : State) : State :=
  match stpGet s id with
  | none => s
  | some x =>
    let P := pgPlace x.home
    let tries : Nat := ((x.members[m]?).map (fun y => y.tries)).getD 0
    let s1 := stpMod id (smMod m (fun y => { y with st := .toPlace })) s
    if x.gone then stripeEnd id s1
    else if 8 ≤ tries then
      if x.stalled then s1
      else raise P 1 (bump P R.PLACE_CNT_STALL (stpMod id (fun y => { y with stalled := true }) s1))
    else
      placeWaiting id (bump P R.PLACE_CNT_REPLACE (stpMod id (smMod m (fun y => { y with tries := y.tries + 1 })) s1))

/-- THRU of a half's interval (R266). -/
def thruAdd (h : Half) (n : Nat) (s : State) : State :=
  if rdB s (pgPlace h) R.PL_EFF_CTRL_RUNNING then plMod h (fun x => { x with thru := x.thru + n }) s else s

/-- A disc member's write has ended (R248). -/
def stripeEvDone (h : Half) (e : Event) (id m : Nat) (out : EvOut) (s : State) : State :=
  match stpGet s id with
  | none => s
  | some _ =>
    match out with
    | .pass =>
      stripeEnd id (stpMod id (smMod m (fun y => { y with st := .pass })) (thruAdd h (panelBytes * e.count)
        (wearAdd e.light e.count s)))
    | .failed => replaceMember id m (badRun e.light e.track e.slot e.count s)
    | .handed _ => replaceMember id m (freeAdd e.light e.count s)

/-- A tape panel is verified; the member is when its last panel is (R259). The write position follows (R239, R379). -/
def stripeTapeDone (src : TapeSrc) (l blk : Nat) (s : State) : State :=
  let s0 := jrnl (lHalf l) (plPut l R.PL_LIGHT_VIEW_0_CUR_TRACK (blk + 1) (wearAdd l 1 s))
  let s1 := stpMod src.stripe (smMod src.member (fun y => { y with
    blks := y.blks.filter (fun b => b.1 != src.idx) ++ [(src.idx, blk)] })) s0
  match stpGet s1 src.stripe with
  | none => s1
  | some x =>
    if ((x.members[src.member]?).map (fun y => y.blks.length)).getD 0 = x.s then
      stripeEnd src.stripe (stpMod src.stripe (smMod src.member (fun y => { y with st := .pass })) s1)
    else s1

/-- The panels that a stream gives back are placed again, member by member (R221, R248). -/
def stripeTapeBack (srcs : List TapeSrc) (s : State) : State :=
  ((srcs.map (fun p => (p.stripe, p.member))).dedup).foldl (fun t p => replaceMember p.1 p.2 t) s

/-! How a plan's reads end (R258, R409). -/

/-- The fills that a GET's plan offers to the cache (R377). -/
def planFills (p : Plan) (s : State) : State :=
  match p.owner with
  | .get _ =>
    if p.noCache ∨ cacheSize s = 0 then s
    else
      let base := p.num * (p.k * runUnits p.kind p.s)
      plMod p.home (fun x => { x with fills := x.fills ++ p.outs.map (fun o => ⟨p.obj, base + o.1, o.2⟩) }) s
  | _ => s

/-- A rebuilt member's pages: its units from the plan's good parts (R403, R416). -/
def rebuildMember (p : Plan) (id m : Nat) (s : State) : State :=
  let n := runUnits p.kind p.s
  match takePages p.home n s with
  | none => s
  | some (pgs, s1) =>
    let s2 := pgs.zipIdx.foldl (fun t g => ezStore (pageAddr s p.home g.1) (planUnit s p m g.2) t) s1
    stpMod id (fun x => { x with
      rebuilt := x.rebuilt ++ [(m, pgs.map (pageAddr s p.home))], own := x.own ++ pgs }) s2

/-- A repair's K members are read: every member that it rebuilds gets its bytes and its place (R416). -/
def repairBuild (p : Plan) (id : Nat) (s : State) : State :=
  match stpGet s id with
  | none => planDrop p.id s
  | some x =>
    let ms := (List.range x.members.length).filter (fun m =>
      (x.members[m]?).any (fun y => y.st == .toPlace) && !x.rebuilt.any (fun r => r.1 == m))
    let s1 := ms.foldl (fun t m => rebuildMember p id m t) s
    placeWaiting id (stpMod id (fun y => { y with st := .chosen }) s1)

/-- The repair's plan has no K readable members: the stripe is UNREADABLE (R417). -/
def repairUnread (obj num : Nat) (s : State) : State :=
  let h := objHome obj
  let P := pgErasure h
  if (s.place.at h).repairs.any (fun r => r.obj == obj && r.num == num && !r.unreadable) then
    raise P 4 (bump P R.ERASURE_CNT_UNREADABLE (plMod h (fun x => { x with repairs := x.repairs.map (fun r =>
      if r.obj = obj ∧ r.num = num then { r with unreadable := true, job := none } else r) }) s))
  else s

/-- A plan has ended or is to go on: its owner takes what it gives (R258, R285, R416). -/
def planCheck (id : Nat) (s : State) : State :=
  match planGet s id with
  | none => s
  | some p =>
    if p.failed then
      match p.owner with
      | .merge x => mergePlanEnd p x s
      | .repair x => repairUnread p.obj p.num (stripeGone x s)
      | .get _ => s
    else if p.done ∨ p.waits ∨ p.parts.isEmpty ∨ p.parts.any (fun x => x.st == 0) then s
    else
      match p.owner with
      | .repair x => repairBuild p x (planMod id (fun y => { y with done := true }) s)
      | o =>
        match planOuts p s with
        | none => planMod id (fun y => { y with waits := true }) s
        | some t =>
          match planGet t id, o with
          | some q, .merge x => mergePlanEnd q x t
          | some q, _ => planFills q t
          | none, _ => t

/-- The data of a read that has ended. -/
def evData (s : State) (e : Event) : List Byte :=
  if e.buf ≠ [] then e.buf else (e.panels.map (panelData s)).flatten

/-- A read of a plan has ended: checked and good, or struck out (R258, R409). -/
def planEvDone (e : Event) (id i : Nat) (out : EvOut) (s : State) : State :=
  match planGet s id with
  | none => s
  | some p =>
    match p.parts[i]? with
    | none => s
    | some x =>
      let ent := (mapStripe s p.obj p.num).find? (fun y => y.member == x.member)
      let set := fun (f : PlanMem → PlanMem) (t : State) =>
        planMod id (fun q => { q with parts := q.parts.mapIdx (fun j y => if j = i then f y else y) }) t
      if planOrphan s p then plansReap (set (fun y => { y with st := if y.left ≤ 1 then 2 else 0, left := y.left - 1 }) s)
      else
      let strike := fun (t : State) =>
        planCheck id (planTry id (set (fun y => { y with st := 2 })
          (planMod id (fun q => { q with struck := x.member :: q.struck }) t)))
      match out with
      | .pass =>
        let ref : MapEnt := ent.getD {
          obj := p.obj, stripe := p.num, member := x.member, k := p.k, m := p.m,
          strip := p.s - 1, group := 255, light := x.light, kind := p.kind, track := x.track, slot := x.slot, gen := 0 }
        let c := readCheck ref (panelBytes * kindUnits p.kind) (if p.kind = 1 then 0 else e.track - x.track) e.seals
          (evData s e)
        if c ≠ 0 then strike (if ent.isSome then memberBad p.home ref c s else s)
        else if x.left ≤ 1 then planCheck id (set (fun y => { y with st := if y.st = 2 then 2 else 1, left := 0 }) s)
        else set (fun y => { y with left := y.left - 1 }) s
      | .failed => strike (memberLost p.obj p.num x.member false s)
      | .handed _ => strike s

/-! What a light's changes do (R242, R252, R258, R415, R417). -/

/-- Waiting plans, stripes and members are tried again (R242, R258). -/
def placeRetry (s : State) : State :=
  let s1 := (s.objs.plans.filter (fun p => p.waits)).foldl (fun t p => planCheck p.id (planTry p.id t)) s
  let ids := (s1.objs.stripes.filter (fun x => x.noStripe && !x.stalled)).map (·.id)
  ids.foldl (fun t id => placeWaiting id (stripeChoose id t)) s1

/-- Every committed member on a light becomes LOST (R211, R252). -/
def lightLost (l : Nat) (fault : Bool) (s : State) : State :=
  (((s.place.west.map ++ s.place.east.map).filter (fun e => e.light == l && !e.lost))).foldl
    (fun t e => memberLost e.obj e.stripe e.member fault t) s

/-- The members that a light's FAULT made LOST return to LIVE where no repair of their stripe has begun; the light's
scrub starts a new pass (R415). -/
def lightRevive (l : Nat) (s : State) : State :=
  let back := [Half.west, .east].map (fun h =>
    ((s.place.at h).repairs.filter (fun r => r.job.isNone)).map (fun r =>
      (r.lost.filter (fun y => y.2 && (mapStripe s r.obj r.num).any (fun e =>
        e.member == y.1 && e.light == l && e.lost))).map (fun y => (r.obj, r.num, y.1))))
  let ms := back.flatten.flatten
  if ms.isEmpty then s
  else
    let s1 := ms.foldl (fun t m =>
      let h := objHome m.1
      bump (pgErasure h) R.ERASURE_CNT_REVIVE (plMod h (fun x => { x with
        map := x.map.map (fun e =>
          if e.obj = m.1 ∧ e.stripe = m.2.1 ∧ e.member = m.2.2 then { e with lost := false } else e),
        repairs := (x.repairs.map (fun r =>
          if r.obj = m.1 ∧ r.num = m.2.1 then { r with lost := r.lost.filter (fun y => y.1 != m.2.2) } else r)).filter
            (fun r => !r.lost.isEmpty) }) t)) s
    let days := max 1 (rd s (pgErasure (lHalf l)) R.ER_CTRL_SCRUB_DAYS)
    let now := nowH s (lHalf l)
    wrI (pgErasure (lHalf l)) R.ER_LIGHT_VIEW_SCRUB_TRACK l 0 (wrI (pgErasure (lHalf l)) R.ER_PASS_START l now
      (pltMod l (fun x => { x with scrubbed := [], pass := some (now + days * 86400000000000, false) }) s1))

end Sys2Proof.Machine
end

