-- ==== Sys2Proof/Machine/Policy.lean ====
section
/-!
DEFINITION. The Soano policy and its inputs, map lookups, efficiency intervals, the release of a light's binding, and
what a new binding takes (chapter 06 R211, chapter 07 R255, R260-R267, R270, chapter 11 R369).
-/
namespace Sys2Proof.Machine

/-! The policy image (R260-R263). -/

/-- 64-bit word `i` of an image at an Easel address. -/
def imgWord (s : State) (a i : Nat) : Nat := leNat (ezRead s (a + 8 * i) 8)

/-- The image lies wholly within the policy region of one half (R262, R367). -/
def imgInside (a n : Nat) : Bool :=
  let o := a % 2 ^ 40
  decide (a < 2 ^ 41 ∧ 0x100000 ≤ o ∧ o + n ≤ 0x200000)

/-- A parameter set from its words (R260). -/
def imgSet (s : State) (a : Nat) : ParamSet :=
  let w0 := imgWord s a 0
  let w1 := imgWord s a 1
  let w2 := imgWord s a 2
  { halfSlack := bits w0 63 32, angleBand := bits w0 31 12, wearCap := bits w1 63 48, reconNs := bits w1 47 32,
    seekNs := bits w1 31 8, spinFill := bits w1 7 0, locateMs := bits w2 63 32, suspectUse := w2 % 2 == 1 }

/-- A parameter set's fields lie in their ranges and its reserved bits are zero (R260, R262). -/
def imgSetOk (s : State) (a : Nat) : Bool :=
  bits (imgWord s a 0) 11 0 == 0 && decide (10 ≤ bits (imgWord s a 1) 7 0) && bits (imgWord s a 2) 31 1 == 0 &&
    imgWord s a 3 == 0

/-- A rule from its words (R261). -/
def imgRule (s : State) (a : Nat) : PolRule :=
  let w := imgWord s a 0
  { input := bits w 63 56, atOrAbove := bits w 55 55 == 1, set := bits w 54 52, group := bits w 51 44,
    threshold := bits (imgWord s a 1) 63 32 }

/-- A rule's INPUT is listed, its SET exists and its reserved bits are zero (R261, R262). -/
def imgRuleOk (s : State) (sets a : Nat) : Bool :=
  let r := imgRule s a
  decide (r.input ≤ 6 ∧ r.set < sets) && bits (imgWord s a 0) 43 0 == 0 && bits (imgWord s a 1) 31 0 == 0

/-- The policy of the image at an address, or the CAUSE of its rejection, in the order of the codes (R262, R263). -/
def imgLoad (s : State) (a : Nat) : Sum Nat Policy :=
  if !imgInside a 64 then .inl 6
  else
    let w0 := imgWord s a 0
    let sets := bits w0 39 36
    let rules := bits w0 35 24
    let len := imgWord s a 1
    if bits w0 63 48 ≠ 0x50C7 then .inl 1
    else if bits w0 47 40 ≠ 1 then .inl 2
    else if len ≠ 64 + 32 * sets + 16 * rules then .inl 3
    else if !imgInside a len then .inl 6
    else if bits (imgWord s a 2) 31 0 ≠ crc32c (ezRead s (a + 64) (len - 64)) then .inl 4
    else if !(decide (1 ≤ sets ∧ sets ≤ 8 ∧ rules ≤ 1024 ∧ 1 ≤ bits w0 23 8)) || bits w0 7 0 != 0 ||
        bits (imgWord s a 2) 63 32 != 0 || (List.range 5).any (fun i => imgWord s a (3 + i) != 0) ||
        (List.range sets).any (fun i => !imgSetOk s (a + 64 + 32 * i)) ||
        (List.range rules).any (fun i => !imgRuleOk s sets (a + 64 + 32 * sets + 16 * i)) then .inl 5
    else .inr {
      sets := (List.range sets).map (fun i => imgSet s (a + 64 + 32 * i)),
      rules := (List.range rules).map (fun i => imgRule s (a + 64 + 32 * sets + 16 * i)),
      tickMs := bits w0 23 8 }

/-- The image is loaded, or the policy is unloaded, on a half (R263, R264). -/
def policyLoad (h : Half) (s : State) : State :=
  let a := grpF s h 0 R.PLG_POLICY_ADDR * 4096
  let s1 := plMod h (fun x => { x with polDue := false }) s
  if a = 0 then
    wr pgPlaceG R.PLG_POLICY_STAT_LOADED 0 (plMod h (fun x => { x with policy := none, setOf := [] }) s1)
  else
    match imgLoad s a with
    | .inl c => raise pgPlaceG 1 (wr pgPlaceG R.PLG_POLICY_STAT_CAUSE c s1)
    | .inr p =>
      let s2 := plMod h (fun x => { x with policy := some p, setOf := [] }) s1
      let s3 := wr pgPlaceG R.PLG_POLICY_STAT_CAUSE 0 (wr pgPlaceG R.PLG_POLICY_STAT_LOADED 1 s2)
      raise pgPlaceG 0 (wr pgPlaceG R.PLG_POLICY_STAT_GEN (rd s3 pgPlaceG R.PLG_POLICY_STAT_GEN + 1) s3)

/-! Inputs and rules (R261). -/

/-- The lights of group `g` on half `h`. -/
def groupLights (s : State) (h : Half) (g : Nat) : List Nat :=
  (s.lights.filter (fun x => x.2.bound && decide (lHalf x.1 = h) && lightGroup s x.1 == g)).map (·.1)

/-- A quotient that a rule compares; by zero the spec gives none. -/
def ratioOf (a b : Nat) : Rat := if b = 0 then (Config.quotZero a : Rat) else (a : Rat) / (b : Rat)

/-- A 32-bit count's growth since the last tick. -/
def grown (now old : Nat) : Nat := (now + 2 ^ 32 - old) % 2 ^ 32

/-- INPUT `i` of group `g` on half `h` (R261). -/
def policyInput (s : State) (h : Half) (g i : Nat) : Rat :=
  let x := s.place.at h
  let ls := groupLights s h g
  if i = 0 then ratioOf (100 * x.used.length) (wbTotal s)
  else if i = 1 then
    ratioOf (1000000 * (ls.map (fun l => grown (lV s l R.LL_VIEW_5_MISSES) (plt s l).missAt)).sum)
      ((ls.map (fun l => grown (lV s l R.LL_VIEW_5_FIRED) (plt s l).firedAt)).sum)
  else if i = 2 then ratioOf ((ls.map (wear s)).sum) ls.length
  else if i = 3 then ((ls.filter (fun l => lightState s l == lsLIT)).length : Rat)
  else if i = 4 then
    ((((s.sched.at h).events ++ (s.sched.at h).wait).filter (fun e => e.op == 2 || e.op == 6)).length : Rat)
  else if i = 5 then
    let ws := x.words.filter (fun w => (ls.map (lightPort s)).contains w.1)
    ratioOf (100 * (ws.map (fun w => w.2.1)).sum) ((ws.map (fun w => w.2.2)).sum)
  else ratioOf (100 * (x.hits - x.hitAt)) (x.looks - x.lookAt)

/-- A rule matches for a group (R261). -/
def ruleHits (s : State) (h : Half) (g : Nat) (r : PolRule) : Bool :=
  (r.group == 255 || r.group == g) &&
    (if r.atOrAbove then decide ((r.threshold : Rat) ≤ policyInput s h g r.input)
     else decide (policyInput s h g r.input < (r.threshold : Rat)))

/-- The set that the last matching rule gives a group (R261). -/
def ruleSet (s : State) (h : Half) (p : Policy) (g : Nat) : Option Nat :=
  ((p.rules.filter (ruleHits s h g)).getLast?).map (·.set)

/-- What the next tick measures from begins anew. -/
def policyMark (h : Half) (s : State) : State :=
  let s1 := ((s.lights.map (·.1)).filter (fun l => decide (lHalf l = h))).foldl (fun t l =>
    pltMod l (fun x => { x with firedAt := lV t l R.LL_VIEW_5_FIRED, missAt := lV t l R.LL_VIEW_5_MISSES }) t) s
  plMod h (fun x => { x with hitAt := x.hits, lookAt := x.looks, words := [] }) s1

/-- A policy tick: an image asked for is loaded, then the rules are evaluated (R261, R263, R264). -/
def policyTick (h : Half) (s : State) : State :=
  let s0 := plgBoundary h (fun k => k.off == R.PLG_POLICY_ADDR.off) s
  let s1 := if (s.place.at h).polDue then policyLoad h s0 else s0
  let s2 :=
    match (s1.place.at h).policy with
    | none => s1
    | some p =>
      plMod h (fun x => { x with
        setOf := (List.range 255).filterMap (fun g => (ruleSet s1 h p g).map (fun i => (g, i))) }) s1
  policyMark h s2

/-! Lookups (R255). -/

/-- A lookup's member word (R255). -/
def lookupWord (e : MapEnt) : Nat := e.light * 2 ^ 42 + e.track % 2 ^ 32 * 2 ^ 10 + e.slot % 64 * 2 ^ 4 + bit e.lost

/-- A lookup's result on a half (R255). -/
def lookup (h : Half) (num : Nat) (s : State) : State :=
  let obj := rd s (pgPlace h) R.PL_LOOKUP_OBJ_OBJ_ID
  let es := (s.place.at h).map.filter (fun e => e.obj == obj && e.stripe == num)
  let n := (es.map (fun e => e.k + e.m)).headD 0
  pushResult (resOf h) 3 true
    ((List.range n).filterMap (fun m => (es.find? (fun e => e.member == m)).map lookupWord)) s

/-! Efficiency intervals (R266, R267). -/

/-- A light adds to LIMIT (R266). -/
def inLimit (s : State) (h : Half) (l : Nat) : Bool :=
  let g := lightGroup s l
  decide (lHalf l = h) && isDisc s l && lightState s l == lsLIT && lV s l R.LL_VIEW_0_HEALTH == 0 && grpEn s h g &&
    grpKind s h g == 1 && stnObject s (lightPort s l) (lightStn s l)

/-- One nanosecond of an interval that runs (R266). -/
def limitTick (h : Half) (s : State) : State :=
  if rdB s (pgPlace h) R.PL_EFF_CTRL_RUNNING then
    plMod h (fun x => { x with
      limit := x.limit + (((s.lights.map (·.1)).filter (inLimit s h)).map (rawRate s)).sum }) s
  else s

/-- An efficiency result (R267). -/
def effPush (h : Half) (ws : List Nat) (s : State) : State := raise (pgPlace h) 4 (pushResult (resOf h) 4 true ws s)

/-- ARM written (R267). -/
def effArm (h : Half) (s : State) : State :=
  let P := pgPlace h
  let s1 := wr P R.PL_EFF_CTRL_RUNNING 0 (wr P R.PL_EFF_CTRL_ARMED 0 s)
  if rd s P R.PL_EFF_STOP ≤ rd s P R.PL_EFF_START ∨ rd s P R.PL_EFF_STOP < nowH s h then effPush h [0, 0, 0] s1
  else wr P R.PL_EFF_CTRL_ARMED 1 s1

/-- The start instant (R267). -/
def effStart (h : Half) (s : State) : State :=
  let P := pgPlace h
  if rdB s P R.PL_EFF_CTRL_ARMED ∧ rd s P R.PL_EFF_START ≤ nowH s h then
    plMod h (fun x => { x with thru := 0, limit := 0 }) (wr P R.PL_EFF_CTRL_RUNNING 1 (wr P R.PL_EFF_CTRL_ARMED 0 s))
  else s

/-- The stop instant (R267). -/
def effStop (h : Half) (s : State) : State :=
  let P := pgPlace h
  if rdB s P R.PL_EFF_CTRL_RUNNING ∧ rd s P R.PL_EFF_STOP ≤ nowH s h then
    let x := s.place.at h
    effPush h [x.thru, (openDiv x.limit.num x.limit.den).toNat, rd s P R.PL_EFF_STOP - rd s P R.PL_EFF_START]
      (wr P R.PL_EFF_CTRL_RUNNING 0 s)
  else s

/-! Bindings (R211, R270, R369, R418). -/

/-- The registers of record `l` between two offsets of page `P` back at their reset values. -/
def viewClear (P lo hi l : Nat) (s : State) : State :=
  let hit := fun (k : RKey) => k.page == P && k.idx == l && decide (lo ≤ k.off ∧ k.off ≤ hi)
  { s with regs := s.regs.filter (fun e => !hit e.1), shadow := s.shadow.filter (fun e => !hit e.1),
           captured := s.captured.filter (fun e => !hit e.1) }

/-- Bytes of a light's track table (R369). -/
def trackBytes (s : State) (l : Nat) : Nat := ((lgt s l).desc.extent * 8 + 4095) / 4096 * 4096

/-- The lowest place in TRACK that takes `n` bytes clear of the tables there are (R369). -/
def trackPlace (s : State) (h : Half) (n : Nat) : Option Nat :=
  let used := s.objs.lights.filterMap (fun x =>
    if lHalf x.1 = h then x.2.tbl.map (fun a => (a, trackBytes s x.1)) else none)
  let size := rd s pgEaselG R.EZG_CARVE_TRACK_GIB * 2 ^ 30
  ((0 :: used.map (fun u => u.1 + u.2)).filter (fun a =>
    decide (a + n ≤ size) && used.all (fun u => decide (a + n ≤ u.1 ∨ u.1 + u.2 ≤ a)))).foldl
      (fun b a => match b with
        | none => some a
        | some x => some (min x a)) none

/-- A new binding: WEAR, FREE, BAD and the bad-run list at zero, PREP NONE, and a track table for an eligible disc
(R270, R369, R418). -/
def newBinding (l : Nat) (s : State) : State :=
  let h := lHalf l
  let s1 := wrI (pgErasure h) R.ER_LIGHT_VIEW_PREP l 0 (plPut l R.PL_LIGHT_VIEW_0_WEAR 0 (plPut l R.PL_LIGHT_VIEW_1_FREE 0
    (plPut l R.PL_LIGHT_VIEW_0_CUR_TRACK 0 (pltMod l (fun _ => {}) s))))
  if isDisc s1 l ∧ geomOk s1 l = true then
    match trackPlace s1 h (trackBytes s1 l) with
    | some a => pltMod l (fun x => { x with tbl := some a }) s1
    | none => raise (pgEasel h) 5 (plPut l R.PL_LIGHT_VIEW_0_WR_OFF 1 s1)
  else s1

/-- The two conditions of a release (R211). -/
def unbindOk (s : State) (l : Nat) : Bool :=
  let x := lgt s l
  let held := (List.range 32).any (fun i =>
    let n := 32 * (lHalf l).num + i
    (List.range 16).any (fun k => stnUsable s n k && (stnGet s n k).serial == x.serial))
  (!x.bound || !held || !x.present) && !lightBusy s l && (strOfLight s l).isNone

/-- LL_UNBIND with GO = 1 (R211). -/
def unbind (h : Half) (l : Nat) (path : Path) (s : State) : State :=
  if lHalf l ≠ h || !unbindOk s l then cfgReject (pgLight h) R.LL_UNBIND_LIGHT.off 3 .live (some path) s
  else
    let s1 := lightLost l false s
    let s2 := pltMod l (fun _ => {}) (lgtMod l (fun _ => {}) s1)
    jrnl h (viewClear (pgErasure h) R.ER_LIGHT_VIEW_PREP.off R.ER_LIGHT_VIEW_PREP.off l
      (viewClear (pgPlace h) 0xA0 0xB8 l (viewClear (pgL l) 0xA0 0xD8 l s2)))

end Sys2Proof.Machine
end

