-- ==== Sys2Proof/Machine/Erasure.lean ====
section
/-!
DEFINITION. Scrub, repair, the sweep of the map and Gesso (chapter 12 R411-R424).
-/
namespace Sys2Proof.Machine

/-! Scrub (R411-R413). -/

def erV (s : State) (l : Nat) (f : Fld) : Nat := rdI s (pgErasure (lHalf l)) f l
def erPut (l : Nat) (f : Fld) (v : Nat) (s : State) : State := wrI (pgErasure (lHalf l)) f l v s

/-- The map entries of both halves that name light `l`. -/
def lightEnts (s : State) (l : Nat) : List MapEnt := (s.place.west.map ++ s.place.east.map).filter (fun e => e.light == l)

/-- A light that its half scrubs (R411). -/
def scrubbable (s : State) (l : Nat) : Bool :=
  isDisc s l && stnObject s (lightPort s l) (lightStn s l) && grpEn s (lHalf l) (lightGroup s l) && lightState s l == lsLIT &&
    lV s l R.LL_VIEW_0_HEALTH != 2

/-- A pass starts: its start, its due time, the cursor at track 0 (R411). -/
def passStart (l : Nat) (s : State) : State :=
  let now := nowH s (lHalf l)
  let days := max 1 (rd s (pgErasure (lHalf l)) R.ER_CTRL_SCRUB_DAYS)
  erPut l R.ER_LIGHT_VIEW_SCRUB_TRACK 0 (erPut l R.ER_PASS_START now
    (pltMod l (fun x => { x with scrubbed := [], pass := some (now + days * 86400000000000, false) }) s))

/-- Runs with a LIVE member that the pass has not read, at the cursor or after it. -/
def unread (s : State) (l : Nat) : List MapEnt :=
  let c := erV s l R.ER_LIGHT_VIEW_SCRUB_TRACK
  (lightEnts s l).filter (fun e =>
    e.kind == 1 && !e.lost && decide (c ≤ e.track) && !(plt s l).scrubbed.contains (e.track, e.slot))

/-- The tracks of a list in ascending order. -/
def sortTracks (ts : List Nat) : List Nat := ts.dedup.mergeSort (fun a b => decide (a ≤ b))

/-- The run to read next: the soonest among the cursor track and the 15 tracks after it that hold live runs (R412). -/
def scrubPick (s : State) (l : Nat) : Option MapEnt :=
  let c := erV s l R.ER_LIGHT_VIEW_SCRUB_TRACK
  let live := (lightEnts s l).filter (fun e => e.kind == 1 && !e.lost && decide (c < e.track))
  let near := c :: (sortTracks (live.map (·.track))).take 15
  let u := unread s l
  let es := u.filter (fun e => near.contains e.track)
  let seek := (grpSet s (lHalf l) (lightGroup s l)).seekNs
  bestBy (fun a b => runBefore (curTrack s l) ⟨runInstant s l a.track a.slot 0 seek, a.track, a.slot⟩
    ⟨runInstant s l b.track b.slot 0 seek, b.track, b.slot⟩) (if es.isEmpty then u else es)

/-- One scrub read inserted (R412). -/
def scrubRead (l : Nat) (e : MapEnt) (s : State) : State :=
  let n := e.strip + 1
  schInsert ⟨0, l, 2, e.track, e.slot, n, List.replicate n none, [], .scrub l, .held, 0, 0, 0, true, 0, 0, 0, []⟩
    (pltMod l (fun x => { x with scrub := some (e.obj, e.stripe, e.member, true) }) s)

/-- The map entry that a scrub read names, as long as it is LIVE on that light. -/
def scrubEnt (s : State) (l : Nat) (k : Nat × Nat × Nat × Bool) : Option MapEnt :=
  (lightEnts s l).find? (fun e => e.obj == k.1 && e.stripe == k.2.1 && e.member == k.2.2.1 && !e.lost)

/-- A light without a pending event gets its next scrub read (R411-R413). -/
def scrubInsert (l : Nat) (s : State) : State :=
  if !rdB s (pgErasure (lHalf l)) R.ER_CTRL_SCRUB_EN || !takesWork s || !scrubbable s l || lightBusy s l then s
  else
    match ((plt s l).scrub).bind (fun k => if k.2.2.2 then none else scrubEnt s l k) with
    | some e => scrubRead l e s
    | none =>
      if (plt s l).scrub.any (fun k => k.2.2.2) then s
      else
        let s1 := if (plt s l).pass.isNone || (unread s l).isEmpty && (lightEnts s l).any (fun e => !e.lost)
          then passStart l s else s
        match scrubPick s1 l with
        | some e => scrubRead l e s1
        | none => s1

/-- The cursor goes to the lowest track from where it stands that still holds an unread run (R411). -/
def cursorOn (l : Nat) (s : State) : State :=
  match (sortTracks ((unread s l).map (·.track))).head? with
  | some t => erPut l R.ER_LIGHT_VIEW_SCRUB_TRACK t s
  | none => passStart l s

/-- A scrub read has ended (R409, R412, R413, R424). -/
def scrubDone (e : Event) (l : Nat) (out : EvOut) (s : State) : State :=
  match (plt s l).scrub with
  | none => s
  | some k =>
    match out with
    | .handed _ => pltMod l (fun x => { x with scrub := some (k.1, k.2.1, k.2.2.1, false) }) s
    | _ =>
      let s1 := pltMod l (fun x => { x with scrub := none, scrubbed := x.scrubbed ++ [(e.track, e.slot)] }) s
      let s2 :=
        match scrubEnt s l k with
        | none => s1
        | some m =>
          if m.track ≠ e.track ∨ m.slot ≠ e.slot then s1
          else if out = .pass then
            let s2 := bump (pgErasure (lHalf l)) R.ERASURE_CNT_SCRUB s1
            let c := readCheck m panelBytes 0 e.seals e.buf
            if c = 0 then s2 else memberBad (lHalf l) m c s2
          else memberLost m.obj m.stripe m.member false s1
      cursorOn l s2

/-- A pass not done when it is due raises SCRUB_LATE once (R412). -/
def scrubLate (l : Nat) (s : State) : State :=
  match (plt s l).pass with
  | some (due, false) =>
    if due ≤ nowH s (lHalf l) ∧ scrubbable s l = true then
      raise (pgErasure (lHalf l)) 2 (pltMod l (fun x => { x with pass := some (due, true) }) s)
    else s
  | _ => s

/-! Repair (R414-R417). -/

/-- The light on which a map entry puts a member. -/
def memberLight (s : State) (obj num m : Nat) : Option Nat :=
  ((mapStripe s obj num).find? (fun e => e.member == m)).map (·.light)

/-- A LOST member may be repaired: not by its light's FAULT, or its delay is over (R415). -/
def repairable (s : State) (r : RepRec) (m : Nat × Bool) : Bool :=
  !m.2 || (memberLight s r.obj r.num m.1).all (fun l => (plt s l).delayOver)

/-- Readable members of a stripe less K (R416). -/
def spareMembers (s : State) (r : RepRec) : Int :=
  let es := mapStripe s r.obj r.num
  ((es.filter (entReadable s)).length : Int) - ((es.head?.map (·.k)).getD 0 : Nat)

/-- Repairs under way on a half. -/
def repairsOn (s : State) (h : Half) : Nat := (s.objs.stripes.filter (fun x => x.repair && decide (x.home = h))).length

/-- The record to repair next (R416). -/
def repairPick (s : State) (h : Half) : Option RepRec :=
  let q := (s.place.at h).repairs.filter (fun r => r.job.isNone && !r.unreadable && r.lost.any (repairable s r))
  (bestBy (fun a b => decide (spareMembers s a.1 < spareMembers s b.1) ||
    (decide (spareMembers s a.1 = spareMembers s b.1) && decide (a.2 < b.2))) q.zipIdx).map (·.1)

/-- Every unit of a stripe's data. -/
def allUnits (e : MapEnt) : List Nat := List.range (e.k * runUnits e.kind (e.strip + 1))

/-- The repair of a queued stripe begins (R416); with fewer than K readable members it is UNREADABLE (R417). -/
def repairBegin (h : Half) (r : RepRec) (s : State) : State :=
  match mapStripe s r.obj r.num with
  | [] => plMod h (fun x => { x with repairs := x.repairs.filter (fun y => !(y.obj == r.obj && y.num == r.num)) }) s
  | e :: _ =>
    let id := s.objs.next
    let lost := (r.lost.filter (repairable s r)).map (·.1)
    let x : Stripe := {
      id, home := h, obj := r.obj, num := r.num, write := 0, ord := 0, group := e.group, k := e.k, m := e.m,
      s := e.strip + 1, kind := e.kind, repair := true,
      members := (List.range (e.k + e.m)).map (fun m => { st := if lost.contains m then .toPlace else .kept }) }
    let s1 := nextUse (objMod (fun o => { o with stripes := o.stripes ++ [x] }) s)
    let s2 := plMod h (fun y => { y with repairs := y.repairs.map (fun q =>
      if q.obj = r.obj ∧ q.num = r.num then { q with job := some id } else q) }) s1
    let (s3, p) := planNew (.repair id) e (allUnits e) true s2
    planCheck p s3

/-- A half takes up one more queued stripe (R416). -/
def repairStart (h : Half) (s : State) : State :=
  let P := pgErasure h
  if !rdB s P R.ER_CTRL_REPAIR_EN || !takesWork s ||
      decide (min 4096 (max 1 (rd s P R.ER_CTRL_REPAIR_MAX)) ≤ repairsOn s h) then s
  else
    match repairPick s h with
    | some r => repairBegin h r s
    | none => s

/-- A record has gained a LOST member while its repair runs: rebuilt from the same K reads where they still hold, else
from a new plan (R424). -/
def repairMore (h : Half) (id : Nat) (s : State) : State :=
  match stpGet s id, (s.place.at h).repairs.find? (fun r => r.job == some id) with
  | some x, some r =>
    let new := ((r.lost.filter (repairable s r)).map (·.1)).filter (fun m =>
      (x.members[m]?).any (fun y => y.st == .kept))
    if new.isEmpty || x.gone then s
    else
      let s1 := new.foldl (fun t m => stpMod id (smMod m (fun y => { y with st := .toPlace })) t) s
      match s.objs.plans.find? (fun p => p.owner == .repair id), mapStripe s x.obj x.num with
      | some p, e :: es =>
        let sound := (goodParts p).take p.k
        let hold := sound.length == p.k && sound.all (fun g => (e :: es).any (fun y => y.member == g.member && !y.lost))
        if !p.done then s1
        else if hold then repairBuild p id s1
        else
          let (s2, q) := planNew (.repair id) e (allUnits e) true (planDrop p.id s1)
          planCheck q s2
      | _, _ => s1
  | _, _ => s

/-- UNREADABLE stripes that have K readable members again are free to be repaired (R417). -/
def unreadableRetry (h : Half) (s : State) : State :=
  plMod h (fun x => { x with repairs := x.repairs.map (fun r =>
    if r.unreadable && decide (0 ≤ spareMembers s r) then { r with unreadable := false } else r) }) s

/-- The order of a sweep (R414). -/
def sweepBefore (a b : MapEnt) : Bool := decide (a.obj < b.obj) || (a.obj == b.obj && decide (a.stripe ≤ b.stripe))

/-- A sweep adds stripes with LOST entries while the queue has room; one that finds nothing to add ends it (R414). -/
def mapSweep (h : Half) (s : State) : State :=
  let x := s.place.at h
  if !x.sweep then s
  else
    let miss := (x.map.filter (fun e => e.lost && !x.repairs.any (fun r =>
      r.obj == e.obj && r.num == e.stripe && r.lost.any (fun m => m.1 == e.member)))).mergeSort sweepBefore
    if miss.isEmpty then plMod h (fun y => { y with sweep := false }) s
    else
      miss.foldl (fun t e =>
        let q := (t.place.at h).repairs
        if q.any (fun r => r.obj == e.obj && r.num == e.stripe) || decide (q.length < 65536) then
          queueRepair e.obj e.stripe e.member (lightState t e.light == lsFAULT) t
        else t) s

/-! Gesso (R418-R423). -/

def jobGet (s : State) (h : Half) (j : Nat) : Option GJob := ((s.place.at h).jobs.find? (fun p => p.1 == j)).map (·.2)

def jobMod (h : Half) (j : Nat) (f : GJob → GJob) (s : State) : State :=
  plMod h (fun x => { x with jobs := x.jobs.map (fun p => if p.1 = j then (j, f p.2) else p) }) s

/-- Unit `u` of a job. -/
def gunit (s : State) (h : Half) (j u : Nat) : Option GUnit :=
  (jobGet s h j).bind (fun b => b.units.find? (fun x => x.unit == u))

def gunitMod (h : Half) (j u : Nat) (f : GUnit → GUnit) (s : State) : State :=
  jobMod h j (fun b => { b with units := b.units.map (fun x => if x.unit = u then f x else x) }) s

/-- PREP of a light set, journalled (R418). -/
def setPrep (l v : Nat) (s : State) : State := jrnl (lHalf l) (erPut l R.ER_LIGHT_VIEW_PREP v s)

/-- A unit has reported ABSENT: PREP NONE, WR_OFF (R418). -/
def unitAbsent (l : Nat) (s : State) : State :=
  if (lgt s l).bound then setPrep l 0 (plPut l R.PL_LIGHT_VIEW_0_WR_OFF 1 s) else s

/-- A transfer of the job is in the scheduler, or a command without VERIFY. -/
def jobFlying (s : State) (h : Half) (j : Nat) : Bool :=
  ((s.sched.at h).events ++ (s.sched.at h).wait).any (fun e => match e.owner with
    | .gesso i _ => i == j
    | .gessoRd i _ => i == j
    | _ => false) || (s.sched.at h).cmds.any (fun c => c.job.any (fun p => p.1 == j))

/-- A unit word (R423). -/
def gunitWord (s : State) (x : GUnit) : Nat :=
  x.unit * 2 ^ 49 + x.light * 2 ^ 35 + x.out.getD 0 * 2 ^ 31 +
    (if x.out = some 1 then 0 else min 64 (plt s x.light).bad.length) * 2 ^ 24

/-- A job word (R423). -/
def jobWord (j out port stn cause : Nat) : Nat := j * 2 ^ 53 + out * 2 ^ 51 + port * 2 ^ 45 + stn * 2 ^ 41 + cause * 2 ^ 37

/-- A job whose units have all ended pushes its result (R423). -/
def jobEnd (h : Half) (j : Nat) (s : State) : State :=
  match jobGet s h j with
  | none => s
  | some b =>
    if b.units.all (fun x => x.out.isSome) && !jobFlying s h j then
      let P := pgErasure h
      let s1 := plMod h (fun x => { x with jobs := x.jobs.filter (fun p => p.1 != j) }) s
      let s2 := pushResult (resOf h) 6 true
        (jobWord j (if b.ending then 2 else 0) b.port b.stn 0 :: b.units.map (gunitWord s)) s1
      raiseIf (b.units.any (fun x => x.out != some 0)) P 6 (raise P 5 s2)
    else s

/-- The unfired events of a job that `sel` picks are withdrawn. -/
def gwithdraw (h : Half) (sel : Nat → Nat → Bool) (s : State) : State :=
  let mine := fun (e : Event) => match e.owner with
    | .gesso i u => sel i u
    | .gessoRd i u => sel i u
    | _ => false
  schMod h (fun c => { c with
    events := c.events.filter (fun e => !(mine e && (e.st == .held || e.st == .fixed))),
    wait := c.wait.filter (fun e => !mine e) }) s

/-- A unit ends with an outcome; PREP as R422 and R418 give. -/
def gunitEnd (h : Half) (j u out : Nat) (s : State) : State :=
  match gunit s h j u with
  | none => s
  | some x =>
    if x.out.isSome then s
    else
      let l := x.light
      let s1 := gunitMod h j u (fun y => { y with out := some out }) (gwithdraw h (fun i k => i == j && k == u) s)
      if out = 1 then s1
      else if out = 0 then
        setPrep l 1 (plPut l R.PL_LIGHT_VIEW_0_WR_OFF 0
          (plPut l R.PL_LIGHT_VIEW_1_FREE (capacity s l - (plt s l).bad.length) s1))
      else setPrep l (if (lgt s l).unitState = 0 then 0 else 2) (plPut l R.PL_LIGHT_VIEW_0_WR_OFF 1 s1)

/-- The first word of a BLANK (3) or LABEL (4) seal: what the spec gives no value is free (R405). -/
def blankSeal (kind stamp : Nat) (d : List Byte) : List Byte :=
  let hd := leBytes 8 (0x5E41 * 2 ^ 48 + kind * 2 ^ 44 + Config.blankFields kind % 2 ^ 17 * 2 ^ 27) ++ zeros 16 ++
    leBytes 8 stamp ++ zeros 28
  fit (d.length / 256) (hd.take 56 ++ leBytes 8 (crc32c hd) ++ ((blockCrcs d).map (leBytes 8)).flatten)

/-- A seal is the BLANK or LABEL seal of a job: its kind, its stamp, its own check and its block CRCs (R421). -/
def blankMatches (kind stamp : Nat) (d b : List Byte) : Bool := b == blankSeal kind stamp d

/-- The write events of a track: every slot, in runs of at most 16 (R421). -/
def trackEvents (s : State) (j u l stamp t : Nat) : List Event :=
  let n := lV s l R.LL_VIEW_3_SLOTS
  (List.range ((n + 15) / 16)).map (fun i =>
    let c := min 16 (n - 16 * i)
    ⟨0, l, 1, t, 16 * i, c, List.replicate c none,
      (List.replicate c (blankSeal 3 stamp (zeros panelBytes))).flatten, .gesso j u, .held, 0, 0, 0, true,
      0, 0, 0, []⟩)

/-- A unit writes track `t` (R421). -/
def trackGo (h : Half) (j u t : Nat) (s : State) : State :=
  match jobGet s h j, gunit s h j u with
  | some b, some x =>
    let es := trackEvents s j u x.light b.stamp t
    es.foldl (fun t e => schInsert e t)
      (gunitMod h j u (fun y => { y with track := t, left := es.length, check := false, spin := false }) s)
  | _, _ => s

/-- A unit's check read: slot 0 of a track, or the label of a tape (R421). -/
def checkGo (h : Half) (j u : Nat) (s : State) : State :=
  match gunit s h j u with
  | none => s
  | some x =>
    let l := x.light
    let s1 := gunitMod h j u (fun y => { y with left := 1, check := true }) s
    if isDisc s l then
      schInsert ⟨0, l, 2, x.track, 0, 1, [none], [], .gessoRd j u, .held, 0, 0, 0, true, 0, 0, 0, []⟩ s1
    else
      schInsert ⟨0, l, 6, 0, 0, 1, List.replicate 16 none, [], .gessoRd j u, .held, 0, 0, 0, true, 0, 0, 0, []⟩ s1

/-- The preparation of a unit begins, or waits on the limits of R247 (R420, R421). -/
def gunitBegin (h : Half) (j u : Nat) (s : State) : State :=
  match gunit s h j u with
  | none => s
  | some x =>
    let l := x.light
    let s1 := gunitMod h j u (fun y => { y with begun := true, spin := true }) s
    if (lgt s l).unitState = 0 ∨ lightState s l = lsFAULT then gunitEnd h j u 5 s1
    else if isDisc s l then
      if (lgt s l).unitState = 1 ∧ ¬ spinPending s l 3 then
        if spinAllowed s (lightGroup s l) l then trackGo h j u 0 (spinUp l s1)
        else raiseIf (!(s.place.at h).spinLimit) (pgPlace h) 3 (plMod h (fun y => { y with spinLimit := true }) s1)
      else trackGo h j u 0 s1
    else if cmdRoom s l then
      unitCmd l 8 0 0 0 (some (j, u)) (fun _ => []) (gunitMod h j u (fun y => { y with tape := 1, spin := false }) s1)
    else s1

/-- Units of a port under preparation on the half. -/
def portPrep (s : State) (h : Half) (n : Nat) : Nat :=
  (((s.place.at h).jobs.filter (fun p => p.2.port == n)).map (fun p =>
    (p.2.units.filter (fun x => x.begun && x.out.isNone)).length)).sum

/-- Jobs go on: units that wait for a spin-up, then units that wait for a place among GESSO_PAR, in job and unit order
(R420). -/
def gessoKick (h : Half) (s : State) : State :=
  let all := ((s.place.at h).jobs.map (fun p => p.2.units.map (fun x => (p.1, p.2.port, x)))).flatten
  let s1 := (all.filter (fun x => x.2.2.out.isNone && x.2.2.spin)).foldl (fun t x => gunitBegin h x.1 x.2.2.unit t) s
  let par := min 96 (max 1 (rd s (pgErasure h) R.ER_CTRL_GESSO_PAR))
  let s2 := (all.filter (fun x => x.2.2.out.isNone && !x.2.2.begun)).foldl (fun t x =>
    if portPrep t h x.2.1 < par then gunitBegin h x.1 x.2.2.unit t else t) s1
  ((s.place.at h).jobs.map (·.1)).foldl (fun t j => jobEnd h j t) s2

/-- The covered units of a target and the lights that they hold (R420). -/
def gessoUnits (s : State) (h : Half) (n stn unit : Nat) : List GUnit :=
  let serial := (stnGet s n stn).serial
  let us := if unit = 0x7F then List.range (stnGet s n stn).units else [unit]
  us.map (fun u =>
    match boundLight s h serial u with
    | none => { unit := u, out := some 1 }
    | some l => if geomOk s l then { unit := u, light := l } else { unit := u, light := l, out := some 2 })

/-- Why a start is refused (R419). -/
def gessoRefusal (s : State) (h : Half) (n stn : Nat) (us : List GUnit) : Option Nat :=
  let ls := (us.filter (fun x => x.out != some 1)).map (·.light)
  if aHalf n ≠ h || apuState s n != asACTIVE || !stnUsable s n stn then some 1
  else if stnObject s n stn && ls.any (fun l =>
      !(lightEnts s l).isEmpty || lightBusy s l || (strOfLight s l).isSome) then some 2
  else if (winsOn s h).any (fun w => winF s h w R.PAL_WIN_VIEW_1_PORT == n && winF s h w R.PAL_WIN_VIEW_1_STN == stn) then some 3
  else if (s.place.at h).jobs.any (fun p => p.2.port == n && p.2.stn == stn) then some 4
  else if (s.place.at h).jobs.length < 8 then none else some 5

/-- What a job first does to a unit that it covers (R420). -/
def gunitClear (s : State) (x : GUnit) : State :=
  if x.out.isSome then s
  else
    let l := x.light
    setPrep l 0 (plPut l R.PL_LIGHT_VIEW_0_WR_OFF 1 (plPut l R.PL_LIGHT_VIEW_0_WEAR 0 (plPut l R.PL_LIGHT_VIEW_0_CUR_TRACK 0
      (pltMod l (fun y => { y with bad := [], written := 0, tracks := [], badTracks := [] }) s))))

/-- GS_CMD ABORT (R423). -/
def gessoAbort (h : Half) (j : Nat) (s : State) : State :=
  match jobGet s h j with
  | none => s
  | some b =>
    let s1 := gwithdraw h (fun i _ => i == j) (jobMod h j (fun y => { y with ending := true }) s)
    gessoKick h (b.units.foldl (fun t x => gunitEnd h j x.unit 7 t) s1)

/-- GS_CMD START (R419, R420, R564). -/
def gessoStart (h : Half) (s : State) : State :=
  let P := pgErasure h
  let n := rd s P R.GS_TGT_PORT
  let stn := rd s P R.GS_TGT_STN
  let unit := rd s P R.GS_TGT_UNIT
  let us := gessoUnits s h n stn unit
  match gessoRefusal s h n stn us with
  | some c => pushResult (resOf h) 6 true [jobWord 0 1 n stn c] s
  | none =>
    match firstFree ((s.place.at h).jobs.map (·.1)) 8 0 with
    | none => s
    | some j =>
      let s1 := us.foldl gunitClear s
      let s2 := plMod h (fun x => { x with jobs := x.jobs ++ [(j, ⟨n, stn, unit, nowH s h, false, us⟩)] }) s1
      if takesWork s then gessoKick h s2 else gessoAbort h j s2

/-- Slots of a failed transfer listed one by one; a list that would hold more than 64 ends the unit (R422). -/
def slotsBad (h : Half) (j u l t a n : Nat) (s : State) : State :=
  let new := ((List.range n).map (fun i => a + i)).filter (fun i => !(plt s l).bad.contains (t, i, 1))
  let s1 := new.foldl (fun x i =>
    if (plt x l).bad.length < 64 then bump (pgErasure h) R.ERASURE_CNT_GS_BAD (badRun l t i 1 x) else x) s
  if 64 < (plt s l).bad.length + new.length then gunitEnd h j u 3 s1 else s1

/-- A transfer of the present track has ended: the next track, the check read, or the end (R421). -/
def gunitOn (h : Half) (j u : Nat) (s : State) : State :=
  match gunit s h j u with
  | none => s
  | some x =>
    if x.out.isSome || x.left != 1 then gunitMod h j u (fun y => { y with left := y.left - 1 }) s
    else
      let l := x.light
      let ext := lV s l R.LL_VIEW_3_EXTENT
      let s1 := gunitMod h j u (fun y => { y with left := 0 }) s
      if !isDisc s l then
        gunitEnd h j u 0 (plPut l R.PL_LIGHT_VIEW_0_CUR_TRACK 1 (gunitMod h j u (fun y => { y with tracksDone := 1 }) s1))
      else if !x.check ∧ (x.track % 1024 = 0 ∨ x.track + 1 = ext) then checkGo h j u s1
      else
        let s2 := gunitMod h j u (fun y => { y with tracksDone := x.track + 1 }) s1
        if ext ≤ x.track + 1 then gunitEnd h j u 0 s2 else trackGo h j u (x.track + 1) s2

/-- The outcome that a hand-back gives a unit (R422). -/
def handOut (cause : Nat) : Nat := if cause = 1 then 6 else 5

/-- A Gesso event has ended (R421, R422). CANCELLED, for which R422 gives nothing, is inserted again. -/
def gessoEvDone (h : Half) (e : Event) (j u : Nat) (read : Bool) (out : EvOut) (s : State) : State :=
  match jobGet s h j, gunit s h j u with
  | some b, some x =>
    if x.out.isSome then jobEnd h j s
    else
      let s1 :=
        match out with
        | .handed 5 => schInsert { e with st := .held, seals := if read then [] else e.seals, buf := [] } s
        | .handed c => gunitEnd h j u (handOut c) s
        | .failed => gunitOn h j u (slotsBad h j u x.light e.track e.slot e.count s)
        | .pass =>
          if !read then gunitOn h j u s
          else
            let disc := isDisc s x.light
            if blankMatches (if disc then 3 else 4) b.stamp (zeros (if disc then panelBytes else tapeBytes)) e.seals
            then gunitOn h j u s else gunitEnd h j u 4 s
      gessoKick h s1
  | _, _ => s

/-- The bursts of a tape label: a block of zeros and its seal (R408, R421). -/
def labelBursts (s : State) (l stamp v : Nat) : List Txn :=
  let h := lHalf l
  let stn := lightStn s l
  let u := lightUnit s l
  wrBursts stn (.unitCmd h v) 4096 (unitBuf u + bufOff v) (zeros tapeBytes) ++
    wrBursts stn (.unitCmd h v) 16 (sealBuf u + bufOff v / 256) (blankSeal 4 stamp (zeros tapeBytes))

/-- A unit command of a Gesso job has its VERIFY, or ends with its port (R421, R422). -/
def gessoCmdDone (h : Half) (c : UnitCmd) (j u result : Nat) (s : State) : State :=
  match jobGet s h j, gunit s h j u with
  | some b, some x =>
    let l := x.light
    if x.out.isSome then jobEnd h j s
    else
      let s1 :=
        if result = 4 ∨ 6 ≤ result then gunitEnd h j u 5 s
        else if result = 5 then gunitEnd h j u (if apuState s b.port = asACTIVE then 5 else 6) s
        else if c.op = 8 then
          if result = 0 then
            unitCmd l 5 0 1 tapeBytes (some (j, u)) (labelBursts s l b.stamp)
              (gunitMod h j u (fun y => { y with tape := 2 }) s)
          else unitCmd l 8 0 0 0 (some (j, u)) (fun _ => []) s
        else
          let s2 := if result = 0 then s else slotsBad h j u l 0 0 1 s
          if (gunit s2 h j u).any (fun y => y.out.isNone) then
            checkGo h j u (gunitMod h j u (fun y => { y with tape := 3 }) s2)
          else s2
      gessoKick h s1
  | _, _ => s

/-- Units whose light can go no further end, and those that wait try again (R420, R422). -/
def gessoLight (l : Nat) (s : State) : State :=
  let h := lHalf l
  let hit := ((s.place.at h).jobs.map (fun p => (p.2.units.filter (fun x =>
    x.out.isNone && x.light == l && x.begun)).map (fun x => (p.1, x.unit)))).flatten
  gessoKick h (if (lgt s l).unitState = 0 ∨ lightState s l = lsFAULT then
    hit.foldl (fun t p => gunitEnd h p.1 p.2 (if apuState t (lightPort t l) = asACTIVE then 5 else 6) t) s else s)

end Sys2Proof.Machine
end

