-- ==== Sys2Proof/Machine/EaselSvc.lean ====
section
/-!
DEFINITION. The Easel service: carves, FORMAT, the service bit, the release of pages, the read cache's fills, the gap of
wear levelling, and the error log (chapter 11 R363-R378, R391-R396).
-/
namespace Sys2Proof.Machine

/-! State and service (R396). -/

def replayFld : Half → Fld
  | .west => R.EZG_STAT_W_REPLAY
  | .east => R.EZG_STAT_E_REPLAY

/-- EZG_STAT.STATE: 0 UNCARVED, 1 READY, 2 REPLAYING, 3 DAMAGED (R396). -/
def ezState (s : State) : Nat :=
  let w := rd s pgEaselG R.EZG_STAT_W_REPLAY
  let e := rd s pgEaselG R.EZG_STAT_E_REPLAY
  if w = 3 ∨ e = 3 then 3 else if w = 1 ∨ e = 1 then 2 else if carved s then 1 else 0

/-- Some engine or ring that needs the service is enabled (R396). -/
def svcNeeded (s : State) : Bool :=
  [Half.west, .east].any (fun h => rdB s (pgDikar h) R.DK_CTRL_EN || rdB s (pgPlace h) R.PL_CTRL_EN ||
    rdB s (pgColl h) R.COL_CTRL_EN || rdB s (pgSched h) R.SCH_CTRL_EN) ||
    (listedIdx s pgRings R.RING_CTRL_EN).any (fun r => rdBI s pgRings R.RING_CTRL_EN r)

/-- A write of EZG_CTRL.SVC (R396). -/
def svcWrite (v : Bool) (path : Path) (s : State) : State :=
  if v = rdB s pgEaselG R.EZG_CTRL_SVC then s
  else if (if v then ezState s == 1 else !svcNeeded s) then wr pgEaselG R.EZG_CTRL_SVC (bit v) s
  else cfgReject pgEaselG R.EZG_CTRL_SVC.off 3 .live (some path) s

/-- A write of an EN field that needs the service: a 1 while SVC is 0 is dropped (R396). -/
def enWrite (P : Nat) (f : Fld) (en : Bool) (path : Path) (s : State) : State :=
  if en && !rdB s pgEaselG R.EZG_CTRL_SVC then cfgReject P f.off 3 .live (some path) s else wr P f (bit en) s

/-! Carves and FORMAT (R363-R366). -/

/-- A carve from its register image: NAME_LOG2, MAP_GIB, TRACK_GIB, STREAM_GIB, RING_GIB, CACHE_GIB, FIFO_OFF (R396). -/
def carveOf (v : Nat) : List Nat := [bits v 63 59, bits v 58 53, bits v 52 43, bits v 42 33, bits v 32 23, bits v 22 13, bits v 12 10]

def carveFlds : List Fld :=
  [R.EZG_CARVE_NAME_LOG2, R.EZG_CARVE_MAP_GIB, R.EZG_CARVE_TRACK_GIB, R.EZG_CARVE_STREAM_GIB, R.EZG_CARVE_RING_GIB,
    R.EZG_CARVE_CACHE_GIB, R.EZG_CARVE_FIFO_OFF]

/-- The carve's fields set. -/
def carvePut (c : List Nat) (s : State) : State := (carveFlds.zip c).foldl (fun t x => wr pgEaselG x.1 x.2 t) s

/-- A carve is valid (R364). -/
def carveOk (s : State) (c : List Nat) : Bool :=
  let t := carvePut c s
  let g := fun f => rd t pgEaselG f
  decide (20 ≤ g R.EZG_CARVE_NAME_LOG2 ∧ g R.EZG_CARVE_NAME_LOG2 ≤ 28 ∧ 1 ≤ g R.EZG_CARVE_MAP_GIB ∧
    g R.EZG_CARVE_MAP_GIB ≤ 32 ∧ 1 ≤ g R.EZG_CARVE_RING_GIB ∧ g R.EZG_CARVE_FIFO_OFF ≤ 4 ∧
    regionBase t 9 + 64 * 2 ^ 30 ≤ 2 ^ 40)

/-- A page is in use or a stream is open (R365). -/
def carveBusy (s : State) : Bool :=
  [Half.west, .east].any (fun h => !(s.place.at h).used.isEmpty || (s.sched.at h).streams.any (fun p => p.2.open_))

/-- A live name, a committed map entry or an allocated track table exists (R365). -/
def carveHolds (s : State) : Bool :=
  s.objs.names.any (fun p => p.2.used && !p.2.tomb) || !s.place.west.map.isEmpty || !s.place.east.map.isEmpty ||
    s.objs.lights.any (fun p => p.2.tbl.isSome)

/-- The CAUSE that refuses a carve (R365). -/
def carveCause (s : State) (c : List Nat) : Option Nat :=
  let old := carveFlds.map (fun f => rd s pgEaselG f)
  if !carveOk s c then some 2
  else if carveBusy s then some 4
  else if c.take 3 ≠ old.take 3 && carveHolds s then some 5 else none

def genUp (s : State) : State := wr pgEaselG R.EZG_STAT_CARVE_GEN (rd s pgEaselG R.EZG_STAT_CARVE_GEN + 1) s

/-- A light without a track table receives one where its descriptor makes it eligible (R369). -/
def giveTable (s : State) (l : Nat) : State :=
  let h := lHalf l
  if (lgt s l).bound && isDisc s l && geomOk s l && (plt s l).tbl.isNone then
    match trackPlace s h (trackBytes s l) with
    | some a => pltMod l (fun x => { x with tbl := some a }) s
    | none => raise (pgEasel h) 5 (plPut l R.PL_LIGHT_VIEW_0_WR_OFF 1 s)
  else s

def boundLights (s : State) : List Nat := (s.lights.filter (fun p => p.2.bound)).map (·.1)

/-- The half that a device-wide step is journalled from. -/
def stepHalf (s : State) : Half := (primary s).getD ((leadHalf s).getD .west)

/-- A write of EZG_CARVE (R365). -/
def carveWrite (v : Nat) (path : Path) (s : State) : State :=
  let off := R.EZG_CARVE_NAME_LOG2.off
  let c := carveOf v
  if rdB s pgEaselG R.EZG_CTRL_SVC then cfgReject pgEaselG off 1 .stopped (some path) s
  else
    match carveCause s c with
    | some k => cfgReject pgEaselG off 3 .stopped (some path) (wr pgEaselG R.EZG_STAT_CAUSE k s)
    | none =>
      let s1 := jrnlBoth (stepHalf s) (genUp (wr pgEaselG R.EZG_STAT_CAUSE 0 (carvePut c s)))
      let s2 := plMod .east (fun x => { x with cache := [] }) (plMod .west (fun x => { x with cache := [] }) s1)
      raise pgEaselG 0 ((boundLights s2).foldl giveTable s2)

/-- What FORMAT does to a light (R366). -/
def formatLight (s : State) (l : Nat) : State :=
  plPut l R.PL_LIGHT_VIEW_0_WEAR 0 (pltMod l (fun _ => {})
    (if geomOk s l then plPut l R.PL_LIGHT_VIEW_1_FREE (capacity s l) s else s))

/-- EZG_CMD FORMAT (R366). -/
def format (gen : Nat) (path : Path) (s : State) : State :=
  if rdB s pgEaselG R.EZG_CTRL_SVC || [Half.west, .east].any (fun h => !(s.place.at h).used.isEmpty) ||
      gen != rd s pgEaselG R.EZG_STAT_CARVE_GEN then
    cfgReject pgEaselG R.EZG_CMD_OP.off 3 .live (some path) (wr pgEaselG R.EZG_STAT_CAUSE 6 s)
  else
    let s1 := objMod (fun o => { o with names := [], compactAt := 0, compacting := false, writes := [], stripes := [], plans := [] }) s
    let clear := fun (x : PlaceHalf) => { x with
      map := [], cache := [], fills := [], lost := [], lostOwed := [], repairs := [], sweep := false, badNames := [] }
    let s2 := plMod .east clear (plMod .west clear s1)
    raise pgEaselG 1 (jrnlBoth (stepHalf s) (genUp ((boundLights s2).foldl formatLight s2)))

/-! The release of pages (R375). -/

/-- A write's page still has to be kept: its stripe's bytes have no other place, its write has not ended, or a GET reads
it (R375). -/
def writeHolds (s : State) (h : Half) (p : Nat) (w : Write) : Bool :=
  w.pages.any (fun g => decide (g.half = h) && g.page == p && (!g.settled || w.ord == 0 ||
    s.dikar.ops.any (fun d => d.st == .get && d.reads.contains (w.id, g.panel))))

/-- A page of a half's write buffer is held (R375). -/
def pageHeld (s : State) (h : Half) (p : Nat) : Bool :=
  s.objs.writes.any (writeHolds s h p) ||
    s.objs.stripes.any (fun x => (decide (x.home = h) && x.own.contains p) || x.units.contains (some (pageAddr s h p))) ||
    s.objs.plans.any (fun x => decide (x.home = h) && (x.parts.any (fun y => y.pages.contains p) ||
      x.outs.any (fun o => o.2 == p))) ||
    (s.place.at h).fills.any (fun f => f.page == p)

/-- A write whose last page is released and whose stripes have ended is forgotten. -/
def writeGc (s : State) : State :=
  objMod (fun o => { o with writes := o.writes.filter (fun w =>
    !(w.pages.isEmpty && w.ord != 0 && w.built && !o.stripes.any (fun x => x.write == w.id) &&
      !s.dikar.ops.any (fun d => d.write == some w.id))) }) s

/-- Stripes that wait for a page or for their merge are put together. -/
def mergesGo (s : State) : State :=
  (s.objs.stripes.filter (fun x => x.st == .merge && !x.held && !x.gone)).foldl (fun t x => mergeStart x.id t) s

/-- A page whose conditions all hold is released, journalled (R375, R395). -/
def pageRelease (h : Half) (p : Nat) (s : State) : State :=
  if !(s.place.at h).used.contains p || pageHeld s h p then s
  else if !jrnlRoom s h then jrnlWait h s
  else
    let s1 := plMod h (fun x => { x with used := x.used.filter (fun q => q != p) }) s
    let s2 := objMod (fun o => { o with writes := o.writes.map (fun w =>
      { w with pages := w.pages.filter (fun g => !(decide (g.half = h) && g.page == p)) }) }) s1
    placeRetry (mergesGo (writeGc (jrnl h s2)))

/-! The read cache (R377, R378). -/

/-- Cache places that a GET reads. -/
def hitPlaces (s : State) (h : Half) : List Nat :=
  ((s.dikar.ops.filter (fun d => d.st == .get && decide (d.home = h))).map (fun d => d.hits.map (·.2))).flatten

/-- The place that a new cache panel takes: its own, a free one, or that of the least recently used (R377). -/
def cachePlace (s : State) (h : Half) (f : Fill) : Option Nat :=
  let c := (s.place.at h).cache
  match c.find? (fun x => x.obj == f.obj && x.panel == f.panel) with
  | some x => some x.place
  | none =>
    if c.length < cacheSize s then firstFree (c.map (·.place) ++ hitPlaces s h) (cacheSize s) 0
    else (c.find? (fun x => !(hitPlaces s h).contains x.place)).map (·.place)

/-- The oldest fill of a half enters its cache (R377). -/
def cacheFill (h : Half) (s : State) : State :=
  match (s.place.at h).fills with
  | [] => s
  | f :: r =>
    let s1 := plMod h (fun x => { x with fills := r }) s
    match cachePlace s1 h f with
    | none => s1
    | some q =>
      plMod h (fun x => { x with cache := x.cache.filter (fun c => c.place != q) ++ [⟨f.obj, f.panel, q⟩] })
        (ezStore (cacheAddr s h q) (ezRead s (pageAddr s h f.page) panelBytes) s1)

/-! Wear levelling (R392). -/

def gapGet (s : State) (h : Half) (i : Nat) : Nat × Nat :=
  (((s.place.at h).gaps.find? (fun g => g.1 == i)).map (·.2)).getD (0, 0)

/-- The gap of a stack moves by one after 64 line writes (R392). -/
def gapCopy (st : Nat) (s : State) : State :=
  let h : Half := if st < 4 then .west else .east
  let P := pgEasel h
  let i := st % 4
  let (last, pos) := gapGet s h i
  if rdB s pgEaselG R.EZG_CTRL_WL_EN ∧ st < 8 ∧ last + 64 ≤ rdI s P R.EZ_STK_VIEW_0_LINE_WRITES i then
    let wrap := pos + 1 = 2 ^ 30 + 1
    let s1 := plMod h (fun x => { x with
      gaps := x.gaps.filter (fun g => g.1 != i) ++ [(i, last + 65, if wrap then 0 else pos + 1)] }) (addLines st 1 s)
    if wrap then wrI P R.EZ_STK_VIEW_2_ROT_PASSES i (rdI s P R.EZ_STK_VIEW_2_ROT_PASSES i + 1) s1 else s1
  else s

/-! The error log (R391). -/

/-- The region of R363 in which an offset lies. -/
def regionOf (s : State) (o : Nat) : Nat :=
  ((List.range 9).filter (fun r => decide (regionBase s (r + 1) ≤ o))).length

/-- One entry of a half's Easel error log: KIND, address, owner (R391). -/
def elogPut (h : Half) (kind a owner : Nat) (s : State) : State :=
  let P := pgEasel h
  let n := rd s P R.EZ_ELOG_HEAD
  let e := [kind * 2 ^ 56 + regionOf s (a % 2 ^ 40) * 2 ^ 52 + ezStack a * 2 ^ 48, a, nowH s h, owner]
  let s1 := wr P R.EZ_ELOG_HEAD (n + 1) (plMod h (fun x => { x with
    elog := x.elog.filter (fun y => y.1 != n % 4096) ++ [(n % 4096, e)] }) s)
  if (n + 1 + 2 ^ 32 - rd s P R.EZ_ELOG_TAIL) % 2 ^ 32 > 4096 then
    raise P 4 (bump P R.EASEL_CNT_ELOG_OVF (wr P R.EZ_ELOG_TAIL (rd s P R.EZ_ELOG_TAIL + 1) s1))
  else s1

end Sys2Proof.Machine
end

