-- ==== Sys2Proof/Machine/Primacy.lean ====
section
/-!
DEFINITION. The Keeper's primacy token (R542-R547): renewals, lapses, grants, loss and restoration.
-/
namespace Sys2Proof.Machine

/-- LOST and REACH of a half (R545, R551). -/
def lostFld : Half → Fld
  | .west => R.PRM_STAT_W_LOST
  | .east => R.PRM_STAT_E_LOST
def reachFld : Half → Fld
  | .west => R.PRM_STAT_W_REACH
  | .east => R.PRM_STAT_E_REACH

def primLost (s : State) (h : Half) : Bool := rdB s pgPrimacy (lostFld h)

/-- HOLDER (R551). -/
def holderCode : Option Half → Nat
  | none => 0
  | some .west => 1
  | some .east => 2

/-- The Keeper answers the lease links. -/
def keeperAnswers (s : State) : Bool := s.boot.keeperUp

/-- A half whose lease timer is cut: it is secondary from here on (R543). -/
def leaseDrop (h : Half) (s : State) : State :=
  let s1 := leaseMod (fun l => { l with timer := l.timer.put h none }) s
  if rd s pgPrimacy R.PRM_STAT_HOLDER = holderCode (some h) then wr pgPrimacy R.PRM_STAT_HOLDER 0 s1 else s1

/-- A half's lease lapses (R543, R552). -/
def leaseLapse (h : Half) (s : State) : State :=
  if (s.keeper.lease.timer.at h).isSome then raise pgPrimacy 2 (bump pgPrimacy R.PRIMACY_CNT_LAPSE (leaseDrop h s)) else s

/-- The Keeper gives a half the token (R544). -/
def grantPrimacy (h : Half) (s : State) : State :=
  let l := s.keeper.lease
  let P := pgPrimacy
  let s1 := leaseMod (fun l => { l with
    holder := some h, lastAns := s.clk, last := some h, prefWait := none, restore := none,
    timer := l.timer.put h (some s.clk), asks := l.asks.put h none }) s
  let s2 := raise P 0 (bump P R.PRIMACY_CNT_GRANT (wr P R.PRM_LAST_TIME (now s)
    (wr P R.PRM_STAT_HOLDER (holderCode (some h)) s1)))
  raiseIf (decide (l.last.isSome ∧ l.last ≠ some h)) P 1 s2

/-- The token is free for `h`: nobody holds it, or it is the last holder's own, or 2 ms have passed since the Keeper
answered the holder (R542). -/
def tokenFree (s : State) (h : Half) : Bool :=
  let l := s.keeper.lease
  match l.holder with
  | none => true
  | some g => decide (g = h) || decide (l.lastAns + 2000000 ≤ s.clk)

/-- The Keeper still keeps the quiet of its first 2 ms (R544). -/
def keeperQuiet (s : State) : Bool := s.keeper.lease.quietFrom.any (fun t => decide (s.clk < t + 2000000))

/-- When both halves ask since the same moment, the token goes to the last holder, or where there is none to the
preferred half (R544). -/
def winsTie (s : State) (h : Half) : Bool :=
  let l := s.keeper.lease
  if l.asks.at h = l.asks.at h.twin then decide (l.last.getD s.keeper.straps.pref = h) else true

/-- A half asks for the token and it can be granted (R542-R546): the named half of a restore goes first. -/
def canGrant (s : State) (h : Half) : Bool :=
  let l := s.keeper.lease
  keeperAnswers s && !primLost s h && (l.asks.at h).isSome && tokenFree s h && !keeperQuiet s && winsTie s h &&
    (l.restore.isNone || l.restore == some h)

/-- The Keeper grants the token to an asking half; at its first grant the half that is not preferred waits (R544). -/
def primacyGrant (h : Half) (s : State) : State :=
  let l := s.keeper.lease
  if !canGrant s h then s
  else if l.last = none ∧ h ≠ s.keeper.straps.pref ∧ ¬ l.prefOver then leaseMod (fun l => { l with prefWait := some h }) s
  else grantPrimacy h s

/-- The 5 ms for the preferred half are over: the half that asked first is granted the token, unless the preferred one
has asked (R544). -/
def prefExpiry (s : State) : State :=
  let l := s.keeper.lease
  match l.prefWait with
  | none => s
  | some h =>
    let s1 := leaseMod (fun l => { l with prefWait := none, prefOver := true }) s
    if canGrant s h.twin then grantPrimacy h.twin s1 else if canGrant s h then grantPrimacy h s1 else s1

/-- At its renewal interval a half asks the Keeper; `reach` says that its lease link carries the request (R542, R543,
R545, R546). -/
def leaseRenew (h : Half) (reach : Bool) (s : State) : State :=
  let l := s.keeper.lease
  if !halfUp s h || primLost s h || !reach || !keeperAnswers s then s
  else
    let s1 := wr pgPrimacy (reachFld h) 1 s
    if holds s h then
      if l.holder = some h ∧ (l.restore.isNone ∨ l.restore = some h) then
        leaseMod (fun l => { l with lastAns := s.clk, timer := l.timer.put h (some s.clk) }) s1
      else s
    else leaseMod (fun l => { l with asks := l.asks.put h (some ((l.asks.at h).getD s.clk)) }) s1

/-- Renewals have gone unanswered for KEEPER_TMO: the half is LOST (R545). -/
def keeperTmo (h : Half) (s : State) : State :=
  if !halfUp s h || primLost s h then s
  else
    let P := pgPrimacy
    let s1 := leaseMod (fun l => { l with asks := l.asks.put h none }) (leaseDrop h s)
    raise P 3 (bump P R.PRIMACY_CNT_LOST (wr P (reachFld h) 0 (wr P (lostFld h) 1 s1)))

/-- PRM_CMD RESTORE (R546). It is refused when the named half cannot reach the Keeper. -/
def primacyRestore (h : Half) (reach : Bool) (s : State) : State :=
  let P := pgPrimacy
  if !reach || !keeperAnswers s || !halfUp s h then wr P R.PRM_STAT_CAUSE 1 s
  else
    let s1 := raise P 4 (wr P R.PRM_STAT_CAUSE 0 (wr P R.PRM_STAT_W_LOST 0 (wr P R.PRM_STAT_E_LOST 0 s)))
    if holds s h.twin then leaseMod (fun l => { l with restore := some h, asks := l.asks.put h (some s.clk) }) s1
    else if holds s h then s1
    else if tokenFree s h then grantPrimacy h s1
    else leaseMod (fun l => { l with restore := some h, asks := l.asks.put h (some s.clk) }) s1

/-- The named half has not reached the Keeper within 10 ms of the restore: the other half may have the token (R546). -/
def restoreExpiry (s : State) : State := leaseMod (fun l => { l with restore := none }) s

/-- The Keeper restarts while the halves run: it knows no holder and grants nothing for 2 ms (R544, R547). -/
def leaseReboot (halvesRun : Bool) (s : State) : State :=
  leaseMod (fun l => { l with
    holder := none, last := none, prefWait := none, prefOver := false, restore := none,
    quietFrom := if halvesRun then some s.clk else none, asks := ⟨none, none⟩ }) s

end Sys2Proof.Machine
end

