-- ==== Sys2Proof/Machine/Compl.lean ====
section
/-!
DEFINITION. Operations and their completions: bodies, replies, completion queues, batch records of work rings (chapter
08 R272-R275, R281, R295-R296, chapter 09 R309, R321-R322, R331-R332).
-/
namespace Sys2Proof.Machine

/-! Contexts (R307-R309). -/

def ctxV (s : State) (f : Fld) (c : Nat) : Nat := rdI s pgContexts f c
def ctxPut (f : Fld) (c v : Nat) (s : State) : State := wrI pgContexts f c v s

def csCLOSED : Nat := 0
def csOPEN : Nat := 1
def csCLOSING : Nat := 2

def ctxState (s : State) (c : Nat) : Nat := ctxV s R.CTX_VIEW_0_STATE c
def ctxHome (s : State) (c : Nat) : Half := Half.ofBit (ctxV s R.CTX_VIEW_0_HOME c)

/-! Operations. -/

def dkMod (f : Dikar → Dikar) (s : State) : State := { s with dikar := f s.dikar }

/-- What a half's Matching Engine holds. -/
def mh (s : State) (h : Half) : MatchHalf := s.dikar.halves.at h
def mhMod (h : Half) (f : MatchHalf → MatchHalf) (s : State) : State :=
  dkMod (fun d => { d with halves := d.halves.put h (f (d.halves.at h)) }) s

def opGet (s : State) (id : Nat) : Option DOp := s.dikar.ops.find? (fun d => d.id == id)

def opMod (id : Nat) (f : DOp → DOp) (s : State) : State :=
  dkMod (fun d => { d with ops := d.ops.map (fun x => if x.id = id then f x else x) }) s

/-- An operation is over: it leaves its queue and gives back its slot (R281). -/
def opDrop (id : Nat) (s : State) : State :=
  dkMod (fun d => { d with
    ops := d.ops.filter (fun x => x.id != id),
    queue := ⟨d.queue.west.filter (fun i => i != id), d.queue.east.filter (fun i => i != id)⟩ }) s

/-- An operation's status is decided: it waits for nothing but its record. -/
def opStop (id : Nat) (s : State) : State :=
  dkMod (fun d => { d with
    ops := d.ops.map (fun x => if x.id = id then { x with st := .ended } else x),
    queue := ⟨d.queue.west.filter (fun i => i != id), d.queue.east.filter (fun i => i != id)⟩ }) s

/-- Operation slots of half `h` in use (R281). -/
def slotsUsed (s : State) (h : Half) : Nat := (s.dikar.ops.filter (fun d => d.slot && decide (d.h = h))).length

/-- An operation takes a slot; HIGH_WATER follows (R281, R303). -/
def takeSlot (id : Nat) (s : State) : State :=
  match opGet s id with
  | none => s
  | some d =>
    let s1 := opMod id (fun x => { x with slot := true }) s
    let P := pgDikar d.h
    wr P R.DK_STAT_HIGH_WATER (max (rd s P R.DK_STAT_HIGH_WATER) (slotsUsed s1 d.h)) s1

/-! Fields of a request body (R273, R340). -/

def DOp.w (d : DOp) (i : Nat) : Nat := d.body.getD i 0
def DOp.dop (d : DOp) : Nat := bits (d.w 0) 63 56
def DOp.version (d : DOp) : Nat := bits (d.w 0) 55 48
def DOp.create (d : DOp) : Bool := (d.w 0).testBit 47
def DOp.excl (d : DOp) : Bool := (d.w 0).testBit 46
def DOp.replyMsg (d : DOp) : Bool := (d.w 0).testBit 45 && d.ring.isNone
def DOp.batchEnd (d : DOp) : Bool := (d.w 0).testBit 44
def DOp.media (d : DOp) : Bool := (d.w 0).testBit 43
def DOp.noCache (d : DOp) : Bool := (d.w 0).testBit 42
def DOp.groupRaw (d : DOp) : Nat := bits (d.w 0) 39 32
def DOp.reqId (d : DOp) : Nat := bits (d.w 0) 31 0
def DOp.name (d : DOp) : Nat := d.w 1
def DOp.offset (d : DOp) : Nat := d.w 2
def DOp.len (d : DOp) : Nat := d.w 3
def DOp.bufAddr (d : DOp) : Nat := d.w 4
def DOp.bufKey (d : DOp) : Nat := d.w 5
/-- The node that holds the buffer; 0 stands for the source, or the ring's node (R275). -/
def DOp.bufNode (d : DOp) : Nat := if bits (d.w 6) 63 44 = 0 then d.src else bits (d.w 6) 63 44
def DOp.rank (d : DOp) : Nat := bits (d.w 6) 43 28
def DOp.nmemb (d : DOp) : Nat := bits (d.w 6) 27 12 + 1
def DOp.tmo (d : DOp) : Nat := bits (d.w 6) 11 0
def DOp.condGen (d : DOp) : Nat := bits (d.w 7) 63 32
def DOp.tag (d : DOp) : Nat := bits (d.w 7) 31 8
def DOp.notify (d : DOp) : Bool := (d.w 7).testBit 1
def DOp.partialOk (d : DOp) : Bool := (d.w 7).testBit 0
/-- GROUP, or the entry's default group (R317). -/
def DOp.grp (d : DOp) : Nat :=
  if d.groupRaw = 255 then (d.ent.map (·.defGroup)).getD 255 else d.groupRaw

def doPUT : Nat := 1
def doGET : Nat := 2
def doAPPEND : Nat := 3
def doDELETE : Nat := 4
def doSTAT : Nat := 5
def doFENCE : Nat := 6
def doCOLL : Nat := 7

/-- It writes into its object (R283, R291). -/
def DOp.isWrite (d : DOp) : Bool := d.dop == doPUT || d.dop == doAPPEND || d.dop == doCOLL

/-! Status codes (R296, R352). -/

def stOK : Nat := 0
def stDEFERRED : Nat := 1
def stRETRY : Nat := 2
def stNOT_FOUND : Nat := 3
def stEXISTS : Nat := 4
def stGEN_MISMATCH : Nat := 5
def stOBJ_GONE : Nat := 6
def stMEDIA_LOST : Nat := 7
def stPULL_FAILED : Nat := 8
def stBAD_REQUEST : Nat := 9
def stTOO_LARGE : Nat := 10
def stDENIED : Nat := 11
def stNO_GROUP : Nat := 12
def stNO_SPACE : Nat := 13
def stMEDIA_STALLED : Nat := 14
def stCTX_CLOSED : Nat := 15
def stCOLL_TIMEOUT : Nat := 0x20
def stCOLL_PARTIAL : Nat := 0x21
def stCOLL_ABORTED : Nat := 0x22
def stCOLL_MISMATCH : Nat := 0x23
def stCOLL_DUP_RANK : Nat := 0x24
def stCOLL_BAD_RANK : Nat := 0x25
def stCOLL_OVERLAP : Nat := 0x26
def stCOLL_LATE : Nat := 0x27
def stCOLL_NO_RECORD : Nat := 0x28

/-! Completion bodies (R295). -/

/-- What a completion says beside its request: words 2 to 4, GEN, COUNT, TIME, MEDIA, AUX (R295). -/
structure Said where
  a : Nat := 0
  b : Nat := 0
  size : Nat := 0
  gen : Nat := 0
  count : Nat := 0
  time : Nat := 0
  media : Bool := false
  aux : Nat := 0
deriving DecidableEq, Repr

/-- The eight words of a completion body (R295). -/
def complBody (dop status reqId obj ctx group : Nat) (x : Said) : List Nat :=
  [dop % 256 * 2 ^ 56 + status % 256 * 2 ^ 48 + reqId % 2 ^ 32, obj, x.a, x.b, x.size,
    x.gen % 2 ^ 32 * 2 ^ 32 + x.count % 2 ^ 32, x.time,
    ctx % 2 ^ 20 * 2 ^ 44 + group % 256 * 2 ^ 36 + bit x.media * 2 ^ 35 + x.aux % 2 ^ 32]

/-- Words as bytes. -/
def bodyBytes (ws : List Nat) : List Byte := (ws.map (leBytes 8)).flatten

/-- A Dikar reply (R272). -/
def reply (h : Half) (src mtch ctx key : Nat) (body : List Nat) (s : State) : State :=
  sendPkt h (mkMSG src mtch 0x81 ctx key (bodyBytes body)) s

/-! Completion queues (R321, R322). -/

def cqGet (s : State) (h : Half) (c : Nat) : Cq := tget {} (mh s h).cqs c
def cqMod (h : Half) (c : Nat) (f : Cq → Cq) (s : State) : State :=
  mhMod h (fun m => { m with cqs := tput {} m.cqs c (f (tget {} m.cqs c)) }) s

def ringGet (s : State) (r : Nat) : Ring := tget {} s.dikar.rings r
def ringMod (r : Nat) (f : Ring → Ring) (s : State) : State :=
  dkMod (fun d => { d with rings := tput {} d.rings r (f (tget {} d.rings r)) }) s

/-- A strike that waits until its packet has been sent (R322, R459). -/
def strikeAfter (src : Nat) (h : Half) (pids : List Nat) (s : State) : State :=
  { s with strikes := s.strikes ++ [⟨src, h, nowH s h, pids⟩] }

/-- A completion record joins its context's queue; under a forced close it is discarded (R312, R322). -/
def cqPush (h : Half) (c : Nat) (x : CqRec) (s : State) : State :=
  if (mh s h).forced.contains c then
    (match x.op with
      | some i => opDrop i
      | none => id) (bump (pgMatch h) R.MATCH_CNT_CQ_DISCARD s)
  else
    let s1 := cqMod h c (fun q => { q with recs := q.recs ++ [x] }) s
    match x.ring with
    | some r => ringMod r (fun y => { y with open_ := y.open_ + 1 }) s1
    | none => s1

/-- Records that a context's queue still takes (R321). -/
def cqRoom (s : State) (c : Nat) : Nat :=
  let n := ctxV s R.CTX_VIEW_2_CQ_LOG2 c
  let m := 2 ^ (n + 1)
  2 ^ n - (ctxV s R.CTX_VIEW_5_CQ_PI c + m - ctxV s R.CTX_VIEW_5_CQ_CI c % m) % m

/-- The oldest record of a context's queue is written, or begins to wait for space (R322). -/
def cqRecordWrite (c : Nat) (s : State) : State :=
  let h := ctxHome s c
  let P := pgMatch h
  match (cqGet s h c).recs with
  | [] => s
  | x :: r =>
    if cqRoom s c = 0 then
      let s1 := if x.waited then s else bump P R.MATCH_CNT_CQ_FULL s
      let s2 := raiseIf (!(cqGet s h c).full) P 4 s1
      cqMod h c (fun q => { q with recs := { x with waited := true } :: r, full := true }) s2
    else
      let n := ctxV s R.CTX_VIEW_2_CQ_LOG2 c
      let i := ctxV s R.CTX_VIEW_5_CQ_PI c
      let s1 := sendPkt h (mkPW true (ctxV s R.CTX_VIEW_5_CQ_NODE c)
        (ctxV s R.CTX_VIEW_2_CQ_ADDR c * 64 + 64 * (i % 2 ^ n)) c (ctxV s R.CTX_VIEW_4_CQ_KEY c) (bodyBytes x.body)) s
      let s2 := bump P R.MATCH_CNT_CQ_REC (ctxPut R.CTX_VIEW_5_CQ_PI c ((i + 1) % 2 ^ (n + 1)) s1)
      let s3 := cqMod h c (fun q => { q with
        recs := r, uncovered := q.uncovered + 1, rings := q.rings ++ x.ring.toList,
        full := q.full && r.any (·.waited) }) s2
      match x.op with
      | some i => opDrop i s3
      | none => s3

/-- CQ_PI is written where records are not covered yet; the aggregate strikes once it has been sent (R322). -/
def cqPiWrite (c : Nat) (s : State) : State :=
  let h := ctxHome s c
  let q := cqGet s h c
  if q.uncovered = 0 then s
  else
    let pid := s.nextPid
    let s1 := sendPkt h (mkPW true (ctxV s R.CTX_VIEW_5_CQ_NODE c) (ctxV s R.CTX_VIEW_3_CQ_PI_ADDR c * 8) c
      (ctxV s R.CTX_VIEW_4_CQ_KEY c) (leBytes 8 (ctxV s R.CTX_VIEW_5_CQ_PI c))) s
    let s2 := cqMod h c (fun x => { x with uncovered := 0, rings := [] }) s1
    let s3 := q.rings.foldl (fun t r => ringMod r (fun y => { y with open_ := y.open_ - 1 }) t) s2
    if ctxV s R.CTX_VIEW_0_EVT_EN c = 1 then strikeAfter (208 + ctxV s R.CTX_VIEW_0_EVT_AGG c) h [pid] s3 else s3

/-! Batches (R331). -/

def ringCtx (s : State) (r : Nat) : Nat := rdI s pgRings R.RING_CTRL_CTX r

/-- Batches of a ring that have ended: one record each where some covered descriptor completed OK (R331). -/
def batchGo (r : Nat) : Nat → State → State
  | 0, s => s
  | k + 1, s =>
    let ds := (ringGet s r).descs
    let n := (ds.takeWhile (fun d => !d.last)).length + 1
    let b := ds.take n
    match b.getLast? with
    | some d =>
      if d.last && b.all (·.ended) then
        let c := ringCtx s r
        let s1 := ringMod r (fun y => { y with descs := ds.drop n }) s
        batchGo r k (if b.any (·.ok) then cqPush (ctxHome s c) c { body := d.body, op := none, ring := some r } s1 else s1)
      else s
    | none => s

/-- A ring's descriptor has ended (R331). -/
def descEnd (r seq : Nat) (ok : Bool) (body : List Nat) (s : State) : State :=
  let s1 := ringMod r (fun y => { y with descs := y.descs.map (fun d =>
    if d.seq = seq then { d with ended := true, ok := ok, body := body } else d) }) s
  batchGo r ((ringGet s1 r).descs.length + 1) s1

/-! The end of an operation (R295, R301, R305). -/

/-- The counter of an operation that completed OK (R301). -/
def okCounter (dop : Nat) : Option Fld :=
  if dop = doPUT then some R.DIKAR_CNT_PUT else if dop = doGET then some R.DIKAR_CNT_GET
  else if dop = doAPPEND then some R.DIKAR_CNT_APPEND else if dop = doDELETE then some R.DIKAR_CNT_DELETE
  else if dop = doSTAT then some R.DIKAR_CNT_STAT else none

/-- The counters and events of a completion on half `h` (R301, R305). -/
def countEnd (h : Half) (dop status : Nat) (s : State) : State :=
  let P := pgDikar h
  let s1 := if dop = doFENCE then bump P R.DIKAR_CNT_FENCE s
    else if status = stOK then (match okCounter dop with
      | some f => bump P f s
      | none => s)
    else s
  let s2 := if status = stOK ∨ status = stDEFERRED ∨ status = stMEDIA_STALLED then s1 else bump P R.DIKAR_CNT_FAILED s1
  if status = stRETRY then raise P 2 (bump P R.DIKAR_CNT_RETRY_ELSEWHERE s2)
  else if status = stPULL_FAILED then raise P 5 (bump P R.DIKAR_CNT_PULL_FAIL s2)
  else if status = stMEDIA_LOST then raise P 6 (bump P R.DIKAR_CNT_MEDIA_LOST s2)
  else if status = stOBJ_GONE then bump P R.DIKAR_CNT_OBJ_GONE s2
  else if status = stNO_SPACE then raise P 3 s2
  else s2

/-- A request's one completion: a reply, a queue record, or its share of a batch record; the slot goes back once it is
sent (R281, R295, R331). -/
def opEnd (id status : Nat) (x : Said) (s : State) : State :=
  match opGet s id with
  | none => s
  | some d =>
    let body := complBody d.dop status d.reqId d.obj d.ctx d.group x
    let s1 := countEnd d.h d.dop status s
    if d.replyMsg then opDrop id (reply d.h d.src d.mtch d.ctx d.key body s1)
    else if d.mute then opDrop id (bump (pgMatch d.h) R.MATCH_CNT_CQ_DISCARD s1)
    else
      match d.ring with
      | none =>
        cqPush d.h d.ctx { body, op := some id, ring := none }
          (opStop id s1)
      | some (r, seq) =>
        if status = stOK then descEnd r seq true body (opDrop id s1)
        else
          descEnd r seq false body (cqPush d.h d.ctx { body, op := some id, ring := some r }
            (opStop id s1))

/-- A write that ends without effect is forgotten with its pages (R293). -/
def writeDrop (id : Nat) (s : State) : State :=
  objMod (fun o => { o with writes := o.writes.filter (fun w => w.id != id) }) s

/-- A request that fails: words 2 to 5 are zero (R295). -/
def opFail (id status : Nat) (s : State) : State :=
  match opGet s id with
  | none => s
  | some d =>
    let aux := if status = stRETRY then rd s (pgDikar d.h) R.DK_TMO_RETRY_US else 0
    let s1 := match d.write with
      | some w => if d.coll.isSome then s else writeDrop w s
      | none => s
    opEnd id status { time := nowH s d.home, aux } s1

end Sys2Proof.Machine
end

