-- ==== Sys2Proof/Machine/Protect.lean ====
section
/-!
DEFINITION. Protection (chapter 16): the proposal and its entries, digests and confirmations, the commit, the
emergency path.
-/
namespace Sys2Proof.Machine

def protMod (f : Prot → Prot) (s : State) : State := { s with prot := f s.prot }

/-- Every field of the register at byte `off` of page `P`, record `i`, takes its bits of a word. -/
def putReg (P off i w : Nat) (s : State) : State :=
  (regFields P off).foldl (fun t f => wrI P f i (bits w (f.lo + f.w - 1) f.lo) t) s

/-- EPOCH (R532). -/
def epoch (s : State) : Nat := rd s pgProtect R.PR_EPOCH

/-- States of the proposal (R527). -/
def prEMPTY : Nat := 0
def prBUILDING : Nat := 1
def prSEALED : Nat := 2
def prState (s : State) : Nat := rd s pgProtect R.PR_STAT_STATE

/-- VALID of the FM registration (R522). -/
def fmValid (s : State) : Bool := rdB s pgProtect R.PR_STAT_FM_VALID

/-! Entries (R523, R528). -/

def eWord (e : List Nat) (i : Nat) : Nat := (e[i]?).getD 0
def eKind (e : List Nat) : Nat := bits (eWord e 0) 63 56
def eHalf (e : List Nat) : Half := if (eWord e 0).testBit 55 then .east else .west
def eIndex (e : List Nat) : Nat := bits (eWord e 0) 54 40

def ekWINDOW : Nat := 1
def ekPRIV_SRC : Nat := 2
def ekINB_ENTRY : Nat := 3
def ekINB_KEY : Nat := 4
def ekKEY_RANGE : Nat := 5
def ekSTATION_MODE : Nat := 6
def ekATN_WREN : Nat := 7
def ekNODE_RANGE : Nat := 8
def ekPRINCIPAL : Nat := 9
def ekFIRMWARE : Nat := 10

/-- Highest INDEX of a KIND; none for a reserved KIND (R528). -/
def eMaxIndex (k : Nat) : Option Nat :=
  match k with
  | 1 => some 1023
  | 2 => some 7
  | 3 => some 511
  | 4 => some 0
  | 5 => some 255
  | 6 => some 1023
  | 7 => some 0
  | 8 => some 63
  | 9 => some 0
  | 10 => some 2
  | _ => none

/-- Bytes of a half's firmware staging area (R511). -/
def stageBytes : Nat := 2 ^ 23

/-- Bytes of a half's staging area from an offset. -/
def stageRead (s : State) (h : Half) (o n : Nat) : List Byte :=
  (List.range n).map (fun i => cellGet (h.num * stageBytes + o + i) s.stage)

/-- The staged image of a FIRMWARE entry (R526, R528). -/
def fwStaged (s : State) (e : List Nat) : List Byte :=
  stageRead s (eHalf e) (bits (eWord e 1) 22 0) (bits (eWord e 2) 23 0)

/-- The descriptor rules of R134 but the semaphore count; words 1 to 6 of the entry are descriptor words 0 to 5. -/
def windowOk (h : Half) (e : List Nat) : Bool :=
  let d := fun i => eWord e (i + 1)
  let sz := bits (d 0) 5 0
  let res := bits (d 0) 11 6 == 0 && bits (d 1) 63 48 == 0 && bits (d 1) 37 36 == 0 && bits (d 2) 63 12 == 0 &&
    bits (d 5) 63 52 == 0 && bits (d 5) 31 20 == 0 && eWord e 7 == 0
  let base := bits (d 0) 63 12 * 4096
  let tgt := bits (d 1) 35 0
  let fixed := (d 2).testBit 5
  res && (!(d 2).testBit 0 ||
    (decide (12 ≤ sz ∧ sz ≤ 36) && base % 2 ^ sz == 0 && bits (d 0) 63 48 != 0xFFFF &&
      decide (aHalf (bits (d 1) 47 42) = h) &&
      (if fixed then tgt % 4 == 0 else tgt % 4096 == 0 && decide (tgt + 2 ^ sz ≤ 2 ^ 36)) &&
      (!(d 2).testBit 2 || bits (d 2) 4 3 != 0) && bits (d 2) 7 6 != 3 &&
      (!(d 2).testBit 11 || decide (bits (d 5) 19 0 ≤ bits (d 5) 51 32))))

/-- The rule of a key range entry (R310). -/
def keyRangeOk (e : List Nat) : Bool :=
  let w0 := eWord e 1
  let w3 := eWord e 4
  !w0.testBit 63 ||
    (decide (bits w0 19 0 ≤ bits w0 51 32 ∧ eWord e 2 ≤ eWord e 3 ∧ bits w3 19 0 ≤ bits w3 51 32) &&
      bits w0 19 0 != 0 && bits w0 61 52 == 0 && bits w0 31 20 == 0 && bits w3 63 52 == 0 && bits w3 31 20 == 0)

/-- An entry keeps its own rule: R134 but the semaphore count, the ranges of R310, the ranges of R528 (R529). -/
def entryOk (e : List Nat) : Bool :=
  match eKind e with
  | 1 => windowOk (eHalf e) e
  | 3 => !(eWord e 1).testBit 63 || bits (eWord e 1) 14 0 == 0
  | 5 => keyRangeOk e
  | 8 => !(eWord e 1).testBit 63 || decide (bits (eWord e 1) 19 0 ≤ bits (eWord e 1) 51 32)
  | 9 => decide (1000 ≤ bits (eWord e 3) 31 0 ∧ bits (eWord e 3) 31 0 ≤ 600000)
  | 10 =>
    let n := bits (eWord e 2) 23 0
    decide (1 ≤ n ∧ n ≤ stageBytes ∧ bits (eWord e 1) 22 0 + n ≤ stageBytes)
  | _ => true

/-- The serial at a station position, where a station has been read there (R24, R367). -/
def serialAt (s : State) (i : Nat) : Option Nat :=
  let st := stnGet s (i / 16) (i % 16)
  if st.seen then some st.serial else none

/-- One entry's change of the GUARDED state (R523). -/
def applyEntry (s : State) (e : List Nat) : State :=
  let h := eHalf e
  let i := eIndex e
  match eKind e with
  | 1 => (List.range 6).foldl (fun t j => putReg (pgPalette h) (0xA0 + 8 * j) i (eWord e (j + 1)) t) s
  | 2 => putReg (pgPalette h) (0x180 + 8 * i) 0 (eWord e 1) s
  | 3 => putReg (pgCrossing h) 0xC0 i (eWord e 1) s
  | 4 => putReg (pgCrossing h) 0xC8 0 (eWord e 1) s
  | 5 => (List.range 4).foldl (fun t j => putReg pgContexts (0x148 + 8 * j) i (eWord e (j + 1)) t) s
  | 6 =>
    match serialAt s i with
    | some n => { s with stnMode := tput false s.stnMode n ((eWord e 1).testBit 0) }
    | none => s
  | 7 => wr pgProtect R.PR_ATN_WREN_MASK (eWord e 1) s
  | 8 => putReg pgProtect 0x290 i (eWord e 1) s
  | 9 =>
    let v := (eWord e 1).testBit 63
    protMod (fun p => { p with mkey := eWord e 2 })
      (wr pgProtect R.PR_STAT_FM_VALID (bit v) (wr pgProtect R.PR_STAT_KEY_SET (bit v)
        (wr pgProtect R.PR_FM_NODE (bits (eWord e 1) 19 0) (wr pgProtect R.PR_FM_CONFIRM_WINDOW (bits (eWord e 3) 31 0) s))))
  | 10 =>
    let x := tget {} s.fw i
    let f := if i = 0 then R.PR_FW_GEN_KEEPER else if i = 1 then R.PR_FW_GEN_WEST else R.PR_FW_GEN_EAST
    wr pgProtect f (rd s pgProtect f + 1)
      { s with fw := tput {} s.fw i ⟨fwStaged s e, eWord e 3, x.gen + 1⟩ }
  | _ => s

/-- The state that the whole proposal would produce; where two entries name one target the later wins (R528, R529). -/
def applyAll (es : List (List Nat)) (s : State) : State := es.foldl applyEntry s

/-- Enabled windows with LOCK_MODE = SEMAPHORE on a half (R134). -/
def semWindows (s : State) (h : Half) : Nat :=
  ((winsOn s h).filter (fun w => winF s h w R.PAL_WIN_VIEW_2_LOCK_MODE == 1)).length

/-- Every enabled inbound entry of a half names a registered destination (R196). -/
def inbAllReg (s : State) (h : Half) : Bool :=
  (listedIdx s (pgCrossing h) R.CX_INB_VIEW_EN).all (fun i => nodeReg s (rdI s (pgCrossing h) R.CX_INB_VIEW_DST i))

/-- PREP of a light (R418, R425). -/
def prep (s : State) (l : Nat) : Nat := rdI s (pgErasure (lHalf l)) R.ER_LIGHT_VIEW_PREP l

/-- A station that `t` makes OBJECT and `s` does not has a light whose PREP is NONE (R418, R529). -/
def modeRefused (s t : State) (es : List (List Nat)) : Bool :=
  es.any (fun e => eKind e == 6 &&
    (let n := eIndex e / 16
     let k := eIndex e % 16
     stnObject t n k && !stnObject s n k && (stnLights s n k).any (fun l => prep s l == 0)))

/-! Commands on the proposal (R527-R531). -/

/-- A refused command (R529). -/
def prRefuse (c : Nat) (s : State) : State := raise pgProtect 3 (wr pgProtect R.PR_STAT_CAUSE c s)

/-- The principal's code (R521). -/
def prCode (fm : Bool) : Nat := if fm then 2 else 1

/-- The command comes from a principal other than OPENER, and VALID is 1 (R529). -/
def notOpener (fm : Bool) (s : State) : Bool :=
  prState s != prEMPTY && rd s pgProtect R.PR_STAT_OPENER != prCode fm && fmValid s

/-- The proposal area emptied (R535). -/
def prEmpty (s : State) : State :=
  let P := pgProtect
  protMod (fun p => { p with entries := [], epoch := 0 })
    (wr P R.PR_STAT_STATE 0 (wr P R.PR_STAT_OPENER 0 (wr P R.PR_STAT_ENTRIES 0 (wr P R.PR_STAT_CONF_SP 0
      (wr P R.PR_STAT_CONF_FM 0 (wr P R.PR_DIGEST 0 (wr P R.PR_DEADLINE 0 s)))))))

/-- An end of the proposal with its cause: 0 commit, 1 WINDOW, 2 ABANDONED, 3 STALE, 4 DIGEST (R535). -/
def prEnd (cause : Nat) (s : State) : State :=
  let s1 := wr pgProtect R.PR_STAT_END_CAUSE cause (prEmpty s)
  if cause = 0 then raise pgProtect 1 (bump pgProtect R.PROTECT_CNT_COMMIT s1)
  else raise pgProtect 2 (bump pgProtect R.PROTECT_CNT_EXPIRED s1)

/-- PR_CMD OPEN (R527, R529). -/
def prOpen (fm : Bool) (s : State) : State :=
  if prState s ≠ prEMPTY then prRefuse 9 s
  else
    protMod (fun p => { p with entries := [] })
      (wr pgProtect R.PR_STAT_STATE prBUILDING (wr pgProtect R.PR_STAT_OPENER (prCode fm)
        (wr pgProtect R.PR_STAT_CAUSE 0 s)))

/-- The staged entry (R528). -/
def stagedEntry (s : State) : List Nat := (List.range 8).map (fun i => rd s pgProtect (R.PR_ENTRY.at i))

/-- PR_CMD APPEND (R528, R529). -/
def prAppend (fm : Bool) (s : State) : State :=
  let e := stagedEntry s
  if prState s ≠ prBUILDING then prRefuse 1 s
  else if notOpener fm s then prRefuse 10 s
  else if 4096 ≤ s.prot.entries.length then prRefuse 2 s
  else if ((eMaxIndex (eKind e)).map (fun m => decide (eIndex e ≤ m))).getD false = false then prRefuse 3 s
  else if ¬ fmValid s ∧ eKind e ≠ ekPRINCIPAL then prRefuse 6 s
  else
    protMod (fun p => { p with entries := p.entries ++ [e] })
      (wr pgProtect R.PR_STAT_ENTRIES (s.prot.entries.length + 1) (wr pgProtect R.PR_STAT_CAUSE 0 s))

/-- Word 3 of a FIRMWARE entry filled with the CRC-64 of the staged image (R530). -/
def sealEntry (s : State) (e : List Nat) : List Nat :=
  if eKind e = ekFIRMWARE then e.set 3 (crc64 (fwStaged s e)) else e

/-- The digest: CRC-64 of a 64-byte header and every entry (R531). -/
def prDigest (es : List (List Nat)) (ep opener : Nat) : Nat :=
  let hdr := leBytes 8 (0x5052 * 2 ^ 48 + es.length % 2 ^ 16) ++ leBytes 8 ep ++ leBytes 8 opener ++ zeros 40
  crc64 (hdr ++ (es.map (fun e => ((List.range 8).map (fun i => leBytes 8 (eWord e i))).flatten)).flatten)

/-- Why SEAL refuses, in the order of R529. -/
def sealCause (fm : Bool) (s : State) : Option Nat :=
  let es := s.prot.entries
  let t := applyAll es s
  if prState s ≠ prBUILDING then some 1
  else if notOpener fm s then some 10
  else if es.any (fun e => !entryOk e) then some 4
  else if 16 < semWindows t .west ∨ 16 < semWindows t .east then some 5
  else if ¬ inbAllReg t .west ∨ ¬ inbAllReg t .east then some 4
  else if modeRefused s t es then some 7
  else if es = [] then some 4
  else none

/-- PR_CMD SEAL (R529, R530). -/
def prSeal (fm : Bool) (s : State) : State :=
  match sealCause fm s with
  | some c => prRefuse c s
  | none =>
    let P := pgProtect
    let es := s.prot.entries.map (sealEntry s)
    let ep := epoch s
    let d := prDigest es ep (rd s P R.PR_STAT_OPENER)
    let s1 := protMod (fun p => { p with entries := es, epoch := ep }) s
    let s2 := wr P R.PR_STAT_STATE prSEALED (wr P R.PR_STAT_CAUSE 0 (wr P R.PR_DIGEST d
      (wr P R.PR_DEADLINE (now s + rd s P R.PR_FM_CONFIRM_WINDOW * 1000000)
        (wr P R.PR_STAT_CONF_SP 0 (wr P R.PR_STAT_CONF_FM 0 s1)))))
    pushResult 0 7 true [d / 2 ^ 32, d % 2 ^ 32, ep] (raise P 0 (bump P R.PROTECT_CNT_PROPOSAL s2))

/-- PR_CMD ABANDON (R529, R535). -/
def prAbandon (fm : Bool) (s : State) : State :=
  if notOpener fm s then prRefuse 10 s
  else if prState s = prEMPTY then prRefuse 1 s
  else prEnd 2 (wr pgProtect R.PR_STAT_CAUSE 0 s)

/-! Commit (R532, R535, R536). -/

/-- EPOCH rises (R532). -/
def epochUp (s : State) : State := wr pgProtect R.PR_EPOCH (epoch s + 1) s

/-- The halves that an entry touches: device-wide tables are held on both (R367, R536). -/
def entryOn (e : List Nat) (h : Half) : Bool :=
  let k := eKind e
  if k = 1 ∨ k = 2 ∨ k = 3 ∨ k = 4 then decide (eHalf e = h)
  else if k = 6 then decide (aHalf (eIndex e / 16) = h)
  else true

/-- The entries touch both halves: the commit is an XSTEP (R382, R536). -/
def entriesBoth (es : List (List Nat)) : Bool :=
  es.any (fun e => entryOn e .west) && es.any (fun e => entryOn e .east)

/-- An XSTEP can complete: the span is up and both halves run (R547, R606). -/
def xstepOk (s : State) : Bool := s.boot.span && halfUp s .west && halfUp s .east

/-- Windows that a commit or an emergency change alters on a half: WIN_GEN of each, PAL_GEN once, WIN_COMMIT once
(R139). -/
def winCommit (h : Half) (ws : List Nat) (s : State) : State :=
  let P := pgPalette h
  if ws.isEmpty then s
  else
    let s1 := ws.foldl (fun t w => wrI P R.PAL_WIN_VIEW_7_GEN w (rdI t P R.PAL_WIN_VIEW_7_GEN w + 1) t) s
    raise P 6 (wr P R.PAL_STAT_PAL_GEN (rd s1 P R.PAL_STAT_PAL_GEN + 1) s1)

/-- The windows of a half that entries name, each once. -/
def entryWins (es : List (List Nat)) (h : Half) : List Nat :=
  ((es.filter (fun e => eKind e == 1 && decide (eHalf e = h))).map eIndex).eraseDups

/-- After a change of the site node table: subscriptions and routes whose destination is no longer registered are
disabled (R536). -/
def nodesChanged (s : State) : State :=
  let subs := fun (h : Half) (s : State) =>
    ((listedIdx s (pgLight h) R.LL_SUB_CTRL_EN).filter
      (fun i => !nodeReg s (rdI s (pgLight h) R.LL_SUB_CTRL_DST i))).foldl
      (fun t i => raise (pgLight h) 4 (wrI (pgLight h) R.LL_SUB_CTRL_EN i 0 t)) s
  let s1 := subs .east (subs .west s)
  ((listedIdx s1 pgLantern R.LAN_ROUTE_FAB_EN).filter (fun i => !nodeReg s1 (route s1 i R.LAN_ROUTE_FAB_DST))).foldl
    (fun t i => raise pgLantern 3 (fabOff i (wrI pgLantern R.LAN_ROUTE_FAB_EN i 0 t))) s1

/-- A FIRMWARE entry's staged image still has the CRC-64 of word 3 (R530). -/
def imagesKept (s : State) : Bool :=
  s.prot.entries.all (fun e => eKind e != ekFIRMWARE || crc64 (fwStaged s e) == eWord e 3)

/-- Both confirmations are held, the primary half may start a step, and what the step needs is there (R535, R536,
R543). -/
def commitReady (s : State) : Bool :=
  prState s == prSEALED && rdB s pgProtect R.PR_STAT_CONF_SP && rdB s pgProtect R.PR_STAT_CONF_FM && primaryReady s &&
    (!entriesBoth s.prot.entries || xstepOk s) && (primary s).any (jrnlRoom s)

/-- The commit as one TABLE_COMMIT step, or its failure on a changed image (R530, R536). -/
def prCommit (s : State) : State :=
  if !commitReady s then s
  else if !imagesKept s then prEnd 4 s
  else
    let es := s.prot.entries
    let h := (primary s).getD .west
    let s1 := if entriesBoth es then jrnlBoth h s else jrnl h s
    let s2 := epochUp (applyAll es s1)
    let s3 := winCommit .east (entryWins es .east) (winCommit .west (entryWins es .west) s2)
    let s4 := if es.any (fun e => eKind e == ekNODE_RANGE) then nodesChanged s3 else s3
    pushResult 0 7 true [epoch s4] (prEnd 0 s4)

/-- Why a confirmation is refused (R533). -/
def confCause (s : State) (fm : Bool) (digest ep principal : Nat) : Option Nat :=
  if prState s ≠ prSEALED then some 13
  else if principal ≠ prCode fm then some 12
  else if ep ≠ s.prot.epoch then some 14
  else if digest ≠ rd s pgProtect R.PR_DIGEST then some 11
  else none

/-- The deadline has passed by the timebase: the proposal has expired (R535). -/
def prLate (s : State) : State :=
  if prState s = prSEALED ∧ rd s pgProtect R.PR_DEADLINE < now s then prEnd 1 s else s

/-- A confirmation on a channel (R533, R535), with the cause of a refusal. -/
def prConfirm (fm : Bool) (digest ep principal : Nat) (s0 : State) : State × Nat :=
  let s := prLate s0
  match confCause s fm digest ep principal with
  | some c => (raise pgProtect 4 (wr pgProtect R.PR_STAT_CONF_CAUSE c s), c)
  | none =>
    let f := if fm then R.PR_STAT_CONF_FM else R.PR_STAT_CONF_SP
    if rdB s pgProtect f then (bump pgProtect R.PROTECT_CNT_CONF_DUP s, 0)
    else (prCommit (wr pgProtect f 1 s), 0)

/-- The deadline passes without a commit (R535). -/
def prExpire (s : State) : State := if prState s = prSEALED then prEnd 1 s else s

/-- The bootstrap confirmation: VALID is 0, every entry is PRINCIPAL, and the MGT comes from the NODE and carries the
MKEY that the proposal registers (R534). -/
def bootstrapOk (s : State) (src key : Nat) : Bool :=
  !fmValid s && prState s == prSEALED && s.prot.entries.all (fun e => eKind e == ekPRINCIPAL) &&
    (match s.prot.entries.getLast? with
      | some e => bits (eWord e 1) 19 0 == src && eWord e 2 == key
      | none => false)

/-! The emergency path (R539-R541). -/

/-- The windows that an emergency OP disables. -/
def emergWins (s : State) (op target : Nat) : List Nat :=
  let h : Half := if target.testBit 10 then .east else .west
  if op = 1 then (winsOn s h).filter (· = target % 1024) else if op = 2 then winsOn s h else []

/-- An emergency OP touches both halves: OP 3 and 6 change tables held on both, and EPOCH with every OP is device-wide
only where the entry is (R367, R540). -/
def emergBoth (op : Nat) : Bool := op == 3 || op == 6

/-- The disabling change itself (R539). -/
def emergApply (op target mask : Nat) (s : State) : State :=
  let h : Half := if target.testBit 10 then .east else .west
  if op = 1 ∨ op = 2 then
    let ws := emergWins s op target
    winCommit h ws (ws.foldl (fun t w => wrI (pgPalette h) R.PAL_WIN_VIEW_2_EN w 0 t) s)
  else if op = 3 then
    let m := rd s pgProtect R.PR_ATN_WREN_MASK
    wr pgProtect R.PR_ATN_WREN_MASK (m ^^^ (m &&& mask)) s
  else if op = 4 then wr (pgPalette h) (R.PAL_PRIV_SRC_VALID.at (target % 8)) 0 s
  else if op = 5 then wrI (pgCrossing h) R.CX_INB_VIEW_EN (target % 512) 0 s
  else if op = 6 then wrI pgContexts R.KR_VIEW_0_VALID (target % 256) 0 s
  else s

/-- An accepted emergency change: one TABLE_COMMIT step, EPOCH, CNT_EMERG, EMERG_USED; a SEALED proposal ends stale,
and OP 7 ends any proposal as abandoned (R535, R539, R540). -/
def emergDo (op target mask : Nat) (s : State) : State :=
  let h := (leadHalf s).getD .west
  let s1 := if emergBoth op then jrnlBoth h s else jrnl h s
  let s2 := raise pgProtect 6 (bump pgProtect R.PROTECT_CNT_EMERG (epochUp (emergApply op target mask s1)))
  if op = 7 then if prState s ≠ prEMPTY then prEnd 2 s2 else s2
  else if prState s = prSEALED then prEnd 3 s2
  else s2

/-- A write of PR_EMERG_OP by SP (R539): dropped while EMERG_N is not asserted. -/
def emergOp (op target : Nat) (path : Path) (s : State) : State :=
  if !s.keeper.emergN ∨ path ≠ .pcie then cfgReject pgProtect 0x2A8 3 .live (some path) s
  else if op = 0 ∨ 7 < op then cfgReject pgProtect 0x2A8 3 .live (some path) s
  else
    let mask := rd s pgProtect R.PR_EMERG_MASK
    if (leadHalf s).isNone then s
    else if emergBoth op && !xstepOk s then protMod (fun p => { p with emerg := p.emerg ++ [(op, target, mask)] }) s
    else emergDo op target mask s

/-- Emergency changes that waited for the span are carried out (R382, R547). -/
def emergDrain (s : State) : State :=
  if xstepOk s then
    s.prot.emerg.foldl (fun t x => emergDo x.1 x.2.1 x.2.2 t) (protMod (fun p => { p with emerg := [] }) s)
  else s

/-- A write of PR_EMERG stores the mask of OP 3 (R539). -/
def emergMask (v : Nat) (path : Path) (s : State) : State :=
  if !s.keeper.emergN ∨ path ≠ .pcie then cfgReject pgProtect 0x2A0 3 .live (some path) s
  else wr pgProtect R.PR_EMERG_MASK v s

/-- EMERG_N counts as asserted, or as released: the stored mask clears (R539). -/
def emergSet (on : Bool) (s : State) : State :=
  let s1 := wr pgProtect R.PR_EMERG_STAT_ASSERTED (bit on) (keeperMod (fun k => { k with emergN := on }) s)
  if on then s1 else wr pgProtect R.PR_EMERG_MASK 0 s1

end Sys2Proof.Machine
end

