-- ==== Sys2Proof/Machine/Names.lean ====
section
/-!
DEFINITION. The name table: lookups and repairs, creations, DELETEs and compaction (chapter 08 R276-R279).
-/
namespace Sys2Proof.Machine

/-- Slots of the name table (R277). -/
def nameSize (s : State) : Nat := 2 ^ rd s pgEaselG R.EZG_CARVE_NAME_LOG2

def nameAt (s : State) (i : Nat) : NameEnt := tget {} s.objs.names i

def namePut (i : Nat) (e : NameEnt) (s : State) : State := objMod (fun o => { o with names := tput {} o.names i e }) s

/-- The first slot of a name's probe path (R277). -/
def nameHash (s : State) (name : Nat) : Nat := crc32c (leBytes 8 name) % nameSize s

/-- The slots of a probe path up to the name or the first EMPTY slot (R277). -/
def probe (s : State) (name : Nat) : Nat → Nat → List Nat
  | 0, _ => []
  | k + 1, i =>
    let e := nameAt s i
    if !e.used || (!e.tomb && e.name == name) then [i] else i :: probe s name k ((i + 1) % nameSize s)

def namePath (s : State) (name : Nat) : List Nat := probe s name (s.objs.names.length + 1) (nameHash s name)

/-- The LIVE entry of a name (R277). -/
def nameFind (s : State) (name : Nat) : Option (Nat × NameEnt) :=
  match (namePath s name).getLast? with
  | some i =>
    let e := nameAt s i
    if e.used && !e.tomb && e.name == name then some (i, e) else none
  | none => none

/-- One slot on a lookup's path: a copy that fails CHECK is rewritten from the other; with both bad the entry is lost
(R277). -/
def nameCheck (h : Half) (s : State) (i : Nat) : State :=
  let w := s.place.west.badNames.contains i
  let e := s.place.east.badNames.contains i
  if w || e then
    let s1 := raise (pgDikar h) 4 (bump (pgDikar h) R.DIKAR_CNT_NAME_REPAIR s)
    let fix := fun (x : PlaceHalf) => { x with badNames := x.badNames.filter (fun j => j != i) }
    let s2 := plMod .east fix (plMod .west fix s1)
    if w && e then namePut i { nameAt s2 i with tomb := true } s2 else s2
  else s

/-- A lookup on half `h`: damaged copies on its path are repaired first (R277). -/
def nameLook (h : Half) (name : Nat) (s : State) : State × Option (Nat × NameEnt) :=
  let s1 := (namePath s name).foldl (nameCheck h) s
  (s1, nameFind s1 name)

/-- The first TOMB or EMPTY slot of a list. -/
def freeSlotOf (s : State) (is : List Nat) : Option Nat := is.find? (fun i => !(nameAt s i).used || (nameAt s i).tomb)

/-- LIVE and TOMB entries, and TOMB entries alone. -/
def namesUsed (s : State) : Nat := s.objs.names.length
def namesTomb (s : State) : Nat := (s.objs.names.filter (fun p => p.2.tomb)).length
def namesLive (s : State) : Nat := (s.objs.names.filter (fun p => p.2.used && !p.2.tomb)).length

/-- A creation of that name finds the table full (R277). -/
def nameFull (s : State) (name : Nat) : Bool :=
  match freeSlotOf s (namePath s name) with
  | some i => !(nameAt s i).used && decide (7 * nameSize s < 8 * (namesUsed s + 1))
  | none => true

/-- A step on the name table can be carried out on both copies, or on the only half's (R277, R382, R606). -/
def nameStepOk (s : State) : Bool := xstepOk s || s.boot.single.isSome

/-- Both halves' journals have room for it. -/
def nameRoom (s : State) (h : Half) : Bool :=
  match s.boot.single with
  | some k => jrnlRoom s k
  | none => jrnlRoom s h && jrnlRoom s h.twin

/-- A step of the name table journalled (R277, R382). -/
def nameJrnl (h : Half) (s : State) : State :=
  match s.boot.single with
  | some k => jrnl k s
  | none => jrnlBoth h s

/-- A creation: the entry and its OBJ_ID (R276, R277, R284). -/
def nameCreate (name group ctx : Nat) (home : Half) (now : Nat) (s : State) : State :=
  match freeSlotOf s (namePath s name) with
  | none => s
  | some i =>
    let e : NameEnt := {
      name, objId := home.num * 2 ^ 63 + s.objs.serial % 2 ^ 63, size := 0, gen := 1, group, tomb := false,
      creator := ctx, created := now, modified := Config.freeNat s.freeSeq % 2 ^ 64, used := true }
    objMod (fun o => { o with serial := o.serial + 1 }) (namePut i e { s with freeSeq := s.freeSeq + 1 })

/-- TOMB entries that directly precede a slot become EMPTY (R278). -/
def nameWalkBack : Nat → Nat → State → State
  | 0, _, s => s
  | k + 1, i, s =>
    let j := (i + nameSize s - 1) % nameSize s
    if (nameAt s j).used && (nameAt s j).tomb then nameWalkBack k j (namePut j {} s) else s

/-- A slot given up: TOMB, or EMPTY where the next slot is EMPTY, with the walk back (R278). -/
def nameClear (i : Nat) (s : State) : State :=
  if !(nameAt s ((i + 1) % nameSize s)).used then nameWalkBack (s.objs.names.length + 1) i (namePut i {} s)
  else namePut i { nameAt s i with tomb := true } s

/-- GEN risen by one, 0 skipped (R276). -/
def genNext (g : Nat) : Nat := if (g + 1) % 2 ^ 32 = 0 then 1 else (g + 1) % 2 ^ 32

/-- A write's change of its object's entry (R283, R347). -/
def nameWritten (obj size now : Nat) (s : State) : State :=
  match objEnt s obj with
  | some (i, e) => namePut i { e with size := max e.size size, gen := genNext e.gen, modified := now } s
  | none => s

/-! Compaction (R278). -/

/-- The primary compacts when LIVE and TOMB exceed 3/4 of the table and TOMB exceed 1/16 of it (R278). -/
def compactDue (s : State) : Bool :=
  decide (3 * nameSize s < 4 * namesUsed s ∧ nameSize s < 16 * namesTomb s)

/-- Slots of a path before slot `i`. -/
def beforeSlot (i : Nat) (is : List Nat) : List Nat := is.takeWhile (fun j => j != i)

/-- The next LIVE entry from slot `c` on that has an earlier free slot on its own path, with that slot (R278). -/
def compactNext (s : State) (c : Nat) : Option (Nat × Nat) :=
  (s.objs.names.filter (fun p => decide (c ≤ p.1) && p.2.used && !p.2.tomb)).findSome? (fun p =>
    (freeSlotOf s (beforeSlot p.1 (namePath s p.2.name))).map (fun j => (p.1, j)))

/-- One move of compaction, as one NAME_STEP on both copies; the walk ends at the top (R278). -/
def nameCompact (s : State) : State :=
  if !primaryReady s || !xstepOk s || primLost s .west || primLost s .east then s
  else if !s.objs.compacting && !compactDue s then s
  else
    let c := if s.objs.compacting then s.objs.compactAt else 0
    match compactNext s c with
    | none => objMod (fun o => { o with compacting := false, compactAt := 0 }) s
    | some (i, j) =>
      let h := stepHalf s
      if !nameRoom s h then jrnlWait h s
      else
        let s1 := nameClear i (namePut j (nameAt s i) s)
        nameJrnl h (objMod (fun o => { o with compacting := true, compactAt := i + 1 }) s1)

end Sys2Proof.Machine
end

