-- ==== Sys2Proof/Machine/Object.lean ====
section
/-!
DEFINITION. Pulls, the effect of a write, span copies, GETs, STATs, FENCEs and DELETEs (chapter 08 R282-R294, R299).
-/
namespace Sys2Proof.Machine

/-! Pulls (R292, R293). -/

/-- PULL_WIN of half `h` (R302). -/
def pullWin (s : State) (h : Half) : Nat := min 256 (max 1 (rd s (pgDikar h) R.DK_CTRL_PULL_WIN))

/-- The piece of a buffer range that starts at offset `o` and ends at a 4,096-byte boundary of its address (R292). -/
def pieceLen (addr o len : Nat) : Nat := min (len - o) (4096 - (addr + o) % 4096)

/-- The next piece to ask for: one to be pulled again, or the next of the range. -/
def nextPiece (d : DOp) : Option (Nat × Nat) :=
  match d.again with
  | p :: _ => some p
  | [] => if d.issued < d.len then some (d.issued, pieceLen d.bufAddr d.issued d.len) else none

/-- Write buffer pages of half `h` that open collectives hold (R353). -/
def collPages (s : State) (h : Half) : Nat :=
  (((s.objs.writes.filter (fun w => w.coll.isSome)).map (fun w =>
    (w.pages.filter (fun g => decide (g.half = h))).length))).sum

/-- Units of a range for which a write has no page on half `h`. -/
def unitsMissing (w : Write) (h : Half) (off len : Nat) : List Nat :=
  (rangeUnits off len).filter (fun p => !w.pages.any (fun g => g.panel == p && decide (g.half = h)))

/-- Pages for units of a write on half `h`, all or none; `pull`: they must leave the reserve (R374). -/
def pagesFor (wid : Nat) (h : Half) (pull : Bool) : List Nat → State → Option State
  | [], s => some s
  | p :: r, s =>
    match freePage s h pull with
    | none => none
    | some g => pagesFor wid h pull r (wrMod wid (fun w => { w with pages := w.pages ++ [⟨p, h, g, false⟩] }) (takePage h g s))

/-- The lowest free read tag of half `h` (R78). -/
def freeTag (s : State) (h : Half) : Option Nat := firstFree ((s.tags.at h).map (·.1)) 65536 0

def tagPut (h : Half) (t : Nat) (x : TagSt) (s : State) : State :=
  { s with tags := s.tags.put h (tput .free (s.tags.at h) t x) }

/-- A pull begins to wait for the collectives' cap (R353). -/
def capWait (h : Half) (id : Nat) (d : DOp) (s : State) : State :=
  if d.waitCap then s
  else
    let P := pgColl h
    raiseIf (!(s.coll.at h).capWait) P 3 (bump P R.COLLECTIVE_CNT_CAP_WAIT
      { opMod id (fun x => { x with waitCap := true }) s with
        coll := s.coll.put h { s.coll.at h with capWait := true } })

/-- A pull begins to wait for pages (R376). -/
def pageWait (h : Half) (id : Nat) (d : DOp) (s : State) : State :=
  if d.waitPage then s
  else
    let P := pgEasel h
    raiseIf (!(s.place.at h).wbFull) P 0 (bump P R.EASEL_CNT_WB_WAIT
      (plMod h (fun x => { x with wbFull := true }) (opMod id (fun x => { x with waitPage := true }) s)))

/-- Nothing of half `h` waits for pages, or for the cap, any more. -/
def waitsOver (h : Half) (s : State) : State :=
  let ds := s.dikar.ops.filter (fun d => decide (d.h = h))
  let s1 := if ds.any (·.waitPage) then s else plMod h (fun x => { x with wbFull := false }) s
  if ds.any (·.waitCap) then s1 else { s1 with coll := s1.coll.put h { s1.coll.at h with capWait := false } }

/-- One RD of operation `id` of half `h` is issued, once its pages are reserved (R292, R353, R374). -/
def pullIssue (h : Half) (id : Nat) (s : State) : State :=
  match opGet s id with
  | none => s
  | some d =>
    if d.h ≠ h ∨ d.st ≠ .pull ∨ pullWin s h ≤ d.outst then s
    else
      match nextPiece d, d.write.bind (wrGet s), freeTag s h with
      | some (o, n), some w, some t =>
        let us := unitsMissing w h (d.off + o) n
        let capPct := min 90 (max 1 (rd s (pgColl h) R.COL_CTRL_CAP_PCT))
        if d.coll.isSome && decide (wbTotal s * capPct < 100 * (collPages s h + us.length)) then capWait h id d s
        else
          match pagesFor w.id h true us s with
          | none => pageWait h id d s
          | some s1 =>
            let s2 := opMod id (fun x => { x with
              again := x.again.drop 1, issued := if d.again.isEmpty then o + n else x.issued, outst := x.outst + 1,
              waitPage := false, waitCap := false }) s1
            sendPkt h (mkRD d.bufNode (d.bufAddr + o) d.ctx d.bufKey t n)
              (tagPut h t (.out n (.pull id o)) (waitsOver h s2))
      | _, _, _ => s

/-- Bytes land in the pages of a write on half `h`, at their offsets (R373). -/
def landBytes (w : Write) (h : Half) : Nat → Nat → List Byte → State → State
  | 0, _, _, s => s
  | k + 1, o, bs, s =>
    if bs.isEmpty then s
    else
      let p := o / panelBytes
      let n := min bs.length (panelBytes - o % panelBytes)
      let s1 := match w.pages.find? (fun g => g.panel == p && decide (g.half = h)) with
        | some g => ezStore (pageAddr s h g.page + o % panelBytes) (bs.take n) s
        | none => s
      landBytes w h k (o + n) (bs.drop n) s1

/-- The first failing code of a request (R293). -/
def noteFail (code : Nat) (d : DOp) : DOp :=
  if d.st = .pull then { d with pullFail := some code, st := .drain } else d

/-- A read tag of a pull has ended (R78, R292, R293). What a request whose reads have all ended does next is its
owner's. -/
def pullTag (id o : Nat) (data : Option (List Byte)) (code : Nat) (s : State) : State :=
  match opGet s id with
  | none => s
  | some d =>
    let s1 := opMod id (fun x => { x with outst := x.outst - 1 }) s
    match data with
    | none => opMod id (noteFail code) s1
    | some bs =>
      let s2 := match d.st, d.write.bind (wrGet s) with
        | .pull, some w => landBytes w d.h (bs.length + 1) (d.off + o) bs s1
        | _, _ => s1
      opMod id (fun x => { x with landed := x.landed + bs.length }) s2

/-- Every byte of a request's data is durable. -/
def DOp.durable (d : DOp) : Bool := d.st == .pull && d.landed == d.len && d.again.isEmpty && d.outst == 0

/-! The effect of a write (R283, R378, R389). -/

/-- A new write record for an operation. -/
def writeNew (obj : Nat) (home : Half) (ranges : List (Nat × Nat)) (ops : List (Nat × Nat)) (coll : Option Nat) (s : State) :
    State × Nat :=
  let id := s.objs.next
  (nextUse (objMod (fun o => { o with writes := o.writes ++ [{ id, obj, home, ranges, ops, coll }] }) s), id)

/-- A write takes effect at an instant: its place in the order, its object's entry, the cache, lost ranges (R283). -/
def writeStep (wid : Nat) (now : Nat) (s : State) : State :=
  match wrGet s wid with
  | none => s
  | some w =>
    let ord := s.objs.nextOrd
    let hi := (w.ranges.map (fun r => r.1 + r.2)).foldl max 0
    let s1 := objMod (fun o => { o with
      nextOrd := ord + 1, writes := o.writes.map (fun x => if x.id = wid then { x with ord := ord, coll := none } else x),
      stripes := o.stripes.map (fun x => if x.write = wid ∧ ¬ x.repair then { x with ord := ord } else x) }) s
    let s2 := nameWritten w.obj hi now s1
    w.ranges.foldl (fun t r => lostWrite w.obj r.1 r.2
      (cacheDrop w.obj (fun p => (rangeUnits r.1 r.2).contains p) t)) s2

/-- Every page of a write lies on its object's home half. -/
def allHome (w : Write) : Bool := w.pages.all (fun g => decide (g.half = w.home))

/-- The object's SIZE and GEN as they stand. -/
def objSize (s : State) (obj : Nat) : Nat := ((objEnt s obj).map (·.2.size)).getD 0
def objGen (s : State) (obj : Nat) : Nat := ((objEnt s obj).map (·.2.gen)).getD 0

/-- A PUT or APPEND whose data is durable takes effect and completes (R283, R284), or finds its object gone (R299). -/
def writeEffect (id : Nat) (s : State) : State :=
  match opGet s id with
  | none => s
  | some d =>
    match d.write with
    | none => s
    | some wid =>
      if d.coll.isSome ∨ d.durable = false then s
      else if d.gone then opFail id stOBJ_GONE s
      else if !nameStepOk s then s
      else if !nameRoom s d.home then jrnlWait d.home s
      else
        let now := nowH s d.home
        let s1 := nameJrnl d.home (writeStep wid now s)
        let s2 := opEnd id stOK {
          a := d.len, b := d.off, size := objSize s1 d.obj, gen := objGen s1 d.obj, time := now } s1
        writeGc (if (wrGet s2 wid).any allHome then buildStripes wid s2 else s2)

/-- The reads of a failed request have all ended (R293). -/
def pullDrained (id : Nat) (s : State) : State :=
  match opGet s id with
  | none => s
  | some d =>
    if d.st = .drain ∧ d.outst = 0 ∧ d.coll.isNone then
      match d.write with
      | some w =>
        if d.gone then opFail id stOBJ_GONE s
        else opEnd id stPULL_FAILED { time := nowH s d.h, aux := d.pullFail.getD 0 } (writeDrop w s)
      | none => s
    else s

/-! Copies over the span (R284). -/

/-- One page of a write copied to the object's home half. -/
def copyPage (wid : Nat) (home : Half) (g : WPg) (q : Nat) (s : State) : State :=
  ezStore (pageAddr s home q) (ezRead s (pageAddr s g.half g.page) panelBytes)
    (wrMod wid (fun w => { w with pages := w.pages.map (fun x => if x = g then ⟨g.panel, home, q, g.settled⟩ else x) }) s)

/-- A write in effect whose data lies on the other half is copied over and built (R284). -/
def spanCopy (wid : Nat) (s : State) : State :=
  match wrGet s wid with
  | none => s
  | some w =>
    if w.ord = 0 ∨ w.built ∨ allHome w ∨ s.boot.span = false ∨ jrnlRoom s w.home = false then s
    else
      let gs := w.pages.filter (fun g => decide (g.half ≠ w.home))
      match takePages w.home gs.length s with
      | none => s
      | some (qs, s1) =>
        buildStripes wid (jrnl w.home ((gs.zip qs).foldl (fun t x => copyPage wid w.home x.1 x.2 t) s1))

/-! GET (R287, R294, R256). -/

/-- The stripe of unit `p`, its index in it, and the committed stripe's entry where there is one. -/
def unitStripe (s : State) (obj g p : Nat) : Nat × Nat × Option MapEnt :=
  let n := grpStripeBytes s (objHome obj) g / panelBytes
  if n = 0 then (0, 0, none) else (p / n, p % n, (mapStripe s obj (p / n)).head?)

/-- One unit of a GET resolved: writes that hold it, a cache panel, or what a plan must read (R256, R285). -/
def getUnit (d : DOp) (p : Nat) (acc : State × List (Nat × Nat) × List (Nat × Nat) × List (Nat × Nat)) :
    State × List (Nat × Nat) × List (Nat × Nat) × List (Nat × Nat) :=
  let (s, reads, hits, miss) := acc
  let ws := liveWrites s d.obj p
  let reads' := reads ++ ws.map (fun x => (x.1.id, p))
  let lo := if p * panelBytes < d.off then d.off - p * panelBytes else 0
  let hi := min panelBytes (d.off + d.bytes - p * panelBytes)
  let (num, _, e) := unitStripe s d.obj d.group p
  if e.isNone || !unitGap p lo hi ws then (s, reads', hits, miss)
  else
    let (s1, c) := cacheLook d.home d.obj p s
    match c with
    | some q => (s1, reads', hits ++ [(p, q)], miss)
    | none => (s1, reads', hits, miss ++ [(num, p)])

/-- A GET is resolved: every stripe takes its source, and plans are made for what the media must give (R256, R257). -/
def getStart (id : Nat) (s : State) : State :=
  match opGet s id with
  | none => s
  | some d =>
    let (s1, reads, hits, miss) := (rangeUnits d.off d.bytes).foldl (fun a p => getUnit d p a) (s, [], [], [])
    let nums := (miss.map (·.1)).dedup
    let (s2, ps) := nums.foldl (fun (a : State × List Nat) num =>
      match unitStripe a.1 d.obj d.group (((miss.find? (fun m => m.1 == num)).map (·.2)).getD 0) with
      | (_, _, some e) =>
        let want := (miss.filter (fun m => m.1 == num)).map (fun m => (unitStripe a.1 d.obj d.group m.2).2.1)
        let (t, pid) := planNew (.get id) e want d.noCache a.1
        (t, a.2 ++ [pid])
      | _ => a) (s1, [])
    opMod id (fun x => { x with st := .get, reads := reads, hits := hits, plans := ps }) s2

/-- A GET's plans: one has failed, or all are done (R287). -/
def getFailed (s : State) (d : DOp) : Bool := d.plans.any (fun p => (planGet s p).all (·.failed))
def getReady (s : State) (d : DOp) : Bool := d.plans.all (fun p => (planGet s p).any (·.done))

/-- The Easel place that gives unit `p` what no live write gives. -/
def getBase (s : State) (d : DOp) (p : Nat) : Option Nat :=
  match d.hits.find? (fun x => x.1 == p) with
  | some x => some (cacheAddr s d.home x.2)
  | none =>
    d.plans.findSome? (fun i => (planGet s i).bind (fun q =>
      let n := q.k * runUnits q.kind q.s
      if n ≠ 0 ∧ p / n = q.num then (q.outs.find? (fun o => o.1 == p % n)).map (fun o => pageAddr s q.home o.2) else none))

/-- Byte `o` of the object as a GET reads it (R287). -/
def getByte (s : State) (d : DOp) (o : Nat) : Byte :=
  let p := o / panelBytes
  let ws := unitWrites s d.obj p (fun w g => d.reads.contains (w.id, g.panel))
  unitByte s p (o % panelBytes) (match getBase s d p with
    | some a => ezByte s (a + o % panelBytes)
    | none => 0) ws

/-- The next PW of a GET (R294). -/
def getPush (h : Half) (id : Nat) (s : State) : State :=
  match opGet s id with
  | none => s
  | some d =>
    if d.h ≠ h ∨ d.st ≠ .get ∨ d.bytes ≤ d.pushed ∨ getFailed s d ∨ getReady s d = false ∨
        (d.home ≠ d.h ∧ s.boot.span = false) then s
    else
      let n := pieceLen d.bufAddr d.pushed d.bytes
      let bs := (List.range n).map (fun i => getByte s d (d.off + d.pushed + i))
      sendPkt h (mkPW true d.bufNode (d.bufAddr + d.pushed) d.ctx d.bufKey bs)
        (opMod id (fun x => { x with pushed := x.pushed + n, pids := x.pids ++ [s.nextPid] }) s)

/-- A GET ends: its bytes are pushed and acknowledged, or a stripe that it needs cannot be read (R287, R294). -/
def getComplete (h : Half) (id : Nat) (s : State) : State :=
  match opGet s id with
  | none => s
  | some d =>
    if d.h ≠ h ∨ d.st ≠ .get then s
    else if getFailed s d then plansReap (opEnd id stMEDIA_LOST { time := nowH s d.home } s)
    else if d.pushed = d.bytes ∧ getReady s d = true ∧ d.pids.all (fun p => !pktOpen s p) then
      writeGc (plansReap (opEnd id stOK {
        a := d.bytes, b := d.off, size := d.size, gen := d.gen, time := nowH s d.home } s))
    else s

/-! STAT (R289). -/

/-- Stripes of an object that are not committed (R289). -/
def uncommitted (s : State) (obj g : Nat) : Nat :=
  let n := grpStripeBytes s (objHome obj) g / panelBytes
  let us := ((s.objs.writes.filter (fun w => w.obj == obj && w.ord != 0)).map (fun w =>
    (w.pages.filter (fun p => !p.settled)).map (fun p => if n = 0 then 0 else p.panel / n))).flatten
  let xs := (s.objs.stripes.filter (fun x => x.obj == obj && !x.repair && !x.gone && x.early.isNone)).map (·.num)
  ((us ++ xs).dedup).length

/-! FENCE (R177, R290). -/

/-- A posted write of the context accepted no later than `t` is still open (R177). -/
def pwOpen (s : State) (c t : Nat) : Bool :=
  [Half.west, .east].any (fun h => ((s.cross.at h).accs ++ (s.cross.at h).wait).any (fun a =>
    isPosted a && a.pkt.ctx == c && decide (a.time ≤ t) && a.trk != .failed))

/-- Writes in effect that covered requests made and that have a stripe not committed. -/
def fenceWrites (s : State) (d : DOp) : List Write :=
  s.objs.writes.filter (fun w => w.ord != 0 && w.ops.any (fun o => o.2 == d.ctx && decide (o.1 < d.id)) &&
    (w.pages.any (fun g => !g.settled) || !w.built))

/-- A covered stripe is STALLED (R290). -/
def fenceStalled (s : State) (ws : List Write) : Bool :=
  s.objs.stripes.any (fun x => isStalled s x && ws.any (fun w => w.id == x.write))

/-- A FENCE whose covered set has ended takes the failed-write count and completes (R290). -/
def fenceComplete (id : Nat) (s : State) : State :=
  match opGet s id with
  | none => s
  | some d =>
    let ws := fenceWrites s d
    if d.st ≠ .fence || s.dikar.ops.any (fun x => x.ctx == d.ctx && decide (x.id < d.id) && x.st != .ended) ||
        pwOpen s d.ctx d.time || (d.media && !ws.isEmpty && !fenceStalled s ws) then s
    else
      let n := ctxV s R.CTX_VIEW_7_FAILED d.ctx
      let s1 := ctxPut R.CTX_VIEW_7_FAILED d.ctx 0 (ctxPut R.CTX_VIEW_0_POISON d.ctx 0 s)
      let st := if n ≠ 0 then stDEFERRED else if d.media && !ws.isEmpty then stMEDIA_STALLED else stOK
      opEnd id st { count := n, time := nowH s d.h, media := ws.isEmpty } s1

/-! DELETE (R288, R299). -/

/-- What a DELETE step takes from an object's home half (R252, R288, R378, R389, R424). -/
def objectGone (obj : Nat) (s : State) : State :=
  let h := objHome obj
  let s1 := (((s.place.at h).map.filter (fun e => e.obj == obj))).foldl releaseEnt s
  let s2 := mapMod h (fun es => es.filter (fun e => e.obj != obj)) s1
  let s3 := plMod h (fun x => { x with
    repairs := x.repairs.filter (fun r => r.obj != obj), lost := x.lost.filter (fun r => r.obj != obj),
    lostOwed := x.lostOwed.filter (fun r => r.obj != obj) }) s2
  let s4 := cacheDrop obj (fun _ => true) s3
  let s5 := objMod (fun o => { o with writes := o.writes.map (fun w =>
    if w.obj = obj ∧ w.ord ≠ 0 then { w with built := true, pages := w.pages.map (fun g => { g with settled := true }) } else w) }) s4
  let s6 := dkMod (fun d => { d with ops := d.ops.map (fun x =>
    if x.obj = obj ∧ x.isWrite = true ∧ x.pullFail.isNone then { x with gone := true } else x) }) s5
  (s6.objs.stripes.filter (fun x => x.obj == obj)).foldl (fun t x => stripeGone x.id t) s6

end Sys2Proof.Machine
end

