-- ==== Sys2Proof/Machine/Coll.lean ====
section
/-!
DEFINITION. Collectives: how a member joins, gathers and fails, how a collective closes, what it tells (chapter 10
R339-R354).
-/
namespace Sys2Proof.Machine

def collMod (h : Half) (f : CollHalf → CollHalf) (s : State) : State := { s with coll := s.coll.put h (f (s.coll.at h)) }

def recGet (s : State) (h : Half) (i : Nat) : Option Coll := ((s.coll.at h).recs.find? (fun p => p.1 == i)).map (·.2)

def recMod (h : Half) (i : Nat) (f : Coll → Coll) (s : State) : State :=
  collMod h (fun c => { c with recs := c.recs.map (fun p => if p.1 = i then (i, f p.2) else p) }) s

/-- The open collective of an object and a tag (R341). -/
def recFind (s : State) (h : Half) (obj tag : Nat) : Option (Nat × Coll) :=
  (s.coll.at h).recs.find? (fun p => p.2.obj == obj && p.2.tag == tag && !p.2.closing)

/-- The admitted members of a collective whose completions have not been sent, in ascending RANK. -/
def recOps (s : State) (r : Coll) : List DOp :=
  (s.dikar.ops.filter (fun d => r.members.contains d.id)).mergeSort (fun a b => decide (a.rank ≤ b.rank))

/-- Member records of half `h` in use (R343). -/
def memberRecs (s : State) (h : Half) : Nat := ((s.coll.at h).recs.map (fun p => p.2.members.length)).sum

/-- A collective has closed and its outcome stands. -/
def Coll.over (r : Coll) : Bool := !r.doneBody.isEmpty

/-! Joining (R341, R342). -/

/-- A member that R341 turns away (rows 1 and 3 to 8). -/
def collReject (id status : Nat) (h : Half) (s : State) : State :=
  let P := pgColl h
  opFail id status (raise P 2 (bump P R.COLLECTIVE_CNT_MEMBER_REJECT s))

/-- No gather record or member record is free (R360). -/
def collNoRecord (id : Nat) (h : Half) (s : State) : State := collReject id stCOLL_NO_RECORD h (raise (pgColl h) 4 s)

/-- A member's parameters differ from the collective's (R341 row 5). -/
def collDiffers (r : Coll) (d : DOp) : Bool :=
  r.nmemb != d.nmemb || r.tmo != d.tmo || r.notify != d.notify || r.partialOk != d.partialOk || r.create != d.create ||
    r.group != d.groupRaw

/-- Two ranges share a byte. -/
def rangesMeet (a n b m : Nat) : Bool := n != 0 && m != 0 && decide (a < b + m ∧ b < a + n)

/-- A member is admitted: its rank and range are recorded and it pulls (R341, R344). -/
def collJoin (id : Nat) (h : Half) (i : Nat) (r : Coll) (s : State) : State :=
  match opGet s id with
  | none => s
  | some d =>
    let (s1, wid) := if d.h = h ∨ d.len = 0 then (s, r.write) else writeNew r.obj h [] [] (some i) s
    recMod h i (fun x => { x with
      members := x.members ++ [id], nodes := if r.notify ∧ ¬ x.nodes.contains d.src then x.nodes ++ [d.src] else x.nodes })
      (opMod id (fun x => { x with coll := some (i, d.rank), write := some wid, off := d.offset, st := .pull }) s1)

/-- Rows 5 to 8 for a member that finds its collective open (R341). -/
def collEnter (id : Nat) (h : Half) (i : Nat) (r : Coll) (s : State) : State :=
  match opGet s id with
  | none => s
  | some d =>
    let ms := recOps s r
    if collDiffers r d then collReject id stCOLL_MISMATCH h s
    else if ms.any (fun x => x.rank == d.rank) then collReject id stCOLL_DUP_RANK h s
    else if ms.any (fun x => rangesMeet x.offset x.len d.offset d.len) then collReject id stCOLL_OVERLAP h s
    else if 1048576 ≤ memberRecs s h then collNoRecord id h s
    else collJoin id h i r s

/-- The timeout in force for a new collective, ms (R340, R358). -/
def collTmo (s : State) (h : Half) (d : DOp) : Nat :=
  if d.tmo ≠ 0 then d.tmo else max 1 (rd s (pgColl h) R.COL_TMO_DEF_TMO)

/-- Whether a collective may be opened on half `h` now (R342, R564). -/
def collMayOpen (s : State) (h : Half) : Bool := rdB s (pgColl h) R.COL_CTRL_EN && takesWork s

def freeRec (s : State) (h : Half) : Option Nat := firstFree ((s.coll.at h).recs.map (·.1)) 512 0

/-- A member opens its collective and joins it (R342). -/
def collOpen (id : Nat) (h : Half) (s : State) : State :=
  match opGet s id with
  | none => s
  | some d =>
    if !collMayOpen s h then collReject id stCOLL_NO_RECORD h s
    else
      match freeRec s h with
      | none => collNoRecord id h s
      | some i =>
        if 1048576 ≤ memberRecs s h then collNoRecord id h s
        else
          let (s1, wid) := writeNew d.obj h [] [] (some i) s
          let ms := collTmo s h d
          let r : Coll := {
            obj := d.obj, tag := d.tag, nmemb := d.nmemb, tmo := d.tmo, tmoMs := ms, notify := d.notify,
            partialOk := d.partialOk, create := d.create, group := d.groupRaw, deadline := nowH s h + ms * 1000000,
            write := wid }
          collJoin id h i r (bump (pgColl h) R.COLLECTIVE_CNT_COLL_OPEN
            (collMod h (fun c => { c with recs := c.recs ++ [(i, r)] }) s1))

/-- An admitted member whose object is known: rows 3 to 8; `fresh`: its own step has just created the object (R341,
R342). -/
def collAdmit (id : Nat) (h : Half) (e : NameEnt) (fresh : Bool) (s : State) : State :=
  match opGet s id with
  | none => s
  | some d =>
    match recFind s h d.obj d.tag with
    | some (i, r) => collEnter id h i r s
    | none =>
      if (s.coll.at h).linger.contains (d.obj, d.tag) then collReject id stCOLL_LATE h s
      else if !fresh && d.create && d.excl then collReject id stEXISTS h s
      else if d.condGen ≠ 0 ∧ d.condGen ≠ e.gen then collReject id stGEN_MISMATCH h s
      else collOpen id h s

/-! Gathering (R344, R345, R348). -/

/-- The bytes of a range in a write's pages. -/
def wrBytes (s : State) (w : Write) (h : Half) (off len : Nat) : List Byte :=
  (List.range len).map (fun i =>
    match w.pages.find? (fun g => g.panel == (off + i) / panelBytes && decide (g.half = h)) with
    | some g => ezByte s (pageAddr s h g.page + (off + i) % panelBytes)
    | none => 0)

/-- Ranges cover every byte from `lo` to `hi`. -/
def rangesCover (rs : List (Nat × Nat)) (lo hi : Nat) : Bool :=
  decide (hi ≤ (rs.mergeSort (fun a b => decide (a.1 ≤ b.1))).foldl (fun r x => if x.1 ≤ r then max r (x.1 + x.2) else r) lo)

/-- One stripe handed on early, where gathered members cover it (R345). -/
def earlyGo (h : Half) (i g num : Nat) (s : State) : State :=
  match recGet s h i with
  | none => s
  | some r =>
    match wrGet s r.write with
    | none => s
    | some w =>
      let sb := grpStripeBytes s h g
      if r.early.contains num || !rangesCover w.ranges (num * sb) ((num + 1) * sb) then s
      else
        stripeNew w g num (some i) (bump (pgColl h) R.COLLECTIVE_CNT_EARLY
          (recMod h i (fun x => { x with early := x.early ++ [num] }) s))

/-- A received contribution lies in the assembly area: its range counts, and the stripes that it completes are handed
on (R344, R345). -/
def collPlaced (h : Half) (i : Nat) (d : DOp) (s : State) : State :=
  match recGet s h i with
  | none => s
  | some r =>
    let s1 := wrMod r.write (fun w => { w with ranges := w.ranges ++ [(d.off, d.len)], ops := w.ops ++ [(d.id, d.ctx)] }) s
    let s2 := opMod d.id (fun x => { x with write := some r.write }) s1
    if rdB s (pgColl h) R.COL_CTRL_EARLY then
      match objEnt s2 r.obj with
      | some (_, e) =>
        let sb := grpStripeBytes s2 h e.group
        if sb = 0 ∨ d.len = 0 then s2
        else
          (List.range ((d.off + d.len - 1) / sb + 1 - d.off / sb)).foldl (fun t k =>
            earlyGo h i e.group (d.off / sb + k) t) s2
      | none => s2
    else s2

/-- A member's contribution is durable and its rank is recorded: it gives back its slot and waits (R344). -/
def collGather (d : DOp) (s : State) : State :=
  match d.coll, d.write.bind (wrGet s) with
  | some (i, _), some w =>
    let s1 := opMod d.id (fun x => { x with
      st := .member, slot := false, received := true, crc := crc64 (wrBytes s w d.h d.off d.len) }) s
    let s2 := bump (pgColl d.home) R.COLLECTIVE_CNT_MEMBER s1
    if (recGet s d.home i).any (fun r => r.write == w.id) then collPlaced d.home i d s2 else s2
  | _, _ => s

/-- A member's data lies in the assembly area. -/
def collIn (s : State) (h : Half) (i : Nat) (d : DOp) : Bool :=
  match recGet s h i with
  | some r => d.write == some r.write
  | none => true

/-- A received member's data is copied over the span into the assembly area (R344). -/
def collCopy (d : DOp) (s : State) : State :=
  match d.coll, d.write.bind (wrGet s) with
  | some (i, _), some w =>
    match recGet s d.home i with
    | none => s
    | some r =>
      if !d.received || w.id == r.write || !s.boot.span then s
      else
        match wrGet s r.write with
        | none => s
        | some a =>
          match pagesFor a.id d.home false (unitsMissing a d.home d.off d.len) s with
          | none => s
          | some s1 =>
            match wrGet s1 a.id with
            | none => s
            | some b =>
              collPlaced d.home i d (writeDrop w.id
                (landBytes b d.home (d.len + 1) d.off (wrBytes s w d.h d.off d.len) s1))
  | _, _ => s

/-! The close (R346-R350). -/

/-- The checksums of received contributions folded in ascending OFFSET (R348). -/
def collFold (ms : List DOp) : Nat :=
  (ms.mergeSort (fun a b => decide (a.off ≤ b.off))).foldl (fun sum d => crc64From sum (zeros d.len) ^^^ d.crc) 0

/-- What a member's completion says after the close whose COLL_DONE body is `b` (R349). -/
def collSaid (b : List Nat) (crc : Nat) : Said :=
  let w := fun i => b.getD i 0
  { a := crc, b := w 3, size := w 4, gen := bits (w 5) 63 32, count := bits (w 5) 31 0, time := w 6,
    aux := bits (w 7) 31 0 }

/-- STATUS of the collective as a whole (R346, R351). -/
def collStatus (b : List Nat) : Nat := bits (b.getD 0 0) 55 48

/-- The status of a member at or after a close (R346, R354). -/
def memberStatus (whole : Nat) (d : DOp) : Nat :=
  if d.pullFail.isSome then stPULL_FAILED else if d.received || d.gone then whole else stCOLL_TIMEOUT

/-- A member's completion after the close (R349). -/
def memberEnd (body : List Nat) (d : DOp) (s : State) : State :=
  let s1 := match d.write.bind (wrGet s) with
    | some w => if w.ord = 0 ∧ decide (d.h ≠ d.home) && d.len != 0 then writeDrop w.id s else s
    | none => s
  opEnd d.id (memberStatus (collStatus body) d) (collSaid body (if d.received then d.crc else 0)) s1

/-- A closed collective lingers; the oldest entry makes room (R343). -/
def lingerAdd (h : Half) (obj tag : Nat) (s : State) : State :=
  collMod h (fun c => { c with
    linger := (if c.linger.length < 4096 then c.linger else c.linger.drop 1) ++ [(obj, tag)] }) s

/-- The outcome of a close is recorded and its completions are ordered (R349-R351). -/
def collFinish (h : Half) (i : Nat) (body : List Nat) (s : State) : State :=
  match recGet s h i with
  | none => s
  | some r =>
    let s1 := recMod h i (fun x => { x with closing := true, doneBody := body }) s
    (recOps s r).foldl (fun t d => if d.st = .member then memberEnd body d t else t) (lingerAdd h r.obj r.tag s1)

/-- What the COLL_DONE body of a close says (R351). -/
def collBody (s : State) (r : Coll) (status sum size gen now : Nat) : List Nat :=
  let got := ((recOps s r).filter (·.received)).length
  complBody doCOLL status r.tag r.obj 0 (((objEnt s r.obj).map (·.2.group)).getD 255) {
    b := sum, size, gen, count := got, time := now, aux := r.nmemb - got }

/-- A collective is abandoned: its early stripes are withdrawn and nothing is written (R345, R346, R354). -/
def collAbandon (h : Half) (i : Nat) (status now : Nat) (s : State) : State :=
  match recGet s h i with
  | none => s
  | some r =>
    let P := pgColl h
    let body := collBody s r status 0 (objSize s r.obj) (objGen s r.obj) now
    let s1 := (s.objs.stripes.filter (fun x => x.write == r.write)).foldl (fun t x => stripeGone x.id t) s
    let s2 := wrMod r.write (fun w => { w with coll := none }) s1
    collFinish h i body (raise P 1 (bump P R.COLLECTIVE_CNT_COLL_ABANDON s2))

/-- A collective takes effect as one write at `now` (R347). -/
def collWrite (h : Half) (i : Nat) (status now : Nat) (s : State) : State :=
  match recGet s h i with
  | none => s
  | some r =>
    let P := pgColl h
    let sum := collFold ((recOps s r).filter (·.received))
    let s1 := nameJrnl h (writeStep r.write now s)
    let body := collBody s1 r status sum (objSize s1 r.obj) (objGen s1 r.obj) now
    let mine := (s1.objs.stripes.filter (fun x => x.write == r.write)).map (·.id)
    let s2 := mine.foldl (fun t x => stripeEnd x (stpMod x (fun y => { y with early := none }) t)) s1
    let s3 := bump P (if status = stOK then R.COLLECTIVE_CNT_COLL_OK else R.COLLECTIVE_CNT_COLL_PARTIAL) s2
    writeGc (collFinish h i body (buildStripes r.write s3))

/-- Every rank has been received or has failed. -/
def collAllIn (s : State) (r : Coll) : Bool :=
  decide (((recOps s r).filter (fun d => d.st == .member)).length = r.nmemb)

/-- A collective whose close has come takes effect or is abandoned (R346). -/
def collEffect (h : Half) (i : Nat) (s : State) : State :=
  match recGet s h i with
  | none => s
  | some r =>
    let ms := recOps s r
    let got := ms.filter (·.received)
    if r.over || !(r.closing || collAllIn s r) || !got.all (collIn s h i) then s
    else
      let failed := (ms.filter (fun d => d.pullFail.isSome)).length
      let missing := r.nmemb - got.length - failed
      let now := if r.closing then r.deadline else nowH s h
      let late := fun t => raiseIf r.closing (pgColl h) 0 t
      if got.isEmpty ∨ (got.length < r.nmemb ∧ r.partialOk = false) then
        collAbandon h i (if missing = 0 then stCOLL_ABORTED else stCOLL_TIMEOUT) now (late s)
      else if !nameStepOk s then s
      else if !nameRoom s h then jrnlWait h s
      else collWrite h i (if got.length = r.nmemb then stOK else stCOLL_PARTIAL) now (late s)

/-- A member that the deadline finds: gathered where its data is durable, else missing (R346). -/
def memberDue (d : DOp) (s : State) : State :=
  if d.durable then collGather d s
  else if d.st = .pull then
    opMod d.id (fun x => { x with
      missing := true, st := if d.outst = 0 then .member else .drain, waitPage := false, waitCap := false }) s
  else s

/-- The deadline of a collective passes (R346). -/
def collDeadline (h : Half) (i : Nat) (s : State) : State :=
  match recGet s h i with
  | none => s
  | some r =>
    if r.closing ∨ nowH s h < r.deadline then s
    else collEffect h i (recMod h i (fun x => { x with closing := true }) ((recOps s r).foldl (fun t d => memberDue d t) s))

/-- A member of half `h` whose data is durable is gathered; after a DELETE it completes OBJ_GONE (R344, R354). -/
def collGathered (h : Half) (id : Nat) (s : State) : State :=
  match opGet s id with
  | none => s
  | some d =>
    match d.coll with
    | none => s
    | some (i, _) =>
      if d.h ≠ h ∨ d.durable = false then s
      else
        match recGet s d.home i with
        | none => s
        | some r =>
          if r.over then memberEnd r.doneBody d s
          else if d.h ≠ d.home ∧ s.boot.span = false then s
          else collGather d s

/-- The reads of a member that failed or is missing have all ended (R293, R344, R346). -/
def collDrained (id : Nat) (s : State) : State :=
  match opGet s id with
  | none => s
  | some d =>
    match d.coll with
    | none => s
    | some (i, _) =>
      if d.st ≠ .drain ∨ d.outst ≠ 0 then s
      else
        match recGet s d.home i with
        | none => s
        | some r =>
          if r.over then memberEnd r.doneBody d s
          else opMod id (fun x => { x with st := .member, slot := false }) s

/-- The DELETE step of an object abandons its collectives (R354). -/
def collGone (obj : Nat) (s : State) : State :=
  let h := objHome obj
  ((s.coll.at h).recs.filter (fun p => p.2.obj == obj && !p.2.over)).foldl (fun t p =>
    collAbandon h p.1 stOBJ_GONE (nowH s h) t) s

/-! After the close (R343, R350, R351). -/

/-- COLL_DONE to the next node whose completions have all been sent (R351). -/
def collNotify (h : Half) (i : Nat) (s : State) : State :=
  match recGet s h i with
  | none => s
  | some r =>
    let owed := (recOps s r).map (·.src)
    match r.nodes.find? (fun n => !owed.contains n) with
    | some n =>
      if r.over then
        bump (pgColl h) R.COLLECTIVE_CNT_NOTIFY (recMod h i (fun x => { x with nodes := x.nodes.erase n })
          (sendPkt h (mkEVT n 0xC1 r.obj (bodyBytes r.doneBody)) s))
      else s
    | none => s

/-- A gather record is freed: every completion and every event has been sent (R343, R359). -/
def recDone (s : State) (r : Coll) : Bool := r.over && r.nodes.isEmpty && (recOps s r).isEmpty

/-- Gather records that are done are freed, with an assembly area that never took effect. -/
def collGcH (h : Half) (s : State) : State :=
  let dead := (s.coll.at h).recs.filter (fun p => recDone s p.2)
  dead.foldl (fun t p =>
    let t1 := collMod h (fun c => { c with recs := c.recs.filter (fun q => q.1 != p.1) }) t
    if (wrGet t1 p.2.write).any (fun w => w.ord == 0) then writeDrop p.2.write t1 else t1) s

def collGc (s : State) : State := collGcH .east (collGcH .west s)

end Sys2Proof.Machine
end

