-- ==== Sys2Proof/Machine/Dikar.lean ====
section
/-!
DEFINITION. A Dikar request from its match to its admission, and the namespace steps (chapter 08 R279-R289, R299).
-/
namespace Sys2Proof.Machine

/-! Checks 1 to 5 (R280, R317, R341). -/

/-- CREATE is one of the operation's fields (R274). -/
def DOp.creates (d : DOp) : Bool := d.create && d.isWrite

/-- Check 4: the matched entry does not allow the operation or the name (R317). -/
def denied (d : DOp) (e : MatchEnt) : Bool :=
  !e.dops.testBit (d.dop - 1) || (d.dop != doFENCE && (decide (d.name < e.nameLo) || decide (e.nameHi < d.name))) ||
    (d.creates && !e.anyGroup && d.groupRaw != 255 && d.groupRaw != e.defGroup)

/-- The first of checks 1 to 5 that fails (R280). -/
def firstCheck (s : State) (d : DOp) (e : MatchEnt) : Option Nat :=
  let moves := d.isWrite || d.dop == doGET
  if d.badLen ∨ d.version ≠ 1 ∨ d.dop = 0 ∨ 7 < d.dop then some stBAD_REQUEST
  else if d.name = 0 ∧ d.dop ≠ doFENCE then some stBAD_REQUEST
  else if (moves = true ∧ 2 ^ 36 < d.len) ∨ ((d.dop = doPUT ∨ d.dop = doGET) ∧ 2 ^ 48 < d.offset + d.len) then
    some stTOO_LARGE
  else if denied d e then some stDENIED
  else if d.creates && (d.grp == 255 || !grpEn s d.h d.grp) then some stNO_GROUP
  else none

/-! The admission queues (R282). -/

/-- A request goes to the half on which it is admitted; the other half must be reachable (R282). -/
def opSend (id : Nat) (home : Half) (s : State) : State :=
  match opGet s id with
  | none => s
  | some d =>
    if home ≠ d.h ∧ xstepOk s = false then opFail id stRETRY s
    else
      dkMod (fun k => { k with queue := k.queue.put home (k.queue.at home ++ [id]) })
        (opMod id (fun x => { x with st := .admitting, home := home }) s)

/-- The half on which a request for that name is admitted: its object's home half, or the context's (R282). -/
def nameHome (h : Half) (e : Option (Nat × NameEnt)) : Half := (e.map (fun x => objHome x.2.objId)).getD h

/-- A request that holds its slot is checked and goes on (R280, R290, R302, R314). -/
def opChecks (id : Nat) (s : State) : State :=
  match opGet s id with
  | none => s
  | some d =>
    match d.ent with
    | none => opFail id stDENIED s
    | some e =>
      if d.turned then opFail id stRETRY s
      else
        match firstCheck s d e with
        | some st => opFail id st s
        | none =>
          if d.dop = doFENCE then opMod id (fun x => { x with st := .fence }) s
          else if d.dop = doCOLL ∧ d.nmemb ≤ d.rank then collReject id stCOLL_BAD_RANK d.h s
          else if d.dop = doCOLL ∧ 2 ^ 48 < d.offset + d.len then opFail id stTOO_LARGE s
          else
            let (s1, e) := nameLook d.h d.name s
            opSend id (nameHome d.h e) s1

/-! Slots (R281). -/

/-- Matched requests of half `h` that wait for a slot, in match order. -/
def slotWaiters (s : State) (h : Half) : List DOp := s.dikar.ops.filter (fun d => decide (d.h = h) && d.st == .slot)

/-- A half holds 16,384 operations (R281). -/
def slotFree (s : State) (h : Half) : Bool := decide (slotsUsed s h < 16384)

/-- A matched request takes its slot and goes on (R281). -/
def opGo (id : Nat) (s : State) : State := opChecks id (takeSlot id s)

/-- The oldest matched request that waits takes a slot (R281). -/
def slotGrant (h : Half) (s : State) : State :=
  match slotWaiters s h with
  | [] => s
  | d :: r =>
    if slotFree s h then opGo d.id (if r.isEmpty then mhMod h (fun m => { m with inflFull := false }) s else s) else s

/-- A request becomes an operation of half `h`; it takes a slot or begins to wait (R281, R314). -/
def opArrive (h : Half) (d : DOp) (s : State) : State :=
  let P := pgDikar h
  let id := s.dikar.next
  let wait := !(slotWaiters s h).isEmpty || !slotFree s h
  let x : DOp := { d with
    id := id, h := h, home := h, time := nowH s h, turned := !(rdB s P R.DK_CTRL_EN && takesWork s) }
  let s1 := dkMod (fun k => { k with ops := k.ops ++ [x], next := id + 1 }) s
  let s2 := if d.ent.isSome then bump P R.DIKAR_CNT_REQ (bump (pgMatch h) R.MATCH_CNT_MATCH s1) else s1
  if wait then
    raiseIf (!(mh s h).inflFull) P 1 (mhMod h (fun m => { m with inflFull := true }) s2)
  else opGo id s2

/-! Admission (R282-R289, R299). -/

/-- A write that is admitted and has not completed (R299). -/
def DOp.inFlight (d : DOp) : Bool := d.isWrite && (d.st == .pull || d.st == .drain || d.st == .member)

/-- A write in flight whose COND_GEN holds back later writes; of a collective, only the member that opened it (R299,
R342). -/
def condHolder (s : State) (d : DOp) : Bool :=
  d.inFlight && d.condGen != 0 && (match d.coll with
    | none => true
    | some (i, _) => (recGet s d.home i).any (fun r => r.members.head? == some d.id))

/-- The admission of a write on an existing object waits (R299). -/
def condWaits (s : State) (d : DOp) (e : NameEnt) : Bool :=
  let joins := d.dop == doCOLL && (recFind s (objHome e.objId) e.objId d.tag).isSome
  let others := s.dikar.ops.filter (fun x => x.inFlight && x.obj == e.objId)
  d.isWrite && !joins && ((d.condGen != 0 && !others.isEmpty) || others.any (condHolder s))

/-- A waiting request cannot be admitted yet. -/
def opBlocked (s : State) (d : DOp) : Bool :=
  match nameFind s d.name with
  | some (_, e) => condWaits s d e
  | none => false

/-- The first request of a queue that is not blocked and stands behind no blocked request of its name. -/
def nextAdmit (s : State) : List Nat → List Nat → Option Nat
  | _, [] => none
  | names, i :: r =>
    match opGet s i with
    | none => nextAdmit s names r
    | some d =>
      if names.contains d.name || opBlocked s d then nextAdmit s (d.name :: names) r else some i

/-- It leaves its admission queue. -/
def unqueue (id : Nat) (s : State) : State :=
  dkMod (fun k => { k with
    queue := ⟨k.queue.west.filter (fun i => i != id), k.queue.east.filter (fun i => i != id)⟩ }) s

/-- The tail of an object: SIZE and the ends of ranges given to APPENDs that have not completed (R286). -/
def appendTail (s : State) (obj size : Nat) : Nat :=
  ((s.dikar.ops.filter (fun x => x.dop == doAPPEND && x.obj == obj && x.inFlight)).map (fun x => x.off + x.len)).foldl max size

/-- A PUT or APPEND begins to pull into its pages; with nothing to pull it takes effect at once (R284, R286). -/
def writeBegin (id off : Nat) (s : State) : State :=
  match opGet s id with
  | none => s
  | some d =>
    let (s1, wid) := writeNew d.obj d.home [(off, d.len)] [(id, d.ctx)] none s
    let s2 := opMod id (fun x => { x with st := .pull, off := off, write := some wid }) s1
    if d.len = 0 then writeEffect id s2 else s2

/-- A PUT, APPEND or member of a collective whose object is resolved (R284, R286, R341). -/
def writeAdmit (id : Nat) (h : Half) (e : NameEnt) (fresh : Bool) (s : State) : State :=
  match opGet s id with
  | none => s
  | some d =>
    if d.dop = doCOLL then collAdmit id h e fresh s
    else if d.dop = doAPPEND then
      let t := appendTail s d.obj e.size
      if 2 ^ 48 < t + d.len then opFail id stTOO_LARGE s else writeBegin id t s
    else writeBegin id d.offset s

/-- A request whose object is resolved: checks 6, then what its operation does (R280, R284-R289). -/
def admitFound (id : Nat) (h : Half) (e : NameEnt) (s : State) : State :=
  match opGet s id with
  | none => s
  | some d =>
    let t := nowH s h
    if d.dop = doSTAT then
      let n := uncommitted s d.obj e.group
      opEnd id stOK {
        a := e.created, b := e.modified, size := e.size, gen := e.gen, time := t, media := n = 0, aux := min n (2 ^ 32 - 1) } s
    else if d.dop = doGET then
      let b := min d.len (e.size - d.offset)
      let s1 := opMod id (fun x => { x with off := d.offset, bytes := b }) s
      if b ≠ 0 ∧ lostHit s d.obj d.offset b = true then opFail id stMEDIA_LOST s1 else getStart id s1
    else if d.dop = doCOLL then collAdmit id h e false s
    else if d.dop = doPUT ∧ d.create = true ∧ d.excl = true then opFail id stEXISTS s
    else if d.condGen ≠ 0 ∧ d.condGen ≠ e.gen then opFail id stGEN_MISMATCH s
    else if d.dop = doDELETE then opMod id (fun x => { x with st := .step }) s
    else writeAdmit id h e false s

/-- A member fails as R341 says, any other request plainly. -/
def admitFail (id status : Nat) (h : Half) (s : State) : State :=
  match opGet s id with
  | none => s
  | some d => if d.dop = doCOLL then collReject id status h s else opFail id status s

/-- A request whose name is absent (R280, R284, R342). -/
def admitAbsent (id : Nat) (h : Half) (s : State) : State :=
  match opGet s id with
  | none => s
  | some d =>
    if d.creates = false then admitFail id stNOT_FOUND h s
    else if d.condGen ≠ 0 then admitFail id stGEN_MISMATCH h s
    else if nameFull s d.name then admitFail id stNO_SPACE h s
    else if d.dop = doCOLL ∧ collMayOpen s h = false then collReject id stCOLL_NO_RECORD h s
    else if d.dop = doCOLL ∧ (freeRec s h).isNone then collNoRecord id h s
    else opMod id (fun x => { x with st := .step }) s

/-- The next request of half `h` is admitted (R282). -/
def admission (h : Half) (s : State) : State :=
  match nextAdmit s [] (s.dikar.queue.at h) with
  | none => s
  | some id =>
    match opGet s id with
    | none => s
    | some d =>
      let s1 := unqueue id s
      if h ≠ d.h ∧ xstepOk s = false then opFail id stRETRY s1
      else
        let (s2, e) := nameLook h d.name s1
        if nameHome d.h e ≠ h then opSend id (nameHome d.h e) s2
        else
          match e with
          | some (_, e) =>
            admitFound id h e (opMod id (fun x => { x with obj := e.objId, size := e.size, gen := e.gen, group := e.group }) s2)
          | none => admitAbsent id h s2

/-! Namespace steps (R279, R284, R288). -/

/-- The half that carries out the step of a request admitted on `home` (R279). -/
def stepBy (s : State) (home : Half) : Half := if holds s home then home else home.twin

/-- A creation is journalled, or meets a name created meanwhile (R279, R284, R299, R342). -/
def createStep (h : Half) (id : Nat) (s : State) : State :=
  match opGet s id with
  | none => s
  | some d =>
    match nameLook h d.name s with
    | (s1, some (_, e)) => opSend id (objHome e.objId) s1
    | (s1, none) =>
      if nameFull s1 d.name then admitFail id stNO_SPACE d.home s1
      else
        let s2 := nameJrnl h (nameCreate d.name d.grp d.ctx d.home (nowH s1 h) s1)
        match nameFind s2 d.name with
        | some (_, e) =>
          writeAdmit id d.home e true
            (opMod id (fun x => { x with obj := e.objId, size := e.size, gen := e.gen, group := e.group }) s2)
        | none => s2

/-- What a DELETE step does beside its request (R288, R299, R354). -/
def deleteName (h : Half) (i obj : Nat) (s : State) : State :=
  objectGone obj (nameJrnl h (nameClear i (collGone obj s)))

/-- A DELETE is journalled and completes, or finds its object gone already (R288, R299). -/
def deleteStep (h : Half) (id : Nat) (s : State) : State :=
  match opGet s id with
  | none => s
  | some d =>
    match nameLook h d.name s with
    | (s1, some (i, e)) =>
      if e.objId ≠ d.obj then opFail id stNOT_FOUND s1
      else deleteName h i d.obj (opEnd id stOK { size := d.size, gen := d.gen, time := nowH s1 h } s1)
    | (s1, none) => opFail id stNOT_FOUND s1

/-- The namespace step of request `id` reaches half `h`, which carries it out or refuses it (R279). -/
def namespaceStep (h : Half) (id : Nat) (s : State) : State :=
  match opGet s id with
  | none => s
  | some d =>
    if d.st ≠ .step ∨ stepBy s d.home ≠ h ∨ (h ≠ d.home ∧ s.boot.span = false) then s
    else if holds s h = false ∨ primLost s h = true then admitFail id stRETRY d.home s
    else if holdsLong s h = false ∨ xstepOk s = false then s
    else if !nameRoom s h then jrnlWait h s
    else if d.dop = doDELETE then deleteStep h id s
    else createStep h id s

/-- The step of a request stands though its answer was lost: a creation or a DELETE without its request (R279). -/
def stepStands (h : Half) (d : DOp) (s : State) : State :=
  match nameLook h d.name s with
  | (s1, some (i, e)) => if d.dop = doDELETE ∧ e.objId = d.obj then deleteName h i d.obj s1 else s1
  | (s1, none) =>
    if d.dop = doDELETE ∨ nameFull s1 d.name = true then s1
    else nameJrnl h (nameCreate d.name d.grp d.ctx d.home (nowH s1 h) s1)

/-- No answer to a namespace step has come within NS_TMO; `stood`: the other half carried it out (R279). With the span
down no step can be carried out on both halves (R547). -/
def nsTimeout (h : Half) (id : Nat) (stood : Bool) (s : State) : State :=
  match opGet s id with
  | none => s
  | some d =>
    if d.st ≠ .step ∨ d.home ≠ h ∨ (holds s h && xstepOk s) = true then s
    else
      let k := h.twin
      let ok := stood && !holds s h && holdsLong s k && xstepOk s && nameRoom s k
      admitFail id stRETRY h (if ok then stepStands k d s else s)

end Sys2Proof.Machine
end

