-- ==== Sys2Proof/Machine/Ctx.lean ====
section
/-!
DEFINITION. Contexts, matching, overflow lists, the aperture and the work rings (chapter 09 R306-R333).
-/
namespace Sys2Proof.Machine

/-! Contexts (R306, R310, R313, R314). -/

def ctxIsOpen (s : State) (c : Nat) : Bool := ctxState s c == csOPEN

def krV (s : State) (f : Fld) (i : Nat) : Nat := rdI s pgContexts f i
def ctxRange (s : State) (c : Nat) : Nat := ctxV s R.CTX_VIEW_0_RANGE c

/-- A node lies in a range entry's source range (R310). -/
def krNode (s : State) (i n : Nat) : Bool :=
  decide (krV s R.KR_VIEW_3_SRC_LO i ≤ n ∧ n ≤ krV s R.KR_VIEW_3_SRC_HI i)

/-- The source test of a context (R314 order 2). -/
def srcOk (s : State) (c src : Nat) : Bool :=
  if ctxV s R.CTX_VIEW_0_SRC_ANY c = 1 then krNode s (ctxRange s c) src else src == ctxV s R.CTX_VIEW_0_SRC c

/-- Operations of a context that hold slots (R309). -/
def ctxInflight (s : State) (c : Nat) : Nat := (s.dikar.ops.filter (fun d => d.ctx == c && d.slot)).length

/-- A context's record is used on its half: one not cached is loaded, and the least recently used that is not pinned and
has no operation leaves (R313). -/
def ctxLoad (h : Half) (c : Nat) (s : State) : State :=
  let m := mh s h
  if m.cached.contains c then mhMod h (fun m => { m with cached := m.cached.filter (fun x => x != c) ++ [c] }) s
  else
    let s1 := bump (pgMatch h) R.MATCH_CNT_CACHE_MISS s
    let out := if m.cached.length < 65536 then none
      else m.cached.find? (fun x => ctxV s R.CTX_VIEW_0_PIN x == 0 && ctxInflight s x == 0)
    mhMod h (fun m => { m with cached := (match out with
      | some x => m.cached.filter (fun y => y != x)
      | none => m.cached) ++ [c] }) s1

/-- Pinned contexts of half `h`. -/
def pinned (s : State) (h : Half) : Nat :=
  ((listedIdx s pgContexts R.CTX_VIEW_0_PIN).filter (fun c => decide (ctxHome s c = h))).length

/-- A write of a context's PIN (R313). -/
def pinWrite (c : Nat) (v : Bool) (path : Path) (s : State) : State :=
  if v && ctxV s R.CTX_VIEW_0_PIN c == 0 && decide (16384 ≤ pinned s (ctxHome s c)) then
    cfgReject pgContexts R.CTX_VIEW_0_PIN.off 3 .live (some path) s
  else ctxPut R.CTX_VIEW_0_PIN c (bit v) s

/-! Match entries (R315-R319). -/

def entGet (s : State) (h : Half) (n : Nat) : MatchEnt := tget {} (mh s h).ents n
def entPut (h : Half) (n : Nat) (e : MatchEnt) (s : State) : State := mhMod h (fun m => { m with ents := tput {} m.ents n e }) s
def ctxBlocks (s : State) (h : Half) (c : Nat) : List Nat := tget [] (mh s h).blocks c

/-- A request's match bits meet an entry (R315). -/
def entMatches (e : MatchEnt) (b : Nat) : Bool :=
  e.valid && (bits (b ^^^ e.mtch) 63 0 &&& (2 ^ 64 - 1 - e.ignore % 2 ^ 64)) == 0

/-- The first entry of a block that matches (R316). -/
def blkSearch (s : State) (h : Half) (blk b : Nat) : Option Nat :=
  ((List.range 64).map (fun i => blk * 64 + i)).find? (fun n => entMatches (entGet s h n) b)

/-- A search of a context's list: the steps it costs and the entry it finds (R316). -/
def search (s : State) (h : Half) (b : Nat) : List Nat → Nat × Option Nat
  | [] => (0, none)
  | blk :: r =>
    match blkSearch s h blk b with
    | some n => (1, some n)
    | none => let x := search s h b r; (x.1 + 1, x.2)

/-- An entry is removed; a block without a valid slot is unlinked and freed (R318, R319). -/
def entRemove (h : Half) (c n : Nat) (s : State) : State :=
  let s1 := entPut h n {} s
  let b := n / 64
  if (List.range 64).any (fun i => (entGet s1 h (b * 64 + i)).valid) then s1
  else
    mhMod h (fun m => { m with
      blocks := tput [] m.blocks c ((tget [] m.blocks c).filter (fun x => x != b)),
      usedSlots := tput 0 m.usedSlots b 0,
      ents := m.ents.filter (fun p => decide (p.1 / 64 ≠ b)) }) s1

/-- A request takes an entry: HITS grows, or the entry goes (R315, R318). -/
def entTake (h : Half) (c n : Nat) (s : State) : State :=
  let e := entGet s h n
  if e.useOnce then entRemove h c n s else entPut h n { e with hits := (e.hits + 1) % 2 ^ 32 } s

/-- Valid entries of a context (R309). -/
def ctxEntries (s : State) (h : Half) (c : Nat) : Nat :=
  ((mh s h).ents.filter (fun p => p.2.valid && (ctxBlocks s h c).contains (p.1 / 64))).length

/-! Requests sent as packets (R272, R314, R320). -/

/-- A request as it stands before its match. -/
def ovfOp (x : OvfRec) (e : Option MatchEnt) : DOp := {
  id := 0, h := .west, ctx := x.ctx, src := x.src, mtch := x.mtch, key := x.key, body := x.body,
  badLen := x.badLen, ent := e, home := .west }

/-- A search for a request: the steps are counted and the entry that it finds is taken (R314 order 4). -/
def matchReq (h : Half) (x : OvfRec) (s : State) : State × Option MatchEnt :=
  let r := search s h x.mtch (ctxBlocks s h x.ctx)
  let s1 := bumpBy (pgMatch h) R.MATCH_CNT_STEPS r.1 s
  match r.2 with
  | some n => (entTake h x.ctx n s1, some (entGet s h n))
  | none => (s1, none)

/-- A request that no entry takes: it takes a slot and completes DENIED (R314, R320). -/
def denyReq (h : Half) (x : OvfRec) (ev : Nat) (s : State) : State :=
  let P := pgMatch h
  opArrive h (ovfOp x none) (raise P ev (bump P R.MATCH_CNT_NO_MATCH s))

def ctxOvf (s : State) (h : Half) (c : Nat) : List OvfRec := (mh s h).ovf.filter (fun x => x.ctx == c)

/-- A request joins its context's overflow list, or finds it or the half's records full (R320). -/
def ovfJoin (h : Half) (x : OvfRec) (s : State) : State :=
  if ctxV s R.CTX_VIEW_0_OVF_MAX x.ctx ≤ (ctxOvf s h x.ctx).length ∨ 65536 ≤ (mh s h).ovf.length then denyReq h x 2 s
  else bump (pgMatch h) R.MATCH_CNT_OVF (mhMod h (fun m => { m with ovf := m.ovf ++ [x] }) s)

/-- The pass over an overflow list: each request that matches leaves it, up to the first that does not (R320). -/
def ovfPass (h : Half) : List OvfRec → State → State
  | [], s => s
  | x :: r, s =>
    match matchReq h x s with
    | (s1, some e) => ovfPass h r (opArrive h (ovfOp x (some e)) (mhMod h (fun m => { m with ovf := m.ovf.erase x }) s1))
    | (s1, none) => s1

/-- The oldest overflow request of a context has waited OVF_TMO (R320). -/
def ovfTimeout (h : Half) (c : Nat) (s : State) : State :=
  match ctxOvf s h c with
  | [] => s
  | x :: r => ovfPass h r (denyReq h x 3 (mhMod h (fun m => { m with ovf := m.ovf.erase x }) s))

/-- How long the duplicate filter keeps an entry, ns (R63). -/
def salvTime (s : State) (h : Half) : Nat := max 80000 (4000 * rd s (pgEgress h) R.EGR_CTRL_FLOW_SETTLE)

/-- The filter without entries whose time is over. -/
def salvLive (s : State) (h : Half) : List (Nat × Nat × Nat × Nat × Nat) :=
  (mh s h).salv.filter (fun e => decide (nowH s h ≤ e.2.2.2.2 + salvTime s h))

/-- A MSG is recorded in the filter; a full filter gives up its oldest entry (R63). -/
def salvAdd (h : Half) (e : Nat × Nat × Nat × Nat × Nat) (s : State) : State :=
  let l := salvLive s h
  if l.length < 131072 then mhMod h (fun m => { m with salv := l ++ [e] }) s
  else bump (pgMatch h) R.MATCH_CNT_SALV_EVICT (mhMod h (fun m => { m with salv := l.drop 1 ++ [e] }) s)

/-- The eight words of a body (R273). -/
def bodyWords (bs : List Byte) : List Nat := (pieces 8 8 bs).map leNat

/-- A reply with STATUS CTX_CLOSED (R312, R314 order 1). -/
def closedReply (h : Half) (src mtch ctx key : Nat) (body : List Nat) (s : State) : State :=
  let w := body.getD 0 0
  let out := complBody (bits w 63 56) stCTX_CLOSED (bits w 31 0) 0 ctx 255 { time := nowH s h }
  bump (pgMatch h) R.MATCH_CNT_CTX_CLOSED (reply h src mtch ctx key out s)

/-- Orders 2 to 5 of R314 on the context's home half. -/
def msgMatch (h : Half) (p : Packet) (s : State) : State :=
  let c := p.ctx
  let P := pgMatch h
  let s1 := ctxLoad h c s
  let body := bodyWords p.payload
  let x : OvfRec := {
    ctx := c, src := p.src, mtch := p.w1, key := p.key, body := body, badLen := p.len != 64, time := nowH s h }
  if !srcOk s c p.src || p.key != ctxV s R.CTX_VIEW_1_KEY c then raise P 0 (bump P R.MATCH_CNT_CTX_REJECT s1)
  else
    let id := bits (body.getD 0 0) 31 0
    if p.salv && (salvLive s1 h).any (fun e => e.1 == p.src && e.2.1 == c && e.2.2.1 == p.w1 && e.2.2.2.1 == id) then
      bump P R.MATCH_CNT_SALV_DUP s1
    else
      let s2 := salvAdd h (p.src, c, p.w1, id, nowH s h) s1
      if !(ctxOvf s2 h c).isEmpty then ovfJoin h x s2
      else
        match matchReq h x s2 with
        | (s3, some e) => opArrive h (ovfOp x (some e)) s3
        | (s3, none) => if ctxV s R.CTX_VIEW_0_OVF_MAX c = 0 then denyReq h x 1 s3 else ovfJoin h x s3

/-- A MSG that half `h` has received (R272, R314). -/
def msgArrive (h : Half) (p : Packet) (s : State) : State :=
  let D := pgDikar h
  if p.op ≠ 1 then raise D 0 (bump D R.DIKAR_CNT_BAD_MSG s)
  else if ctxIsOpen s p.ctx then
    let k := ctxHome s p.ctx
    msgMatch k p (bump (pgMatch k) R.MATCH_CNT_MSG s)
  else
    closedReply h p.src p.w1 p.ctx p.key (bodyWords p.payload) (bump (pgMatch h) R.MATCH_CNT_MSG s)

/-- The Matching Engine of a half takes MSG packets: no matched request waits for a slot (R281). -/
def takesMsg (s : State) (h : Half) : Bool := (slotWaiters s h).isEmpty && slotFree s h

/-- The half that matches a MSG: its context's home, or the half named where the context is not open (R314). -/
def msgHalf (s : State) (h : Half) (p : Packet) : Half :=
  if p.op = 1 ∧ ctxIsOpen s p.ctx = true then ctxHome s p.ctx else h

/-! CTX_CMD (R311, R312, R319, R335). -/

/-- The result of a context command, pushed to the queue of half `h` (R335). -/
def ctxResult (h : Half) (op c code entry : Nat) (s : State) : State :=
  pushResult (resOf h) 5 false [code * 2 ^ 48 + entry * 2 ^ 24 + op * 2 ^ 20 + c] s

/-- The first condition of an OPEN that fails, as its CODE (R311). -/
def openCode (s : State) (c : Nat) : Nat :=
  let v := fun f => ctxV s f c
  let i := ctxRange s c
  let k := fun f => krV s f i
  if ctxState s c ≠ csCLOSED ∨ c = 0 then 1
  else if k R.KR_VIEW_0_VALID = 0 ∨ c < k R.KR_VIEW_0_CTX_LO ∨ k R.KR_VIEW_0_CTX_HI < c ∨
      v R.CTX_VIEW_1_KEY < k R.KR_VIEW_1_KEY_LO ∨ k R.KR_VIEW_2_KEY_HI < v R.CTX_VIEW_1_KEY then 2
  else if (if v R.CTX_VIEW_0_SRC_ANY = 0 then !krNode s i (v R.CTX_VIEW_0_SRC) else k R.KR_VIEW_0_ANY_OK == 0) = true ∨
      krNode s i (v R.CTX_VIEW_5_CQ_NODE) = false then 2
  else if v R.CTX_VIEW_2_CQ_LOG2 < 4 ∨ 16 < v R.CTX_VIEW_2_CQ_LOG2 then 3
  else 0

/-- CTX_CMD with OP OPEN on context `c` (R311). -/
def ctxOpen (c : Nat) (s : State) : State :=
  let h := ctxHome s c
  let code := openCode s c
  if code ≠ 0 then ctxResult h 1 c code 0 s
  else
    let s1 := [R.CTX_VIEW_7_FAILED, R.CTX_VIEW_0_POISON, R.CTX_VIEW_5_CQ_PI, R.CTX_VIEW_5_CQ_CI].foldl
      (fun t f => ctxPut f c 0 t) s
    let s2 := mhMod h (fun m => { m with
      blocks := tput [] m.blocks c [], ovf := m.ovf.filter (fun x => x.ctx != c), cqs := tput {} m.cqs c {},
      forced := m.forced.filter (fun x => x != c) }) s1
    ctxResult h 1 c 0 0 (jrnl h (ctxPut R.CTX_VIEW_0_STATE c csOPEN s2))

/-- Enabled rings of a context. -/
def ctxRings (s : State) (c : Nat) : List Nat :=
  (listedIdx s pgRings R.RING_CTRL_EN).filter (fun r => rdBI s pgRings R.RING_CTRL_EN r && ringCtx s r == c)

/-- A forced close discards the records not yet written and the index writes that would cover them (R312). -/
def forceClose (h : Half) (c : Nat) (s : State) : State :=
  let q := cqGet s h c
  let rs := q.rings ++ q.recs.filterMap (·.ring)
  let s1 := bumpBy (pgMatch h) R.MATCH_CNT_CQ_DISCARD q.recs.length s
  let s2 := mhMod h (fun m => { m with forced := m.forced ++ [c], cqs := tput {} m.cqs c {} }) s1
  let s3 := rs.foldl (fun t r => ringMod r (fun y => { y with open_ := y.open_ - 1 }) t) s2
  (q.recs.filterMap (·.op)).foldl (fun t i => opDrop i t) s3

/-- CTX_CMD with OP CLOSE on context `c` (R312). -/
def ctxClose (c : Nat) (force : Bool) (s : State) : State :=
  let h := ctxHome s c
  if !(ctxRings s c).isEmpty then ctxResult h 2 c 4 0 s
  else if !ctxIsOpen s c then ctxResult h 2 c 1 0 s
  else
    let xs := ctxOvf s h c
    let s1 := jrnl h (ctxPut R.CTX_VIEW_0_STATE c csCLOSING s)
    let s2 := if force then forceClose h c s1 else s1
    let s3 := mhMod h (fun m => { m with ovf := m.ovf.filter (fun x => x.ctx != c) }) s2
    let s4 := xs.foldl (fun t x => closedReply h x.src x.mtch c x.key x.body t) s3
    ((s4.dikar.ops.filter (fun d => d.ctx == c && (d.st == .slot || d.st == .admitting))).map (·.id)).foldl
      (fun t i => opFail i stCTX_CLOSED t) s4

/-- A CLOSING context has nothing left to do: no operation, and no record or index write to come; under a forced close
members that wait for their collective hold no slot and do not keep it (R312). -/
def closeReady (s : State) (h : Half) (c : Nat) : Bool :=
  if (mh s h).forced.contains c then ctxInflight s c == 0
  else
    let q := cqGet s h c
    !s.dikar.ops.any (fun d => d.ctx == c) && q.recs.isEmpty && q.uncovered == 0

/-- A CLOSING context becomes CLOSED (R312). -/
def ctxCloseFinish (c : Nat) (s : State) : State :=
  let h := ctxHome s c
  if ctxState s c ≠ csCLOSING ∨ closeReady s h c = false then s
  else
    let bs := ctxBlocks s h c
    let s1 := mhMod h (fun m => { m with
      ents := m.ents.filter (fun p => !bs.contains (p.1 / 64)), blocks := tput [] m.blocks c [],
      usedSlots := bs.foldl (fun t b => tput 0 t b 0) m.usedSlots, cqs := tput {} m.cqs c {},
      forced := m.forced.filter (fun x => x != c) }) s
    let s2 := dkMod (fun d => { d with ops := d.ops.map (fun x => if x.ctx = c then { x with mute := true } else x) }) s1
    let s3 := ctxPut R.CTX_VIEW_7_FAILED c 0 (ctxPut R.CTX_VIEW_0_POISON c 0 (ctxPut R.CTX_VIEW_0_STATE c csCLOSED s2))
    ctxResult h 2 c 0 0 (jrnl h s3)

/-- A staged word of a match entry (R334). -/
def stageWord (s : State) (i : Nat) : Nat := rd s pgContexts (R.ME_STAGE.at i)

/-- The staged entry, for context `c`. -/
def staged (s : State) (c : Nat) : MatchEnt :=
  let w := stageWord s 4
  { mtch := stageWord s 0, ignore := stageWord s 1, nameLo := stageWord s 2, nameHi := stageWord s 3,
    valid := w.testBit 63, useOnce := w.testBit 62, anyGroup := w.testBit 61, dops := bits w 60 54,
    defGroup := bits w 53 46, ctx := c }

/-- The slot of the next entry of a context's list: after the last used slot of its tail, or slot 0 of a new block
(R319). -/
def entSlot (s : State) (h : Half) (c : Nat) : Option (Nat × Bool) :=
  let m := mh s h
  match (ctxBlocks s h c).getLast? with
  | some b =>
    let u := tget 0 m.usedSlots b
    if u < 64 then some (b * 64 + u, false)
    else (firstFree (m.usedSlots.map (·.1)) 131072 0).map (fun x => (x * 64, true))
  | none => (firstFree (m.usedSlots.map (·.1)) 131072 0).map (fun x => (x * 64, true))

/-- The entry of a result: HALF and its number. -/
def entNo (h : Half) (n : Nat) : Nat := h.num * 2 ^ 23 + n

/-- CTX_CMD with OP APPEND_ENTRY (R319, R320). -/
def meAppend (c : Nat) (s : State) : State :=
  let h := ctxHome s c
  let e := staged s c
  if !ctxIsOpen s c then ctxResult h 3 c 1 0 s
  else if e.dops = 0 ∨ e.nameHi < e.nameLo ∨ bits (stageWord s 4) 25 0 ≠ 0 then ctxResult h 3 c 3 0 s
  else
    match entSlot s h c with
    | none => ctxResult h 3 c 5 0 s
    | some (n, new) =>
      let b := n / 64
      let s1 := mhMod h (fun m => { m with
        ents := tput {} m.ents n e, usedSlots := tput 0 m.usedSlots b (n % 64 + 1),
        blocks := if new then tput [] m.blocks c (tget [] m.blocks c ++ [b]) else m.blocks }) s
      let s2 := ctxResult h 3 c 0 (entNo h n) (jrnl h s1)
      ovfPass h (ctxOvf s2 h c) s2

/-- ME_SEL names a VALID entry of the context. -/
def selOk (s : State) (c : Nat) : Bool :=
  let e := entGet s (ctxHome s c) (rd s pgContexts R.ME_SEL_VALUE)
  rd s pgContexts R.ME_SEL_HALF == (ctxHome s c).num && e.valid && e.ctx == c

/-- CTX_CMD with OP REMOVE_ENTRY (R319). -/
def meRemove (c : Nat) (s : State) : State :=
  let h := ctxHome s c
  let n := rd s pgContexts R.ME_SEL_VALUE
  let k := entNo (Half.ofBit (rd s pgContexts R.ME_SEL_HALF)) n
  if !ctxIsOpen s c then ctxResult h 4 c 1 k s
  else if !selOk s c then ctxResult h 4 c 6 k s
  else if (ctxRings s c).any (fun r => rdI s pgRings R.RING_CTRL_ENTRY r == n) then ctxResult h 4 c 7 k s
  else ctxResult h 4 c 0 k (jrnl h (entRemove h c n s))

/-- The eight words of an entry (R315). -/
def entWords (e : MatchEnt) : List Nat :=
  [e.mtch, e.ignore, e.nameLo, e.nameHi,
    bit e.valid * 2 ^ 63 + bit e.useOnce * 2 ^ 62 + bit e.anyGroup * 2 ^ 61 + e.dops * 2 ^ 54 + e.defGroup * 2 ^ 46 +
      e.ctx * 2 ^ 26, e.hits * 2 ^ 32, 0, 0]

/-- CTX_CMD with OP READ_ENTRY (R319). -/
def meRead (c : Nat) (s : State) : State :=
  let h := ctxHome s c
  let n := rd s pgContexts R.ME_SEL_VALUE
  let k := entNo (Half.ofBit (rd s pgContexts R.ME_SEL_HALF)) n
  if !ctxIsOpen s c then ctxResult h 5 c 1 k s
  else if !selOk s c then ctxResult h 5 c 6 k s
  else
    ctxResult h 5 c 0 k ((entWords (entGet s h n)).zipIdx.foldl (fun t x => wr pgContexts (R.ME_VIEW.at x.2) x.1 t) s)

/-! Rings (R324, R327-R332, R370). -/

def ringV (s : State) (f : Fld) (r : Nat) : Nat := rdI s pgRings f r
def ringPut (f : Fld) (r v : Nat) (s : State) : State := wrI pgRings f r v s
def ringHome (s : State) (r : Nat) : Half := ctxHome s (ringCtx s r)
def ringEn (s : State) (r : Nat) : Bool := ringV s R.RING_CTRL_EN r == 1

/-- Bytes of a ring's descriptor block. -/
def ringBytes (s : State) (r : Nat) : Nat := 2 ^ ringV s R.RING_CTRL_SIZE_LOG2 r * 64

/-- The Easel address of a ring's record (R370). -/
def ringRec (s : State) (r : Nat) : Nat := ezAddr (ringHome s r) (regionBase s 7 + 64 * r)

/-- A ring event raises the ring's aggregate (R336). -/
def ringAgg (r : Nat) (s : State) : State :=
  if ringV s R.RING_CTRL_AGG_EN r = 1 then strike (208 + ringV s R.RING_CTRL_AGG r) (ringHome s r) s else s

/-- Polls per second that a ring needs (R328). -/
def classPolls (c : Nat) : Nat := [15625000, 3906250, 1000000, 250000, 62500, 15625, 2000, 250].getD c 0

/-- Polls per second that a half's enabled rings need (R328, R336). -/
def pollLoad (s : State) (h : Half) : Nat :=
  (((listedIdx s pgRings R.RING_CTRL_EN).filter (fun r => ringEn s r && decide (ringHome s r = h))).map (fun r =>
    classPolls (ringV s R.RING_CTRL_CLASS r))).sum

/-- The blocks in use of a half, as offsets in RING and lengths. -/
def ringBlocks (s : State) (h : Half) : List (Nat × Nat) :=
  s.dikar.rings.filterMap (fun p =>
    match p.2.blk with
    | some a => if decide (ringHome s p.1 = h) then some (a - ezAddr h (regionBase s 7), ringBytes s p.1) else none
    | none => none)

/-- The lowest free block of `n` bytes from offset `k * n` on (R370). -/
def findBlock (used : List (Nat × Nat)) (size n : Nat) : Nat → Nat → Option Nat
  | 0, _ => none
  | f + 1, k =>
    if size < (k + 1) * n then none
    else if used.any (fun u => decide (k * n < u.1 + u.2 ∧ u.1 < (k + 1) * n)) || decide (k * n < 2 ^ 22) then
      findBlock used size n f (k + 1)
    else some (k * n)

def ringBlock (s : State) (h : Half) (r : Nat) : Option Nat :=
  let n := ringBytes s r
  let size := rd s pgEaselG R.EZG_CARVE_RING_GIB * 2 ^ 30
  (findBlock (ringBlocks s h) size n ((ringBlocks s h).length * 65536 + 2 ^ 22 / n + 2) 0).map (fun o =>
    ezAddr h (regionBase s 7 + o))

/-- A ring may be enabled: SVC, and the conditions of R332. -/
def ringOk (s : State) (r : Nat) : Bool :=
  let c := ringCtx s r
  let h := ctxHome s c
  let e := entGet s h (ringV s R.RING_CTRL_ENTRY r)
  let z := ringV s R.RING_CTRL_SIZE_LOG2 r
  rdB s pgEaselG R.EZG_CTRL_SVC && ctxIsOpen s c && e.valid && e.ctx == c &&
    krNode s (ctxRange s c) (ringV s R.RING_NODE r) && decide (4 ≤ z ∧ z ≤ 16) &&
    decide (pollLoad s h + classPolls (ringV s R.RING_CTRL_CLASS r) ≤ 1000000000)

/-- A write of 1 to a ring's EN (R328, R332, R370, R396). -/
def ringEnable (r : Nat) (path : Path) (s : State) : State :=
  if ringEn s r then s
  else
    let h := ringHome s r
    let blk := if (ringGet s r).blk.isSome then (ringGet s r).blk else ringBlock s h r
    match ringOk s r, blk with
    | true, some a =>
      let s1 := [R.RING_STAT_PI, R.RING_STAT_CI, R.RING_STAT_LAPPED, R.RING_STAT_IDLE].foldl (fun t f => ringPut f r 0 t) s
      ezStore (ringRec s r) (zeros 8) (ringMod r (fun y => { y with blk := some a }) (ringPut R.RING_CTRL_EN r 1 s1))
    | _, _ => cfgReject pgRings R.RING_CTRL_EN.off 3 .live (some path) s

/-- A ring stops fetching: its last fetched descriptor counts as carrying BATCH_END (R331, R332). -/
def ringStop (r : Nat) (s : State) : State :=
  let s1 := ringMod r (fun y => { y with descs := match y.descs.reverse with
    | [] => []
    | d :: ds => ds.reverse ++ [{ d with last := true }] }) (ringPut R.RING_CTRL_EN r 0 s)
  batchGo r ((ringGet s1 r).descs.length + 1) s1

/-- A write of 0 to a ring's EN (R332). -/
def ringDisable (r : Nat) (s : State) : State := if ringEn s r then ringStop r s else s

/-- A ring whose records are all written and covered becomes IDLE (R332, R370). -/
def ringIdle (r : Nat) (s : State) : State :=
  let y := ringGet s r
  if ringEn s r ∨ ringV s R.RING_STAT_IDLE r = 1 ∨ !y.descs.isEmpty ∨ y.open_ ≠ 0 ∨
      s.dikar.ops.any (fun d => d.ring.any (fun x => x.1 == r)) = true then s
  else
    ringAgg r (raise pgRings 0 (ringMod r (fun y => { y with blk := none }) (ringPut R.RING_STAT_IDLE r 1 s)))

/-- A ring's entry for the next descriptor (R318, R329). -/
def ringEnt (r : Nat) (s : State) : State × Option MatchEnt :=
  let h := ringHome s r
  let c := ringCtx s r
  let n := ringV s R.RING_CTRL_ENTRY r
  let e := entGet s h n
  if e.valid && e.ctx == c then (entTake h c n s, some e)
  else (raise (pgMatch h) 1 (bump (pgMatch h) R.MATCH_CNT_NO_MATCH s), none)

/-- One descriptor is fetched; one that cannot be read has an empty body (R329, R388). -/
def ringFetch (r : Nat) (s : State) : State :=
  let h := ringHome s r
  let y := ringGet s r
  let k := ringV s R.RING_CTRL_SIZE_LOG2 r
  let ci := ringV s R.RING_STAT_CI r
  let a := y.blk.getD 0 + 64 * (ci % 2 ^ k)
  let bad := (s.place.at h).badCw.contains a
  let body := if bad then [0, 0, 0, 0, 0, 0, 0, 0] else bodyWords (ezRead s a 64)
  let s1 := ringPut R.RING_STAT_CI r ((ci + 1) % 2 ^ (k + 1)) s
  let s2 := ringMod r (fun y => { y with
    next := y.next + 1, descs := y.descs ++ [{ seq := y.next, last := (body.getD 0 0).testBit 44 }] }) s1
  let s3 := bump (pgMatch h) R.MATCH_CNT_DESC s2
  let (s4, e) := ringEnt r s3
  opArrive h {
    id := 0, h := h, home := h, ctx := ringCtx s r, src := ringV s R.RING_NODE r, mtch := 0, key := 0, body := body,
    badLen := bad, ring := some (r, y.next), ent := e } s4

def ringFetches (r : Nat) : Nat → State → State
  | 0, s => s
  | n + 1, s => ringFetches r n (ringFetch r s)

/-- The half's free operation slots (R281). -/
def freeSlots (s : State) (h : Half) : Nat := if (slotWaiters s h).isEmpty then 16384 - slotsUsed s h else 0

/-- CI is written back to the ring's node (R329). -/
def ciWrite (r : Nat) (s : State) : State :=
  sendPkt (ringHome s r) (mkPW true (ringV s R.RING_NODE r) (ringV s R.RING_CI_ADDR r * 8) (ringCtx s r)
    (ringV s R.RING_CI_KEY r) (leBytes 8 (ringV s R.RING_STAT_CI r))) s

/-- One poll of a ring (R329, R330, R564). -/
def ringPoll (r : Nat) (s : State) : State :=
  let h := ringHome s r
  if !ringEn s r || !takesWork s || !halfUp s h then s
  else
    let k := ringV s R.RING_CTRL_SIZE_LOG2 r
    let m := 2 ^ (k + 1)
    let pi := leNat (ezRead s (ringRec s r) 8) % m
    let d := (pi + m - ringV s R.RING_STAT_CI r % m) % m
    let s1 := bump (pgMatch h) R.MATCH_CNT_POLL (ringPut R.RING_STAT_PI r pi s)
    if d = 0 then s1
    else if 2 ^ k < d then ringAgg r (raise pgRings 1 (ringStop r (ringPut R.RING_STAT_LAPPED r 1 s1)))
    else
      let n := min (min d 64) (freeSlots s1 h)
      if n = 0 then s1 else ciWrite r (ringFetches r n (ctxLoad h (ringCtx s r) s1))

/-! The aperture (R323, R325, R326). -/

/-- ADDR lies in the device aperture (R75, R325). -/
def inAperture (a : Nat) : Bool := bits a 63 48 == 0xFFFF

def apRing (p : Packet) : Nat := bits p.addr 38 23
def apCtx (s : State) (p : Packet) : Nat := if p.addr.testBit 39 then bits p.addr 38 19 else ringCtx s (apRing p)

/-- The offset of an aperture write is one that may be written (R325, R326). -/
def apOffsetOk (s : State) (p : Packet) : Bool :=
  let o := bits p.addr 22 0
  if p.addr.testBit 39 then bits p.addr 18 0 == 0 && p.len == 8
  else (o == 0 && p.len == 8) || decide (0x1000 ≤ o ∧ o + p.len ≤ 0x1000 + ringBytes s (apRing p))

/-- The cause of an aperture write's rejection on half `h` (R326). -/
def apCause (s : State) (h : Half) (p : Packet) : Option Nat :=
  let c := apCtx s p
  if bits p.addr 47 40 ≠ 0 ∨ apOffsetOk s p = false then some 1
  else if (if p.addr.testBit 39 then !ctxIsOpen s c else !ringEn s (apRing p)) = true then some 2
  else if ctxHome s c ≠ h then some 3
  else if p.ctx ≠ c ∨ p.key ≠ ctxV s R.CTX_VIEW_1_KEY c ∨ srcOk s c p.src = false then some 4
  else none

/-- A rejected aperture write (R326). -/
def apReject (h : Half) (p : Packet) (cause : Nat) (s : State) : State :=
  let P := pgMatch h
  let s1 := wr P R.MT_AP_LAST_CAUSE cause (wr P R.MT_AP_LAST_CTX p.ctx (wr P R.MT_AP_LAST_SRC_ID p.src s))
  ctxFail p.ctx (raise P 6 (bump P R.MATCH_CNT_AP_REJECT s1))

/-- A consumer index from a client (R323). -/
def cqCi (c v : Nat) (s : State) : State :=
  let h := ctxHome s c
  let m := 2 ^ (ctxV s R.CTX_VIEW_2_CQ_LOG2 c + 1)
  let ci := ctxV s R.CTX_VIEW_5_CQ_CI c
  let pi := ctxV s R.CTX_VIEW_5_CQ_PI c
  if (v % m + m - ci % m) % m ≤ (pi + m - ci % m) % m then ctxPut R.CTX_VIEW_5_CQ_CI c (v % m) s
  else raise (pgMatch h) 5 (bump (pgMatch h) R.MATCH_CNT_CQ_BAD_CI s)

/-- Descriptor slots written whole can be read again (R388). -/
def slotsClean (h : Half) (a n : Nat) (s : State) : State :=
  plMod h (fun x => { x with badCw := x.badCw.filter (fun b => !decide (a ≤ b ∧ b + 64 ≤ a + n)) }) s

/-- A PW to the aperture, on the half that DST_ID names (R325, R326). -/
def apWrite (h : Half) (p : Packet) (s : State) : State :=
  match apCause s h p with
  | some k => apReject h p k s
  | none =>
    let s1 := ctxLoad h (apCtx s p) s
    let o := bits p.addr 22 0
    if p.addr.testBit 39 then cqCi (apCtx s p) (leNat p.payload) s1
    else if o = 0 then ezStore (ringRec s (apRing p)) p.payload s1
    else
      let a := (ringGet s (apRing p)).blk.getD 0 + (o - 0x1000)
      slotsClean h a p.len (ezStore a p.payload s1)

end Sys2Proof.Machine
end

