-- ==== Sys2Proof/Machine/Patrol.lean ====
section
/-!
DEFINITION. Easel's error correction as the patrol finds it: corrected and uncorrectable codewords, retired lines, and
what is lost with a codeword (chapter 11 R386-R391).
-/
namespace Sys2Proof.Machine

/-- The half of a stack, 0 to 7 (R361). -/
def stackHalf (st : Nat) : Half := if st < 4 then .west else .east

/-- The Easel address of line `n` of a stack (R361). -/
def lineAddr (st n : Nat) : Nat := ezAddr (stackHalf st) (n * 1024 + (st % 4 ^^^ n % 4) * 256)

/-- A metadata loss: logged, counted and raised (R388, R391). -/
def metaLost (h : Half) (a owner : Nat) (s : State) : State :=
  raise (pgEasel h) 3 (bump (pgEasel h) R.EASEL_CNT_META_LOST (elogPut h 4 a owner s))

/-! SYS (R367). -/

/-- A table entry of SYS that reads as zero, by the offset of its codeword. Tables whose layout the spec does not give
are left out. -/
def sysZero (h : Half) (o : Nat) (s : State) : State :=
  let i := fun (base size : Nat) => (o - base) / size
  let two := fun (base : Nat) (f : Nat → State → State) => f (i base 32 + 1) (f (i base 32) s)
  if 0x00100000 ≤ o ∧ o < 0x00200000 then ezWrite (ezAddr h o) (zeros 64) s
  else if 0x00200000 ≤ o ∧ o < 0x00210000 then
    viewClear (pgPalette h) R.PAL_WIN_VIEW_0_BASE.off R.PAL_WIN_VIEW_5_CTX_HI.off (i 0x00200000 64) s
  else if 0x00220000 ≤ o ∧ o < 0x00228000 then
    let k := i 0x00220000 64
    { s with stnMode := tput false s.stnMode (stnGet s (32 * h.num + k / 16) (k % 16)).serial false }
  else if 0x00230000 ≤ o ∧ o < 0x00234000 then
    viewClear pgPlaceG R.PLG_GRP_VIEW_0_EN.off R.PLG_GRP_VIEW_0_EN.off (i 0x00230000 64) s
  else if 0x00240000 ≤ o ∧ o < 0x00242000 then
    two 0x00240000 (fun k t => viewClear pgContexts R.KR_VIEW_0_VALID.off R.KR_VIEW_3_SRC_LO.off k t)
  else if 0x00250000 ≤ o ∧ o < 0x00290000 then
    two 0x00250000 (fun k t => lgtMod (8192 * h.num + k) (fun x => { x with bound := false }) t)
  else if 0x00290000 ≤ o ∧ o < 0x00291000 then
    [Half.west, .east].foldl (fun t g =>
      viewClear (pgMgmt g) R.ST_WAIT_PORT_WAIT.off R.ST_RESUME_PAL.off 0 t) { s with record := {} }
  else if 0x00300000 ≤ o ∧ o < 0x00320000 then
    two 0x00300000 (fun k t => plMod h (fun x => { x with elog := x.elog.filter (fun e => e.1 != k) }) t)
  else if 0x00400000 ≤ o ∧ o < 0x00600000 then
    two 0x00400000 (fun _ t => plMod h (fun x => { x with lost := x.lost.eraseIdx (i 0x00400000 32) }) t)
  else s

/-! TABLES (R368). -/

/-- What a collective has of a member is taken back: its range no longer counts and its stripes are not handed on. -/
def collUnplace (d : DOp) (s : State) : State :=
  match d.coll with
  | none => s
  | some (i, _) =>
    match recGet s d.home i with
    | none => s
    | some r =>
      let s1 := wrMod r.write (fun w => { w with
        ranges := w.ranges.filter (fun x => x != (d.off, d.len)), ops := w.ops.filter (fun o => o.1 != d.id) }) s
      let s2 := (s1.objs.stripes.filter (fun x => x.write == r.write)).foldl (fun t x => stripeGone x.id t) s1
      recMod d.home i (fun x => { x with early := [] }) s2

/-- A member record cannot be read: its rank has failed (R388). -/
def memberRecLost (h : Half) (i : Nat) (s : State) : State :=
  match (((s.coll.at h).recs.filter (fun p => !p.2.over)).map (fun p => p.2.members)).flatten[i]? with
  | none => s
  | some id =>
    match opGet s id with
    | none => s
    | some d =>
      let s1 := if d.received then collUnplace d s else s
      collDrained id (opMod id (fun x => { x with
        received := false, pullFail := some (x.pullFail.getD 0), st := if x.st = .pull then .drain else x.st }) s1)

/-- A codeword of TABLES that cannot be read (R388). -/
def tablesLost (h : Half) (o : Nat) (s : State) : State :=
  if o < 0x04000000 then
    let c := o / 64
    if ctxHome s c = h ∧ ctxState s c ≠ csCLOSED then ctxPut R.CTX_VIEW_0_STATE c csCLOSED s else s
  else if o < 0x24000000 then
    let n := (o - 0x04000000) / 64
    entPut h n { entGet s h n with valid := false } s
  else if o < 0x24800000 then
    match (mh s h).ovf[(o - 0x24000000) / 128]? with
    | some x => opArrive h (ovfOp x none) (mhMod h (fun m => { m with ovf := m.ovf.erase x }) s)
    | none => s
  else if o < 0x28800000 then memberRecLost h ((o - 0x24800000) / 64) s
  else if o < 0x28880000 then plPut (8192 * h.num + (o - 0x28800000) / 64) R.PL_LIGHT_VIEW_0_WR_OFF 1 s
  else if o < 0x28C80000 then plPut (8192 * h.num + (o - 0x28880000) / 512) R.PL_LIGHT_VIEW_0_WR_OFF 1 s
  else s

/-! TRACK, STREAM, RING, MAP (R253, R388). -/

/-- The light whose track table holds an offset of TRACK, with the offset in its table. -/
def trackOwner (s : State) (h : Half) (o : Nat) : Option (Nat × Nat) :=
  s.objs.lights.findSome? (fun x =>
    match x.2.tbl with
    | some a => if lHalf x.1 = h ∧ a ≤ o ∧ o < a + trackBytes s x.1 then some (x.1, o - a) else none
    | none => none)

def trackLost (h : Half) (o : Nat) (s : State) : State :=
  match trackOwner s h o with
  | some (l, x) =>
    plPut l R.PL_LIGHT_VIEW_0_WR_OFF 1 (pltMod l (fun y => { y with
      badTracks := y.badTracks ++ (List.range 8).map (fun i => x / 8 + i) }) s)
  | none => s

/-- A block of a stream's FIFO loses its rewind mark (R227, R388). -/
def streamLost (h : Half) (o : Nat) (s : State) : State :=
  (s.sched.at h).streams.foldl (fun t p =>
    let x := p.2
    if x.open_ ∧ o / 2 ^ x.fifoLog2 = x.fifo then
      strMod h p.1 (fun y => { y with blocks := y.blocks.map (fun b =>
        if b.ord % fifoBlocks y = o % 2 ^ y.fifoLog2 / tapeBytes then { b with mark := false } else b) }) t
    else t) s

/-- A codeword of RING: a ring's whole record, or a descriptor slot (R370, R388). -/
def ringLost (h : Half) (a o : Nat) (s : State) : State :=
  if o < 2 ^ 22 then
    let r := o / 64
    if ringHome s r ≠ h then s
    else
      ringDisable r (ezWrite (ringRec s r) (leBytes 8 (ringV s R.RING_STAT_CI r)) s)
  else plMod h (fun x => { x with badCw := x.badCw.filter (fun b => b != a) ++ [a] }) s

/-- A codeword of MAP: two entries (R253). -/
def mapLost (h : Half) (o : Nat) (s : State) : State :=
  ([o / 32, o / 32 + 1].filterMap (fun i => (s.place.at h).map[i]?)).foldl (fun t e => memberLost e.obj e.stripe e.member false t) s

/-! WRITE_BUF (R388, R389). -/

/-- A lost range is recorded; with the list full, the stripes that hold its bytes are held (R389). -/
def lostAdd (h : Half) (a obj off len : Nat) (s : State) : State :=
  let P := pgEasel h
  if (s.place.at h).lost.length < 65536 then
    raise P 2 (bump P R.EASEL_CNT_DATA_LOST (elogPut h 3 a obj (plMod h (fun x => { x with
      lost := x.lost ++ [⟨obj, off, len, objGen s obj⟩] }) s)))
  else
    raise P 6 (plMod h (fun x => { x with lostOwed := x.lostOwed ++ [⟨obj, off, len, objGen s obj⟩] }) s)

/-- The 4 KiB pieces of an operation's data that hold a byte of a page are pulled again (R292, R388). -/
def pullAgain (w : Write) (o : Nat) (d : DOp) (s : State) : State :=
  if d.write ≠ some w.id ∨ o + 64 ≤ d.off ∨ d.off + d.len ≤ o ∨ (d.st ≠ .pull ∧ d.st ≠ .member) ∨ d.pullFail.isSome = true then s
  else
    let b := o - d.off
    let at_ := (d.bufAddr + b) / 4096 * 4096 - d.bufAddr
    let n := pieceLen d.bufAddr at_ d.len
    if d.issued < at_ + n ∨ d.again.any (fun x => x.1 == at_) = true then s
    else
      opMod d.id (fun x => { x with again := x.again ++ [(at_, n)], landed := x.landed - n, received := false, st := .pull })
        (if d.received then collUnplace d s else s)

/-- A page of a write that cannot be read at byte `x` of it (R388). -/
def writeLost (h : Half) (a x : Nat) (w : Write) (g : WPg) (s : State) : State :=
  let o := g.panel * panelBytes + x
  if w.ord = 0 then s.dikar.ops.foldl (fun t d => pullAgain w o d t) s
  else if g.settled || !(List.range 64).any (fun i => covers w (o + i)) then s
  else lostAdd h a w.obj o 64 (ezWrite a (zeros 64) s)

/-- A codeword of WRITE_BUF: what it holds decides (R388). -/
def wbufLost (h : Half) (a o : Nat) (s : State) : State :=
  let p := o / panelBytes
  let x := o % panelBytes
  let owner := s.objs.writes.findSome? (fun w =>
    (w.pages.find? (fun g => decide (g.half = h) && g.page == p)).map (fun g => (w, g)))
  match owner with
  | some (w, g) => writeLost h a x w g s
  | none =>
    let hit := s.objs.stripes.findSome? (fun y =>
      ((y.units.zipIdx).find? (fun u => u.1 == some (pageAddr s h p))).map (fun u => (y, u.2)))
    match hit with
    | some (y, u) =>
      if y.repair || y.gone then s
      else lostAdd h a y.obj ((y.num * stpUnits y + u) * panelBytes + x) 64 (ezWrite a (zeros 64) s)
    | none => s

/-! One codeword, one line (R386, R387). -/

/-- OWNER of a log entry (R391). -/
def lossOwner (s : State) (h : Half) (r o : Nat) : Nat :=
  if r = 2 ∧ o < 0x04000000 then o / 64
  else if r = 4 then (((s.place.at h).map[o / 32]?).map (·.obj)).getD 0
  else if r = 5 then ((trackOwner s h o).map (·.1)).getD 0
  else if r = 9 then
    ((s.objs.writes.find? (fun w => w.pages.any (fun g => decide (g.half = h) && g.page == o / panelBytes))).map (·.obj)).getD 0
  else 0

/-- A codeword that cannot be read, in region `r` at offset `o` of it; `both`: its other copy neither (R388). -/
def codewordLost (h : Half) (a : Nat) (both : Bool) (s : State) : State :=
  let off := a % 2 ^ 40
  let r := regionOf s off
  let o := off - regionBase s r
  let own := lossOwner s h r o
  let s1 := elogPut h 1 a own s
  if r = 0 then (if both then metaLost h a 0 (sysZero h (o % 2 ^ 30) s1) else ezStore a (ezRead s a 64) s1)
  else if r = 1 then (if both then metaLost h a 0 s1 else ezStore a (ezRead s a 64) s1)
  else if r = 2 then (if o < 0x04000000 then metaLost h a own (tablesLost h o s1) else tablesLost h o s1)
  else if r = 3 then plMod h (fun x => { x with badNames := x.badNames.filter (fun i => i != o / 64) ++ [o / 64] }) s1
  else if r = 4 then mapLost h o s1
  else if r = 5 then trackLost h o s1
  else if r = 6 then streamLost h o s1
  else if r = 7 then ringLost h a o s1
  else if r = 8 then
    plMod h (fun x => { x with cache := x.cache.filter (fun c => c.place != o / panelBytes) }) s1
  else wbufLost h a o s1

/-- A saturating count of 32 bits of a stack (R399). -/
def stackBump (h : Half) (f : Fld) (i : Nat) (s : State) : State :=
  wrI (pgEasel h) f i (min (rdI s (pgEasel h) f i + 1) (2 ^ 32 - 1)) s

/-- One codeword of a patrol read with `e` symbol errors (R386). -/
def patrolCw (st a e : Nat) (both : Bool) (s : State) : State :=
  let h := stackHalf st
  let P := pgEasel h
  if e = 0 then s
  else if e ≤ 4 then
    raiseTo (176 + st) P 8 (stackBump h R.EZ_STK_VIEW_3_CORR (st % 4) (bump P R.EASEL_CNT_CORR
      (ezStore a (ezRead s a 64) s)))
  else
    codewordLost h a both (raiseTo (176 + st) P 12 (stackBump h R.EZ_STK_VIEW_3_UNCORR (st % 4)
      (bump P R.EASEL_CNT_UNCORR s)))

/-- A line is retired to a spare of its stack, where there is one (R387). -/
def lineRetire (st a : Nat) (s : State) : State :=
  let h := stackHalf st
  let P := pgEasel h
  let i := st % 4
  let left := rdI s P R.EZ_STK_VIEW_1_SPARES_LEFT i
  if left = 0 ∨ (s.place.at h).retired.contains a = true then s
  else
    let s1 := wrI P R.EZ_STK_VIEW_1_SPARES_LEFT i (left - 1)
      (wrI P R.EZ_STK_VIEW_2_RETIRED i (rdI s P R.EZ_STK_VIEW_2_RETIRED i + 1) s)
    let s2 := elogPut h 2 a 0 (raiseTo (176 + st) P 9 (bump P R.EASEL_CNT_RETIRE
      (addLines st 1 (plMod h (fun x => { x with retired := x.retired ++ [a] }) s1))))
    if left = 1 then
      elogPut h 5 a 0 (raiseTo (176 + st) P 10 (wrI P R.EZ_STK_VIEW_1_SPARES_OUT i 1 s2))
    else s2

/-- A patrol read of line `n` of a stack; `errs`: symbol errors of its four codewords (R386, R387, R390). -/
def patrolRead (st n : Nat) (errs : List Nat) (both : Bool) (s : State) : State :=
  if 8 ≤ st ∨ 2 ^ 30 ≤ n then s
  else
    let h := stackHalf st
    let a := lineAddr st n
    let es := errs.take 4
    let s1 := es.zipIdx.foldl (fun t x => patrolCw st (a + 64 * x.2) x.1 both t) s
    let corr := es.any (fun e => e != 0 && decide (e ≤ 4))
    let deep := es.any (fun e => e == 3 || e == 4)
    let again := corr && (s.place.at h).warned.contains a
    let s2 := plMod h (fun x => { x with
      warned := if corr then x.warned.filter (fun b => b != a) ++ [a] else x.warned.filter (fun b => b != a) }) s1
    if deep || again then lineRetire st a s2 else s2

end Sys2Proof.Machine
end

