-- ==== Sys2Proof/Machine/Receive.lean ====
section
/-!
DEFINITION. Received packets: taken whole from the receive buffers, checked, dispatched, and the read tags (chapter 02
R55, R74-R78).
-/
namespace Sys2Proof.Machine

/-- The first whole packet of a VC buffer of F[n], with its flits (R55). -/
def rxHead (s : State) (n vc : Nat) : Option (Packet × Nat) :=
  let l := tget [] (fiuGet s n).vcbuf vc
  if l.any (·.tail) then
    let fs := l.take ((l.takeWhile (fun f => !f.tail)).length + 1)
    some (Packet.ofBytes ((fs.map (·.data)).flatten), fs.length)
  else none

/-- A packet leaves its VC buffer; its slots are freed when it is dispatched (R55). -/
def rxTake (n vc k : Nat) (s : State) : State :=
  fiuMod n (fun p => { p with vcbuf := tput [] p.vcbuf vc ((tget [] p.vcbuf vc).drop k) }) s

/-- LEN of an AMO as its AOP and ASIZE ask (R70). -/
def amoLenOk (p : Packet) : Bool :=
  decide (p.aop ≤ 5) && (p.asize == 2 || p.asize == 3) && p.len == (if p.aop = 2 ∧ p.asize = 3 then 16 else 8)

/-- The checks of R76 but its last: `some true` where the packet is answered MALFORMED, `some false` where it is only
discarded. -/
def malformed (s : State) (vc flits : Nat) (p : Packet) : Option Bool :=
  let asks := p.type == tRD || p.type == tNPW || p.type == tAMO
  if p.type = 0 ∨ 8 < p.type ∨ p.type = tEVT then some false
  else if (nodeHalf s p.dst).isNone then some false
  else if vcOfType p.type ≠ vc then some asks
  else if 4096 < p.len ∨ flits ≠ flitCount p.len then some asks
  else if p.type = tAMO ∧ amoLenOk p = false then some true
  else if p.type = tRD ∧ p.len ≠ 0 then some true
  else none

/-- A packet that fails a check of R76 is discarded, counted and, where it asks for an answer, answered. -/
def rxReject (n vc k : Nat) (p : Packet) (answer : Bool) (s : State) : State :=
  let s1 := slotsBack (n, vc, k) (rxTake n vc k s)
  let s2 := raise (pgFiu n) 5 (bump (pgFiu n) R.FIU_CNT_MALFORMED s1)
  if answer then sendPkt ((nodeHalf s p.dst).getD (fHalf n)) (mkRSP p stMalformed []) s2 else s2

/-- The half that a packet names can be reached from F[n]: its own, or the other over the span (R75). -/
def rxReach (s : State) (n : Nat) (h : Half) : Bool := halfUp s h && (decide (fHalf n = h) || s.boot.span)

/-- Packets of VC4 fail R76 and are discarded. -/
def rxEvt (n : Nat) (s : State) : State :=
  match rxHead s n 4 with
  | some (p, k) => rxReject n 4 k p ((malformed s 4 k p).getD false) s
  | none => s

/-- The half that a packet names is dead while the half that received it runs: in reset, failed, or held in reset by
SINGLE (R606, R608). -/
def deadTo (s : State) (n : Nat) (h : Half) : Bool := !halfUp s h && decide (h ≠ fHalf n) && halfUp s (fHalf n)

/-- RETRY_ELSEWHERE to a MSG for a context whose home half is dead, whatever REPLY_MSG holds (R608). -/
def deadReply (h : Half) (p : Packet) (s : State) : State :=
  let w := leNat (p.payload.take 8)
  reply h p.src p.w1 p.ctx p.key (complBody (bits w 63 56) stRETRY (bits w 31 0) 0 p.ctx 255
    { time := nowH s h, aux := rd s (pgDikar h) R.DK_TMO_RETRY_US }) s

/-- A packet to a dead half, as its running twin answers it (R606, R608). A MSG goes on to its context. -/
def deadTake (n vc k : Nat) (p : Packet) (s : State) : State :=
  let h := fHalf n
  let P := pgMgmt h
  let s1 := slotsBack (n, vc, k) (rxTake n vc k s)
  if p.type = tPW then
    let s2 := bump P R.MGMT_CNT_DEAD_DROP s1
    if s.boot.deadDrop then s2 else raise P 6 { s2 with boot := { s.boot with deadDrop := true } }
  else if p.type = tRSP then raise (pgFiu n) 6 s1
  else if p.type = tRD ∨ p.type = tNPW ∨ p.type = tAMO then sendPkt h (mkRSP p stNoWindow []) s1
  else s1

/-- The engines that a packet's dispatch needs run: an RSP and an MGT are taken in QUIET too (R562, R567). -/
def rxPowered (s : State) (ty : Nat) : Bool :=
  enginesOn s || (power s == psQUIET && (ty == tRSP || ty == tMGT))

/-- A packet that waits in QUIET asks for a wake where FABRIC_WAKE is 1 (R567, R568). -/
def rxQuiet (s : State) : State :=
  if power s == psQUIET && rdB s pgKeeper R.KP_PWR_CFG_FABRIC_WAKE then post (.wakeReq 6) s else s

/-- The first whole packet of a VC of F[n] is checked; a good one of that type goes to `f` with the half that it names
and its flits, its slots still held (R75, R76). -/
def rxWith (n vc ty : Nat) (f : Half → Packet → Nat → State → State) (s : State) : State :=
  match rxHead s n vc with
  | none => s
  | some (p, k) =>
    if !rxPowered s p.type then rxQuiet s
    else
      match malformed s vc k p, nodeHalf s p.dst with
      | some a, _ => rxReject n vc k p a s
      | none, some h =>
        if p.type ≠ ty then s
        else if deadTo s n h && ty != tMSG then deadTake n vc k p s
        else if rxReach s n h || (deadTo s n h && ty == tMSG) then f h p k s else s
      | none, none => s

/-- A bridge access: to the aperture, where only a PW has a meaning, or to the Palette (R75). -/
def rxAccess (n vc : Nat) (h : Half) (p : Packet) (k : Nat) (s : State) : State :=
  let s1 := rxTake n vc k s
  if inAperture p.addr then
    let s2 := slotsBack (n, vc, k) s1
    if p.type = tPW then apWrite h p s2 else sendPkt h (mkRSP p stNoWindow []) s2
  else crossArrive h p (n, vc, k) s1

/-- The received packet at the head of VC1 of F[n], if it is a PW (R75). -/
def rxPw (n : Nat) (s : State) : State := rxWith n 1 tPW (rxAccess n 1) (rxEvt n s)

/-- The received packet at the head of VC2 of F[n], if it is of type `ty` (R75). -/
def rxAsk (n ty : Nat) (s : State) : State := rxWith n 2 ty (rxAccess n 2) (rxEvt n s)

/-! Read tags (R78). -/

/-- A tag fails: it goes into quarantine and its owner is told (R78, R293). -/
def tagFail (h : Half) (t : Nat) (o : TagOwner) (code : Nat) (s : State) : State :=
  post (.tagDone h o none code) (tagPut h t .quar s)

/-- An RSP to half `h` (R76, R78). -/
def rspArrive (n : Nat) (h : Half) (p : Packet) (s : State) : State :=
  match tget .free (s.tags.at h) p.tag with
  | .out len o =>
    if p.status ≠ stComplete then tagFail h p.tag o p.status s
    else if p.len ≠ len then tagFail h p.tag o p.status s
    else post (.tagDone h o (some p.payload) 0) (tagPut h p.tag .free s)
  | _ => raise (pgFiu n) 6 s

/-- The received packet at the head of VC0 of F[n], if it is an RSP (R75, R78). -/
def rxAnswer (n : Nat) (s : State) : State :=
  rxWith n 0 tRSP (fun h p k t => rspArrive n h p (slotsBack (n, 0, k) (rxTake n 0 k t))) (rxEvt n s)

/-- RSP_TMO has passed with no RSP for a tag (R78). -/
def rspTimeout (h : Half) (t : Nat) (s : State) : State :=
  match tget .free (s.tags.at h) t with
  | .out _ o => tagFail h t o 0x100 (raise (pgEgress h) 1 s)
  | _ => s

/-- A tag's quarantine is over (R78). -/
def tagBack (h : Half) (t : Nat) (s : State) : State :=
  if tget .free (s.tags.at h) t = .quar then tagPut h t .free s else s

/-- The MSG at the head of VC3 of F[n] is matched on its context's home half, once that half takes MSG packets (R75,
R272, R281, R314). -/
def rxMsg (n : Nat) (s : State) : State :=
  rxWith n 3 tMSG (fun h p k t =>
    let h := if deadTo t n h then fHalf n else h
    let m := msgHalf t h p
    if deadTo t n m then deadReply (fHalf n) p (slotsBack (n, 3, k) (rxTake n 3 k t))
    else if takesMsg t m && (m = h || t.boot.span) && halfUp t m then
      msgArrive h p (slotsBack (n, 3, k) (rxTake n 3 k t))
    else t) (rxEvt n s)

end Sys2Proof.Machine
end

