-- ==== Sys2Proof/Machine/Reset.lean ====
section
/-!
DEFINITION. What a reset takes from a half and from the device, and what stands: the outcome of a power loss (R384), of
a reset of one half while its twin runs (R608), and of a replay (R383).
-/
namespace Sys2Proof.Machine

/-! Registers (R367, R368, R384). -/

/-- A register field outside the KEEPER page whose value is held in Easel or in the Keeper's domain: it stands through
any reset. -/
def keepField (k : RKey) : Bool :=
  let o := k.off
  match pageKind k.page with
  | some .keeper => true
  | some .contexts => decide (0x88 ≤ o ∧ o ≤ 0xC0)
  | some .rings => decide (0x88 ≤ o ∧ o ≤ 0xA0) && !(o == 0x88 && k.lo == 63)
  | some .placeG => decide (0x88 ≤ o ∧ o ≤ 0x98)
  | some .easelG => o == 0x90 || (o == 0x88 && k.lo == 32)
  | some .place => o == 0xA0 || o == 0xA8
  | some .erasure => o == 0xC0 && k.lo == 62
  | some .light => o == R.LL_VIEW_0_UNIT.off &&
      (k.lo == R.LL_VIEW_0_UNIT.lo || k.lo == R.LL_VIEW_0_STN.lo || k.lo == R.LL_VIEW_0_PORT.lo)
  | some .easel => decide (0xA8 ≤ o ∧ o ≤ 0xB0) || decide (0xC0 ≤ o ∧ o ≤ 0xD8)
  | some .mgmt => decide (0x220 ≤ o ∧ o ≤ 0x238)
  | some .protect => o == R.PR_EPOCH.off || o == R.PR_FW_GEN_EAST.off || o == R.PR_EMERG_STAT_ASSERTED.off ||
      (o == 0x200 && (k.lo == 46 || k.lo == 47))
  | _ => false

/-- A register field that stands through a reset: every GUARDED one among them (R15, R384). -/
def stands (k : RKey) : Bool := keepField k || (fldOf k).any (fun f => f.cls == .guarded)

/-- The pages of a half. -/
def pageOf (h : Half) (P : Nat) : Bool := pageHalf P == some h

/-- The registers, shadows, logs and latches of the pages that `sel` picks at their reset values, but for what
stands. -/
def resetPages (sel : Nat → Bool) (s : State) : State :=
  { s with
    regs := s.regs.filter (fun e => !sel e.1.page || stands e.1)
    shadow := s.shadow.filter (fun e => !sel e.1.page)
    captured := s.captured.filter (fun e => !sel e.1.page)
    logs := s.logs.filter (fun p => !sel p.1)
    woLatch := s.woLatch.filter (fun e => !sel e.1) }

/-! Objects, stripes, pages (R384). -/

/-- A stripe record is gone with the reset of its home half: what its members took is free again. -/
def stripeLose (x : Stripe) (s : State) : State :=
  x.members.foldl (fun t y =>
    if (y.st = .flying ∨ y.st = .pass) then freeAdd y.light x.s t else t) s

/-- Every stripe record and plan of a half is gone, and every write of its objects that has not taken effect. -/
def objsLose (h : Half) (s : State) : State :=
  let s1 := (s.objs.stripes.filter (fun x => decide (x.home = h))).foldl (fun t x => stripeLose x t) s
  objMod (fun o => { o with
    stripes := o.stripes.filter (fun x => decide (x.home ≠ h))
    plans := o.plans.filter (fun p => decide (p.home ≠ h))
    writes := o.writes.filter (fun w => decide (w.home ≠ h) || w.ord != 0)
    compactAt := 0, compacting := false }) s1

/-- The pages of a half that writes, stripes or plans still hold. -/
def pagesKept (h : Half) (s : State) : State :=
  plMod h (fun x => { x with used := x.used.filter (fun p => pageHeld s h p) }) s

/-- What a half's Placement, Erasure and Easel services keep: the map, lost ranges, the error log, retired lines, the
gaps. A sweep of the map is owed where it holds LOST entries, and the policy is loaded again (R263, R384, R414). -/
def placeLose (h : Half) (s : State) : State :=
  plMod h (fun x =>
    { used := x.used, map := x.map, commitGen := x.commitGen, lost := x.lost, lostOwed := x.lostOwed,
      sweep := x.map.any (·.lost), polDue := rd s pgPlaceG R.PLG_POLICY_ADDR != 0, elog := x.elog,
      retired := x.retired, gaps := x.gaps, badNames := x.badNames, badCw := x.badCw, plg := x.plg }) s

/-- The tape block after the last that the map records on a light (R239, R384). -/
def tapePos (s : State) (l : Nat) : Nat :=
  ((lightEnts s l).filter (fun e => e.kind == 2)).foldl (fun a e => max a (e.track + e.strip + 1)) 0

/-- What placement keeps of the lights of a half. A tape's write position is the block after the last one recorded. -/
def lightsLose (h : Half) (s : State) : State :=
  let ls := (s.lights.filter (fun p => p.2.bound && decide (lHalf p.1 = h))).map (·.1)
  let tapes := ls.filter (fun l => lV s l R.LL_VIEW_0_KIND == 2)
  let s1 := tapes.foldl (fun t l => plPut l R.PL_LIGHT_VIEW_0_CUR_TRACK (tapePos s l) t) s
  let s2 := { s1 with
    lights := (s1.lights.filter (fun p => decide (lHalf p.1 ≠ h) || p.2.bound)).map (fun p =>
      if lHalf p.1 = h then (p.1, { bound := true, serial := p.2.serial, desc := p.2.desc }) else p) }
  objMod (fun o => { o with lights := o.lights.map (fun p =>
    if lHalf p.1 = h then
      (p.1, { p.2 with scrubbed := [], scrub := none, pass := none, delayOver := false, firedAt := 0, missAt := 0 })
    else p) }) s2

/-! Contexts and rings (R324, R384). -/

/-- The contexts of a half: open ones stay OPEN, CLOSING ones become CLOSED (R384). -/
def ctxsLose (h : Half) (s : State) : State :=
  (listedIdx s pgContexts R.CTX_VIEW_0_STATE).foldl (fun t c =>
    if ctxHome s c = h ∧ ctxState s c = csCLOSING then ctxPut R.CTX_VIEW_0_STATE c csCLOSED t else t) s

/-- The rings of a half: EN 0, their blocks given back, their registers but the configuration at reset (R324, R384). -/
def ringsLose (h : Half) (s : State) : State :=
  let mine := fun r => decide (ringHome s r = h)
  dkMod (fun d => { d with rings := d.rings.filter (fun p => !mine p.1) })
    { s with regs := s.regs.filter (fun e => !(e.1.page == pgRings && mine e.1.idx &&
      (e.1.off == R.RING_STAT_PI.off || (e.1.off == R.RING_CTRL_EN.off && e.1.lo == R.RING_CTRL_EN.lo)))) }

/-- A half's Matching Engine keeps its match entries and their blocks (R384). -/
def matchLose (h : Half) (s : State) : State :=
  mhMod h (fun m => { ents := m.ents, blocks := m.blocks, usedSlots := m.usedSlots }) s

/-! A half's engines. -/

/-- Every engine of a half at reset but for what stands (R384, R608). -/
def enginesLose (h : Half) (s : State) : State :=
  let s1 := { s with
    fiu := s.fiu.filter (fun p => decide (fHalf p.1 ≠ h)), egr := s.egr.put h {}, tags := s.tags.put h []
    apu := s.apu.filter (fun p => decide (aHalf p.1 ≠ h)), cross := s.cross.put h {}, sched := s.sched.put h {}
    coll := s.coll.put h {}, cal := s.cal.put h {}, tb := s.tb.put h 0
    time := { s.time with run := s.time.run.put h false }
    strikes := s.strikes.filter (fun k => decide (k.half ≠ h))
    results := tput {} s.results (resOf h) {}
    fifos := s.fifos.filter (fun p => p.1 / 65536 != 1 + h.num)
    arbs := s.arbs.filter (fun p => p.1 / 65536 != 1 + h.num)
    stage := s.stage.filter (fun c => decide (c.1 / 0x800000 ≠ h.num)) }
  jrnlMod h (fun j => { j with owed := [], full := false }) (leaseDrop h s1)

/-- A half's data and pages after a reset. -/
def halfLose (h : Half) (s : State) : State :=
  let s1 := ringsLose h (ctxsLose h (lightsLose h (placeLose h (pagesKept h (objsLose h s)))))
  resetPages (pageOf h) (enginesLose h (matchLose h s1))

/-- What a reset of both halves takes beside: the device-wide pages but the KEEPER page, requests, Lantern, the PCIe
function and the proposal (R384, R548, R569). -/
def deviceLose (s : State) : State :=
  let s0 := objsLose .east (objsLose .west { s with dikar := { s.dikar with ops := [], queue := ⟨[], []⟩ } })
  let s1 := halfLose .east (halfLose .west s0)
  let s2 := { s1 with
    lan := {}, dp := [], strikes := [], mail := [], results := []
    time := { freshPps := true }
    fifos := [], arbs := [], stage := []
    prot := { mkey := s.prot.mkey } }
  plMod .east (fun x => { x with plg := [] }) (plMod .west (fun x => { x with plg := [] })
    (resetPages (fun P => P != pgKeeper && pageHalf P == none) s2))

/-- A sudden power loss, or a reset that acts as one, on both halves (R384, R601): the Keeper's state is not touched. -/
def powerLoss (s : State) : State := deviceLose s

/-! Replay (R383, R384). -/

/-- Stripe numbers of a write in effect that hold a page not committed. -/
def openNums (s : State) (w : Write) (g : Nat) : List Nat :=
  let n := grpStripeBytes s w.home g / panelBytes
  if n = 0 then [] else ((w.pages.filter (fun p => !p.settled)).map (fun p => p.panel / n)).dedup

/-- A write that stands has its stripes built anew, or waits for its copy over the span (R284, R384). -/
def rebuildWrite (w : Write) (s : State) : State :=
  match objEnt s w.obj with
  | none => s
  | some (_, e) =>
    if !allHome w then s
    else
      let s1 := wrMod w.id (fun x => { x with built := true, stripeBytes := grpStripeBytes s w.home e.group }) s
      (openNums s w e.group).foldl (fun t n => stripeNew { w with built := true } e.group n none t) s1

/-- The writes of a half's objects that stand, in their order of effect. -/
def rebuildAll (h : Half) (s : State) : State :=
  ((s.objs.writes.filter (fun w => decide (w.home = h) && w.ord != 0 && w.pages.any (fun p => !p.settled))).mergeSort
    (fun a b => decide (a.ord ≤ b.ord))).foldl (fun t w => rebuildWrite w t) s

end Sys2Proof.Machine
end

