-- ==== Sys2Proof/Machine/Startup.lean ====
section
/-!
DEFINITION. Start-up, reset and recovery (chapter 19): the Keeper's boot, supplies and RESET_N, the steps of a start with
their codes, HALF_RESET, single-half operation and the boot journal.
-/
namespace Sys2Proof.Machine

/-! The Keeper's events and the power state (R563, R574). -/

/-- Lantern is powered (R562). -/
def lanternOn (s : State) : Bool := decide (psQUIET ≤ power s) && (halfUp s .west || halfUp s .east)

/-- An occurrence of a KEEPER event: while Lantern is unpowered its strike is owed (R574). -/
def kpRaise (b : Nat) (s : State) : State :=
  if lanternOn s then raise pgKeeper b s
  else
    let s1 := wr pgKeeper R.EVT_RAW (rd s pgKeeper R.EVT_RAW ||| 2 ^ b) s
    if (rd s pgKeeper R.EVT_EN).testBit b then
      keeperMod (fun k => { k with owed := k.owed ||| 2 ^ b }) (wr pgKeeper R.EVT_PEND (rd s pgKeeper R.EVT_PEND ||| 2 ^ b) s1)
    else s1

/-- Lantern is powered again: one strike for each pending bit that was set meanwhile (R574). -/
def kpOwed (s : State) : State :=
  if lanternOn s && s.keeper.owed != 0 then
    ((List.range 7).filter (fun b => s.keeper.owed.testBit b)).foldl (fun t _ => strike 0 .west t)
      (keeperMod (fun k => { k with owed := 0 }) s)
  else s

/-- The power state changes (R563). -/
def psSet (st : Nat) (s : State) : State :=
  if power s = st then s
  else kpRaise 0 (wr pgKeeper R.KP_PWR_STAT_STATE st (wr pgKeeper R.KP_PWR_STAT_LAST (power s) s))

/-- The pin MAIN_EN (R597). -/
def mainEnSet (v : Bool) (s : State) : State :=
  emit (.pin "MAIN_EN" v) (bootMod (fun b => { b with mainEn := v, supplies := if v then b.supplies else false }) s)

/-! Accesses to dead pages (R489). -/

/-- An access that the function refuses: counted, recorded, raised (R481, R489, R504). -/
def barErr (cause off : Nat) (s : State) : State :=
  raise pgHost 2 (bump pgHost R.HOST_CNT_BAR_ERR
    (wr pgHost R.HP_BAR_LAST_OFFSET off (wr pgHost R.HP_BAR_LAST_CAUSE cause s)))

/-- Page `P` can be read and written: its half is up; a MGMT page lives while its half is out of reset (R489, R603). -/
def pageLive (s : State) (P : Nat) : Bool :=
  match pageHalf P with
  | none => true
  | some h => if P = pgMgmt h then mgmtUp s h else halfUp s h

/-- BAR0 offset of byte `off` of page `P` (R485). -/
def barOff (P off : Nat) : Nat := P * 4096 + off

/-- A register access of page `P`, which ends what the page latched (R494); a page of a half that is not up drops it
(R489). -/
def onPage (P off : Nat) (f : State → State) (s : State) : State :=
  if pageLive s P then f { s with woLatch := s.woLatch.filter (fun e => e.1 != P) } else barErr 4 (barOff P off) s

/-! Codes and the boot journal (R602, R611, R614). -/

/-- A code that lets start-up go on (R602). -/
def codeOn (c : Nat) : Bool := c == 2 || c == 3 || c == 5 || c == 6

/-- The newest record of the boot journal with the codes as they stand (R611). -/
def recSync (s : State) : State :=
  if !s.boot.vddKeep then s
  else bootMod (fun b =>
    match b.recs with
    | [] => b
    | r :: q => { b with recs := { r with cause := b.cause, s1 := b.s1, s2 := b.s2, s4 := b.s4, west := b.west, east := b.east } :: q }) s

/-- SEQ of the next start: one more than the newest record's (R611, R613). -/
def nextSeq (b : Boot) : Nat :=
  match b.recs with
  | [] => 1
  | r :: _ => (r.seq + 1) % 256

/-- A half's fields of ST_W_CODES (R613). -/
def codesWord (b : BootHalf) : Nat :=
  b.s3 * 2 ^ 40 + b.s5 * 2 ^ 32 + b.s6 * 2 ^ 24 + b.s7 * 2 ^ 16 + b.s8 * 2 ^ 8 + b.s9

/-- The three words of a record (R611). -/
def recWords (r : BootRec) : List Nat :=
  [r.seq * 2 ^ 48 + r.cause * 2 ^ 44 + r.s1 * 2 ^ 36 + r.s2 * 2 ^ 28 + r.s4 * 2 ^ 20 + r.boot * 2 ^ 4,
    codesWord r.west, codesWord r.east]

/-- BOOTLOG: the sixteen records, newest first; slots that never held one give zero words (R611). -/
def bootlog (s : State) : State :=
  let ws := (s.boot.recs.map recWords).flatten
  pushResult 0 8 true (ws ++ List.replicate (48 - ws.length) 0) s

/-- A start begins: its record is opened, its codes are clear but for the steps it does not run (R601, R602, R611). -/
def startOpen (cause : Nat) (s : State) : State :=
  let skip := fun (c : Bool) => if c then 6 else 0
  let clear := fun (b : BootHalf) => ({ state := b.state, img := b.img } : BootHalf)
  recSync (bootMod (fun b => { b with
    cause := cause, seq := nextSeq b, s1 := skip (cause != 1), s2 := skip (cause != 1 && cause != 4), s4 := skip (cause == 6)
    west := clear b.west, east := clear b.east, single := none, goOn := false, mode := s.keeper.straps.startMode
    recs := (⟨nextSeq b, cause, 0, 0, 0, b.boots, {}, {}⟩ :: b.recs).take 16 }) s)

/-- START_FAIL on the MGMT pages that live (R615). -/
def startFail (s : State) : State :=
  raiseIf (mgmtUp s .east) (pgMgmt .east) 3 (raiseIf (mgmtUp s .west) (pgMgmt .west) 3 s)

/-- A half becomes HALTED (R603, R615). -/
def halt (h : Half) (s : State) : State := raise (pgMgmt h) 4 (bhMod h (fun b => { b with state := hsHALTED }) s)

/-- A half is held in reset; its codes stay (R603, R614). -/
def halfDown (h : Half) (s : State) : State := bhMod h (fun b => { b with state := hsDOWN }) s

/-- Both halves are reset as at a sudden power loss; Lantern's demand on WAKE_OUT_N ends with it (R384, R559, R601). -/
def bothDown (s : State) : State :=
  let s1 := bootMod (fun b => { b with span := false, single := none }) (halfDown .east (halfDown .west (powerLoss s)))
  if rdB s pgKeeper R.KP_OUT_BY_LANTERN then wakeOut (wr pgKeeper R.KP_OUT_BY_LANTERN 0 s1) else s1

/-! Step 1: the Keeper (R600, R607, R609). -/

/-- A committed image passes the check of its CRC-64 (R526, R607). -/
def imgGood (x : FwImg) : Bool := crc64 x.bytes == x.crc

/-- The image that the Keeper runs: the code of step 1 and the image's number, 0 for the ROM (R599, R607). -/
def keeperImage (b : Boot) (rom : Bool) : Nat × Nat :=
  if rom then (2, 0)
  else
    match b.slots with
    | [] => (2, 0)
    | x :: r =>
      if imgGood x then (2, x.gen)
      else
        match r.find? imgGood with
        | some y => (3, y.gen)
        | none => (3, 0)

/-- The Keeper's image is chosen: step 1's code (R607). -/
def keeperRun (s : State) : State :=
  bootMod (fun b => { b with
    s1 := (keeperImage b s.keeper.straps.fwRom).1, img := (keeperImage b s.keeper.straps.fwRom).2 }) s

def strapsOf (p : StrapPins) : Straps :=
  { pref := if p.prefEast then .east else .west, addr := p.addr.toNat, startMode := p.startMode.toNat, fwRom := p.fwRom }

/-- A KEEPER register that the Keeper's store holds: the input settings, the rule table, KP_PWR_CFG, KP_TRIP (R554). -/
def keeperStored (k : RKey) : Bool :=
  k.off == R.KP_PWR_CFG_DRAIN_TMO.off || k.off == R.KP_TRIP_FLOW_MS.off || k.off == R.KP_IN_CFG_DEB.off ||
    k.off == R.KP_RULE_0_EN.off || (k.off == R.KP_RULE_1_HYST.off && k.lo == R.KP_RULE_1_HYST.lo)

/-- The KEEPER page at its reset values but for what `keep` picks; its shadow and log are gone (R554). -/
def keeperPageLose (keep : RKey → Bool) (s : State) : State :=
  { s with
    regs := s.regs.filter (fun e => e.1.page != pgKeeper || keep e.1)
    shadow := s.shadow.filter (fun e => e.1.page != pgKeeper)
    captured := s.captured.filter (fun e => e.1.page != pgKeeper)
    logs := s.logs.filter (fun p => p.1 != pgKeeper)
    woLatch := s.woLatch.filter (fun e => e.1 != pgKeeper) }

/-- The holds of the Keeper's rules have changed from `old` (R97, R559). -/
def holdsChanged (old : Nat) (s : State) : State :=
  ((List.range 64).filter (fun n => old.testBit n != (rd s pgKeeper R.KP_HOLD_PORTS).testBit n)).foldl
    (fun t n => apuHoldCheck n t) s

/-- The Keeper's boot is counted and the straps are sampled (R599, R611). -/
def keeperBoots (p : StrapPins) (s : State) : State :=
  keeperMod (fun k => { k with straps := strapsOf p }) (bootMod (fun b => { b with boots := (b.boots + 1) % 65536 }) s)

/-- VDD_KEEP comes into range: the Keeper boots (R597, R600). -/
def vddKeepUp (p : StrapPins) (s : State) : State :=
  if s.boot.vddKeep then s
  else
    let s1 := keeperBoots p (bootMod (fun b => { b with vddKeep := true }) s)
    recSync (bootMod (fun b => { b with s1 := 1 }) (startOpen 1 (leaseReboot false s1)))

/-- The Keeper has booted; it drives MAIN_EN as START_MODE asks (R599, R600). -/
def keeperBootDone (s : State) : State :=
  if !s.boot.vddKeep || s.boot.s1 != 1 then s
  else
    let s1 := keeperRun (bootMod (fun b => { b with keeperUp := true }) s)
    recSync (if s.keeper.straps.startMode = 1 then
        wr pgKeeper R.KP_PWR_STAT_TARGET psOFF (wr pgKeeper R.KP_PWR_STAT_STATE psOFF s1)
      else bootMod (fun b => { b with s2 := 1 }) (mainEnSet true s1))

/-- The Keeper reboots while MAIN_EN holds its level and the halves run (R544, R607, R609). -/
def keeperRestart (p : StrapPins) (s : State) : State :=
  let keep := fun (k : RKey) => keeperStored k || k.off == R.KP_PWR_STAT_STATE.off || k == R.KP_OUT_BY_LANTERN.key pgKeeper 0
  let s1 := keeperPageLose keep s
  let s2 := keeperMod (fun k => { emergN := k.emergN, lease := k.lease, tripDue := k.tripDue }) s1
  let s3 := leaseReboot (halfUp s .west || halfUp s .east) s2
  let s4 := keeperRun (keeperBoots p (bootMod (fun b => { b with keeperUp := true }) s3))
  let s5 := if rdB s pgKeeper R.KP_OUT_BY_RULE then wakeOut s4 else s4
  recSync (holdsChanged (rd s pgKeeper R.KP_HOLD_PORTS) s5)

/-- VDD_KEEP leaves its range: the Keeper stops, MAIN_EN falls, the halves are reset (R554, R623). -/
def vddKeepLoss (s : State) : State :=
  if !s.boot.vddKeep then s
  else
    let s1 := keeperPageLose keeperStored (bothDown s)
    let s2 := if s.boot.mainEn then emit (.pin "MAIN_EN" false) s1 else s1
    { s2 with
      keeper := {}
      boot := { resetN := s.boot.resetN, boots := s.boot.boots, recs := s.boot.recs, slots := s.boot.slots } }

/-! Step 3: self-test (R600, R602-R604, R607). -/

/-- Step 3 begins on a half; the start-up record's values of this start are taken (R613). -/
def step3Begin (h : Half) (s : State) : State :=
  let P := pgMgmt h
  let res := rd s P R.ST_RESUME_LAN * 32 + rd s P R.ST_RESUME_SCH * 16 + rd s P R.ST_RESUME_PL * 8 +
    rd s P R.ST_RESUME_COL * 4 + rd s P R.ST_RESUME_DK * 2 + rd s P R.ST_RESUME_PAL
  bump P R.MGMT_CNT_START (bhMod h (fun b => { b with
    state := hsSTARTING, step := 3, s3 := if rdB s pgTimebase R.TB_STAT_REF_OK then 1 else 4
    apuEn := rd s P R.ST_APU_EN_MASK, fiuEn := rd s P R.ST_FIU_EN_MASK, resume := res }) s)

/-- The halves may leave reset (R598, R618). -/
def mayRelease (s : State) : Bool :=
  s.boot.keeperUp && s.boot.supplies && s.boot.resetN && !s.boot.brown && decide (psQUIET ≤ power s)

/-- Both halves leave reset and begin step 3; a RESET_N that is low holds them. -/
def step3Both (s : State) : State := recSync (if mayRelease s then step3Begin .east (step3Begin .west s) else s)

/-- The half's engine image: the code of step 3 and the image's number, 0 for the ROM (R599, R607). -/
def engineImage (s : State) (h : Half) : Nat × Nat :=
  let x := tget {} s.fw (1 + h.num)
  if s.keeper.straps.fwRom || x.gen == 0 then (2, 0) else if imgGood x then (2, x.gen) else (3, 0)

/-- A Keeper image newer than the newer slot is copied into the Keeper's store, by West, or by East when West is FAILED
(R607). -/
def keeperCopy (h : Half) (s : State) : State :=
  let x := tget {} s.fw 0
  let newest := match s.boot.slots with
    | [] => 0
    | y :: _ => y.gen
  if (h = .west ∨ halfState s .west = hsFAILED) ∧ newest < x.gen then
    bootMod (fun b => { b with slots := (x :: b.slots).take 2 }) s
  else s

/-- A half's copy of the timebase is loaded: from its running twin, or from TB_FLOOR for both copies (R604). -/
def tbLoad (h : Half) (s : State) : State :=
  let running := halfState s h.twin = hsRUNNING ∨ halfState s h.twin = hsSINGLE
  if running then
    { s with tb := s.tb.put h (s.tb.at h.twin), time := { s.time with run := s.time.run.put h true } }
  else if s.time.run.at h then s
  else
    let v := (s.record.floor + 2000000000) % 2 ^ 64
    { s with tb := ⟨v, v⟩, time := { s.time with run := ⟨true, true⟩ } }

/-- The span is up: what waited for it goes on (R278, R535, R547). -/
def spanUp (s : State) : State :=
  if s.boot.span || !halfUp s .west || !halfUp s .east then s
  else emergDrain (prCommit (bootMod (fun b => { b with span := true }) s))

/-- The span is lost while the halves run (R547). -/
def spanDown (s : State) : State := bootMod (fun b => { b with span := false }) s

/-- Every test of a half has passed. -/
def step3Pass (h : Half) (s : State) : State :=
  let (c, g) := engineImage s h
  let s1 := tbLoad h (keeperCopy h s)
  let s2 := bhMod h (fun b => { b with state := hsSTARTING, s3 := c, img := g }) s1
  let s3 := if c = 3 then raise (pgMgmt h) 5 (bump (pgMgmt h) R.MGMT_CNT_FW_FALLBACK s2) else s2
  kpOwed (if s3.boot.single = none then spanUp s3 else s3)

/-- A test of a half fails (R602, R603). -/
def step3Fail (h : Half) (c : Nat) (s : State) : State :=
  let s1 := startFail (bhMod h (fun b => { b with state := hsFAILED, s3 := c }) s)
  if h = .west ∧ halfUp s .east = true then keeperCopy .east s1 else s1

/-- The span does not train: every half that starts is HALTED at step 3 (R602). -/
def spanFail (s : State) : State :=
  [Half.west, .east].foldl (fun t h =>
    if halfState t h = hsSTARTING ∧ (t.boot.half h).step = 3 then
      halt h (bhMod h (fun b => { b with s3 := 0x13 }) t)
    else t) (startFail s)

/-- A half's self-test ends, while REF_OK is 1 (R600, R602). -/
def selfTestDone (h : Half) (r : TestRes) (s : State) : State :=
  let b := s.boot.half h
  if !(b.state == hsSTARTING && b.step == 3 && b.s3 == 1) || !rdB s pgTimebase R.TB_STAT_REF_OK then s
  else
    match r with
    | .pass => step3Pass h s
    | .sram => step3Fail h 0x10 s
    | .engine => step3Fail h 0x11 s
    | .easel => step3Fail h 0x12 s
    | .span => if s.boot.single = none then spanFail s else step3Pass h s

/-! Steps 4 to 9 (R600, R602). -/

/-- A half takes part in this start and has not failed. -/
def inStart (s : State) (h : Half) : Bool := decide (halfState s h ≠ hsDOWN ∧ halfState s h ≠ hsFAILED)

/-- Step 4: it begins once every half that is not FAILED has ended step 3, and ends on the grant that stands. -/
def boot4 (s : State) : State :=
  let hs := [Half.west, .east].filter (inStart s)
  if s.boot.s4 = 0 ∧ hs ≠ [] ∧ hs.all (fun h => codeOn (s.boot.half h).s3) = true then
    bootMod (fun b => { b with s4 := if (primary s).isSome then 2 else 1 }) s
  else if s.boot.s4 = 1 ∧ (primary s).isSome then bootMod (fun b => { b with s4 := 2 }) s
  else s

/-- No grant within 10 ms: start-up goes on (R602). -/
def boot4Timeout (s : State) : State :=
  if s.boot.s4 ≠ 1 then s
  else if (primary s).isSome then bootMod (fun b => { b with s4 := 2 }) s
  else startFail (bootMod (fun b => { b with s4 := 0x10 }) s)

/-- Step 4 has ended, and start-up goes on (R602). -/
def step4On (s : State) : Bool := codeOn s.boot.s4 || s.boot.s4 == 0x10

/-- Step 5 begins: it may wait for CONTINUE, stop at a failed twin, or find Easel blank (R382, R602). -/
def boot5 (h : Half) (s : State) : State :=
  let b := s.boot.half h
  if b.state ≠ hsSTARTING ∨ !codeOn b.s3 ∨ !step4On s ∨ b.s5 ≠ 0 then s
  else
    let s1 := bhMod h (fun b => { b with step := 5 }) s
    if 2 ≤ s.boot.mode ∧ ¬ s.boot.goOn then halt h (bhMod h (fun b => { b with s5 := 4 }) s1)
    else if halfState s h.twin = hsFAILED ∧ s.boot.single ≠ some h then
      halt h (startFail (bhMod h (fun b => { b with s5 := 0x11 }) s1))
    else if !carved s then wr pgEaselG (replayFld h) 4 (bhMod h (fun b => { b with s5 := 5 }) s1)
    else wr pgEaselG (replayFld h) 1 (bhMod h (fun b => { b with s5 := 1 }) s1)

/-- Every half that replays has finished: REPLAY_DONE, and SVC (R383, R396). -/
def replayAll (s : State) : State :=
  let ended := fun (h : Half) => rd s pgEaselG (replayFld h) == 2
  let all := match s.boot.single with
    | some h => ended h
    | none => ended .west && ended .east
  if all then raise pgEaselG 2 (wr pgEaselG R.EZG_CTRL_SVC 1 s) else s

/-- A half's replay ends with code `c` (R383, R384). -/
def replayEnd (h : Half) (c : Nat) (s : State) : State :=
  replayAll (rebuildAll h (wr pgEaselG (replayFld h) 2
    (bhMod h (fun b => { b with state := hsSTARTING, s5 := c }) s)))

/-- A half's replay ends, or finds a damaged journal (R383, R602). -/
def replayDone (h : Half) (damaged : Bool) (s : State) : State :=
  if (s.boot.half h).s5 ≠ 1 ∨ halfState s h ≠ hsSTARTING then s
  else if damaged then
    halt h (startFail (raise pgEaselG 3 (wr pgEaselG (replayFld h) 3 (bhMod h (fun b => { b with s5 := 0x10 }) s))))
  else replayEnd h 2 s

/-- The numbers of the ports that a mask of `n` bits names. -/
def maskPorts (mask n base : Nat) : List Nat := ((List.range n).filter (fun i => mask.testBit i)).map (fun i => base + i)

def startApus (s : State) (h : Half) : List Nat := maskPorts (s.boot.half h).apuEn 32 (32 * h.num)
def startFius (s : State) (h : Half) : List Nat := maskPorts (s.boot.half h).fiuEn 8 (8 * h.num)

/-- Step 6 (R600). -/
def boot6 (h : Half) (s : State) : State :=
  let b := s.boot.half h
  let ps := startApus s h
  if b.state ≠ hsSTARTING ∨ !codeOn b.s5 then s
  else if b.s6 = 0 then
    if ps = [] then bhMod h (fun b => { b with step := 6, s6 := 5 }) s
    else ps.foldl (fun t n => apuEnWrite n true (wr (pgApu n) R.APU_CTRL_AUTO_TRAIN 1 t))
      (bhMod h (fun b => { b with step := 6, s6 := 1 }) s)
  else if b.s6 = 1 ∧ ps.all (fun n => apuState s n == asACTIVE) = true then bhMod h (fun b => { b with s6 := 2 }) s
  else s

/-- PORT_WAIT has elapsed (R600, R602). -/
def boot6Wait (h : Half) (s : State) : State :=
  if halfState s h = hsSTARTING ∧ (s.boot.half h).s6 = 1 then bhMod h (fun b => { b with s6 := 3 }) s else s

/-- The bound lights of a half. -/
def halfLights (s : State) (h : Half) : List Nat :=
  (s.lights.filter (fun p => p.2.bound && decide (lHalf p.1 = h))).map (·.1)

/-- LL_CTRL.EN written: at 0 every assigned light goes to IDLE, at 1 the lights whose units turn and are in reach start
to acquire (R206, R207, R232). -/
def llEnWrite (h : Half) (en : Bool) (s : State) : State :=
  let s1 := wr (pgLight h) R.LL_CTRL_EN (bit en) s
  if en then (halfLights s h).foldl (fun t l => unitStateTo l (lgt t l).unitState t) s1
  else ((halfLights s h).filter (fun l => lightState s l != lsUNASSIGNED)).foldl (fun t l => enterIdle l t) s1

/-- Every bound light of a half is LIT, IDLE or FAULT; a light that its enumeration has not bound again does not count. -/
def lightsReady (s : State) (h : Half) : Bool :=
  (halfLights s h).all (fun l =>
    let st := lightState s l
    st == lsUNASSIGNED || st == lsLIT || st == lsIDLE || st == lsFAULT)

/-- Step 7 (R600). -/
def boot7 (h : Half) (s : State) : State :=
  let b := s.boot.half h
  if b.state ≠ hsSTARTING ∨ !codeOn b.s6 then s
  else if b.s7 = 0 then llEnWrite h true (bhMod h (fun b => { b with step := 7, s7 := 1 }) s)
  else if b.s7 = 1 ∧ lightsReady s h = true then bhMod h (fun b => { b with s7 := 2 }) s
  else s

/-- LIGHT_WAIT has elapsed (R600, R602). -/
def boot7Wait (h : Half) (s : State) : State :=
  if halfState s h = hsSTARTING ∧ (s.boot.half h).s7 = 1 then bhMod h (fun b => { b with s7 := 3 }) s else s

/-- Step 8 (R600): NODE_BASE is loaded before any FIU is enabled. -/
def boot8 (h : Half) (s : State) : State :=
  let b := s.boot.half h
  let ps := startFius s h
  if b.state ≠ hsSTARTING ∨ !codeOn b.s7 then s
  else if b.s8 = 0 then
    let s1 := wr pgGlobal R.GL_NODE_BASE s.record.nodeBase s
    if ps = [] then bhMod h (fun b => { b with step := 8, s8 := 5 }) s1
    else ps.foldl (fun t n => fiuEnWrite n true .pcie t) (bhMod h (fun b => { b with step := 8, s8 := 1 }) s1)
  else if b.s8 = 1 ∧ ps.all (fun n => fiuState s n == fsACTIVE) = true then bhMod h (fun b => { b with s8 := 2 }) s
  else s

/-- FABRIC_WAIT has elapsed (R600, R602). -/
def boot8Wait (h : Half) (s : State) : State :=
  if halfState s h ≠ hsSTARTING ∨ (s.boot.half h).s8 ≠ 1 then s
  else if (startFius s h).any (fun n => fiuState s n == fsACTIVE) then bhMod h (fun b => { b with s8 := 3 }) s
  else startFail (bhMod h (fun b => { b with s8 := 0x10 }) s)

/-- Step 9 has ended with code `c`: the half runs (R603, R613, R615). -/
def bootEnd (h : Half) (c : Nat) (s : State) : State :=
  raise (pgMgmt h) 2 (wr (pgMgmt h) R.ST_READY_TIME (nowH s h) (bhMod h (fun b => { b with
    state := if s.boot.single = some h then hsSINGLE else hsRUNNING, step := 9, s9 := c }) s))

/-- Step 9 begins; when step 5 ended EMPTY it ends at once with nothing set (R600). -/
def boot9 (h : Half) (s : State) : State :=
  let b := s.boot.half h
  if b.state ≠ hsSTARTING ∨ !(codeOn b.s8 || b.s8 == 0x10) ∨ b.s9 ≠ 0 then s
  else if b.s5 = 5 then bootEnd h 5 s
  else bhMod h (fun b => { b with step := 9, s9 := 1 }) s

/-- With SVC set, the EN fields that ST_RESUME selects are set (R600, R613). -/
def resumeStep (h : Half) (s : State) : State :=
  let b := s.boot.half h
  if b.state ≠ hsSTARTING ∨ b.s9 ≠ 1 ∨ !rdB s pgEaselG R.EZG_CTRL_SVC then s
  else
    let on := fun (i : Nat) (P : Nat) (f : Fld) (t : State) => if b.resume.testBit i then wr P f 1 t else t
    let s1 := on 0 (pgPalette h) R.PAL_CTRL_EN (on 1 (pgDikar h) R.DK_CTRL_EN (on 2 (pgColl h) R.COL_CTRL_EN
      (on 3 (pgPlace h) R.PL_CTRL_EN (on 4 (pgSched h) R.SCH_CTRL_EN s))))
    bootEnd h 2 (if b.resume.testBit 5 then lanEnWrite true s1 else s1)

/-- One round of the steps that can begin or end now. -/
def bootRound (s : State) : State :=
  [Half.west, .east].foldl (fun t h => boot9 h (boot8 h (boot7 h (boot6 h (boot5 h t))))) (boot4 s)

/-- Start-up goes as far as it can: each half passes its steps one after the other. -/
def bootGo (s : State) : State :=
  if halfState s .west = hsSTARTING ∨ halfState s .east = hsSTARTING then
    recSync (bootRound (bootRound (bootRound (bootRound (bootRound (bootRound s))))))
  else s

/-! Supplies and RESET_N (R597, R598, R600-R602, R618, R622, R623). -/

/-- Every main supply is in range (R600). -/
def suppliesIn (s : State) : State :=
  if !s.boot.mainEn || s.boot.s2 != 1 then s
  else
    let s1 := bootMod (fun b => { b with supplies := true, brown := false, s2 := if b.resetN then 2 else 4 }) s
    step3Both s1

/-- A main supply is not in range within 100 ms of MAIN_EN (R602). -/
def supplyTimeout (s : State) : State :=
  if !s.boot.mainEn || s.boot.s2 != 1 then s
  else recSync (psSet psOFF (startFail (mainEnSet false (bootMod (fun b => { b with s2 := 0x10 }) s))))

/-- Both halves, in reset, are released: a start of cause 2 (R601, R618). -/
def releaseBoth (s : State) : State :=
  if mayRelease s ∧ halfState s .west = hsDOWN ∧ halfState s .east = hsDOWN then
    step3Both (startOpen 2 (psSet psACTIVE s))
  else s

/-- RESET_N rises (R598, R600, R601). -/
def resetRise (s : State) : State :=
  if s.boot.resetN then s
  else
    let s1 := bootMod (fun b => { b with resetN := true }) s
    if s.boot.s2 = 4 then
      if mayRelease s1 then step3Both (bootMod (fun b => { b with s2 := 2 }) s1) else s1
    else releaseBoth s1

/-- RESET_N falls: while the device is ACTIVE, DRAIN or QUIET it acts as a sudden power loss on the halves (R601). It
ends what R520 leaves undefined. -/
def resetFall (s : State) : State :=
  let s1 := bootMod (fun b => { b with resetN := false }) { s with tap := { s.tap with undef := false } }
  if psQUIET ≤ power s ∧ s.boot.supplies = true then bothDown s1 else s1

/-- A main supply is below brown-out, or is removed without MAIN_EN: a sudden power loss to the halves (R618, R622). -/
def supplyFail (s : State) : State :=
  if !s.boot.supplies || s.boot.brown then s
  else
    let s1 := bootMod (fun b => { b with brown := true }) s
    if psQUIET ≤ power s then bothDown s1 else s1

/-- The supply is back in range: the halves start again with cause 2 (R618). -/
def supplyBack (s : State) : State :=
  if !s.boot.brown then s
  else
    let s1 := bootMod (fun b => { b with brown := false }) s
    if s.boot.s2 = 4 then
      if mayRelease s1 then step3Both (bootMod (fun b => { b with s2 := 2 }) s1) else s1
    else releaseBoth s1

/-- TB_FLOOR takes the timebase, as a CONFIG step (R604, R610). -/
def floorSave (s : State) : State :=
  match leadHalf s with
  | none => s
  | some h =>
    if halfState s h = hsRUNNING ∨ halfState s h = hsSINGLE then
      let s1 := { s with record := { s.record with floor := nowH s h } }
      if xstepOk s then jrnlBoth h s1 else jrnl h s1
    else s

/-! Commands of ST_CMD (R605-R609). -/

/-- ST_CMD written on a half's MGMT page: on a dead page it is an error of the access, and where its conditions refuse
it it is dropped (R489, R605). -/
def stCmd (pg : Half) (ok : Bool) (f : State → State) (s : State) : State :=
  if !mgmtUp s pg then barErr 4 (barOff (pgMgmt pg) R.ST_CMD_OP.off) s
  else if ok then f s
  else cfgReject (pgMgmt pg) R.ST_CMD_OP.off 3 .live (some .pcie) s

/-- CONTINUE (R605). -/
def stContinue (pg : Half) (s : State) : State :=
  let waits := fun (h : Half) => halfState s h == hsHALTED && (s.boot.half h).s5 == 4
  let go := fun (h : Half) (t : State) =>
    if waits h then bhMod h (fun b => { b with state := hsSTARTING, s5 := 0 }) t else t
  stCmd pg (waits .west || waits .east) (fun t => go .east (go .west (bootMod (fun b => { b with goOn := true }) t))) s

/-- RESTART (R601, R605). -/
def stRestart (pg : Half) (s : State) : State :=
  stCmd pg (decide (psQUIET ≤ power s)) (fun t => step3Both (startOpen 5 (psSet psACTIVE (bothDown t)))) s

/-- What a half's reset takes from a request of its twin or of its own (R608). -/
def opHalfReset (h : Half) (d : DOp) (s : State) : State :=
  if d.h = h then
    if d.coll.isSome then
      collDrained d.id (opMod d.id (fun x => { x with
        mute := true, outst := 0
        pullFail := if x.st = .pull ∧ ¬ x.received then some 0 else x.pullFail
        st := if x.st = .pull ∧ ¬ x.received then .drain else x.st }) s)
    else
      match d.write with
      | some w => opDrop d.id (if (wrGet s w).any (fun x => x.ord == 0) then writeDrop w s else s)
      | none => opDrop d.id s
  else if d.home = h ∧ d.st ≠ .ended then opFail d.id stRETRY s
  else s

/-- One half is reset while its twin runs (R608). -/
def halfReset (h : Half) (s : State) : State :=
  let s1 := (List.range 8).foldl (fun t i => fiuDisable (8 * h.num + i) t) s
  let s2 := (List.range 32).foldl (fun t i => apuSetState (32 * h.num + i) asDISABLED t) s1
  let s3 := (((s2.sched.at h).streams.filter (fun p => p.2.open_)).map (·.1)).foldl (fun t i => streamEnd h i t) s2
  let s4 := s3.dikar.ops.foldl (fun t d => opHalfReset h d t) s3
  bootMod (fun b => { b with deadDrop := false, span := false }) (halfLose h s4)

/-- HALF_RESET (R601, R605, R608). The twin's codes show SKIPPED. -/
def stHalfReset (pg h : Half) (s : State) : State :=
  stCmd pg (halfState s h == hsRUNNING && halfState s h.twin == hsRUNNING) (fun t =>
    let t1 := bump (pgMgmt h) R.MGMT_CNT_HALF_RESET (halfReset h t)
    let t2 := bhMod h.twin (fun b => { t.boot.half h.twin with
      state := b.state, step := b.step, s3 := 6, s5 := 6, s6 := 6, s7 := 6, s8 := 6, s9 := 6 }) (startOpen 6 t1)
    recSync (step3Begin h t2)) s

/-- SINGLE (R605, R606): the twin is held in reset, and the half goes on from where it stopped. -/
def stSingle (pg h : Half) (s : State) : State :=
  let spanStop := fun (g : Half) => halfState s g == hsHALTED && ((s.boot.half g).s3 == 0x13 || (s.boot.half g).s5 == 0x11)
  stCmd pg (halfState s h.twin == hsFAILED || (spanStop .west && spanStop .east)) (fun t =>
    let t1 := bootMod (fun b => { b with single := some h, span := false, deadDrop := false })
      (halfDown h.twin (halfLose h.twin t))
    let b := t.boot.half h
    if b.state = hsHALTED ∧ b.s3 = 0x13 then step3Pass h t1
    else if b.state = hsHALTED ∧ b.s5 = 0x11 then bhMod h (fun b => { b with state := hsSTARTING, s5 := 0 }) t1
    else if b.state = hsRUNNING then bhMod h (fun b => { b with state := hsSINGLE }) t1
    else t1) s

/-- ACCEPT_LOSS (R605): the steps after the damage are lost, a CHECKPOINT is written, step 5 ends DONE_DEGRADED. -/
def stAcceptLoss (pg h : Half) (s : State) : State :=
  stCmd pg (halfState s h == hsHALTED && (s.boot.half h).s5 == 0x10) (fun t => replayEnd h 3 (checkpoint h t)) s

end Sys2Proof.Machine
end

