-- ==== Sys2Proof/Machine/Keeper.lean ====
section
/-!
DEFINITION. The Keeper (chapter 17): inputs and filters, the rule table, its log, the power states and their changes,
wake requests and the protective trip.
-/
namespace Sys2Proof.Machine

/-! Wake requests and changes of the power state (R563-R570). -/

/-- The states in which a wake request of a cause acts (R568). -/
def wakeActs (cause st : Nat) : Bool :=
  if cause = 1 ∨ cause = 5 then st == psDRAIN || st == psQUIET
  else if cause = 6 then st == psQUIET
  else st != psACTIVE

/-- TRIP is told once the device reaches ACTIVE (R571, R574). -/
def tripTold (s : State) : State :=
  if s.keeper.tripDue then
    kpRaise 3 (bump pgKeeper R.KEEPER_CNT_TRIP (keeperMod (fun k => { k with tripDue := false }) s))
  else s

/-- LPI that the power manager asks for (R567): asked for on every FIU that is ACTIVE, or dropped on all. -/
def fabricLpi (on : Bool) (s : State) : State :=
  (List.range 16).foldl (fun t n =>
    if on then (if fiuState t n = fsACTIVE then fiuMod n (fun p => { p with pmLpi := true }) t else t)
    else if (fiuGet t n).pmLpi then lpiCheck n (fiuMod n (fun p => { p with pmLpi := false }) t) else t) s

/-- The device is ACTIVE again from DRAIN or QUIET: its engines take new work (R563, R570). -/
def backToWork (s : State) : State := placeRetry (fabricLpi false s)

/-- The state becomes ACTIVE, with what asked for it (R563, R568). -/
def reachActive (cause rule : Nat) (s : State) : State :=
  tripTold (psSet psACTIVE (wr pgKeeper R.KP_PWR_STAT_TARGET psACTIVE (wr pgKeeper R.KP_PWR_STAT_WAKE_CAUSE cause
    (if cause = 3 then wr pgKeeper R.KP_PWR_STAT_WAKE_RULE rule s else s))))

/-- A wake request (R568). One made while a trip condition holds is ignored in OFF (R571). -/
def wake (cause rule : Nat) (s : State) : State :=
  let st := power s
  if st = psOFF ∧ s.keeper.tripNow then s
  else
    let s1 := kpRaise 2 (bump pgKeeper R.KEEPER_CNT_WAKE s)
    if !wakeActs cause st then s1
    else
      let s2 := reachActive cause rule s1
      if st = psSLEEP then step3Both (startOpen 3 s2)
      else if st = psOFF then recSync (mainEnSet true (bootMod (fun b => { b with s2 := 1 }) (startOpen 4 s2)))
      else backToWork s2

/-- The PCIe link is lost with its domain; the halves are unpowered, and the device keeps what R384 keeps (R569). -/
def sleepEnter (target : Nat) (s : State) : State :=
  let s1 := psSet psSLEEP (wr pgKeeper R.KP_PWR_STAT_TARGET target (bothDown s))
  if target = psOFF then psSet psOFF (mainEnSet false s1) else s1

/-- SPIN_DOWN as DRAIN_SPIN asks (R565): 1 to every turning unit of groups with SPIN_MGD = 1, 2 or 3 to every turning
disc of OBJECT stations. -/
def drainSpin (s : State) : State :=
  let d := rd s pgKeeper R.KP_PWR_CFG_DRAIN_SPIN
  if d = 0 then s
  else
    (s.lights.map (·.1)).foldl (fun t l =>
      let x := lgt t l
      let g := lightGroup t l
      let turns := x.bound && x.present && isDisc t l && (x.unitState == 2 || x.unitState == 3)
      let asked := if d = 1 then grpEn t (lHalf l) g && grpSpin t (lHalf l) g else stnObject t (lightPort t l) (lightStn t l)
      if turns && asked && stnObject t (lightPort t l) (lightStn t l) && !spinPending t l 4 && cmdRoom t l &&
        apuState t (lightPort t l) == asACTIVE then spinDown l t else t) s

/-- Entry to DRAIN (R563-R565). -/
def drainEnter (target : Nat) (s : State) : State :=
  let s1 := bump pgKeeper R.KEEPER_CNT_DRAIN (psSet psDRAIN (wr pgKeeper R.KP_PWR_STAT_TARGET target
    (keeperMod (fun k => { k with late := false }) s)))
  let s2 := [Half.west, .east].foldl (fun t h => ((t.place.at h).jobs.map (·.1)).foldl (fun u j => gessoAbort h j u) t) s1
  let s3 := [Half.west, .east].foldl (fun t h =>
    (((t.sched.at h).streams.filter (fun p => p.2.open_)).map (·.1)).foldl (fun u i => streamClose h i u) t) s2
  vecDrain (drainSpin s3)

/-- R467 lets the device leave for SLEEP. -/
def mayLeave (s : State) : Bool := vecsDelivered s && !s.lan.asleep

/-- A start is in progress: some half that is not FAILED is not yet RUNNING, HALTED or SINGLE (R612). -/
def startBusy (s : State) : Bool :=
  [Half.west, .east].any (fun h =>
    let st := halfState s h
    st == hsSTARTING || (st == hsDOWN && s.boot.single != some h.twin))

/-- The KEEPER page can be reached by a path (R553). -/
def keeperReach (s : State) (path : Path) : Bool :=
  match path with
  | .smbus => s.boot.keeperUp
  | _ => s.boot.keeperUp && (mgmtUp s .west || mgmtUp s .east)

/-- KP_PWR_CMD with GO = 1 (R563, R612). -/
def pwrCmd (t : Nat) (path : Path) (s : State) : State :=
  let st := power s
  let refuse := cfgReject pgKeeper R.KP_PWR_CMD_TARGET.off 3 .live (some path) s
  if t = st then s
  else if t = psACTIVE then wake (if path = .smbus then 2 else 1) 0 s
  else if t = psDRAIN ∨ psACTIVE < t then refuse
  else if st = psACTIVE then if startBusy s then refuse else drainEnter t s
  else if st = psDRAIN then wr pgKeeper R.KP_PWR_STAT_TARGET t s
  else if t = psQUIET then refuse
  else if st = psQUIET then if mayLeave s then sleepEnter t s else refuse
  else if st = psSLEEP then psSet psOFF (mainEnSet false (wr pgKeeper R.KP_PWR_STAT_TARGET t s))
  else refuse

/-- DRAIN_WAIT: the conditions of R566 that do not hold, bit 0 for bit 40 of the register. -/
def drainWait (s : State) : Nat :=
  let halves := [Half.west, .east]
  let b := fun (i : Nat) (c : Bool) => if c then 2 ^ i else 0
  b 0 (s.dikar.ops.any (·.slot)) +
  b 1 (halves.any (fun h => !(s.coll.at h).recs.isEmpty)) +
  b 2 (halves.any (fun h => (s.sched.at h).events.any (fun e => e.st != .held && e.st != .fixed) ||
    (s.sched.at h).cmds.any (fun c => c.op == 4))) +
  b 3 (halves.any (fun h => (s.sched.at h).streams.any (fun p => p.2.open_)) ||
    s.lights.any (fun p => p.2.bound && p.2.unitState == 8)) +
  b 4 (halves.any (fun h => !(s.cross.at h).accs.isEmpty) || s.apu.any (fun p => p.2.lock.isSome)) +
  b 5 (!vecsDelivered s) +
  b 6 (s.fiu.any (fun p => !p.2.sent.isEmpty)) +
  b 7 (s.lan.asleep && decide (rd s pgKeeper R.KP_PWR_STAT_TARGET < psQUIET))

/-- Every drain condition holds: QUIET, or SLEEP and on to OFF (R563, R566, R567). -/
def drained (s : State) : State :=
  if power s ≠ psDRAIN ∨ drainWait s ≠ 0 then s
  else
    let t := rd s pgKeeper R.KP_PWR_STAT_TARGET
    if t = psQUIET then fabricLpi true (psSet psQUIET s)
    else if mayLeave s then sleepEnter t s
    else s

/-- DRAIN has lasted DRAIN_TMO (R566). -/
def drainTimeout (s : State) : State :=
  if power s = psDRAIN ∧ ¬ s.keeper.late then
    kpRaise 1 (bump pgKeeper R.KEEPER_CNT_DRAIN_LATE (keeperMod (fun k => { k with late := true }) s))
  else s

/-- KP_TIME has reached AT while EN is 1 (R568, R572). -/
def wakeTimer (s : State) : State :=
  if rdB s pgKeeper R.KP_WAKE_TMR_EN ∧ rd s pgKeeper R.KP_TIME = rd s pgKeeper R.KP_WAKE_TMR_AT then
    wake 4 0 (wr pgKeeper R.KP_WAKE_TMR_EN 0 s)
  else s

/-! Samples and filters (R555, R556). -/

/-- The value of an input's sample, before INV. -/
def sampleOf (x : KeeperSample) (i : Nat) : Int :=
  match i with
  | 0 => x.tempW
  | 1 => x.tempE
  | 2 => x.tempEasel
  | 3 => x.flow
  | 4 => x.vddCore
  | 5 => x.vddEasel
  | 6 => x.vddSerdes
  | 7 => x.vddKeep
  | _ => if x.alarms.toNat.testBit (i - 8) then 1 else 0

/-- The low 16 bits of a value. -/
def low16 (v : Int) : Nat := (v % 65536).toNat

/-- The signed reading of 16 bits. -/
def signed16 (v : Nat) : Int := if v < 32768 then v else (v : Int) - 65536

def inV (s : State) (f : Fld) (i : Nat) : Nat := rdI s pgKeeper f i
def inPut (f : Fld) (i v : Nat) (s : State) : State := wrI pgKeeper f i v s

/-- A valid sample of inputs 0 to 7 joins the moving average (R556). -/
def meanIn (i : Nat) (v : Int) (s : State) : State :=
  let old := tget [] s.keeper.wins i
  let win := if inV s R.KP_IN_VIEW_VALID i = 0 then List.replicate 128 v else (v :: old).take 128
  let n := 2 ^ inV s R.KP_IN_CFG_AVG_LOG2 i
  let mean := ((win.take n).foldl (fun a b => a + b) 0).tdiv n
  inPut R.KP_IN_VIEW_FILT i (low16 mean) (keeperMod (fun k => { k with wins := tput [] k.wins i win }) s)

/-- A sample of inputs 8 to 23 passes the debounce (R556). -/
def debounceIn (i v : Nat) (s : State) : State :=
  let set := fun (n : Nat) (t : State) => keeperMod (fun k => { k with debs := tput 0 k.debs i n }) t
  if v = inV s R.KP_IN_VIEW_FILT i then set 0 s
  else
    let n := tget 0 s.keeper.debs i + 1
    if inV s R.KP_IN_CFG_DEB i + 1 ≤ n then inPut R.KP_IN_VIEW_FILT i v (set 0 s) else set n s

/-- One input is sampled (R555, R574). -/
def sampleIn (x : KeeperSample) (s : State) (i : Nat) : State :=
  if i < 3 ∧ power s ≤ psSLEEP then
    let s1 := inPut R.KP_IN_VIEW_VALID i 0 s
    if inV s R.KP_IN_VIEW_VALID i = 1 ∧ psQUIET ≤ power s then kpRaise 6 s1 else s1
  else
    let v := sampleOf x i
    let w := if i < 8 then v else if inV s R.KP_IN_CFG_INV i = 1 then 1 - v else v
    let s1 := if i < 8 then meanIn i w s else debounceIn i w.toNat s
    inPut R.KP_IN_VIEW_VALID i 1 (inPut R.KP_IN_VIEW_RAW i (low16 w) s1)

/-! Rules (R557-R560). -/

def ruV (s : State) (f : Fld) (r : Nat) : Nat := rdI s pgKeeper f r

/-- MATCH of rule `r` after this pass; `st` is the power state at its start (R557, R558). -/
def ruleMatch (s : State) (st r : Nat) : Bool :=
  let i := ruV s R.KP_RULE_0_INPUT r
  let num := fun (v : Nat) => if i < 3 then signed16 v else (v : Int)
  let v := num (inV s R.KP_IN_VIEW_FILT i)
  let t := num (ruV s R.KP_RULE_0_THRESH r)
  let hy : Int := ruV s R.KP_RULE_1_HYST r
  let was := ruV s R.KP_RULE_1_MATCH r == 1
  if ruV s R.KP_RULE_0_EN r = 0 ∨ !(ruV s R.KP_RULE_0_STATES r).testBit st ∨ 24 ≤ i ∨ inV s R.KP_IN_VIEW_VALID i = 0 then false
  else
    match ruV s R.KP_RULE_0_OP r with
    | 0 => decide (t ≤ v) || (was && !decide (v < t - hy))
    | 1 => decide (v ≤ t) || (was && !decide (t + hy < v))
    | 2 => decide (v = 1) || (was && !decide (v = 0))
    | _ => false

/-- One entry of the Keeper log; a full log discards it (R560, R574). -/
def kpLog (payload : Nat) (s : State) : State :=
  let seq := s.keeper.logSeq
  let s1 := keeperMod (fun k => { k with logSeq := (seq + 1) % 128 }) s
  if s.keeper.log.length < 256 then
    let s2 := keeperMod (fun k => { k with log := k.log ++ [(seq, payload)] }) s1
    if s.keeper.log.isEmpty then kpRaise 4 s2 else s2
  else kpRaise 5 (wr pgKeeper R.KP_LOG_STAT_LOST (min (rd s pgKeeper R.KP_LOG_STAT_LOST + 1) (2 ^ 32 - 1)) s1)

/-- The payload of a rule's log entry (R560). -/
def logPayload (s : State) (st r : Nat) (rising : Bool) : Nat :=
  let i := ruV s R.KP_RULE_0_INPUT r
  r * 2 ^ 50 + i * 2 ^ 45 + bit rising * 2 ^ 44 + st * 2 ^ 41 + inV s R.KP_IN_VIEW_FILT i * 2 ^ 25 +
    rd s pgKeeper R.KP_TIME % 2 ^ 25

/-- The log entry and the count of a rule whose MATCH goes from `was` to `now` (R559). -/
def ruleEdge (st : Nat) (s : State) (e : Nat × Bool × Bool) : State :=
  let (r, was, now) := e
  let logs := ruV s R.KP_RULE_0_ACT_LOG r == 1
  let s1 := wrI pgKeeper R.KP_RULE_1_MATCH r (bit now) s
  if now && !was then
    let s2 := bump pgKeeper R.KEEPER_CNT_RULE_EDGE s1
    if logs then kpLog (logPayload s st r true) s2 else s2
  else if was && !now && logs && ruV s R.KP_RULE_0_LOG_FALL r == 1 then kpLog (logPayload s st r false) s1
  else s1

/-- The ports that a rule's PORT names, as a mask (R559). -/
def portMask (p : Nat) : Nat := if p = 0x7F then 2 ^ 64 - 1 else if p < 64 then 2 ^ p else 0

/-- WAKE_OUT_N and the holds follow the rules' demands (R559). -/
def ruleLevels (s : State) : State :=
  let on := fun (f : Fld) => (List.range 64).filter (fun r => ruV s R.KP_RULE_1_MATCH r == 1 && ruV s f r == 1)
  let out := !(on R.KP_RULE_0_ACT_WAKE_OUT).isEmpty
  let hold := (on R.KP_RULE_0_ACT_HOLD).foldl (fun m r => m ||| portMask (ruV s R.KP_RULE_0_PORT r)) 0
  let s1 := if out = rdB s pgKeeper R.KP_OUT_BY_RULE then s else wakeOut (wr pgKeeper R.KP_OUT_BY_RULE (bit out) s)
  holdsChanged (rd s pgKeeper R.KP_HOLD_PORTS) (wr pgKeeper R.KP_HOLD_PORTS hold s1)

/-! The protective trip (R571, R617). -/

/-- The trip conditions as one sample shows them, in the order of TRIP_CAUSE: three temperatures, flow, three supplies. -/
def tripSeen (s : State) (x : KeeperSample) (i : Nat) : Bool :=
  let warm := decide (psQUIET ≤ power s)
  let on := s.boot.mainEn && s.boot.supplies
  match i with
  | 0 => warm && decide (1840 ≤ x.tempW)
  | 1 => warm && decide (1840 ≤ x.tempE)
  | 2 => warm && decide (1840 ≤ x.tempEasel)
  | 3 => rd s pgKeeper R.KP_TRIP_FLOW_MIN != 0 && decide (x.flow < rd s pgKeeper R.KP_TRIP_FLOW_MIN)
  | 4 => on && decide (x.vddCore < 665 ∨ 735 < x.vddCore)
  | 5 => on && decide (x.vddEasel < 1067 ∨ 1133 < x.vddEasel)
  | _ => on && decide (x.vddSerdes < 776 ∨ 824 < x.vddSerdes)

/-- Consecutive passes after which a condition trips. -/
def tripLimit (s : State) (i : Nat) : Nat := if i = 3 then max 1 (rd s pgKeeper R.KP_TRIP_FLOW_MS) else 4

/-- The passes of each condition are counted; the first that has lasted long enough. -/
def tripCount (x : KeeperSample) (s : State) : State × Option Nat :=
  let ns := (List.range 7).map (fun i => (i, if tripSeen s x i then tget 0 s.keeper.trips i + 1 else 0))
  let hit := (ns.find? (fun p => decide (tripLimit s p.1 ≤ p.2))).map (·.1)
  (keeperMod (fun k => { k with trips := ns.filter (fun p => p.2 != 0), tripNow := hit.isSome }) s, hit)

/-- The Keeper trips: both halves are reset, MAIN_EN goes low, the state is OFF (R571). -/
def trip (i : Nat) (s : State) : State :=
  psSet psOFF (mainEnSet false (bothDown (wr pgKeeper R.KP_PWR_STAT_TRIP_CAUSE (i + 1)
    (keeperMod (fun k => { k with tripDue := true }) s))))

/-! The pass (R557). -/

/-- The Keeper's pass of one millisecond (R555-R559, R571, R572). -/
def keeperPass (x : KeeperSample) (s : State) : State :=
  if !s.boot.keeperUp then s
  else
    let P := pgKeeper
    let st := power s
    let s1 := boundary P (fun _ => true) (wr P R.KP_TIME (rd s P R.KP_TIME + 1) s)
    let s2 := (List.range 24).foldl (sampleIn x) s1
    let es := (List.range 64).map (fun r => (r, ruV s2 R.KP_RULE_1_MATCH r == 1, ruleMatch s2 st r))
    let s3 := ruleLevels (es.foldl (ruleEdge st) s2)
    let (s4, hit) := tripCount x s3
    match hit with
    | some i => if st = psOFF then s4 else trip i s4
    | none =>
      let ups := es.filter (fun e => e.2.2 && !e.2.1 && ruV s4 R.KP_RULE_0_ACT_WAKE e.1 == 1)
      let s5 := ups.foldl (fun t e => wake 3 e.1 t) s4
      if power s5 = psDRAIN then drainSpin s5 else s5

/-! Queries and the log (R560, R561). -/

/-- KP_QUERY SNAPSHOT (R561). -/
def kpSnapshot (path : Path) (s : State) : State :=
  if power s ≤ psSLEEP then cfgReject pgKeeper R.KP_QUERY_OP.off 3 .live (some path) s
  else pushResult 0 8 true ((List.range 24).map (fun i =>
    i * 2 ^ 51 + inV s R.KP_IN_VIEW_VALID i * 2 ^ 50 + inV s R.KP_IN_VIEW_RAW i * 2 ^ 32 + inV s R.KP_IN_VIEW_FILT i)) s

/-- A word popped from a queue: VALID, sequence number, payload (R16, R507). -/
def popWord (seq payload : Nat) : Nat := 2 ^ 63 + seq % 128 * 2 ^ 56 + payload % 2 ^ 56

/-- One word of the Keeper log is removed (R12, R560). -/
def kpPop (s : State) : State × Nat :=
  match s.keeper.log with
  | [] => (s, 0)
  | (q, p) :: r => (keeperMod (fun k => { k with log := r }) s, popWord q p)

end Sys2Proof.Machine
end

