-- ==== Sys2Proof/Machine/Host.lean ====
section
/-!
DEFINITION. The host port (chapter 15): result queues and page logs, the data port, resets and links of the PCIe
function, and the TAP.
-/
namespace Sys2Proof.Machine

/-! Result queues and page logs (R501, R505-R507). -/

/-- The number of a result queue: HOST, or a half's. -/
def resNum (q : Option Half) : Nat :=
  match q with
  | none => 0
  | some h => resOf h

/-- One word of a result queue is removed; RESULT_INFO follows it (R507). -/
def resPop (q : Nat) (s : State) : State × Nat :=
  let r := tget {} s.results q
  match r.words with
  | [] => (s, 0)
  | w :: ws =>
    let P := resPage q
    let s1 := { s with results := tput {} s.results q { r with words := ws } }
    (wr P R.RESULT_INFO_HEADER (bit w.header) (wr P R.RESULT_INFO_KIND w.kind (wr P R.RESULT_INFO_INDEX w.index
      (wr P R.RESULT_INFO_COUNT w.count s1))), popWord w.seq w.payload)

/-- A flush empties a result queue (R506, R507). -/
def resFlush (q : Nat) (s : State) : State :=
  { s with results := tput {} s.results q { tget {} s.results q with words := [] } }

/-- The oldest unread entry of a page log is removed (R12, R501). -/
def logPop (P : Nat) (s : State) : State × Nat :=
  let l := tget {} s.logs P
  match l.entries with
  | [] => (s, 0)
  | (q, p) :: r => ({ s with logs := tput {} s.logs P { l with entries := r } }, popWord q p)

/-- The value of a popped word goes back to its reader. -/
def answer (path : Path) (x : State × Nat) : State := emit (.answer (pathCode (some path)) x.2) x.1

/-! What the data port reads (R361, R367, R369, R372, R389, R391, R511). -/

/-- Bytes of little-endian 64-bit words. -/
def wordBytes (ws : List Nat) : List Byte := (ws.map (fun w => leBytes 8 w)).flatten

/-- A name entry's eight words (R277). -/
def nameWords (e : NameEnt) : List Nat :=
  if !e.used then List.replicate 8 0
  else
    let ws := [e.name, e.objId, e.size, e.gen * 2 ^ 32 + e.group * 2 ^ 24 + (if e.tomb then 2 else 1) * 2 ^ 22 + e.creator,
      e.created, e.modified, 0]
    ws ++ [crc32c (wordBytes ws ++ zeros 4)]

/-- A map entry's four words (R253). -/
def mapWords (e : MapEnt) : List Nat :=
  let w1 := e.stripe * 2 ^ 28 + e.member * 2 ^ 23 + e.k * 2 ^ 18 + e.m * 2 ^ 15 + e.strip * 2 ^ 11 + e.group * 2 ^ 3 +
    (if e.lost then 2 else 1)
  let w2 := e.light * 2 ^ 50 + e.kind * 2 ^ 48 + e.track * 2 ^ 16 + e.slot * 2 ^ 10
  [e.obj, w1, w2, e.gen * 2 ^ 32 + crc32c (wordBytes [e.obj, w1, w2] ++ leBytes 4 e.gen)]

/-- The byte at offset `o` of a list of words' bytes. -/
def wordsByte (ws : List Nat) (o : Nat) : Byte := ((wordBytes ws)[o]?).getD 0

/-- A byte of Easel as the data port reads it. Regions whose layout the spec does not give read as free values. -/
def ezView (s : State) (a : Nat) : Byte :=
  let h := if a < 2 ^ 40 then Half.west else Half.east
  let o := a % 2 ^ 40
  let free := Config.easelByte a s.freeSeq
  let r := regionOf s o
  let b := o - regionBase s r
  let x := s.place.at h
  match r with
  | 0 =>
    if 0x100000 ≤ o ∧ o < 0x200000 then ezByte s a
    else if 0x300000 ≤ o ∧ o < 0x320000 then wordsByte (tget [] x.elog ((o - 0x300000) / 32)) (o % 32)
    else if 0x400000 ≤ o ∧ o < 0x600000 then
      match x.lost[(o - 0x400000) / 32]? with
      | some l => wordsByte [l.obj, l.off, l.len, l.gen] (o % 32)
      | none => 0
    else free
  | 3 => wordsByte (nameWords (nameAt s (b / 64))) (b % 64)
  | 4 =>
    match x.map[b / 32]? with
    | some e => wordsByte (mapWords e) (b % 32)
    | none => 0
  | 5 =>
    match trackOwner s h b with
    | some (l, y) => wordsByte [trackWord s l (y / 8)] (y % 8)
    | none => 0
  | 1 => free
  | 2 => free
  | _ => ezByte s a

/-- A byte of a half's on-die SRAM (R178, R511). -/
def sramByte (s : State) (h : Half) (o : Nat) : Byte :=
  if 0x100000 ≤ o ∧ o < 0x120000 then wordsByte (tget [] (s.cross.at h).pwLog ((o - 0x100000) / 32)) (o % 32)
  else if 0x120000 ≤ o ∧ o < 0x128000 then wordsByte (tget [] (s.cross.at h).farLog ((o - 0x120000) / 32)) (o % 32)
  else if 0x800000 ≤ o ∧ o < 0x1000000 then cellGet (h.num * 0x800000 + (o - 0x800000)) s.stage
  else 0

/-! The data port (R509-R515). -/

def dpMod (id : Nat) (f : DpAcc → DpAcc) (s : State) : State :=
  { s with dp := s.dp.map (fun a => if a.id = id then f a else a) }

def dpGet (s : State) (id : Nat) : Option DpAcc := s.dp.find? (fun a => a.id == id)

def dpDrop (id : Nat) (s : State) : State := { s with dp := s.dp.filter (fun a => a.id != id) }

/-- A failed access is counted and the first one kept (R513). -/
def dpError (code addr : Nat) (s : State) : State :=
  let P := pgDataPort
  let s1 := wr P R.DP_STAT_ERR_COUNT (min (rd s P R.DP_STAT_ERR_COUNT + 1) (2 ^ 32 - 1)) s
  let s2 := raise pgHost 3 (bump pgHost R.HOST_CNT_DP_ERR s1)
  if rdB s P R.DP_STAT_ERR_VALID then s2
  else wr P R.DP_STAT_ERR_VALID 1 (wr P R.DP_STAT_ERR_CODE code (wr P R.DP_ERR_ADDR addr s2))

/-- What a read returns goes to its reader (R510, R513, R514). -/
def dpReply (a : DpAcc) (data : List Byte) (s : State) : State :=
  if a.bar2 then emit (.bytes data) s else emit (.answer a.path (leNat data)) s

/-- An access that fails: a read returns all ones; a write of which words were sent stays until WR_HOLD has passed
(R512, R513). -/
def dpFail (a : DpAcc) (code : Nat) (s : State) : State :=
  let s1 := dpError code a.addr s
  if !a.write then dpDrop a.id (dpReply a (List.replicate a.size 255) s1)
  else if a.parts.any (fun p => p.st == .sent) then dpMod a.id (fun x => { x with fail := some code }) s1
  else dpDrop a.id s1

/-- The half and the offset in it of an address of space 0 or 2. -/
def dpHalf (a : DpAcc) : Half :=
  if (if a.space = 0 then a.addr / 2 ^ 40 else a.addr / 2 ^ 24) % 2 = 0 then .west else .east

/-- The last byte of an access. -/
def dpLast (a : DpAcc) : Nat := a.addr + a.size - 1

/-- The address is out of range: a bit outside the listed fields is set, or its half is not up (R509). -/
def dpRange (s : State) (a : DpAcc) : Bool :=
  match a.space with
  | 0 => decide (2 ^ 41 ≤ dpLast a) || !halfUp s (dpHalf a)
  | 1 => decide (2 ^ 46 ≤ dpLast a)
  | 2 => decide (2 ^ 25 ≤ dpLast a) || !halfUp s (dpHalf a)
  | _ => true

/-- A write lies whole within a policy region (R367, R372). -/
def inPolicy (a : DpAcc) : Bool :=
  decide (a.addr / 2 ^ 40 = dpLast a / 2 ^ 40 ∧ 0x100000 ≤ a.addr % 2 ^ 40 ∧ dpLast a % 2 ^ 40 < 0x200000)

/-- A write lies whole within a staging area (R511). -/
def inStaging (a : DpAcc) : Bool :=
  decide (a.addr / 2 ^ 24 = dpLast a / 2 ^ 24 ∧ 0x800000 ≤ a.addr % 2 ^ 24)

def dpPort (a : DpAcc) : Nat := bits a.addr 45 40
def dpStn (a : DpAcc) : Nat := bits a.addr 39 36

/-- Why an access fails before it starts (R512, R513). -/
def dpRefusal (s : State) (a : DpAcc) : Option Nat :=
  if dpRange s a then some 1
  else if a.addr % (if a.bar2 then 4 else a.size) ≠ 0 then some 2
  else
    match a.space with
    | 0 => if a.write && !inPolicy a then some 3 else none
    | 1 =>
      if a.write && (stnObject s (dpPort a) (dpStn a) || !(rd s pgProtect R.PR_ATN_WREN_MASK).testBit (dpPort a)) then some 3
      else tgtDead s (dpPort a) (dpStn a)
    | _ => if a.write && !inStaging a then some 3 else none

/-- The enabled bytes of a write, with their addresses. -/
def dpBytes (a : DpAcc) : List (Nat × Byte) :=
  (((List.range a.size).zip (a.ben.zip a.data)).filter (fun x => x.2.1)).map (fun x => (a.addr + x.1, x.2.2))

/-- The parts of an access in the Atnen space: one transaction by DP_DATA; through BAR2 split as Palette traffic is
(R142, R143, R512). -/
def dpParts (a : DpAcc) : List DpPart :=
  let base := a.addr % 2 ^ 36
  if a.write then
    let whole := a.ben.all (fun b => b)
    let ws := if whole then splitWr (a.size + 1) base a.data
      else ((List.range (a.size / 4)).filterMap (fun i =>
        let en := (a.ben.drop (4 * i)).take 4
        let be := ((List.range 4).map (fun j => if (en[j]?).getD false then 2 ^ (3 - j) else 0)).sum
        if be = 0 then none
        else some (⟨txWR, base + 4 * i, 1, be, (a.data.drop (4 * i)).take 4, [], false, .idle⟩ : APart)))
    ws.map (fun p => { addr := p.addr, words := p.words, be := p.be, data := p.data })
  else
    (burstsOf base (List.range (a.size / 4))).map (fun b => { addr := b.1, words := b.2, be := 15, data := [] })

/-- The transaction of a part (R123, R512). -/
def dpTxn (a : DpAcc) (i : Nat) (p : DpPart) : Txn :=
  ⟨if a.write then txWR else txRD, dpStn a, p.words, p.be, p.addr, p.data, .dp a.id i⟩

/-- An access starts (R510-R514). A write of Easel outside the policy regions raises DP_DENY (R372). -/
def dpStart (a : DpAcc) (s : State) : State :=
  match dpRefusal s a with
  | some c => dpFail a c (if a.write && a.space == 0 && !dpRange s a && !inPolicy a then
      raise (pgEasel (dpHalf a)) 7 s else s)
  | none =>
    match a.space with
    | 0 =>
      if a.write then dpDrop a.id ((dpBytes a).foldl (fun t x => ezWrite x.1 [x.2] t) (ezStore a.addr (ezRead s a.addr a.size) s))
      else
        dpDrop a.id (dpReply a ((List.range a.size).map (fun i => ezView s (a.addr + i))) { s with freeSeq := s.freeSeq + 1 })
    | 1 =>
      let ps := dpParts a
      let s1 := dpMod a.id (fun x => { x with started := true, parts := ps }) s
      if ps.isEmpty then dpDrop a.id s1
      else pushTxns (dpPort a) .mgmt (ps.zipIdx.map (fun x => dpTxn a x.2 x.1)) s1
    | _ =>
      let h := dpHalf a
      if a.write then
        dpDrop a.id { s with stage := (dpBytes a).foldl (fun m x =>
          cellPut (h.num * 0x800000 + (x.1 % 2 ^ 24 - 0x800000)) x.2 m) s.stage }
      else dpDrop a.id (dpReply a ((List.range a.size).map (fun i => sramByte s h (a.addr % 2 ^ 24 + i))) s)

/-- The first access that may start: accesses start in arrival order, a read only once every earlier write has completed
or failed (R510). -/
def dpNext : List DpAcc → Bool → Option DpAcc
  | [], _ => none
  | a :: r, writes =>
    if a.started then dpNext r (writes || (a.write && a.fail.isNone))
    else if a.write || !writes then some a else none

/-- WR_HOLD of the half of A[n] in ns; values below 22 µs act as 22 µs (R173, R193). -/
def wrHoldNs (s : State) (n : Nat) : Nat := max 22 (rd s (pgCrossing (aHalf n)) R.CX_CTRL_WR_HOLD) * 1000

/-- Writes whose WR_HOLD has passed are over (R512). -/
def dpHeldOver (s : State) : State :=
  { s with dp := s.dp.filter (fun a => !a.holdFrom.any (fun t => decide (t + wrHoldNs s (dpPort a) ≤ s.clk))) }

def dpGo : Nat → State → State
  | 0, s => s
  | k + 1, s =>
    match dpNext s.dp false with
    | some a => dpGo k (dpStart a s)
    | none => s

/-- The data port goes as far as it can. -/
def dpRun (s : State) : State :=
  if s.dp.isEmpty then s
  else
    let s1 := dpHeldOver s
    dpGo s1.dp.length s1

/-- Another access. -/
def dpArrive (bar2 write : Bool) (space addr size : Nat) (data : List Byte) (ben : List Bool) (s : State) : State :=
  let a : DpAcc := { id := s.nextDp, bar2, write, path := 0, space, addr, size, data, ben }
  dpRun { s with dp := s.dp ++ [a], nextDp := s.nextDp + 1 }

def dpPartMod (i : Nat) (f : DpPart → DpPart) (a : DpAcc) : DpAcc :=
  { a with parts := a.parts.zipIdx.map (fun x => if x.2 = i then f x.1 else x.1) }

/-- A transaction of a write has been sent; with the last WR_HOLD runs (R512). -/
def dpSent (id i : Nat) (s : State) : State :=
  let s1 := dpMod id (dpPartMod i (fun p => { p with st := .sent })) s
  match dpGet s1 id with
  | some a =>
    if a.write && a.parts.all (fun p => p.st == .sent) then dpMod id (fun x => { x with holdFrom := some s.clk }) s1 else s1
  | none => s1

/-- A transaction of a read has its answer; the last completes the read (R510, R512). -/
def dpRead (id i : Nat) (data : List Byte) (s : State) : State :=
  let s1 := dpMod id (dpPartMod i (fun p => { p with st := .done, data := data })) s
  match dpGet s1 id with
  | some a =>
    if a.parts.all (fun p => p.st == .done) then dpRun (dpDrop id (dpReply a ((a.parts.map (·.data)).flatten) s1)) else s1
  | none => s1

/-- A transaction of an access has failed, or was lost unsent (R513). -/
def dpLost (id i code : Nat) (s : State) : State :=
  let s1 := dpMod id (dpPartMod i (fun p => { p with st := .failed })) s
  match dpGet s1 id with
  | some a =>
    if a.fail.isSome then s1
    else
      let s2 := dpFail a code s1
      dpRun (if a.write then dpMod id (fun x => { x with holdFrom := some s.clk }) s2 else s2)
  | none => s1

/-- An attributed WR_ERR of A[n]: the write that covers the address fails (R174, R512). -/
def dpWrErr (n v : Nat) (s : State) : State :=
  let addr := v % 2 ^ 36
  let stn := bits v 39 36
  match s.dp.find? (fun a => a.write && a.space == 1 && dpPort a == n && dpStn a == stn && a.fail.isNone &&
      a.parts.any (fun p => p.st == .sent && decide (p.addr ≤ addr ∧ addr < p.addr + 4 * p.words))) with
  | some a => dpRun (dpFail a (v / 2 ^ 40) s)
  | none => s

/-- What an Atnen port tells the data port. -/
def dpMail (m : Mail) (s : State) : State :=
  match m with
  | .rdDone (.dp id i) _ data => dpRead id i data s
  | .rdFail (.dp id i) _ c => dpLost id i c s
  | .sent (.dp id i) _ => dpSent id i s
  | .lost (.dp id i) n c => if 2 ^ 40 ≤ c then dpWrErr n c s else dpLost id i c s
  | _ => s

/-- An access of DP_DATA: it moves 4 or 8 bytes at DP_ADDR and steps DP_ADDR on (R510). -/
def dpData (write wide : Bool) (v : Nat) (s : State) : State :=
  let P := pgDataPort
  let n := if wide then 8 else 4
  let a := rd s P R.DP_ADDR
  let s1 := wr P R.DP_ADDR ((a + 4 * rd s P R.DP_STRIDE) % 2 ^ 64) s
  dpArrive false write (rd s P R.DP_CFG_SPACE) a n (leBytes n v) (List.replicate n true) s1

/-- An access of BAR2 at window offset `o`; a read longer than 512 bytes is not served (R481, R514). -/
def dpBar2 (write : Bool) (o : Nat) (ben : List Bool) (data : List Byte) (s : State) : State :=
  let n := ben.length
  let P := pgDataPort
  if 512 < n ∧ ¬ write then emit .unsupported (barErr 3 o s)
  else if n = 0 then s
  else dpArrive true write (rd s P R.DP_WIN_SPACE) (rd s P R.DP_WIN_BASE * 2 ^ 20 + o) n (fit n data) ben s

/-- DP_CLR (R515). -/
def dpClear (s : State) : State :=
  clearAll pgDataPort [R.DP_STAT_ERR_VALID, R.DP_STAT_ERR_CODE, R.DP_STAT_ERR_COUNT, R.DP_ERR_ADDR] s

/-! The PCIe function (R483, R484, R597). -/

/-- Every vector is IDLE with COUNT 0 (R483). -/
def vecsClear (s : State) : State :=
  (List.range 64).foldl (fun t v => wrI pgLantern R.LAN_VEC_STAT_COUNT v 0 (wrI pgLantern R.LAN_VEC_STAT_STATE v vsIDLE t)) s

/-- What a Function Level Reset returns to reset (R483); the link keeps its state. -/
def funcReset (s : State) : State :=
  let up := rd s pgHost R.HP_LINK_UP
  let w := rd s pgHost R.HP_LINK_WIDTH
  let v := rd s pgHost R.HP_LINK_SPEED
  let s1 := vecsClear (lanMod (fun l => { fab := l.fab, evtq := l.evtq, evtHeld := l.evtHeld }) s)
  let s2 := resetPages (fun P => P == pgHost || P == pgDataPort) { s1 with results := tput {} s1.results 0 {}, dp := [] }
  let s3 := wr pgHost R.HP_LINK_UP up (wr pgHost R.HP_LINK_WIDTH w (wr pgHost R.HP_LINK_SPEED v s2))
  if rdB s pgLantern R.LAN_STAT_WAKE_OUT then
    wakeOut (wr pgKeeper R.KP_OUT_BY_LANTERN 0 (wr pgLantern R.LAN_STAT_WAKE_OUT 0 s3))
  else s3

/-- A Function Level Reset (R483, R504). -/
def flr (s : State) : State := raise pgHost 5 (funcReset s)

/-- The PCIe link goes down: DUE vectors are held (R484). -/
def linkDown (s : State) : State :=
  if !rdB s pgHost R.HP_LINK_UP then s
  else hostHold (bump pgHost R.HOST_CNT_LINK_DOWN (wr pgHost R.HP_LINK_UP 0 (wr pgHost R.HP_LINK_WIDTH 0
    (wr pgHost R.HP_LINK_SPEED 0 (wr pgHost R.HP_LINK_L1 0 s)))))

/-- The PCIe link trains: with the function in D0 and PME_Status 0, held messages are sent (R484, R504). -/
def linkUp (width speed : Nat) (s : State) : State :=
  if rdB s pgHost R.HP_LINK_UP || leadHalf s == none then s
  else
    let s1 := wr pgHost R.HP_LINK_UP 1 (wr pgHost R.HP_LINK_WIDTH width (wr pgHost R.HP_LINK_SPEED speed s))
    let s2 := raiseIf (decide (width < 4 ∨ speed < 5)) pgHost 4 s1
    if rd s pgHost R.HP_LINK_DSTATE = 0 ∧ ¬ s.lan.pmeStatus then hostResume (lanMod (fun l => { l with asleep := false }) s2)
    else s2

/-- PERST_N low: the endpoint is reset as by a Function Level Reset, and the link retrains; without the main supplies
it has no effect (R597, R623). -/
def perst (s : State) : State := if s.boot.supplies then linkDown (funcReset s) else s

/-- A request that the function does not serve (R481, R504). -/
def barBad (x : BarBad) (off : Nat) (s : State) : State :=
  match x with
  | .other => emit .unsupported (barErr 1 off s)
  | .bar0Read => emit .unsupported (barErr 2 off s)
  | .bar0Write => barErr 2 off s
  | .bar2Read => emit .unsupported (barErr 3 off s)

/-! The TAP (R518-R520). -/

def tapMod (f : Tap → Tap) (s : State) : State := { s with tap := f s.tap }

/-- The instructions that take the balls: EXTEST, EXTEST_PULSE, EXTEST_TRAIN, CLAMP, HIGHZ (R520). -/
def takesBalls (ir : Nat) : Bool := [0, 4, 5, 6, 7].contains ir

/-- Every lane of every link sees loss of signal (R58, R97, R484, R520). -/
def lanesLost (s : State) : State :=
  let s1 := (List.range 16).foldl (fun t n =>
    if fiuState t n = fsACTIVE ∨ fiuState t n = fsRECOVER ∨ fiuState t n = fsLOWPWR then fiuDown n 1 t else t) s
  let s2 := (List.range 64).foldl (fun t n => if apuLive t n then apuDown n (some 1) t else t) s1
  linkDown s2

/-- Update-IR with opcode `ir`; without the main supplies the TAP is off (R518-R520). -/
def tapIr (ir : Nat) (s : State) : State :=
  if !s.boot.supplies then s
  else
    let s1 := tapMod (fun x => { x with ir := ir, undef := x.undef || (takesBalls x.ir && !takesBalls ir) }) s
    if takesBalls ir && !takesBalls s.tap.ir then lanesLost s1 else s1

/-- The word of the identification register: version 1, part 0x1664, the manufacturer's identity, 1 (R518). -/
def idcode : Nat := 0x1 * 2 ^ 28 + 0x1664 * 2 ^ 12 + Config.jtagMfr % 2 ^ 11 * 2 + 1

/-- IDCODE, with what its register captures (R518, R519). -/
def tapId (s : State) : State :=
  if s.boot.supplies then emit (.answer 4 idcode) (tapIr 1 s) else s

/-- The number of a list of levels, the first the lowest bit. -/
def levelsNat : List Bool → Nat
  | [] => 0
  | b :: r => bit b + 2 * levelsNat r

/-- SAMPLE/PRELOAD: the boundary register captures the levels at the balls, and takes the levels shifted in (R519). -/
def tapSample (levels load : List Bool) (s : State) : State :=
  if s.boot.supplies then emit (.answer 4 (levelsNat levels)) (tapMod (fun x => { x with cells := load }) (tapIr 2 s)) else s

/-- TRST_N: the TAP is reset and selects IDCODE (R519, R597). -/
def tapReset (s : State) : State := tapIr 1 s

end Sys2Proof.Machine
end

