-- ==== Sys2Proof/Machine/Reference.lean ====
section
/-!
DEFINITION. The reference inputs: PPS_IN, REF100 and holdover (R201, R202, R576-R579), and the tick of the timebase.
-/
namespace Sys2Proof.Machine

def timeMod (f : TimeRef → TimeRef) (s : State) : State := { s with time := f s.time }

/-- The low 32 bits of a signed number. -/
def signed32 (v : Int) : Nat := (v % 2 ^ 32).toNat

/-- One tick of the 1 GHz clock: how much a running copy of the timebase grows. While a slew is owed, one tick in each
100,000 is repeated or skipped (R201). -/
def tickBy (t : TimeRef) : Nat :=
  if t.slew = 0 ∨ t.slewTick + 1 < 100000 then 1 else if 0 < t.slew then 0 else 2

/-- What the slew holds after a tick (R201). -/
def tickSlew (t : TimeRef) : TimeRef :=
  if t.slew = 0 then t
  else if t.slewTick + 1 < 100000 then { t with slewTick := t.slewTick + 1 }
  else { t with slewTick := 0, slew := if 0 < t.slew then t.slew - 1 else t.slew + 1 }

/-- One nanosecond passes: what step does on an empty queue. DESIGN CHOICE. -/
def tick (s : State) : State :=
  let d := tickBy s.time
  let adv := fun (on : Bool) (v : Nat) => if on then (v + d) % 2 ^ 64 else v
  { s with clk := s.clk + 1, tb := ⟨adv s.time.run.west s.tb.west, adv s.time.run.east s.tb.east⟩,
           time := tickSlew s.time }

/-- The error of a capture: the capture less the nearest whole multiple of 1,000,000,000 (R201). -/
def ppsErr (c : Nat) : Int :=
  let m := c % 1000000000
  if m < 500000000 ∨ (m = 500000000 ∧ Config.ppsTie c) then m else (m : Int) - 1000000000

/-- A PPS_IN edge (R201, R578): captured to within 2 ns of the timebase; in holdover it is captured only (R202). -/
def ppsEdge (s : State) : State :=
  let P := pgTimebase
  if !rdB s P R.TB_CTRL_PPS_EN then s
  else
    let c := (now s + Config.ppsJitter s.freeSeq % 5 + 2 ^ 64 - 2) % 2 ^ 64
    let dist := s.time.lastPps.map (fun p => (c + 2 ^ 64 - p) % 2 ^ 64)
    let glitch := !s.time.freshPps && dist.any (fun d => decide (d < 999000000 ∨ 1001000000 < d))
    let s1 := wr P R.TB_STAT_PPS_OK 1 (wr P R.TB_PPS_CAP c { s with freeSeq := s.freeSeq + 1 })
    let s2 := timeMod (fun t => { t with lastPps := some c }) s1
    if glitch then bump P R.TIMEBASE_CNT_PPS_GLITCH s2
    else if !rdB s P R.TB_STAT_REF_OK then s2
    else
      let e := ppsErr c
      let s3 := wr P R.TB_STAT_PPS_ERR (signed32 e) (timeMod (fun t => { t with freshPps := false }) s2)
      if e.natAbs ≤ 1000000 then
        wr P R.TB_STAT_PPS_FAR 0 (timeMod (fun t => { t with slew := e }) s3)
      else raise P 3 (wr P R.TB_STAT_PPS_FAR 1 (timeMod (fun t => { t with slew := 0 }) s3))

/-- No PPS edge for 2 s (R201). -/
def ppsLost (s : State) : State :=
  let P := pgTimebase
  if rdB s P R.TB_CTRL_PPS_EN && rdB s P R.TB_STAT_PPS_OK then
    raise P 2 (wr P R.TB_STAT_PPS_OK 0 (timeMod (fun t => { t with slew := 0, freshPps := true }) s))
  else s

/-- Seconds of the present holdover (R579). -/
def holdSecs (s : State) : Nat := min (2 ^ 31 - 1) ((s.clk - s.time.holdFrom) / 1000000000)

/-- A half that runs step 3 waits for REF_OK, or goes on (R602). -/
def step3Ref (h : Half) (ok : Bool) (s : State) : State :=
  let b := s.boot.half h
  if b.state = hsSTARTING ∧ b.step = 3 ∧ (b.s3 = 1 ∨ b.s3 = 4) then
    bhMod h (fun b => { b with s3 := if ok then 1 else 4 }) s
  else s

/-- REF100 is judged missing (2) or off (3): holdover (R202, R576, R577). -/
def refLost (cause : Nat) (s : State) : State :=
  let P := pgTimebase
  if !rdB s P R.TB_STAT_REF_OK then s
  else
    let s1 := bump P R.TIMEBASE_CNT_HOLDOVER (wr P R.TB_STAT_HOLDOVER 1 (wr P R.TB_STAT_REF_OK 0 s))
    let s2 := raise P 0 (timeMod (fun t => { t with holdFrom := s.clk, slew := 0 }) s1)
    step3Ref .east false (step3Ref .west false (calRefLost cause .east (calRefLost cause .west s2)))

/-- REF_OK sets (R202, R576, R577). REF_BACK tells of a return from holdover. -/
def refBack (s : State) : State :=
  let P := pgTimebase
  let s1 := wr P R.TB_STAT_REF_OK 1 s
  let s2 :=
    if rdB s P R.TB_STAT_HOLDOVER then
      raise P 1 (wr P R.TB_STAT_HOLDOVER 0 (wr P R.TB_HOLD_HOLD_S (holdSecs s)
        (timeMod (fun t => { t with freshPps := true }) s1)))
    else s1
  step3Ref .east true (step3Ref .west true (calRefBack .east (calRefBack .west s2)))

/-- No REF100 edge for 200 ns (R576). -/
def refEdgeMissing (s : State) : State := refLost 2 (timeMod (fun t => { t with gateBad := true }) s)

/-- A gate of 1 ms shows REF100 `dev` hundredths of a ppm off (R576, R596); `edges` says that no edge was missing. -/
def refGate (dev : Int) (edges : Bool) (s : State) : State :=
  let P := pgTimebase
  let present := edges && !s.time.gateBad
  let good := present && decide (dev.natAbs ≤ 10000)
  let n := if good then min 65535 (rd s P R.TB_REF_MEAS_GOOD_GATES + 1) else 0
  let s1 := wr P R.TB_REF_MEAS_GOOD_GATES n (wr P R.TB_REF_MEAS_DEV (signed32 dev)
    (timeMod (fun t => { t with gateBad := false }) s))
  if good then if 64 ≤ n ∧ ¬ rdB s P R.TB_STAT_REF_OK then refBack s1 else s1
  else refLost (if present then 3 else 2) s1

/-- The holdover rate is learned (R579). -/
def holdMeasure (ppb : Int) (s : State) : State :=
  let P := pgTimebase
  if rdB s P R.TB_STAT_REF_OK && !rdB s P R.TB_STAT_HOLDOVER then
    wr P R.TB_HOLD_HOLD_VALID 1 (wr P R.TB_HOLD_HOLD_PPB (signed32 ppb) s)
  else s

/-- A 32-bit read of TB_NOW's low half: it returns it and latches the high half (R231). -/
def nowLow (path : Path) (s : State) : State :=
  emit (.answer (pathCode (some path)) (now s % 2 ^ 32))
    (timeMod (fun t => { t with nowLatch := some (now s / 2 ^ 32) }) s)

end Sys2Proof.Machine
end

