-- ==== Sys2Proof/Machine/Settle.lean ====
section
/-!
DEFINITION. What one unit tells another within a step is carried to its owner, and what waited for room comes in, until
nothing is left to say.
-/
namespace Sys2Proof.Machine

/-- A light that becomes LIT takes its place again: its members revive, waiting stripes and stripes that could not be read
are tried again, and a job that waits for it goes on (R255, R415, R417, R420). -/
def onLit (l : Nat) (s : State) : State :=
  gessoLight l (placeRetry (unreadableRetry .east (unreadableRetry .west (lightRevive l s))))

/-- A light that enters FAULT: its committed members are LOST, and REPAIR_DELAY starts (R252, R413). -/
def onFault (l : Nat) (s : State) : State :=
  gessoLight l (lightLost l true (pltMod l (fun x => { x with delayOver := false }) s))

/-- An event's end goes to its owner (R221, R254, R410, R420). -/
def onEvent (h : Half) (e : Event) (out : EvOut) (s : State) : State :=
  match e.owner with
  | .stripe id m => stripeEvDone h e id m out s
  | .plan id i => planEvDone e id i out s
  | .scrub l => scrubDone e l out s
  | .gesso j u => gessoEvDone h e j u false out s
  | .gessoRd j u => gessoEvDone h e j u true out s

/-- What a read tag brings goes to the operation that owns it (R78, R285). -/
def onTag (o : TagOwner) (data : Option (List Byte)) (code : Nat) (s : State) : State :=
  match o with
  | .pull op off => collDrained op (pullDrained op (pullTag op off data code s))

/-- Lights of a port that have no track table yet (R369). -/
def portTables (n : Nat) (s : State) : State := (portLights s n).foldl giveTable s

/-- One message of a unit to another, carried to its owner. -/
def mailOne (m : Mail) (s : State) : State :=
  match m with
  | .rdDone _ _ _ => dpMail m s
  | .rdFail _ _ _ => dpMail m s
  | .sent _ _ => dpMail m s
  | .lost _ _ _ => dpMail m s
  | .evDone h e out => onEvent h e out s
  | .cmdDone h c r =>
    match c.job with
    | some ju => gessoCmdDone h c ju.1 ju.2 r s
    | none => s
  | .tapeDone h i src blk => stripeTapeDone src (strGet s h i).light blk s
  | .streamEnd _ _ _ srcs => stripeTapeBack srcs s
  | .tagDone _ o data code => onTag o data code s
  | .lightLit l => onLit l s
  | .lightFault l => onFault l s
  | .lightIdle _ => placeRetry s
  | .wakeReq c => wake c 0 s
  | .portLeft n => calPortLeft n s
  | .steer n what => calSteer n what s
  | .lightBound l => newBinding l s
  | .portUp n => placeRetry (portTables n s)
  | .trained n => calTrained n s
  | .repairMore h id => repairMore h id s
  | .lightAbsent l => gessoLight l (unitAbsent l s)

/-- Messages taken in order until none is left. -/
def mailLoop : Nat → State → State
  | 0, s => s
  | k + 1, s =>
    match s.mail with
    | [] => s
    | m :: r => mailLoop k (mailOne m { s with mail := r })

/-- A half waits for something that this step may have brought: room, the end of a start-up step, a gather record that
can be freed. -/
def quietHalf (s : State) (h : Half) : Bool :=
  (s.cross.at h).wait.isEmpty && (s.sched.at h).wait.isEmpty && (s.coll.at h).recs.isEmpty &&
    halfState s h != hsSTARTING

/-- Nothing waits to be told and nothing waits for room. -/
def quiet (s : State) : Bool :=
  s.mail.isEmpty && quietHalf s .west && quietHalf s .east && s.lan.evtHeld.isEmpty && s.dp.isEmpty &&
    s.apu.all (fun p => p.2.rxHeld.isEmpty)

/-- What waited for room comes in. -/
def drainAll (s : State) : State :=
  let s1 := evtDrain s.lan.evtHeld.length s
  let s2 := (s1.apu.map (·.1)).foldl (fun t n => atnDrain n t) s1
  let s3 := crossSettle .east (crossSettle .west s2)
  schDrain .east (s3.sched.east).wait.length (schDrain .west (s3.sched.west).wait.length s3)

/-- How many messages one step carries at most; what is left goes on in the next. -/
def settleRounds : Nat := 4096

/-- Every message is carried and whatever waited comes in. -/
def settle (s : State) : State :=
  if quiet s then s
  else mailLoop settleRounds (collGc (bootGo (dpRun (drainAll (mailLoop settleRounds s)))))

end Sys2Proof.Machine
end

