-- ==== Sys2Proof/Machine/CmdAtnen.lean ====
section
/-!
DEFINITION. The commands of the Atnen ports (chapter 03): enables, training, enumeration, steering, the words that
arrive, and the times that pass.
-/
namespace Sys2Proof.Machine

/-- APU_CTRL.EN written on A[n] (R97, R126). -/
def execApuEnWrite (n : Nat) (en : Bool) (s : State) : Host.Outcome State Fault Refusal :=
  done (onPage (pgApu n) R.APU_CTRL_EN.off (fun s => settle (apuEnWrite n en s)) s)

/-- APU_CTRL.HOLD written on A[n] (R97, R126). -/
def execApuHoldWrite (n : Nat) (hold : Bool) (s : State) : Host.Outcome State Fault Refusal :=
  done (onPage (pgApu n) R.APU_CTRL_EN.off (fun s =>
    settle (apuHoldCheck n (wr (pgApu n) R.APU_CTRL_HOLD (bit hold) s))) s)

/-- TRAIN_START written: a port in DOWN enters TRAIN (R126). -/
def execTrainStart (n : Nat) (s : State) : Host.Outcome State Fault Refusal :=
  done (onPage (pgApu n) R.APU_CTRL_EN.off (fun s => if apuState s n = asDOWN then apuTrain n s else s) s)

/-- ENUM_START written: an ACTIVE port enters ENUM (R126). -/
def execEnumStart (n : Nat) (s : State) : Host.Outcome State Fault Refusal :=
  done (onPage (pgApu n) R.APU_CTRL_EN.off (fun s => if apuState s n = asACTIVE then settle (apuEnum n s) else s) s)

/-- 10 ms in DOWN have passed; with AUTO_TRAIN the port enters TRAIN (R97). -/
def execAutoTrainExpiry (n : Nat) (s : State) : Host.Outcome State Fault Refusal :=
  done (if apuState s n = asDOWN ∧ rdB s (pgApu n) R.APU_CTRL_AUTO_TRAIN then apuTrain n s else s)

/-- No TRN word within 100 ms of TRAIN (R97). -/
def execAtnTrainNoSignal (n : Nat) (s : State) : Host.Outcome State Fault Refusal :=
  done (if apuState s n = asTRAIN then apuDown n (some 1) s else s)

/-- Word lock or deskew not reached within 10 ms (R97). -/
def execAtnLockTimeout (n : Nat) (s : State) : Host.Outcome State Fault Refusal := done (lockTimeout n s)

/-- A TRN word arrives on physical lane `lane` of A[n], `good` where its parity holds (R98). -/
def execTrnWordReceive (n lane : Nat) (good : Bool) (w : LaneWord) (s : State) : Host.Outcome State Fault Refusal :=
  done (settle (if apuState s n = asACTIVE then
      calWord n lane (w.c && wCode w.d.toNat == 14) good (bits w.d.toNat 15 0) s
    else trnWord n lane good w.c w.d.toNat s))

/-- ENUM_TMO has passed in ENUM (R97). -/
def execEnumTimeout (n : Nat) (s : State) : Host.Outcome State Fault Refusal :=
  done (if apuState s n = asENUM then settle (apuDown n (some 6) s) else s)

/-- A STATUS ENUM_END word arrives (R105, R106, R121). -/
def execEnumEnd (n : Nat) (w : BitVec 32) (s : State) : Host.Outcome State Fault Refusal := done (enumEnd n w.toNat s)

/-- The header and descriptor reads have ended (R105, R108). -/
def execEnumDone (n : Nat) (s : State) : Host.Outcome State Fault Refusal := done (settle (enumDone n s))

/-- A parity error on a lane that carries a logical lane (R92, R97). -/
def execParityError (n : Nat) (s : State) : Host.Outcome State Fault Refusal :=
  done (if apuLive s n then settle (apuDown n (some 4) s) else s)

/-- Loss of signal on a lane that carries a logical lane (R97). -/
def execAtnSignalLoss (n : Nat) (s : State) : Host.Outcome State Fault Refusal :=
  done (if apuLive s n then settle (apuDown n (some 1) s) else s)

/-- A FLOW word arrives on A[n] (R100). -/
def execFlowReceive (n : Nat) (w : BitVec 32) (s : State) : Host.Outcome State Fault Refusal :=
  done (if apuLive s n then rxFlow n w.toNat s else s)

/-- A LANE word arrives on A[n] (R103). -/
def execLaneReceive (n : Nat) (w : BitVec 32) (s : State) : Host.Outcome State Fault Refusal :=
  done (if apuLive s n then laneReceive n w.toNat s else s)

/-- 256 consecutive words on the steered lane and the spare were equal (R103). -/
def execSteerMatch (n : Nat) (s : State) : Host.Outcome State Fault Refusal := done (settle (steerMatch n s))

/-- The LANE answer was late, or equal words did not come in time (R104). -/
def execSteerTimeout (n : Nat) (s : State) : Host.Outcome State Fault Refusal := done (settle (steerAbort n s))

/-- A parity error on the spare, or on the steered lane, while steering (R104). -/
def execSteerParityError (n : Nat) (s : State) : Host.Outcome State Fault Refusal := done (settle (steerAbort n s))

/-- A word with C=1 arrives, with the words that follow it. -/
def atnCommand (n : Nat) (w : BitVec 32) (ws : List LaneWord) (s : State) : State := settle (atnReceive n (⟨true, w⟩ :: ws) s)

/-- A TXN word of a station arrives with its address and payload (R116). -/
def execAtnRxTxnWr (n : Nat) (w : BitVec 32) (ws : List LaneWord) (s : State) : Host.Outcome State Fault Refusal :=
  done (atnCommand n w ws s)

/-- An RSP word arrives with its payload (R112). -/
def execAtnRxRsp (n : Nat) (w : BitVec 32) (ws : List LaneWord) (s : State) : Host.Outcome State Fault Refusal :=
  done (atnCommand n w ws s)

/-- An INT word arrives (R117). -/
def execAtnRxInt (n : Nat) (w : BitVec 32) (ws : List LaneWord) (s : State) : Host.Outcome State Fault Refusal :=
  done (atnCommand n w ws s)

/-- A BEACON word arrives with its two follow words (R118, R205). -/
def execAtnRxBeacon (n : Nat) (w : BitVec 32) (ws : List LaneWord) (s : State) : Host.Outcome State Fault Refusal :=
  done (atnCommand n w ws s)

/-- A VERIFY word arrives with its VTAG (R120, R220). -/
def execAtnRxVerify (n : Nat) (w : BitVec 32) (ws : List LaneWord) (s : State) : Host.Outcome State Fault Refusal :=
  done (atnCommand n w ws s)

/-- A STATUS WR_ERR word arrives with its address (R121, R174). -/
def execAtnRxWrErr (n : Nat) (w : BitVec 32) (ws : List LaneWord) (s : State) : Host.Outcome State Fault Refusal :=
  done (atnCommand n w ws s)

/-- A STATUS UNIT_STATE word arrives (R121, R207). -/
def execAtnRxUnitState (n : Nat) (w : BitVec 32) (ws : List LaneWord) (s : State) : Host.Outcome State Fault Refusal :=
  done (atnCommand n w ws s)

/-- A STATUS STATION_FAULT word arrives (R121). -/
def execAtnRxStationFault (n : Nat) (w : BitVec 32) (ws : List LaneWord) (s : State) : Host.Outcome State Fault Refusal :=
  done (atnCommand n w ws s)

/-- A read to station `stn` with number `tn` has had no RSP within ATN_RD_TMO (R113). -/
def execAtnRdTimeout (n stn tn : Nat) (s : State) : Host.Outcome State Fault Refusal :=
  done (settle (readTimeout n stn tn s))

/-- A transaction number leaves quarantine (R113). -/
def execTnQuarantineEnd (n stn tn : Nat) (s : State) : Host.Outcome State Fault Refusal :=
  done (apuMod n (fun p => { p with quar := p.quar.filter (fun x => x != (stn, tn)) }) s)

/-- TSYNC_INT has passed: a broadcast TSYNC goes out (R119). -/
def execTsyncSend (n : Nat) (s : State) : Host.Outcome State Fault Refusal := done (tsync n s)

/-- TSYNC_EN written: at 0 the port's LIT and DRIFT lights reacquire (R204, R207). -/
def execTsyncEnWrite (n : Nat) (en : Bool) (s : State) : Host.Outcome State Fault Refusal :=
  done (onPage (pgApu n) R.APU_CTRL_EN.off (fun s =>
    let s1 := wr (pgApu n) R.APU_CTRL_TSYNC_EN (bit en) s
    if en then s1 else settle (portReacquire n s1)) s)

/-- Every counter of an APU page is cleared (R125). -/
def execApuCntClr (n : Nat) (s : State) : Host.Outcome State Fault Refusal :=
  done (onPage (pgApu n) R.APU_CNT_CLR.off (fun s => clearAll (pgApu n) apuCounters s) s)

end Sys2Proof.Machine
end

