-- ==== Sys2Proof/Machine/CmdBridge.lean ====
section
/-!
DEFINITION. The commands of the Palettes and the Crossing Units (chapters 04 and 05): probes, halts, enables, holds,
locks, releases of INT words and the tails of the error logs.
-/
namespace Sys2Proof.Machine

/-- A write of PAL_PROBE looks an address up, the enable and the last byte apart, and pushes one word (R159). -/
def execPalProbe (h : Half) (a : Nat) (s : State) : Host.Outcome State Fault Refusal :=
  done (onPage (pgPalette h) R.PAL_PROBE.off (fun s =>
    pushResult (resOf h) 2 false
    [match winLookup s h a with
      | some w => 2 ^ 55 + w % 1024
      | none => 0] s) s)

/-- A W1C write of PAL_HALT[i] (R158). -/
def execPalHaltClear (h : Half) (i : Nat) (mask : BitVec 64) (s : State) : Host.Outcome State Fault Refusal :=
  done (onPage (pgPalette h) (R.PAL_HALT.at i).off (fun s =>
    wr (pgPalette h) (R.PAL_HALT.at i) (rd s (pgPalette h) (R.PAL_HALT.at i) &&& (2 ^ 64 - 1 - mask.toNat)) s) s)

/-- PAL_CTRL.EN written (R156). -/
def execPalCtrlEnWrite (h : Half) (en : Bool) (s : State) : Host.Outcome State Fault Refusal :=
  done (onPage (pgPalette h) R.PAL_CTRL_EN.off (fun s => wr (pgPalette h) R.PAL_CTRL_EN (bit en) s) s)

/-- Every counter of a PALETTE page is cleared (R155). -/
def execPalCntClr (h : Half) (s : State) : Host.Outcome State Fault Refusal :=
  done (onPage (pgPalette h) R.PAL_CNT_CLR.off (fun s => clearAll (pgPalette h) palCounters s) s)

/-- WR_HOLD has passed since the last word of access `id` was sent (R165, R173). -/
def execWrHoldExpiry (h : Half) (id : Nat) (s : State) : Host.Outcome State Fault Refusal := done (settle (holdExpiry h id s))

/-- LOCK_TMO has passed with no answer to the LOCK_RD of A[n] (R181). -/
def execLockTimeout (n : Nat) (s : State) : Host.Outcome State Fault Refusal := done (settle (lockBreak n cLOCK_TMO s))

/-- The lock of A[n] has been open for LOCK_BUDGET while a scheduled transfer waits (R182). -/
def execLockBudgetBreak (n : Nat) (s : State) : Host.Outcome State Fault Refusal :=
  done (if schedWaiting s n then settle (lockBreak n cLOCK_BUDGET s) else s)

/-- An INT word of A[n] is released to Lantern (R191, R471). -/
def execIntRelease (n : Nat) (s : State) : Host.Outcome State Fault Refusal := done (intGo n s)

/-- A running number modulo 2^32 is neither ahead of HEAD nor more than `size` behind it (R195). -/
def tailOk (head tail size : Nat) : Bool := decide ((head + 2 ^ 32 - tail % 2 ^ 32) % 2 ^ 32 ≤ size)

/-- A write of a log's TAIL, ignored where it is out of range (R195). -/
def tailWrite (P : Nat) (head tail : Fld) (size v : Nat) (s : State) : State :=
  if tailOk (rd s P head) v size then wr P tail v s else s

/-- A write of CX_PWLOG_TAIL (R195). -/
def execCxPwlogTailWrite (h : Half) (v : BitVec 32) (s : State) : Host.Outcome State Fault Refusal :=
  done (onPage (pgCrossing h) R.CX_PWLOG_TAIL.off (fun s =>
    tailWrite (pgCrossing h) R.CX_PWLOG_HEAD R.CX_PWLOG_TAIL 4096 v.toNat s) s)

/-- A write of CX_FARLOG_TAIL (R195). -/
def execCxFarlogTailWrite (h : Half) (v : BitVec 32) (s : State) : Host.Outcome State Fault Refusal :=
  done (onPage (pgCrossing h) R.CX_FARLOG_TAIL.off (fun s =>
    tailWrite (pgCrossing h) R.CX_FARLOG_HEAD R.CX_FARLOG_TAIL 1024 v.toNat s) s)

/-- Every counter of a CROSSING page and CX_LOCK_MAX are cleared (R192). -/
def execCxCntClr (h : Half) (s : State) : Host.Outcome State Fault Refusal :=
  done (onPage (pgCrossing h) R.CX_CNT_CLR.off (fun s =>
    clearAll (pgCrossing h) (crossCounters ++ [R.CX_LOCK_MAX]) s) s)

end Sys2Proof.Machine
end

