-- ==== Sys2Proof/Machine/CmdColl.lean ====
section
/-!
DEFINITION. The commands of collectives (chapter 10).
-/
namespace Sys2Proof.Machine

/-- Member `id`'s contribution is durable (R344). -/
def execCollMemberGathered (h : Half) (id : Nat) (s : State) : Host.Outcome State Fault Refusal :=
  done (settle (collGathered h id s))

/-- The deadline of gather record `i` passes (R346). -/
def execCollDeadline (h : Half) (i : Nat) (s : State) : Host.Outcome State Fault Refusal :=
  done (settle (collDeadline h i s))

/-- The collective of gather record `i` takes effect or is abandoned (R346, R347). -/
def execCollEffect (h : Half) (i : Nat) (s : State) : Host.Outcome State Fault Refusal := done (settle (collEffect h i s))

/-- COLL_DONE goes to a node (R351). -/
def execCollNotify (h : Half) (i : Nat) (s : State) : Host.Outcome State Fault Refusal := done (settle (collNotify h i s))

/-- LINGER_S has passed since a collective closed (R343). -/
def execLingerExpiry (h : Half) (obj tag : Nat) (s : State) : Host.Outcome State Fault Refusal :=
  done (collMod h (fun c => { c with linger := c.linger.filter (fun e => e != (obj, tag)) }) s)

/-- Every counter of a COLLECTIVE page is cleared (R356). -/
def execColCntClr (h : Half) (s : State) : Host.Outcome State Fault Refusal :=
  done (onPage (pgColl h) R.COL_CNT_CLR.off (fun s => clearAll (pgColl h) collCounters s) s)

end Sys2Proof.Machine
end

