-- ==== Sys2Proof/Machine/CmdCtx.lean ====
section
/-!
DEFINITION. The commands of contexts, match entries, completion queues and rings (chapter 09).
-/
namespace Sys2Proof.Machine

/-- A CTX_CMD acts on the context in CTX_SEL (R335). -/
def onCtx (f : Nat → State → State) (s : State) : State :=
  onPage pgContexts R.CTX_CMD_OP.off (fun s => settle (f (rd s pgContexts R.CTX_SEL_CTX) s)) s

/-- CTX_CMD OPEN (R311). -/
def execCtxOpen (s : State) : Host.Outcome State Fault Refusal := done (onCtx ctxOpen s)

/-- CTX_CMD CLOSE (R312). -/
def execCtxClose (force : Bool) (s : State) : Host.Outcome State Fault Refusal := done (onCtx (fun c => ctxClose c force) s)

/-- A CLOSING context has nothing in flight any more (R312). -/
def execCtxCloseFinish (c : Nat) (s : State) : Host.Outcome State Fault Refusal := done (settle (ctxCloseFinish c s))

/-- CTX_CMD APPEND_ENTRY (R319). -/
def execMeAppendEntry (s : State) : Host.Outcome State Fault Refusal := done (onCtx meAppend s)

/-- CTX_CMD REMOVE_ENTRY (R319). -/
def execMeRemoveEntry (s : State) : Host.Outcome State Fault Refusal := done (onCtx meRemove s)

/-- CTX_CMD READ_ENTRY (R319). -/
def execMeReadEntry (s : State) : Host.Outcome State Fault Refusal := done (onCtx meRead s)

/-- The oldest overflow request of context `c` has waited OVF_TMO (R320). -/
def execOvfTimeout (h : Half) (c : Nat) (s : State) : Host.Outcome State Fault Refusal := done (settle (ovfTimeout h c s))

/-- A write of PIN of the context in CTX_SEL (R313). -/
def execPinWrite (v : Bool) (path : Path) (s : State) : Host.Outcome State Fault Refusal :=
  done (onPage pgContexts R.CTX_VIEW_0_PIN.off (fun s => pinWrite (rd s pgContexts R.CTX_SEL_CTX) v path s) s)

/-- The oldest record of context `c`'s completion queue is written (R322). -/
def execCqRecordWrite (c : Nat) (s : State) : Host.Outcome State Fault Refusal := done (settle (cqRecordWrite c s))

/-- CQ_PI of context `c` is written (R322). -/
def execCqPiWrite (c : Nat) (s : State) : Host.Outcome State Fault Refusal := done (settle (cqPiWrite c s))

/-- Where an aperture write goes: a context's CI, a ring's producer index, or a descriptor slot (R325). -/
inductive ApKind where
  | ci
  | pi
  | desc
deriving DecidableEq, Repr

/-- The kind of an aperture write by its address (R325). -/
def apKind (a : Nat) : ApKind := if a.testBit 39 then .ci else if bits a 22 0 = 0 then .pi else .desc

/-- The aperture write of that kind at the head of VC1 of F[n] (R325, R326). -/
def rxAp (n : Nat) (k : ApKind) (s : State) : State :=
  match rxHead s n 1 with
  | some (p, _) => if p.type = tPW ∧ inAperture p.addr = true ∧ apKind p.addr = k then rxPw n s else s
  | none => s

/-- An aperture write of a consumer index (R323). -/
def execCqCiWrite (n : Nat) (s : State) : Host.Outcome State Fault Refusal := done (settle (rxAp n .ci s))

/-- An aperture write of a ring's producer index (R325). -/
def execRingPiWrite (n : Nat) (s : State) : Host.Outcome State Fault Refusal := done (settle (rxAp n .pi s))

/-- An aperture write of descriptor slots (R325). -/
def execRingDescWrite (n : Nat) (s : State) : Host.Outcome State Fault Refusal := done (settle (rxAp n .desc s))

/-- A poll of ring `r` (R329). -/
def execRingPoll (r : Nat) (s : State) : Host.Outcome State Fault Refusal := done (settle (ringPoll r s))

/-- RING_CTRL.EN of the ring in RING_SEL written 1 (R332). -/
def execRingEnable (path : Path) (s : State) : Host.Outcome State Fault Refusal :=
  done (onPage pgRings R.RING_CTRL_EN.off (fun s => settle (ringEnable (rd s pgRings R.RING_SEL_RING) path s)) s)

/-- RING_CTRL.EN of the ring in RING_SEL written 0 (R332). -/
def execRingDisable (s : State) : Host.Outcome State Fault Refusal :=
  done (onPage pgRings R.RING_CTRL_EN.off (fun s => settle (ringDisable (rd s pgRings R.RING_SEL_RING) s)) s)

/-- Ring `r`'s records are all written and covered (R332). -/
def execRingIdle (r : Nat) (s : State) : Host.Outcome State Fault Refusal := done (settle (ringIdle r s))

/-- Every counter of a MATCH page is cleared (R337). -/
def execMtCntClr (h : Half) (s : State) : Host.Outcome State Fault Refusal :=
  done (onPage (pgMatch h) R.MT_CNT_CLR.off (fun s => clearAll (pgMatch h) matchCounters s) s)

end Sys2Proof.Machine
end

