-- ==== Sys2Proof/Machine/CmdDikar.lean ====
section
/-!
DEFINITION. The commands of the Dikar engine: requests, admission, namespace steps, pulls, writes, GETs and FENCEs
(chapter 08).
-/
namespace Sys2Proof.Machine

/-- The MSG at the head of VC3 of F[n] is matched on its context's home half (R272, R314). -/
def execDikarReq (n : Nat) (s : State) : Host.Outcome State Fault Refusal := done (settle (rxMsg n s))

/-- The oldest matched request that waits takes an operation slot (R281). -/
def execOpSlotGrant (h : Half) (s : State) : Host.Outcome State Fault Refusal := done (settle (slotGrant h s))

/-- The next request of half `h` is admitted (R282). -/
def execAdmission (h : Half) (s : State) : Host.Outcome State Fault Refusal := done (settle (admission h s))

/-- The namespace step of request `id` reaches half `h` (R279). -/
def execNamespaceStep (h : Half) (id : Nat) (s : State) : Host.Outcome State Fault Refusal :=
  done (settle (namespaceStep h id s))

/-- No answer to the namespace step of request `id` within NS_TMO; `stood` where the other half carried it out (R279). -/
def execNsTimeout (h : Half) (id : Nat) (stood : Bool) (s : State) : Host.Outcome State Fault Refusal :=
  done (settle (nsTimeout h id stood s))

/-- The next RD of operation `id`'s pull (R292). -/
def execPullIssue (h : Half) (id : Nat) (s : State) : Host.Outcome State Fault Refusal := done (settle (pullIssue h id s))

/-- The durable write of operation `id` takes effect (R283). -/
def execWriteEffect (id : Nat) (s : State) : Host.Outcome State Fault Refusal := done (settle (writeEffect id s))

/-- Write `id`'s data is copied over the span, with the gathered members of a collective where `id` is theirs (R284,
R344). -/
def spanCopyAll (id : Nat) (s : State) : State :=
  (s.dikar.ops.filter (fun d => d.coll.isSome && d.write == some id)).foldl (fun t d => collCopy d t) (spanCopy id s)

/-- Data is copied over the span to its object's home half (R284). -/
def execSpanCopy (id : Nat) (s : State) : Host.Outcome State Fault Refusal := done (settle (spanCopyAll id s))

/-- The next PW of GET `id` (R294). -/
def execGetPush (h : Half) (id : Nat) (s : State) : Host.Outcome State Fault Refusal := done (settle (getPush h id s))

/-- GET `id` has pushed everything and every flit is acknowledged (R294). -/
def execGetComplete (h : Half) (id : Nat) (s : State) : Host.Outcome State Fault Refusal :=
  done (settle (getComplete h id s))

/-- A held merge is tried again (R285). -/
def mergeRetry (id : Nat) (s : State) : State :=
  match stpGet s id with
  | none => s
  | some x => if x.held then mergeStart id (stpMod id (fun y => { y with held := false }) s) else s

/-- A held merge is tried again once every 1 s (R285). -/
def execMergeRetry (id : Nat) (s : State) : Host.Outcome State Fault Refusal := done (settle (mergeRetry id s))

/-- One move of name compaction (R278). -/
def execNameCompact (s : State) : Host.Outcome State Fault Refusal := done (settle (nameCompact s))

/-- The covered set of FENCE `id` has ended (R290). -/
def execFenceComplete (id : Nat) (s : State) : Host.Outcome State Fault Refusal := done (settle (fenceComplete id s))

/-- A write of DK_CTRL.EN (R302, R396). -/
def execDkCtrlEnWrite (h : Half) (en : Bool) (path : Path) (s : State) : Host.Outcome State Fault Refusal :=
  done (onPage (pgDikar h) R.DK_CTRL_EN.off (fun s => enWrite (pgDikar h) R.DK_CTRL_EN en path s) s)

/-- Every counter of a DIKAR page and HIGH_WATER are cleared (R301). -/
def execDkCntClr (h : Half) (s : State) : Host.Outcome State Fault Refusal :=
  done (onPage (pgDikar h) R.DK_CNT_CLR.off (fun s =>
    clearAll (pgDikar h) (dikarCounters ++ [R.DK_STAT_HIGH_WATER]) s) s)

end Sys2Proof.Machine
end

