-- ==== Sys2Proof/Machine/CmdEasel.lean ====
section
/-!
DEFINITION. The commands of Easel: carves, service, pages, the journal, the cache, patrol and wear (chapter 11).
-/
namespace Sys2Proof.Machine

/-- A write of EZG_CARVE; one that carries the carve in force has no effect (R365, R493). -/
def execEzgCarveWrite (v : BitVec 64) (path : Path) (s : State) : Host.Outcome State Fault Refusal :=
  done (onPage pgEaselG R.EZG_CARVE_NAME_LOG2.off (fun s => settle (
    if carveOf v.toNat = carveFlds.map (fun f => rd s pgEaselG f) then s else carveWrite v.toNat path s)) s)

/-- EZG_CMD FORMAT (R366). -/
def execEzgFormat (gen : BitVec 32) (path : Path) (s : State) : Host.Outcome State Fault Refusal :=
  done (onPage pgEaselG R.EZG_CMD_OP.off (fun s => settle (format gen.toNat path s)) s)

/-- A write of EZG_CTRL.SVC (R396). -/
def execEzgSvcWrite (v : Bool) (path : Path) (s : State) : Host.Outcome State Fault Refusal :=
  done (onPage pgEaselG R.EZG_CTRL_SVC.off (fun s => settle (svcWrite v path s)) s)

/-- Page `p` of a half's write buffer is released (R375). -/
def execPageRelease (h : Half) (p : Nat) (s : State) : Host.Outcome State Fault Refusal := done (settle (pageRelease h p s))

/-- A CHECKPOINT record; steps that waited for room follow, a commit among them (R381, R535). -/
def execJournalCheckpoint (h : Half) (s : State) : Host.Outcome State Fault Refusal :=
  done (settle (prCommit (checkpoint h s)))

/-- A media read fills the cache (R377). -/
def execCacheFill (h : Half) (s : State) : Host.Outcome State Fault Refusal := done (settle (cacheFill h s))

/-- A patrol read of a line of a stack (R386, R390). -/
def execPatrolRead (stack line : Nat) (errs : List Nat) (both : Bool) (s : State) : Host.Outcome State Fault Refusal :=
  done (settle (patrolRead stack line errs both s))

/-- The gap of a stack moves by one line (R392). -/
def execWearGapCopy (stack : Nat) (s : State) : Host.Outcome State Fault Refusal := done (settle (gapCopy stack s))

/-- A write of EZ_ELOG_TAIL (R391). -/
def execEzElogTailWrite (h : Half) (v : BitVec 32) (s : State) : Host.Outcome State Fault Refusal :=
  done (onPage (pgEasel h) R.EZ_ELOG_TAIL.off (fun s =>
    tailWrite (pgEasel h) R.EZ_ELOG_HEAD R.EZ_ELOG_TAIL 4096 v.toNat s) s)

/-- Every counter of an EASEL page is cleared (R397). -/
def execEzCntClr (h : Half) (s : State) : Host.Outcome State Fault Refusal :=
  done (onPage (pgEasel h) R.EZ_CNT_CLR.off (fun s => clearAll (pgEasel h) easelCounters s) s)

end Sys2Proof.Machine
end

