-- ==== Sys2Proof/Machine/CmdErasure.lean ====
section
/-!
DEFINITION. The commands of scrubbing, repair and Gesso (chapter 12).
-/
namespace Sys2Proof.Machine

/-- An idle light gets its next scrub read (R412). -/
def execScrubInsert (l : Nat) (s : State) : Host.Outcome State Fault Refusal := done (settle (scrubInsert l s))

/-- A scrub pass is not done when due (R412). -/
def execScrubLate (l : Nat) (s : State) : Host.Outcome State Fault Refusal := done (settle (scrubLate l s))

/-- The members that the FAULT of light `l` made LOST may be repaired, while it stands in FAULT (R415). -/
def repairDelayOver (l : Nat) (s : State) : State :=
  if lightState s l = lsFAULT then pltMod l (fun x => { x with delayOver := true }) s else s

/-- REPAIR_DELAY_S has passed since a light's FAULT (R415). -/
def execRepairDelayExpiry (l : Nat) (s : State) : Host.Outcome State Fault Refusal := done (settle (repairDelayOver l s))

/-- The next queued stripe is repaired (R416). -/
def execRepairStart (h : Half) (s : State) : Host.Outcome State Fault Refusal := done (settle (repairStart h s))

/-- UNREADABLE stripes are tried again (R417). -/
def execUnreadableRetry (h : Half) (s : State) : Host.Outcome State Fault Refusal := done (settle (unreadableRetry h s))

/-- The map is swept for LOST stripes (R414). -/
def execMapSweep (h : Half) (s : State) : Host.Outcome State Fault Refusal := done (settle (mapSweep h s))

/-- GS_CMD START on the station and unit of GS_TGT (R419). -/
def execGessoStart (h : Half) (s : State) : Host.Outcome State Fault Refusal :=
  done (onPage (pgErasure h) R.GS_CMD_OP.off (fun s => settle (gessoStart h s)) s)

/-- GS_CMD ABORT of a job (R423). -/
def execGessoAbort (h : Half) (job : Nat) (s : State) : Host.Outcome State Fault Refusal :=
  done (onPage (pgErasure h) R.GS_CMD_OP.off (fun s => settle (gessoAbort h job s)) s)

/-- Every counter of an ERASURE page is cleared (R425). -/
def execErCntClr (h : Half) (s : State) : Host.Outcome State Fault Refusal :=
  done (onPage (pgErasure h) R.ER_CNT_CLR.off (fun s => clearAll (pgErasure h) erasureCounters s) s)

end Sys2Proof.Machine
end

