-- ==== Sys2Proof/Machine/CmdFabric.lean ====
section
/-!
DEFINITION. The commands of the fabric ports (chapter 02): codewords, link states, enables, the packets that arrive and
the read tags.
-/
namespace Sys2Proof.Machine

/-- A codeword arrives on F[n] (R40-R43, R58). -/
def execCodewordReceive (n : Nat) (cw : Codeword) (s : State) : Host.Outcome State Fault Refusal :=
  done (codewordReceive n cw s)

/-- REPLAY_TIMEOUT (R49): with flits held in ACTIVE, the sender replays from the oldest. -/
def execReplayTimeout (n : Nat) (s : State) : Host.Outcome State Fault Refusal :=
  done (if fiuState s n = fsACTIVE then fiuReplay n s else s)

/-- The packet granted on a VC is sent (R67). -/
def execPacketSend (n vc : Nat) (s : State) : Host.Outcome State Fault Refusal := done (packetSend n vc s)

/-- DOWN_WAIT_EXPIRY (R58): DOWN to TRAIN. -/
def execDownWaitExpiry (n : Nat) (s : State) : Host.Outcome State Fault Refusal :=
  done (if fiuState s n = fsDOWN then fiuSetState n fsTRAIN s else s)

/-- Lanes have equalised in TRAIN (R58, R59). -/
def execTrainComplete (n lanes : Nat) (s : State) : Host.Outcome State Fault Refusal := done (trainComplete n lanes s)

/-- TRAIN_NO_SIGNAL (R58). -/
def execTrainNoSignal (n : Nat) (s : State) : Host.Outcome State Fault Refusal :=
  done (if fiuState s n = fsTRAIN then fiuDown n 1 s else s)

/-- ALIGN_LOCK (R58): 64 consistent correctable codewords end ALIGN in INIT, or begin the resumption of a RECOVER. -/
def execAlignLock (n : Nat) (s : State) : Host.Outcome State Fault Refusal :=
  done (if 64 ≤ (fiuGet s n).alignRun then
      if fiuState s n = fsALIGN then fiuInit n s
      else if fiuState s n = fsRECOVER then fiuMod n (fun p => { p with resume := true, ctlRun := 0 }) s
      else s
    else s)

/-- ALIGN_TIMEOUT (R58). -/
def execAlignTimeout (n : Nat) (s : State) : Host.Outcome State Fault Refusal :=
  done (if fiuState s n = fsALIGN then fiuDown n 3 s else s)

/-- INIT_TIMEOUT (R58). -/
def execInitTimeout (n : Nat) (s : State) : Host.Outcome State Fault Refusal :=
  done (if fiuState s n = fsINIT then fiuDown n 5 s else s)

/-- RECOVER_TIMEOUT (R58): a new attempt while RECOVER_LIMIT allows, else DOWN. -/
def execRecoverTimeout (n : Nat) (s : State) : Host.Outcome State Fault Refusal :=
  done (if fiuState s n = fsRECOVER then
      if (fiuGet s n).attempts < max 1 (rd s (pgFiu n) R.FIU_LINK_CTRL_RECOVER_LIMIT) then
        fiuMod n (fun p => { p with
          attempts := p.attempts + 1, alignRun := 0, resume := false, ctlRun := 0,
          cwNext := none }) s
      else fiuDown n 7 s
    else s)

/-- LINK_SIGNAL_LOSS on a lane (R58): a lane in use in ACTIVE and RECOVER, lane 0 in LOWPWR. -/
def execLinkSignalLoss (n lane : Nat) (s : State) : Host.Outcome State Fault Refusal :=
  let st := fiuState s n
  done (if ((st = fsACTIVE ∨ st = fsRECOVER) ∧ (rd s (pgFiu n) R.FIU_LINK_STAT_LANE_MASK).testBit lane) ∨
      (st = fsLOWPWR ∧ lane = 0) then fiuDown n 1 s else s)

/-- LOWPWR_WAKE_TIMEOUT (R58). -/
def execLowpwrWakeTimeout (n : Nat) (s : State) : Host.Outcome State Fault Refusal :=
  done (if fiuState s n = fsLOWPWR then fiuDown n 4 s else s)

/-- A write of FIU_LINK_CTRL.EN (R52, R58, R84). -/
def execFiuEnWrite (n : Nat) (en : Bool) (path : Path) (s : State) : Host.Outcome State Fault Refusal :=
  done (onPage (pgFiu n) R.FIU_LINK_CTRL_EN.off (fun s => fiuEnWrite n en path s) s)

/-- RETRAIN written 1 (R58, R84). -/
def execFiuRetrain (n : Nat) (s : State) : Host.Outcome State Fault Refusal :=
  done (onPage (pgFiu n) R.FIU_LINK_CTRL_EN.off (fun s => fiuRetrain n s) s)

/-- A write of LP_REQ (R64, R84). -/
def execLpReqWrite (n : Nat) (v : Bool) (s : State) : Host.Outcome State Fault Refusal :=
  done (onPage (pgFiu n) R.FIU_LINK_CTRL_EN.off (fun s => lpReqWrite n v s) s)

/-- Every counter of an FIU page is cleared (R83). -/
def execFiuCntClr (n : Nat) (s : State) : Host.Outcome State Fault Refusal :=
  done (onPage (pgFiu n) R.FIU_CNT_CLR.off (fun s => clearAll (pgFiu n) fiuCounters s) s)

/-- A write of EGR_PORT_MASK.ELIGIBLE (R82, R89). -/
def execEgrPortMaskWrite (h : Half) (mask : Nat) (s : State) : Host.Outcome State Fault Refusal :=
  done (onPage (pgEgress h) R.EGR_PORT_MASK_ELIGIBLE.off (fun s => egrMaskWrite h mask s) s)

/-- FLOW_SETTLE_EXPIRY (R82): the destination is released from every change so far and its packets go. -/
def execFlowSettleExpiry (h : Half) (dst : Nat) (s : State) : Host.Outcome State Fault Refusal :=
  done (egrDrain h (egrMod h (fun e => { e with
    changes := e.changes.map (fun c => { c with released := if c.released.contains dst then c.released else dst :: c.released }) }) s))

/-! Received packets and read tags (R75-R78). -/

/-- The PW at the head of VC1 of F[n] goes to the aperture or to the Palette (R75). -/
def execRxPw (n : Nat) (s : State) : Host.Outcome State Fault Refusal := done (settle (rxPw n s))

/-- The NPW at the head of VC2 of F[n] (R75). -/
def execRxNpw (n : Nat) (s : State) : Host.Outcome State Fault Refusal := done (settle (rxAsk n tNPW s))

/-- The RD at the head of VC2 of F[n] (R75). -/
def execRxRd (n : Nat) (s : State) : Host.Outcome State Fault Refusal := done (settle (rxAsk n tRD s))

/-- The AMO at the head of VC2 of F[n] (R75). -/
def execRxAmo (n : Nat) (s : State) : Host.Outcome State Fault Refusal := done (settle (rxAsk n tAMO s))

/-- The RSP at the head of VC0 of F[n] ends the read tag that it names (R78). -/
def execRxRsp (n : Nat) (s : State) : Host.Outcome State Fault Refusal := done (settle (rxAnswer n s))

/-- RSP_TMO has passed without an RSP for tag `t` (R78). -/
def execRspTimeout (h : Half) (t : Nat) (s : State) : Host.Outcome State Fault Refusal := done (settle (rspTimeout h t s))

/-- Tag `t` leaves quarantine (R78). -/
def execTagQuarantineEnd (h : Half) (t : Nat) (s : State) : Host.Outcome State Fault Refusal := done (settle (tagBack h t s))

end Sys2Proof.Machine
end

