-- ==== Sys2Proof/Machine/CmdTime.lean ====
section
/-!
DEFINITION. The commands of the reference inputs (R201, R202, R231, R576-R579) and of calibration (R581-R593).
-/
namespace Sys2Proof.Machine

/-- A PPS_IN rising edge (R201, R578). -/
def execPpsEdge (s : State) : Host.Outcome State Fault Refusal := done (ppsEdge s)

/-- No PPS edge for 2 s (R201). -/
def execPpsLost (s : State) : Host.Outcome State Fault Refusal := done (ppsLost s)

/-- No REF100 edge for 200 ns (R576). -/
def execRefEdgeMissing (s : State) : Host.Outcome State Fault Refusal := done (settle (refEdgeMissing s))

/-- A gate of 1 ms ends: the deviation in hundredths of a ppm, and whether every edge was present (R576). -/
def execRefGate (dev : Int) (edges : Bool) (s : State) : Host.Outcome State Fault Refusal :=
  done (settle (refGate dev edges s))

/-- The holdover oscillator has been measured over a second (R579). -/
def execHoldoverMeasure (ppb : Int) (s : State) : Host.Outcome State Fault Refusal := done (holdMeasure ppb s)

/-- A 32-bit read of TB_NOW's low half (R231). -/
def execTbNowLowRead (path : Path) (s : State) : Host.Outcome State Fault Refusal := done (nowLow path s)

/-- The temperature test of each millisecond (R581). -/
def execCalTempCheck (h : Half) (s : State) : Host.Outcome State Fault Refusal := done (calTempCheck h s)

/-- The next calibration run of the half's i-th port starts, or is skipped (R582, R584). -/
def execCalRunStart (h : Half) (i : Nat) (s : State) : Host.Outcome State Fault Refusal :=
  done (settle (calRunStart h i s))

/-- No TRN pattern within 10 µs of SWAPPED (R588). -/
def execCalPatternTimeout (h : Half) (i : Nat) (s : State) : Host.Outcome State Fault Refusal :=
  done (settle (calPatternTimeout h i s))

/-- Measurement ends with the eye found, in 1/128 UI, and the trims at its centre (R585, R586). -/
def execCalMeasureEnd (h : Half) (i eye : Nat) (phase : BitVec 7) (voff dfe1 : BitVec 6) (ctle : BitVec 5) (s : State) :
    Host.Outcome State Fault Refusal :=
  done (settle (calMeasureEnd h i eye ⟨phase.toNat, voff.toNat, dfe1.toNat, ctle.toNat⟩ s))

/-- 1,024 good TRN words after the step (R587). -/
def execCalVerifyPass (h : Half) (i : Nat) (s : State) : Host.Outcome State Fault Refusal :=
  done (settle (calVerifyPass h i s))

/-- Verification fails within 20 µs (R587). -/
def execCalVerifyTimeout (h : Half) (i : Nat) (s : State) : Host.Outcome State Fault Refusal :=
  done (settle (calVerifyTimeout h i s))

/-- CAL_CMD SWEEP (R591). -/
def execCalSweep (h : Half) (s : State) : Host.Outcome State Fault Refusal :=
  done (onPage (pgCal h) R.CAL_CMD_OP.off (fun s => calSweep h s) s)

/-- CAL_CMD RUN (R591). -/
def execCalRunCmd (h : Half) (i k : Nat) (s : State) : Host.Outcome State Fault Refusal :=
  done (onPage (pgCal h) R.CAL_CMD_OP.off (fun s => calRunCmd h i k s) s)

/-- CAL_CMD ABORT (R591). -/
def execCalAbortCmd (h : Half) (s : State) : Host.Outcome State Fault Refusal :=
  done (onPage (pgCal h) R.CAL_CMD_OP.off (fun s => settle (calAbortAll h s)) s)

/-- CAL_CMD CLEAR_ABORTS (R591). -/
def execCalClearAborts (h : Half) (i : Nat) (s : State) : Host.Outcome State Fault Refusal :=
  done (onPage (pgCal h) R.CAL_CMD_OP.off (fun s => calClearAborts h i s) s)

/-- CAL_CTRL.EN written (R591, R593). -/
def execCalEnWrite (h : Half) (en : Bool) (s : State) : Host.Outcome State Fault Refusal :=
  done (onPage (pgCal h) R.CAL_CTRL_EN.off (fun s => settle (calEnWrite h en s)) s)

/-- CAL_CNT_CLR (R593). -/
def execCalCntClr (h : Half) (s : State) : Host.Outcome State Fault Refusal :=
  done (onPage (pgCal h) R.CAL_CNT_CLR.off (fun s => clearAll (pgCal h) calCounters s) s)

end Sys2Proof.Machine
end

