-- ==== Sys2Proof/Machine/CmdLantern.lean ====
section
/-!
DEFINITION. The commands of Lantern and of the host's side of it (chapter 14).
-/
namespace Sys2Proof.Machine

/-- The oldest strike whose state can be seen reaches Lantern (R459, R462, R463). -/
def execStrike (s : State) : Host.Outcome State Fault Refusal := done (settle (strikeOne s))

/-- A W1C write of EVT_PEND of page `P` clears EVT_PEND and EVT_RAW bits (R458). -/
def pendClear (P mask : Nat) (s : State) : State :=
  wr P R.EVT_RAW (rd s P R.EVT_RAW &&& (2 ^ 64 - 1 - mask)) (wr P R.EVT_PEND (rd s P R.EVT_PEND &&& (2 ^ 64 - 1 - mask)) s)

/-- A write of EVT_PEND (R458). -/
def execEvtPendClear (P : Nat) (mask : BitVec 64) (s : State) : Host.Outcome State Fault Refusal :=
  done (onPage P R.EVT_PEND.off (fun s => pendClear P mask.toNat s) s)

/-- A W1C write of LAN_SUMMARY[i] (R463). -/
def execLanSummaryClear (i : Nat) (mask : BitVec 64) (s : State) : Host.Outcome State Fault Refusal :=
  done (onPage pgLantern (R.LAN_SUMMARY.at i).off (fun s =>
    wr pgLantern (R.LAN_SUMMARY.at i) (rd s pgLantern (R.LAN_SUMMARY.at i) &&& (2 ^ 64 - 1 - mask.toNat)) s) s)

/-- MOD_US has passed since vector `v` became COLLECTING (R464). -/
def execVectorModTimer (v : Nat) (s : State) : Host.Outcome State Fault Refusal :=
  done (if vecState s v = vsCOLLECTING ∧ rdI s pgLantern R.LAN_VEC_CFG_MOD_US v ≠ 0 then vecDue v s else s)

/-- Vector `v` sends its message where nothing holds it (R464). -/
def execVectorSend (v : Nat) (s : State) : Host.Outcome State Fault Refusal := done (vecSend v s)

/-- A vector or the function is unmasked, or MSI-X Enable or Bus Master Enable is set: held vectors send (R465). -/
def execMsixUnmask (x : MsixHold) (s : State) : Host.Outcome State Fault Refusal := done (vecSendAll (msixSet x false s))

/-- A vector or the function is masked, or MSI-X Enable or Bus Master Enable is cleared (R465). -/
def execMsixMask (x : MsixHold) (s : State) : Host.Outcome State Fault Refusal := done (msixSet x true s)

/-- The function has resumed: D0, L0 and PME_Status 0 (R466). -/
def hostAwake (s : State) : Bool :=
  rd s pgHost R.HP_LINK_DSTATE == 0 && !rdB s pgHost R.HP_LINK_L1 && !s.lan.pmeStatus

/-- The function enters D3hot or the link enters L1; `pme` is PME_En then (R466). -/
def hostSleep (d3 l1 pme : Bool) (s : State) : State :=
  let s1 := lanMod (fun l => { l with pmeEn := pme }) s
  let s2 := if d3 then wr pgHost R.HP_LINK_DSTATE 3 s1 else s1
  let s3 := if l1 then wr pgHost R.HP_LINK_L1 1 s2 else s2
  if d3 || l1 then hostHold (lanMod (fun l => { l with asleep := true }) s3) else s3

/-- The host's function enters D3hot or its link enters L1 (R466). -/
def execHostSleep (d3 l1 pme : Bool) (s : State) : Host.Outcome State Fault Refusal := done (hostSleep d3 l1 pme s)

/-- Steps towards resumption: D0, L0, PME_Status cleared; with all three the host has resumed (R466). -/
def hostWake (d0 l0 clear : Bool) (s : State) : State :=
  let s1 := if d0 then wr pgHost R.HP_LINK_DSTATE 0 s else s
  let s2 := if l0 then wr pgHost R.HP_LINK_L1 0 s1 else s1
  let s3 := if clear then lanMod (fun l => { l with pmeStatus := false }) s2 else s2
  if hostAwake s3 then hostResume (lanMod (fun l => { l with asleep := false }) s3) else s3

/-- The host comes back (R466). -/
def execHostResume (d0 l0 clear : Bool) (s : State) : Host.Outcome State Fault Refusal := done (hostWake d0 l0 clear s)

/-- 100 ms with PME_Status 1: PM_PME is sent again (R466). -/
def execPmeRepeat (s : State) : Host.Outcome State Fault Refusal :=
  done (if s.lan.asleep && s.lan.pmeEn && s.lan.pmeStatus && rdB s pgHost R.HP_LINK_UP then
    emit .pme (bump pgLantern R.LANTERN_CNT_PME s) else s)

/-- WAKE_TMO has passed since the first vector was held (R466). -/
def execWakeTmoExpiry (s : State) : Host.Outcome State Fault Refusal := done (wakeTmo s)

/-- The coalescing gap of a route on a half ends (R468). -/
def execFabGapExpiry (h : Half) (src : Nat) (s : State) : Host.Outcome State Fault Refusal := done (fabGapEnd h src s)

/-- The last flit of a queued event message has left its port (R468, R472). -/
def execFabEvtSent (id : Nat) (s : State) : Host.Outcome State Fault Refusal := done (settle (evtSent id s))

/-- LAN_ROUTE of source `src` written whole (R478). -/
def execLanRouteWrite (src : Nat) (w : BitVec 64) (s : State) : Host.Outcome State Fault Refusal :=
  done (onPage pgLantern R.LAN_ROUTE_MSIX_EN.off (fun s => routeWrite src w.toNat s) s)

/-- LAN_VEC_CFG of vector `v` written whole (R474, R479). -/
def execLanVecCfgWrite (v : Nat) (w : BitVec 64) (s : State) : Host.Outcome State Fault Refusal :=
  done (onPage pgLantern R.LAN_VEC_CFG_MOD_US.off (fun s => vecCfgWrite v w.toNat s) s)

/-- A write of LAN_CTRL.EN (R474). -/
def execLanCtrlEnWrite (en : Bool) (s : State) : Host.Outcome State Fault Refusal :=
  done (onPage pgLantern R.LAN_CTRL_EN.off (fun s => lanEnWrite en s) s)

/-- Every counter of the LANTERN page and every STRIKES are cleared (R475). -/
def execLanCntClr (s : State) : Host.Outcome State Fault Refusal :=
  done (onPage pgLantern R.LAN_CNT_CLR.off (fun s => lanCntClr s) s)

end Sys2Proof.Machine
end

