-- ==== Sys2Proof/Machine/CmdLight.lean ====
section
/-!
DEFINITION. The commands of the Light List, the subscriptions and the Angle Scheduler (chapter 06).
-/
namespace Sys2Proof.Machine

/-- 1.5 × PERIOD have passed since the last accepted INDEX of a LIT disc light (R207). -/
def execLightIndexTimeout (l : Nat) (s : State) : Host.Outcome State Fault Refusal :=
  done (if lightState s l = lsLIT ∧ isDisc s l then enterDrift l s else s)

/-- DRIFT_REVS revolutions have passed in DRIFT without an accepted INDEX (R207). -/
def execDriftRevsExpiry (l : Nat) (s : State) : Host.Outcome State Fault Refusal :=
  done (if lightState s l = lsDRIFT then settle (reacquire l s) else s)

/-- A write of LL_CTRL.EN (R232). -/
def execLlCtrlEnWrite (h : Half) (en : Bool) (s : State) : Host.Outcome State Fault Refusal :=
  done (onPage (pgLight h) R.LL_CTRL_EN.off (fun s => settle (llEnWrite h en s)) s)

/-- HOLD of light `l` written: at 1 its events stay, at 0 those held are fixed (R214, R221). -/
def execLlHoldWrite (l : Nat) (hold : Bool) (s : State) : Host.Outcome State Fault Refusal :=
  done (onPage (pgL l) R.LL_VIEW_6_HOLD.off (fun s =>
    let s1 := lPut l R.LL_VIEW_6_HOLD (bit hold) s
    if hold then s1 else fixHeld l s1) s)

/-- Every light of a half that has a state to lose reacquires (R221, R231). -/
def allReacquire (h : Half) (s : State) : State :=
  ((halfLights s h).filter (fun l => lightState s l == lsACQUIRE || lightState s l == lsLIT || lightState s l == lsDRIFT)).foldl
    (fun t l => reacquire l t) s

/-- A write of TB_SET: both copies take the value, refused while either half's SCH_CTRL.EN is 1 (R231, R493, R496). -/
def tbSet (v : Nat) (path : Path) (s : State) : State :=
  if rdB s (pgSched .west) R.SCH_CTRL_EN ∨ rdB s (pgSched .east) R.SCH_CTRL_EN then
    cfgReject pgTimebase R.TB_SET.off 1 .stopped (some path) s
  else allReacquire .east (allReacquire .west { s with tb := ⟨v, v⟩ })

/-- A write of TB_SET (R231). -/
def execTbSet (v : BitVec 64) (path : Path) (s : State) : Host.Outcome State Fault Refusal :=
  done (onPage pgTimebase R.TB_SET.off (fun s => settle (tbSet v.toNat path s)) s)

/-- Every counter of a LIGHT page is cleared (R232). -/
def execLlCntClr (h : Half) (s : State) : Host.Outcome State Fault Refusal :=
  done (onPage (pgLight h) R.LL_CNT_CLR.off (fun s => clearAll (pgLight h) lightCounters s) s)

/-- EN of subscription `i` written (R229). -/
def execSubEnable (h : Half) (i : Nat) (on : Bool) (s : State) : Host.Outcome State Fault Refusal :=
  done (onPage (pgLight h) R.LL_SUB_CTRL_EN.off (fun s => subEnable h i on s) s)

/-- The interval of subscription `i` has ended (R229, R230). -/
def execSubIntervalExpiry (h : Half) (i : Nat) (s : State) : Host.Outcome State Fault Refusal := done (subSend h i s)

/-- A write of SCH_CTRL.EN (R221, R233). -/
def execSchCtrlEnWrite (h : Half) (en : Bool) (path : Path) (s : State) : Host.Outcome State Fault Refusal :=
  done (onPage (pgSched h) R.SCH_CTRL_EN.off (fun s => enWrite (pgSched h) R.SCH_CTRL_EN en path s) s)

/-- Every counter of a SCHED page and HIGH_WATER are cleared (R233). -/
def execSchCntClr (h : Half) (s : State) : Host.Outcome State Fault Refusal :=
  done (onPage (pgSched h) R.SCH_CNT_CLR.off (fun s =>
    clearAll (pgSched h) (schedCounters ++ [R.SCH_STAT_HIGH_WATER]) s) s)

/-- Event `id` reaches its fire instant (R216). -/
def execEventFire (h : Half) (id : Nat) (s : State) : Host.Outcome State Fault Refusal := done (eventFire h id s)

/-- Event `id` has not been granted by its deadline (R219). -/
def execEventDeadlineMiss (h : Half) (id : Nat) (s : State) : Host.Outcome State Fault Refusal :=
  done (settle (eventMiss h id s))

/-- No VERIFY within VFY_TMO of the command with that VTAG (R221). -/
def execVerifyTimeout (h : Half) (vtag : BitVec 32) (s : State) : Host.Outcome State Fault Refusal :=
  done (settle (verifyTimeout h vtag.toNat s))

/-- The buffers of a passed read have been read into Easel (R217). -/
def execMediaReadDone (h : Half) (vtag : BitVec 32) (s : State) : Host.Outcome State Fault Refusal :=
  done (settle (mediaReadDone h vtag.toNat s))

/-- Stream `i` offers a chunk (R224). -/
def execStreamChunkOffer (h : Half) (i : Nat) (s : State) : Host.Outcome State Fault Refusal := done (chunkOffer h i s)

/-- A block is filled into the FIFO of stream `i` (R225). -/
def execStreamFill (h : Half) (i : Nat) (s : State) : Host.Outcome State Fault Refusal := done (streamFill h i s)

end Sys2Proof.Machine
end

