-- ==== Sys2Proof/Machine/CmdQueue.lean ====
section
/-!
DEFINITION. The commands of the FIFOs and the arbiters (chapter 13), and what an uncorrectable entry does to the block
that owns the FIFO.
-/
namespace Sys2Proof.Machine

/-! Uncorrectable entries (R434). -/

/-- The first whole packet of a VC buffer discarded, its slots returned as credit (R55, R434). -/
def vcDrop (n vc : Nat) (s : State) : State :=
  let l := tget [] (fiuGet s n).vcbuf vc
  let k := (l.takeWhile (fun f => !f.tail)).length + 1
  if l.any (·.tail) then
    slotsBack (n, vc, k) (fiuMod n (fun p => { p with vcbuf := tput [] p.vcbuf vc (l.drop k) }) s)
  else s

/-- A transaction discarded from a class queue: what was to be read or verified ends by its timeout, so its owner sees
it as sent though nothing leaves (R434). -/
def txnLost (n : Nat) (t : Txn) (s : State) : State :=
  let s1 :=
    if isRead t then
      let tn := (tnNext s n t.stn).getD 0
      apuMod n (fun p => { p with
        reads := p.reads ++ [⟨t.stn, tn, t.words, t.own⟩], lastTn := tput 63 p.lastTn t.stn tn }) s
    else s
  match t.own with
  | .acc h id i =>
    match accGet s1 h id with
    | some a => partSent h a i s1
    | none => s1
  | _ => txnSent n t 0 s1

/-- A bridge write discarded from the class queue fails with QUEUE_LOST (R171, R175, R185, R434). -/
def bridgeLost (n : Nat) (s : State) : State :=
  let h := aHalf n
  match (apuGet s n).lock with
  | some l =>
    match l.unlock, accGet s l.half l.acc with
    | some t, some a => unlockSent n h l.acc (pwFail h a.pkt (some a.win) 3 cQUEUE_LOST t.addr false s)
    | _, _ => s
  | none =>
    match bridgeHead s n with
    | none => s
    | some (a, i, p) =>
      let t := partTxn h a i p
      if isRead t then txnLost n t s
      else if isPosted a then
        let s1 := accMod h a.id (fun b =>
          let c := partMod i (fun q => { q with st := .skipped }) b
          { c with holdFrom := if wholly c then some s.clk else c.holdFrom }) s
        crossSettle h (postedFail h a cQUEUE_LOST p.addr s1)
      else pwFail h a.pkt (some a.win) 3 cQUEUE_LOST p.addr false (partSent h a i s)

/-- The head of an Atnen port's class queue discarded (R434). -/
def classLost (n cls : Nat) (s : State) : State :=
  let p := apuGet s n
  let drop := fun (l : List Txn) =>
    match l with
    | t :: _ => txnLost n t (popClass n cls s)
    | [] => s
  match cls with
  | 0 => drop p.tape
  | 1 => drop p.media
  | 2 => drop p.mgmt
  | _ => bridgeLost n s

/-- A packet not yet sent taken out of every queue that holds it. -/
def pktForget (id : Nat) (s : State) : State :=
  let drop := fun (e : Egress) => { e with waiting := e.waiting.filter (fun q => q.id != id) }
  { s with
    fiu := s.fiu.map (fun p =>
      (p.1, { p.2 with txq := p.2.txq.map (fun v => (v.1, v.2.filter (fun q => q.id != id))) })),
    egr := ⟨drop s.egr.west, drop s.egr.east⟩ }

/-- The message at the head of Lantern's queue discarded (R434). -/
def evtLost (s : State) : State :=
  match s.lan.evtq with
  | [] => s
  | (id, m, _) :: r =>
    let s1 := pktForget id (lanMod (fun l => { l with evtq := r }) s)
    match m with
    | .source h src => fabMod h src (fun x => { x with waiting := false }) s1
    | .int _ _ _ => s1

/-- What the block that owns a FIFO does about an uncorrectable entry (R434). -/
def uncorrHook (r qid : Nat) (s : State) : State :=
  let i := qIndex qid
  match regHalf r with
  | none => evtLost s
  | some h =>
    match qType qid with
    | 0x01 => vcDrop (fPort h (i / 8)) (i % 8) s
    | 0x02 =>
      fiuMod (fPort h (i / 8)) (fun p => { p with txq := tput [] p.txq (i % 8) ((tget [] p.txq (i % 8)).drop 1) }) s
    | 0x03 => if i % 2 = 0 then codewordReceive (fPort h (i / 2)) ⟨0, [], 17⟩ s else s
    | 0x04 =>
      bufLevel (aPort h i) (apuMod (aPort h i) (fun p => { p with rxHeld := p.rxHeld.drop 1 }) s)
    | 0x05 => classLost (aPort h (i / 4)) (i % 4) s
    | 0x06 => if apuLive s (aPort h (i / 2)) then apuDown (aPort h (i / 2)) (some 4) s else s
    | _ => s

/-- One cycle of a FIFO (R430-R438). A tape stream FIFO's storage is Easel's, so no ECC of this chapter applies to it
(R433). -/
def execFifoCycle (r qid : Nat) (c : FClk) (push : Option FPush) (pop : Bool) (e : FErr) (s : State) :
    Host.Outcome State Fault Refusal :=
  let (s1, unc) := fifoCycle r qid c push pop (if qType qid = 0x07 then ⟨0, false⟩ else e) s
  done (if unc then settle (uncorrHook r qid s1) else s1)

/-! Arbiters (R441-R447). -/

/-- Which requesters of an arbiter ask: those of a fabric or an Atnen port by the port's own queues (R67, R123), the
others as the command says. -/
def arbAsks (s : State) (r aid reqs q : Nat) : Bool :=
  match regHalf r, qType aid with
  | some h, 0x21 =>
    let n := fPort h (qIndex aid)
    (fiuState s n == fsACTIVE) && (fiuGet s n).grant.isNone &&
      (match tget [] (fiuGet s n).txq q with
        | x :: _ => decide (flitCount x.pkt.len ≤ creditAvail (fiuGet s n) q)
        | [] => false)
  | some h, 0x22 => apuAsks s (aPort h (qIndex aid)) q
  | _, _ => reqs.testBit q

/-- A grant made: a fabric port holds it for its packet (R50, R67), an Atnen port sends its transaction (R123). -/
def grantTo (r aid w : Nat) (s : State) : State :=
  match regHalf r, qType aid with
  | some h, 0x21 => fiuMod (fPort h (qIndex aid)) (fun p => { p with grant := some w }) s
  | some h, 0x22 => settle (apuGrant (aPort h (qIndex aid)) w s)
  | _, _ => s

/-- The grant falls free with requests: a decision (R442-R444). -/
def arbDecision (r aid reqs : Nat) (waits : List Nat) (s : State) : State :=
  let a := arbGet s r aid
  let asks := arbAsks s r aid reqs
  match arbWinner r aid a asks with
  | none => s
  | some w => grantTo r aid w (arbMod r aid (arbDecide r aid asks waits w) s)

/-- A decision of an arbiter; `waits` are the cycles for which each requester has waited since the arbiter's last
change (R442, R447). -/
def execArbiterDecision (r aid : Nat) (reqs : BitVec 8) (waits : List Nat) (s : State) :
    Host.Outcome State Fault Refusal := done (arbDecision r aid reqs.toNat waits s)

/-- The parked owner asks alone and takes the grant (R445). -/
def arbParkedGrant (r aid : Nat) (s : State) : State :=
  let a := arbGet s r aid
  match a.owner with
  | none => s
  | some w =>
    let others := (arbReqs r aid).any (fun q => q != w && arbAsks s r aid 0 q)
    if a.held || others || !arbAsks s r aid (2 ^ w) w then s
    else grantTo r aid w (arbMod r aid (arbParked r aid w) s)

/-- A parked grant taken without a decision (R445). -/
def execArbiterParkedGrant (r aid : Nat) (s : State) : Host.Outcome State Fault Refusal := done (arbParkedGrant r aid s)

/-- The holder's burst ends and nobody asks: the grant parks (R445). -/
def execGrantPark (r aid : Nat) (s : State) : Host.Outcome State Fault Refusal :=
  done (if (arbGet s r aid).held ∧ ¬ (arbReqs r aid).any (fun q => arbAsks s r aid 0 q) then
    arbMod r aid (arbPark r aid) s else s)

/-! Register commands of the QUEUES pages (R450-R453). -/

/-- FLUSH written 1 for a FIFO: refused while its owner runs, ignored for an identifier that names none (R439, R451,
R496; the cause is INVALID, R500). -/
def qFlush (r qid : Nat) (path : Path) (s : State) : State :=
  match fifoCap s r qid with
  | none => s
  | some _ =>
    if fifoOwnerOff s r qid then fifoFlush r qid s
    else cfgReject (pgRegQ r) R.Q_CFG_FLUSH.off 3 .stopped (some path) s

/-- A flush by software (R439). -/
def execQFlush (r qid : Nat) (path : Path) (s : State) : Host.Outcome State Fault Refusal :=
  done (onPage (pgRegQ r) R.Q_CFG_FLUSH.off (fun s => qFlush r qid path s) s)

/-- LEVEL of a FIFO written (R437). -/
def execQLevelWrite (r qid v : Nat) (s : State) : Host.Outcome State Fault Refusal :=
  done (onPage (pgRegQ r) R.Q_CFG_FLUSH.off (fun s => levelWrite r qid v s) s)

/-- B and CL of a requester written (R446). -/
def execACfgWrite (r aid q : Nat) (b cl : BitVec 4) (s : State) : Host.Outcome State Fault Refusal :=
  done (onPage (pgRegQ r) R.A_CFG_B.off (fun s => arbCfgWrite r aid q b.toNat cl.toNat s) s)

/-- The counts of every instance of a region cleared (R450). -/
def execQCntClr (r : Nat) (s : State) : Host.Outcome State Fault Refusal :=
  done (onPage (pgRegQ r) R.Q_CNT_CLR.off (fun s => qCntClr r s) s)

end Sys2Proof.Machine
end

