-- ==== Sys2Proof/Machine/Regs.lean ====
section
/-!
DEFINITION. What a register reads (R9-R12, R485-R492, R501-R507): the record that a page's selectors pick, the fields
that other state determines, and the whole register.
-/
namespace Sys2Proof.Machine

/-! The identity of a page (R490-R492). -/

/-- TYPE of a page (R492). -/
def pageType : PageKind → Nat
  | .global => 0x1664
  | .host => 1
  | .lantern => 2
  | .timebase => 3
  | .keeper => 4
  | .protect => 5
  | .primacy => 6
  | .contexts => 7
  | .rings => 8
  | .placeG => 9
  | .easelG => 0xA
  | .queuesG => 0xB
  | .dataPort => 0xC
  | .mgmt => 0x10
  | .egress => 0x11
  | .palette => 0x12
  | .crossing => 0x13
  | .light => 0x14
  | .sched => 0x15
  | .place => 0x16
  | .dikar => 0x17
  | .matching => 0x18
  | .coll => 0x19
  | .erasure => 0x1A
  | .queues => 0xB
  | .easel => 0x1B
  | .cal => 0x1C
  | .fiu => 0x20
  | .apu => 0x21

/-- Index q of a page in its region (R485). -/
def pageQ (P : Nat) : Nat := P / 4

/-- The half of a page; West for the global ones. -/
def pageSide (P : Nat) : Half := (pageHalf P).getD .west

/-- n of an FIU page and of an APU page (R487). -/
def pageFiu (P : Nat) : Nat := 8 * (pageSide P).num + (pageQ P - 16)
def pageApu (P : Nat) : Nat := 32 * (pageSide P).num + (pageQ P - 32)

/-- INSTANCE of a page (R490). -/
def pageInstance (k : PageKind) (P : Nat) : Nat :=
  match k with
  | .fiu => pageFiu P
  | .apu => pageApu P
  | _ => ((pageHalf P).map (·.num)).getD 0

/-- COUNT of a page (R491). -/
def pageCount (k : PageKind) (P : Nat) : Nat :=
  match k with
  | .fiu => 16
  | .apu => 64
  | .queuesG => 3
  | .queues => 3
  | _ => if (pageHalf P).isSome then 2 else 1

/-! Selectors (R502). -/

/-- A light of the half, as a selector names it; a light of the other half shows zeros and takes no writes (R232, R269,
R425). -/
def ownLight (h : Half) (l : Nat) : Option Nat := if lHalf l = h then some l else none

/-- The FIFO and the arbiter that a QUEUES page selects (R451, R453). -/
def selQ (s : State) (P : Nat) : Nat := rd s P R.Q_SEL_TYPE * 1024 + rd s P R.Q_SEL_INDEX
def selA (s : State) (P : Nat) : Nat := rd s P R.A_SEL_TYPE * 1024 + rd s P R.A_SEL_INDEX

/-- The record that a page's selectors pick for the register at `off`; none where it shows zeros and takes no writes. -/
def selIdx (s : State) (k : PageKind) (P off : Nat) : Option Nat :=
  let h := pageSide P
  match k with
  | .cal => if off < 0x228 ∨ 0x240 ≤ off then some 0 else some (laneIdx (rd s P R.CAL_LANE_SEL_PORT) (rd s P R.CAL_LANE_SEL_LANE))
  | .coll => if off < 0xA0 ∨ 0xC0 ≤ off then some 0 else some (rd s P R.COL_SEL_INDEX)
  | .contexts =>
    if 0x88 ≤ off ∧ off < 0xC8 then some (rd s P R.CTX_SEL_CTX)
    else if 0x148 ≤ off ∧ off < 0x168 then some (rd s P R.KR_SEL) else some 0
  | .crossing => if off = 0xC0 ∨ off = 0xC8 then some (rd s P R.CX_INB_SEL_INDEX) else some 0
  | .easel => if 0xC0 ≤ off ∧ off < 0xE0 then some (rd s P R.EZ_STK_SEL) else some 0
  | .erasure =>
    if off = 0xA8 ∨ off = 0xB0 then some (rd s P R.GS_SEL)
    else if off = 0xC0 ∨ off = 0xC8 then ownLight h (rd s P R.ER_LIGHT_SEL) else some 0
  | .keeper =>
    if off = 0x238 ∨ off = 0x240 then
      (if rd s P R.KP_IN_SEL_INPUT < 24 then some (rd s P R.KP_IN_SEL_INPUT) else none)
    else if off = 0x250 ∨ off = 0x258 then some (rd s P R.KP_RULE_SEL_RULE) else some 0
  | .lantern =>
    if off = 0x98 ∨ off = 0xA0 then some (rd s P R.LAN_SRC_SEL_SOURCE)
    else if off = 0xB0 ∨ off = 0xB8 then some (rd s P R.LAN_VEC_SEL_VECTOR) else some 0
  | .light =>
    if 0xA0 ≤ off ∧ off < 0xE0 then ownLight h (rd s P R.LL_SEL_LIGHT)
    else if 0x108 ≤ off ∧ off < 0x120 then some (rd s P R.LL_SUB_SEL_INDEX) else some 0
  | .palette => if 0xA0 ≤ off ∧ off < 0xE0 then some (rd s P R.PAL_WIN_SEL_INDEX) else some 0
  | .place => if 0xA0 ≤ off ∧ off < 0xC0 then ownLight h (rd s P R.PL_LIGHT_SEL_LIGHT) else some 0
  | .placeG => if off = 0x88 ∨ off = 0x90 then some (rd s P R.PLG_GRP_SEL_INDEX) else some 0
  | .protect => if off = 0x290 then some (rd s P R.PR_NODE_SEL_INDEX) else some 0
  | .rings => if 0x88 ≤ off ∧ off < 0xB0 then some (rd s P R.RING_SEL_RING) else some 0
  | .sched => if 0x98 ≤ off ∧ off < 0xB8 then some (rd s P R.SCH_STR_SEL_INDEX) else some 0
  | _ => some 0

/-! Fields that other state determines. -/

/-- The ports of a half whose CAL marks or sweeps stand, as a mask (R593). -/
def calMask (s : State) (h : Half) : Nat :=
  let c := s.cal.at h
  ((List.range 32).map (fun i =>
    if c.marked.contains i || c.lanes.any (fun x => x.1 == i) || c.sweeps.any (fun x => x.1 == i) then 2 ^ i else 0)).sum

def viewCal (s : State) (h : Half) (i : Nat) : List (Fld × Nat) :=
  [(R.CAL_STAT_T_NOW, tNow s h), (R.CAL_STAT_RUNNING, (s.cal.at h).runs.length),
    (R.CAL_STAT_STUCK, ((listedIdx s (pgCal h) R.CAL_LANE_VIEW_0_STUCK).filter (fun j =>
      rdBI s (pgCal h) R.CAL_LANE_VIEW_0_STUCK j)).length),
    (R.CAL_STAT_MARKED, calMask s h), (R.CAL_LANE_VIEW_0_STATE, laneState s h (i / 8) (i % 8))]

/-- A gather record's view; a free one shows zeros (R359). -/
def viewColl (s : State) (h : Half) (i : Nat) : List (Fld × Nat) :=
  [(R.COL_STAT_HELD_MIB, collPages s h / 16), (R.COL_STAT_MEMBERS, memberRecs s h),
    (R.COL_STAT_GROUPS, (s.coll.at h).recs.length)] ++
  match recGet s h i with
  | none => []
  | some r =>
    let ms := recOps s r
    let got := (ms.filter (·.received)).length
    [(R.COL_VIEW_0_OBJ_ID, r.obj), (R.COL_VIEW_1_TAG, r.tag), (R.COL_VIEW_1_STATE, if r.closing || r.over then 2 else 1),
      (R.COL_VIEW_1_PARTIAL_OK, bit r.partialOk), (R.COL_VIEW_1_NOTIFY, bit r.notify),
      (R.COL_VIEW_1_NMEMB_M1, r.nmemb - 1), (R.COL_VIEW_1_GROUP, r.group), (R.COL_VIEW_1_TMO, r.tmoMs),
      (R.COL_VIEW_2_RECEIVED, got), (R.COL_VIEW_2_FAILED, (ms.filter (fun d => d.pullFail.isSome)).length),
      (R.COL_VIEW_2_ADMITTED, r.members.length), (R.COL_VIEW_3_DEADLINE, r.deadline)]

def viewCtx (s : State) (c : Nat) : List (Fld × Nat) :=
  let h := ctxHome s c
  let bs := ctxBlocks s h c
  [(R.CTX_VIEW_6_HEAD_BLK, bs.headD 0), (R.CTX_VIEW_6_TAIL_BLK, bs.getLastD 0), (R.CTX_VIEW_6_ENTRIES, ctxEntries s h c),
    (R.CTX_VIEW_7_OVF_COUNT, (ctxOvf s h c).length), (R.CTX_VIEW_7_INFLIGHT, ctxInflight s c)]

def viewCross (s : State) (h : Half) : List (Fld × Nat) :=
  let c := s.cross.at h
  [(R.CX_STAT_LOCKS_OPEN, ((List.range 32).filter (fun i => (apuGet s (32 * h.num + i)).lock.isSome)).length),
    (R.CX_STAT_SEM_HELD, (semsHeld c).length), (R.CX_STAT_TRK_USED, trkUsed c), (R.CX_STAT_BLK_USED, blkUsed c),
    (R.CX_STAT_REC_USED, recUsed c), (R.CX_LOG_BASE_FAR_BASE, h.num * 2 ^ 24 + 0x120000),
    (R.CX_LOG_BASE_PW_BASE, h.num * 2 ^ 24 + 0x100000)]

def viewDikar (s : State) (h : Half) : List (Fld × Nat) :=
  [(R.DK_STAT_NAMES, namesLive s), (R.DK_STAT_NS_LOCAL, bit (holds s h)), (R.DK_STAT_INFLIGHT, slotsUsed s h)]

/-- Pages of a half that hold data whose stripe is not committed (R397). -/
def pagesPending (s : State) (h : Half) : Nat :=
  ((s.place.at h).used.filter (fun p => s.objs.writes.any (fun w => w.pages.any (fun g =>
    decide (g.half = h) && g.page == p && !g.settled)))).length

def viewEasel (s : State) (h : Half) : List (Fld × Nat) :=
  [(R.EZ_WB_STAT0_USED, (s.place.at h).used.length), (R.EZ_WB_STAT0_TOTAL, wbTotal s),
    (R.EZ_WB_STAT1_PENDING, pagesPending s h), (R.EZ_WB_STAT1_RESERVE, wbReserve s h),
    (R.EZ_JRNL_STAT_FILL, (s.jrnl.at h).fill / 2 ^ 14), (R.EZ_JRNL_STAT_REPLAY, rd s pgEaselG (replayFld h)),
    (R.EZ_JSEQ, (s.jrnl.at h).jseq)]

/-- A Gesso job's view; a free slot shows zeros (R428). -/
def viewGesso (s : State) (h : Half) (i : Nat) : List (Fld × Nat) :=
  match jobGet s h i with
  | none => []
  | some j =>
    let tracks := (j.units.map (fun u => if isDisc s u.light then (lgt s u.light).desc.extent else 1)).sum
    [(R.GS_VIEW_0_STATE, if j.ending then 2 else 1), (R.GS_VIEW_0_PORT, j.port), (R.GS_VIEW_0_STN, j.stn),
      (R.GS_VIEW_0_UNIT, j.unit), (R.GS_VIEW_0_TOTAL, j.units.length),
      (R.GS_VIEW_0_DONE, (j.units.filter (fun u => u.out == some 0)).length),
      (R.GS_VIEW_0_FAILED, (j.units.filter (fun u => u.out.isSome && u.out != some 0)).length),
      (R.GS_VIEW_1_TRACKS_TOTAL, tracks), (R.GS_VIEW_1_TRACKS_DONE, (j.units.map (·.tracksDone)).sum)]

def viewErasure (s : State) (h : Half) (i : Nat) : List (Fld × Nat) :=
  [(R.ER_STAT_JOBS, (s.place.at h).jobs.length), (R.ER_STAT_UNREADABLE, ((s.place.at h).repairs.filter (·.unreadable)).length),
    (R.ER_STAT_ACTIVE, repairsOn s h), (R.ER_STAT_QUEUED, (s.place.at h).repairs.length)] ++ viewGesso s h i

def viewFiu (s : State) (n : Nat) : List (Fld × Nat) :=
  let p := fiuGet s n
  [(R.FIU_CRD_AVAIL_LO_CRD_VC0, creditAvail p 0), (R.FIU_CRD_AVAIL_LO_CRD_VC1, creditAvail p 1),
    (R.FIU_CRD_AVAIL_LO_CRD_VC2, creditAvail p 2), (R.FIU_CRD_AVAIL_LO_CRD_VC3, creditAvail p 3),
    (R.FIU_CRD_AVAIL_HI_CRD_VC4, creditAvail p 4), (R.FIU_CRD_AVAIL_HI_CRD_VC5, creditAvail p 5),
    (R.FIU_SEQ_STAT_REPLAY_FILL, p.held.length), (R.FIU_SEQ_STAT_RX_EXPECT, p.expect),
    (R.FIU_SEQ_STAT_TX_OLDEST, ((p.held.head?).map (·.seq)).getD p.txNext), (R.FIU_SEQ_STAT_TX_NEXT, p.txNext)]

def viewKeeper (s : State) : List (Fld × Nat) :=
  [(R.KP_PWR_STAT_DRAIN_WAIT, if power s = psDRAIN then drainWait s else 0), (R.KP_LOG_STAT_DEPTH, s.keeper.log.length)]

/-- Vectors in a state. -/
def vecsIn (s : State) (st : Nat) : Nat := ((vecsBusy s).filter (fun v => vecState s v == st)).length

def viewLantern (s : State) (off i : Nat) : List (Fld × Nat) :=
  let due := vecState s i == vsDUE
  let w := fabGet s .west i
  let e := fabGet s .east i
  if off = 0xA0 then
    [(R.LAN_SRC_STAT_FAB_COUNT, min 65535 (w.count + e.count)), (R.LAN_SRC_STAT_FAB_WAIT, bit (w.waiting || e.waiting))]
  else
    [(R.LAN_STAT_VEC_DUE, vecsIn s vsDUE), (R.LAN_STAT_VEC_COLLECTING, vecsIn s vsCOLLECTING),
      (R.LAN_STAT_HOST_ASLEEP, bit s.lan.asleep), (R.LAN_STAT_EVTQ_DEPTH, s.lan.evtq.length),
      (R.LAN_VEC_STAT_WAIT_MASK, bit (due && vecMasked s i)), (R.LAN_VEC_STAT_WAIT_HOST, bit (due && hostAway s))]

/-- Lights of a half in a state. -/
def lightsIn (s : State) (h : Half) (st : Nat) : Nat := ((halfLights s h).filter (fun l => lightState s l == st)).length

def viewLight (s : State) (h : Half) (l : Nat) : List (Fld × Nat) :=
  let x := lgt s l
  let gone := if lightState s l = lsUNASSIGNED then
    [(R.LL_VIEW_0_PORT, 0), (R.LL_VIEW_0_STN, 0), (R.LL_VIEW_0_UNIT, 0)] else []
  gone ++ [(R.LL_STAT_FAULT_COUNT, lightsIn s h lsFAULT), (R.LL_STAT_DRIFT_COUNT, lightsIn s h lsDRIFT),
    (R.LL_STAT_ACQ_COUNT, lightsIn s h lsACQUIRE), (R.LL_STAT_LIT_COUNT, lightsIn s h lsLIT),
    (R.LL_VIEW_1_T_REF, (x.tref / 2 ^ 16 % 2 ^ 64).toNat), (R.LL_VIEW_2_PERIOD, periodWord s l / 2 ^ 16),
    (R.LL_VIEW_2_PERIOD_FRAC, periodWord s l % 2 ^ 16), (R.LL_VIEW_7_REF_COUNT, (x.refCount % 2 ^ 32).toNat)]

def viewMatch (s : State) (h : Half) : List (Fld × Nat) :=
  let m := mh s h
  [(R.MT_STAT_OVF_USED, m.ovf.length), (R.MT_STAT_PINNED, pinned s h), (R.MT_STAT_CACHED, m.cached.length),
    (R.MT_STAT2_BLOCKS_USED, (m.blocks.map (fun b => b.2.length)).sum),
    (R.MT_STAT2_ENTRIES_USED, (m.ents.filter (fun e => e.2.valid)).length)]

/-- A result queue's figures (R507). -/
def viewResult (s : State) (q : Nat) : List (Fld × Nat) :=
  let r := tget {} s.results q
  [(R.RESULT_STAT_LOST, r.lost), (R.RESULT_STAT_NEXT_SEQ, ((r.words.head?).map (·.seq)).getD r.nextSeq % 128),
    (R.RESULT_STAT_DEPTH, r.words.length)]

def viewMgmt (s : State) (h : Half) : List (Fld × Nat) :=
  let b := s.boot
  let w := b.west
  let e := b.east
  [(R.ST_STAT_CAUSE, b.cause), (R.ST_STAT_SEQ, b.seq), (R.ST_STAT_S1, b.s1), (R.ST_STAT_S2, b.s2), (R.ST_STAT_S4, b.s4),
    (R.ST_STAT_W_STEP, w.step), (R.ST_STAT_E_STEP, e.step), (R.ST_STAT_W_STATE, w.state), (R.ST_STAT_E_STATE, e.state),
    (R.ST_W_CODES_S3, w.s3), (R.ST_W_CODES_S5, w.s5), (R.ST_W_CODES_S6, w.s6), (R.ST_W_CODES_S7, w.s7),
    (R.ST_W_CODES_S8, w.s8), (R.ST_W_CODES_S9, w.s9), (R.ST_E_CODES_S3, e.s3), (R.ST_E_CODES_S5, e.s5),
    (R.ST_E_CODES_S6, e.s6), (R.ST_E_CODES_S7, e.s7), (R.ST_E_CODES_S8, e.s8), (R.ST_E_CODES_S9, e.s9)] ++
    viewResult s (resOf h)

def viewPlace (s : State) (h : Half) (l : Nat) : List (Fld × Nat) :=
  let mine := s.objs.stripes.filter (fun x => decide (x.home = h) && !x.gone)
  let spin := s.lights.filter (fun x => x.2.bound && decide (lHalf x.1 = h) && (x.2.unitState == 2 || spinPending s x.1 3))
  let pos := match strOfLight s l with
    | some (_, x) => [(R.PL_LIGHT_VIEW_0_CUR_TRACK, x.nextBlock)]
    | none => []
  pos ++ [(R.PL_STAT_STALLED, (mine.filter (isStalled s)).length), (R.PL_STAT_PENDING, mine.length),
    (R.PL_STAT_SPINNING_UP, spin.length), (R.PL_LIGHT_VIEW_1_BAD, (plt s l).bad.length)]

def viewRings (s : State) (r : Nat) : List (Fld × Nat) :=
  [(R.RING_STAT_HALF, (ringHome s r).num), (R.RING_STAT_OUTSTANDING, (ringGet s r).descs.length),
    (R.POLL_LOAD_EAST, pollLoad s .east), (R.POLL_LOAD_WEST, pollLoad s .west)]

def viewSched (s : State) (h : Half) (i : Nat) : List (Fld × Nat) :=
  let x := strGet s h i
  let unsent := (unsentBlocks x).length
  [(R.SCH_STAT_STREAMS, ((s.sched.at h).streams.filter (fun p => p.2.open_)).length),
    (R.SCH_STAT_PENDING, (s.sched.at h).events.length), (R.SCH_STR_VIEW_0_OPEN, bit x.open_),
    (R.SCH_STR_VIEW_0_STATE, x.state), (R.SCH_STR_VIEW_0_LIGHT, x.light), (R.SCH_STR_VIEW_0_FIFO_LOG2, x.fifoLog2),
    (R.SCH_STR_VIEW_1_RES_KIB, x.res / 1024), (R.SCH_STR_VIEW_1_CREDIT, creditNow s x),
    (R.SCH_STR_VIEW_2_UNSENT, unsent * 2 ^ 20), (R.SCH_STR_VIEW_2_UNVERIFIED, (x.blocks.length - unsent) * 2 ^ 20),
    (R.SCH_STR_VIEW_3_NEXT_BLOCK, x.nextBlock), (R.SCH_STR_VIEW_3_MARKS_LOST, x.marksLost)]

/-- The selected FIFO and arbiter of a QUEUES page; an identifier that names none shows zeros (R450-R454). -/
def viewQueues (s : State) (P : Nat) : List (Fld × Nat) :=
  let r := P % 4
  let q := selQ s P
  let a := selA s P
  let w := rd s P R.A_SEL_REQ
  let f := fifoGet s r q
  let fs := match fifoCap s r q with
    | none => []
    | some c =>
      let fr := fifoFramed q
      [(R.Q_CFG_LEVEL, fifoLevel q f), (R.Q_STAT_DEPTH, f.depth), (R.Q_STAT_CAPACITY, c),
        (R.Q_STAT_OPEN_PKT, bit (f.openPkt fr)), (R.Q_STAT_DUAL, bit (fifoDual q)), (R.Q_STAT_FRAMED, bit fr),
        (R.Q_STAT_ARMED, bit f.armed), (R.Q_STAT_FULL, bit (f.full c)), (R.Q_STAT_EMPTY, bit (f.empty fr)),
        (R.Q_CORR, f.corr), (R.Q_UNCORR, f.uncorr), (R.Q_FLUSH_DROP, f.flushDrop), (R.Q_HIGH, f.high)]
  let xs := match arbCfg r a w with
    | none => []
    | some (_, _, fixed) =>
      let x := arbGet s r a
      let y := arbReq r a x w
      [(R.A_CFG_CL, y.ceil), (R.A_CFG_B, y.base), (R.A_STAT_FIXED, bit fixed),
        (R.A_STAT_PARKED, bit (x.owner.isSome && !x.held)), (R.A_STAT_OWNER, x.owner.getD 0), (R.A_STAT_LAST, x.last),
        (R.A_STAT_REQUESTING, bit y.req), (R.A_STAT_P, y.p), (R.A_GRANTS, y.grants), (R.A_WAIT, y.waits),
        (R.A_LONGEST, y.longest), (R.A_CUR_WAIT, y.curWait)]
  fs ++ xs

/-- Fields of a page that other state determines, for the record picked. -/
def pageView (s : State) (k : PageKind) (P off i : Nat) : List (Fld × Nat) :=
  let h := pageSide P
  match k with
  | .global => [(R.GL_SERIAL, Config.serial)]
  | .host => viewResult s 0
  | .lantern => viewLantern s off i
  | .timebase =>
    (R.TB_NOW, s.tb.west) :: (if rdB s P R.TB_STAT_HOLDOVER then [(R.TB_HOLD_HOLD_S, holdSecs s)] else [])
  | .keeper => viewKeeper s
  | .protect => []
  | .primacy => [(R.PRM_STAT_PREF, s.keeper.straps.pref.num)]
  | .contexts => viewCtx s i
  | .rings => viewRings s i
  | .placeG => []
  | .easelG => [(R.EZG_STAT_STATE, ezState s)]
  | .queuesG => viewQueues s P
  | .queues => viewQueues s P
  | .dataPort => [(R.DP_STAT_BUSY, bit (s.dp.any (fun a => a.write && a.fail.isNone)))]
  | .mgmt => viewMgmt s h
  | .egress => []
  | .palette => [(R.PAL_STAT_SEM_COUNT, semWindows s h), (R.PAL_STAT_WIN_COUNT, (winsOn s h).length)]
  | .crossing => viewCross s h
  | .light => viewLight s h i
  | .sched => viewSched s h i
  | .place => viewPlace s h i
  | .dikar => viewDikar s h
  | .matching => viewMatch s h
  | .coll => viewColl s h i
  | .erasure => viewErasure s h i
  | .easel => viewEasel s h
  | .cal => viewCal s h i
  | .fiu => viewFiu s (pageFiu P)
  | .apu => [(R.APU_RD_STAT, (apuGet s (pageApu P)).reads.length)]

/-! The common header (R490, R491, R496, R497). -/

/-- The block of a page is disabled in the sense of R496; a page without STOPPED fields never is. -/
def blockOff (s : State) (k : PageKind) (P : Nat) : Bool :=
  match k with
  | .global => (List.range 16).all (fun n => !rdB s (pgFiu n) R.FIU_LINK_CTRL_EN)
  | .fiu => !rdB s P R.FIU_LINK_CTRL_EN
  | .timebase => !rdB s (pgSched .west) R.SCH_CTRL_EN && !rdB s (pgSched .east) R.SCH_CTRL_EN
  | .contexts => ctxState s (rd s P R.CTX_SEL_CTX) == csCLOSED
  | .rings => !ringEn s (rd s P R.RING_SEL_RING)
  | .easelG => !rdB s P R.EZG_CTRL_SVC
  | .queuesG => (fifoCap s (P % 4) (selQ s P)).isSome && fifoOwnerOff s (P % 4) (selQ s P)
  | .queues => (fifoCap s (P % 4) (selQ s P)).isSome && fifoOwnerOff s (P % 4) (selQ s P)
  | _ => false

def viewHdr (s : State) (k : PageKind) (P : Nat) : List (Fld × Nat) :=
  let fs := kindFields k
  let src := pageSource P
  [(R.BLK_ID_TYPE, pageType k), (R.BLK_ID_INSTANCE, pageInstance k P), (R.BLK_ID_REVISION, 256 + Config.siliconRev % 256),
    (R.BLK_CAP_COUNT, pageCount k P), (R.BLK_CAP_HAS_RPOP, bit (fs.any (fun f => f.acc == .rpop))),
    (R.BLK_CAP_HAS_GUARDED, bit (fs.any (fun f => f.cls == .guarded))),
    (R.BLK_CAP_HAS_STOPPED, bit (fs.any (fun f => f.cls == .stopped))),
    (R.BLK_CAP_HAS_STAGED, bit (fs.any (fun f => f.cls == .staged))),
    (R.STAT_APPLY_PENDING, bit (s.captured.any (fun e => e.1.page == P))), (R.STAT_ENABLED, bit (!blockOff s k P)),
    (R.EVT_ROUTE_NONE, bit src.isNone), (R.EVT_ROUTE_SOURCE, src.getD 0)]

/-! Fields and registers. -/

/-- A field's value in force as a read returns it: write-only fields read zero (R12). -/
def fldRead (s : State) (k : PageKind) (P : Nat) (f : Fld) : Nat :=
  match f.acc with
  | .wo => 0
  | .rpop => 0
  | _ =>
    match selIdx s k P f.off with
    | none => 0
    | some i =>
      match ((if f.off < 0x80 then viewHdr s k P else pageView s k P f.off i).find? (fun x => x.1 == f)) with
      | some x => x.2 % 2 ^ f.w
      | none => rdI s P f (if f.view then i else 0)

/-- The MSI-X table and pending bits (R488): an entry's address, data and mask; a vector pends while it is DUE. -/
def pgMsix : Nat := 4 * 4095

def msixRead (s : State) (off : Nat) : Nat :=
  if off < 0x400 then
    let v := off / 16
    if off % 16 = 0 then tget 0 s.lan.msixTable (2 * v)
    else tget 0 s.lan.msixTable (2 * v + 1) % 2 ^ 32 + bit (s.lan.vecMask.testBit v) * 2 ^ 32
  else if off = 0x800 then ((List.range 64).map (fun v => if vecState s v = vsDUE then 2 ^ v else 0)).sum
  else 0

/-- The 64-bit register at byte `off` of page `P`; reserved registers, pages and dead pages read zero (R11, R485,
R489). -/
def regRead (s : State) (P off : Nat) : Nat :=
  if P = pgMsix then msixRead s off
  else
    match pageKind P with
    | none => 0
    | some k =>
      if pageLive s P then ((regFields P off).map (fun f => fldRead s k P f * 2 ^ f.lo)).sum else 0

end Sys2Proof.Machine
end

