-- ==== Sys2Proof/Machine/RegWrite.lean ====
section
/-!
DEFINITION. The judge of register writes: field by field, class by class (R12-R15, R458, R493-R502), the shadow's
commands, and the registers whose every write acts.
-/
namespace Sys2Proof.Machine

/-! Images and masks (R9, R494). -/

/-- The bits of the register that a write reaches. -/
def partMask : Part → Nat
  | .whole => 2 ^ 64 - 1
  | .low => 2 ^ 32 - 1
  | .high => (2 ^ 32 - 1) * 2 ^ 32

/-- The written bits at their places in the register. -/
def partImage (part : Part) (v : Nat) : Nat :=
  match part with
  | .whole => v
  | .low => v % 2 ^ 32
  | .high => v % 2 ^ 32 * 2 ^ 32

/-- A register with the bits that a write reaches replaced. -/
def mergeImage (cur mask img : Nat) : Nat := (cur &&& (2 ^ 64 - 1 - mask)) ||| (img &&& mask)

/-- A field with the bits that a write reaches replaced (R494). -/
def fldNew (f : Fld) (cur mask img : Nat) : Nat := bits (mergeImage (cur * 2 ^ f.lo) mask img) (f.lo + f.w - 1) f.lo

/-- A write reaches some bit of a field. -/
def fldReached (f : Fld) (mask : Nat) : Bool := ((2 ^ f.w - 1) * 2 ^ f.lo &&& mask) != 0

/-! Events of a page that are not reserved (R458). -/

/-- How many events a page's EVT_RAW has (R88, R89, R130, R160, R198, R231, R234, R268, R271, R305, R336, R338, R360,
R400, R401, R429, R455, R476, R503, R504, R550, R552, R574, R594, R615). -/
def eventCount : PageKind → Nat
  | .global => 1
  | .host => 6
  | .lantern => 5
  | .timebase => 4
  | .keeper => 7
  | .protect => 7
  | .primacy => 5
  | .contexts => 0
  | .rings => 2
  | .placeG => 2
  | .easelG => 4
  | .queuesG => 2
  | .dataPort => 0
  | .mgmt => 7
  | .egress => 3
  | .palette => 7
  | .crossing => 10
  | .light => 6
  | .sched => 7
  | .place => 6
  | .dikar => 8
  | .matching => 7
  | .coll => 5
  | .erasure => 7
  | .queues => 2
  | .easel => 13
  | .cal => 4
  | .fiu => 9
  | .apu => 12

/-! The shadow (R497, R498). -/

/-- A STAGED field written: the value goes to the shadow. -/
def shadowPut (k : RKey) (v : Nat) (s : State) : State :=
  wr k.page R.STAT_SHADOW_DIRTY 1 { s with shadow := tinsBy RKey.code s.shadow k v }

/-- One more write into the shadow of a page. -/
def shadowCount (P : Nat) (s : State) : State :=
  wr P R.CLASS_STAT_SHADOW_WRITES (min (rd s P R.CLASS_STAT_SHADOW_WRITES + 1) 65535) s

/-- The shadow of a page has no write that is not captured. -/
def shadowClean (P : Nat) (s : State) : State := clearAll P [R.STAT_SHADOW_DIRTY, R.CLASS_STAT_SHADOW_WRITES] s

/-- Every shadow entry of a page back at its value in force; a pending capture stands (R497). -/
def shadowDiscard (P : Nat) (s : State) : State :=
  let own := (s.captured.filter (fun e => e.1.page == P)).map (fun e => (e.1, keyVal s e.1))
  shadowClean P { s with shadow := own.foldl (fun t e => tinsBy RKey.code t e.1 e.2) (s.shadow.filter (fun e => e.1.page != P)) }

/-- The block of a page with STAGED fields is disabled on a half, so that a capture takes effect at once (R497). -/
def stagedOff (s : State) (k : PageKind) (h : Half) : Bool :=
  match k with
  | .light => !rdB s (pgLight h) R.LL_CTRL_EN
  | .place => !rdB s (pgPlace h) R.PL_CTRL_EN
  | .placeG => !rdB s (pgPlace h) R.PL_CTRL_EN
  | .cal => !rdB s (pgCal h) R.CAL_CTRL_EN
  | _ => false

/-- The boundary of a page falls on a half (R499). PLACE_GLOBAL's groups and policy have one each. -/
def shadowBoundary (P : Nat) (h : Half) (s : State) : State :=
  if P = pgPlaceG then groupBoundary h s
  else if (pageHalf P).all (fun g => decide (g = h)) then boundary P (fun _ => true) s
  else s

/-- APPLY captures every shadow entry that differs from its value in force (R263, R497, R499). -/
def shadowApply (k : PageKind) (P : Nat) (path : Path) (s : State) : State :=
  if s.captured.any (fun e => e.1.page == P) then
    cfgReject P R.SHADOW_CMD_APPLY.off 4 .live (some path) s
  else
    let hit := s.shadow.filter (fun e => e.1.page == P && e.2 != keyVal s e.1)
    let s0 := if P = pgPlaceG then
        plMod .east (fun x => { x with polDue := true }) (plMod .west (fun x => { x with polDue := true }) s)
      else s
    if hit.isEmpty then s0
    else
      let s1 := shadowClean P { s0 with captured := hit.foldl (fun t e => tinsBy RKey.code t e.1 e.2) s0.captured }
      let at_ := fun (h : Half) (t : State) => if stagedOff t k h then shadowBoundary P h t else t
      at_ .east (at_ .west s1)

/-! Fields that act (R84, R126, R232, R396, R451). -/

/-- The start-up record, or a register kept in it, has changed: one CONFIG step (R610, R613). -/
def cfgSaved (s : State) : State :=
  match leadHalf s with
  | none => s
  | some h => if xstepOk s then jrnlBoth h s else jrnl h s

/-- A LIVE field's new value is refused by its chapter: a pool of a port (R52), the Easel service (R396), a pinned context
too many (R313), a ring (R332). -/
def liveRefused (k : PageKind) (P j : Nat) (f : Fld) (v : Nat) (s : State) : Bool :=
  let svc := rdB s pgEaselG R.EZG_CTRL_SVC
  match k with
  | .fiu => f == R.FIU_LINK_CTRL_EN && v == 1 && !poolsOk s (pageFiu P)
  | .dikar => f == R.DK_CTRL_EN && v == 1 && !svc
  | .place => f == R.PL_CTRL_EN && v == 1 && !svc
  | .coll => f == R.COL_CTRL_EN && v == 1 && !svc
  | .sched => f == R.SCH_CTRL_EN && v == 1 && !svc
  | .easelG => f == R.EZG_CTRL_SVC && (if v = 1 then ezState s != 1 else svcNeeded s)
  | .contexts => f == R.CTX_VIEW_0_PIN && v == 1 && decide (16384 ≤ pinned s (ctxHome s j))
  | .rings => f == R.RING_CTRL_EN && v == 1 &&
      !(ringOk s j && ((ringGet s j).blk.isSome || (ringBlock s (ringHome s j) j).isSome))
  | _ => false

/-- The link and port controls, the engines' enables and the other LIVE fields set, each with what its chapter has it
do. -/
def livePut (k : PageKind) (P j : Nat) (f : Fld) (v : Nat) (path : Path) (s : State) : State :=
  let b := v != 0
  let h := pageSide P
  let plain := wrI P f j v s
  match k with
  | .apu =>
    let n := pageApu P
    if f = R.APU_CTRL_EN then apuEnWrite n b s
    else if f = R.APU_CTRL_HOLD then apuHoldCheck n plain
    else if f = R.APU_CTRL_TSYNC_EN then if b then plain else portReacquire n plain
    else plain
  | .fiu =>
    if f = R.FIU_LINK_CTRL_EN then fiuEnWrite (pageFiu P) b path s
    else if f = R.FIU_LINK_CTRL_LP_REQ then lpReqWrite (pageFiu P) b s
    else plain
  | .egress =>
    if f = R.EGR_PORT_MASK_ELIGIBLE ∨ f = R.EGR_CTRL_SPAN_SPILL then withEgress (wrI P f j v) s else plain
  | .crossing =>
    if f = R.CX_PWLOG_TAIL then tailWrite P R.CX_PWLOG_HEAD R.CX_PWLOG_TAIL 4096 v s
    else if f = R.CX_FARLOG_TAIL then tailWrite P R.CX_FARLOG_HEAD R.CX_FARLOG_TAIL 1024 v s
    else plain
  | .easel => if f = R.EZ_ELOG_TAIL then tailWrite P R.EZ_ELOG_HEAD R.EZ_ELOG_TAIL 4096 v s else plain
  | .light =>
    if f = R.LL_CTRL_EN then llEnWrite h b s
    else if f = R.LL_VIEW_6_HOLD then if b then plain else fixHeld j plain
    else if f = R.LL_SUB_CTRL_EN then subEnable h j b s
    else plain
  | .cal => if f = R.CAL_CTRL_EN then calEnWrite h b s else plain
  | .lantern => if f = R.LAN_CTRL_EN then lanEnWrite b s else plain
  | .queues =>
    if f = R.Q_CFG_LEVEL then levelWrite (P % 4) (selQ s P) v s
    else if f = R.A_CFG_B ∨ f = R.A_CFG_CL then
      let r := P % 4
      let y := arbReq r (selA s P) (arbGet s r (selA s P)) (rd s P R.A_SEL_REQ)
      arbCfgWrite r (selA s P) (rd s P R.A_SEL_REQ) (if f = R.A_CFG_B then v else y.base)
        (if f = R.A_CFG_CL then v else y.ceil) s
    else plain
  | .queuesG => if f = R.Q_CFG_LEVEL then levelWrite (P % 4) (selQ s P) v s else plain
  | .rings => if f = R.RING_CTRL_EN then if b then ringEnable j path s else ringDisable j s else plain
  | .place => if f = R.PL_LIGHT_VIEW_0_WR_OFF then jrnl h plain else plain
  | .mgmt =>
    if f.off = R.ST_WAIT_PORT_WAIT.off then cfgSaved (wr (pgMgmt .east) f v (wr (pgMgmt .west) f v s))
    else if R.ST_APU_EN_MASK.off ≤ f.off ∧ f.off ≤ R.ST_RESUME_PAL.off then cfgSaved plain
    else plain
  | _ => plain

/-- A STOPPED field of a disabled block set; NODE_BASE is saved into the start-up record (R610). -/
def stoppedPut (P j : Nat) (f : Fld) (v : Nat) (s : State) : State :=
  let s1 := wrI P f j v s
  if P = pgGlobal then cfgSaved { s1 with record := { s1.record with nodeBase := v } } else s1

/-- A WO field that shares its register with others, written 1 (R84, R126, R451). -/
def woBit (k : PageKind) (P : Nat) (f : Fld) (s : State) : State × Option (Nat × FCls) :=
  match k with
  | .apu =>
    let n := pageApu P
    if f = R.APU_CTRL_TRAIN_START then (if apuState s n = asDOWN then apuTrain n s else s, none)
    else (if apuState s n = asACTIVE then apuEnum n s else s, none)
  | .fiu => (fiuRetrain (pageFiu P) s, none)
  | .queues =>
    if fifoOwnerOff s (P % 4) (selQ s P) then (fifoFlush (P % 4) (selQ s P) s, none)
    else if (fifoCap s (P % 4) (selQ s P)).isSome then (s, some (3, .stopped)) else (s, none)
  | .queuesG => if (fifoCap s (P % 4) (selQ s P)).isSome then (s, some (3, .stopped)) else (s, none)
  | _ => (s, none)

/-- Bits of a W1C field cleared (R12, R158, R458, R463). -/
def w1cClear (P j : Nat) (f : Fld) (m : Nat) (s : State) : State :=
  if f.off = R.EVT_PEND.off then pendClear P m s else wrI P f j (rdI s P f j &&& (2 ^ 64 - 1 - m)) s

/-! The judge (R493-R500). -/

/-- One field of a written register; `off` says that the block was disabled when the write came. The refusal so far is
carried along: that of the highest field counts (R500). -/
def fldWrite (k : PageKind) (P : Nat) (path : Path) (mask img : Nat) (off : Bool) (x : State × Option (Nat × FCls)) (f : Fld) :
    State × Option (Nat × FCls) :=
  let s := x.1
  if !fldReached f mask then x
  else
    match selIdx s k P f.off with
    | none => x
    | some i =>
      let j := if f.view then i else 0
      let cur := fldRead s k P f
      let v := fldNew f (if f.cls = .staged then shadowVal s (f.key P j) else cur) mask img
      match f.acc with
      | .rpop => x
      | .ro => if f.cls = .guarded ∧ v ≠ cur then (s, some (2, .guarded)) else x
      | .w1c => (w1cClear P j f (bits (img &&& mask) (f.lo + f.w - 1) f.lo) s, x.2)
      | .w1s => (wrI P f j (cur ||| bits (img &&& mask) (f.lo + f.w - 1) f.lo) s, x.2)
      | .wo =>
        if v = 0 then x
        else
          let y := woBit k P f s
          (y.1, if y.2.isSome then y.2 else x.2)
      | .rw =>
        match f.cls with
        | .staged => (shadowPut (f.key P j) v s, x.2)
        | .stopped => if v = cur then x else if off then (stoppedPut P j f v s, x.2) else (s, some (1, .stopped))
        | _ =>
          let w := if f.off = R.EVT_EN.off then v % 2 ^ eventCount k else v
          if w = cur then x
          else if liveRefused k P j f w s then (s, some (3, .live))
          else (livePut k P j f w path s, x.2)

/-- The fields of a register judged from the lowest up; a write refused in some field is one refusal (R500). -/
def judge (k : PageKind) (P off : Nat) (path : Path) (mask img : Nat) (s : State) : State :=
  let fs := (regFields P off).mergeSort (fun a b => decide (a.lo ≤ b.lo))
  let x := fs.foldl (fldWrite k P path mask img (blockOff s k P)) (s, none)
  let s1 := if fs.any (fun f => f.cls == .staged && fldReached f mask && (selIdx s k P f.off).isSome) then shadowCount P x.1 else x.1
  match x.2 with
  | some (c, cls) => cfgReject P off c cls (some path) s1
  | none => s1

/-! Registers whose every field is WO: the write of the low half acts (R494). -/

/-- Every writable field of the register is WO. -/
def isWoReg (P off : Nat) : Bool :=
  let fs := (regFields P off).filter (fun f => f.acc != .ro)
  !fs.isEmpty && fs.all (fun f => f.acc == .wo)

/-- CTX_CMD (R335); other codes are ignored. -/
def ctxCmd (v : Nat) (s : State) : State :=
  let c := rd s pgContexts R.CTX_SEL_CTX
  match v % 16 with
  | 1 => ctxOpen c s
  | 2 => ctxClose c (v.testBit 4) s
  | 3 => meAppend c s
  | 4 => meRemove c s
  | 5 => meRead c s
  | _ => s

/-- The straps' pins as the Keeper last read them. -/
def strapPins (x : Straps) : StrapPins := ⟨decide (x.pref = .east), BitVec.ofNat 2 x.addr, BitVec.ofNat 2 x.startMode, x.fwRom⟩

/-- ST_CMD (R605); other codes are ignored. -/
def stCommand (pg : Half) (v : Nat) (s : State) : State :=
  let h := Half.ofBit (bits v 4 4)
  match v % 16 with
  | 1 => stContinue pg s
  | 2 => stRestart pg s
  | 3 => stHalfReset pg h s
  | 4 => stSingle pg h s
  | 5 => stAcceptLoss pg h s
  | 6 => stCmd pg true (keeperRestart (strapPins s.keeper.straps)) s
  | 7 => stCmd pg true bootlog s
  | _ => s

/-- CAL_CMD (R591); other codes are ignored. -/
def calCommand (h : Half) (v : Nat) (s : State) : State :=
  match v % 16 with
  | 1 => calSweep h s
  | 2 => calRunCmd h (bits v 12 8) (bits v 18 16) s
  | 3 => calAbortAll h s
  | 4 => calClearAborts h (bits v 12 8) s
  | _ => s

/-- PR_CMD (R527-R535); other codes are ignored. -/
def prCommand (fm : Bool) (v : Nat) (s : State) : State :=
  match v % 16 with
  | 1 => prOpen fm s
  | 2 => prAppend fm s
  | 3 => prSeal fm s
  | 4 => prAbandon fm s
  | _ => s

/-- The counters that a page's counter-clear register zeroes. -/
def clearedBy : PageKind → List Fld
  | .global => [R.GLOBAL_CNT_CFG_REJECT]
  | .host => hostCounters
  | .keeper => keeperCounters
  | .protect => protectCounters
  | .primacy => primacyCounters
  | .mgmt => mgmtCounters
  | .palette => palCounters
  | .crossing => crossCounters ++ [R.CX_LOCK_MAX]
  | .light => lightCounters
  | .sched => schedCounters ++ [R.SCH_STAT_HIGH_WATER]
  | .place => placeCounters
  | .dikar => dikarCounters ++ [R.DK_STAT_HIGH_WATER]
  | .matching => matchCounters
  | .coll => collCounters
  | .erasure => erasureCounters
  | .easel => easelCounters
  | .cal => calCounters
  | .fiu => fiuCounters
  | .apu => apuCounters
  | .lantern => []
  | .timebase => []
  | .contexts => []
  | .rings => []
  | .placeG => []
  | .easelG => []
  | .queuesG => []
  | .dataPort => []
  | .egress => []
  | .queues => []

/-- Writing 1 to bit 0 of a counter-clear register. -/
def cntClr (k : PageKind) (P v : Nat) (s : State) : State :=
  if v.testBit 0 then
    match k with
    | .lantern => lanCntClr s
    | .queues => qCntClr (P % 4) s
    | .queuesG => qCntClr (P % 4) s
    | _ => clearAll P (clearedBy k) s
  else s

/-- A WO register acts on the bits `v`. -/
def woAct (k : PageKind) (P off v : Nat) (path : Path) (s : State) : State :=
  let h := pageSide P
  if off = R.SHADOW_CMD_APPLY.off then
    if v.testBit 1 then shadowDiscard P s else if v.testBit 0 then shadowApply k P path s else s
  else
    match k with
    | .timebase => tbSet v path s
    | .contexts => ctxCmd v s
    | .easelG => if v % 16 = 1 then format (bits v 63 32) path s else s
    | .dataPort => if v.testBit 0 then dpClear s else s
    | .host => if off = R.RESULT_CTRL_FLUSH.off then if v.testBit 0 then resFlush 0 s else s else cntClr k P v s
    | .mgmt =>
      if off = R.RESULT_CTRL_FLUSH.off then if v.testBit 0 then resFlush (resOf h) s else s
      else if off = R.ST_CMD_OP.off then stCommand h v s
      else cntClr k P v s
    | .keeper =>
      if off = R.KP_PWR_CMD_GO.off then if v.testBit 3 then pwrCmd (v % 8) path s else s
      else if off = R.KP_QUERY_OP.off then if v % 16 = 1 then kpSnapshot path s else s
      else cntClr k P v s
    | .protect =>
      if off = R.PR_CMD_OP.off then prCommand (decide (path = .mgt)) v s
      else if off = R.PR_CONFIRM_EPOCH.off then
        (prConfirm false (rd s P R.PR_CONF_DIGEST) (v % 2 ^ 32) (bits v 39 32) s).1
      else if off = R.PR_EMERG_MASK.off then emergMask v path s
      else if off = R.PR_EMERG_OP.off then emergOp (v % 16) (bits v 14 4) path s
      else cntClr k P v s
    | .primacy =>
      if off = R.PRM_CMD_OP.off then
        if v % 16 = 1 then prCommit (primacyRestore (Half.ofBit (bits v 4 4)) (rdB s P (reachFld (Half.ofBit (bits v 4 4)))) s)
        else s
      else cntClr k P v s
    | .palette =>
      if off = R.PAL_PROBE.off then
        pushResult (resOf h) 2 false
          [match winLookup s h v with
            | some w => 2 ^ 55 + w % 1024
            | none => 0] s
      else cntClr k P v s
    | .light => if off = R.LL_UNBIND_GO.off then if v.testBit 63 then unbind h (v % 2 ^ 14) path s else s else cntClr k P v s
    | .place =>
      if off = R.PL_LOOKUP_STRIPE.off then lookup h (v % 2 ^ 36) s
      else if off = R.PL_EFF_CTRL_ARM.off then if v.testBit 0 then effArm h s else s
      else cntClr k P v s
    | .erasure =>
      if off = R.GS_CMD_OP.off then
        if v % 16 = 1 then gessoStart h s else if v % 16 = 2 then gessoAbort h (bits v 10 8) s else s
      else cntClr k P v s
    | .cal => if off = R.CAL_CMD_OP.off then calCommand h v s else cntClr k P v s
    | _ => cntClr k P v s

/-! Registers that are written as wholes. -/

/-- A write of a register that is not WO: EZG_CARVE is judged as one (R365), a route and a vector's settings take their
new image at once (R478, R479), DP_DATA moves data (R510); the others are judged field by field (R493). -/
def regPut (k : PageKind) (P off : Nat) (part : Part) (v : Nat) (path : Path) (s : State) : State :=
  let mask := partMask part
  let img := partImage part v
  let whole := mergeImage (regRead s P off) mask img
  match k with
  | .easelG =>
    if off = R.EZG_CARVE_NAME_LOG2.off then
      if carveOf whole = carveOf (regRead s P off) then s else carveWrite whole path s
    else judge k P off path mask img s
  | .lantern =>
    if off = R.LAN_ROUTE_MSIX_EN.off then routeWrite (rd s P R.LAN_SRC_SEL_SOURCE) whole s
    else if off = R.LAN_VEC_CFG_MOD_US.off then vecCfgWrite (rd s P R.LAN_VEC_SEL_VECTOR) whole s
    else judge k P off path mask img s
  | .dataPort =>
    if off = R.DP_DATA.off then dpData true (decide (part = .whole)) v s else judge k P off path mask img s
  | _ => judge k P off path mask img s

/-- A write of the MSI-X table: an entry's address and data, or its mask (R465, R488). -/
def msixWrite (off : Nat) (part : Part) (v : Nat) (s : State) : State :=
  if 0x400 ≤ off then s
  else
    let n := off / 16
    let whole := mergeImage (msixRead s off) (partMask part) (partImage part v)
    if off % 16 = 0 then lanMod (fun l => { l with msixTable := tput 0 l.msixTable (2 * n) whole }) s
    else
      let s1 := lanMod (fun l => { l with msixTable := tput 0 l.msixTable (2 * n + 1) (whole % 2 ^ 32) }) s
      let on := whole.testBit 32
      if on = s.lan.vecMask.testBit n then s1
      else if on then msixSet (.vector n) true s1 else vecSendAll (msixSet (.vector n) false s1)

/-- The registers that each path can write (R502, R516, R538, R553). -/
def pathMayWrite (s : State) (P off : Nat) (path : Path) : Bool :=
  match path with
  | .pcie => P != pgKeeper || keeperReach s .pcie
  | .smbus => P == pgKeeper && keeperReach s .smbus
  | .mgt => P == pgProtect && (off == R.PR_CMD_OP.off || off == R.PR_CNT_CLR.off ||
      decide (R.PR_ENTRY.off ≤ off ∧ off < R.PR_ENTRY.off + 64))

/-- A write of part of the register at byte `off` of page `P`. -/
def regWrite (P off : Nat) (part : Part) (v : Nat) (path : Path) (s : State) : State :=
  if !pathMayWrite s P off path then s
  else if P = pgMsix then msixWrite off part v s
  else
    match pageKind P with
    | none => s
    | some k =>
      if isWoReg P off then
        match part with
        | .high => onPage P off (fun t => { t with woLatch := t.woLatch ++ [(P, off, v % 2 ^ 32)] }) s
        | .low =>
          let hi := ((s.woLatch.find? (fun e => e.1 == P && e.2.1 == off)).map (·.2.2)).getD 0
          onPage P off (woAct k P off (v % 2 ^ 32 + hi * 2 ^ 32) path) s
        | .whole => onPage P off (woAct k P off v path) s
      else onPage P off (regPut k P off part v path) s

end Sys2Proof.Machine
end

