-- ==== Sys2Proof/Machine/CmdHost.lean ====
section
/-!
DEFINITION. The commands of the host port: register writes without a row of their own, result queues, logs, shadows, the
data port, PCIe, SMBus and the TAP (chapter 15).
-/
namespace Sys2Proof.Machine

/-- A write of a register on a path, and what it sets off (R493-R502). -/
def execRegWrite (P off : Nat) (part : Part) (v : BitVec 64) (path : Path) (s : State) : Host.Outcome State Fault Refusal :=
  done (settle (regWrite P off part v.toNat path s))

/-! Queues that reads pop (R501, R507). -/

/-- A 64-bit read of RESULT_POP of a queue: HOST's, or a half's (R507). -/
def execResultPop (q : Option Half) (path : Path) (s : State) : Host.Outcome State Fault Refusal :=
  done (onPage (resPage (resNum q)) R.RESULT_POP_VALID.off (fun s => answer path (resPop (resNum q) s)) s)

/-- RESULT_CTRL.FLUSH written 1 (R507). -/
def execResultFlush (q : Option Half) (s : State) : Host.Outcome State Fault Refusal :=
  done (onPage (resPage (resNum q)) R.RESULT_CTRL_FLUSH.off (fun s => resFlush (resNum q) s) s)

/-- A 64-bit read of ERRLOG_DATA of a page (R501). -/
def execErrlogPop (P : Nat) (path : Path) (s : State) : Host.Outcome State Fault Refusal :=
  done (match pageKind P with
    | none => s
    | some _ => onPage P R.ERRLOG_DATA_ENTRY.off (fun s => answer path (logPop P s)) s)

/-! Shadows (R497-R499). -/

/-- SHADOW_CMD.APPLY written 1 on a page (R497). -/
def execShadowApply (P : Nat) (path : Path) (s : State) : Host.Outcome State Fault Refusal :=
  done (match pageKind P with
    | none => s
    | some k => onPage P R.SHADOW_CMD_APPLY.off (fun s => shadowApply k P path s) s)

/-- SHADOW_CMD.DISCARD written 1 on a page (R498). -/
def execShadowDiscard (P : Nat) (s : State) : Host.Outcome State Fault Refusal :=
  done (match pageKind P with
    | none => s
    | some _ => onPage P R.SHADOW_CMD_APPLY.off (fun s => shadowDiscard P s) s)

/-- The boundary of a page falls on a half (R499). -/
def execShadowBoundary (P : Nat) (h : Half) (s : State) : Host.Outcome State Fault Refusal := done (shadowBoundary P h s)

/-! PCIe (R481-R484, R597). -/

/-- A Function Level Reset (R483). -/
def execFlr (s : State) : Host.Outcome State Fault Refusal := done (flr s)

/-- PERST_N (R597). -/
def execPerst (s : State) : Host.Outcome State Fault Refusal := done (perst s)

/-- The PCIe link goes down (R484). -/
def execPcieLinkDown (s : State) : Host.Outcome State Fault Refusal := done (linkDown s)

/-- The PCIe link trains at a width and a speed (R484, R504). -/
def execPcieLinkUp (width speed : BitVec 4) (s : State) : Host.Outcome State Fault Refusal :=
  done (settle (linkUp width.toNat speed.toNat s))

/-- A request that the function does not serve (R481). -/
def execBarUnsupported (x : BarBad) (off : BitVec 32) (s : State) : Host.Outcome State Fault Refusal :=
  done (barBad x off.toNat s)

/-! The data port (R509-R515). -/

/-- A write or a read of DP_DATA, of 64 or of 32 bits (R510). -/
def execDpDataAccess (wr wide : Bool) (v : BitVec 64) (s : State) : Host.Outcome State Fault Refusal :=
  done (onPage pgDataPort R.DP_DATA.off (fun s => settle (dpData wr wide v.toNat s)) s)

/-- An access of BAR2 at a window offset, with its byte enables (R514). -/
def execBar2Access (wr : Bool) (off : Nat) (ben : List Bool) (data : List Byte) (s : State) :
    Host.Outcome State Fault Refusal := done (settle (dpBar2 wr off ben data s))

/-- DP_CLR written 1 (R515). -/
def execDpClr (s : State) : Host.Outcome State Fault Refusal :=
  done (onPage pgDataPort R.DP_CLR.off (fun s => dpClear s) s)

/-- GL_CNT_CLR written 1 (R503). -/
def execGlCntClr (s : State) : Host.Outcome State Fault Refusal :=
  done (onPage pgGlobal R.GL_CNT_CLR.off (fun s => clearAll pgGlobal [R.GLOBAL_CNT_CFG_REJECT] s) s)

/-- Every counter of the HOST page is cleared (R504). -/
def execHpCntClr (s : State) : Host.Outcome State Fault Refusal :=
  done (onPage pgHost R.HP_CNT_CLR.off (fun s => clearAll pgHost hostCounters s) s)

/-! SMBus (R516, R517). -/

/-- An SMBus command, while the Keeper answers. -/
def smb (f : State → State) (s : State) : State := if s.boot.keeperUp then f s else s

/-- OFFSET moved on by `n`. -/
def smbOn (n : Nat) (s : State) : State := keeperMod (fun k => { k with smbOff := (k.smbOff + n) % 4096 }) s

/-- An access of `n` bytes at OFFSET, not acknowledged where it would leave the page (R517). -/
def smbAt (n : Nat) (f : Nat → State → State) (s : State) : State :=
  smb (fun s => if 4096 < s.keeper.smbOff + n then emit .nack s else smbOn n (f s.keeper.smbOff s)) s

/-- Bits 11:0 of a word become OFFSET; one that is no multiple of 4 is not taken. -/
def smbOffset (w : Nat) (s : State) : State :=
  smb (fun s => if w % 4 = 0 then keeperMod (fun k => { k with smbOff := w % 4096 }) s else s) s

/-- The value of an SMBus read goes back; a latched high half of another register is gone (R494). -/
def smbAnswer (off : Nat) (x : State × Nat) : State :=
  answer .smbus ({ x.1 with woLatch := x.1.woLatch.filter (fun e => e.1 != pgKeeper || e.2.1 == off) }, x.2)

/-- What a 64-bit read of the KEEPER page takes: a word of its queues, else the register; eight bytes that are not one
register are a value that the spec does not state. -/
def smbTake (o : Nat) (s : State) : State × Nat :=
  if o % 8 ≠ 0 then ({ s with freeSeq := s.freeSeq + 1 }, Config.freeNat s.freeSeq % 2 ^ 64)
  else if o = R.ERRLOG_DATA_ENTRY.off then logPop pgKeeper s
  else if o = R.KP_LOG_POP_ENTRY.off then kpPop s
  else (s, regRead s pgKeeper o)

/-- A 32-bit half of a register of the KEEPER page (R9). -/
def smbHalf (o : Nat) (s : State) : Nat := regRead s pgKeeper (o / 8 * 8) / 2 ^ (8 * (o % 8)) % 2 ^ 32

/-- A register write by SMBus, noting whether some part of it was refused. -/
def smbPut (o : Nat) (part : Part) (v : Nat) (s : State) : State :=
  let t := regWrite pgKeeper o part v .smbus s
  keeperMod (fun k => { k with smbRefused := rd t pgKeeper R.ERRLOG_HEAD != rd s pgKeeper R.ERRLOG_HEAD }) t

/-- Command 0x01: OFFSET (R517). -/
def execSmbSetOffset (w : BitVec 16) (s : State) : Host.Outcome State Fault Refusal := done (smbOffset w.toNat s)

/-- Command 0x02: a 64-bit read (R517). -/
def execSmbRead64 (s : State) : Host.Outcome State Fault Refusal :=
  done (smbAt 8 (fun o s => smbAnswer o (smbTake o s)) s)

/-- Command 0x03: a 64-bit write; at an offset that is no register's it writes nothing (R517). -/
def execSmbWrite64 (v : BitVec 64) (s : State) : Host.Outcome State Fault Refusal :=
  done (settle (smbAt 8 (fun o s => if o % 8 = 0 then smbPut o .whole v.toNat s else s) s))

/-- Command 0x04: a 32-bit read (R517). -/
def execSmbRead32 (s : State) : Host.Outcome State Fault Refusal :=
  done (smbAt 4 (fun o s => smbAnswer (o / 8 * 8) (s, smbHalf o s)) s)

/-- Command 0x05: a 32-bit write (R517). -/
def execSmbWrite32 (v : BitVec 32) (s : State) : Host.Outcome State Fault Refusal :=
  done (settle (smbAt 4 (fun o s => smbPut (o / 8 * 8) (if o % 8 = 0 then .low else .high) v.toNat s) s))

/-- Command 0x06: the status byte (R517). -/
def execSmbReadStatus (s : State) : Host.Outcome State Fault Refusal :=
  done (smb (fun s => answer .smbus (s, bit s.boot.supplies + 2 * bit s.keeper.smbRefused)) s)

/-! The TAP (R518-R520, R597). -/

/-- EXTEST (R520). -/
def execJtagExtest (s : State) : Host.Outcome State Fault Refusal := done (settle (tapIr 0 s))

/-- IDCODE (R518). -/
def execJtagIdcode (s : State) : Host.Outcome State Fault Refusal := done (tapId s)

/-- SAMPLE/PRELOAD: the levels at the balls are captured, and the register takes what is shifted in (R519). -/
def execJtagSamplePreload (levels load : List Bool) (s : State) : Host.Outcome State Fault Refusal :=
  done (tapSample levels load s)

/-- EXTEST_PULSE (R520). -/
def execJtagExtestPulse (s : State) : Host.Outcome State Fault Refusal := done (settle (tapIr 4 s))

/-- EXTEST_TRAIN (R520). -/
def execJtagExtestTrain (s : State) : Host.Outcome State Fault Refusal := done (settle (tapIr 5 s))

/-- CLAMP (R520). -/
def execJtagClamp (s : State) : Host.Outcome State Fault Refusal := done (settle (tapIr 6 s))

/-- HIGHZ (R520). -/
def execJtagHighz (s : State) : Host.Outcome State Fault Refusal := done (settle (tapIr 7 s))

/-- BYPASS, and every opcode that is not listed (R519). -/
def execJtagBypass (s : State) : Host.Outcome State Fault Refusal := done (settle (tapIr 0xFF s))

/-- TRST_N (R597). -/
def execJtagTrst (s : State) : Host.Outcome State Fault Refusal := done (tapReset s)

end Sys2Proof.Machine
end

