-- ==== Sys2Proof/Machine/CmdKeeper.lean ====
section
/-!
DEFINITION. The commands of the Keeper and the power states (chapter 17).
-/
namespace Sys2Proof.Machine

/-- One pass of the Keeper: it samples, filters and evaluates (R555-R559, R571). -/
def execKeeperPass (x : KeeperSample) (s : State) : Host.Outcome State Fault Refusal :=
  done (if s.boot.keeperUp then settle (keeperPass x s) else s)

/-- A register command of the KEEPER page, where its path reaches the page (R516, R553). -/
def onKeeper (off : Nat) (path : Path) (f : State → State) (s : State) : State :=
  if keeperReach s path then onPage pgKeeper off f s else s

/-- KP_PWR_CMD written with GO = 1 (R563); MGT packets do not write this page (R538). -/
def execKpPwrCmd (target : BitVec 3) (path : Path) (s : State) : Host.Outcome State Fault Refusal :=
  done (onKeeper R.KP_PWR_CMD_GO.off path (fun s => if path = .mgt then s else settle (pwrCmd target.toNat path s)) s)

/-- Every drain condition holds (R566). -/
def execDrained (s : State) : Host.Outcome State Fault Refusal := done (settle (drained s))

/-- DRAIN has lasted DRAIN_TMO (R566). -/
def execDrainTimeout (s : State) : Host.Outcome State Fault Refusal := done (settle (drainTimeout s))

/-- KP_TIME reaches AT (R568). -/
def execWakeTimer (s : State) : Host.Outcome State Fault Refusal := done (settle (wakeTimer s))

/-- KP_QUERY SNAPSHOT (R561). -/
def execKpQuerySnapshot (path : Path) (s : State) : Host.Outcome State Fault Refusal :=
  done (onKeeper R.KP_QUERY_OP.off path (fun s => if path = .mgt then s else kpSnapshot path s) s)

/-- A 64-bit read of KP_LOG_POP (R560). -/
def execKpLogPop (path : Path) (s : State) : Host.Outcome State Fault Refusal :=
  done (onKeeper R.KP_LOG_POP_ENTRY.off path (fun s => if path = .mgt then s else answer path (kpPop s)) s)

/-- Every counter of the KEEPER page is cleared (R573). -/
def execKpCntClr (s : State) : Host.Outcome State Fault Refusal :=
  done (onPage pgKeeper R.KP_CNT_CLR.off (fun s => clearAll pgKeeper keeperCounters s) s)

end Sys2Proof.Machine
end

