-- ==== Sys2Proof/Machine/CmdMgt.lean ====
section
/-!
DEFINITION. The commands that MGT packets bring, and those of the primacy token (chapter 16).
-/
namespace Sys2Proof.Machine

/-! MGT requests (R538). -/

/-- MOP of an MGT packet (R69). -/
def Packet.mop (p : Packet) : Nat := bits p.w2 39 32

/-- Word `i` of a packet's payload; words that it does not hold read as zero. -/
def Packet.word (p : Packet) (i : Nat) : Nat := leNat ((p.payload.drop (8 * i)).take 8)

/-- The request comes from the registered fabric manager: its node and its key (R538). -/
def mgtKnown (s : State) (p : Packet) : Bool :=
  fmValid s && p.src == rd s pgProtect R.PR_FM_NODE && p.w3 == s.prot.mkey

/-- An answer to a request: MSTATUS and the data (R538). -/
def mgtAnswer (h : Half) (p : Packet) (status data : Nat) (s : State) : State :=
  sendPkt h (mkMGT p.src p.w1 (p.mop + 0x80) p.tag (leBytes 8 status ++ leBytes 8 data)) s

/-- A request that is not taken: no answer (R538). -/
def mgtReject (s : State) : State := raise pgProtect 5 (bump pgProtect R.PROTECT_CNT_MGT_REJECT s)

/-- READ is DENIED: an RPOP register, DP_DATA, the MSIX page, an address that is no register's (R538). -/
def mgtReadDenied (a : Nat) : Bool :=
  let P := a / 4096
  let off := a % 4096
  a % 8 != 0 || decide (2 ^ 26 ≤ a) || P == pgMsix || (P == pgDataPort && off == R.DP_DATA.off) ||
    (regFields P off).any (fun f => f.acc == .rpop)

/-- READ: the register, on a page that is up (R489, R538). -/
def mgtRead (h : Half) (p : Packet) (s : State) : State :=
  let P := p.w1 / 4096
  let off := p.w1 % 4096
  if mgtReadDenied p.w1 then mgtAnswer h p 1 0 s
  else
    let s1 := if (pageKind P).isSome && !pageLive s P then barErr 4 p.w1 s
      else { s with woLatch := s.woLatch.filter (fun e => e.1 != P || e.2.1 == off) }
    mgtAnswer h p 0 (regRead s P off) s1

/-- WRITE of PR_CMD, PR_ENTRY or PR_CNT_CLR; anything else is DENIED (R538). -/
def mgtWrite (h : Half) (p : Packet) (s : State) : State :=
  let P := p.w1 / 4096
  let off := p.w1 % 4096
  if p.w1 % 8 = 0 ∧ P = pgProtect ∧ pathMayWrite s P off .mgt = true then
    mgtAnswer h p 0 0 (regWrite P off .whole (p.word 0) .mgt s)
  else mgtAnswer h p 1 0 s

/-- CONFIRM: the fabric manager's confirmation, or the bootstrap one (R533, R534, R538). -/
def mgtConfirm (h : Half) (p : Packet) (s : State) : State :=
  let (s1, c) := prConfirm true (p.word 0) (p.word 1 % 2 ^ 32) (bits (p.word 1) 39 32) s
  mgtAnswer h p 0 c s1

/-- The MGT packet at the head of VC5 of F[n], where its MOP is one that `sel` takes: refused without an answer unless it
comes from the fabric manager, else carried out by `f` (R75, R538). -/
def rxMgt (n : Nat) (sel : Nat → Bool) (boot : Bool) (f : Half → Packet → State → State) (s : State) : State :=
  rxWith n 5 tMGT (fun h p k t =>
    if sel p.mop then
      let t1 := slotsBack (n, 5, k) (rxTake n 5 k t)
      if mgtKnown t1 p || (boot && bootstrapOk t1 p.src p.w3) then f h p t1 else mgtReject t1
    else t) (rxEvt n s)

/-- An MGT CONFIRM (R533, R534). -/
def execMgtConfirm (n : Nat) (s : State) : Host.Outcome State Fault Refusal :=
  done (settle (rxMgt n (fun m => m == 3) true mgtConfirm s))

/-- An MGT READ; a request with a MOP that the table does not list is answered BAD_OP (R538). -/
def execMgtRead (n : Nat) (s : State) : Host.Outcome State Fault Refusal :=
  done (settle (rxMgt n (fun m => m != 2 && m != 3) false
    (fun h p t => if p.mop = 1 then mgtRead h p t else mgtAnswer h p 2 0 t) s))

/-- An MGT WRITE (R538). -/
def execMgtWrite (n : Nat) (s : State) : Host.Outcome State Fault Refusal :=
  done (settle (rxMgt n (fun m => m == 2) false mgtWrite s))

/-! The primacy token (R544, R546). -/

/-- The Keeper grants the token to half `h` (R544). -/
def execPrimacyGrant (h : Half) (s : State) : Host.Outcome State Fault Refusal := done (settle (prCommit (primacyGrant h s)))

/-- The wait of the first grant for the preferred half ends (R544). -/
def execPrefWaitExpiry (s : State) : Host.Outcome State Fault Refusal := done (settle (prCommit (prefExpiry s)))

/-- PRM_CMD RESTORE, the Keeper reaching the named half or not (R546). -/
def execPrimacyRestore (h : Half) (reach : Bool) (s : State) : Host.Outcome State Fault Refusal :=
  done (onPage pgPrimacy R.PRM_CMD_OP.off (fun s => settle (prCommit (primacyRestore h reach s))) s)

end Sys2Proof.Machine
end

