-- ==== Sys2Proof/Machine/CmdPlace.lean ====
section
/-!
DEFINITION. The commands of placement, the policy and the bindings (chapters 06 and 07).
-/
namespace Sys2Proof.Machine

/-- LL_UNBIND written with GO = 1 for light `l` (R211). -/
def execLlUnbind (h : Half) (l : Nat) (path : Path) (s : State) : Host.Outcome State Fault Refusal :=
  done (onPage (pgLight h) R.LL_UNBIND_GO.off (fun s => settle (unbind h l path s)) s)

/-- A stripe of a tape light's group has data waiting in Easel (R259). -/
def tapeWanted (s : State) (l : Nat) : Bool :=
  s.objs.stripes.any (fun x => x.kind == 2 && !x.gone && x.group == lightGroup s l && lightEligible s x.home x.group l &&
    (x.st == .wait || x.members.any (fun y => y.st == .toPlace)))

/-- The engine opens a stream on tape light `l`, at its write position (R223, R259). -/
def streamStart (l : Nat) (s : State) : State :=
  if tapeWanted s l then placeRetry (streamOpen l (curTrack s l) s).1 else s

/-- The engine opens a stream on tape light `l`, or has it refused (R223). -/
def execStreamOpen (l : Nat) (s : State) : Host.Outcome State Fault Refusal := done (settle (streamStart l s))

/-- The stream of light `l` has had no data for IDLE_S (R259). -/
def execStreamClose (l : Nat) (s : State) : Host.Outcome State Fault Refusal :=
  done (settle (match strOfLight s l with
    | some (i, x) => if x.srcs.isEmpty then streamClose (lHalf l) i s else s
    | none => s))

/-- The members of stripe `id` are chosen (R245). -/
def execStripeChoose (id : Nat) (s : State) : Host.Outcome State Fault Refusal := done (settle (stripeChoose id s))

/-- Stripes of a half that wait are tried again (R242). -/
def retryStripes (h : Half) (s : State) : State :=
  ((s.objs.stripes.filter (fun x => decide (x.home = h) && x.noStripe && !x.stalled)).map (·.id)).foldl
    (fun t id => placeWaiting id (stripeChoose id t)) s

/-- Waiting stripes are tried again at least every 1 ms (R242). -/
def execNoStripeRetry (h : Half) (s : State) : Host.Outcome State Fault Refusal := done (settle (retryStripes h s))

/-- A stripe of group `g` waits on half `h`: the engine sends SPIN_UP to one more unit (R247). -/
def execSpinUpIssue (h : Half) (g : Nat) (s : State) : Host.Outcome State Fault Refusal :=
  done (settle (if s.objs.stripes.any (fun x => decide (x.home = h) && x.group == g && x.noStripe) then spinForStripe h g s
    else s))

/-- A unit idle for IDLE_S, or over the fill limit, is sent SPIN_DOWN (R247). -/
def execSpinDownIdle (l : Nat) (s : State) : Host.Outcome State Fault Refusal := done (settle (spinDownIdle l s))

/-- Lost ranges of a stripe that found the list full move into it while it has room (R389). -/
def owedMove (x : Stripe) (s : State) : State :=
  plMod x.home (fun p =>
    let now_ := (p.lostOwed.filter (owedIn x)).take (65536 - p.lost.length)
    { p with lost := p.lost ++ now_, lostOwed := p.lostOwed.filter (fun r => !now_.contains r) }) s

/-- A stalled stripe tries again (R249, R389). -/
def stallRetry (id : Nat) (s : State) : State :=
  match stpGet s id with
  | none => s
  | some x => if isStalled s x then stripeEnd id (placeWaiting id (stripeChoose id (owedMove x s))) else s

/-- A stalled stripe tries again once every 1 s (R249). -/
def execStallRetry (id : Nat) (s : State) : Host.Outcome State Fault Refusal := done (settle (stallRetry id s))

/-- A write of PL_LOOKUP_STRIPE (R255). -/
def execPlLookupStripe (h : Half) (v : BitVec 64) (s : State) : Host.Outcome State Fault Refusal :=
  done (onPage (pgPlace h) R.PL_LOOKUP_STRIPE.off (fun s => lookup h (v.toNat % 2 ^ 36) s) s)

/-- A policy tick of a half (R261, R263). -/
def execPolicyTick (h : Half) (s : State) : Host.Outcome State Fault Refusal := done (settle (policyTick h s))

/-- PL_EFF_CTRL.ARM written 1 (R267). -/
def execEffArm (h : Half) (s : State) : Host.Outcome State Fault Refusal :=
  done (onPage (pgPlace h) R.PL_EFF_CTRL_ARM.off (fun s => effArm h s) s)

/-- The start instant of an efficiency interval (R267). -/
def execEffStart (h : Half) (s : State) : Host.Outcome State Fault Refusal := done (effStart h s)

/-- The stop instant of an efficiency interval (R267). -/
def execEffStop (h : Half) (s : State) : Host.Outcome State Fault Refusal := done (effStop h s)

/-- Every counter of a PLACE page is cleared (R269). -/
def execPlCntClr (h : Half) (s : State) : Host.Outcome State Fault Refusal :=
  done (onPage (pgPlace h) R.PL_CNT_CLR.off (fun s => clearAll (pgPlace h) placeCounters s) s)

end Sys2Proof.Machine
end

