-- ==== Sys2Proof/Machine/CmdProtect.lean ====
section
/-!
DEFINITION. The commands of protection and primacy (chapter 16), those that MGT packets bring apart.
-/
namespace Sys2Proof.Machine

/-- PR_CMD OPEN, by SP or, with `fm`, by FM (R527, R529). -/
def execPrOpen (fm : Bool) (s : State) : Host.Outcome State Fault Refusal :=
  done (onPage pgProtect R.PR_CMD_OP.off (fun s => prOpen fm s) s)

/-- PR_CMD APPEND (R528, R529). -/
def execPrAppend (fm : Bool) (s : State) : Host.Outcome State Fault Refusal :=
  done (onPage pgProtect R.PR_CMD_OP.off (fun s => prAppend fm s) s)

/-- PR_CMD SEAL (R529-R531). -/
def execPrSeal (fm : Bool) (s : State) : Host.Outcome State Fault Refusal :=
  done (onPage pgProtect R.PR_CMD_OP.off (fun s => prSeal fm s) s)

/-- PR_CMD ABANDON (R529, R535). -/
def execPrAbandon (fm : Bool) (s : State) : Host.Outcome State Fault Refusal :=
  done (onPage pgProtect R.PR_CMD_OP.off (fun s => prAbandon fm s) s)

/-- SP writes PR_CONFIRM after PR_CONF_DIGEST (R533). -/
def execPrConfirmSp (principal : BitVec 8) (ep : BitVec 32) (s : State) : Host.Outcome State Fault Refusal :=
  done (onPage pgProtect R.PR_CONFIRM_EPOCH.off (fun s =>
    settle (prConfirm false (rd s pgProtect R.PR_CONF_DIGEST) ep.toNat principal.toNat s).1) s)

/-- A sealed proposal's deadline passes (R535). -/
def execProposalExpiry (s : State) : Host.Outcome State Fault Refusal := done (prExpire s)

/-- EMERG_N has been low for 1 ms (R539). -/
def execEmergAssert (s : State) : Host.Outcome State Fault Refusal :=
  done (if s.boot.keeperUp then emergSet true s else s)

/-- EMERG_N has been high for 1 ms (R539). -/
def execEmergRelease (s : State) : Host.Outcome State Fault Refusal :=
  done (if s.boot.keeperUp then emergSet false s else s)

/-- A write of PR_EMERG (R539). -/
def execPrEmergWrite (v : BitVec 64) (path : Path) (s : State) : Host.Outcome State Fault Refusal :=
  done (onPage pgProtect R.PR_EMERG_MASK.off (fun s => emergMask v.toNat path s) s)

/-- Emergency OP 1 (R539, R540). -/
def execEmergWindowOff (target : BitVec 11) (path : Path) (s : State) : Host.Outcome State Fault Refusal :=
  done (onPage pgProtect R.PR_EMERG_OP.off (fun s => emergOp 1 target.toNat path s) s)

/-- Emergency OP 2 (R539, R540). -/
def execEmergHalfWindowsOff (target : BitVec 11) (path : Path) (s : State) : Host.Outcome State Fault Refusal :=
  done (onPage pgProtect R.PR_EMERG_OP.off (fun s => emergOp 2 target.toNat path s) s)

/-- Emergency OP 3 (R539, R540). -/
def execEmergWrenClear (target : BitVec 11) (path : Path) (s : State) : Host.Outcome State Fault Refusal :=
  done (onPage pgProtect R.PR_EMERG_OP.off (fun s => emergOp 3 target.toNat path s) s)

/-- Emergency OP 4 (R539, R540). -/
def execEmergPrivSrcOff (target : BitVec 11) (path : Path) (s : State) : Host.Outcome State Fault Refusal :=
  done (onPage pgProtect R.PR_EMERG_OP.off (fun s => emergOp 4 target.toNat path s) s)

/-- Emergency OP 5 (R539, R540). -/
def execEmergInbOff (target : BitVec 11) (path : Path) (s : State) : Host.Outcome State Fault Refusal :=
  done (onPage pgProtect R.PR_EMERG_OP.off (fun s => emergOp 5 target.toNat path s) s)

/-- Emergency OP 6 (R539, R540). -/
def execEmergKeyRangeOff (target : BitVec 11) (path : Path) (s : State) : Host.Outcome State Fault Refusal :=
  done (onPage pgProtect R.PR_EMERG_OP.off (fun s => emergOp 6 target.toNat path s) s)

/-- Emergency OP 7 (R539, R540). -/
def execEmergAbandon (target : BitVec 11) (path : Path) (s : State) : Host.Outcome State Fault Refusal :=
  done (onPage pgProtect R.PR_EMERG_OP.off (fun s => emergOp 7 target.toNat path s) s)

/-- A half asks the Keeper at its renewal interval (R542, R543). A commit that waited for the lease goes on (R535). -/
def execLeaseRenew (h : Half) (reach : Bool) (s : State) : Host.Outcome State Fault Refusal :=
  done (settle (prCommit (leaseRenew h reach s)))

/-- A half's lease timer reaches 1 ms (R543). -/
def execLeaseLapse (h : Half) (s : State) : Host.Outcome State Fault Refusal := done (leaseLapse h s)

/-- KEEPER_TMO passes without an answer (R545). -/
def execKeeperTmoExpiry (h : Half) (s : State) : Host.Outcome State Fault Refusal := done (keeperTmo h s)

/-- The named half has not reached the Keeper within 10 ms of a restore (R546). -/
def execRestoreWaitExpiry (s : State) : Host.Outcome State Fault Refusal := done (restoreExpiry s)

/-- PR_CNT_CLR (R549). -/
def execPrCntClr (s : State) : Host.Outcome State Fault Refusal :=
  done (onPage pgProtect R.PR_CNT_CLR.off (fun s => clearAll pgProtect protectCounters s) s)

/-- PRM_CNT_CLR (R551). -/
def execPrmCntClr (s : State) : Host.Outcome State Fault Refusal :=
  done (onPage pgPrimacy R.PRM_CNT_CLR.off (fun s => clearAll pgPrimacy primacyCounters s) s)

end Sys2Proof.Machine
end

