-- ==== Sys2Proof/Machine/CmdStart.lean ====
section
/-!
DEFINITION. The commands of start-up, reset and recovery (chapter 19), and of the span.
-/
namespace Sys2Proof.Machine

/-- VDD_KEEP comes into range: the Keeper boots, reading its straps (R599, R600). -/
def execVddKeepUp (p : StrapPins) (s : State) : Host.Outcome State Fault Refusal := done (vddKeepUp p s)

/-- The Keeper has booted (R600). -/
def execKeeperBootDone (s : State) : Host.Outcome State Fault Refusal := done (settle (keeperBootDone s))

/-- Every main supply is in range (R600). -/
def execSuppliesInRange (s : State) : Host.Outcome State Fault Refusal := done (settle (suppliesIn s))

/-- A main supply is not in range in time (R602). -/
def execSupplyTimeout (s : State) : Host.Outcome State Fault Refusal := done (settle (supplyTimeout s))

/-- RESET_N rises (R598). -/
def execResetNRise (s : State) : Host.Outcome State Fault Refusal := done (settle (resetRise s))

/-- RESET_N falls (R601). -/
def execResetNFall (s : State) : Host.Outcome State Fault Refusal := done (settle (resetFall s))

/-- A half's self-test ends (R600, R602). -/
def execSelfTestDone (h : Half) (r : TestRes) (s : State) : Host.Outcome State Fault Refusal :=
  done (settle (selfTestDone h r s))

/-- No grant within 10 ms of step 4 (R602). -/
def execPrimacyStepTimeout (s : State) : Host.Outcome State Fault Refusal := done (settle (boot4Timeout s))

/-- A half's journal has been replayed, up to its end or to a damaged record (R383). -/
def execReplayDone (h : Half) (damaged : Bool) (s : State) : Host.Outcome State Fault Refusal :=
  done (settle (replayDone h damaged s))

/-- PORT_WAIT has elapsed (R600). -/
def execPortWaitExpiry (h : Half) (s : State) : Host.Outcome State Fault Refusal := done (settle (boot6Wait h s))

/-- LIGHT_WAIT has elapsed (R600). -/
def execLightWaitExpiry (h : Half) (s : State) : Host.Outcome State Fault Refusal := done (settle (boot7Wait h s))

/-- FABRIC_WAIT has elapsed (R600). -/
def execFabricWaitExpiry (h : Half) (s : State) : Host.Outcome State Fault Refusal := done (settle (boot8Wait h s))

/-- Step 9: the EN fields that ST_RESUME selects are set (R600). -/
def execResumeStep (h : Half) (s : State) : Host.Outcome State Fault Refusal := done (settle (resumeStep h s))

/-- TB_FLOOR is saved (R604). -/
def execTbFloorSave (s : State) : Host.Outcome State Fault Refusal := done (settle (floorSave s))

/-- A main supply below its brown-out level for 1 µs (R618). -/
def execBrownOut (s : State) : Host.Outcome State Fault Refusal := done (settle (supplyFail s))

/-- The supply is back within 4 ms (R618). -/
def execBrownOutRecover (s : State) : Host.Outcome State Fault Refusal := done (settle (supplyBack s))

/-- VDD_KEEP leaves its range (R623). -/
def execVddKeepLoss (s : State) : Host.Outcome State Fault Refusal := done (vddKeepLoss s)

/-- The main supplies go without MAIN_EN (R622). -/
def execMainSupplyLoss (s : State) : Host.Outcome State Fault Refusal := done (settle (supplyFail s))

/-- ST_CMD CONTINUE (R605). -/
def execStContinue (pg : Half) (s : State) : Host.Outcome State Fault Refusal :=
  done (onPage (pgMgmt pg) R.ST_CMD_OP.off (fun s => settle (stContinue pg s)) s)

/-- ST_CMD RESTART (R601, R605). -/
def execStRestart (pg : Half) (s : State) : Host.Outcome State Fault Refusal :=
  done (onPage (pgMgmt pg) R.ST_CMD_OP.off (fun s => settle (stRestart pg s)) s)

/-- ST_CMD HALF_RESET (R605, R608). -/
def execStHalfReset (pg h : Half) (s : State) : Host.Outcome State Fault Refusal :=
  done (onPage (pgMgmt pg) R.ST_CMD_OP.off (fun s => settle (stHalfReset pg h s)) s)

/-- ST_CMD SINGLE (R605, R606). -/
def execStSingle (pg h : Half) (s : State) : Host.Outcome State Fault Refusal :=
  done (onPage (pgMgmt pg) R.ST_CMD_OP.off (fun s => settle (stSingle pg h s)) s)

/-- ST_CMD ACCEPT_LOSS (R605). -/
def execStAcceptLoss (pg h : Half) (s : State) : Host.Outcome State Fault Refusal :=
  done (onPage (pgMgmt pg) R.ST_CMD_OP.off (fun s => settle (stAcceptLoss pg h s)) s)

/-- ST_CMD KEEPER_RESTART (R605, R609). -/
def execStKeeperRestart (pg : Half) (p : StrapPins) (s : State) : Host.Outcome State Fault Refusal :=
  done (onPage (pgMgmt pg) R.ST_CMD_OP.off (fun s => settle (stCmd pg true (keeperRestart p) s)) s)

/-- ST_CMD BOOTLOG (R605, R611). -/
def execStBootlog (pg : Half) (s : State) : Host.Outcome State Fault Refusal :=
  done (onPage (pgMgmt pg) R.ST_CMD_OP.off (fun s => settle (stCmd pg true bootlog s)) s)

/-- Every counter of a MGMT page is cleared (R613). -/
def execStCntClr (h : Half) (s : State) : Host.Outcome State Fault Refusal :=
  done (onPage (pgMgmt h) R.ST_CNT_CLR.off (fun s => clearAll (pgMgmt h) mgmtCounters s) s)

/-- The span is lost while the halves run (R278, R547). -/
def execSpanDown (s : State) : Host.Outcome State Fault Refusal := done (settle (spanDown s))

/-- The span is back (R278, R547). -/
def execSpanUp (s : State) : Host.Outcome State Fault Refusal := done (settle (spanUp s))

end Sys2Proof.Machine
end

