-- ==== Sys2Proof/Machine/Dispatch.lean ====
section
/-!
DEFINITION. What each command does: one arm for each constructor of Instr, each a direct call of its meaning.
-/
namespace Sys2Proof.Machine

def exec (i : Instr) (s : State) : Host.Outcome State Fault Refusal :=
  match i with
  | .codewordReceive n cw => Sys2Proof.Machine.execCodewordReceive n cw s
  | .replayTimeout n => Sys2Proof.Machine.execReplayTimeout n s
  | .packetSend n vc => Sys2Proof.Machine.execPacketSend n vc s
  | .downWaitExpiry n => Sys2Proof.Machine.execDownWaitExpiry n s
  | .trainComplete n lanes => Sys2Proof.Machine.execTrainComplete n lanes s
  | .trainNoSignal n => Sys2Proof.Machine.execTrainNoSignal n s
  | .alignLock n => Sys2Proof.Machine.execAlignLock n s
  | .alignTimeout n => Sys2Proof.Machine.execAlignTimeout n s
  | .initTimeout n => Sys2Proof.Machine.execInitTimeout n s
  | .recoverTimeout n => Sys2Proof.Machine.execRecoverTimeout n s
  | .linkSignalLoss n lane => Sys2Proof.Machine.execLinkSignalLoss n lane s
  | .lowpwrWakeTimeout n => Sys2Proof.Machine.execLowpwrWakeTimeout n s
  | .fiuEnWrite n en path => Sys2Proof.Machine.execFiuEnWrite n en path s
  | .fiuRetrain n => Sys2Proof.Machine.execFiuRetrain n s
  | .lpReqWrite n v => Sys2Proof.Machine.execLpReqWrite n v s
  | .fiuCntClr n => Sys2Proof.Machine.execFiuCntClr n s
  | .rxPw n => Sys2Proof.Machine.execRxPw n s
  | .rxNpw n => Sys2Proof.Machine.execRxNpw n s
  | .rxRd n => Sys2Proof.Machine.execRxRd n s
  | .rxAmo n => Sys2Proof.Machine.execRxAmo n s
  | .rxRsp n => Sys2Proof.Machine.execRxRsp n s
  | .rspTimeout h t => Sys2Proof.Machine.execRspTimeout h t s
  | .tagQuarantineEnd h t => Sys2Proof.Machine.execTagQuarantineEnd h t s
  | .egrPortMaskWrite h mask => Sys2Proof.Machine.execEgrPortMaskWrite h mask s
  | .flowSettleExpiry h dst => Sys2Proof.Machine.execFlowSettleExpiry h dst s
  | .apuEnWrite n en => Sys2Proof.Machine.execApuEnWrite n en s
  | .apuHoldWrite n hold => Sys2Proof.Machine.execApuHoldWrite n hold s
  | .trainStart n => Sys2Proof.Machine.execTrainStart n s
  | .enumStart n => Sys2Proof.Machine.execEnumStart n s
  | .autoTrainExpiry n => Sys2Proof.Machine.execAutoTrainExpiry n s
  | .atnTrainNoSignal n => Sys2Proof.Machine.execAtnTrainNoSignal n s
  | .atnLockTimeout n => Sys2Proof.Machine.execAtnLockTimeout n s
  | .trnWordReceive n lane good w => Sys2Proof.Machine.execTrnWordReceive n lane good w s
  | .enumTimeout n => Sys2Proof.Machine.execEnumTimeout n s
  | .enumEnd n w => Sys2Proof.Machine.execEnumEnd n w s
  | .enumDone n => Sys2Proof.Machine.execEnumDone n s
  | .parityError n => Sys2Proof.Machine.execParityError n s
  | .atnSignalLoss n => Sys2Proof.Machine.execAtnSignalLoss n s
  | .flowReceive n w => Sys2Proof.Machine.execFlowReceive n w s
  | .laneReceive n w => Sys2Proof.Machine.execLaneReceive n w s
  | .steerTimeout n => Sys2Proof.Machine.execSteerTimeout n s
  | .atnRxTxnWr n w ws => Sys2Proof.Machine.execAtnRxTxnWr n w ws s
  | .atnRxRsp n w ws => Sys2Proof.Machine.execAtnRxRsp n w ws s
  | .atnRdTimeout n stn tn => Sys2Proof.Machine.execAtnRdTimeout n stn tn s
  | .tnQuarantineEnd n stn tn => Sys2Proof.Machine.execTnQuarantineEnd n stn tn s
  | .atnRxInt n w ws => Sys2Proof.Machine.execAtnRxInt n w ws s
  | .atnRxBeacon n w ws => Sys2Proof.Machine.execAtnRxBeacon n w ws s
  | .atnRxVerify n w ws => Sys2Proof.Machine.execAtnRxVerify n w ws s
  | .atnRxWrErr n w ws => Sys2Proof.Machine.execAtnRxWrErr n w ws s
  | .atnRxUnitState n w ws => Sys2Proof.Machine.execAtnRxUnitState n w ws s
  | .atnRxStationFault n w ws => Sys2Proof.Machine.execAtnRxStationFault n w ws s
  | .tsyncSend n => Sys2Proof.Machine.execTsyncSend n s
  | .apuCntClr n => Sys2Proof.Machine.execApuCntClr n s
  | .palProbe h a => Sys2Proof.Machine.execPalProbe h a s
  | .palHaltClear h idx mask => Sys2Proof.Machine.execPalHaltClear h idx mask s
  | .palCtrlEnWrite h en => Sys2Proof.Machine.execPalCtrlEnWrite h en s
  | .palCntClr h => Sys2Proof.Machine.execPalCntClr h s
  | .wrHoldExpiry h id => Sys2Proof.Machine.execWrHoldExpiry h id s
  | .lockTimeout n => Sys2Proof.Machine.execLockTimeout n s
  | .lockBudgetBreak n => Sys2Proof.Machine.execLockBudgetBreak n s
  | .intRelease n => Sys2Proof.Machine.execIntRelease n s
  | .cxPwlogTailWrite h v => Sys2Proof.Machine.execCxPwlogTailWrite h v s
  | .cxFarlogTailWrite h v => Sys2Proof.Machine.execCxFarlogTailWrite h v s
  | .cxCntClr h => Sys2Proof.Machine.execCxCntClr h s
  | .ppsEdge => Sys2Proof.Machine.execPpsEdge s
  | .ppsLost => Sys2Proof.Machine.execPpsLost s
  | .refEdgeMissing => Sys2Proof.Machine.execRefEdgeMissing s
  | .refGate dev edges => Sys2Proof.Machine.execRefGate dev edges s
  | .holdoverMeasure ppb => Sys2Proof.Machine.execHoldoverMeasure ppb s
  | .lightIndexTimeout l => Sys2Proof.Machine.execLightIndexTimeout l s
  | .driftRevsExpiry l => Sys2Proof.Machine.execDriftRevsExpiry l s
  | .llCtrlEnWrite h en => Sys2Proof.Machine.execLlCtrlEnWrite h en s
  | .llHoldWrite l hold => Sys2Proof.Machine.execLlHoldWrite l hold s
  | .tsyncEnWrite n en => Sys2Proof.Machine.execTsyncEnWrite n en s
  | .tbSet v path => Sys2Proof.Machine.execTbSet v path s
  | .llUnbind h l path => Sys2Proof.Machine.execLlUnbind h l path s
  | .llCntClr h => Sys2Proof.Machine.execLlCntClr h s
  | .subEnable h idx on => Sys2Proof.Machine.execSubEnable h idx on s
  | .subIntervalExpiry h idx => Sys2Proof.Machine.execSubIntervalExpiry h idx s
  | .schCtrlEnWrite h en path => Sys2Proof.Machine.execSchCtrlEnWrite h en path s
  | .schCntClr h => Sys2Proof.Machine.execSchCntClr h s
  | .eventFire h id => Sys2Proof.Machine.execEventFire h id s
  | .eventDeadlineMiss h id => Sys2Proof.Machine.execEventDeadlineMiss h id s
  | .verifyTimeout h vtag => Sys2Proof.Machine.execVerifyTimeout h vtag s
  | .streamOpen l => Sys2Proof.Machine.execStreamOpen l s
  | .streamClose l => Sys2Proof.Machine.execStreamClose l s
  | .streamChunkOffer h idx => Sys2Proof.Machine.execStreamChunkOffer h idx s
  | .streamFill h idx => Sys2Proof.Machine.execStreamFill h idx s
  | .stripeChoose id => Sys2Proof.Machine.execStripeChoose id s
  | .noStripeRetry h => Sys2Proof.Machine.execNoStripeRetry h s
  | .spinUpIssue h g => Sys2Proof.Machine.execSpinUpIssue h g s
  | .spinDownIdle l => Sys2Proof.Machine.execSpinDownIdle l s
  | .stallRetry id => Sys2Proof.Machine.execStallRetry id s
  | .plLookupStripe h v => Sys2Proof.Machine.execPlLookupStripe h v s
  | .policyTick h => Sys2Proof.Machine.execPolicyTick h s
  | .effArm h => Sys2Proof.Machine.execEffArm h s
  | .effStart h => Sys2Proof.Machine.execEffStart h s
  | .effStop h => Sys2Proof.Machine.execEffStop h s
  | .plCntClr h => Sys2Proof.Machine.execPlCntClr h s
  | .dikarReq n => Sys2Proof.Machine.execDikarReq n s
  | .opSlotGrant h => Sys2Proof.Machine.execOpSlotGrant h s
  | .admission h => Sys2Proof.Machine.execAdmission h s
  | .namespaceStep h id => Sys2Proof.Machine.execNamespaceStep h id s
  | .nsTimeout h id stood => Sys2Proof.Machine.execNsTimeout h id stood s
  | .pullIssue h id => Sys2Proof.Machine.execPullIssue h id s
  | .writeEffect id => Sys2Proof.Machine.execWriteEffect id s
  | .spanCopy id => Sys2Proof.Machine.execSpanCopy id s
  | .getPush h id => Sys2Proof.Machine.execGetPush h id s
  | .getComplete h id => Sys2Proof.Machine.execGetComplete h id s
  | .mergeRetry id => Sys2Proof.Machine.execMergeRetry id s
  | .nameCompact => Sys2Proof.Machine.execNameCompact s
  | .fenceComplete id => Sys2Proof.Machine.execFenceComplete id s
  | .dkCtrlEnWrite h en path => Sys2Proof.Machine.execDkCtrlEnWrite h en path s
  | .dkCntClr h => Sys2Proof.Machine.execDkCntClr h s
  | .ctxOpen => Sys2Proof.Machine.execCtxOpen s
  | .ctxClose force => Sys2Proof.Machine.execCtxClose force s
  | .ctxCloseFinish c => Sys2Proof.Machine.execCtxCloseFinish c s
  | .meAppendEntry => Sys2Proof.Machine.execMeAppendEntry s
  | .meRemoveEntry => Sys2Proof.Machine.execMeRemoveEntry s
  | .meReadEntry => Sys2Proof.Machine.execMeReadEntry s
  | .ovfTimeout h c => Sys2Proof.Machine.execOvfTimeout h c s
  | .pinWrite v path => Sys2Proof.Machine.execPinWrite v path s
  | .cqRecordWrite c => Sys2Proof.Machine.execCqRecordWrite c s
  | .cqPiWrite c => Sys2Proof.Machine.execCqPiWrite c s
  | .cqCiWrite n => Sys2Proof.Machine.execCqCiWrite n s
  | .ringPiWrite n => Sys2Proof.Machine.execRingPiWrite n s
  | .ringDescWrite n => Sys2Proof.Machine.execRingDescWrite n s
  | .ringPoll r => Sys2Proof.Machine.execRingPoll r s
  | .ringEnable path => Sys2Proof.Machine.execRingEnable path s
  | .ringDisable => Sys2Proof.Machine.execRingDisable s
  | .ringIdle r => Sys2Proof.Machine.execRingIdle r s
  | .mtCntClr h => Sys2Proof.Machine.execMtCntClr h s
  | .collMemberGathered h id => Sys2Proof.Machine.execCollMemberGathered h id s
  | .collDeadline h idx => Sys2Proof.Machine.execCollDeadline h idx s
  | .collEffect h idx => Sys2Proof.Machine.execCollEffect h idx s
  | .collNotify h idx => Sys2Proof.Machine.execCollNotify h idx s
  | .lingerExpiry h obj tag => Sys2Proof.Machine.execLingerExpiry h obj tag s
  | .colCntClr h => Sys2Proof.Machine.execColCntClr h s
  | .ezgCarveWrite v path => Sys2Proof.Machine.execEzgCarveWrite v path s
  | .ezgFormat gen path => Sys2Proof.Machine.execEzgFormat gen path s
  | .ezgSvcWrite v path => Sys2Proof.Machine.execEzgSvcWrite v path s
  | .pageRelease h p => Sys2Proof.Machine.execPageRelease h p s
  | .journalCheckpoint h => Sys2Proof.Machine.execJournalCheckpoint h s
  | .cacheFill h => Sys2Proof.Machine.execCacheFill h s
  | .patrolRead stack line errs both => Sys2Proof.Machine.execPatrolRead stack line errs both s
  | .wearGapCopy stack => Sys2Proof.Machine.execWearGapCopy stack s
  | .ezElogTailWrite h v => Sys2Proof.Machine.execEzElogTailWrite h v s
  | .ezCntClr h => Sys2Proof.Machine.execEzCntClr h s
  | .mediaReadDone h vtag => Sys2Proof.Machine.execMediaReadDone h vtag s
  | .scrubInsert l => Sys2Proof.Machine.execScrubInsert l s
  | .scrubLate l => Sys2Proof.Machine.execScrubLate l s
  | .repairDelayExpiry l => Sys2Proof.Machine.execRepairDelayExpiry l s
  | .repairStart h => Sys2Proof.Machine.execRepairStart h s
  | .unreadableRetry h => Sys2Proof.Machine.execUnreadableRetry h s
  | .mapSweep h => Sys2Proof.Machine.execMapSweep h s
  | .gessoStart h => Sys2Proof.Machine.execGessoStart h s
  | .gessoAbort h job => Sys2Proof.Machine.execGessoAbort h job s
  | .erCntClr h => Sys2Proof.Machine.execErCntClr h s
  | .fifoCycle r qid c push pop e => Sys2Proof.Machine.execFifoCycle r qid c push pop e s
  | .arbiterDecision r aid reqs waits => Sys2Proof.Machine.execArbiterDecision r aid reqs waits s
  | .arbiterParkedGrant r aid => Sys2Proof.Machine.execArbiterParkedGrant r aid s
  | .qFlush r qid path => Sys2Proof.Machine.execQFlush r qid path s
  | .qLevelWrite r qid v => Sys2Proof.Machine.execQLevelWrite r qid v s
  | .aCfgWrite r aid q b cl => Sys2Proof.Machine.execACfgWrite r aid q b cl s
  | .qCntClr r => Sys2Proof.Machine.execQCntClr r s
  | .strike => Sys2Proof.Machine.execStrike s
  | .evtPendClear P mask => Sys2Proof.Machine.execEvtPendClear P mask s
  | .lanSummaryClear idx mask => Sys2Proof.Machine.execLanSummaryClear idx mask s
  | .vectorModTimer v => Sys2Proof.Machine.execVectorModTimer v s
  | .vectorSend v => Sys2Proof.Machine.execVectorSend v s
  | .msixUnmask x => Sys2Proof.Machine.execMsixUnmask x s
  | .hostSleep d3 l1 pme => Sys2Proof.Machine.execHostSleep d3 l1 pme s
  | .hostResume d0 l0 clear => Sys2Proof.Machine.execHostResume d0 l0 clear s
  | .pmeRepeat => Sys2Proof.Machine.execPmeRepeat s
  | .wakeTmoExpiry => Sys2Proof.Machine.execWakeTmoExpiry s
  | .fabGapExpiry h src => Sys2Proof.Machine.execFabGapExpiry h src s
  | .fabEvtSent id => Sys2Proof.Machine.execFabEvtSent id s
  | .lanRouteWrite src w => Sys2Proof.Machine.execLanRouteWrite src w s
  | .lanVecCfgWrite v w => Sys2Proof.Machine.execLanVecCfgWrite v w s
  | .lanCtrlEnWrite en => Sys2Proof.Machine.execLanCtrlEnWrite en s
  | .lanCntClr => Sys2Proof.Machine.execLanCntClr s
  | .regWrite P off part v path => Sys2Proof.Machine.execRegWrite P off part v path s
  | .resultPop q path => Sys2Proof.Machine.execResultPop q path s
  | .resultFlush q => Sys2Proof.Machine.execResultFlush q s
  | .errlogPop P path => Sys2Proof.Machine.execErrlogPop P path s
  | .shadowApply P path => Sys2Proof.Machine.execShadowApply P path s
  | .shadowDiscard P => Sys2Proof.Machine.execShadowDiscard P s
  | .shadowBoundary P h => Sys2Proof.Machine.execShadowBoundary P h s
  | .flr => Sys2Proof.Machine.execFlr s
  | .perst => Sys2Proof.Machine.execPerst s
  | .pcieLinkDown => Sys2Proof.Machine.execPcieLinkDown s
  | .pcieLinkUp width speed => Sys2Proof.Machine.execPcieLinkUp width speed s
  | .barUnsupported x off => Sys2Proof.Machine.execBarUnsupported x off s
  | .dpDataAccess wr wide v => Sys2Proof.Machine.execDpDataAccess wr wide v s
  | .bar2Access wr off ben data => Sys2Proof.Machine.execBar2Access wr off ben data s
  | .dpClr => Sys2Proof.Machine.execDpClr s
  | .glCntClr => Sys2Proof.Machine.execGlCntClr s
  | .hpCntClr => Sys2Proof.Machine.execHpCntClr s
  | .smbSetOffset w => Sys2Proof.Machine.execSmbSetOffset w s
  | .smbRead64 => Sys2Proof.Machine.execSmbRead64 s
  | .smbWrite64 v => Sys2Proof.Machine.execSmbWrite64 v s
  | .smbRead32 => Sys2Proof.Machine.execSmbRead32 s
  | .smbWrite32 v => Sys2Proof.Machine.execSmbWrite32 v s
  | .smbReadStatus => Sys2Proof.Machine.execSmbReadStatus s
  | .jtagExtest => Sys2Proof.Machine.execJtagExtest s
  | .jtagIdcode => Sys2Proof.Machine.execJtagIdcode s
  | .jtagSamplePreload levels load => Sys2Proof.Machine.execJtagSamplePreload levels load s
  | .jtagExtestPulse => Sys2Proof.Machine.execJtagExtestPulse s
  | .jtagExtestTrain => Sys2Proof.Machine.execJtagExtestTrain s
  | .jtagClamp => Sys2Proof.Machine.execJtagClamp s
  | .jtagHighz => Sys2Proof.Machine.execJtagHighz s
  | .jtagBypass => Sys2Proof.Machine.execJtagBypass s
  | .jtagTrst => Sys2Proof.Machine.execJtagTrst s
  | .prOpen fm => Sys2Proof.Machine.execPrOpen fm s
  | .prAppend fm => Sys2Proof.Machine.execPrAppend fm s
  | .prSeal fm => Sys2Proof.Machine.execPrSeal fm s
  | .prAbandon fm => Sys2Proof.Machine.execPrAbandon fm s
  | .prConfirmSp principal ep => Sys2Proof.Machine.execPrConfirmSp principal ep s
  | .mgtConfirm n => Sys2Proof.Machine.execMgtConfirm n s
  | .mgtRead n => Sys2Proof.Machine.execMgtRead n s
  | .mgtWrite n => Sys2Proof.Machine.execMgtWrite n s
  | .proposalExpiry => Sys2Proof.Machine.execProposalExpiry s
  | .emergAssert => Sys2Proof.Machine.execEmergAssert s
  | .emergRelease => Sys2Proof.Machine.execEmergRelease s
  | .prEmergWrite v path => Sys2Proof.Machine.execPrEmergWrite v path s
  | .emergWindowOff target path => Sys2Proof.Machine.execEmergWindowOff target path s
  | .emergHalfWindowsOff target path => Sys2Proof.Machine.execEmergHalfWindowsOff target path s
  | .emergWrenClear target path => Sys2Proof.Machine.execEmergWrenClear target path s
  | .emergPrivSrcOff target path => Sys2Proof.Machine.execEmergPrivSrcOff target path s
  | .emergInbOff target path => Sys2Proof.Machine.execEmergInbOff target path s
  | .emergKeyRangeOff target path => Sys2Proof.Machine.execEmergKeyRangeOff target path s
  | .emergAbandon target path => Sys2Proof.Machine.execEmergAbandon target path s
  | .leaseRenew h reach => Sys2Proof.Machine.execLeaseRenew h reach s
  | .leaseLapse h => Sys2Proof.Machine.execLeaseLapse h s
  | .primacyGrant h => Sys2Proof.Machine.execPrimacyGrant h s
  | .prefWaitExpiry => Sys2Proof.Machine.execPrefWaitExpiry s
  | .keeperTmoExpiry h => Sys2Proof.Machine.execKeeperTmoExpiry h s
  | .primacyRestore h reach => Sys2Proof.Machine.execPrimacyRestore h reach s
  | .restoreWaitExpiry => Sys2Proof.Machine.execRestoreWaitExpiry s
  | .prCntClr => Sys2Proof.Machine.execPrCntClr s
  | .prmCntClr => Sys2Proof.Machine.execPrmCntClr s
  | .keeperPass x => Sys2Proof.Machine.execKeeperPass x s
  | .kpPwrCmd target path => Sys2Proof.Machine.execKpPwrCmd target path s
  | .drained => Sys2Proof.Machine.execDrained s
  | .drainTimeout => Sys2Proof.Machine.execDrainTimeout s
  | .wakeTimer => Sys2Proof.Machine.execWakeTimer s
  | .kpQuerySnapshot path => Sys2Proof.Machine.execKpQuerySnapshot path s
  | .kpLogPop path => Sys2Proof.Machine.execKpLogPop path s
  | .kpCntClr => Sys2Proof.Machine.execKpCntClr s
  | .calTempCheck h => Sys2Proof.Machine.execCalTempCheck h s
  | .calRunStart h idx => Sys2Proof.Machine.execCalRunStart h idx s
  | .calPatternTimeout h idx => Sys2Proof.Machine.execCalPatternTimeout h idx s
  | .calMeasureEnd h idx eye phase voff dfe1 ctle => Sys2Proof.Machine.execCalMeasureEnd h idx eye phase voff dfe1 ctle s
  | .calVerifyPass h idx => Sys2Proof.Machine.execCalVerifyPass h idx s
  | .calVerifyTimeout h idx => Sys2Proof.Machine.execCalVerifyTimeout h idx s
  | .calSweep h => Sys2Proof.Machine.execCalSweep h s
  | .calRunCmd h idx k => Sys2Proof.Machine.execCalRunCmd h idx k s
  | .calAbortCmd h => Sys2Proof.Machine.execCalAbortCmd h s
  | .calClearAborts h idx => Sys2Proof.Machine.execCalClearAborts h idx s
  | .calEnWrite h en => Sys2Proof.Machine.execCalEnWrite h en s
  | .calCntClr h => Sys2Proof.Machine.execCalCntClr h s
  | .vddKeepUp p => Sys2Proof.Machine.execVddKeepUp p s
  | .keeperBootDone => Sys2Proof.Machine.execKeeperBootDone s
  | .suppliesInRange => Sys2Proof.Machine.execSuppliesInRange s
  | .supplyTimeout => Sys2Proof.Machine.execSupplyTimeout s
  | .resetNRise => Sys2Proof.Machine.execResetNRise s
  | .resetNFall => Sys2Proof.Machine.execResetNFall s
  | .selfTestDone h r => Sys2Proof.Machine.execSelfTestDone h r s
  | .primacyStepTimeout => Sys2Proof.Machine.execPrimacyStepTimeout s
  | .replayDone h damaged => Sys2Proof.Machine.execReplayDone h damaged s
  | .portWaitExpiry h => Sys2Proof.Machine.execPortWaitExpiry h s
  | .lightWaitExpiry h => Sys2Proof.Machine.execLightWaitExpiry h s
  | .fabricWaitExpiry h => Sys2Proof.Machine.execFabricWaitExpiry h s
  | .resumeStep h => Sys2Proof.Machine.execResumeStep h s
  | .tbFloorSave => Sys2Proof.Machine.execTbFloorSave s
  | .brownOut => Sys2Proof.Machine.execBrownOut s
  | .brownOutRecover => Sys2Proof.Machine.execBrownOutRecover s
  | .vddKeepLoss => Sys2Proof.Machine.execVddKeepLoss s
  | .mainSupplyLoss => Sys2Proof.Machine.execMainSupplyLoss s
  | .stContinue pg => Sys2Proof.Machine.execStContinue pg s
  | .stRestart pg => Sys2Proof.Machine.execStRestart pg s
  | .stHalfReset pg h => Sys2Proof.Machine.execStHalfReset pg h s
  | .stSingle pg h => Sys2Proof.Machine.execStSingle pg h s
  | .stAcceptLoss pg h => Sys2Proof.Machine.execStAcceptLoss pg h s
  | .stKeeperRestart pg p => Sys2Proof.Machine.execStKeeperRestart pg p s
  | .stBootlog pg => Sys2Proof.Machine.execStBootlog pg s
  | .stCntClr h => Sys2Proof.Machine.execStCntClr h s
  | .tbNowLowRead path => Sys2Proof.Machine.execTbNowLowRead path s
  | .steerMatch n => Sys2Proof.Machine.execSteerMatch n s
  | .steerParityError n => Sys2Proof.Machine.execSteerParityError n s
  | .spanDown => Sys2Proof.Machine.execSpanDown s
  | .spanUp => Sys2Proof.Machine.execSpanUp s
  | .grantPark r aid => Sys2Proof.Machine.execGrantPark r aid s
  | .msixMask x => Sys2Proof.Machine.execMsixMask x s

end Sys2Proof.Machine
end

