-- ==== Sys2Proof/Machine/Idle.lean ====
section
/-!
DEFINITION. What the device does by itself while no command waits: one nanosecond passes, and what follows from that alone.
-/
namespace Sys2Proof.Machine

/-- One nanosecond: both copies of the timebase advance, LIMIT of a running efficiency interval grows (R266), and the
start-up steps, the data port and the units' messages to each other go as far as they can. DESIGN CHOICE. -/
def idle (s : State) : State := settle (dpRun (bootGo (limitTick .east (limitTick .west (tick s)))))

end Sys2Proof.Machine
end

