-- ==== Sys2Proof/WellFormed.lean ====
section
/-!
DEFINITION. Which commands are well formed: the ports, lights, pages and other numbers they name exist, and what they
carry has the size that the spec gives it.
-/
namespace Sys2Proof

/-- The operands of a command lie in the ranges of the spec: 16 fabric and 64 Atnen ports (R22), 6 VCs (R50), 8 lanes of
a fabric port (R59) and 9 of an Atnen port (R98), four slots of 128 bytes in a codeword (R41), 65,536 read tags (R78), 16
stations and 64 transaction numbers (R105, R113), 16,384 lights (R23), 2^20 contexts (R308), 65,536 rings (R328), 8
stacks (R361), pages and registers of 8 bytes (R9, R485), the regions and numbers of FIFOs and arbiters (R448, R449), 64
vectors and 256 sources (R460, R464). -/
def Instr.wf : Instr → Bool
  | .codewordReceive n cw => decide (n < 16 ∧ cw.slots.length = 4 ∧ cw.slots.all (fun b => b.length == 128) = true)
  | .replayTimeout n => decide (n < 16)
  | .packetSend n vc => decide (n < 16 ∧ vc < 6)
  | .downWaitExpiry n => decide (n < 16)
  | .trainComplete n lanes => decide (n < 16 ∧ lanes < 256)
  | .trainNoSignal n => decide (n < 16)
  | .alignLock n => decide (n < 16)
  | .alignTimeout n => decide (n < 16)
  | .initTimeout n => decide (n < 16)
  | .recoverTimeout n => decide (n < 16)
  | .linkSignalLoss n lane => decide (n < 16 ∧ lane < 8)
  | .lowpwrWakeTimeout n => decide (n < 16)
  | .fiuEnWrite n _ _ => decide (n < 16)
  | .fiuRetrain n => decide (n < 16)
  | .lpReqWrite n _ => decide (n < 16)
  | .fiuCntClr n => decide (n < 16)
  | .rxPw n => decide (n < 16)
  | .rxNpw n => decide (n < 16)
  | .rxRd n => decide (n < 16)
  | .rxAmo n => decide (n < 16)
  | .rxRsp n => decide (n < 16)
  | .rspTimeout _ t => decide (t < 65536)
  | .tagQuarantineEnd _ t => decide (t < 65536)
  | .egrPortMaskWrite _ mask => decide (mask < 256)
  | .flowSettleExpiry _ dst => decide (dst < 2 ^ 20)
  | .apuEnWrite n _ => decide (n < 64)
  | .apuHoldWrite n _ => decide (n < 64)
  | .trainStart n => decide (n < 64)
  | .enumStart n => decide (n < 64)
  | .autoTrainExpiry n => decide (n < 64)
  | .atnTrainNoSignal n => decide (n < 64)
  | .atnLockTimeout n => decide (n < 64)
  | .trnWordReceive n lane _ _ => decide (n < 64 ∧ lane < 9)
  | .enumTimeout n => decide (n < 64)
  | .enumEnd n _ => decide (n < 64)
  | .enumDone n => decide (n < 64)
  | .parityError n => decide (n < 64)
  | .atnSignalLoss n => decide (n < 64)
  | .flowReceive n _ => decide (n < 64)
  | .laneReceive n _ => decide (n < 64)
  | .steerTimeout n => decide (n < 64)
  | .atnRxTxnWr n _ _ => decide (n < 64)
  | .atnRxRsp n _ _ => decide (n < 64)
  | .atnRdTimeout n stn tn => decide (n < 64 ∧ stn < 16 ∧ tn < 64)
  | .tnQuarantineEnd n stn tn => decide (n < 64 ∧ stn < 16 ∧ tn < 64)
  | .atnRxInt n _ _ => decide (n < 64)
  | .atnRxBeacon n _ _ => decide (n < 64)
  | .atnRxVerify n _ _ => decide (n < 64)
  | .atnRxWrErr n _ _ => decide (n < 64)
  | .atnRxUnitState n _ _ => decide (n < 64)
  | .atnRxStationFault n _ _ => decide (n < 64)
  | .tsyncSend n => decide (n < 64)
  | .apuCntClr n => decide (n < 64)
  | .palProbe _ a => decide (a < 2 ^ 64)
  | .palHaltClear _ i _ => decide (i < 16)
  | .palCtrlEnWrite _ _ => true
  | .palCntClr _ => true
  | .wrHoldExpiry _ _ => true
  | .lockTimeout n => decide (n < 64)
  | .lockBudgetBreak n => decide (n < 64)
  | .intRelease n => decide (n < 64)
  | .cxPwlogTailWrite _ _ => true
  | .cxFarlogTailWrite _ _ => true
  | .cxCntClr _ => true
  | .ppsEdge => true
  | .ppsLost => true
  | .refEdgeMissing => true
  | .refGate _ _ => true
  | .holdoverMeasure _ => true
  | .lightIndexTimeout l => decide (l < 16384)
  | .driftRevsExpiry l => decide (l < 16384)
  | .llCtrlEnWrite _ _ => true
  | .llHoldWrite l _ => decide (l < 16384)
  | .tsyncEnWrite n _ => decide (n < 64)
  | .tbSet _ _ => true
  | .llUnbind _ l _ => decide (l < 16384)
  | .llCntClr _ => true
  | .subEnable _ i _ => decide (i < 1024)
  | .subIntervalExpiry _ i => decide (i < 1024)
  | .schCtrlEnWrite _ _ _ => true
  | .schCntClr _ => true
  | .eventFire _ _ => true
  | .eventDeadlineMiss _ _ => true
  | .verifyTimeout _ _ => true
  | .streamOpen l => decide (l < 16384)
  | .streamClose l => decide (l < 16384)
  | .streamChunkOffer _ i => decide (i < 256)
  | .streamFill _ i => decide (i < 256)
  | .stripeChoose _ => true
  | .noStripeRetry _ => true
  | .spinUpIssue _ g => decide (g < 256)
  | .spinDownIdle l => decide (l < 16384)
  | .stallRetry _ => true
  | .plLookupStripe _ _ => true
  | .policyTick _ => true
  | .effArm _ => true
  | .effStart _ => true
  | .effStop _ => true
  | .plCntClr _ => true
  | .dikarReq n => decide (n < 16)
  | .opSlotGrant _ => true
  | .admission _ => true
  | .namespaceStep _ _ => true
  | .nsTimeout _ _ _ => true
  | .pullIssue _ _ => true
  | .writeEffect _ => true
  | .spanCopy _ => true
  | .getPush _ _ => true
  | .getComplete _ _ => true
  | .mergeRetry _ => true
  | .nameCompact => true
  | .fenceComplete _ => true
  | .dkCtrlEnWrite _ _ _ => true
  | .dkCntClr _ => true
  | .ctxOpen => true
  | .ctxClose _ => true
  | .ctxCloseFinish c => decide (c < 2 ^ 20)
  | .meAppendEntry => true
  | .meRemoveEntry => true
  | .meReadEntry => true
  | .ovfTimeout _ c => decide (c < 2 ^ 20)
  | .pinWrite _ _ => true
  | .cqRecordWrite c => decide (c < 2 ^ 20)
  | .cqPiWrite c => decide (c < 2 ^ 20)
  | .cqCiWrite n => decide (n < 16)
  | .ringPiWrite n => decide (n < 16)
  | .ringDescWrite n => decide (n < 16)
  | .ringPoll r => decide (r < 65536)
  | .ringEnable _ => true
  | .ringDisable => true
  | .ringIdle r => decide (r < 65536)
  | .mtCntClr _ => true
  | .collMemberGathered _ _ => true
  | .collDeadline _ i => decide (i < 512)
  | .collEffect _ i => decide (i < 512)
  | .collNotify _ i => decide (i < 512)
  | .lingerExpiry _ obj tag => decide (obj < 2 ^ 64 ∧ tag < 2 ^ 64)
  | .colCntClr _ => true
  | .ezgCarveWrite _ _ => true
  | .ezgFormat _ _ => true
  | .ezgSvcWrite _ _ => true
  | .pageRelease _ _ => true
  | .journalCheckpoint _ => true
  | .cacheFill _ => true
  | .patrolRead stack _ errs _ => decide (stack < 8 ∧ errs.length = 4)
  | .wearGapCopy stack => decide (stack < 8)
  | .ezElogTailWrite _ _ => true
  | .ezCntClr _ => true
  | .mediaReadDone _ _ => true
  | .scrubInsert l => decide (l < 16384)
  | .scrubLate l => decide (l < 16384)
  | .repairDelayExpiry l => decide (l < 16384)
  | .repairStart _ => true
  | .unreadableRetry _ => true
  | .mapSweep _ => true
  | .gessoStart _ => true
  | .gessoAbort _ job => decide (job < 8)
  | .erCntClr _ => true
  | .fifoCycle r qid _ _ _ _ => decide (r < 3 ∧ qid < 65536)
  | .arbiterDecision r aid _ _ => decide (r < 3 ∧ aid < 65536)
  | .arbiterParkedGrant r aid => decide (r < 3 ∧ aid < 65536)
  | .qFlush r qid _ => decide (r < 3 ∧ qid < 65536)
  | .qLevelWrite r qid v => decide (r < 3 ∧ qid < 65536 ∧ v < 2 ^ 24)
  | .aCfgWrite r aid q _ _ => decide (r < 3 ∧ aid < 65536 ∧ q < 8)
  | .qCntClr r => decide (r < 3)
  | .strike => true
  | .evtPendClear P _ => decide (P < 16384)
  | .lanSummaryClear i _ => decide (i < 4)
  | .vectorModTimer v => decide (v < 64)
  | .vectorSend v => decide (v < 64)
  | .msixUnmask _ => true
  | .hostSleep _ _ _ => true
  | .hostResume _ _ _ => true
  | .pmeRepeat => true
  | .wakeTmoExpiry => true
  | .fabGapExpiry _ src => decide (src < 256)
  | .fabEvtSent _ => true
  | .lanRouteWrite src _ => decide (src < 256)
  | .lanVecCfgWrite v _ => decide (v < 64)
  | .lanCtrlEnWrite _ => true
  | .lanCntClr => true
  | .regWrite P off _ _ _ => decide (P < 16384 ∧ off < 4096 ∧ off % 8 = 0)
  | .resultPop _ _ => true
  | .resultFlush _ => true
  | .errlogPop P _ => decide (P < 16384)
  | .shadowApply P _ => decide (P < 16384)
  | .shadowDiscard P => decide (P < 16384)
  | .shadowBoundary P _ => decide (P < 16384)
  | .flr => true
  | .perst => true
  | .pcieLinkDown => true
  | .pcieLinkUp _ _ => true
  | .barUnsupported _ _ => true
  | .dpDataAccess _ _ _ => true
  | .bar2Access wr off ben data => decide (off < 2 ^ 20 ∧ ben.length % 4 = 0 ∧ data.length = (if wr then ben.length else 0))
  | .dpClr => true
  | .glCntClr => true
  | .hpCntClr => true
  | .smbSetOffset _ => true
  | .smbRead64 => true
  | .smbWrite64 _ => true
  | .smbRead32 => true
  | .smbWrite32 _ => true
  | .smbReadStatus => true
  | .jtagExtest => true
  | .jtagIdcode => true
  | .jtagSamplePreload levels load => decide (levels.length = load.length)
  | .jtagExtestPulse => true
  | .jtagExtestTrain => true
  | .jtagClamp => true
  | .jtagHighz => true
  | .jtagBypass => true
  | .jtagTrst => true
  | .prOpen _ => true
  | .prAppend _ => true
  | .prSeal _ => true
  | .prAbandon _ => true
  | .prConfirmSp _ _ => true
  | .mgtConfirm n => decide (n < 16)
  | .mgtRead n => decide (n < 16)
  | .mgtWrite n => decide (n < 16)
  | .proposalExpiry => true
  | .emergAssert => true
  | .emergRelease => true
  | .prEmergWrite _ _ => true
  | .emergWindowOff _ _ => true
  | .emergHalfWindowsOff _ _ => true
  | .emergWrenClear _ _ => true
  | .emergPrivSrcOff _ _ => true
  | .emergInbOff _ _ => true
  | .emergKeyRangeOff _ _ => true
  | .emergAbandon _ _ => true
  | .leaseRenew _ _ => true
  | .leaseLapse _ => true
  | .primacyGrant _ => true
  | .prefWaitExpiry => true
  | .keeperTmoExpiry _ => true
  | .primacyRestore _ _ => true
  | .restoreWaitExpiry => true
  | .prCntClr => true
  | .prmCntClr => true
  | .keeperPass _ => true
  | .kpPwrCmd _ _ => true
  | .drained => true
  | .drainTimeout => true
  | .wakeTimer => true
  | .kpQuerySnapshot _ => true
  | .kpLogPop _ => true
  | .kpCntClr => true
  | .calTempCheck _ => true
  | .calRunStart _ i => decide (i < 32)
  | .calPatternTimeout _ i => decide (i < 32)
  | .calMeasureEnd _ i eye _ _ _ _ => decide (i < 32 ∧ eye ≤ 128)
  | .calVerifyPass _ i => decide (i < 32)
  | .calVerifyTimeout _ i => decide (i < 32)
  | .calSweep _ => true
  | .calRunCmd _ i k => decide (i < 32 ∧ k < 8)
  | .calAbortCmd _ => true
  | .calClearAborts _ i => decide (i < 32)
  | .calEnWrite _ _ => true
  | .calCntClr _ => true
  | .vddKeepUp _ => true
  | .keeperBootDone => true
  | .suppliesInRange => true
  | .supplyTimeout => true
  | .resetNRise => true
  | .resetNFall => true
  | .selfTestDone _ _ => true
  | .primacyStepTimeout => true
  | .replayDone _ _ => true
  | .portWaitExpiry _ => true
  | .lightWaitExpiry _ => true
  | .fabricWaitExpiry _ => true
  | .resumeStep _ => true
  | .tbFloorSave => true
  | .brownOut => true
  | .brownOutRecover => true
  | .vddKeepLoss => true
  | .mainSupplyLoss => true
  | .stContinue _ => true
  | .stRestart _ => true
  | .stHalfReset _ _ => true
  | .stSingle _ _ => true
  | .stAcceptLoss _ _ => true
  | .stKeeperRestart _ _ => true
  | .stBootlog _ => true
  | .stCntClr _ => true
  | .tbNowLowRead _ => true
  | .steerMatch n => decide (n < 64)
  | .steerParityError n => decide (n < 64)
  | .spanDown => true
  | .spanUp => true
  | .grantPark r aid => decide (r < 3 ∧ aid < 65536)
  | .msixMask _ => true

end Sys2Proof
end

