-- ==== Sys2Proof/Safety.lean ====
section
/-!
DEFINITION. What the statements are written in: a command that ends in a next state of which something holds, the
registers that a command leaves alone, and what counts as a safe run.
-/
namespace Sys2Proof.Machine

/-- The command answers a next state, and `Q` holds of it. -/
def Ends (c : Instr) (s : State) (Q : State → Prop) : Prop := ∃ t, exec c s = .next t ∧ Q t

/-- The command comes to a state of which `Q` holds, and then the units' messages are carried and what waited comes in. -/
def Settles (c : Instr) (s : State) (Q : State → Prop) : Prop := ∃ u, exec c s = .next (settle u) ∧ Q u

/-- Every register field outside the registers (page, byte offset) of `ex` holds the same value in both states, whatever
reset value the reader takes. -/
def RegsKept (ex : List (Nat × Nat)) (s t : State) : Prop :=
  ∀ (k : RKey) (d : Nat), (k.page, k.off) ∉ ex → tgetBy d t.regs k = tgetBy d s.regs k

/-- The two registers in which an event of page `P` shows (R456). -/
def evtRegs (P : Nat) : List (Nat × Nat) := [(P, R.EVT_RAW.off), (P, R.EVT_PEND.off)]

/-- The registers of the two EGRESS pages in which events show. -/
def egrRegs : List (Nat × Nat) := evtRegs (pgEgress .west) ++ evtRegs (pgEgress .east)

/-- What a change of F[n]'s link may touch: the ports' records, the egress choices, the port's FIFOs, strikes, what the page
latched, and the registers of the link, of its two counters and of the events (R58, R62, R79-R82). -/
def LinkFrame (n : Nat) (s t : State) : Prop :=
  t = { s with
    regs := t.regs, fiu := t.fiu, egr := t.egr, strikes := t.strikes, fifos := t.fifos, woLatch := t.woLatch } ∧
  RegsKept ([(pgFiu n, R.FIU_LINK_STAT_STATE.off), (pgFiu n, R.FIU_LINK_CTRL_EN.off), (pgFiu n, R.FIU_CNT_MALFORMED.off),
    (pgFiu n, R.FIU_CNT_RECOVER.off)] ++ evtRegs (pgFiu n) ++ egrRegs) s t ∧
  ∀ m, m ≠ n → (fiuGet t m) = { fiuGet s m with txq := (fiuGet t m).txq }

/-- The bytes of Easel and of the firmware staging areas are kept in their canonical form. -/
def MemoriesWf (s : State) : Prop := Memory.wf s.easel = true ∧ Memory.wf s.stage = true

/-- The sparse tables of the units are kept in their canonical form: rising numbers, no default listed. -/
def TablesWf (s : State) : Prop :=
  twf (fun n => n) {} s.fiu = true ∧ twf (fun n => n) {} s.apu = true ∧ twf (fun n => n) {} s.lights = true ∧
    twf (fun n => n) {} s.fifos = true ∧ twf (fun n => n) {} s.arbs = true ∧ twf (fun n => n) {} s.results = true

/-- A state that a run may rest on: canonical memories and tables, every command that waits well formed, and no functional
state that the TAP has left undefined (R520). -/
def SafeState (s : State) : Prop :=
  MemoriesWf s ∧ TablesWf s ∧ s.pending.all Instr.wf = true ∧ s.tap.undef = false

/-- A safe run of `k` steps: no step stops, and every state on the way is safe. -/
def SafeRun : Nat → State → Prop
  | 0, s => SafeState s
  | k + 1, s => SafeState s ∧ ∃ t, step s = .next t ∧ SafeRun k t

/-- What falls with a link: the port is DOWN with that cause, holds nothing for replay, and only the link's own things and
the egress choices have changed (R58, R62). -/
def FellDown (n cause : Nat) (s t : State) : Prop :=
  fiuState t n = fsDOWN ∧ rd t (pgFiu n) R.FIU_LINK_STAT_CAUSE = cause ∧ (fiuGet t n).held = [] ∧
    (fiuGet t n).sent = [] ∧ LinkFrame n s t

/-- The first whole packet of VC `vc` of F[n] is `p` in `k` flits, good, for half `h`, which is F[n]'s own and up, with
the engines on, and no event packet waits before it (R55, R75, R76). -/
def HeadIs (s : State) (n vc k : Nat) (h : Half) (p : Packet) : Prop :=
  rxHead s n 4 = none ∧ rxHead s n vc = some (p, k) ∧ enginesOn s = true ∧ malformed s vc k p = none ∧
    nodeHalf s p.dst = some h ∧ fHalf n = h ∧ halfUp s h = true

/-- The fields of a packet fit the header of R68. -/
def PacketFits (p : Packet) : Prop :=
  p.type < 16 ∧ p.src < 2 ^ 20 ∧ p.dst < 2 ^ 20 ∧ p.w1 < 2 ^ 64 ∧ p.w2 < 2 ^ 64 ∧ p.w3 < 2 ^ 64 ∧ p.len ≤ 4096 ∧
    p.payload.length = p.len

/-- DOWN from TRAIN with a cause: one DOWN more, the event, and nothing else (R97, R125). -/
def TrainFailed (n cause : Nat) (s t : State) : Prop :=
  apuState t n = asDOWN ∧ rd t (pgApu n) R.APU_STAT_CAUSE = cause ∧
    rd t (pgApu n) R.APU_CNT_DOWN = rd (bump (pgApu n) R.APU_CNT_DOWN s) (pgApu n) R.APU_CNT_DOWN ∧
    t = { s with regs := t.regs, strikes := t.strikes } ∧
    RegsKept ([(pgApu n, R.APU_STAT_STATE.off), (pgApu n, R.APU_CNT_DOWN.off)] ++ evtRegs (pgApu n)) s t

/-- TRAIN entered: locks and steering start afresh (R98, R104). -/
def TrainBegun (n : Nat) (s t : State) : Prop :=
  apuState t n = asTRAIN ∧ (apuGet t n).trn = [] ∧ rd t (pgApu n) R.APU_STEER_RX_STATE = 0 ∧
    rd t (pgApu n) R.APU_STEER_TX_STATE = 0 ∧ t = { s with regs := t.regs, apu := t.apu, woLatch := t.woLatch } ∧
    RegsKept [(pgApu n, R.APU_STAT_STATE.off), (pgApu n, R.APU_STEER_RX_STATE.off)] s t

/-- The words of a payload, none a control word (R94). -/
def payloadOf (ps : List (BitVec 32)) : List LaneWord := ps.map (fun d => ⟨false, d⟩)

/-- The bytes of a payload in station order (R111). -/
def payloadBytes (ps : List (BitVec 32)) : List Byte := (ps.map (fun d => beBytes d.toNat)).flatten

/-- The bytes that a part writes: those that its byte enables select, with their station addresses (R111). -/
def partBytes (p : APart) : List (Nat × Byte) :=
  ((List.range p.data.length).filter (fun i => p.be.testBit (3 - i % 4))).map (fun i => (p.addr + i, (p.data[i]?).getD 0))

/-- R216's conditions for an event to fire. -/
def MayFire (s : State) (h : Half) (e : Event) : Prop :=
  e.st = .fixed ∧ lightState s e.light = lsLIT ∧ rdBI s (pgL e.light) R.LL_VIEW_6_HOLD e.light = false ∧
    rdB s (pgSched h) R.SCH_CTRL_EN = true ∧ rd s pgKeeper R.KP_PWR_STAT_STATE = 4 ∧ fireAt s e ≤ nowH s h

/-- No run, mark, lane or sweep of calibration, and no half in step 3 of a start. -/
def CalibrationIdle (s : State) : Prop :=
  s.cal = ⟨{}, {}⟩ ∧ s.boot.west.state ≠ hsSTARTING ∧ s.boot.east.state ≠ hsSTARTING

/-- A stopped unit of group `g` that a waiting stripe of half `h` asks to turn (R247). -/
def SpinWanted (s : State) (h : Half) (g l : Nat) : Prop :=
  s.objs.stripes.any (fun x => decide (x.home = h) && x.group == g && x.noStripe) = true ∧ grpSpin s h g = true ∧
    grpEn s h g = true ∧
    spinChoice s g (fun m => !(haveDomains s h g).contains (domain s (grpF s h g R.PLG_GRP_VIEW_0_DOMAIN_MIN) m)) = some l

/-- An idle light that R247 lets spin down. -/
def SpareIdle (s : State) (l : Nat) : Prop :=
  isDisc s l = true ∧ grpSpin s (lHalf l) (lightGroup s l) = true ∧ grpEn s (lHalf l) (lightGroup s l) = true ∧
    lightState s l = lsLIT ∧ lightBusy s l = false ∧ spinPending s l 4 = false ∧ cmdRoom s l = true ∧
    (overFill s (lHalf l) (lightGroup s l) l = true ∨ spareable s (lHalf l) (lightGroup s l) l = true)

/-- No plan and no stripe waits to be tried again. -/
def NoRetry (s : State) : Prop :=
  s.objs.plans.all (fun p => !p.waits) = true ∧ s.objs.stripes.all (fun x => !(x.noStripe && !x.stalled)) = true

/-- A tape light in LIT that a waiting stripe wants a stream on (R223, R259). -/
def TapeAsked (s : State) (l : Nat) : Prop :=
  quiet s = true ∧ NoRetry s ∧ tapeWanted s l = true ∧ isDisc s l = false ∧ lightState s l = lsLIT ∧
    (lgt s l).desc.geometry = tapeBytes

/-- The reservation of R223 fits under the port's cap. -/
def underCap (s : State) (l : Nat) : Bool :=
  decide (resOnPort s (lightPort s l) + strRes s l ≤ min 90 (rd s (pgSched (lHalf l)) R.SCH_CTRL_RES_CAP_PCT) * 240000000)

/-- One result of kind `kind`, a header word and the words `ws`, at the tail of result queue `q`; the other queues are as
they were (R505, R506). -/
def ResultPushed (q kind : Nat) (ws : List Nat) (s t : State) : Prop :=
  tget {} t.results q = { tget {} s.results q with
      words := (tget {} s.results q).words ++ resWords kind ws.length (tget {} s.results q).nextSeq 0 (ws.length :: ws),
      nextSeq := ((tget {} s.results q).nextSeq + (ws.length + 1)) % 128 } ∧
    ∀ p, p ≠ q → tget {} t.results p = tget {} s.results p

/-- Result queue `q` has room for a header word and `n` words. -/
def resRoom (s : State) (q n : Nat) : Bool := decide ((tget {} s.results q).words.length + (n + 1) ≤ 4096)

/-- A request whose completion goes to its context's queue. -/
def ByQueue (s : State) (d : DOp) : Prop :=
  opGet s d.id = some d ∧ d.replyMsg = false ∧ d.ring = none ∧ d.mute = false ∧ d.write = none ∧
    (mh s d.h).forced.contains d.ctx = false

/-- The one completion of request `d`, with its status, at the end of its context's queue; the request holds nothing but
its record (R281, R295). -/
def Completed (d : DOp) (status : Nat) (s t : State) : Prop :=
  (∃ obj group x, (cqGet t d.h d.ctx).recs = (cqGet s d.h d.ctx).recs ++
      [{ body := complBody d.dop status d.reqId obj d.ctx group x, op := some d.id, ring := none }]) ∧
    ∃ y, opGet t d.id = some y ∧ y.st = .ended

/-- MSG `p` in `k` flits at the head of F[n]'s VC3, for a context or a half that half `m` matches, which takes it now. -/
def MsgIs (s : State) (n k : Nat) (h m : Half) (p : Packet) : Prop :=
  HeadIs s n 3 k h p ∧ p.type = tMSG ∧ msgHalf s h p = m ∧ takesMsg s m = true ∧ (m = h ∨ s.boot.span = true) ∧
    halfUp s m = true ∧ quiet s = true

/-- The one request that waits for admission on half `h`; it is of that half, nothing blocks it, and no copy of a name is
damaged (R277, R282, R299). -/
def AdmitNext (s : State) (h : Half) (d : DOp) : Prop :=
  quiet s = true ∧ s.dikar.queue.at h = [d.id] ∧ s.dikar.queue.at h.twin = [] ∧ opBlocked s d = false ∧ d.h = h ∧
    s.place.west.badNames = [] ∧ s.place.east.badNames = [] ∧ ByQueue s d ∧ d.st = .admitting

/-- Request `d` waits for the namespace step that half `h` carries out, over the span where `h` is not its home (R279). -/
def StepWaits (s : State) (h : Half) (d : DOp) : Prop :=
  ByQueue s d ∧ d.st = .step ∧ stepBy s d.home = h ∧ (h = d.home ∨ s.boot.span = true) ∧ d.dop ≠ doCOLL ∧ quiet s = true

/-- The half has primacy with enough of its lease left, both halves are up and their journals have room, and no copy of a
name is damaged. -/
def StepReady (s : State) (h : Half) : Prop :=
  holds s h = true ∧ primLost s h = false ∧ holdsLong s h = true ∧ xstepOk s = true ∧ nameRoom s h = true ∧
    s.boot.single = none ∧ s.place.west.badNames = [] ∧ s.place.east.badNames = []

/-- One result word of kind `kind` at the tail of result queue `q`; the other queues are as they were (R505, R506). -/
def WordPushed (q kind w : Nat) (s t : State) : Prop :=
  tget {} t.results q = { tget {} s.results q with
      words := (tget {} s.results q).words ++ resWords kind 0 (tget {} s.results q).nextSeq 0 [w],
      nextSeq := ((tget {} s.results q).nextSeq + 1) % 128 } ∧
    ∀ p, p ≠ q → tget {} t.results p = tget {} s.results p

/-- The context in CTX_SEL, at home on `h`, whose result queue has room. -/
def CtxSel (s : State) (h : Half) (c : Nat) : Prop :=
  rd s pgContexts R.CTX_SEL_CTX = c ∧ ctxHome s c = h ∧ resRoom s (resOf h) 0 = true ∧ quiet s = true

/-- A context command that only answers: with its code, its entry, and nothing else changed. -/
def OnlyAnswers (c : Instr) (s : State) (h : Half) (w : Nat) : Prop :=
  Ends c s (fun t => WordPushed (resOf h) 5 w s t ∧
    t = { s with regs := t.regs, strikes := t.strikes, results := t.results, woLatch := t.woLatch } ∧
    RegsKept (evtRegs (resPage (resOf h))) s t)

/-- A good aperture write `p` of ring `r` at the head of F[n]'s VC1, for half `h`, that R326 lets in. -/
def RingWrite (s : State) (n k : Nat) (h : Half) (r : Nat) (p : Packet) : Prop :=
  quiet s = true ∧ HeadIs s n 1 k h p ∧ p.type = tPW ∧ inAperture p.addr = true ∧ p.addr.testBit 39 = false ∧
    apRing p = r ∧ apCause s h p = none ∧ Memory.wf s.easel = true

/-- Only the bytes from `a` on have changed, to `bs`. -/
def OnlyWrites (a : Nat) (bs : List Byte) (s t : State) : Prop :=
  ezRead t a bs.length = bs ∧ ∀ b, (b < a ∨ a + bs.length ≤ b) → ezByte t b = ezByte s b

/-- How many descriptors a poll finds (R329). -/
def ringNew (s : State) (r : Nat) : Nat :=
  let m := 2 ^ (ringV s R.RING_CTRL_SIZE_LOG2 r + 1)
  (leNat (ezRead s (ringRec s r) 8) % m + m - ringV s R.RING_STAT_CI r % m) % m

/-- A ring that is polled: enabled, on a half that is up, in a device that takes work. -/
def Polled (s : State) (r : Nat) : Prop :=
  quiet s = true ∧ ringEn s r = true ∧ takesWork s = true ∧ halfUp s (ringHome s r) = true ∧
    ringV s R.RING_CTRL_SIZE_LOG2 r ≤ 16

/-- A plain counter clear `c` of page `P`, written at offset `off`, for the counters `fs` (R489, R490). -/
def ClearsExactly (c : Instr) (P off : Nat) (fs : List Fld) (s : State) : Prop :=
  (pageLive s P = true → Ends c s (fun t => (∀ f ∈ fs, rd t P f = 0) ∧
    t = { s with regs := t.regs, woLatch := t.woLatch } ∧
    (∀ (k : RKey) (d : Nat), (∀ f ∈ fs, k ≠ f.key P 0) → tgetBy d t.regs k = tgetBy d s.regs k))) ∧
  (pageLive s P = false → Ends c s (fun t => t = barErr 4 (barOff P off) s))

/-- Gather record `i` of half `h` is `r`, and `d` is its only admitted member whose completion has not been sent: a member
of this half whose record goes to its context's queue. -/
def OneMember (s : State) (h : Half) (i : Nat) (r : Coll) (d : DOp) : Prop :=
  recGet s h i = some r ∧ recOps s r = [d] ∧ opGet s d.id = some d ∧ d.h = h ∧ d.home = h ∧ d.replyMsg = false ∧
    d.ring = none ∧ d.mute = false ∧ (mh s h).forced.contains d.ctx = false ∧ r.over = false

/-- A member that has been received into the assembly area. -/
def MemberIn (r : Coll) (d : DOp) : Prop :=
  d.st = .member ∧ d.received = true ∧ d.pullFail = none ∧ d.write = some r.write

/-- The collective has closed with this status for the whole, and its object and tag linger (R343, R346). -/
def ClosedWith (h : Half) (i : Nat) (r : Coll) (status : Nat) (u : State) : Prop :=
  (∃ x, recGet u h i = some x ∧ collStatus x.doneBody = status ∧ x.over = true ∧ x.closing = true) ∧
    (r.obj, r.tag) ∈ (u.coll.at h).linger

/-- An Easel byte has the same value in both states. -/
def BytesKept (s t : State) : Prop := ∀ b, ezByte t b = ezByte s b

/-- A patrol read of line `n` of stack `st` of half `h`, whose first codeword is at `a`, that finds `e` symbol errors in that
codeword alone. -/
def Patrolled (s : State) (st n a : Nat) (h : Half) : Prop :=
  quiet s = true ∧ st < 8 ∧ n < 2 ^ 30 ∧ h = stackHalf st ∧ a = lineAddr st n ∧ Memory.wf s.easel = true

/-- What an uncorrectable codeword at `a` of half `h` always leaves: the counts, the event and the log entry (R386, R391). -/
def Uncorrectable (h : Half) (st a region owner : Nat) (s t : State) : Prop :=
  rd t (pgEasel h) R.EASEL_CNT_UNCORR = rd (bump (pgEasel h) R.EASEL_CNT_UNCORR s) (pgEasel h) R.EASEL_CNT_UNCORR ∧
    rdI t (pgEasel h) R.EZ_STK_VIEW_3_UNCORR (st % 4) =
      min (rdI s (pgEasel h) R.EZ_STK_VIEW_3_UNCORR (st % 4) + 1) (2 ^ 32 - 1) ∧
    (rd t (pgEasel h) R.EVT_RAW).testBit 12 = true ∧
    (rd s (pgEasel h) R.EZ_ELOG_HEAD % 4096,
      [2 ^ 56 + region * 2 ^ 52 + ezStack a * 2 ^ 48, a, nowH s h, owner]) ∈ (t.place.at h).elog

/-- Light `l` of half `h` is scrubbed, holds no event, and takes one more. -/
def ScrubIdle (s : State) (l : Nat) (h : Half) : Prop :=
  h = lHalf l ∧ rdB s (pgErasure h) R.ER_CTRL_SCRUB_EN = true ∧ takesWork s = true ∧ scrubbable s l = true ∧
    lightBusy s l = false ∧ (s.sched.at h).wait = [] ∧ (s.sched.at h).events.length < schRoom

/-- What GS_TGT names on half `h`: port, station and the covered units. -/
def GessoTarget (s : State) (h : Half) (n stn : Nat) (us : List GUnit) : Prop :=
  rd s (pgErasure h) R.GS_TGT_PORT = n ∧ rd s (pgErasure h) R.GS_TGT_STN = stn ∧
    us = gessoUnits s h n stn (rd s (pgErasure h) R.GS_TGT_UNIT) ∧ pageLive s (pgErasure h) = true

/-- A FIFO of one clock without frames, of capacity `cap`, that holds `f`, every entry of it visible. -/
def PlainFifo (s : State) (r qid cap : Nat) (f : Fifo) : Prop :=
  fifoCap s r qid = some cap ∧ fifoDual qid = false ∧ fifoFramed qid = false ∧ fifoGet s r qid = f ∧ f.pops = [] ∧
    f.ents.all (fun e => e.wait == 0) = true

/-- The level event fires as the depth goes from `d0` to `d1` (R436). -/
def levelFires (lvl d0 d1 : Nat) (armed : Bool) : Prop := armed = true ∧ lvl ≠ 0 ∧ d0 < lvl ∧ lvl ≤ d1

/-- The entries after a cycle (R431). -/
def cycleEnts (cap : Nat) (push : Option FPush) (pop : Bool) (es : List FEnt) : List FEnt :=
  (if pop then es.drop 1 else es) ++
    (match push with
      | some p => if es.length < cap then [⟨p.id, p.first, p.last, 0⟩] else []
      | none => [])

/-- An arbiter of Easel's stacks or of the span outbound. -/
def FreeArb (r aid : Nat) : Prop := (r = 1 ∨ r = 2) ∧ (qType aid = 0x23 ∨ qType aid = 0x24)

/-- Requester `w` may win a decision of arbiter `a` where `asks` says who asks: highest p, then first in turn (R442). -/
def MayWin (r aid : Nat) (a : Arb) (asks : Nat → Bool) (w : Nat) : Prop :=
  w < 8 ∧ (arbCfg r aid w).isSome = true ∧ asks w = true ∧ ∀ q, q < 8 → (arbCfg r aid q).isSome = true → asks q = true →
    (arbReq r aid a q).p ≤ (arbReq r aid a w).p ∧
      ((arbReq r aid a q).p = (arbReq r aid a w).p → (w + 7 - a.last % 8) % 8 ≤ (q + 7 - a.last % 8) % 8)

/-- What a decision for `w` leaves (R443, R444, R447). -/
def Decided (r aid : Nat) (asks : Nat → Bool) (w : Nat) (s t : State) : Prop :=
  (arbGet t r aid).owner = some w ∧ (arbGet t r aid).held = true ∧ (arbGet t r aid).last = w ∧
    (arbReq r aid (arbGet t r aid) w).p = (arbReq r aid (arbGet s r aid) w).base ∧
    (arbReq r aid (arbGet t r aid) w).grants = min ((arbReq r aid (arbGet s r aid) w).grants + 1) (2 ^ 32 - 1) ∧
    (∀ q, q < 8 → (arbCfg r aid q).isSome = true → q ≠ w → (arbReq r aid (arbGet t r aid) q).p =
      (if asks q then min ((arbReq r aid (arbGet s r aid) q).p + 1) (arbReq r aid (arbGet s r aid) q).top
      else (arbReq r aid (arbGet s r aid) q).p)) ∧
    (∀ k, k ≠ qKey r aid → tget {} t.arbs k = tget {} s.arbs k)

/-- What every strike leaves behind at Lantern (R462, R463). -/
def Counted (x : Strike) (s t : State) : Prop :=
  t.strikes.length + 1 = s.strikes.length ∧
    rdI t pgLantern R.LAN_SRC_STAT_STRIKES x.src = (rdI s pgLantern R.LAN_SRC_STAT_STRIKES x.src + 1) % 2 ^ 32 ∧
    (rd t pgLantern (R.LAN_SUMMARY.at (x.src / 64))).testBit (x.src % 64) = true ∧
    rd t pgLantern R.LANTERN_CNT_STRIKE = rd (bump pgLantern R.LANTERN_CNT_STRIKE s) pgLantern R.LANTERN_CNT_STRIKE

/-- The registers that every strike of source `src` touches. -/
def strikeRegs (src : Nat) : List (Nat × Nat) :=
  [(pgLantern, R.LAN_SRC_STAT_STRIKES.off), (pgLantern, (R.LAN_SUMMARY.at (src / 64)).off),
    (pgLantern, R.LANTERN_CNT_STRIKE.off)]

/-- The route of a source has exactly these targets: an MSI-X vector, the fabric, the Keeper. -/
def RouteIs (s : State) (src m f k : Nat) : Prop :=
  rdB s pgLantern R.LAN_CTRL_EN = true ∧ route s src R.LAN_ROUTE_MSIX_EN = m ∧ route s src R.LAN_ROUTE_FAB_EN = f ∧
    route s src R.LAN_ROUTE_KEEP_EN = k

/-- Vector `v` sends now (R464-R466, R474). -/
def sends (s : State) (v : Nat) : Bool :=
  vecState s v == vsDUE && !vecMasked s v && !hostAway s && rdB s pgLantern R.LAN_CTRL_EN

/-- Exactly the vectors `vs` have sent their messages in this order since `s`; only they, their registers, CNT_MSIX and
`ex` have changed. -/
def Sent (vs : List Nat) (ex : List (Nat × Nat)) (s t : State) : Prop :=
  t.out = s.out ++ vs.map (fun v => .msix v) ∧
    (∀ v, vecState t v = (if vs.contains v then vsIDLE else vecState s v)) ∧
    (∀ v, rdI t pgLantern R.LAN_VEC_STAT_COUNT v = (if vs.contains v then 0 else rdI s pgLantern R.LAN_VEC_STAT_COUNT v)) ∧
    RegsKept ((pgLantern, R.LAN_VEC_STAT_STATE.off) :: (pgLantern, R.LANTERN_CNT_MSIX.off) :: ex) s t

/-- The STAGED fields of LL_TUNE (R232). -/
def tuneFlds : List Fld :=
  [R.LL_TUNE_DRIFT_REVS, R.LL_TUNE_LEAD_N_LOG2, R.LL_TUNE_LEAD_DN, R.LL_TUNE_LEAD_UP, R.LL_TUNE_GP, R.LL_TUNE_GT,
    R.LL_TUNE_JUMP_TOL]

/-- The pools of VC0 to VC3 (R84). -/
def poolFlds : List Fld :=
  [R.FIU_VC_POOL_LO_POOL_VC0, R.FIU_VC_POOL_LO_POOL_VC1, R.FIU_VC_POOL_LO_POOL_VC2, R.FIU_VC_POOL_LO_POOL_VC3]

/-- The bits of field `f` in a register's image. -/
def fldBits (f : Fld) (v : Nat) : Nat := bits v (f.lo + f.w - 1) f.lo

/-- A write on path `p` that reaches a live page, in a state in which nothing waits. -/
def Written (s : State) (P off : Nat) (p : Path) : Prop :=
  quiet s = true ∧ pageLive s P = true ∧ pathMayWrite s P off p = true

/-- A write into the shadow of LL_TUNE of which each field's new shadow value is `new` (R497). -/
def Staged (h : Half) (new : Fld → Nat) (s t : State) : Prop :=
  (∀ f ∈ tuneFlds, shadowVal t (f.key (pgLight h) 0) = new f ∧ rd t (pgLight h) f = rd s (pgLight h) f) ∧
    rd t (pgLight h) R.STAT_SHADOW_DIRTY = 1 ∧
    rd t (pgLight h) R.CLASS_STAT_SHADOW_WRITES = min (rd s (pgLight h) R.CLASS_STAT_SHADOW_WRITES + 1) 65535 ∧
    t = { s with regs := t.regs, shadow := t.shadow, woLatch := t.woLatch } ∧
    RegsKept [(pgLight h, R.STAT_SHADOW_DIRTY.off), (pgLight h, R.CLASS_STAT_SHADOW_WRITES.off)] s t

/-- No place stands twice in a list of shadow entries. -/
def PlacesOnce (l : List (RKey × Nat)) : Prop := (l.map (·.1)).Nodup

/-- The page's shadow differs from the values in force at some place, and nothing of it is captured. -/
def ToCapture (s : State) (P : Nat) : Prop :=
  s.captured.any (fun e => e.1.page == P) = false ∧ PlacesOnce s.shadow ∧
    s.shadow.any (fun e => e.1.page == P && e.2 != keyVal s e.1) = true

/-- The bytes from `a` on lie whole within the policy region of a half that is up (R367, R372). -/
def InPolicyRegion (s : State) (a n : Nat) : Prop :=
  ∃ h, halfUp s h = true ∧ ezAddr h 0x100000 ≤ a ∧ a + n ≤ ezAddr h 0x200000

/-- An access of `n` bytes by DP_DATA at DP_ADDR = `a` in space `sp`, with nothing waiting at the data port. -/
def DpAt (s : State) (sp a n : Nat) : Prop :=
  quiet s = true ∧ rd s pgDataPort R.DP_CFG_SPACE = sp ∧ rd s pgDataPort R.DP_ADDR = a ∧ a % n = 0

/-- The registers that a data-port access moves or a failed one writes. -/
def dpRegs : List (Nat × Nat) :=
  [(pgDataPort, R.DP_ADDR.off), (pgDataPort, R.DP_STAT_ERR_VALID.off), (pgDataPort, R.DP_ERR_ADDR.off),
    (pgHost, R.HOST_CNT_DP_ERR.off)] ++ evtRegs pgHost

/-- DP_ADDR has stepped on (R510). -/
def Stepped (s t : State) : Prop :=
  rd t pgDataPort R.DP_ADDR = (rd s pgDataPort R.DP_ADDR + 4 * rd s pgDataPort R.DP_STRIDE) % 2 ^ 64

/-- What a failed access leaves (R513). -/
def DpFailed (code a : Nat) (s t : State) : Prop :=
  rd t pgDataPort R.DP_STAT_ERR_COUNT = min (rd s pgDataPort R.DP_STAT_ERR_COUNT + 1) (2 ^ 32 - 1) ∧
    rd t pgHost R.HOST_CNT_DP_ERR = rd (bump pgHost R.HOST_CNT_DP_ERR s) pgHost R.HOST_CNT_DP_ERR ∧
    (rd t pgHost R.EVT_RAW).testBit 3 = true ∧ rd t pgDataPort R.DP_STAT_ERR_VALID ≠ 0 ∧
    (rdB s pgDataPort R.DP_STAT_ERR_VALID = false →
      rd t pgDataPort R.DP_STAT_ERR_CODE = code ∧ rd t pgDataPort R.DP_ERR_ADDR = a) ∧
    (rdB s pgDataPort R.DP_STAT_ERR_VALID = true →
      rd t pgDataPort R.DP_STAT_ERR_CODE = rd s pgDataPort R.DP_STAT_ERR_CODE ∧
      rd t pgDataPort R.DP_ERR_ADDR = rd s pgDataPort R.DP_ERR_ADDR) ∧
    t.easel = s.easel ∧ t.stage = s.stage ∧ t.apu = s.apu

/-- The bytes of an access of `wide` width. -/
def dpN (wide : Bool) : Nat := if wide then 8 else 4

/-- What resetting the function leaves (R483). -/
def FunctionReset (s t : State) : Prop :=
  tget {} t.results 0 = {} ∧ (∀ q, q ≠ 0 → tget {} t.results q = tget {} s.results q) ∧ t.dp = [] ∧
    (∀ v, v < 64 → vecState t v = vsIDLE ∧ rdI t pgLantern R.LAN_VEC_STAT_COUNT v = 0) ∧
    (∀ f ∈ R.pageDATA_PORT, rd t pgDataPort f = f.rst) ∧
    (∀ f ∈ R.pageHOST, f.off ≠ R.HP_LINK_UP.off → f ≠ R.HOST_CNT_LINK_DOWN → rd t pgHost f = f.rst) ∧
    t.lan = { fab := s.lan.fab, evtq := s.lan.evtq, evtHeld := s.lan.evtHeld } ∧
    (∀ (k : RKey) (d : Nat), k.page ≠ pgHost → k.page ≠ pgDataPort →
      (k.page, k.off) ≠ (pgLantern, R.LAN_VEC_STAT_STATE.off) → tgetBy d t.regs k = tgetBy d s.regs k) ∧
    t = { s with
      regs := t.regs, shadow := t.shadow, captured := t.captured, logs := t.logs, woLatch := t.woLatch, results := t.results
      lan := t.lan, dp := t.dp } ∧
    (∀ P, P ≠ pgHost → P ≠ pgDataPort → tget {} t.logs P = tget {} s.logs P)

/-- The SMBus OFFSET after an access of `n` bytes, and nothing else of the Keeper (R517). -/
def smbStepped (n : Nat) (k : Keeper) : Keeper := { k with smbOff := (k.smbOff + n) % 4096 }

/-- A write by SMBus at byte `o` of the KEEPER page, of `n` bytes of which the register takes `part` (R494, R517). -/
def SmbWritten (o n : Nat) (part : Part) (v : Nat) (s u : State) : Prop :=
  let t := regWrite pgKeeper (o / 8 * 8) part v .smbus s
  u = { t with
    keeper := { smbStepped n t.keeper with
      smbRefused := rd t pgKeeper R.ERRLOG_HEAD != rd s pgKeeper R.ERRLOG_HEAD } }

/-- What taking the balls does to the links (R520). -/
def SignalLost (s u : State) : Prop :=
  (∀ n, n < 16 → (fiuState s n = fsACTIVE ∨ fiuState s n = fsRECOVER ∨ fiuState s n = fsLOWPWR) →
    fiuState u n = fsDOWN ∧ rd u (pgFiu n) R.FIU_LINK_STAT_CAUSE = 1) ∧
  (∀ n, n < 64 → apuLive s n = true → apuState u n = asDOWN ∧ rd u (pgApu n) R.APU_STAT_CAUSE = 1) ∧
  rdB u pgHost R.HP_LINK_UP = false ∧ u.easel = s.easel

/-- A refused command on the proposal: CAUSE and the event, and nothing else (R529). -/
def PrRefused (c : Nat) (s t : State) : Prop :=
  rd t pgProtect R.PR_STAT_CAUSE = c ∧ (rd t pgProtect R.EVT_RAW).testBit 3 = true ∧
    (∀ f ∈ R.pagePROTECT, f ≠ R.PR_STAT_CAUSE → rd t pgProtect f = rd s pgProtect f) ∧
    t = { s with regs := t.regs, strikes := t.strikes, woLatch := t.woLatch } ∧
    RegsKept ([(pgProtect, R.PR_STAT_CAUSE.off)] ++ evtRegs pgProtect) s t

/-- The command comes from a principal other than OPENER while the FM registration is valid. -/
def WrongPrincipal (fm : Bool) (s : State) : Prop :=
  rd s pgProtect R.PR_STAT_OPENER ≠ (if fm then 2 else 1) ∧ rd s pgProtect R.PR_STAT_FM_VALID ≠ 0

/-- KIND of the staged entry is one of R528's and its INDEX is in range. -/
def KindListed (e : List Nat) : Prop := ∃ m, eMaxIndex (eKind e) = some m ∧ eIndex e ≤ m

/-- The proposal has ended with a cause other than a commit: the area is empty, the end is counted and raised, and only
registers `ex` beside those have changed (R535). -/
def PrEnded (cause : Nat) (ex : List (Nat × Nat)) (s t : State) : Prop :=
  (∀ f ∈ [R.PR_STAT_STATE, R.PR_STAT_OPENER, R.PR_STAT_ENTRIES, R.PR_STAT_CONF_SP, R.PR_STAT_CONF_FM, R.PR_DIGEST,
      R.PR_DEADLINE], rd t pgProtect f = 0) ∧
    rd t pgProtect R.PR_STAT_END_CAUSE = cause ∧ t.prot = { s.prot with entries := [], epoch := 0 } ∧
    (rd t pgProtect R.EVT_RAW).testBit 2 = true ∧
    rd t pgProtect R.PROTECT_CNT_EXPIRED = rd (bump pgProtect R.PROTECT_CNT_EXPIRED s) pgProtect R.PROTECT_CNT_EXPIRED ∧
    t = { s with regs := t.regs, prot := t.prot, strikes := t.strikes, woLatch := t.woLatch } ∧
    RegsKept ([(pgProtect, R.PR_STAT_STATE.off), (pgProtect, R.PR_DIGEST.off), (pgProtect, R.PR_DEADLINE.off),
      (pgProtect, R.PROTECT_CNT_EXPIRED.off)] ++ evtRegs pgProtect ++ ex) s t

/-- A refused confirmation: its cause and the event, and nothing else (R533). -/
def ConfRefused (c : Nat) (s t : State) : Prop :=
  rd t pgProtect R.PR_STAT_CONF_CAUSE = c ∧ (rd t pgProtect R.EVT_RAW).testBit 4 = true ∧
    (∀ f ∈ R.pagePROTECT, f ≠ R.PR_STAT_CONF_CAUSE → rd t pgProtect f = rd s pgProtect f) ∧
    t = { s with regs := t.regs, strikes := t.strikes, woLatch := t.woLatch } ∧
    RegsKept ([(pgProtect, R.PR_STAT_CONF_CAUSE.off)] ++ evtRegs pgProtect) s t

/-- A confirmation of SP that R533 accepts, at or before the deadline. -/
def ConfAccepted (s : State) (principal ep : Nat) : Prop :=
  quiet s = true ∧ prState s = 2 ∧ now s ≤ rd s pgProtect R.PR_DEADLINE ∧ principal = 1 ∧ ep = s.prot.epoch ∧
    rd s pgProtect R.PR_CONF_DIGEST = rd s pgProtect R.PR_DIGEST

/-- The GUARDED fields of the pages that entries change (R523). -/
def guardedFlds : List Fld :=
  (R.pagePALETTE ++ R.pageCROSSING ++ R.pageCONTEXTS ++ R.pagePROTECT).filter (fun f => f.cls == .guarded)

/-- The whole proposal has taken effect, and its area is empty (R536). -/
def Committed (es : List (List Nat)) (s u : State) : Prop :=
  (∀ P ∈ [pgPalette .west, pgPalette .east, pgCrossing .west, pgCrossing .east, pgContexts, pgProtect],
    ∀ f ∈ guardedFlds, ∀ i, rdI u P f i = rdI (applyAll es s) P f i) ∧
  u.stnMode = (applyAll es s).stnMode ∧ u.fw = (applyAll es s).fw ∧ u.prot.mkey = (applyAll es s).prot.mkey ∧
  epoch u = (epoch s + 1) % 2 ^ 32 ∧ prState u = 0 ∧ u.prot.entries = [] ∧ rd u pgProtect R.PR_STAT_END_CAUSE = 0 ∧
  (rd u pgProtect R.EVT_RAW).testBit 1 = true ∧
  rd u pgProtect R.PROTECT_CNT_COMMIT = rd (bump pgProtect R.PROTECT_CNT_COMMIT s) pgProtect R.PROTECT_CNT_COMMIT ∧
  (resRoom s 0 1 = true → ResultPushed 0 7 [epoch u] s u) ∧ u.out = s.out ∧ u.pending = s.pending

/-- An MGT request `p` at the head of F[n], and the state once its slots are taken (R75, R538). -/
def MgtIs (s s0 : State) (n k : Nat) (h : Half) (p : Packet) (m : Nat) : Prop :=
  HeadIs s n 5 k h p ∧ p.type = tMGT ∧ p.mop = m ∧ s0 = slotsBack (n, 5, k) (rxTake n 5 k s)

/-- It comes from the registered node with the registered key (R538). -/
def FromFm (s : State) (p : Packet) : Prop :=
  rd s pgProtect R.PR_STAT_FM_VALID ≠ 0 ∧ p.src = rd s pgProtect R.PR_FM_NODE ∧ p.w3 = s.prot.mkey

/-- The seven operations of the emergency path, with their OP (R539). -/
def EmergOps (tg : BitVec 11) (p : Path) (c : Instr) (op : Nat) : Prop :=
  (c = .emergWindowOff tg p ∧ op = 1) ∨ (c = .emergHalfWindowsOff tg p ∧ op = 2) ∨ (c = .emergWrenClear tg p ∧ op = 3) ∨
    (c = .emergPrivSrcOff tg p ∧ op = 4) ∨ (c = .emergInbOff tg p ∧ op = 5) ∨ (c = .emergKeyRangeOff tg p ∧ op = 6) ∨
    (c = .emergAbandon tg p ∧ op = 7)

/-- TARGET's half (R539). -/
def emergHalf (tg : BitVec 11) : Half := if tg.toNat.testBit 10 then .east else .west

/-- What an operation disables (R539). -/
def EmergDone (op : Nat) (tg : BitVec 11) (s t : State) : Prop :=
  (op = 1 → rdI t (pgPalette (emergHalf tg)) R.PAL_WIN_VIEW_2_EN (tg.toNat % 1024) = 0) ∧
    (op = 2 → ∀ w, rdI t (pgPalette (emergHalf tg)) R.PAL_WIN_VIEW_2_EN w = 0) ∧
    (op = 3 → ∀ i, i < 64 → (rd t pgProtect R.PR_ATN_WREN_MASK).testBit i =
      ((rd s pgProtect R.PR_ATN_WREN_MASK).testBit i && !(rd s pgProtect R.PR_EMERG_MASK).testBit i)) ∧
    (op = 4 → rd t (pgPalette (emergHalf tg)) (R.PAL_PRIV_SRC_VALID.at (tg.toNat % 8)) = 0) ∧
    (op = 5 → rdI t (pgCrossing (emergHalf tg)) R.CX_INB_VIEW_EN (tg.toNat % 512) = 0) ∧
    (op = 6 → rdI t pgContexts R.KR_VIEW_0_VALID (tg.toNat % 256) = 0)

/-- Nothing waits and no proposal is sealed, so that a step of the token brings nothing else with it. -/
def TokenAlone (s : State) : Prop := quiet s = true ∧ prState s ≠ 2

/-- Half `h` has been granted the token (R544). -/
def Granted (h : Half) (ex : List (Nat × Nat)) (s t : State) : Prop :=
  rd t pgPrimacy R.PRM_STAT_HOLDER = holderCode (some h) ∧ rd t pgPrimacy R.PRM_LAST_TIME = now s % 2 ^ 64 ∧
    rd t pgPrimacy R.PRIMACY_CNT_GRANT = rd (bump pgPrimacy R.PRIMACY_CNT_GRANT s) pgPrimacy R.PRIMACY_CNT_GRANT ∧
    (rd t pgPrimacy R.EVT_RAW).testBit 0 = true ∧
    (s.keeper.lease.last = some h.twin → (rd t pgPrimacy R.EVT_RAW).testBit 1 = true) ∧
    t.keeper.lease = { s.keeper.lease with
      holder := some h, lastAns := s.clk, last := some h, prefWait := none, prefOver := t.keeper.lease.prefOver
      restore := none, timer := s.keeper.lease.timer.put h (some s.clk), asks := s.keeper.lease.asks.put h none } ∧
    t = { s with
      regs := t.regs, keeper := { s.keeper with lease := t.keeper.lease }, strikes := t.strikes, woLatch := t.woLatch } ∧
    RegsKept ([(pgPrimacy, R.PRM_STAT_HOLDER.off), (pgPrimacy, R.PRM_LAST_TIME.off), (pgPrimacy, R.PRIMACY_CNT_GRANT.off)] ++
      evtRegs pgPrimacy ++ ex) s t

/-- Half `h` asks, its twin does not, and nothing but a holder stands between it and the token (R542-R546). -/
def AsksAlone (s : State) (h : Half) : Prop :=
  s.boot.keeperUp = true ∧ primLost s h = false ∧ (s.keeper.lease.asks.at h).isSome = true ∧
    s.keeper.lease.asks.at h.twin = none ∧ s.keeper.lease.quietFrom = none ∧ s.keeper.lease.restore = none

/-- Half `h`'s lease runs no more. -/
def Lapsed (s : State) (h : Half) : Prop := ∀ t, s.keeper.lease.timer.at h = some t → t + 1000000 ≤ s.clk

/-- The token is sound: one primary at most, and what keeps it so (R542, R544, R547). -/
def TokenSound (s : State) : Prop :=
  ¬ (holds s .west = true ∧ holds s .east = true) ∧
    (∀ h t, s.keeper.lease.timer.at h = some t → t ≤ s.clk) ∧
    (∀ g, s.keeper.lease.holder = some g →
      (∀ t, s.keeper.lease.timer.at g = some t → t ≤ s.keeper.lease.lastAns) ∧ Lapsed s g.twin) ∧
    (s.keeper.lease.holder = none → ∀ h, Lapsed s h ∨
      ∃ q, s.keeper.lease.quietFrom = some q ∧ ∀ t, s.keeper.lease.timer.at h = some t → t ≤ q)

/-- A command of the token, or of the emergency pin. -/
def isTokenCmd : Instr → Bool
  | .leaseRenew _ _ => true
  | .leaseLapse _ => true
  | .primacyGrant _ => true
  | .prefWaitExpiry => true
  | .keeperTmoExpiry _ => true
  | .primacyRestore _ _ => true
  | .restoreWaitExpiry => true
  | .emergAssert => true
  | .emergRelease => true
  | _ => false

/-- The token is sound, nothing waits but commands of the token, and no proposal is sealed. -/
def TokenInv (s : State) : Prop :=
  TokenSound s ∧ TokenAlone s ∧ s.pending.all isTokenCmd = true

/-- A KEEPER page register command that arrives, with nothing waiting (R553). -/
def AtKeeper (s : State) (p : Path) : Prop := quiet s = true ∧ keeperReach s p = true ∧ p ≠ .mgt

/-- The Keeper is up with nothing waiting and no captured edit of its page. -/
def KeeperRuns (s : State) : Prop :=
  quiet s = true ∧ s.boot.keeperUp = true ∧ s.captured.any (fun e => e.1.page == pgKeeper) = false

/-- The device has become ACTIVE for a wake request of cause `c` (R563, R568). -/
def Woken (c : Nat) (s u : State) : Prop :=
  power u = 4 ∧ rd u pgKeeper R.KP_PWR_STAT_TARGET = 4 ∧ rd u pgKeeper R.KP_PWR_STAT_WAKE_CAUSE = c ∧
    rd u pgKeeper R.KP_PWR_STAT_LAST = power s % 8 ∧ (rd u pgKeeper R.EVT_RAW).testBit 0 = true ∧
    (rd u pgKeeper R.EVT_RAW).testBit 2 = true ∧
    rd u pgKeeper R.KEEPER_CNT_WAKE = rd (bump pgKeeper R.KEEPER_CNT_WAKE s) pgKeeper R.KEEPER_CNT_WAKE

/-- Both halves are in reset, with the power state at `st` (R569, R571). -/
def PoweredDown (st : Nat) (u : State) : Prop :=
  power u = st ∧ halfState u .west = hsDOWN ∧ halfState u .east = hsDOWN ∧ (st = 0 → u.boot.mainEn = false)

/-- The line of alarm input `i` as a pass takes it (R555). -/
def lineOf (x : KeeperSample) (s : State) (i : Nat) : Nat :=
  if rdI s pgKeeper R.KP_IN_CFG_INV i = 1 then 1 - bit (x.alarms.toNat.testBit (i - 8)) else bit (x.alarms.toNat.testBit (i - 8))

/-- The input of rule `r` is steadily asserted: line 1, filtered value 1 (R557, R558). -/
def SteadyRule (x : KeeperSample) (s : State) (r i : Nat) : Prop :=
  r < 64 ∧ 8 ≤ i ∧ i < 24 ∧ rdI s pgKeeper R.KP_RULE_0_INPUT r = i ∧ rdI s pgKeeper R.KP_RULE_0_OP r = 2 ∧
    rdI s pgKeeper R.KP_RULE_0_EN r = 1 ∧ (rdI s pgKeeper R.KP_RULE_0_STATES r).testBit (power s) = true ∧
    lineOf x s i = 1 ∧ rdI s pgKeeper R.KP_IN_VIEW_FILT i = 1

/-- The conditions under which the halves may leave reset (R598, R618). -/
def Releasable (s : State) : Prop :=
  s.boot.keeperUp = true ∧ s.boot.supplies = true ∧ s.boot.resetN = true ∧ s.boot.brown = false ∧ 2 ≤ power s

/-- Both halves of `u` have begun step 3 with the reference as `s` has it (R600, R602, R613). -/
def BothBegun (s u : State) : Prop :=
  ∀ h, halfState u h = hsSTARTING ∧ (u.boot.half h).step = 3 ∧
    (u.boot.half h).s3 = (if rdB s pgTimebase R.TB_STAT_REF_OK then 1 else 4) ∧
    (u.boot.half h).apuEn = rd s (pgMgmt h) R.ST_APU_EN_MASK ∧ (u.boot.half h).fiuEn = rd s (pgMgmt h) R.ST_FIU_EN_MASK ∧
    rd u (pgMgmt h) R.MGMT_CNT_START = rd (bump (pgMgmt h) R.MGMT_CNT_START s) (pgMgmt h) R.MGMT_CNT_START

/-- START_FAIL is raised on every MGMT page that lives (R615). -/
def StartFailed (s u : State) : Prop :=
  ∀ g, mgmtUp s g = true → (rd u (pgMgmt g) R.EVT_RAW).testBit 3 = true

/-- A half tests itself with the reference present (R600). -/
def SelfTests (s : State) (h : Half) : Prop :=
  halfState s h = hsSTARTING ∧ (s.boot.half h).step = 3 ∧ (s.boot.half h).s3 = 1 ∧ rdB s pgTimebase R.TB_STAT_REF_OK = true

/-- A half has ended step 5 and stands with code `c`, HALTED, its event raised (R602, R603, R615). -/
def HaltedAt5 (h : Half) (c : Nat) (u : State) : Prop :=
  halfState u h = hsHALTED ∧ (u.boot.half h).s5 = c ∧ (rd u (pgMgmt h) R.EVT_RAW).testBit 4 = true

/-- No write of a half's objects stands with pages that no stripe holds. -/
def NothingToRebuild (s : State) (h : Half) : Prop :=
  s.objs.writes.filter (fun w => decide (w.home = h) && w.ord != 0 && w.pages.any (fun p => !p.settled)) = []

/-- A half has ended step 9 with code `c` (R603, R613, R615). -/
def StartedUp (h : Half) (c : Nat) (s u : State) : Prop :=
  halfState u h = (if s.boot.single = some h then hsSINGLE else hsRUNNING) ∧ (u.boot.half h).step = 9 ∧
    (u.boot.half h).s9 = c ∧ rd u (pgMgmt h) R.ST_READY_TIME = nowH s h ∧ (rd u (pgMgmt h) R.EVT_RAW).testBit 2 = true

/-- Both halves are in reset, and neither holds primacy (R384, R601). -/
def BothReset (s u : State) : Prop :=
  halfState u .west = hsDOWN ∧ halfState u .east = hsDOWN ∧ holds u .west = false ∧ holds u .east = false ∧
    u.boot.keeperUp = s.boot.keeperUp ∧ u.boot.span = false ∧ power u = power s ∧ u.easel = s.easel ∧
    u.boot.recs = s.boot.recs

/-- The Keeper has rebooted while the halves run; the ports that its rules held are not let go yet (R544, R609). -/
def KeeperRestarted (p : StrapPins) (s r : State) : Prop :=
  r.boot.boots = (s.boot.boots + 1) % 65536 ∧ r.keeper.straps = strapsOf p ∧ power r = power s ∧
    r.boot.mainEn = s.boot.mainEn ∧ r.boot.west = s.boot.west ∧ r.boot.east = s.boot.east ∧ r.boot.mode = s.boot.mode ∧
    rd r pgKeeper R.KP_TIME = 0 ∧ rd r pgKeeper R.KP_HOLD_PORTS = 0 ∧ r.keeper.log = [] ∧
    r.keeper.lease.holder = none ∧ r.keeper.lease.timer = s.keeper.lease.timer ∧
    (halfUp s .west = true ∨ halfUp s .east = true → r.keeper.lease.quietFrom = some s.clk) ∧ r.easel = s.easel

/-- The command is dropped with cause 3 (R605). -/
def StartRefused (c : Instr) (pg : Half) (s : State) : Prop :=
  Ends c s (fun t => t = cfgReject (pgMgmt pg) R.ST_CMD_OP.off 3 .live (some .pcie) { s with woLatch := t.woLatch })

/-- A half waits at step 5 for CONTINUE (R602). -/
def WaitsAt5 (s : State) (h : Half) : Prop := halfState s h = hsHALTED ∧ (s.boot.half h).s5 = 4

/-- A half is halted for want of its twin: SPAN_FAIL or PEER_FAILED (R602, R605). -/
def HaltedForTwin (s : State) (h : Half) : Prop :=
  halfState s h = hsHALTED ∧ ((s.boot.half h).s3 = 19 ∨ (s.boot.half h).s5 = 17)

/-- No efficiency interval runs on a half (R266). -/
def NoInterval (s : State) : Prop :=
  rdB s (pgPlace .west) R.PL_EFF_CTRL_RUNNING = false ∧ rdB s (pgPlace .east) R.PL_EFF_CTRL_RUNNING = false

/-- The strike that page `P` sends now. -/
def strikeOf (src P : Nat) (s : State) : Strike := ⟨src, (pageHalf P).getD .west, nowH s ((pageHalf P).getD .west), []⟩

end Sys2Proof.Machine
end

