-- ==== Sys2Proof/Certificates/Slice0/Obligations.lean ====
section
/-!
DEFINITION. The statements about the machine: what each command does and leaves alone, and what holds of every step.
-/
open Sys2Proof Sys2Proof.Machine

/-- O1. The timers and losses of R58 take a fabric link where its table says. 02_hokuken_side.md R58;
02_hokuken_side.md R62; 02_hokuken_side.md R88 -/
def Obligations.FabricTimersMoveTheLink : Prop :=
  ∀ (s : State) (n : Nat), n < 16 →
    (fiuState s n = fsDOWN → Ends (.downWaitExpiry n) s (fun t => fiuState t n = fsTRAIN ∧ LinkFrame n s t)) ∧
    (fiuState s n = fsTRAIN → Ends (.trainNoSignal n) s (FellDown n 1 s)) ∧
    (fiuState s n = fsALIGN → Ends (.alignTimeout n) s (FellDown n 3 s)) ∧
    (fiuState s n = fsINIT → Ends (.initTimeout n) s (FellDown n 5 s)) ∧
    (fiuState s n = fsLOWPWR → Ends (.lowpwrWakeTimeout n) s (FellDown n 4 s)) ∧
    (fiuState s n = fsRECOVER →
      (fiuGet s n).attempts < max 1 (rd s (pgFiu n) R.FIU_LINK_CTRL_RECOVER_LIMIT) →
      Ends (.recoverTimeout n) s (fun t => fiuState t n = fsRECOVER ∧
        (fiuGet t n).attempts = (fiuGet s n).attempts + 1 ∧ t = { s with fiu := t.fiu })) ∧
    (fiuState s n = fsRECOVER →
      max 1 (rd s (pgFiu n) R.FIU_LINK_CTRL_RECOVER_LIMIT) ≤ (fiuGet s n).attempts →
      Ends (.recoverTimeout n) s (FellDown n 7 s)) ∧
    (∀ lane, (fiuState s n = fsACTIVE ∨ fiuState s n = fsRECOVER) →
      (rd s (pgFiu n) R.FIU_LINK_STAT_LANE_MASK).testBit lane = true →
      Ends (.linkSignalLoss n lane) s (FellDown n 1 s)) ∧
    (fiuState s n = fsLOWPWR → Ends (.linkSignalLoss n 0) s (FellDown n 1 s))

/-- O2. EN, RETRAIN, LP_REQ, training and alignment of a fabric port act as R58, R59 and R64 say. 02_hokuken_side.md
R52; 02_hokuken_side.md R58; 02_hokuken_side.md R59; 02_hokuken_side.md R62; 02_hokuken_side.md R64;
02_hokuken_side.md R84 -/
def Obligations.FabricLinkControlsAct : Prop :=
  ∀ (s : State) (n : Nat) (p : Path), n < 16 →
    (pageLive s (pgFiu n) = true → rdB s (pgFiu n) R.FIU_LINK_CTRL_EN = true →
      Ends (.fiuEnWrite n false p) s (fun t => fiuState t n = fsDISABLED ∧ rd t (pgFiu n) R.FIU_LINK_STAT_CAUSE = 8 ∧
        rdB t (pgFiu n) R.FIU_LINK_CTRL_EN = false ∧ (fiuGet t n).held = [] ∧ LinkFrame n s t)) ∧
    (pageLive s (pgFiu n) = true → rdB s (pgFiu n) R.FIU_LINK_CTRL_EN = false → poolsOk s n = true →
      Ends (.fiuEnWrite n true p) s (fun t => fiuState t n = fsDOWN ∧ rdB t (pgFiu n) R.FIU_LINK_CTRL_EN = true ∧
        rd t (pgFiu n) R.FIU_LINK_STAT_CAUSE = rd s (pgFiu n) R.FIU_LINK_STAT_CAUSE ∧ LinkFrame n s t)) ∧
    (pageLive s (pgFiu n) = true → rdB s (pgFiu n) R.FIU_LINK_CTRL_EN = false → poolsOk s n = false →
      Ends (.fiuEnWrite n true p) s (fun t =>
        t = cfgReject (pgFiu n) 0x80 3 .live (some p) { s with woLatch := t.woLatch })) ∧
    (pageLive s (pgFiu n) = true → fiuState s n = fsACTIVE →
      Ends (.fiuRetrain n) s (fun t => fiuState t n = fsRECOVER ∧ (fiuGet t n).attempts = 1 ∧ LinkFrame n s t)) ∧
    (pageLive s (pgFiu n) = true → fiuState s n ≠ fsACTIVE →
      Ends (.fiuRetrain n) s (fun t => t = { s with woLatch := t.woLatch })) ∧
    (∀ v, pageLive s (pgFiu n) = true → fiuState s n ≠ fsLOWPWR →
      Ends (.lpReqWrite n v) s (fun t => rdB t (pgFiu n) R.FIU_LINK_CTRL_LP_REQ = v ∧
        t = { s with regs := t.regs, woLatch := t.woLatch } ∧ RegsKept [(pgFiu n, R.FIU_LINK_CTRL_EN.off)] s t)) ∧
    (pageLive s (pgFiu n) = true → fiuState s n = fsLOWPWR → (fiuGet s n).pmLpi = false →
      Ends (.lpReqWrite n false) s (fun t => fiuState t n = fsACTIVE ∧ LinkFrame n s t)) ∧
    (fiuState s n = fsTRAIN → Ends (.trainComplete n 255) s (fun t => fiuState t n = fsALIGN ∧
      rd t (pgFiu n) R.FIU_LINK_STAT_LANE_MASK = 255 ∧ fiuWidth t n = 8 ∧ LinkFrame n s t)) ∧
    (fiuState s n = fsTRAIN → rdB s (pgFiu n) R.FIU_LINK_CTRL_WIDTH4_OK = true → ∀ lanes, lanes < 255 →
      lanes % 16 = 15 → Ends (.trainComplete n lanes) s (fun t => fiuState t n = fsALIGN ∧
        rd t (pgFiu n) R.FIU_LINK_STAT_LANE_MASK = 15 ∧ fiuWidth t n = 4 ∧ LinkFrame n s t)) ∧
    (fiuState s n = fsTRAIN → rdB s (pgFiu n) R.FIU_LINK_CTRL_WIDTH4_OK = true → ∀ low, low < 15 →
      Ends (.trainComplete n (240 + low)) s (fun t => fiuState t n = fsALIGN ∧
        rd t (pgFiu n) R.FIU_LINK_STAT_LANE_MASK = 240 ∧ fiuWidth t n = 4 ∧ LinkFrame n s t)) ∧
    (fiuState s n = fsTRAIN → ∀ lanes, lanes < 255 →
      (rdB s (pgFiu n) R.FIU_LINK_CTRL_WIDTH4_OK = false ∨ (lanes % 16 ≠ 15 ∧ lanes / 16 ≠ 15)) →
      Ends (.trainComplete n lanes) s (FellDown n 2 s)) ∧
    (fiuState s n = fsALIGN → 64 ≤ (fiuGet s n).alignRun →
      Ends (.alignLock n) s (fun t => fiuState t n = fsINIT ∧ (fiuGet t n).txNext = 0 ∧ (fiuGet t n).expect = 0 ∧
        (fiuGet t n).consumed = [] ∧ (fiuGet t n).crdCum = [] ∧ LinkFrame n s t)) ∧
    (fiuState s n = fsRECOVER → 64 ≤ (fiuGet s n).alignRun →
      Ends (.alignLock n) s (fun t => (fiuGet t n).resume = true ∧ t = { s with fiu := t.fiu }))

/-- O3. A codeword past correction is discarded whole; an in-order good flit is accepted and EXPECT advances.
02_hokuken_side.md R41; 02_hokuken_side.md R43; 02_hokuken_side.md R46; 02_hokuken_side.md R47; 02_hokuken_side.md R58
-/
def Obligations.CodewordsArriveAsTheirFlitsSay : Prop :=
  ∀ (s : State) (n : Nat) (cw : Codeword), n < 16 →
    (16 < cw.symErr → fiuState s n ≠ fsDISABLED → fiuState s n ≠ fsDOWN → fiuState s n ≠ fsTRAIN →
      (fiuState s n = fsACTIVE → (fiuGet s n).uncorrRun < 15) →
      Ends (.codewordReceive n cw) s (fun t => (fiuGet t n).uncorrRun = (fiuGet s n).uncorrRun + 1 ∧
        (fiuGet t n).expect = (fiuGet s n).expect ∧ (fiuGet t n).vcbuf = (fiuGet s n).vcbuf ∧
        (fiuGet t n).held = (fiuGet s n).held ∧ (fiuGet t n).crdCum = (fiuGet s n).crdCum ∧
        t = { s with regs := t.regs, fiu := t.fiu, strikes := t.strikes } ∧
        RegsKept ((pgFiu n, R.FIU_CNT_FEC_UNCORR.off) :: evtRegs (pgFiu n)) s t)) ∧
    (∀ b0 b1 b2 b3, cw.symErr ≤ 16 → fiuState s n = fsACTIVE → cw.slots = [b0, b1, b2, b3] →
      (fiuGet s n).cwNext = some (bits cw.hdr.toNat 63 56) → cw.hdr.toNat.testBit 55 = false →
      cw.hdr.toNat.testBit 50 = false → cw.hdr.toNat.testBit 23 = false → bits cw.hdr.toNat 54 51 = 1 →
      flitOk b0 = true → flitSeq b0 = (fiuGet s n).expect → flitVc b0 < 6 → (fiuGet s n).expect < 4096 →
      (tget [] (fiuGet s n).vcbuf (flitVc b0)).length < poolOf s n (flitVc b0) →
      Ends (.codewordReceive n cw) s (fun t => (fiuGet t n).expect = ((fiuGet s n).expect + 1) % 4096 ∧
        tget [] (fiuGet t n).vcbuf (flitVc b0) = tget [] (fiuGet s n).vcbuf (flitVc b0) ++
          [⟨(fiuGet s n).arrNext, flitHead b0, flitTail b0, flitData b0⟩] ∧
        (fiuGet t n).txq = (fiuGet s n).txq ∧ t = { s with regs := t.regs, fiu := t.fiu } ∧
        RegsKept [(pgFiu n, R.FIU_CNT_FEC_CORR.off)] s t)) ∧
    (fiuState s n = fsDISABLED ∨ fiuState s n = fsDOWN ∨ fiuState s n = fsTRAIN →
      exec (.codewordReceive n cw) s = .next s)

/-- O4. A granted packet goes out as numbered flits that are held; a replay sends the held flits again unchanged.
02_hokuken_side.md R44; 02_hokuken_side.md R48; 02_hokuken_side.md R49; 02_hokuken_side.md R50; 02_hokuken_side.md
R54; 02_hokuken_side.md R67 -/
def Obligations.SendingAndReplayKeepTheFlits : Prop :=
  ∀ (s : State) (n vc : Nat) (q : QPkt) (rest : List QPkt), fiuState s n = fsACTIVE →
    (tget [] (fiuGet s n).txq vc = q :: rest →
      (fiuGet s n).held.length + flitCount q.pkt.len ≤ 1536 → flitCount q.pkt.len ≤ creditAvail (fiuGet s n) vc →
      Ends (.packetSend n vc) s (fun t =>
        t.out = s.out ++ (packetFlits (fiuGet s n).txNext q.pkt).map (fun f => Out.flit n f.1 f.2) ∧
        (fiuGet t n).held = (fiuGet s n).held ++ (packetFlits (fiuGet s n).txNext q.pkt).map (fun f => ⟨f.1, q.id, f.2⟩) ∧
        (fiuGet t n).txNext = ((fiuGet s n).txNext + flitCount q.pkt.len) % 4096 ∧
        tget [] (fiuGet t n).txq vc = rest ∧
        tget 0 (fiuGet t n).consumed vc = (tget 0 (fiuGet s n).consumed vc + flitCount q.pkt.len) % 2048 ∧
        t = { s with fiu := t.fiu, out := t.out })) ∧
    (tget [] (fiuGet s n).txq vc = q :: rest →
      (1536 < (fiuGet s n).held.length + flitCount q.pkt.len ∨ creditAvail (fiuGet s n) vc < flitCount q.pkt.len) →
      Ends (.packetSend n vc) s (fun t => (fiuGet t n).grant = some vc ∧
        tget [] (fiuGet t n).txq vc = q :: rest ∧ t = { s with fiu := t.fiu })) ∧
    (∀ f r, (fiuGet s n).held = f :: r →
      ((fiuGet s n).prevOldest = some f.seq →
        (fiuGet s n).noProg + 1 < max 1 (rd s (pgFiu n) R.FIU_LINK_CTRL_REPLAY_LIMIT)) →
      Ends (.replayTimeout n) s (fun t =>
        t.out = s.out ++ (fiuGet s n).held.map (fun f => Out.flit n f.seq f.bytes) ∧
        (fiuGet t n).held = (fiuGet s n).held ∧ t = { s with regs := t.regs, fiu := t.fiu, out := t.out } ∧
        RegsKept [(pgFiu n, R.FIU_CNT_REPLAY.off)] s t)) ∧
    ((fiuGet s n).held = [] → exec (.replayTimeout n) s = .next s)

/-- O5. An egress mask is stored and re-pins flows; an elapsed FLOW_SETTLE releases its destination from every hold.
02_hokuken_side.md R79; 02_hokuken_side.md R82; 02_hokuken_side.md R89 -/
def Obligations.EgressMasksAndHoldsAct : Prop :=
  (∀ (s : State) (h : Half) (mask : Nat), mask < 256 → pageLive s (pgEgress h) = true →
    Ends (.egrPortMaskWrite h mask) s (fun t => rd t (pgEgress h) R.EGR_PORT_MASK_ELIGIBLE = mask ∧
      (∀ n, (fiuGet t n).held = (fiuGet s n).held ∧ fiuState t n = fiuState s n) ∧
      (eligible t h ≠ eligible s h →
        ((t.egr.at h).changes.map (fun c => (c.old, c.new))) =
          ((s.egr.at h).changes.map (fun c => (c.old, c.new))) ++ [(eligible s h, eligible t h)]) ∧
      t = { s with
        regs := t.regs, fiu := t.fiu, egr := t.egr, strikes := t.strikes, woLatch := t.woLatch } ∧
      RegsKept ((pgEgress h, R.EGR_PORT_MASK_ELIGIBLE.off) :: egrRegs) s t)) ∧
  (∀ (s : State) (h : Half) (dst : Nat),
    Ends (.flowSettleExpiry h dst) s (fun t =>
      (∀ c ∈ (t.egr.at h).changes, dst ∈ c.released) ∧
      (t.egr.at h).changes.length = (s.egr.at h).changes.length ∧
      (∀ n, (fiuGet t n).held = (fiuGet s n).held) ∧
      t = { s with regs := t.regs, fiu := t.fiu, egr := t.egr, strikes := t.strikes } ∧ RegsKept egrRegs s t))

/-- O6. A whole good PW, NPW, RD or AMO goes to the Palette of the half that it names; answers and waits act on read
tags. 02_hokuken_side.md R55; 02_hokuken_side.md R75; 02_hokuken_side.md R76; 02_hokuken_side.md R78 -/
def Obligations.ReceivedPacketsReachTheirPlace : Prop :=
  (∀ (s : State) (n k : Nat) (h : Half) (p : Packet), HeadIs s n 1 k h p → p.type = tPW → inAperture p.addr = false →
    exec (.rxPw n) s = .next (settle (crossArrive h p (n, 1, k) (rxTake n 1 k s)))) ∧
  (∀ (s : State) (n k : Nat) (h : Half) (p : Packet), HeadIs s n 2 k h p → inAperture p.addr = false →
    (p.type = tNPW → exec (.rxNpw n) s = .next (settle (crossArrive h p (n, 2, k) (rxTake n 2 k s)))) ∧
    (p.type = tRD → exec (.rxRd n) s = .next (settle (crossArrive h p (n, 2, k) (rxTake n 2 k s)))) ∧
    (p.type = tAMO → exec (.rxAmo n) s = .next (settle (crossArrive h p (n, 2, k) (rxTake n 2 k s))))) ∧
  (∀ (s : State) (n k : Nat) (h : Half) (p : Packet), HeadIs s n 0 k h p → p.type = tRSP →
    (∀ len o, tget .free (s.tags.at h) p.tag = .out len o → p.status = stComplete → p.len = len →
      exec (.rxRsp n) s = .next (settle (post (.tagDone h o (some p.payload) 0)
        (tagPut h p.tag .free (slotsBack (n, 0, k) (rxTake n 0 k s)))))) ∧
    ((∀ len o, tget .free (s.tags.at h) p.tag ≠ .out len o) →
      exec (.rxRsp n) s = .next (settle (raise (pgFiu n) 6 (slotsBack (n, 0, k) (rxTake n 0 k s)))))) ∧
  (∀ (s : State) (h : Half) (t : Nat),
    (∀ len o, tget .free (s.tags.at h) t = .out len o →
      exec (.rspTimeout h t) s = .next (settle (post (.tagDone h o none 0x100)
        (tagPut h t .quar (raise (pgEgress h) 1 s))))) ∧
    (quiet s = true → (∀ len o, tget .free (s.tags.at h) t ≠ .out len o) → exec (.rspTimeout h t) s = .next s) ∧
    (quiet s = true → tget .free (s.tags.at h) t = .quar → exec (.tagQuarantineEnd h t) s = .next (tagPut h t .free s)) ∧
    (quiet s = true → tget .free (s.tags.at h) t ≠ .quar → exec (.tagQuarantineEnd h t) s = .next s))

/-- O7. Every packet of R68 comes back from its flits: numbering, HEAD, TAIL, CRC and all header fields included.
02_hokuken_side.md R42; 02_hokuken_side.md R43; 02_hokuken_side.md R67; 02_hokuken_side.md R68; 02_hokuken_side.md
R69; 02_hokuken_side.md R72 -/
def Obligations.PacketsSurviveTheirFlits : Prop :=
  ∀ (p : Packet) (seq : Nat), PacketFits p →
    (packetFlits seq p).length = flitCount p.len ∧
    (∀ (i : Nat) (f : Nat × List Byte), (packetFlits seq p)[i]? = some f →
      f.2.length = 128 ∧ flitOk f.2 = true ∧ f.1 = (seq + i) % 4096 ∧ flitSeq f.2 = (seq + i) % 4096 ∧
      flitVc f.2 = vcOfType p.type ∧ flitHead f.2 = decide (i = 0) ∧
      flitTail f.2 = decide (i + 1 = flitCount p.len)) ∧
    Packet.ofBytes (((packetFlits seq p).map (fun f => flitData f.2)).flatten) = p

/-- O8. The timers of DOWN and TRAIN and TRAIN_START take an Atnen port where R97 says. 03_atnen_side.md R97;
03_atnen_side.md R98; 03_atnen_side.md R125; 03_atnen_side.md R126 -/
def Obligations.AtnenTrainingTimersAct : Prop :=
  ∀ (s : State) (n : Nat), n < 64 →
    (apuState s n = asTRAIN → Ends (.atnTrainNoSignal n) s (TrainFailed n 1 s)) ∧
    (apuState s n = asTRAIN → 0 < (lockedLanes (apuGet s n)).length → (lockedLanes (apuGet s n)).length < 8 →
      Ends (.atnLockTimeout n) s (TrainFailed n 2 s)) ∧
    (apuState s n = asTRAIN → lockedLanes (apuGet s n) = [] → Ends (.atnLockTimeout n) s (TrainFailed n 3 s)) ∧
    (apuState s n ≠ asTRAIN → exec (.atnTrainNoSignal n) s = .next s ∧ exec (.atnLockTimeout n) s = .next s) ∧
    (apuState s n = asDOWN → rdB s (pgApu n) R.APU_CTRL_AUTO_TRAIN = true →
      Ends (.autoTrainExpiry n) s (TrainBegun n s)) ∧
    (apuState s n = asDOWN → rdB s (pgApu n) R.APU_CTRL_AUTO_TRAIN = false → exec (.autoTrainExpiry n) s = .next s) ∧
    (pageLive s (pgApu n) = true → apuState s n = asDOWN → Ends (.trainStart n) s (TrainBegun n s)) ∧
    (pageLive s (pgApu n) = true → apuState s n ≠ asDOWN →
      Ends (.trainStart n) s (fun t => t = { s with woLatch := t.woLatch }))

/-- O9. EN, HOLD, ENUM_START, the ENUM timeout and the losses of R97 each take an Atnen port to the state of the
table. 03_atnen_side.md R97; 03_atnen_side.md R99; 03_atnen_side.md R105; 03_atnen_side.md R126 -/
def Obligations.AtnenPortsEnterAndLeave : Prop :=
  ∀ (s : State) (n : Nat), n < 64 →
    (apuState s n = asENUM → exec (.enumTimeout n) s = .next (settle (apuDown n (some 6) s))) ∧
    (apuState s n ≠ asENUM → exec (.enumTimeout n) s = .next s) ∧
    (apuLive s n = true → exec (.parityError n) s = .next (settle (apuDown n (some 4) s))) ∧
    (apuLive s n = true → exec (.atnSignalLoss n) s = .next (settle (apuDown n (some 1) s))) ∧
    (apuLive s n = false → exec (.parityError n) s = .next s ∧ exec (.atnSignalLoss n) s = .next s) ∧
    (pageLive s (pgApu n) = true → apuState s n ≠ asDISABLED →
      ∃ l, exec (.apuEnWrite n false) s = .next (settle (apuSetState n asDISABLED (wr (pgApu n) R.APU_STAT_CAUSE 8
        (wr (pgApu n) R.APU_CTRL_EN 0 { s with woLatch := l }))))) ∧
    (pageLive s (pgApu n) = true → apuState s n = asDISABLED → apuHeldNow s n = false → quiet s = true →
      Ends (.apuEnWrite n true) s (fun t => apuState t n = asDOWN ∧ rdB t (pgApu n) R.APU_CTRL_EN = true ∧
        rd t (pgApu n) R.APU_STAT_CAUSE = rd s (pgApu n) R.APU_STAT_CAUSE ∧
        t = { s with regs := t.regs, strikes := t.strikes, woLatch := t.woLatch })) ∧
    (pageLive s (pgApu n) = true → apuState s n = asDOWN ∨ apuState s n = asTRAIN → quiet s = true →
      Ends (.apuHoldWrite n true) s (fun t => apuState t n = asHELD ∧ rd t (pgApu n) R.APU_STAT_CAUSE = 9 ∧
        rdB t (pgApu n) R.APU_CTRL_HOLD = true ∧ t = { s with regs := t.regs, woLatch := t.woLatch })) ∧
    (pageLive s (pgApu n) = true → apuState s n = asHELD → (rd s pgKeeper R.KP_HOLD_PORTS).testBit n = false →
      quiet s = true →
      Ends (.apuHoldWrite n false) s (fun t => apuState t n = asDOWN ∧ rdB t (pgApu n) R.APU_CTRL_HOLD = false ∧
        rd t (pgApu n) R.APU_STAT_CAUSE = rd s (pgApu n) R.APU_STAT_CAUSE ∧
        t = { s with regs := t.regs, strikes := t.strikes, woLatch := t.woLatch })) ∧
    (pageLive s (pgApu n) = true → apuState s n = asACTIVE →
      ∃ l, exec (.enumStart n) s = .next (settle (apuEnum n { s with woLatch := l })))

/-- O10. TRN words lengthen a lane's run; ENUM_END asks for every header; an empty chain ends ACTIVE with its result.
03_atnen_side.md R98; 03_atnen_side.md R105; 03_atnen_side.md R106; 03_atnen_side.md R108; 03_atnen_side.md R113;
03_atnen_side.md R130 -/
def Obligations.AtnenTrainingAndNumberingRecord : Prop :=
  (∀ (s : State) (n lane : Nat) (w : LaneWord), apuState s n = asTRAIN → lane < 9 → quiet s = true →
    (w.c = true → wCode w.d.toNat = 14 → w.d.toNat.testBit 22 = false → (tget (0, 0) (apuGet s n).trn lane).1 ≠ 0 →
      bits w.d.toNat 15 0 = ((tget (0, 0) (apuGet s n).trn lane).2 + 1) % 65536 →
      Ends (.trnWordReceive n lane true w) s (fun t =>
        tget (0, 0) (apuGet t n).trn lane = ((tget (0, 0) (apuGet s n).trn lane).1 + 1, bits w.d.toNat 15 0) ∧
        t = { s with apu := t.apu })) ∧
    Ends (.trnWordReceive n lane false w) s (fun t => (tget (0, 0) (apuGet t n).trn lane).1 = 0 ∧
      t = { s with apu := t.apu })) ∧
  (∀ (s : State) (n c : Nat) (w : BitVec 32), apuState s n = asENUM → (apuGet s n).enumEnd = false →
    bits w.toNat 4 0 = c → c ≤ 16 → w.toNat.testBit 5 = false →
    Ends (.enumEnd n w) s (fun t => rd t (pgApu n) R.APU_STAT_STN_COUNT = c ∧ (apuGet t n).enumEnd = true ∧
      (apuGet t n).stations.length = c ∧
      (apuGet t n).mgmt = (apuGet s n).mgmt ++ (List.range c).map (fun i => ⟨txRD, i, 6, 15, 0, [], .hdr i⟩) ∧
      t = { s with regs := t.regs, apu := t.apu } ∧ RegsKept [(pgApu n, R.APU_STAT_STN_COUNT.off)] s t)) ∧
  (∀ (s : State) (n : Nat), n < 64 → apuState s n = asENUM → (apuGet s n).enumEnd = true → (apuGet s n).stations = [] →
    (apuGet s n).prevSerials = [] → (s.sched.at (aHalf n)).streams = [] → (tget {} s.results (resOf (aHalf n))).words = [] →
    ∃ u, exec (.enumDone n) s = .next (settle u) ∧ apuState u n = asACTIVE ∧
      (rd u (pgApu n) R.EVT_RAW).testBit 2 = true ∧
      (tget {} u.results (resOf (aHalf n))).words.map (·.payload) =
        [1, (n * 2 ^ 50 + rd s (pgApu n) R.APU_STAT_STN_COUNT * 2 ^ 45 + rd s (pgApu n) R.APU_STAT_ENUM_OVER * 2 ^ 44) %
          2 ^ 56])

/-- O11. Lane steering goes on at a match and ends at an abort as R103 and R104 order; FLOW and LANE words set their
bits. 03_atnen_side.md R100; 03_atnen_side.md R103; 03_atnen_side.md R104 -/
def Obligations.LaneSteeringStepsInTurn : Prop :=
  ∀ (s : State) (n : Nat), quiet s = true →
    ((apuGet s n).steerAns = true → rxSteer s n = ssMIRROR →
      ∃ u, exec (.steerMatch n) s = .next (settle u) ∧ rxSteer u n = ssSWAPPED ∧ rxLane u n = rxLane s n ∧
        u.mail = [.steer n 1] ∧ u.out = s.out ++ [.atn n [(true, laneWord 3 (rxLane s n))]] ∧
        u = { s with regs := u.regs, apu := u.apu, out := u.out, mail := u.mail } ∧
        RegsKept [(pgApu n, R.APU_STEER_RX_STATE.off)] s u) ∧
    ((apuGet s n).steerAns = true → rxSteer s n = ssRESTORE →
      ∃ u, exec (.steerMatch n) s = .next (settle u) ∧ rxSteer u n = ssNONE ∧ u.mail = [.steer n 2] ∧
        u.out = s.out ++ [.atn n [(true, laneWord 6 (rxLane s n))]] ∧
        RegsKept [(pgApu n, R.APU_STEER_RX_STATE.off), (pgApu n, R.APU_CNT_STEER.off)] s u) ∧
    (∀ c ∈ [Instr.steerTimeout n, Instr.steerParityError n],
      (rxSteer s n = ssMIRROR →
        ∃ u, exec c s = .next (settle u) ∧ rxSteer u n = ssNONE ∧ u.mail = [.steer n 0] ∧
          u.out = s.out ++ [.atn n [(true, laneWord 6 (rxLane s n))]] ∧ (rd u (pgApu n) R.EVT_RAW).testBit 8 = true) ∧
      (rxSteer s n = ssSWAPPED →
        ∃ u, exec c s = .next (settle u) ∧ rxSteer u n = ssRESTORE ∧ u.mail = [.steer n 0] ∧
          u.out = s.out ++ [.atn n [(true, laneWord 4 (rxLane s n))]] ∧ (rd u (pgApu n) R.EVT_RAW).testBit 8 = true) ∧
      (rxSteer s n = ssNONE → exec c s = .next s)) ∧
    (∀ w : BitVec 32, apuLive s n = true →
      (w.toNat.testBit 26 = false →
        Ends (.flowReceive n w) s (fun t => rdB t (pgApu n) R.APU_STAT_RX_HOP_OFF = w.toNat.testBit 27 ∧
          t = { s with regs := t.regs })) ∧
      (w.toNat.testBit 26 = true → rd s (pgApu n) R.APU_STAT_STN_OFF < 65536 →
        Ends (.flowReceive n w) s (fun t =>
          (rd t (pgApu n) R.APU_STAT_STN_OFF).testBit (bits w.toNat 25 22) = w.toNat.testBit 27 ∧
          (∀ j, j ≠ bits w.toNat 25 22 → j < 16 →
            (rd t (pgApu n) R.APU_STAT_STN_OFF).testBit j = (rd s (pgApu n) R.APU_STAT_STN_OFF).testBit j) ∧
          t = { s with regs := t.regs })) ∧
      (bits w.toNat 27 25 = 2 → rxSteer s n = ssMIRROR →
        Ends (.laneReceive n w) s (fun t => (apuGet t n).steerAns = true ∧ t = { s with apu := t.apu })) ∧
      (bits w.toNat 27 25 = 1 → rd s (pgApu n) R.APU_STEER_TX_STATE = ssNONE →
        Ends (.laneReceive n w) s (fun t => rd t (pgApu n) R.APU_STEER_TX_STATE = ssMIRROR ∧
          rd t (pgApu n) R.APU_STEER_TX_LANE = bits w.toNat 24 21 ∧
          t.out = s.out ++ [.atn n [(true, laneWord 2 (bits w.toNat 24 21))]] ∧
          t = { s with regs := t.regs, out := t.out })))

/-- O12. Each kind of word that a station sends, whole with its follow words and payload, has its own effect and no
other. 03_atnen_side.md R94; 03_atnen_side.md R95; 03_atnen_side.md R112; 03_atnen_side.md R116; 03_atnen_side.md
R117; 03_atnen_side.md R118; 03_atnen_side.md R120; 03_atnen_side.md R121 -/
def Obligations.StationWordsReachTheirHandlers : Prop :=
  ∀ (s : State) (n : Nat) (w : BitVec 32), apuLive s n = true → intHeld s n = false →
    (∀ a b, wCode w.toNat = 6 → bits w.toNat 16 14 < 3 →
      exec (.atnRxBeacon n w (payloadOf [a, b])) s = .next (settle
        (beacon n (bits w.toNat 27 24) (bits w.toNat 23 17) (bits w.toNat 16 14) (bits w.toNat 13 0 * 2 ^ 32 + a.toNat)
          b.toNat s))) ∧
    (∀ v, wCode w.toNat = 8 →
      exec (.atnRxVerify n w (payloadOf [v])) s = .next (settle (verifyWord n (bits w.toNat 16 13) v.toNat s))) ∧
    (wCode w.toNat = 5 → exec (.atnRxInt n w []) s = .next (settle (rxInt n w.toNat s))) ∧
    (∀ a, wCode w.toNat = 9 → bits w.toNat 23 20 = 1 →
      dpCovers s n (bits w.toNat 27 24) (bits w.toNat 11 8 * 2 ^ 32 + a.toNat) = false →
      exec (.atnRxWrErr n w (payloadOf [a])) s = .next (settle
        (wrErr n (bits w.toNat 27 24) (bits w.toNat 7 0) (bits w.toNat 11 8 * 2 ^ 32 + a.toNat) false s))) ∧
    (∀ l, wCode w.toNat = 9 → bits w.toNat 23 20 = 2 → lightOf s n (bits w.toNat 27 24) (bits w.toNat 19 13) = some l →
      strOfLight s l = none →
      exec (.atnRxUnitState n w []) s = .next (settle (unitStateTo l (bits w.toNat 3 0) s))) ∧
    (wCode w.toNat = 9 → bits w.toNat 23 20 = 3 → quiet s = true →
      exec (.atnRxStationFault n w []) s = .next (raise (pgApu n) 11 s)) ∧
    (∀ ps : List (BitVec 32), wCode w.toNat = 4 →
      (bits w.toNat 11 9 = 0 ∧ ps.length = bits w.toNat 17 12 + 1 ∨ bits w.toNat 11 9 ≠ 0 ∧ ps = []) →
      exec (.atnRxRsp n w (payloadOf ps)) s = .next (settle (rxRsp n w.toNat (payloadBytes ps) s))) ∧
    (∀ (a : BitVec 32) (ps : List (BitVec 32)), wCode w.toNat = 3 → bits w.toNat 27 25 = txWR →
      ps.length = bits w.toNat 14 9 + 1 →
      exec (.atnRxTxnWr n w (payloadOf (a :: ps))) s = .next (settle
        (inbWrite n (bits w.toNat 24 21) (bits w.toNat 8 5) (bits w.toNat 4 1 * 2 ^ 32 + a.toNat) (payloadBytes ps)
          (bump (pgApu n) R.APU_CNT_TXN_RX s))))

/-- O13. A late read fails and its number is quarantined, a quarantine ends, TSYNC carries the timebase, TSYNC_EN is
stored. 03_atnen_side.md R113; 03_atnen_side.md R119; 03_atnen_side.md R126; 06_light_list_and_angle_time.md R207 -/
def Obligations.AtnenTimesAndSyncAct : Prop :=
  ∀ (s : State) (n : Nat),
    (∀ stn tn r, (apuGet s n).reads.find? (fun r => r.stn == stn && r.tn == tn) = some r → isLockRd s n r = false →
      exec (.atnRdTimeout n stn tn) s = .next (settle (readFailed n r cRD_TIMEOUT (quarantine n r (dropRead n r
        (raise (pgApu n) 6 (bump (pgApu n) R.APU_CNT_RD_TMO s))))))) ∧
    (∀ stn tn, (apuGet s n).reads.find? (fun r => r.stn == stn && r.tn == tn) = none → quiet s = true →
      exec (.atnRdTimeout n stn tn) s = .next s) ∧
    (∀ stn tn, Ends (.tnQuarantineEnd n stn tn) s (fun t =>
      (∀ x, x ∈ (apuGet t n).quar ↔ x ∈ (apuGet s n).quar ∧ x ≠ (stn, tn)) ∧
      (apuGet t n).reads = (apuGet s n).reads ∧ t = { s with apu := t.apu })) ∧
    (apuLive s n = true → rdB s (pgApu n) R.APU_CTRL_TSYNC_EN = true → rdB s (pgApu n) R.APU_STAT_RX_HOP_OFF = false →
      exec (.tsyncSend n) s = .next { s with
        out := s.out ++ [.atn n [(true, 0x78000000), (false, nowH s (aHalf n) / 2 ^ 32 % 2 ^ 32),
          (false, nowH s (aHalf n) % 2 ^ 32)]] }) ∧
    (apuLive s n = false ∨ rdB s (pgApu n) R.APU_CTRL_TSYNC_EN = false ∨ rdB s (pgApu n) R.APU_STAT_RX_HOP_OFF = true →
      exec (.tsyncSend n) s = .next s) ∧
    (pageLive s (pgApu n) = true →
      Ends (.tsyncEnWrite n true) s (fun t => rdB t (pgApu n) R.APU_CTRL_TSYNC_EN = true ∧
        t = { s with regs := t.regs, woLatch := t.woLatch } ∧ RegsKept [(pgApu n, R.APU_CTRL_EN.off)] s t) ∧
      ∃ l, exec (.tsyncEnWrite n false) s = .next (settle (portReacquire n (wr (pgApu n) R.APU_CTRL_TSYNC_EN 0
        { s with woLatch := l }))))

/-- O14. A probe pushes the window chosen, W1C clears halt bits, EN is stored, and a log TAIL moves only inside its
range. 04_palette_windows.md R135; 04_palette_windows.md R156; 04_palette_windows.md R158; 04_palette_windows.md R159;
05_crossing_rules.md R195 -/
def Obligations.PaletteControlsAct : Prop :=
  ∀ (s : State) (h : Half),
    (∀ a, pageLive s (pgPalette h) = true → (tget {} s.results (resOf h)).words.length < 4096 →
      Ends (.palProbe h a) s (fun t =>
        (tget {} t.results (resOf h)).words.map (·.payload) = (tget {} s.results (resOf h)).words.map (·.payload) ++
          [match winLookup s h a with
            | some w => 2 ^ 55 + w % 1024
            | none => 0] ∧
        t = { s with
          regs := t.regs, results := t.results, strikes := t.strikes, woLatch := t.woLatch } ∧
        RegsKept (evtRegs (pgMgmt h)) s t)) ∧
    (∀ i mask, i < 16 → pageLive s (pgPalette h) = true →
      Ends (.palHaltClear h i mask) s (fun t =>
        (∀ j, j < 64 → (rd t (pgPalette h) (R.PAL_HALT.at i)).testBit j =
          ((rd s (pgPalette h) (R.PAL_HALT.at i)).testBit j && !mask.toNat.testBit j)) ∧
        t = { s with regs := t.regs, woLatch := t.woLatch } ∧
        RegsKept [(pgPalette h, (R.PAL_HALT.at i).off)] s t)) ∧
    (∀ en, pageLive s (pgPalette h) = true →
      Ends (.palCtrlEnWrite h en) s (fun t => rdB t (pgPalette h) R.PAL_CTRL_EN = en ∧
        t = { s with regs := t.regs, woLatch := t.woLatch } ∧ RegsKept [(pgPalette h, R.PAL_CTRL_EN.off)] s t)) ∧
    (∀ v : BitVec 32, pageLive s (pgCrossing h) = true →
      Ends (.cxPwlogTailWrite h v) s (fun t =>
        rd t (pgCrossing h) R.CX_PWLOG_TAIL =
          (if tailOk (rd s (pgCrossing h) R.CX_PWLOG_HEAD) v.toNat 4096 then v.toNat else rd s (pgCrossing h) R.CX_PWLOG_TAIL) ∧
        t = { s with regs := t.regs, woLatch := t.woLatch } ∧ RegsKept [(pgCrossing h, R.CX_PWLOG_TAIL.off)] s t)) ∧
    (∀ v : BitVec 32, pageLive s (pgCrossing h) = true →
      Ends (.cxFarlogTailWrite h v) s (fun t =>
        rd t (pgCrossing h) R.CX_FARLOG_TAIL =
          (if tailOk (rd s (pgCrossing h) R.CX_FARLOG_HEAD) v.toNat 1024 then v.toNat else rd s (pgCrossing h) R.CX_FARLOG_TAIL) ∧
        t = { s with regs := t.regs, woLatch := t.woLatch } ∧ RegsKept [(pgCrossing h, R.CX_FARLOG_TAIL.off)] s t))

/-- O15. WR_HOLD frees a sent write, a late or overlong lock is broken, and an INT word goes once its writes are
acknowledged. 05_crossing_rules.md R165; 05_crossing_rules.md R173; 05_crossing_rules.md R181; 05_crossing_rules.md
R182; 05_crossing_rules.md R183; 05_crossing_rules.md R191 -/
def Obligations.CrossingHoldsAndLocksEnd : Prop :=
  (∀ (s : State) (h : Half) (id : Nat) (a : Access), accGet s h id = some a → a.holdFrom.isSome = true →
    (a.pkt.type ≠ tNPW ∨ a.answered = true →
      exec (.wrHoldExpiry h id) s = .next (settle (crossSettle h (accDrop h id s)))) ∧
    (a.pkt.type = tNPW → a.answered = false →
      exec (.wrHoldExpiry h id) s = .next (settle (crossSettle h (sendPkt h (mkRSP a.pkt stComplete []) (accDrop h id s))))) ∧
    accGet (accDrop h id s) h id = none ∧ (∀ j, j ≠ id → accGet (accDrop h id s) h j = accGet s h j)) ∧
  (∀ (s : State) (h : Half) (id : Nat), quiet s = true →
    (accGet s h id = none ∨ ∃ a, accGet s h id = some a ∧ a.holdFrom = none) →
    exec (.wrHoldExpiry h id) s = .next s) ∧
  (∀ (s : State) (n : Nat),
    exec (.lockTimeout n) s = .next (settle (lockBreak n cLOCK_TMO s)) ∧
    (schedWaiting s n = true → exec (.lockBudgetBreak n) s = .next (settle (lockBreak n cLOCK_BUDGET s))) ∧
    (schedWaiting s n = false → exec (.lockBudgetBreak n) s = .next s) ∧
    ((apuGet s n).lock = none → quiet s = true → exec (.lockTimeout n) s = .next s)) ∧
  (∀ (s : State) (n : Nat) (i : IntWait) (r : List IntWait), (apuGet s n).ints = i :: r →
    i.needs.all (fun id => !pktOpen s id) = true →
    exec (.intRelease n) s = .next (intRelease n i.word i.time (apuMod n (fun p => { p with ints := r }) s))) ∧
  (∀ (s : State) (n : Nat), (apuGet s n).ints = [] → exec (.intRelease n) s = .next s)

/-- O16. A run of bytes is split into Atnen writes that cover every byte once, in order, within their 256-byte blocks.
04_palette_windows.md R141; 04_palette_windows.md R142; 03_atnen_side.md R111 -/
def Obligations.WriteSplitsLoseNoByte : Prop :=
  ∀ (a : Nat) (d : List Byte),
    ((splitWr (d.length + 1) a d).map partBytes).flatten = (List.range d.length).map (fun i => (a + i, (d[i]?).getD 0)) ∧
    ∀ p ∈ splitWr (d.length + 1) a d, p.ty = txWR ∧ p.addr % 4 = 0 ∧ 1 ≤ p.words ∧ p.words ≤ 64 ∧
      p.data.length = 4 * p.words ∧ 0 < p.be ∧ p.be < 16 ∧ p.addr / 256 = (p.addr + 4 * p.words - 1) / 256 ∧
      (1 < p.words → p.be = 15)

/-- O17. The byte order of a DI window reverses each element and undoes itself, and the atomics compute what R70 says.
04_palette_windows.md R147; 04_palette_windows.md R148; 02_hokuken_side.md R70; 04_palette_windows.md R153 -/
def Obligations.ElementsReverseTwice : Prop :=
  (∀ k o, k ≤ 3 → byteMap (2 ^ k) o / 2 ^ k = o / 2 ^ k ∧ byteMap (2 ^ k) o % 2 ^ k = 2 ^ k - 1 - o % 2 ^ k ∧
    byteMap (2 ^ k) (byteMap (2 ^ k) o) = o) ∧
  (∀ o, byteMap 0 o = o) ∧
  (∀ (n old x y : Nat), n = 4 ∨ n = 8 → old < 2 ^ (8 * n) → x < 2 ^ (8 * n) → y < 2 ^ (8 * n) →
    amoOp 0 n old (leBytes n x) = (old + x) % 2 ^ (8 * n) ∧
    amoOp 1 n old (leBytes n x) = x ∧
    amoOp 2 n old (leBytes n x ++ leBytes n y) = (if old = x then y else old) ∧
    amoOp 3 n old (leBytes n x) = old &&& x ∧
    amoOp 4 n old (leBytes n x) = old ||| x ∧
    amoOp 5 n old (leBytes n x) = old ^^^ x)

/-- O18. A silent LIT disc light drifts, a light too long in DRIFT reacquires, and HOLD and EN of the Light List are
obeyed. 06_light_list_and_angle_time.md R206; 06_light_list_and_angle_time.md R207; 06_light_list_and_angle_time.md
R214; 06_light_list_and_angle_time.md R221; 06_light_list_and_angle_time.md R232 -/
def Obligations.LightsLoseAndSeekTheirPhase : Prop :=
  ∀ (s : State) (l : Nat), l < 16384 →
    (lightState s l = lsLIT → isDisc s l = true →
      Ends (.lightIndexTimeout l) s (fun t => lightState t l = lsDRIFT ∧ (rd t (pgL l) R.EVT_RAW).testBit 1 = true ∧
        (∀ m, m ≠ l → lightState t m = lightState s m) ∧ t = { s with regs := t.regs, strikes := t.strikes } ∧
        RegsKept ((pgL l, R.LL_VIEW_0_STATE.off) :: evtRegs (pgL l)) s t)) ∧
    (lightState s l ≠ lsLIT ∨ isDisc s l = false → exec (.lightIndexTimeout l) s = .next s) ∧
    (lightState s l = lsDRIFT → (∀ e ∈ (s.sched.at (lHalf l)).events, e.light ≠ l) → quiet s = true →
      Ends (.driftRevsExpiry l) s (fun t => lightState t l = lsACQUIRE ∧ (lgt t l).period = 0 ∧ (lgt t l).first = none ∧
        rd t (pgL l) R.LIGHT_CNT_REACQUIRE = rd (bump (pgL l) R.LIGHT_CNT_REACQUIRE s) (pgL l) R.LIGHT_CNT_REACQUIRE ∧
        t = { s with regs := t.regs, strikes := t.strikes, lights := t.lights } ∧
        RegsKept ((pgL l, R.LL_VIEW_0_STATE.off) :: (pgL l, R.LIGHT_CNT_REACQUIRE.off) :: evtRegs (pgL l)) s t)) ∧
    (lightState s l ≠ lsDRIFT → exec (.driftRevsExpiry l) s = .next s) ∧
    (pageLive s (pgL l) = true →
      Ends (.llHoldWrite l true) s (fun t => rdBI t (pgL l) R.LL_VIEW_6_HOLD l = true ∧
        (∀ m, m ≠ l → rdBI t (pgL l) R.LL_VIEW_6_HOLD m = rdBI s (pgL l) R.LL_VIEW_6_HOLD m) ∧
        t = { s with regs := t.regs, woLatch := t.woLatch } ∧ RegsKept [(pgL l, R.LL_VIEW_6_HOLD.off)] s t) ∧
      Ends (.llHoldWrite l false) s (fun t => rdBI t (pgL l) R.LL_VIEW_6_HOLD l = false ∧
        (∀ e ∈ (s.sched.at (lHalf l)).events, e.light ≠ l ∨ e.st ≠ .held → e ∈ (t.sched.at (lHalf l)).events) ∧
        (lightState s l = lsLIT → ∀ e ∈ (t.sched.at (lHalf l)).events, e.light = l → e.st ≠ .held) ∧
        t = { s with regs := t.regs, woLatch := t.woLatch, sched := t.sched } ∧
        RegsKept [(pgL l, R.LL_VIEW_6_HOLD.off)] s t)) ∧
    (∀ h, pageLive s (pgLight h) = true → halfLights s h = [] → quiet s = true →
      Ends (.llCtrlEnWrite h false) s (fun t => rdB t (pgLight h) R.LL_CTRL_EN = false ∧
        t = { s with regs := t.regs, woLatch := t.woLatch } ∧ RegsKept [(pgLight h, R.LL_CTRL_EN.off)] s t) ∧
      Ends (.llCtrlEnWrite h true) s (fun t => rdB t (pgLight h) R.LL_CTRL_EN = true ∧
        t = { s with regs := t.regs, woLatch := t.woLatch } ∧ RegsKept [(pgLight h, R.LL_CTRL_EN.off)] s t))

/-- O19. TB_SET sets both copies or is refused while a scheduler runs; subscriptions send one record or refuse an
alien node. 06_light_list_and_angle_time.md R211; 06_light_list_and_angle_time.md R229;
06_light_list_and_angle_time.md R230; 06_light_list_and_angle_time.md R231; 15_register_pages_and_host_port.md R493 -/
def Obligations.TimebaseAndSubscriptionsAreSet : Prop :=
  (∀ (s : State) (v : BitVec 64) (p : Path), quiet s = true →
    (rdB s (pgSched .west) R.SCH_CTRL_EN = false → rdB s (pgSched .east) R.SCH_CTRL_EN = false →
      (∀ h, ∀ l ∈ halfLights s h, lightState s l = lsIDLE ∨ lightState s l = lsFAULT ∨ lightState s l = lsUNASSIGNED) →
      Ends (.tbSet v p) s (fun t => t.tb = ⟨v.toNat, v.toNat⟩ ∧ t = { s with tb := t.tb, woLatch := t.woLatch })) ∧
    (rdB s (pgSched .west) R.SCH_CTRL_EN = true ∨ rdB s (pgSched .east) R.SCH_CTRL_EN = true →
      Ends (.tbSet v p) s (fun t => t.tb = s.tb ∧
        t = cfgReject pgTimebase R.TB_SET.off 1 .stopped (some p) { s with woLatch := t.woLatch }))) ∧
  (∀ (s : State) (h : Half) (i : Nat), pageLive s (pgLight h) = true →
    (rdBI s (pgLight h) R.LL_SUB_CTRL_EN i = false → nodeReg s (rdI s (pgLight h) R.LL_SUB_CTRL_DST i) = true →
      Ends (.subEnable h i true) s (fun t => rdBI t (pgLight h) R.LL_SUB_CTRL_EN i = true ∧
        t = { s with regs := t.regs, woLatch := t.woLatch } ∧ RegsKept [(pgLight h, R.LL_SUB_CTRL_EN.off)] s t)) ∧
    (rdBI s (pgLight h) R.LL_SUB_CTRL_EN i = false → nodeReg s (rdI s (pgLight h) R.LL_SUB_CTRL_DST i) = false →
      Ends (.subEnable h i true) s (fun t => rdBI t (pgLight h) R.LL_SUB_CTRL_EN i = false ∧
        (rd t (pgLight h) R.EVT_RAW).testBit 4 = true ∧
        RegsKept ((pgLight h, R.LL_SUB_CTRL_EN.off) :: evtRegs (pgLight h)) s t)) ∧
    Ends (.subEnable h i false) s (fun t => rdBI t (pgLight h) R.LL_SUB_CTRL_EN i = false ∧
      t = { s with regs := t.regs, woLatch := t.woLatch })) ∧
  (∀ (s : State) (h : Half) (i : Nat),
    (rdBI s (pgLight h) R.LL_SUB_CTRL_EN i = true → (tget {} (s.sched.at h).subs i).written = true →
      Ends (.subIntervalExpiry h i) s (fun t => (tget {} (t.sched.at h).subs i).written = false ∧
        (tget {} (t.sched.at h).subs i).count = 0 ∧
        (tget {} (t.sched.at h).subs i).seq = ((tget {} (s.sched.at h).subs i).seq + 1) % 2 ^ 32 ∧
        t.nextPid = s.nextPid + 1 ∧
        rd t (pgLight h) R.LIGHT_CNT_SUB_SENT = rd (bump (pgLight h) R.LIGHT_CNT_SUB_SENT s) (pgLight h) R.LIGHT_CNT_SUB_SENT ∧
        t = { s with
          regs := t.regs, strikes := t.strikes, fiu := t.fiu, egr := t.egr, sched := t.sched, nextPid := t.nextPid } ∧
        RegsKept ((pgLight h, R.LIGHT_CNT_SUB_SENT.off) :: egrRegs) s t)) ∧
    (rdBI s (pgLight h) R.LL_SUB_CTRL_EN i = false ∨ (tget {} (s.sched.at h).subs i).written = false →
      exec (.subIntervalExpiry h i) s = .next s))

/-- O20. An event fires only when fixed, due and allowed; a late one takes the next revolution; an unverified one
fails. 06_light_list_and_angle_time.md R216; 06_light_list_and_angle_time.md R217; 06_light_list_and_angle_time.md
R219; 06_light_list_and_angle_time.md R220; 06_light_list_and_angle_time.md R221; 06_light_list_and_angle_time.md R233
-/
def Obligations.ScheduledEventsKeepTheirTimes : Prop :=
  (∀ (s : State) (h : Half) (id : Nat) (e : Event), evGet s h id = some e →
    (MayFire s h e →
      Ends (.eventFire h id) s (fun t => evGet t h id = some { e with st := .fired } ∧
        (t.sched.at h).events.length = (s.sched.at h).events.length ∧
        rd t (pgSched h) R.SCHED_CNT_FIRED = rd (bump (pgSched h) R.SCHED_CNT_FIRED s) (pgSched h) R.SCHED_CNT_FIRED ∧
        t = { s with regs := t.regs, sched := t.sched } ∧
        RegsKept [(pgSched h, R.SCHED_CNT_FIRED.off), (pgL e.light, R.LL_VIEW_5_FIRED.off)] s t)) ∧
    (¬ MayFire s h e → exec (.eventFire h id) s = .next s) ∧
    (e.st = .fixed ∨ e.st = .fired → deadline s e < nowH s h → e.op ≠ 6 → quiet s = true →
      Ends (.eventDeadlineMiss h id) s (fun t => evGet t h id = some { e with
          st := .fixed, rev := e.rev + 1 } ∧
        (t.sched.at h).events.length = (s.sched.at h).events.length ∧
        rd t (pgSched h) R.SCHED_CNT_MISS_LATE =
          rd (bump (pgSched h) R.SCHED_CNT_MISS_LATE s) (pgSched h) R.SCHED_CNT_MISS_LATE)) ∧
    ((e.st ≠ .fixed ∧ e.st ≠ .fired) ∨ nowH s h ≤ deadline s e → quiet s = true →
      exec (.eventDeadlineMiss h id) s = .next s)) ∧
  (∀ (s : State) (h : Half) (v : BitVec 32) (e : Event),
    ((s.sched.at h).events.find? (fun e => e.vtag == v.toNat && e.st == .verify) = some e →
      exec (.verifyTimeout h v) s = .next (settle (evEnd h e .failed
        (raise (pgSched h) 6 (bump (pgSched h) R.SCHED_CNT_VFY_TMO s))))) ∧
    (evByVtag s h v.toNat = some e → e.st = .readback → e.left = 0 →
      exec (.mediaReadDone h v) s = .next (settle (evEnd h e .pass s))) ∧
    (evByVtag s h v.toNat = some e → e.st ≠ .readback ∨ e.left ≠ 0 → quiet s = true →
      exec (.mediaReadDone h v) s = .next s)) ∧
  (∀ (s : State) (h : Half) (p : Path), pageLive s (pgSched h) = true →
    Ends (.schCtrlEnWrite h false p) s (fun t => rdB t (pgSched h) R.SCH_CTRL_EN = false ∧
      t = { s with regs := t.regs, woLatch := t.woLatch } ∧ RegsKept [(pgSched h, R.SCH_CTRL_EN.off)] s t) ∧
    (rdB s pgEaselG R.EZG_CTRL_SVC = true →
      Ends (.schCtrlEnWrite h true p) s (fun t => rdB t (pgSched h) R.SCH_CTRL_EN = true ∧
        t = { s with regs := t.regs, woLatch := t.woLatch } ∧ RegsKept [(pgSched h, R.SCH_CTRL_EN.off)] s t)) ∧
    (rdB s pgEaselG R.EZG_CTRL_SVC = false →
      Ends (.schCtrlEnWrite h true p) s (fun t =>
        t = cfgReject (pgSched h) R.SCH_CTRL_EN.off 3 .live (some p) { s with woLatch := t.woLatch })))

/-- O21. A stream with free FIFO space takes its next block in order, and a ready feed with credit offers exactly one
chunk. 06_light_list_and_angle_time.md R224; 06_light_list_and_angle_time.md R225; 06_light_list_and_angle_time.md
R226; 11_easel_staging_memory.md R371 -/
def Obligations.TapeStreamsFillAndFeed : Prop :=
  (∀ (s : State) (h : Half) (i : Nat) (src : TapeSrc), Memory.wf s.easel = true →
    (strGet s h i).srcs.find? (fun p => p.ord == (strGet s h i).fillOrd) = some src →
    (strGet s h i).open_ = true → (strGet s h i).state ≠ tsSTOPPING →
    (strGet s h i).blocks.length < fifoBlocks (strGet s h i) →
    Ends (.streamFill h i) s (fun t =>
      (strGet t h i).blocks = (strGet s h i).blocks ++ [⟨src.ord, 0, false, false, 0, none, 0⟩] ∧
      (strGet t h i).fillOrd = (strGet s h i).fillOrd + 1 ∧
      (∀ j, j ≠ i → strGet t h j = strGet s h j) ∧ (strGet t h i).lapped = (strGet s h i).lapped ∧
      t.easel = cellPuts (fifoAddr s h (strGet s h i) src.ord) ((src.pages.map (panelData s)).flatten) s.easel ∧
      (∀ a, (a < fifoAddr s h (strGet s h i) src.ord ∨
          fifoAddr s h (strGet s h i) src.ord + ((src.pages.map (panelData s)).flatten).length ≤ a) →
        ezByte t a = ezByte s a) ∧
      t = { s with regs := t.regs, strikes := t.strikes, sched := t.sched, easel := t.easel })) ∧
  (∀ (s : State) (h : Half) (i : Nat),
    (strGet s h i).srcs.find? (fun p => p.ord == (strGet s h i).fillOrd) = none → exec (.streamFill h i) s = .next s) ∧
  (∀ (s : State) (h : Half) (i : Nat) (b : TapeBlk), nextChunkBlk (strGet s h i) = some b →
    (feedReady s h (strGet s h i) = true → 65536 ≤ creditNow s (strGet s h i) →
      Ends (.streamChunkOffer h i) s (fun t => (strGet t h i).offered = true ∧
        (apuGet t (lightPort s (strGet s h i).light)).tape.length =
          (apuGet s (lightPort s (strGet s h i).light)).tape.length + 256 ∧
        (∀ n, (apuGet t n).media = (apuGet s n).media ∧ (apuGet t n).mgmt = (apuGet s n).mgmt) ∧
        t = { s with sched := t.sched, apu := t.apu })) ∧
    (feedReady s h (strGet s h i) = false ∨ creditNow s (strGet s h i) < 65536 →
      exec (.streamChunkOffer h i) s = .next s))

/-- O22. PPS edges are captured and lost, REF100 is judged by gates, the holdover rate is learned, TB_NOW latches its
high half. 06_light_list_and_angle_time.md R201; 06_light_list_and_angle_time.md R202; 06_light_list_and_angle_time.md
R231; 18_calibration_and_timebase_reference.md R576; 18_calibration_and_timebase_reference.md R577;
18_calibration_and_timebase_reference.md R578; 18_calibration_and_timebase_reference.md R579 -/
def Obligations.ReferencesAreJudgedAsTheyArrive : Prop :=
  ∀ s : State,
    (rdB s pgTimebase R.TB_CTRL_PPS_EN = true →
      Ends .ppsEdge s (fun t => rdB t pgTimebase R.TB_STAT_PPS_OK = true ∧ t.tb = s.tb ∧
        (∃ j, j < 5 ∧ rd t pgTimebase R.TB_PPS_CAP = (now s + j + 2 ^ 64 - 2) % 2 ^ 64) ∧
        t.time.lastPps = some (rd t pgTimebase R.TB_PPS_CAP) ∧
        (∀ p, s.time.lastPps = some p → s.time.freshPps = false →
          (rd t pgTimebase R.TB_PPS_CAP + 2 ^ 64 - p) % 2 ^ 64 < 999000000 ∨
            1001000000 < (rd t pgTimebase R.TB_PPS_CAP + 2 ^ 64 - p) % 2 ^ 64 →
          t.time.slew = s.time.slew ∧ rd t pgTimebase R.TIMEBASE_CNT_PPS_GLITCH =
            rd (bump pgTimebase R.TIMEBASE_CNT_PPS_GLITCH s) pgTimebase R.TIMEBASE_CNT_PPS_GLITCH) ∧
        t = { s with regs := t.regs, strikes := t.strikes, time := t.time, freeSeq := t.freeSeq })) ∧
    (rdB s pgTimebase R.TB_CTRL_PPS_EN = false → exec .ppsEdge s = .next s ∧ exec .ppsLost s = .next s) ∧
    (rdB s pgTimebase R.TB_CTRL_PPS_EN = true → rdB s pgTimebase R.TB_STAT_PPS_OK = true →
      Ends .ppsLost s (fun t => rdB t pgTimebase R.TB_STAT_PPS_OK = false ∧ t.time.slew = 0 ∧
        (rd t pgTimebase R.EVT_RAW).testBit 2 = true ∧ t = { s with regs := t.regs, strikes := t.strikes, time := t.time })) ∧
    (∀ dev : Int, quiet s = true → dev.natAbs ≤ 10000 → s.time.gateBad = false →
      rdB s pgTimebase R.TB_STAT_REF_OK = true →
      Ends (.refGate dev true) s (fun t =>
        rd t pgTimebase R.TB_REF_MEAS_GOOD_GATES = min 65535 (rd s pgTimebase R.TB_REF_MEAS_GOOD_GATES + 1) ∧
        rdB t pgTimebase R.TB_STAT_REF_OK = true ∧ t = { s with regs := t.regs } ∧
        RegsKept [(pgTimebase, R.TB_REF_MEAS_GOOD_GATES.off)] s t)) ∧
    (∀ (dev : Int) (edges : Bool), quiet s = true → (10000 < dev.natAbs ∨ edges = false ∨ s.time.gateBad = true) →
      rdB s pgTimebase R.TB_STAT_REF_OK = false →
      Ends (.refGate dev edges) s (fun t => rd t pgTimebase R.TB_REF_MEAS_GOOD_GATES = 0 ∧
        rdB t pgTimebase R.TB_STAT_REF_OK = false ∧ t = { s with regs := t.regs, time := t.time })) ∧
    (quiet s = true → rdB s pgTimebase R.TB_STAT_REF_OK = true → CalibrationIdle s →
      Ends .refEdgeMissing s (fun t => rdB t pgTimebase R.TB_STAT_REF_OK = false ∧
        rdB t pgTimebase R.TB_STAT_HOLDOVER = true ∧ t.time.slew = 0 ∧ t.time.holdFrom = s.clk ∧
        (rd t pgTimebase R.EVT_RAW).testBit 0 = true ∧
        t = { s with regs := t.regs, strikes := t.strikes, time := t.time })) ∧
    (∀ ppb : Int, rdB s pgTimebase R.TB_STAT_REF_OK = true → rdB s pgTimebase R.TB_STAT_HOLDOVER = false →
      Ends (.holdoverMeasure ppb) s (fun t => rdB t pgTimebase R.TB_HOLD_HOLD_VALID = true ∧
        rd t pgTimebase R.TB_HOLD_HOLD_PPB = signed32 ppb % 2 ^ R.TB_HOLD_HOLD_PPB.w ∧ t = { s with regs := t.regs } ∧
        RegsKept [(pgTimebase, R.TB_HOLD_HOLD_PPB.off)] s t)) ∧
    (∀ p : Path, exec (.tbNowLowRead p) s = .next { s with
      time := { s.time with nowLatch := some (now s / 2 ^ 32) },
      out := s.out ++ [.answer (pathCode (some p)) (now s % 2 ^ 32)] })

/-- O23. Calibration marks, starts, measures, verifies and ends its runs as R581 to R591 order.
18_calibration_and_timebase_reference.md R581; 18_calibration_and_timebase_reference.md R582;
18_calibration_and_timebase_reference.md R584; 18_calibration_and_timebase_reference.md R585;
18_calibration_and_timebase_reference.md R586; 18_calibration_and_timebase_reference.md R587;
18_calibration_and_timebase_reference.md R588; 18_calibration_and_timebase_reference.md R591;
18_calibration_and_timebase_reference.md R593 -/
def Obligations.CalibrationRunsStepByStep : Prop :=
  (∀ (s : State) (h : Half) (i : Nat) (r : CalRun), runOf s h i = some r →
    (r.step = .pattern → exec (.calPatternTimeout h i) s = .next (settle (runAbort h r 1 s))) ∧
    (∀ eye ph vo df ct, r.step = .measure → eye < 16 →
      exec (.calMeasureEnd h i eye ph vo df ct) s = .next (settle (runAbort h r 7 s))) ∧
    (∀ eye ph vo df ct, r.step = .measure → 16 ≤ eye → quiet s = true →
      Ends (.calMeasureEnd h i eye ph vo df ct) s (fun t =>
        trims t h i r.lane = ⟨ph.toNat, vo.toNat, df.toNat, ct.toNat⟩ ∧
        runOf t h i = some { r with step := .verify, trn := 0 } ∧ t = { s with regs := t.regs, cal := t.cal } ∧
        RegsKept [(pgCal h, R.CAL_LANE_VIEW_0_PHASE.off)] s t)) ∧
    (r.step = .verify → 1024 ≤ r.trn → quiet s = true →
      Ends (.calVerifyPass h i) s (fun t => laneV t h i r.lane R.CAL_LANE_VIEW_0_ABORTS = 0 ∧
        rxSteer t (aPort h i) = ssRESTORE ∧ runOf t h i = some { r with step := .restoring } ∧
        t.out = s.out ++ [.atn (aPort h i) [(true, laneWord 4 (rxLane s (aPort h i)))]])) ∧
    (r.step = .verify → exec (.calVerifyTimeout h i) s = .next (settle (runAbort h r 6 s)))) ∧
  (∀ (s : State) (h : Half) (i : Nat) (m : List Nat), calPower s = true → rdB s (pgCal h) R.CAL_CTRL_EN = true →
    rdB s pgTimebase R.TB_STAT_REF_OK = true → runOf s h i = none → (s.cal.at h).sweeps = [] → (s.cal.at h).runs = [] →
    (s.cal.at h).marked = i :: m → i ∉ m →
    exec (.calRunStart h i) s = .next (settle (laneRun h i 0 (bump (pgCal h) R.CAL_CNT_SWEEP (setTLast h i (tNow s h)
      (calMod h (fun c => { c with marked := m, sweeps := [(i, 1)] }) s)))))) ∧
  (∀ (s : State) (h : Half), pageLive s (pgCal h) = true →
    (∀ i k, i < 32 → k < 8 →
      Ends (.calRunCmd h i k) s (fun t => (i, k) ∈ (t.cal.at h).lanes ∧
        ((i, k) ∈ (s.cal.at h).lanes → (t.cal.at h).lanes = (s.cal.at h).lanes) ∧
        (t.cal.at h).marked = (s.cal.at h).marked ∧
        t = { s with regs := t.regs, strikes := t.strikes, cal := t.cal, woLatch := t.woLatch })) ∧
    (∀ i, i < 32 →
      Ends (.calClearAborts h i) s (fun t => (∀ k, k < 8 → laneV t h i k R.CAL_LANE_VIEW_0_ABORTS = 0) ∧
        (∀ j k, j < 32 → k < 8 → j ≠ i → laneV t h j k R.CAL_LANE_VIEW_0_ABORTS = laneV s h j k R.CAL_LANE_VIEW_0_ABORTS) ∧
        t = { s with regs := t.regs, woLatch := t.woLatch } ∧ RegsKept [(pgCal h, R.CAL_LANE_VIEW_0_ABORTS.off)] s t)) ∧
    (quiet s = true → (s.cal.at h).runs = [] →
      Ends (.calAbortCmd h) s (fun t => (t.cal.at h).marked = [] ∧ (t.cal.at h).lanes = [] ∧ (t.cal.at h).sweeps = [] ∧
        rdB t (pgCal h) R.CAL_STAT_BLOCKED = false ∧
        t = { s with regs := t.regs, strikes := t.strikes, cal := t.cal, woLatch := t.woLatch })) ∧
    (quiet s = true → Ends (.calEnWrite h true) s (fun t => rdB t (pgCal h) R.CAL_CTRL_EN = true ∧
      t = { s with regs := t.regs, woLatch := t.woLatch } ∧ RegsKept [(pgCal h, R.CAL_CTRL_EN.off)] s t)) ∧
    Ends (.calSweep h) s (fun t =>
      (∀ i, i < 32 → apuState s (aPort h i) = asACTIVE → i ∈ (t.cal.at h).marked) ∧
      t = { s with regs := t.regs, strikes := t.strikes, cal := t.cal, woLatch := t.woLatch })) ∧
  (∀ (s : State) (h : Half), (∀ i, i < 32 → apuState s (aPort h i) ≠ asACTIVE) →
    Ends (.calTempCheck h) s (fun t => t.cal = s.cal ∧ t = { s with regs := t.regs, strikes := t.strikes }))

/-- O24. A stripe is chosen on K + M distinct eligible lights of distinct failure domains, and every member goes to
its light. 07_placement.md R242; 07_placement.md R243; 07_placement.md R245; 07_placement.md R246; 07_placement.md
R248 -/
def Obligations.StripesTakeDistinctEligibleLights : Prop :=
  (∀ (s : State) (h : Half) (g k m n : Nat) (cs : List Cand), chooseStripe s h g k m n = some cs →
    cs.length = k + m ∧ (cs.map (·.light)).Nodup ∧ (∀ c ∈ cs, lightEligible s h g c.light = true) ∧
      ∃ lv, grpF s h g R.PLG_GRP_VIEW_0_DOMAIN_MIN ≤ lv ∧ (cs.map (fun c => domain s lv c.light)).Nodup) ∧
  (∀ (s : State) (id : Nat) (x : Stripe) (cs : List Cand) (pgs : List Nat) (u : State), stpGet s id = some x →
    x.st = .wait → rdB s (pgPlace x.home) R.PL_CTRL_EN = true → takesWork s = true → isStalled s x = false →
    s.captured = [] → s.place.west.plg = [] → s.place.east.plg = [] →
    chooseStripe s x.home x.group x.k x.m x.s = some cs → takePages x.home (runUnits x.kind x.s * x.m) s = some (pgs, u) →
    ∃ v, exec (.stripeChoose id) s = .next (settle v) ∧ ∃ y, stpGet v id = some y ∧ y.st = .chosen ∧
      y.members.map (·.light) = cs.map (·.light) ∧ (∀ z ∈ y.members, z.st = .flying) ∧
      y.parity = pgs.map (pageAddr s x.home) ∧ (∀ p ∈ pgs, p ∈ y.own)) ∧
  (∀ (s : State) (id : Nat) (x : Stripe), quiet s = true → stpGet s id = some x →
    (x.st ≠ .wait ∨ rdB s (pgPlace x.home) R.PL_CTRL_EN = false ∨ takesWork s = false ∨ isStalled s x = true) →
    exec (.stripeChoose id) s = .next s)

/-- O25. Waiting and stalled stripes are tried again, and units spin up and down within both limits of R247.
07_placement.md R242; 07_placement.md R247; 07_placement.md R249; 11_easel_staging_memory.md R389 -/
def Obligations.WaitingWorkIsTriedAgain : Prop :=
  (∀ (s : State) (h : Half),
    (quiet s = true → s.objs.stripes.all (fun x => !(decide (x.home = h) && x.noStripe && !x.stalled)) = true →
      exec (.noStripeRetry h) s = .next s) ∧
    (∀ x, s.objs.stripes.filter (fun y => decide (y.home = h) && y.noStripe && !y.stalled) = [x] →
      exec (.noStripeRetry h) s = .next (settle (placeWaiting x.id (stripeChoose x.id s))))) ∧
  (∀ (s : State) (id : Nat) (x : Stripe), stpGet s id = some x →
    (quiet s = true → isStalled s x = false → exec (.stallRetry id) s = .next s) ∧
    (isStalled s x = true →
      ∃ u, exec (.stallRetry id) s = .next (settle (stripeEnd id (placeWaiting id (stripeChoose id u)))) ∧
        (∀ r, r ∈ (s.place.at x.home).lost ∨ r ∈ (s.place.at x.home).lostOwed →
          r ∈ (u.place.at x.home).lost ∨ r ∈ (u.place.at x.home).lostOwed) ∧
        (u.place.at x.home).lost.length ≤ max 65536 (s.place.at x.home).lost.length ∧
        (s.place.at x.home).lost <+: (u.place.at x.home).lost ∧
        ((s.place.at x.home).lost.length + (s.place.at x.home).lostOwed.length ≤ 65536 →
          (u.place.at x.home).lostOwed.any (owedIn x) = false) ∧
        u = { s with place := u.place } ∧ u.place.at x.home.twin = s.place.at x.home.twin)) ∧
  (∀ (s : State) (h : Half) (g l : Nat), quiet s = true → SpinWanted s h g l →
    (spinAllowed s g l = true →
      Ends (.spinUpIssue h g) s (fun t => spinPending t l 3 = true ∧
        rd t (pgPlace (lHalf l)) R.PLACE_CNT_SPINUP =
          rd (bump (pgPlace (lHalf l)) R.PLACE_CNT_SPINUP s) (pgPlace (lHalf l)) R.PLACE_CNT_SPINUP ∧
        (t.place.at h).spinLimit = false ∧
        t = { s with regs := t.regs, sched := t.sched, apu := t.apu, place := t.place } ∧
        RegsKept [(pgPlace (lHalf l), R.PLACE_CNT_SPINUP.off)] s t)) ∧
    (spinAllowed s g l = false →
      Ends (.spinUpIssue h g) s (fun t => (t.place.at h).spinLimit = true ∧
        ((s.place.at h).spinLimit = false → (rd t (pgPlace h) R.EVT_RAW).testBit 3 = true) ∧
        ((s.place.at h).spinLimit = true → t.strikes = s.strikes) ∧
        t = { s with regs := t.regs, strikes := t.strikes, place := t.place } ∧ RegsKept (evtRegs (pgPlace h)) s t))) ∧
  (∀ (s : State) (l : Nat), quiet s = true →
    (SpareIdle s l →
      Ends (.spinDownIdle l) s (fun t => spinPending t l 4 = true ∧
        rd t (pgPlace (lHalf l)) R.PLACE_CNT_SPINDOWN =
          rd (bump (pgPlace (lHalf l)) R.PLACE_CNT_SPINDOWN s) (pgPlace (lHalf l)) R.PLACE_CNT_SPINDOWN ∧
        t = { s with regs := t.regs, sched := t.sched, apu := t.apu } ∧
        RegsKept [(pgPlace (lHalf l), R.PLACE_CNT_SPINDOWN.off)] s t)) ∧
    (grpSpin s (lHalf l) (lightGroup s l) = false → exec (.spinDownIdle l) s = .next s))

/-- O26. A stream opens within its port's cap, a binding is released or kept, and a policy tick gives each group its
set. 06_light_list_and_angle_time.md R211; 06_light_list_and_angle_time.md R223; 07_placement.md R259; 07_placement.md
R261; 07_placement.md R263 -/
def Obligations.StreamsBindingsAndPolicyAct : Prop :=
  (∀ (s : State) (l i f : Nat), TapeAsked s l → strOfLight s l = none → underCap s l = true →
    firstFree (((s.sched.at (lHalf l)).streams.filter (fun p => p.2.open_)).map (·.1)) 256 0 = some i →
    firstFree (((s.sched.at (lHalf l)).streams.filter (fun p => p.2.open_)).map (·.2.fifo)) (strFifos s) 0 = some f →
    Ends (.streamOpen l) s (fun t => (strGet t (lHalf l) i).open_ = true ∧ (strGet t (lHalf l) i).state = tsSTREAMING ∧
      (strGet t (lHalf l) i).light = l ∧ (strGet t (lHalf l) i).fifo = f ∧ (strGet t (lHalf l) i).res = strRes s l ∧
      (strGet t (lHalf l) i).nextBlock = curTrack s l ∧ (strGet t (lHalf l) i).blocks = [] ∧
      (∀ j, j ≠ i → strGet t (lHalf l) j = strGet s (lHalf l) j) ∧ t = { s with sched := t.sched })) ∧
  (∀ (s : State) (l : Nat), TapeAsked s l → (strOfLight s l ≠ none ∨ underCap s l = false) →
    Ends (.streamOpen l) s (fun t => (rd t (pgSched (lHalf l)) R.EVT_RAW).testBit 5 = true ∧
      rd t (pgSched (lHalf l)) R.SCHED_CNT_RES_REFUSED =
        rd (bump (pgSched (lHalf l)) R.SCHED_CNT_RES_REFUSED s) (pgSched (lHalf l)) R.SCHED_CNT_RES_REFUSED ∧
      t = { s with regs := t.regs, strikes := t.strikes } ∧
      RegsKept ((pgSched (lHalf l), R.SCHED_CNT_RES_REFUSED.off) :: evtRegs (pgSched (lHalf l))) s t)) ∧
  (∀ (s : State) (l i : Nat) (x : Stream), quiet s = true → strOfLight s l = some (i, x) → strGet s (lHalf l) i = x →
    x.srcs = [] → x.state = tsSTREAMING → x.blocks.any (fun b => b.sent && decide (b.chunks < 16)) = false →
    Ends (.streamClose l) s (fun t => (strGet t (lHalf l) i).state = tsSTOPPING ∧ (strGet t (lHalf l) i).closing = true ∧
      (∀ j, j ≠ i → strGet t (lHalf l) j = strGet s (lHalf l) j) ∧
      (t.sched.at (lHalf l)).cmds.length = (s.sched.at (lHalf l)).cmds.length + 1 ∧
      t = { s with sched := t.sched, apu := t.apu })) ∧
  (∀ (s : State) (h : Half) (l : Nat) (p : Path), pageLive s (pgLight h) = true →
    (quiet s = true → lHalf l = h → unbindOk s l = true →
      (s.place.west.map ++ s.place.east.map).all (fun e => e.light != l) = true →
      Ends (.llUnbind h l p) s (fun t => lgt t l = {} ∧ plt t l = {} ∧
        (∀ m, m ≠ l → lgt t m = lgt s m ∧ plt t m = plt s m) ∧
        (∀ f : Fld, 0xA0 ≤ f.off → f.off ≤ 0xD8 → rdI t (pgL l) f l = f.rst) ∧
        (∀ (f : Fld) (m : Nat), m ≠ l → rdI t (pgL l) f m = rdI s (pgL l) f m) ∧ t.place = s.place ∧ t.sched = s.sched)) ∧
    (lHalf l ≠ h ∨ unbindOk s l = false →
      Ends (.llUnbind h l p) s (fun t =>
        t = cfgReject (pgLight h) R.LL_UNBIND_LIGHT.off 3 .live (some p) { s with woLatch := t.woLatch }))) ∧
  (∀ (s : State) (h : Half) (p : Policy), quiet s = true → s.captured = [] → s.place.west.plg = [] →
    s.place.east.plg = [] → (s.place.at h).polDue = false → (s.place.at h).policy = some p →
    Ends (.policyTick h) s (fun t =>
      (t.place.at h).setOf = (List.range 255).filterMap (fun g =>
        (((p.rules.filter (ruleHits s h g)).getLast?).map (fun r => (g, r.set)))) ∧
      (t.place.at h).policy = some p ∧ (t.place.at h).hitAt = (s.place.at h).hits ∧
      (t.place.at h).lookAt = (s.place.at h).looks ∧ t.place.at h.twin = s.place.at h.twin ∧
      t = { s with place := t.place, objs := t.objs }))

/-- O27. An efficiency interval is armed, runs and reports once, and a lookup reports a stripe's members.
07_placement.md R255; 07_placement.md R266; 07_placement.md R267; 15_register_pages_and_host_port.md R506 -/
def Obligations.EfficiencyAndLookupReport : Prop :=
  ∀ (s : State) (h : Half),
    (pageLive s (pgPlace h) = true →
      (rd s (pgPlace h) R.PL_EFF_STOP ≤ rd s (pgPlace h) R.PL_EFF_START ∨ rd s (pgPlace h) R.PL_EFF_STOP < nowH s h) →
      resRoom s (resOf h) 3 = true →
      Ends (.effArm h) s (fun t => ResultPushed (resOf h) 4 [0, 0, 0] s t ∧ rdB t (pgPlace h) R.PL_EFF_CTRL_ARMED = false ∧
        rdB t (pgPlace h) R.PL_EFF_CTRL_RUNNING = false ∧ (rd t (pgPlace h) R.EVT_RAW).testBit 4 = true ∧
        t = { s with regs := t.regs, strikes := t.strikes, results := t.results, woLatch := t.woLatch } ∧
        RegsKept ((pgPlace h, R.PL_EFF_CTRL_ARM.off) :: evtRegs (pgPlace h) ++ evtRegs (resPage (resOf h))) s t)) ∧
    (pageLive s (pgPlace h) = true → rd s (pgPlace h) R.PL_EFF_START < rd s (pgPlace h) R.PL_EFF_STOP →
      nowH s h ≤ rd s (pgPlace h) R.PL_EFF_STOP →
      Ends (.effArm h) s (fun t => rdB t (pgPlace h) R.PL_EFF_CTRL_ARMED = true ∧
        rdB t (pgPlace h) R.PL_EFF_CTRL_RUNNING = false ∧ t = { s with regs := t.regs, woLatch := t.woLatch } ∧
        RegsKept [(pgPlace h, R.PL_EFF_CTRL_ARM.off)] s t)) ∧
    (rdB s (pgPlace h) R.PL_EFF_CTRL_ARMED = true → rd s (pgPlace h) R.PL_EFF_START ≤ nowH s h →
      Ends (.effStart h) s (fun t => rdB t (pgPlace h) R.PL_EFF_CTRL_RUNNING = true ∧
        rdB t (pgPlace h) R.PL_EFF_CTRL_ARMED = false ∧ (t.place.at h).thru = 0 ∧ (t.place.at h).limit = 0 ∧
        t = { s with regs := t.regs, place := t.place } ∧ t.place.at h.twin = s.place.at h.twin ∧
        RegsKept [(pgPlace h, R.PL_EFF_CTRL_ARM.off)] s t)) ∧
    ((rdB s (pgPlace h) R.PL_EFF_CTRL_ARMED = false ∨ nowH s h < rd s (pgPlace h) R.PL_EFF_START) →
      exec (.effStart h) s = .next s) ∧
    (rdB s (pgPlace h) R.PL_EFF_CTRL_RUNNING = true → rd s (pgPlace h) R.PL_EFF_STOP ≤ nowH s h →
      resRoom s (resOf h) 3 = true →
      Ends (.effStop h) s (fun t => ResultPushed (resOf h) 4 [(s.place.at h).thru,
          (openDiv (s.place.at h).limit.num (s.place.at h).limit.den).toNat,
          rd s (pgPlace h) R.PL_EFF_STOP - rd s (pgPlace h) R.PL_EFF_START] s t ∧
        rdB t (pgPlace h) R.PL_EFF_CTRL_RUNNING = false ∧ (rd t (pgPlace h) R.EVT_RAW).testBit 4 = true ∧
        t = { s with regs := t.regs, strikes := t.strikes, results := t.results } ∧
        RegsKept ((pgPlace h, R.PL_EFF_CTRL_ARM.off) :: evtRegs (pgPlace h) ++ evtRegs (resPage (resOf h))) s t)) ∧
    ((rdB s (pgPlace h) R.PL_EFF_CTRL_RUNNING = false ∨ nowH s h < rd s (pgPlace h) R.PL_EFF_STOP) →
      exec (.effStop h) s = .next s) ∧
    (∀ (v : BitVec 64) (es : List MapEnt), pageLive s (pgPlace h) = true →
      es = (s.place.at h).map.filter (fun e =>
        e.obj == rd s (pgPlace h) R.PL_LOOKUP_OBJ_OBJ_ID && e.stripe == v.toNat % 2 ^ 36) →
      resRoom s (resOf h) ((es.map (fun e => e.k + e.m)).headD 0) = true →
      Ends (.plLookupStripe h v) s (fun t =>
        ResultPushed (resOf h) 3 ((List.range ((es.map (fun e => e.k + e.m)).headD 0)).filterMap (fun m =>
          (es.find? (fun e => e.member == m)).map (fun e =>
            e.light * 2 ^ 42 + e.track % 2 ^ 32 * 2 ^ 10 + e.slot % 64 * 2 ^ 4 + bit e.lost))) s t ∧
        t = { s with regs := t.regs, strikes := t.strikes, results := t.results, woLatch := t.woLatch } ∧
        RegsKept (evtRegs (resPage (resOf h))) s t))

/-- O28. A received MSG is matched, overflows or is turned away, and a request that takes a slot is checked in order.
08_dikar_object_service.md R272; 08_dikar_object_service.md R280; 08_dikar_object_service.md R281;
08_dikar_object_service.md R301; 09_contexts_matching_rings.md R314; 09_contexts_matching_rings.md R320 -/
def Obligations.RequestsAreMatchedAndTakeTheirSlots : Prop :=
  (∀ (s : State) (n k : Nat) (h m : Half) (p : Packet), MsgIs s n k h m p →
    (p.op ≠ 1 → Ends (.dikarReq n) s (fun t => (rd t (pgDikar h) R.EVT_RAW).testBit 0 = true ∧
      rd t (pgDikar h) R.DIKAR_CNT_BAD_MSG = rd (bump (pgDikar h) R.DIKAR_CNT_BAD_MSG s) (pgDikar h) R.DIKAR_CNT_BAD_MSG ∧
      t.dikar = s.dikar ∧ t = { s with regs := t.regs, strikes := t.strikes, fiu := t.fiu })) ∧
    (p.op = 1 → ctxIsOpen s p.ctx = true →
      (srcOk s p.ctx p.src = false ∨ p.key ≠ ctxV s R.CTX_VIEW_1_KEY p.ctx →
        Ends (.dikarReq n) s (fun t => (rd t (pgMatch m) R.EVT_RAW).testBit 0 = true ∧
          rd t (pgMatch m) R.MATCH_CNT_CTX_REJECT =
            rd (bump (pgMatch m) R.MATCH_CNT_CTX_REJECT s) (pgMatch m) R.MATCH_CNT_CTX_REJECT ∧
          t.dikar.ops = s.dikar.ops ∧ (mh t m).ents = (mh s m).ents ∧ (mh t m).ovf = (mh s m).ovf)) ∧
      (srcOk s p.ctx p.src = true → p.key = ctxV s R.CTX_VIEW_1_KEY p.ctx → p.salv = false → ctxOvf s m p.ctx = [] →
        ((search s m p.w1 (ctxBlocks s m p.ctx)).2 ≠ none →
          Ends (.dikarReq n) s (fun t => t.dikar.next = s.dikar.next + 1 ∧ (mh t m).ovf = (mh s m).ovf ∧
            rd t (pgDikar m) R.DIKAR_CNT_REQ = rd (bump (pgDikar m) R.DIKAR_CNT_REQ s) (pgDikar m) R.DIKAR_CNT_REQ)) ∧
        ((search s m p.w1 (ctxBlocks s m p.ctx)).2 = none → ctxV s R.CTX_VIEW_0_OVF_MAX p.ctx = 0 →
          Ends (.dikarReq n) s (fun t => t.dikar.next = s.dikar.next + 1 ∧ (mh t m).ovf = (mh s m).ovf ∧
            rd t (pgMatch m) R.MATCH_CNT_NO_MATCH =
              rd (bump (pgMatch m) R.MATCH_CNT_NO_MATCH s) (pgMatch m) R.MATCH_CNT_NO_MATCH)) ∧
        ((search s m p.w1 (ctxBlocks s m p.ctx)).2 = none → 0 < ctxV s R.CTX_VIEW_0_OVF_MAX p.ctx →
          (mh s m).ovf.length < 65536 →
          Ends (.dikarReq n) s (fun t => t.dikar.ops = s.dikar.ops ∧
            (∃ x : OvfRec, (mh t m).ovf = (mh s m).ovf ++ [x] ∧ x.ctx = p.ctx ∧ x.src = p.src ∧ x.mtch = p.w1) ∧
            rd t (pgMatch m) R.MATCH_CNT_OVF = rd (bump (pgMatch m) R.MATCH_CNT_OVF s) (pgMatch m) R.MATCH_CNT_OVF))))) ∧
  (∀ (s : State) (h : Half) (d : DOp) (r : List DOp), quiet s = true → slotWaiters s h = d :: r → slotFree s h = true →
    ByQueue s d →
    (d.ent = none → Ends (.opSlotGrant h) s (Completed d stDENIED s)) ∧
    (d.ent ≠ none → d.turned = true → Ends (.opSlotGrant h) s (Completed d stRETRY s)) ∧
    (∀ e st, d.ent = some e → d.turned = false → firstCheck s d e = some st →
      Ends (.opSlotGrant h) s (Completed d st s)) ∧
    (∀ e, d.ent = some e → d.turned = false → firstCheck s d e = none → d.dop = doFENCE →
      Ends (.opSlotGrant h) s (fun t => opGet t d.id = some { d with slot := true, st := .fence } ∧
        t = { s with regs := t.regs, dikar := t.dikar } ∧
        RegsKept [(pgDikar d.h, R.DK_STAT_HIGH_WATER.off)] s t))) ∧
  (∀ (s : State) (h : Half), quiet s = true → (slotWaiters s h = [] ∨ slotFree s h = false) →
    exec (.opSlotGrant h) s = .next s)

/-- O29. The next request of a half is admitted by what its name stands for. 08_dikar_object_service.md R280;
08_dikar_object_service.md R282; 08_dikar_object_service.md R284; 08_dikar_object_service.md R286;
08_dikar_object_service.md R287; 08_dikar_object_service.md R288; 08_dikar_object_service.md R289 -/
def Obligations.AdmissionAnswersByTheName : Prop :=
  ∀ (s : State) (h : Half) (d : DOp), AdmitNext s h d → d.dop ≠ doCOLL →
    (nameFind s d.name = none → d.creates = false →
      Ends (.admission h) s (fun t => Completed d stNOT_FOUND s t ∧ t.dikar.queue.at h = [])) ∧
    (nameFind s d.name = none → d.creates = true → d.condGen ≠ 0 →
      Ends (.admission h) s (fun t => Completed d stGEN_MISMATCH s t ∧ t.dikar.queue.at h = [])) ∧
    (nameFind s d.name = none → d.creates = true → d.condGen = 0 → nameFull s d.name = true →
      Ends (.admission h) s (fun t => Completed d stNO_SPACE s t ∧ t.dikar.queue.at h = [])) ∧
    (nameFind s d.name = none → d.creates = true → d.condGen = 0 → nameFull s d.name = false →
      Ends (.admission h) s (fun t => opGet t d.id = some { d with st := .step } ∧ t.dikar.queue.at h = [] ∧
        t = { s with dikar := t.dikar })) ∧
    (∀ i e, nameFind s d.name = some (i, e) → objHome e.objId = h.twin → xstepOk s = true →
      Ends (.admission h) s (fun t => t.dikar.queue.at h = [] ∧ t.dikar.queue.at h.twin = [d.id] ∧
        opGet t d.id = some { d with home := h.twin } ∧ t = { s with dikar := t.dikar })) ∧
    (∀ i e, nameFind s d.name = some (i, e) → objHome e.objId = h →
      (d.dop = doSTAT → Ends (.admission h) s (fun t => Completed d stOK s t ∧ t.dikar.queue.at h = [])) ∧
      (d.dop = doGET → min d.len (e.size - d.offset) ≠ 0 →
        lostHit s e.objId d.offset (min d.len (e.size - d.offset)) = true →
        Ends (.admission h) s (fun t => Completed d stMEDIA_LOST s t ∧ t.dikar.queue.at h = [])) ∧
      (d.dop = doPUT → d.create = true → d.excl = true →
        Ends (.admission h) s (fun t => Completed d stEXISTS s t ∧ t.dikar.queue.at h = [])) ∧
      (d.dop = doPUT ∨ d.dop = doAPPEND ∨ d.dop = doDELETE → (d.dop = doPUT → d.create = false) → d.condGen ≠ 0 →
        d.condGen ≠ e.gen → Ends (.admission h) s (fun t => Completed d stGEN_MISMATCH s t ∧ t.dikar.queue.at h = [])) ∧
      (d.dop = doDELETE → (d.condGen = 0 ∨ d.condGen = e.gen) →
        Ends (.admission h) s (fun t =>
          opGet t d.id = some { d with obj := e.objId, size := e.size, gen := e.gen, group := e.group, st := .step } ∧
          t.dikar.queue.at h = [] ∧ t = { s with dikar := t.dikar })) ∧
      (d.dop = doPUT → d.create = false → (d.condGen = 0 ∨ d.condGen = e.gen) → d.len ≠ 0 →
        Ends (.admission h) s (fun t =>
          opGet t d.id = some { d with
            obj := e.objId, size := e.size, gen := e.gen, group := e.group, st := .pull, off := d.offset,
            write := some s.objs.next } ∧
          t.objs.writes = s.objs.writes ++ [{
            id := s.objs.next, obj := e.objId, home := d.home, ranges := [(d.offset, d.len)], ops := [(d.id, d.ctx)],
            coll := none }] ∧
          t = { s with dikar := t.dikar, objs := t.objs })))

/-- O30. Namespace steps create, delete or turn away, durable writes change their object once, and copies and
compaction keep it. 08_dikar_object_service.md R276; 08_dikar_object_service.md R277; 08_dikar_object_service.md R278;
08_dikar_object_service.md R279; 08_dikar_object_service.md R283; 08_dikar_object_service.md R284;
08_dikar_object_service.md R285; 08_dikar_object_service.md R288; 08_dikar_object_service.md R299 -/
def Obligations.NamespaceStepsAndWritesTakeEffect : Prop :=
  (∀ (s : State) (h : Half) (d : DOp), StepWaits s h d →
    ((holds s h = false ∨ primLost s h = true) → Ends (.namespaceStep h d.id) s (Completed d stRETRY s)) ∧
    (∀ i e, StepReady s h → d.dop = doDELETE → nameFind s d.name = some (i, e) → e.objId = d.obj →
      Settles (.namespaceStep h d.id) s (fun u => Completed d stOK s u ∧
        ((nameAt u i).used = false ∨ (nameAt u i).tomb = true) ∧
        (u.place.at (objHome d.obj)).map.all (fun x => x.obj != d.obj) = true)) ∧
    (∀ i, StepReady s h → d.dop = doPUT → d.len ≠ 0 → nameFind s d.name = none → nameFull s d.name = false →
      freeSlotOf s (namePath s d.name) = some i →
      Settles (.namespaceStep h d.id) s (fun u => (nameAt u i).name = d.name ∧ (nameAt u i).used = true ∧
        (nameAt u i).tomb = false ∧ (nameAt u i).gen = 1 ∧ (nameAt u i).size = 0 ∧ (nameAt u i).group = d.grp ∧
        (nameAt u i).objId = d.home.num * 2 ^ 63 + s.objs.serial % 2 ^ 63 ∧ u.objs.serial = s.objs.serial + 1 ∧
        (∀ j, j ≠ i → nameAt u j = nameAt s j) ∧
        (∀ k, (s.jrnl.at k).fill < (u.jrnl.at k).fill ∨ (s.jrnl.at k).owed.length < (u.jrnl.at k).owed.length)))) ∧
  (∀ (s : State) (h : Half) (stood : Bool) (d : DOp), ByQueue s d → d.st = .step → d.home = h → d.dop ≠ doCOLL →
    quiet s = true → (holds s h && xstepOk s) = false → (stood = false ∨ holds s h.twin = false) →
    Ends (.nsTimeout h d.id stood) s (Completed d stRETRY s)) ∧
  (∀ (s : State) (d : DOp) (w : Write), opGet s d.id = some d → d.replyMsg = false → d.ring = none → d.mute = false →
    (mh s d.h).forced.contains d.ctx = false → d.write = some w.id → wrGet s w.id = some w → d.coll = none →
    d.durable = true → quiet s = true →
    (d.gone = true → Ends (.writeEffect d.id) s (Completed d stOBJ_GONE s)) ∧
    (∀ i e, d.gone = false → nameStepOk s = true → nameRoom s d.home = true → objEnt s w.obj = some (i, e) →
      Settles (.writeEffect d.id) s (fun u => Completed d stOK s u ∧
        nameAt u i = { e with
          size := max e.size ((w.ranges.map (fun r => r.1 + r.2)).foldl max 0), gen := genNext e.gen,
          modified := nowH s d.home } ∧
        u.objs.nextOrd = s.objs.nextOrd + 1 ∧ ∀ j, j ≠ i → nameAt u j = nameAt s j))) ∧
  (∀ (s : State) (w : Write) (qs : List Nat) (t : State), wrGet s w.id = some w → w.ord ≠ 0 → w.built = false →
    allHome w = false → s.boot.span = true → jrnlRoom s w.home = true →
    s.dikar.ops.all (fun d => !(d.coll.isSome && d.write == some w.id)) = true →
    takePages w.home (w.pages.filter (fun g => decide (g.half ≠ w.home))).length s = some (qs, t) →
    Settles (.spanCopy w.id) s (fun u => (wrGet u w.id).any allHome = true)) ∧
  (∀ (s : State) (id : Nat) (x : Stripe), stpGet s id = some x →
    (x.held = true → exec (.mergeRetry id) s =
      .next (settle (mergeStart id (stpMod id (fun y => { y with held := false }) s)))) ∧
    (x.held = false → quiet s = true → exec (.mergeRetry id) s = .next s)) ∧
  (∀ (s : State), quiet s = true →
    ((primaryReady s = false ∨ xstepOk s = false ∨ (s.objs.compacting = false ∧ compactDue s = false)) →
      exec .nameCompact s = .next s) ∧
    (∀ i j, twf (fun n => n) {} s.objs.names = true → primaryReady s = true → xstepOk s = true → primLost s .west = false → primLost s .east = false →
      (s.objs.compacting = true ∨ compactDue s = true) →
      compactNext s (if s.objs.compacting then s.objs.compactAt else 0) = some (i, j) → nameRoom s (stepHalf s) = true →
      Ends .nameCompact s (fun t => nameAt t j = nameAt s i ∧
        ((nameAt t i).used = false ∨ (nameAt t i).tomb = true) ∧ t.objs.compactAt = i + 1 ∧ t.objs.compacting = true ∧
        (∀ k, k ≠ i → k ≠ j → nameAt t k = nameAt s k ∨ ((nameAt s k).tomb = true ∧ nameAt t k = {})) ∧
        t = { s with regs := t.regs, strikes := t.strikes, objs := t.objs, jrnl := t.jrnl, freeSeq := t.freeSeq })))

/-- O31. A pull reads its buffer in pieces within its window, a GET pushes and completes, a FENCE reports once, EN
needs SVC. 08_dikar_object_service.md R290; 08_dikar_object_service.md R292; 08_dikar_object_service.md R293;
08_dikar_object_service.md R294; 08_dikar_object_service.md R302; 11_easel_staging_memory.md R374;
11_easel_staging_memory.md R376; 11_easel_staging_memory.md R396 -/
def Obligations.PullsAndGetsMoveTheirBytes : Prop :=
  (∀ (d : DOp) (o n : Nat), d.again = [] → nextPiece d = some (o, n) →
    o = d.issued ∧ 0 < n ∧ o + n ≤ d.len ∧ (d.bufAddr + o) / 4096 = (d.bufAddr + o + n - 1) / 4096) ∧
  (∀ (s : State) (d : DOp) (w : Write) (o n t : Nat), quiet s = true → opGet s d.id = some d → d.st = .pull →
    d.outst < pullWin s d.h → nextPiece d = some (o, n) → d.write = some w.id → wrGet s w.id = some w → d.coll = none →
    freeTag s d.h = some t →
    (unitsMissing w d.h (d.off + o) n = [] →
      Ends (.pullIssue d.h d.id) s (fun u => tget .free (u.tags.at d.h) t = .out n (.pull d.id o) ∧
        (∀ k, k ≠ t → tget .free (u.tags.at d.h) k = tget .free (s.tags.at d.h) k) ∧
        opGet u d.id = some { d with
          again := d.again.drop 1, issued := if d.again.isEmpty then o + n else d.issued, outst := d.outst + 1,
          waitPage := false, waitCap := false } ∧
        u.nextPid = s.nextPid + 1 ∧ u.objs = s.objs)) ∧
    (∀ p r, unitsMissing w d.h (d.off + o) n = p :: r → freePage s d.h true = none → d.waitPage = false →
      Ends (.pullIssue d.h d.id) s (fun u => opGet u d.id = some { d with waitPage := true } ∧
        rd u (pgEasel d.h) R.EASEL_CNT_WB_WAIT = rd (bump (pgEasel d.h) R.EASEL_CNT_WB_WAIT s) (pgEasel d.h) R.EASEL_CNT_WB_WAIT ∧
        ((s.place.at d.h).wbFull = false → (rd u (pgEasel d.h) R.EVT_RAW).testBit 0 = true) ∧
        u.tags = s.tags ∧ u.nextPid = s.nextPid))) ∧
  (∀ (s : State) (d : DOp), quiet s = true → opGet s d.id = some d → d.st = .get →
    (d.pushed < d.bytes → getFailed s d = false → getReady s d = true → (d.home = d.h ∨ s.boot.span = true) →
      Ends (.getPush d.h d.id) s (fun u => u.nextPid = s.nextPid + 1 ∧
        opGet u d.id = some { d with
          pushed := d.pushed + pieceLen d.bufAddr d.pushed d.bytes, pids := d.pids ++ [s.nextPid] } ∧
        u.objs = s.objs ∧ u.easel = s.easel)) ∧
    (ByQueue s d → getFailed s d = false → getReady s d = true → d.pushed = d.bytes →
      d.pids.all (fun p => !pktOpen s p) = true → Ends (.getComplete d.h d.id) s (Completed d stOK s)) ∧
    (ByQueue s d → getFailed s d = true → Ends (.getComplete d.h d.id) s (Completed d stMEDIA_LOST s))) ∧
  (∀ (s : State) (d : DOp), quiet s = true → ByQueue s d → d.st = .fence → d.media = false →
    s.dikar.ops.any (fun x => x.ctx == d.ctx && decide (x.id < d.id) && x.st != .ended) = false →
    pwOpen s d.ctx d.time = false →
    Ends (.fenceComplete d.id) s (fun t =>
      Completed d (if ctxV s R.CTX_VIEW_7_FAILED d.ctx = 0 then stOK else stDEFERRED) s t ∧
      ctxV t R.CTX_VIEW_7_FAILED d.ctx = 0 ∧ ctxV t R.CTX_VIEW_0_POISON d.ctx = 0 ∧
      rd t (pgDikar d.h) R.DIKAR_CNT_FENCE = rd (bump (pgDikar d.h) R.DIKAR_CNT_FENCE s) (pgDikar d.h) R.DIKAR_CNT_FENCE)) ∧
  (∀ (s : State) (h : Half) (p : Path), pageLive s (pgDikar h) = true →
    (rdB s pgEaselG R.EZG_CTRL_SVC = true → Ends (.dkCtrlEnWrite h true p) s (fun t =>
      rdB t (pgDikar h) R.DK_CTRL_EN = true ∧ t = { s with regs := t.regs, woLatch := t.woLatch } ∧
      RegsKept [(pgDikar h, R.DK_CTRL_EN.off)] s t)) ∧
    (rdB s pgEaselG R.EZG_CTRL_SVC = false → Ends (.dkCtrlEnWrite h true p) s (fun t =>
      t = cfgReject (pgDikar h) R.DK_CTRL_EN.off 3 .live (some p) { s with woLatch := t.woLatch })) ∧
    Ends (.dkCtrlEnWrite h false p) s (fun t => rdB t (pgDikar h) R.DK_CTRL_EN = false ∧
      t = { s with regs := t.regs, woLatch := t.woLatch } ∧ RegsKept [(pgDikar h, R.DK_CTRL_EN.off)] s t))

/-- O32. Context commands open, close and edit the selected context, and each answers with one result word.
09_contexts_matching_rings.md R306; 09_contexts_matching_rings.md R311; 09_contexts_matching_rings.md R312;
09_contexts_matching_rings.md R313; 09_contexts_matching_rings.md R319; 09_contexts_matching_rings.md R334;
09_contexts_matching_rings.md R335 -/
def Obligations.ContextCommandsReport : Prop :=
  ∀ (s : State) (h : Half) (c : Nat), CtxSel s h c →
    (openCode s c ≠ 0 → OnlyAnswers .ctxOpen s h (openCode s c * 2 ^ 48 + 2 ^ 20 + c)) ∧
    (openCode s c = 0 → Ends .ctxOpen s (fun t => WordPushed (resOf h) 5 (2 ^ 20 + c) s t ∧ ctxState t c = csOPEN ∧
      ctxV t R.CTX_VIEW_7_FAILED c = 0 ∧ ctxV t R.CTX_VIEW_0_POISON c = 0 ∧ ctxV t R.CTX_VIEW_5_CQ_PI c = 0 ∧
      ctxV t R.CTX_VIEW_5_CQ_CI c = 0 ∧ ctxBlocks t h c = [] ∧ ctxOvf t h c = [] ∧ cqGet t h c = {} ∧
      (∀ f d, d ≠ c → ctxV t f d = ctxV s f d) ∧ t.dikar.ops = s.dikar.ops)) ∧
    (∀ force, ctxRings s c ≠ [] → OnlyAnswers (.ctxClose force) s h (4 * 2 ^ 48 + 2 * 2 ^ 20 + c)) ∧
    (∀ force, ctxRings s c = [] → ctxIsOpen s c = false → OnlyAnswers (.ctxClose force) s h (2 ^ 48 + 2 * 2 ^ 20 + c)) ∧
    (ctxRings s c = [] → ctxIsOpen s c = true → ctxOvf s h c = [] →
      s.dikar.ops.all (fun d => !(d.ctx == c && (d.st == .slot || d.st == .admitting))) = true →
      Ends (.ctxClose false) s (fun t => ctxState t c = csCLOSING ∧ t.results = s.results ∧ t.dikar = s.dikar ∧
        (∀ f d, d ≠ c → ctxV t f d = ctxV s f d))) ∧
    (∀ d, ctxRings s c = [] → ctxIsOpen s c = true → ctxOvf s h c = [] → ByQueue s d →
      s.dikar.ops.filter (fun x => x.ctx == c && (x.st == .slot || x.st == .admitting)) = [d] →
      Ends (.ctxClose false) s (fun t => ctxState t c = csCLOSING ∧ Completed d stCTX_CLOSED s t)) ∧
    (ctxState s c = csCLOSING → closeReady s h c = true →
      Ends (.ctxCloseFinish c) s (fun t => ctxState t c = csCLOSED ∧ ctxBlocks t h c = [] ∧ cqGet t h c = {} ∧
        ctxV t R.CTX_VIEW_7_FAILED c = 0 ∧ ctxV t R.CTX_VIEW_0_POISON c = 0 ∧
        WordPushed (resOf h) 5 (2 * 2 ^ 20 + c) s t)) ∧
    ((ctxState s c ≠ csCLOSING ∨ closeReady s h c = false) → exec (.ctxCloseFinish c) s = .next s) ∧
    (ctxIsOpen s c = false → OnlyAnswers .meAppendEntry s h (2 ^ 48 + 3 * 2 ^ 20 + c)) ∧
    (ctxIsOpen s c = true →
      ((staged s c).dops = 0 ∨ (staged s c).nameHi < (staged s c).nameLo ∨ bits (stageWord s 4) 25 0 ≠ 0) →
      OnlyAnswers .meAppendEntry s h (3 * 2 ^ 48 + 3 * 2 ^ 20 + c)) ∧
    (∀ n new, ctxIsOpen s c = true → (staged s c).dops ≠ 0 → (staged s c).nameLo ≤ (staged s c).nameHi →
      bits (stageWord s 4) 25 0 = 0 → entSlot s h c = some (n, new) → ctxOvf s h c = [] →
      Ends .meAppendEntry s (fun t => WordPushed (resOf h) 5 (entNo h n * 2 ^ 24 + 3 * 2 ^ 20 + c) s t ∧
        entGet t h n = staged s c ∧ (∀ k, k ≠ n → entGet t h k = entGet s h k) ∧
        ctxBlocks t h c = (if new then ctxBlocks s h c ++ [n / 64] else ctxBlocks s h c) ∧
        (∀ d, d ≠ c → ctxBlocks t h d = ctxBlocks s h d))) ∧
    (∀ k, k = entNo (Half.ofBit (rd s pgContexts R.ME_SEL_HALF)) (rd s pgContexts R.ME_SEL_VALUE) →
      (ctxIsOpen s c = true → selOk s c = false →
        OnlyAnswers .meRemoveEntry s h (6 * 2 ^ 48 + k * 2 ^ 24 + 4 * 2 ^ 20 + c) ∧
        OnlyAnswers .meReadEntry s h (6 * 2 ^ 48 + k * 2 ^ 24 + 5 * 2 ^ 20 + c)) ∧
      (ctxIsOpen s c = true → selOk s c = true →
        (ctxRings s c).any (fun r => rdI s pgRings R.RING_CTRL_ENTRY r == rd s pgContexts R.ME_SEL_VALUE) = false →
        Ends .meRemoveEntry s (fun t => WordPushed (resOf h) 5 (k * 2 ^ 24 + 4 * 2 ^ 20 + c) s t ∧
          entGet t h (rd s pgContexts R.ME_SEL_VALUE) = {})) ∧
      (ctxIsOpen s c = true → selOk s c = true →
        Ends .meReadEntry s (fun t => WordPushed (resOf h) 5 (k * 2 ^ 24 + 5 * 2 ^ 20 + c) s t ∧
          (∀ i w, (entWords (entGet s h (rd s pgContexts R.ME_SEL_VALUE)))[i]? = some w →
            rd t pgContexts (R.ME_VIEW.at i) = w % 2 ^ 64) ∧ t.dikar = s.dikar))) ∧
    (∀ (v : Bool) (p : Path),
      ((v = false ∨ ctxV s R.CTX_VIEW_0_PIN c ≠ 0 ∨ pinned s h < 16384) →
        Ends (.pinWrite v p) s (fun t => ctxV t R.CTX_VIEW_0_PIN c = bit v ∧
          t = { s with regs := t.regs, woLatch := t.woLatch } ∧ RegsKept [(pgContexts, R.CTX_VIEW_0_PIN.off)] s t)) ∧
      (v = true → ctxV s R.CTX_VIEW_0_PIN c = 0 → 16384 ≤ pinned s h → Ends (.pinWrite v p) s (fun t =>
        t = cfgReject pgContexts R.CTX_VIEW_0_PIN.off 3 .live (some p) { s with woLatch := t.woLatch })))

/-- O33. The oldest overflow request times out, completion records and their index are written in order, CI moves
within PI. 09_contexts_matching_rings.md R320; 09_contexts_matching_rings.md R321; 09_contexts_matching_rings.md R322;
09_contexts_matching_rings.md R323; 09_contexts_matching_rings.md R325; 09_contexts_matching_rings.md R326 -/
def Obligations.RequestsOverflowAndRecordsAreWritten : Prop :=
  (∀ (s : State) (h : Half) (c : Nat) (x : OvfRec), quiet s = true → ctxOvf s h c = [x] →
    Ends (.ovfTimeout h c) s (fun t => (mh t h).ovf = (mh s h).ovf.erase x ∧ t.dikar.next = s.dikar.next + 1 ∧
      (rd t (pgMatch h) R.EVT_RAW).testBit 3 = true ∧
      rd t (pgMatch h) R.MATCH_CNT_NO_MATCH = rd (bump (pgMatch h) R.MATCH_CNT_NO_MATCH s) (pgMatch h) R.MATCH_CNT_NO_MATCH)) ∧
  (∀ (s : State) (h : Half) (c : Nat), quiet s = true → ctxOvf s h c = [] → exec (.ovfTimeout h c) s = .next s) ∧
  (∀ (s : State) (c : Nat) (x : CqRec) (r : List CqRec), quiet s = true → (cqGet s (ctxHome s c) c).recs = x :: r →
    (cqRoom s c ≠ 0 → ctxV s R.CTX_VIEW_2_CQ_LOG2 c ≤ 16 →
      Ends (.cqRecordWrite c) s (fun t => (cqGet t (ctxHome s c) c).recs = r ∧
        (cqGet t (ctxHome s c) c).uncovered = (cqGet s (ctxHome s c) c).uncovered + 1 ∧
        ctxV t R.CTX_VIEW_5_CQ_PI c = (ctxV s R.CTX_VIEW_5_CQ_PI c + 1) % 2 ^ (ctxV s R.CTX_VIEW_2_CQ_LOG2 c + 1) ∧
        t.nextPid = s.nextPid + 1 ∧ (∀ i, x.op = some i → opGet t i = none) ∧
        (∀ d, d ≠ c → cqGet t (ctxHome s c) d = cqGet s (ctxHome s c) d))) ∧
    (cqRoom s c = 0 → Ends (.cqRecordWrite c) s (fun t =>
      (cqGet t (ctxHome s c) c).recs = { x with waited := true } :: r ∧
      rd t (pgMatch (ctxHome s c)) R.MATCH_CNT_CQ_FULL =
        (if x.waited then rd s (pgMatch (ctxHome s c)) R.MATCH_CNT_CQ_FULL
        else rd (bump (pgMatch (ctxHome s c)) R.MATCH_CNT_CQ_FULL s) (pgMatch (ctxHome s c)) R.MATCH_CNT_CQ_FULL) ∧
      ((cqGet s (ctxHome s c) c).full = false → (rd t (pgMatch (ctxHome s c)) R.EVT_RAW).testBit 4 = true) ∧
      (∀ f d, ctxV t f d = ctxV s f d) ∧ t.nextPid = s.nextPid ∧ t.dikar.ops = s.dikar.ops))) ∧
  (∀ (s : State) (c : Nat), quiet s = true →
    ((cqGet s (ctxHome s c) c).uncovered = 0 → exec (.cqPiWrite c) s = .next s) ∧
    ((cqGet s (ctxHome s c) c).uncovered ≠ 0 → Ends (.cqPiWrite c) s (fun t =>
      cqGet t (ctxHome s c) c = { cqGet s (ctxHome s c) c with uncovered := 0, rings := [] } ∧
      t.nextPid = s.nextPid + 1 ∧ (∀ f d, ctxV t f d = ctxV s f d) ∧
      (ctxV s R.CTX_VIEW_0_EVT_EN c = 1 → s.strikes.length < t.strikes.length)))) ∧
  (∀ (s : State) (n k : Nat) (h : Half) (p : Packet) (c m : Nat), quiet s = true → HeadIs s n 1 k h p → p.type = tPW →
    inAperture p.addr = true → p.addr.testBit 39 = true → apCtx s p = c →
    m = 2 ^ (ctxV s R.CTX_VIEW_2_CQ_LOG2 c + 1) → ctxV s R.CTX_VIEW_2_CQ_LOG2 c ≤ 16 →
    (apCause s h p = none →
      (leNat p.payload % m + m - ctxV s R.CTX_VIEW_5_CQ_CI c % m) % m ≤
        (ctxV s R.CTX_VIEW_5_CQ_PI c + m - ctxV s R.CTX_VIEW_5_CQ_CI c % m) % m →
      Ends (.cqCiWrite n) s (fun t => ctxV t R.CTX_VIEW_5_CQ_CI c = leNat p.payload % m ∧
        ctxV t R.CTX_VIEW_5_CQ_PI c = ctxV s R.CTX_VIEW_5_CQ_PI c ∧ (∀ d, d ≠ c → ∀ f, ctxV t f d = ctxV s f d))) ∧
    (apCause s h p = none →
      (ctxV s R.CTX_VIEW_5_CQ_PI c + m - ctxV s R.CTX_VIEW_5_CQ_CI c % m) % m <
        (leNat p.payload % m + m - ctxV s R.CTX_VIEW_5_CQ_CI c % m) % m →
      Ends (.cqCiWrite n) s (fun t => (∀ f d, ctxV t f d = ctxV s f d) ∧
        (rd t (pgMatch (ctxHome s c)) R.EVT_RAW).testBit 5 = true)) ∧
    (∀ a, apCause s h p = some a → a ≤ 4 →
      Ends (.cqCiWrite n) s (fun t => ctxV t R.CTX_VIEW_5_CQ_CI c = ctxV s R.CTX_VIEW_5_CQ_CI c ∧
        rd t (pgMatch h) R.MT_AP_LAST_CAUSE = a ∧ (rd t (pgMatch h) R.EVT_RAW).testBit 6 = true)))

/-- O34. Rings take their index and descriptors through the aperture, are enabled and disabled, are polled, and become
idle. 09_contexts_matching_rings.md R324; 09_contexts_matching_rings.md R325; 09_contexts_matching_rings.md R328;
09_contexts_matching_rings.md R329; 09_contexts_matching_rings.md R330; 09_contexts_matching_rings.md R332;
11_easel_staging_memory.md R370 -/
def Obligations.RingsArePolledAndStop : Prop :=
  (∀ (s : State) (n k : Nat) (h : Half) (r : Nat) (p : Packet), RingWrite s n k h r p →
    (bits p.addr 22 0 = 0 → Ends (.ringPiWrite n) s (OnlyWrites (ringRec s r) p.payload s)) ∧
    (bits p.addr 22 0 ≠ 0 → Ends (.ringDescWrite n) s
      (OnlyWrites ((ringGet s r).blk.getD 0 + (bits p.addr 22 0 - 0x1000)) p.payload s))) ∧
  (∀ (s : State) (r : Nat) (p : Path), rd s pgRings R.RING_SEL_RING = r → quiet s = true → ringEn s r = false →
    (∀ a, ringOk s r = true → (if (ringGet s r).blk.isSome then (ringGet s r).blk else ringBlock s (ringHome s r) r) = some a →
      Ends (.ringEnable p) s (fun t => ringEn t r = true ∧ ringV t R.RING_STAT_PI r = 0 ∧ ringV t R.RING_STAT_CI r = 0 ∧
        ringV t R.RING_STAT_LAPPED r = 0 ∧ ringV t R.RING_STAT_IDLE r = 0 ∧ (ringGet t r).blk = some a ∧
        (Memory.wf s.easel = true → OnlyWrites (ringRec s r) (zeros 8) s t) ∧
        (∀ j, j ≠ r → ringGet t j = ringGet s j ∧ ringEn t j = ringEn s j))) ∧
    (ringOk s r = false → Ends (.ringEnable p) s (fun t =>
      t = cfgReject pgRings R.RING_CTRL_EN.off 3 .live (some p) { s with woLatch := t.woLatch }))) ∧
  (∀ (s : State) (r : Nat), rd s pgRings R.RING_SEL_RING = r → quiet s = true → ringEn s r = true →
    Ends .ringDisable s (fun t => ringEn t r = false ∧ (∀ j, j ≠ r → ringEn t j = ringEn s j))) ∧
  (∀ (s : State) (r : Nat),
    (quiet s = true → (ringEn s r = false ∨ takesWork s = false ∨ halfUp s (ringHome s r) = false) →
      exec (.ringPoll r) s = .next s) ∧
    (Polled s r → ringNew s r = 0 → Ends (.ringPoll r) s (fun t =>
      ringV t R.RING_STAT_CI r = ringV s R.RING_STAT_CI r ∧ t = { s with regs := t.regs } ∧
      RegsKept [(pgRings, R.RING_STAT_PI.off), (pgMatch (ringHome s r), R.MATCH_CNT_POLL.off)] s t)) ∧
    (Polled s r → 2 ^ ringV s R.RING_CTRL_SIZE_LOG2 r < ringNew s r → Ends (.ringPoll r) s (fun t =>
      ringV t R.RING_STAT_LAPPED r = 1 ∧ ringEn t r = false ∧ (rd t pgRings R.EVT_RAW).testBit 1 = true ∧
      ringV t R.RING_STAT_CI r = ringV s R.RING_STAT_CI r ∧ t.dikar.next = s.dikar.next)) ∧
    (∀ m, Polled s r → ringNew s r ≠ 0 → ringNew s r ≤ 2 ^ ringV s R.RING_CTRL_SIZE_LOG2 r →
      m = min (min (ringNew s r) 64) (freeSlots s (ringHome s r)) → m ≠ 0 →
      Ends (.ringPoll r) s (fun t => t.dikar.next = s.dikar.next + m ∧
        ringV t R.RING_STAT_CI r =
          (ringV s R.RING_STAT_CI r + m) % 2 ^ (ringV s R.RING_CTRL_SIZE_LOG2 r + 1)))) ∧
  (∀ (s : State) (r : Nat), quiet s = true → ringEn s r = false →
    (ringV s R.RING_STAT_IDLE r ≠ 1 → (ringGet s r).descs = [] → (ringGet s r).open_ = 0 →
      s.dikar.ops.any (fun d => d.ring.any (fun x => x.1 == r)) = false →
      Ends (.ringIdle r) s (fun t => ringV t R.RING_STAT_IDLE r = 1 ∧ (ringGet t r).blk = none ∧
        (rd t pgRings R.EVT_RAW).testBit 0 = true ∧ (∀ j, j ≠ r → ringGet t j = ringGet s j))) ∧
    (ringV s R.RING_STAT_IDLE r = 1 → exec (.ringIdle r) s = .next s))

/-- O35. Every counter clear sets its page's counters to zero, FREEZE or not, changes nothing else, and is dropped on
a dead page. 02_hokuken_side.md R89; 04_palette_windows.md R155; 05_crossing_rules.md R192;
06_light_list_and_angle_time.md R232; 08_dikar_object_service.md R301; 09_contexts_matching_rings.md R337;
13_queues_and_arbiters.md R450; 14_lantern_events.md R475; 15_register_pages_and_host_port.md R489;
15_register_pages_and_host_port.md R490; 15_register_pages_and_host_port.md R504;
16_protection_and_two_party_commit.md R549 -/
def Obligations.CounterClearsClearTheirCounters : Prop :=
  (∀ (s : State) (h : Half) (n m : Nat),
    ClearsExactly (.fiuCntClr n) (pgFiu n) R.FIU_CNT_CLR.off fiuCounters s ∧
    ClearsExactly (.apuCntClr m) (pgApu m) R.APU_CNT_CLR.off apuCounters s ∧
    ClearsExactly (.palCntClr h) (pgPalette h) R.PAL_CNT_CLR.off palCounters s ∧
    ClearsExactly (.cxCntClr h) (pgCrossing h) R.CX_CNT_CLR.off (crossCounters ++ [R.CX_LOCK_MAX]) s ∧
    ClearsExactly (.llCntClr h) (pgLight h) R.LL_CNT_CLR.off lightCounters s ∧
    ClearsExactly (.schCntClr h) (pgSched h) R.SCH_CNT_CLR.off (schedCounters ++ [R.SCH_STAT_HIGH_WATER]) s ∧
    ClearsExactly (.plCntClr h) (pgPlace h) R.PL_CNT_CLR.off placeCounters s ∧
    ClearsExactly (.dkCntClr h) (pgDikar h) R.DK_CNT_CLR.off (dikarCounters ++ [R.DK_STAT_HIGH_WATER]) s ∧
    ClearsExactly (.mtCntClr h) (pgMatch h) R.MT_CNT_CLR.off matchCounters s ∧
    ClearsExactly (.colCntClr h) (pgColl h) R.COL_CNT_CLR.off collCounters s ∧
    ClearsExactly (.ezCntClr h) (pgEasel h) R.EZ_CNT_CLR.off easelCounters s ∧
    ClearsExactly (.erCntClr h) (pgErasure h) R.ER_CNT_CLR.off erasureCounters s ∧
    ClearsExactly .glCntClr pgGlobal R.GL_CNT_CLR.off [R.GLOBAL_CNT_CFG_REJECT] s ∧
    ClearsExactly .hpCntClr pgHost R.HP_CNT_CLR.off hostCounters s ∧
    ClearsExactly .prCntClr pgProtect R.PR_CNT_CLR.off protectCounters s ∧
    ClearsExactly .prmCntClr pgPrimacy R.PRM_CNT_CLR.off primacyCounters s ∧
    ClearsExactly .kpCntClr pgKeeper R.KP_CNT_CLR.off keeperCounters s ∧
    ClearsExactly (.calCntClr h) (pgCal h) R.CAL_CNT_CLR.off calCounters s ∧
    ClearsExactly (.stCntClr h) (pgMgmt h) R.ST_CNT_CLR.off mgmtCounters s ∧
    ClearsExactly .dpClr pgDataPort R.DP_CLR.off ([R.DP_STAT_ERR_VALID, R.DP_STAT_ERR_CODE, R.DP_STAT_ERR_COUNT, R.DP_ERR_ADDR]) s) ∧
  (∀ (s : State) (r : Nat), TablesWf s → pageLive s (pgRegQ r) = true → Ends (.qCntClr r) s (fun t =>
    t = { s with fifos := t.fifos, arbs := t.arbs, woLatch := t.woLatch } ∧
    (∀ q, q < 65536 → fifoGet t r q = { fifoGet s r q with corr := 0, uncorr := 0, flushDrop := 0, high := 0 } ∧
      (∀ x, (arbReq r q (arbGet t r q) x).grants = 0 ∧ (arbReq r q (arbGet t r q) x).waits = 0 ∧
        (arbReq r q (arbGet t r q) x).longest = 0)) ∧
    (∀ k, k / 65536 ≠ r → tget {} t.fifos k = tget {} s.fifos k ∧ tget {} t.arbs k = tget {} s.arbs k))) ∧
  (∀ (s : State) (r : Nat), pageLive s (pgRegQ r) = false →
    Ends (.qCntClr r) s (fun t => t = barErr 4 (barOff (pgRegQ r) R.Q_CNT_CLR.off) s)) ∧
  (∀ (s : State), Ends .lanCntClr s (fun t => (∀ f ∈ lanCounters, rd t pgLantern f = 0) ∧
    (∀ i, rdI t pgLantern R.LAN_SRC_STAT_STRIKES i = 0) ∧ t = { s with regs := t.regs, woLatch := t.woLatch } ∧
    (∀ (k : RKey) (d : Nat), (∀ f ∈ lanCounters, k ≠ f.key pgLantern 0) →
      (∀ i, k ≠ R.LAN_SRC_STAT_STRIKES.key pgLantern i) → tgetBy d t.regs k = tgetBy d s.regs k)))

/-- O36. A member whose data is durable is gathered; a collective closes, completes its members, tells its nodes and
lingers. 10_collective_io.md R343; 10_collective_io.md R344; 10_collective_io.md R346; 10_collective_io.md R347;
10_collective_io.md R349; 10_collective_io.md R351 -/
def Obligations.CollectivesGatherAndClose : Prop :=
  (∀ (s : State) (h : Half) (i k : Nat) (r : Coll) (d : DOp) (w : Write),
    opGet s d.id = some d → d.coll = some (i, k) → d.h = h → d.home = h → d.durable = true → recGet s h i = some r →
    r.over = false → d.write = some r.write → wrGet s r.write = some w → rdB s (pgColl h) R.COL_CTRL_EARLY = false →
    Settles (.collMemberGathered h d.id) s (fun u =>
      opGet u d.id = some { d with
        st := .member, slot := false, received := true, crc := crc64 (wrBytes s w h d.off d.len) } ∧
      (∀ j, j ≠ d.id → opGet u j = opGet s j) ∧
      wrGet u r.write = some { w with ranges := w.ranges ++ [(d.off, d.len)], ops := w.ops ++ [(d.id, d.ctx)] } ∧
      rd u (pgColl h) R.COLLECTIVE_CNT_MEMBER = rd (bump (pgColl h) R.COLLECTIVE_CNT_MEMBER s) (pgColl h) R.COLLECTIVE_CNT_MEMBER ∧
      u = { s with regs := u.regs, dikar := u.dikar, objs := u.objs } ∧
      RegsKept [(pgColl h, R.COLLECTIVE_CNT_MEMBER.off)] s u)) ∧
  (∀ (s : State) (h : Half) (id : Nat), (∀ d, opGet s id = some d → d.durable = false ∨ d.h ≠ h ∨ d.coll = none) →
    Settles (.collMemberGathered h id) s (fun u => u = s)) ∧
  (∀ (s : State) (h : Half) (i : Nat) (r : Coll), recGet s h i = some r → nowH s h < r.deadline →
    Settles (.collDeadline h i) s (fun u => u = s)) ∧
  (∀ (s : State) (h : Half) (i : Nat) (r : Coll) (d : DOp), OneMember s h i r d → MemberIn r d → r.closing = false →
    r.deadline ≤ nowH s h → 1 < r.nmemb → r.partialOk = false →
    s.objs.stripes.filter (fun x => x.write == r.write) = [] →
    Settles (.collDeadline h i) s (fun u => ClosedWith h i r stCOLL_TIMEOUT u ∧ Completed d stCOLL_TIMEOUT s u ∧
      (rd u (pgColl h) R.EVT_RAW).testBit 0 = true ∧ (rd u (pgColl h) R.EVT_RAW).testBit 1 = true ∧
      rd u (pgColl h) R.COLLECTIVE_CNT_COLL_ABANDON =
        rd (bump (pgColl h) R.COLLECTIVE_CNT_COLL_ABANDON s) (pgColl h) R.COLLECTIVE_CNT_COLL_ABANDON ∧
      u.objs.nextOrd = s.objs.nextOrd ∧ (∀ n, nameAt u n = nameAt s n))) ∧
  (∀ (s : State) (h : Half) (i : Nat) (r : Coll) (d : DOp) (w : Write), OneMember s h i r d → MemberIn r d →
    r.closing = false → r.nmemb = 1 → wrGet s r.write = some w → nameStepOk s = true → nameRoom s h = true →
    s.objs.stripes.filter (fun x => x.write == r.write) = [] →
    Settles (.collEffect h i) s (fun u => ClosedWith h i r stOK u ∧ Completed d stOK s u ∧
      rd u (pgColl h) R.COLLECTIVE_CNT_COLL_OK =
        rd (bump (pgColl h) R.COLLECTIVE_CNT_COLL_OK s) (pgColl h) R.COLLECTIVE_CNT_COLL_OK ∧
      u.objs.nextOrd = s.objs.nextOrd + 1)) ∧
  (∀ (s : State) (h : Half) (i : Nat) (r : Coll), recGet s h i = some r → r.over = false → r.closing = false →
    collAllIn s r = false → Settles (.collEffect h i) s (fun u => u = s)) ∧
  (∀ (s : State) (h : Half) (i n : Nat) (r : Coll), recGet s h i = some r → r.over = true →
    r.nodes.find? (fun m => !((recOps s r).map (·.src)).contains m) = some n →
    Settles (.collNotify h i) s (fun u => recGet u h i = some { r with nodes := r.nodes.erase n } ∧
      rd u (pgColl h) R.COLLECTIVE_CNT_NOTIFY =
        rd (bump (pgColl h) R.COLLECTIVE_CNT_NOTIFY (sendPkt h (mkEVT n 0xC1 r.obj (bodyBytes r.doneBody)) s)) (pgColl h)
          R.COLLECTIVE_CNT_NOTIFY ∧
      pktOpen u s.nextPid = true ∧
      u = { sendPkt h (mkEVT n 0xC1 r.obj (bodyBytes r.doneBody)) s with regs := u.regs, coll := u.coll })) ∧
  (∀ (s : State) (h : Half) (obj tag : Nat), Ends (.lingerExpiry h obj tag) s (fun t =>
    (t.coll.at h).linger = (s.coll.at h).linger.filter (fun e => e != (obj, tag)) ∧
    t = { s with coll := t.coll } ∧ t.coll.at h.twin = s.coll.at h.twin ∧ (t.coll.at h).recs = (s.coll.at h).recs))

/-- O37. A carve, a FORMAT and a change of SVC are checked in their order, refused with their causes, or take effect
whole. 11_easel_staging_memory.md R364; 11_easel_staging_memory.md R365; 11_easel_staging_memory.md R366;
11_easel_staging_memory.md R396 -/
def Obligations.CarvesFormatAndServiceAreChecked : Prop :=
  ∀ (s : State) (p : Path), quiet s = true →
    (∀ v : BitVec 64, carveOf v.toNat = carveFlds.map (rd s pgEaselG) →
      Ends (.ezgCarveWrite v p) s (fun t => t = { s with woLatch := t.woLatch })) ∧
    (∀ v : BitVec 64, carveOf v.toNat ≠ carveFlds.map (rd s pgEaselG) → rdB s pgEaselG R.EZG_CTRL_SVC = true →
      Ends (.ezgCarveWrite v p) s (fun t =>
        t = cfgReject pgEaselG R.EZG_CARVE_NAME_LOG2.off 1 .stopped (some p) { s with woLatch := t.woLatch })) ∧
    (∀ (v : BitVec 64) (k : Nat), carveOf v.toNat ≠ carveFlds.map (rd s pgEaselG) →
      rdB s pgEaselG R.EZG_CTRL_SVC = false →
      (carveOk s (carveOf v.toNat) = false ∧ k = 2 ∨
        carveOk s (carveOf v.toNat) = true ∧ carveBusy s = true ∧ k = 4 ∨
        carveOk s (carveOf v.toNat) = true ∧ carveBusy s = false ∧
          (carveOf v.toNat).take 3 ≠ (carveFlds.map (rd s pgEaselG)).take 3 ∧ carveHolds s = true ∧ k = 5) →
      Ends (.ezgCarveWrite v p) s (fun t => rd t pgEaselG R.EZG_STAT_CAUSE = k ∧
        t = cfgReject pgEaselG R.EZG_CARVE_NAME_LOG2.off 3 .stopped (some p)
          (wr pgEaselG R.EZG_STAT_CAUSE k { s with woLatch := t.woLatch }))) ∧
    (∀ v : BitVec 64, carveOf v.toNat ≠ carveFlds.map (rd s pgEaselG) → rdB s pgEaselG R.EZG_CTRL_SVC = false →
      carveOk s (carveOf v.toNat) = true → carveBusy s = false →
      ((carveOf v.toNat).take 3 = (carveFlds.map (rd s pgEaselG)).take 3 ∨ carveHolds s = false) →
      Ends (.ezgCarveWrite v p) s (fun t => carveFlds.map (rd t pgEaselG) = carveOf v.toNat ∧
        rd t pgEaselG R.EZG_STAT_CAUSE = 0 ∧
        rd t pgEaselG R.EZG_STAT_CARVE_GEN = (rd s pgEaselG R.EZG_STAT_CARVE_GEN + 1) % 2 ^ 32 ∧
        (∀ h, (t.place.at h).cache = [] ∧ (t.place.at h).map = (s.place.at h).map) ∧ t.objs.names = s.objs.names ∧
        (rd t pgEaselG R.EVT_RAW).testBit 0 = true ∧ t.easel = s.easel)) ∧
    (∀ gen : BitVec 32, (rdB s pgEaselG R.EZG_CTRL_SVC = true ∨ (∃ h, (s.place.at h).used ≠ []) ∨
        gen.toNat ≠ rd s pgEaselG R.EZG_STAT_CARVE_GEN) →
      Ends (.ezgFormat gen p) s (fun t => rd t pgEaselG R.EZG_STAT_CAUSE = 6 ∧
        t = cfgReject pgEaselG R.EZG_CMD_OP.off 3 .live (some p)
          (wr pgEaselG R.EZG_STAT_CAUSE 6 { s with woLatch := t.woLatch }))) ∧
    (∀ gen : BitVec 32, rdB s pgEaselG R.EZG_CTRL_SVC = false → (∀ h, (s.place.at h).used = []) →
      gen.toNat = rd s pgEaselG R.EZG_STAT_CARVE_GEN →
      Ends (.ezgFormat gen p) s (fun t => t.objs.names = [] ∧ t.objs.writes = [] ∧ t.objs.stripes = [] ∧
        (∀ h, (t.place.at h).map = [] ∧ (t.place.at h).cache = [] ∧ (t.place.at h).lost = []) ∧
        rd t pgEaselG R.EZG_STAT_CARVE_GEN = (rd s pgEaselG R.EZG_STAT_CARVE_GEN + 1) % 2 ^ 32 ∧
        carveFlds.map (rd t pgEaselG) = carveFlds.map (rd s pgEaselG) ∧ (rd t pgEaselG R.EVT_RAW).testBit 1 = true)) ∧
    (∀ v, v = rdB s pgEaselG R.EZG_CTRL_SVC →
      Ends (.ezgSvcWrite v p) s (fun t => t = { s with woLatch := t.woLatch })) ∧
    (∀ v, v ≠ rdB s pgEaselG R.EZG_CTRL_SVC → (if v then ezState s = 1 else svcNeeded s = false) →
      Ends (.ezgSvcWrite v p) s (fun t => rdB t pgEaselG R.EZG_CTRL_SVC = v ∧
        t = { s with regs := t.regs, woLatch := t.woLatch } ∧
        (∀ (k : RKey) (d : Nat), k ≠ R.EZG_CTRL_SVC.key pgEaselG 0 → tgetBy d t.regs k = tgetBy d s.regs k))) ∧
    (∀ v, v ≠ rdB s pgEaselG R.EZG_CTRL_SVC → (if v then ezState s ≠ 1 else svcNeeded s = true) →
      Ends (.ezgSvcWrite v p) s (fun t =>
        t = cfgReject pgEaselG R.EZG_CTRL_SVC.off 3 .live (some p) { s with woLatch := t.woLatch }))

/-- O38. Pages are released, the cache fills, checkpoints free the journal, patrol reads correct and retire lines, the
gap moves. 11_easel_staging_memory.md R375; 11_easel_staging_memory.md R377; 11_easel_staging_memory.md R381;
11_easel_staging_memory.md R386; 11_easel_staging_memory.md R387; 11_easel_staging_memory.md R388;
11_easel_staging_memory.md R391; 11_easel_staging_memory.md R392; 11_easel_staging_memory.md R393 -/
def Obligations.EaselKeepsItsPagesAndLines : Prop :=
  (∀ (s : State) (h : Half) (p : Nat), quiet s = true →
    ((s.place.at h).used.contains p = false ∨ pageHeld s h p = true → exec (.pageRelease h p) s = .next s) ∧
    ((s.place.at h).used.contains p = true → pageHeld s h p = false → jrnlRoom s h = false →
      Ends (.pageRelease h p) s (fun t => (t.place.at h).used = (s.place.at h).used ∧ (t.jrnl.at h).full = true ∧
        rd t (pgEasel h) R.EASEL_CNT_JRNL_WAIT =
          rd (bump (pgEasel h) R.EASEL_CNT_JRNL_WAIT s) (pgEasel h) R.EASEL_CNT_JRNL_WAIT ∧
        ((s.jrnl.at h).full = false → (rd t (pgEasel h) R.EVT_RAW).testBit 1 = true))) ∧
    ((s.place.at h).used.contains p = true → pageHeld s h p = false → jrnlRoom s h = true → NoRetry s →
      s.objs.stripes.filter (fun x => x.st == .merge && !x.held && !x.gone) = [] →
      Ends (.pageRelease h p) s (fun t =>
        (t.place.at h).used = (s.place.at h).used.filter (fun q => q != p) ∧
        (∀ w ∈ t.objs.writes, ∀ g ∈ w.pages, g.half = h → g.page ≠ p) ∧
        (t.jrnl.at h).fill = (s.jrnl.at h).fill + (stepShape s).2 ∧
        (t.jrnl.at h).jseq = ((s.jrnl.at h).jseq + (stepShape s).1) % 2 ^ 64 ∧ t.objs.stripes = s.objs.stripes ∧
        t.easel = s.easel))) ∧
  (∀ (s : State) (h : Half), quiet s = true → prState s ≠ prSEALED → (s.jrnl.at h).owed = [] →
    Ends (.journalCheckpoint h) s (fun t => (t.jrnl.at h).fill = 1 ∧ (t.jrnl.at h).full = false ∧
      (t.jrnl.at h).jseq = ((s.jrnl.at h).jseq + 1) % 2 ^ 64 ∧ t = { s with jrnl := t.jrnl } ∧
      t.jrnl.at h.twin = s.jrnl.at h.twin)) ∧
  (∀ (s : State) (h : Half), quiet s = true →
    ((s.place.at h).fills = [] → exec (.cacheFill h) s = .next s) ∧
    (∀ f r q, (s.place.at h).fills = f :: r → cachePlace s h f = some q → Memory.wf s.easel = true →
      Ends (.cacheFill h) s (fun t => (t.place.at h).fills = r ∧
        (t.place.at h).cache = (s.place.at h).cache.filter (fun c => c.place != q) ++ [⟨f.obj, f.panel, q⟩] ∧
        OnlyWrites (cacheAddr s h q) (ezRead s (pageAddr s h f.page) panelBytes) s t))) ∧
  (∀ (s : State) (st n a : Nat) (h : Half) (both : Bool), Patrolled s st n a h →
    Ends (.patrolRead st n [0, 0, 0, 0] both) s (fun t => BytesKept s t ∧ (t.place.at h).warned.contains a = false ∧
      t = { s with place := t.place }) ∧
    (∀ e, 1 ≤ e → e ≤ 2 → (s.place.at h).warned.contains a = false →
      Ends (.patrolRead st n [e] both) s (fun t => BytesKept s t ∧ (t.place.at h).warned.contains a = true ∧
        (t.place.at h).retired = (s.place.at h).retired ∧ (rd t (pgEasel h) R.EVT_RAW).testBit 8 = true ∧
        rd t (pgEasel h) R.EASEL_CNT_CORR = rd (bump (pgEasel h) R.EASEL_CNT_CORR s) (pgEasel h) R.EASEL_CNT_CORR)) ∧
    (∀ e left, 3 ≤ e → e ≤ 4 → (s.place.at h).retired.contains a = false →
      left = rdI s (pgEasel h) R.EZ_STK_VIEW_1_SPARES_LEFT (st % 4) → 1 < left →
      left < 2 ^ R.EZ_STK_VIEW_1_SPARES_LEFT.w →
      Ends (.patrolRead st n [e] both) s (fun t => BytesKept s t ∧
        (t.place.at h).retired = (s.place.at h).retired ++ [a] ∧
        rdI t (pgEasel h) R.EZ_STK_VIEW_1_SPARES_LEFT (st % 4) = left - 1 ∧
        (rd t (pgEasel h) R.EVT_RAW).testBit 9 = true)) ∧
    (regionOf s (a % 2 ^ 40) = 8 → Ends (.patrolRead st n [5] both) s (fun t => Uncorrectable h st a 8 0 s t ∧
      BytesKept s t ∧ (t.place.at h).cache =
        (s.place.at h).cache.filter (fun c => c.place != (a % 2 ^ 40 - regionBase s 8) / panelBytes))) ∧
    (regionOf s (a % 2 ^ 40) = 3 → Ends (.patrolRead st n [5] both) s (fun t => Uncorrectable h st a 3 0 s t ∧
      BytesKept s t ∧ (t.place.at h).badNames.contains ((a % 2 ^ 40 - regionBase s 3) / 64) = true))) ∧
  (∀ (s : State) (st : Nat) (h : Half), quiet s = true → st < 8 → h = stackHalf st →
    (rdB s pgEaselG R.EZG_CTRL_WL_EN = false ∨
      rdI s (pgEasel h) R.EZ_STK_VIEW_0_LINE_WRITES (st % 4) < (gapGet s h (st % 4)).1 + 64 →
      exec (.wearGapCopy st) s = .next s) ∧
    (rdB s pgEaselG R.EZG_CTRL_WL_EN = true →
      (gapGet s h (st % 4)).1 + 64 ≤ rdI s (pgEasel h) R.EZ_STK_VIEW_0_LINE_WRITES (st % 4) →
      (gapGet s h (st % 4)).2 ≤ 2 ^ 30 →
      Ends (.wearGapCopy st) s (fun t => BytesKept s t ∧
        gapGet t h (st % 4) = ((gapGet s h (st % 4)).1 + 65, ((gapGet s h (st % 4)).2 + 1) % (2 ^ 30 + 1)) ∧
        rdI t (pgEasel h) R.EZ_STK_VIEW_0_LINE_WRITES (st % 4) =
          (rdI s (pgEasel h) R.EZ_STK_VIEW_0_LINE_WRITES (st % 4) + 1) % 2 ^ 64))) ∧
  (∀ (s : State) (h : Half) (v : BitVec 32), pageLive s (pgEasel h) = true →
    Ends (.ezElogTailWrite h v) s (fun t =>
      rd t (pgEasel h) R.EZ_ELOG_TAIL =
        (if tailOk (rd s (pgEasel h) R.EZ_ELOG_HEAD) v.toNat 4096 then v.toNat else rd s (pgEasel h) R.EZ_ELOG_TAIL) ∧
      t = { s with regs := t.regs, woLatch := t.woLatch } ∧ RegsKept [(pgEasel h, R.EZ_ELOG_TAIL.off)] s t))

/-- O39. Scrub reads are inserted for idle lights, late passes reported, and LOST stripes queued, delayed, repaired or
unreadable. 12_erasure_integrity_gesso.md R411; 12_erasure_integrity_gesso.md R412; 12_erasure_integrity_gesso.md
R414; 12_erasure_integrity_gesso.md R415; 12_erasure_integrity_gesso.md R416; 12_erasure_integrity_gesso.md R417 -/
def Obligations.ScrubsAndRepairsGoOn : Prop :=
  (∀ (s : State) (l : Nat), quiet s = true →
    (rdB s (pgErasure (lHalf l)) R.ER_CTRL_SCRUB_EN = false ∨ takesWork s = false ∨ scrubbable s l = false ∨
      lightBusy s l = true → exec (.scrubInsert l) s = .next s) ∧
    (∀ e h, ScrubIdle s l h → (plt s l).scrub = none → (plt s l).pass.isSome = true → unread s l ≠ [] →
      scrubPick s l = some e →
      Ends (.scrubInsert l) s (fun t => (plt t l).scrub = some (e.obj, e.stripe, e.member, true) ∧
        (∃ x, (t.sched.at h).events = (s.sched.at h).events ++ [x] ∧ x.light = l ∧ x.op = 2 ∧ x.track = e.track ∧
          x.slot = e.slot ∧ x.count = e.strip + 1 ∧ x.owner = .scrub l) ∧
        t = { s with regs := t.regs, sched := t.sched, objs := t.objs, lights := t.lights } ∧
        RegsKept [(pgSched h, R.SCH_STAT_HIGH_WATER.off)] s t))) ∧
  (∀ (s : State) (l : Nat), quiet s = true →
    (∀ due, (plt s l).pass = some (due, false) → due ≤ nowH s (lHalf l) → scrubbable s l = true →
      Ends (.scrubLate l) s (fun t => (plt t l).pass = some (due, true) ∧
        (rd t (pgErasure (lHalf l)) R.EVT_RAW).testBit 2 = true ∧
        t = { s with regs := t.regs, strikes := t.strikes, objs := t.objs } ∧
        RegsKept (evtRegs (pgErasure (lHalf l))) s t)) ∧
    (∀ due, (plt s l).pass = some (due, true) → exec (.scrubLate l) s = .next s)) ∧
  (∀ (s : State) (l : Nat), quiet s = true →
    (lightState s l = lsFAULT → Ends (.repairDelayExpiry l) s (fun t => (plt t l).delayOver = true ∧
      t = { s with objs := t.objs } ∧ (∀ j, j ≠ l → plt t j = plt s j))) ∧
    (lightState s l ≠ lsFAULT → exec (.repairDelayExpiry l) s = .next s)) ∧
  (∀ (s : State) (h : Half),
    (quiet s = true → (rdB s (pgErasure h) R.ER_CTRL_REPAIR_EN = false ∨ takesWork s = false ∨
      min 4096 (max 1 (rd s (pgErasure h) R.ER_CTRL_REPAIR_MAX)) ≤ repairsOn s h ∨ repairPick s h = none) →
      exec (.repairStart h) s = .next s) ∧
    (∀ r, rdB s (pgErasure h) R.ER_CTRL_REPAIR_EN = true → takesWork s = true →
      repairsOn s h < min 4096 (max 1 (rd s (pgErasure h) R.ER_CTRL_REPAIR_MAX)) → repairPick s h = some r →
      objHome r.obj = h → mapStripe s r.obj r.num ≠ [] → (∀ e ∈ mapStripe s r.obj r.num, e.lost = true) →
      Settles (.repairStart h) s (fun u =>
        (∀ y ∈ (u.place.at h).repairs, y.obj = r.obj → y.num = r.num → y.unreadable = true ∧ y.job = none) ∧
        (rd u (pgErasure h) R.EVT_RAW).testBit 4 = true ∧
        rd u (pgErasure h) R.ERASURE_CNT_UNREADABLE =
          rd (bump (pgErasure h) R.ERASURE_CNT_UNREADABLE s) (pgErasure h) R.ERASURE_CNT_UNREADABLE))) ∧
  (∀ (s : State) (h : Half), quiet s = true → Ends (.unreadableRetry h) s (fun t =>
    t = { s with place := t.place } ∧ (t.place.at h).repairs.length = (s.place.at h).repairs.length ∧
    (∀ (i : Nat) (r : RepRec), (s.place.at h).repairs[i]? = some r → (t.place.at h).repairs[i]? = some (if 0 ≤ spareMembers s r then
      { r with
        unreadable := false } else r)))) ∧
  (∀ (s : State) (h : Half), quiet s = true →
    ((s.place.at h).sweep = false → exec (.mapSweep h) s = .next s) ∧
    ((s.place.at h).sweep = true → (s.place.at h).map.all (fun e => !e.lost) = true →
      Ends (.mapSweep h) s (fun t => t = { s with place := t.place } ∧ (t.place.at h).sweep = false ∧
        (t.place.at h).repairs = (s.place.at h).repairs)) ∧
    (∀ e, (s.place.at h).sweep = true → (s.place.at h).repairs.length < 65536 → objHome e.obj = h →
      (s.place.at h).map.filter (fun x => x.lost && !(s.place.at h).repairs.any (fun r =>
        r.obj == x.obj && r.num == x.stripe && r.lost.any (fun m => m.1 == x.member))) = [e] →
      (s.place.at h).repairs.any (fun r => r.obj == e.obj && r.num == e.stripe) = false →
      Ends (.mapSweep h) s (fun t => t = { s with place := t.place } ∧
        (t.place.at h).repairs = (s.place.at h).repairs ++
          [{ obj := e.obj, num := e.stripe, lost := [(e.member, lightState s e.light == lsFAULT)] }])))

/-- O40. GS_CMD START is refused with its cause or begins a job; a job whose units have all ended reports; ABORT ends
them. 12_erasure_integrity_gesso.md R419; 12_erasure_integrity_gesso.md R420; 12_erasure_integrity_gesso.md R423 -/
def Obligations.GessoJobsStartAndEnd : Prop :=
  ∀ (s : State) (h : Half),
    (∀ n stn us c, GessoTarget s h n stn us → quiet s = true → gessoRefusal s h n stn us = some c →
      resRoom s (resOf h) 1 = true →
      Ends (.gessoStart h) s (fun t => ResultPushed (resOf h) 6 [2 ^ 51 + n * 2 ^ 45 + stn * 2 ^ 41 + c * 2 ^ 37] s t ∧
        t = { s with regs := t.regs, strikes := t.strikes, results := t.results, woLatch := t.woLatch } ∧
        RegsKept (evtRegs (resPage (resOf h))) s t)) ∧
    (∀ n stn us, GessoTarget s h n stn us → quiet s = true → gessoRefusal s h n stn us = none →
      (s.place.at h).jobs = [] → takesWork s = true → us.all (fun x => x.out.isSome) = true →
      jobFlying s h 0 = false → resRoom s (resOf h) (1 + us.length) = true →
      Ends (.gessoStart h) s (fun t =>
        ResultPushed (resOf h) 6 ((n * 2 ^ 45 + stn * 2 ^ 41) :: us.map (gunitWord s)) s t ∧ (t.place.at h).jobs = [] ∧
        (rd t (pgErasure h) R.EVT_RAW).testBit 5 = true ∧
        (us ≠ [] → (rd t (pgErasure h) R.EVT_RAW).testBit 6 = true))) ∧
    (∀ n stn x, GessoTarget s h n stn [x] → gessoRefusal s h n stn [x] = none → (s.place.at h).jobs = [] →
      takesWork s = true → x.out = none → x.begun = false → isDisc s x.light = true → lightState s x.light = lsLIT →
      2 ≤ (lgt s x.light).unitState → jobFlying s h 0 = false →
      Settles (.gessoStart h) s (fun u =>
        (∃ b, jobGet u h 0 = some b ∧ b.port = n ∧ b.stn = stn ∧ b.stamp = nowH s h ∧ b.ending = false) ∧
        plV u x.light R.PL_LIGHT_VIEW_0_WR_OFF = 1 ∧ erV u x.light R.ER_LIGHT_VIEW_PREP = 0 ∧
        plV u x.light R.PL_LIGHT_VIEW_0_WEAR = 0 ∧ plV u x.light R.PL_LIGHT_VIEW_0_CUR_TRACK = 0 ∧
        (plt u x.light).bad = [] ∧ (plt u x.light).tracks = [] ∧ u.results = s.results)) ∧
    (∀ j, pageLive s (pgErasure h) = true → quiet s = true → jobGet s h j = none →
      Ends (.gessoAbort h j) s (fun t => t = { s with woLatch := t.woLatch })) ∧
    (∀ j b x, pageLive s (pgErasure h) = true → (s.place.at h).jobs = [(j, b)] → b.units = [x] → x.out = none →
      jobFlying s h j = false → resRoom s (resOf h) 2 = true →
      Settles (.gessoAbort h j) s (fun u => ResultPushed (resOf h) 6
          [j * 2 ^ 53 + 2 * 2 ^ 51 + b.port * 2 ^ 45 + b.stn * 2 ^ 41, gunitWord s { x with out := some 7 }] s u ∧
        (u.place.at h).jobs = [] ∧ plV u x.light R.PL_LIGHT_VIEW_0_WR_OFF = 1 ∧
        (rd u (pgErasure h) R.EVT_RAW).testBit 5 = true ∧ (rd u (pgErasure h) R.EVT_RAW).testBit 6 = true))

/-- O41. One cycle of a single-clock FIFO, its level event, an uncorrectable entry, a flush and a write of LEVEL.
13_queues_and_arbiters.md R431; 13_queues_and_arbiters.md R432; 13_queues_and_arbiters.md R433;
13_queues_and_arbiters.md R434; 13_queues_and_arbiters.md R436; 13_queues_and_arbiters.md R437;
13_queues_and_arbiters.md R439; 13_queues_and_arbiters.md R440; 13_queues_and_arbiters.md R448;
13_queues_and_arbiters.md R451 -/
def Obligations.FifosPushPopFlushAndFireTheirLevels : Prop :=
  (∀ (s : State) (r qid cap k : Nat) (f : Fifo) (push : Option FPush) (pop : Bool), PlainFifo s r qid cap f →
    Ends (.fifoCycle r qid .both push pop ⟨k, false⟩) s (fun t =>
      (fifoGet t r qid).ents = cycleEnts cap push pop f.ents ∧
      (fifoGet t r qid).got = (if pop && !f.ents.isEmpty then f.ents.head?.map (·.id) else f.got) ∧
      (fifoGet t r qid).high = min (max f.high (cycleEnts cap push pop f.ents).length) (2 ^ 24 - 1) ∧
      (qType qid ≠ 7 → (fifoGet t r qid).corr =
        (if pop && !f.ents.isEmpty then min (f.corr + k) (2 ^ 32 - 1) else f.corr)) ∧
      (∀ q, q ≠ qKey r qid → tget {} t.fifos q = tget {} s.fifos q) ∧
      (levelFires (fifoLevel qid f) f.ents.length (cycleEnts cap push pop f.ents).length f.armed →
        (fifoGet t r qid).armed = false ∧ (fifoLevelRw qid = true →
          (rd t (pgRegQ r) R.EVT_RAW).testBit 0 = true ∧ rd t (pgRegQ r) R.Q_LAST_QID_LEVEL = qid)) ∧
      (¬ levelFires (fifoLevel qid f) f.ents.length (cycleEnts cap push pop f.ents).length f.armed →
        (fifoGet t r qid).armed = (f.armed || decide ((cycleEnts cap push pop f.ents).length < fifoLevel qid f ∧
          fifoLevel qid f ≤ f.ents.length)) ∧ t = { s with fifos := t.fifos, freeSeq := s.freeSeq + 1 }))) ∧
  (∀ (s : State) (r qid : Nat) (c : FClk) (push : Option FPush) (pop : Bool) (e : FErr), fifoCap s r qid = none →
    exec (.fifoCycle r qid c push pop e) s = .next s) ∧
  (∀ (s : State) (r qid cap k : Nat) (f : Fifo), PlainFifo s r qid cap f → qType qid = 9 → f.ents ≠ [] → quiet s = true →
    Ends (.fifoCycle r qid .both none true ⟨k, true⟩) s (fun t => (fifoGet t r qid).ents = f.ents.drop 1 ∧
      (fifoGet t r qid).got = none ∧ (fifoGet t r qid).uncorr = min (f.uncorr + 1) (2 ^ 32 - 1) ∧
      rd t (pgRegQ r) R.Q_LAST_QID_UNCORR = qid ∧ (rd t (pgRegQ r) R.EVT_RAW).testBit 1 = true)) ∧
  (∀ (s : State) (r qid cap : Nat) (p : Path), pageLive s (pgRegQ r) = true → fifoCap s r qid = some cap →
    (fifoOwnerOff s r qid = true → Ends (.qFlush r qid p) s (fun t =>
      (fifoGet t r qid).ents = [] ∧ (fifoGet t r qid).pops = [] ∧ (fifoGet t r qid).armed = true ∧
      (fifoGet t r qid).dropRest = (fifoGet s r qid).openPkt (fifoFramed qid) ∧
      (fifoGet t r qid).flushDrop = min ((fifoGet s r qid).flushDrop + (fifoGet s r qid).ents.length) (2 ^ 32 - 1) ∧
      (∀ q, q ≠ qKey r qid → tget {} t.fifos q = tget {} s.fifos q) ∧
      t = { s with fifos := t.fifos, woLatch := t.woLatch })) ∧
    (fifoOwnerOff s r qid = false → Ends (.qFlush r qid p) s (fun t =>
      t = cfgReject (pgRegQ r) R.Q_CFG_FLUSH.off 3 .stopped (some p) { s with woLatch := t.woLatch })) ∧
    (∀ v, fifoLevelRw qid = true → Ends (.qLevelWrite r qid v) s (fun t =>
      fifoGet t r qid = { fifoGet s r qid with
        level := min v cap, armed := decide ((fifoGet s r qid).depth < min v cap) } ∧
      (∀ q, q ≠ qKey r qid → tget {} t.fifos q = tget {} s.fifos q) ∧
      t = { s with fifos := t.fifos, woLatch := t.woLatch })) ∧
    (∀ v, fifoLevelRw qid = false → Ends (.qLevelWrite r qid v) s (fun t => t = { s with woLatch := t.woLatch })))

/-- O42. A decision grants the highest priority, ties by turn; losers age to their ceilings; a grant parks and is
taken again. 13_queues_and_arbiters.md R441; 13_queues_and_arbiters.md R442; 13_queues_and_arbiters.md R443;
13_queues_and_arbiters.md R444; 13_queues_and_arbiters.md R445; 13_queues_and_arbiters.md R446;
13_queues_and_arbiters.md R447; 13_queues_and_arbiters.md R449 -/
def Obligations.ArbitersDecideAgeAndPark : Prop :=
  (∀ (s : State) (r aid : Nat) (reqs : BitVec 8) (waits : List Nat), FreeArb r aid →
    ((∃ q, q < 8 ∧ (arbCfg r aid q).isSome = true ∧ reqs.toNat.testBit q = true) →
      ∃ w, MayWin r aid (arbGet s r aid) (reqs.toNat.testBit ·) w ∧
        Ends (.arbiterDecision r aid reqs waits) s (fun t => Decided r aid (reqs.toNat.testBit ·) w s t ∧
          t = { s with arbs := t.arbs })) ∧
    ((∀ q, q < 8 → (arbCfg r aid q).isSome = true → reqs.toNat.testBit q = false) →
      exec (.arbiterDecision r aid reqs waits) s = .next s)) ∧
  (∀ (s : State) (h : Half) (i : Nat) (reqs : BitVec 8) (waits : List Nat), i < 8 →
    (∃ q, q < 6 ∧ arbAsks s (regOf h) (0x21 * 1024 + i) 0 q = true) →
    ∃ w, MayWin (regOf h) (0x21 * 1024 + i) (arbGet s (regOf h) (0x21 * 1024 + i))
        (arbAsks s (regOf h) (0x21 * 1024 + i) 0) w ∧
      Ends (.arbiterDecision (regOf h) (0x21 * 1024 + i) reqs waits) s (fun t =>
        Decided (regOf h) (0x21 * 1024 + i) (arbAsks s (regOf h) (0x21 * 1024 + i) 0) w s t ∧
        (fiuGet t (fPort h i)).grant = some w ∧ t = { s with arbs := t.arbs, fiu := t.fiu })) ∧
  (∀ (s : State) (r aid w : Nat), FreeArb r aid → (arbGet s r aid).owner = some w → w < 8 →
    ((arbGet s r aid).held = false → Ends (.arbiterParkedGrant r aid) s (fun t => (arbGet t r aid).held = true ∧
      (arbGet t r aid).owner = some w ∧ (arbGet t r aid).last = (arbGet s r aid).last ∧
      (arbReq r aid (arbGet t r aid) w).p = (arbReq r aid (arbGet s r aid) w).p ∧
      (arbReq r aid (arbGet t r aid) w).grants = min ((arbReq r aid (arbGet s r aid) w).grants + 1) (2 ^ 32 - 1) ∧
      (∀ q, q ≠ w → arbReq r aid (arbGet t r aid) q = arbReq r aid (arbGet s r aid) q) ∧
      t = { s with arbs := t.arbs })) ∧
    ((arbGet s r aid).held = true → exec (.arbiterParkedGrant r aid) s = .next s) ∧
    ((arbGet s r aid).held = true → Ends (.grantPark r aid) s (fun t => (arbGet t r aid).held = false ∧
      (arbGet t r aid).owner = some w ∧ (arbGet t r aid).last = (arbGet s r aid).last ∧
      (∀ q, (arbReq r aid (arbGet t r aid) q).p = (arbReq r aid (arbGet s r aid) q).p) ∧
      t = { s with arbs := t.arbs })) ∧
    ((arbGet s r aid).held = false → exec (.grantPark r aid) s = .next s)) ∧
  (∀ (s : State) (r aid q : Nat) (b cl : BitVec 4), pageLive s (pgRegQ r) = true →
    (∀ b0 c0, arbCfg r aid q = some (b0, c0, false) → Ends (.aCfgWrite r aid q b cl) s (fun t =>
      (arbReq r aid (arbGet t r aid) q).base = b.toNat ∧ (arbReq r aid (arbGet t r aid) q).ceil = cl.toNat ∧
      ((arbReq r aid (arbGet s r aid) q).base ≠ b.toNat → (arbReq r aid (arbGet t r aid) q).p = b.toNat) ∧
      ((arbReq r aid (arbGet s r aid) q).base = b.toNat → (arbReq r aid (arbGet s r aid) q).ceil = cl.toNat →
        (arbReq r aid (arbGet t r aid) q).p = (arbReq r aid (arbGet s r aid) q).p) ∧
      ((arbReq r aid (arbGet s r aid) q).base = b.toNat → (arbReq r aid (arbGet s r aid) q).ceil ≠ cl.toNat →
        (arbReq r aid (arbGet t r aid) q).p = min (arbReq r aid (arbGet s r aid) q).p (max b.toNat cl.toNat)) ∧
      (arbGet t r aid).owner = (arbGet s r aid).owner ∧ (arbGet t r aid).held = (arbGet s r aid).held ∧
      t = { s with arbs := t.arbs, woLatch := t.woLatch })) ∧
    ((arbCfg r aid q).all (fun x => x.2.2) = true →
      Ends (.aCfgWrite r aid q b cl) s (fun t => t = { s with woLatch := t.woLatch })))

/-- O43. A strike is counted, summarised and sent to each enabled target of its route; events, summaries and routes
are written. 14_lantern_events.md R456; 14_lantern_events.md R458; 14_lantern_events.md R459; 14_lantern_events.md
R462; 14_lantern_events.md R463; 14_lantern_events.md R464; 14_lantern_events.md R465; 14_lantern_events.md R468;
14_lantern_events.md R473; 14_lantern_events.md R478 -/
def Obligations.StrikesReachTheirTargets : Prop :=
  (∀ (s : State), quiet s = true → strikeNext s = none → exec .strike s = .next s) ∧
  (∀ (s : State) (x : Strike), strikeNext s = some x → x.src < 256 →
    (quiet s = true → (rdB s pgLantern R.LAN_CTRL_EN = false ∨ RouteIs s x.src 0 0 0) →
      Ends .strike s (fun t => Counted x s t ∧ t = { s with regs := t.regs, strikes := t.strikes } ∧
        RegsKept (strikeRegs x.src) s t)) ∧
    (∀ v c, quiet s = true → RouteIs s x.src 1 0 0 → v = route s x.src R.LAN_ROUTE_VECTOR →
      s.lan.msixEn = true → s.lan.busMaster = true → hostAway s = false →
      c = min 65535 (rdI s pgLantern R.LAN_VEC_STAT_COUNT v + 1) → vecState s v ≤ vsDUE →
      Ends .strike s (fun t => Counted x s t ∧ rdI t pgLantern R.LAN_VEC_STAT_COUNT v = c ∧
        vecState t v = (if vecState s v = vsDUE ∨ modCnt s v ≤ c then vsDUE else vsCOLLECTING) ∧
        t = { s with regs := t.regs, strikes := t.strikes } ∧
        RegsKept ((pgLantern, R.LAN_VEC_STAT_STATE.off) :: strikeRegs x.src) s t ∧
        (∀ w, w ≠ v → vecState t w = vecState s w))) ∧
    (quiet s = true → RouteIs s x.src 1 0 0 → (s.lan.msixEn = false ∨ s.lan.busMaster = false) →
      Ends .strike s (fun t =>
        rd t pgLantern R.LANTERN_CNT_MSIX_DROP =
          rd (bump pgLantern R.LANTERN_CNT_MSIX_DROP s) pgLantern R.LANTERN_CNT_MSIX_DROP ∧
        (rd t pgLantern R.EVT_RAW).testBit 4 = true ∧
        (∀ w, vecState t w = vecState s w ∧
          rdI t pgLantern R.LAN_VEC_STAT_COUNT w = rdI s pgLantern R.LAN_VEC_STAT_COUNT w))) ∧
    (∀ y, RouteIs s x.src 0 1 0 → y = fabGet s x.half x.src → y.waiting = false → y.gap = false → s.lan.evtHeld = [] →
      s.lan.evtq.length < 4096 →
      Settles .strike s (fun u => Counted x s u ∧
        fabGet u x.half x.src = { y with
          count := 0, first := if y.count = 0 then x.time else y.first, last := x.time, waiting := true,
          seq := (y.seq + 1) % 2 ^ 32 } ∧
        u.lan.evtq = s.lan.evtq ++ [(s.nextPid, .source x.half x.src, y.count + 1)] ∧
        u.nextPid = s.nextPid + 1 ∧ pktOpen u s.nextPid = true)) ∧
    (∀ y, quiet s = true → RouteIs s x.src 0 1 0 → y = fabGet s x.half x.src → (y.waiting = true ∨ y.gap = true) →
      Ends .strike s (fun t => Counted x s t ∧ fabGet t x.half x.src = { y with
          count := y.count + 1, first := if y.count = 0 then x.time else y.first, last := x.time } ∧
        t = { s with regs := t.regs, strikes := t.strikes, lan := t.lan } ∧ t.lan.evtq = s.lan.evtq)) ∧
    (RouteIs s x.src 0 0 1 → Settles .strike s (fun u => Counted x s u ∧ u.mail = s.mail ++ [.wakeReq 5] ∧
      u = { s with regs := u.regs, strikes := u.strikes, mail := u.mail }))) ∧
  (∀ (s : State) (P : Nat) (m : BitVec 64), pageLive s P = true → Ends (.evtPendClear P m) s (fun t =>
    (∀ b, b < 64 → (rd t P R.EVT_PEND).testBit b = ((rd s P R.EVT_PEND).testBit b && !m.toNat.testBit b) ∧
      (rd t P R.EVT_RAW).testBit b = ((rd s P R.EVT_RAW).testBit b && !m.toNat.testBit b)) ∧
    t = { s with regs := t.regs, woLatch := t.woLatch } ∧ RegsKept (evtRegs P) s t)) ∧
  (∀ (s : State) (i : Nat) (m : BitVec 64), i < 4 → Ends (.lanSummaryClear i m) s (fun t =>
    (∀ b, b < 64 → (rd t pgLantern (R.LAN_SUMMARY.at i)).testBit b =
      ((rd s pgLantern (R.LAN_SUMMARY.at i)).testBit b && !m.toNat.testBit b)) ∧
    t = { s with regs := t.regs, woLatch := t.woLatch } ∧ RegsKept [(pgLantern, (R.LAN_SUMMARY.at i).off)] s t)) ∧
  (∀ (s : State) (src : Nat) (w : BitVec 64), src < 256 → Ends (.lanRouteWrite src w) s (fun t =>
    route t src R.LAN_ROUTE_MSIX_EN = bits w.toNat 63 63 ∧ route t src R.LAN_ROUTE_KEEP_EN = bits w.toNat 61 61 ∧
    route t src R.LAN_ROUTE_VECTOR = bits w.toNat 60 55 ∧ route t src R.LAN_ROUTE_FAB_DST = bits w.toNat 54 35 ∧
    route t src R.LAN_ROUTE_FAB_GAP_US = bits w.toNat 34 19 ∧
    (bits w.toNat 62 62 = 1 → route s src R.LAN_ROUTE_FAB_EN ≠ 1 → nodeReg s (bits w.toNat 54 35) = false →
      route t src R.LAN_ROUTE_FAB_EN = 0 ∧ (rd t pgLantern R.EVT_RAW).testBit 3 = true) ∧
    ((bits w.toNat 62 62 = 0 ∨ route s src R.LAN_ROUTE_FAB_EN = 1 ∨ nodeReg s (bits w.toNat 54 35) = true) →
      route t src R.LAN_ROUTE_FAB_EN = bits w.toNat 62 62 ∧ RegsKept [(pgLantern, R.LAN_ROUTE_FAB_EN.off)] s t) ∧
    (bits w.toNat 62 62 = 0 → route s src R.LAN_ROUTE_FAB_EN = 1 → ∀ h, (fabGet t h src).count = 0) ∧
    (∀ k, k ≠ src → ∀ f, route t k f = route s k f ∨ f.off = R.EVT_RAW.off ∨ f.off = R.EVT_PEND.off)))

/-- O44. A vector becomes DUE by its timer, and sends one message as soon as no mask, sleep or disable holds it.
14_lantern_events.md R464; 14_lantern_events.md R465; 14_lantern_events.md R466; 14_lantern_events.md R474;
14_lantern_events.md R479 -/
def Obligations.VectorsSendWhenNothingHoldsThem : Prop :=
  (∀ (s : State) (v : Nat),
    (vecState s v = vsCOLLECTING → rdI s pgLantern R.LAN_VEC_CFG_MOD_US v ≠ 0 → hostAway s = false →
      Ends (.vectorModTimer v) s (fun t => vecState t v = vsDUE ∧ t = { s with regs := t.regs } ∧
        RegsKept [(pgLantern, R.LAN_VEC_STAT_STATE.off)] s t ∧ (∀ w, w ≠ v → vecState t w = vecState s w) ∧
        (∀ w, rdI t pgLantern R.LAN_VEC_STAT_COUNT w = rdI s pgLantern R.LAN_VEC_STAT_COUNT w))) ∧
    ((vecState s v ≠ vsCOLLECTING ∨ rdI s pgLantern R.LAN_VEC_CFG_MOD_US v = 0) →
      exec (.vectorModTimer v) s = .next s)) ∧
  (∀ (s : State) (v : Nat),
    (sends s v = true → Ends (.vectorSend v) s (fun t => Sent [v] [] s t ∧
      rdI t pgLantern R.LAN_VEC_STAT_SENT v = (rdI s pgLantern R.LAN_VEC_STAT_SENT v + 1) % 2 ^ 32 ∧
      rd t pgLantern R.LANTERN_CNT_MSIX = rd (bump pgLantern R.LANTERN_CNT_MSIX s) pgLantern R.LANTERN_CNT_MSIX ∧
      t = { s with regs := t.regs, out := t.out })) ∧
    (sends s v = false → exec (.vectorSend v) s = .next s)) ∧
  (∀ (s : State) (x : MsixHold),
    Ends (.msixUnmask x) s (fun t => Sent ((List.range 64).filter (sends (msixSet x false s))) [] s t ∧
      t = { s with regs := t.regs, lan := t.lan, out := t.out } ∧ t.lan = (msixSet x false s).lan) ∧
    Ends (.msixMask x) s (fun t => t = { s with lan := t.lan } ∧
      match x with
      | .vector v => t.lan.vecMask.testBit (v % 64) = true ∧
        ∀ w, w ≠ v % 64 → t.lan.vecMask.testBit w = s.lan.vecMask.testBit w
      | .function => t.lan = { s.lan with funcMask := true }
      | .enable => t.lan = { s.lan with msixEn := false }
      | .busMaster => t.lan = { s.lan with busMaster := false })) ∧
  (∀ (s : State),
    Ends (.lanCtrlEnWrite true) s (fun t =>
      Sent ((List.range 64).filter (sends (wr pgLantern R.LAN_CTRL_EN 1 s))) [(pgLantern, R.LAN_CTRL_EN.off)] s t ∧
      rdB t pgLantern R.LAN_CTRL_EN = true) ∧
    Ends (.lanCtrlEnWrite false) s (fun t => rdB t pgLantern R.LAN_CTRL_EN = false ∧
      t = { s with regs := t.regs, woLatch := t.woLatch } ∧ RegsKept [(pgLantern, R.LAN_CTRL_EN.off)] s t)) ∧
  (∀ (s : State) (v : Nat) (w : BitVec 64), hostAway s = false → Ends (.lanVecCfgWrite v w) s (fun t =>
    rdI t pgLantern R.LAN_VEC_CFG_MOD_CNT v = bits w.toNat 39 32 ∧
    rdI t pgLantern R.LAN_VEC_CFG_MOD_US v = bits w.toNat 31 16 ∧
    vecState t v = (if vecState s v = vsCOLLECTING ∧
      max 1 (bits w.toNat 39 32) ≤ rdI s pgLantern R.LAN_VEC_STAT_COUNT v then vsDUE else vecState s v) ∧
    t = { s with regs := t.regs, woLatch := t.woLatch } ∧
    RegsKept [(pgLantern, R.LAN_VEC_CFG_MOD_CNT.off), (pgLantern, R.LAN_VEC_STAT_STATE.off)] s t))

/-- O45. A sleeping host holds messages and is woken; the gap of a route and the sending of its message free it for
the next. 14_lantern_events.md R466; 14_lantern_events.md R468; 14_lantern_events.md R471; 14_lantern_events.md R472;
15_register_pages_and_host_port.md R484 -/
def Obligations.HostSleepAndFabricMessagesHold : Prop :=
  (∀ (s : State) (d3 l1 pme : Bool), (d3 || l1) = true →
    (((∀ v, vecState s v ≠ vsDUE) ∨ s.lan.held = true) → Ends (.hostSleep d3 l1 pme) s (fun t => t.lan.asleep = true ∧
      t.lan.pmeEn = pme ∧ (d3 = true → rd t pgHost R.HP_LINK_DSTATE = 3) ∧ (l1 = true → rd t pgHost R.HP_LINK_L1 = 1) ∧
      t = { s with regs := t.regs, lan := t.lan } ∧ RegsKept [(pgHost, R.HP_LINK_L1.off)] s t)) ∧
    ((∃ v, vecState s v = vsDUE) → s.lan.held = false → s.lan.pmeStatus = false → pme = true →
      rdB s pgHost R.HP_LINK_UP = true → Ends (.hostSleep d3 l1 pme) s (fun t => t.lan.asleep = true ∧ t.lan.held = true ∧
        t.lan.pmeStatus = true ∧ rd t pgHost R.HP_LINK_L1 = 0 ∧ t.out = s.out ++ [.pme] ∧
        rd t pgLantern R.LANTERN_CNT_PME = rd (bump pgLantern R.LANTERN_CNT_PME s) pgLantern R.LANTERN_CNT_PME ∧
        t = { s with regs := t.regs, lan := t.lan, out := t.out })) ∧
    ((∃ v, vecState s v = vsDUE) → s.lan.held = false → (pme = false ∨ rdB s pgHost R.HP_LINK_UP = false) →
      Ends (.hostSleep d3 l1 pme) s (fun t => t.lan.held = true ∧ t.lan.pmeStatus = s.lan.pmeStatus ∧ t.out = s.out))) ∧
  (∀ (s : State),
    (s.lan.asleep = true → s.lan.pmeEn = true → s.lan.pmeStatus = true → rdB s pgHost R.HP_LINK_UP = true →
      Ends .pmeRepeat s (fun t => t.out = s.out ++ [.pme] ∧
        rd t pgLantern R.LANTERN_CNT_PME = rd (bump pgLantern R.LANTERN_CNT_PME s) pgLantern R.LANTERN_CNT_PME ∧
        t = { s with regs := t.regs, out := t.out } ∧ RegsKept [(pgLantern, R.LANTERN_CNT_PME.off)] s t)) ∧
    ((s.lan.asleep = false ∨ s.lan.pmeEn = false ∨ s.lan.pmeStatus = false ∨ rdB s pgHost R.HP_LINK_UP = false) →
      exec .pmeRepeat s = .next s) ∧
    (hostAway s = true → s.lan.held = true → s.lan.wakeDone = false → Ends .wakeTmoExpiry s (fun t =>
      rd t pgLantern R.LAN_STAT_WAKE_OUT = 1 ∧ t.out = s.out ++ [.pin "WAKE_OUT_N" false] ∧ t.lan.wakeDone = true ∧
      (rd t pgLantern R.EVT_RAW).testBit 0 = true ∧ rd t pgLantern R.LANTERN_CNT_WAKE_OUT =
        rd (bump pgLantern R.LANTERN_CNT_WAKE_OUT s) pgLantern R.LANTERN_CNT_WAKE_OUT)) ∧
    ((hostAway s = false ∨ s.lan.held = false ∨ s.lan.wakeDone = true) → exec .wakeTmoExpiry s = .next s)) ∧
  (∀ (s : State),
    (rdB s pgHost R.HP_LINK_UP = true → Ends (.hostResume true true true) s (fun t => t.lan.asleep = false ∧
      t.lan.held = false ∧ t.lan.wakeDone = false ∧ t.lan.pmeStatus = false ∧ rd t pgLantern R.LAN_STAT_WAKE_OUT = 0 ∧
      (∀ v, v < 64 → vecState s v = vsDUE → vecMasked s v = false → rdB s pgLantern R.LAN_CTRL_EN = true →
        vecState t v = vsIDLE ∧ .msix v ∈ t.out) ∧
      (∀ v, (vecState s v ≠ vsDUE ∨ vecMasked s v = true ∨ rdB s pgLantern R.LAN_CTRL_EN = false) →
        vecState t v = vecState s v) ∧
      (rdB s pgLantern R.LAN_STAT_WAKE_OUT = true →
        t.out.getLast? = some (.pin "WAKE_OUT_N" (!rdB s pgKeeper R.KP_OUT_BY_RULE))))) ∧
    (∀ d0 l0, s.lan.asleep = true → s.lan.pmeStatus = true → Ends (.hostResume d0 l0 false) s (fun t =>
      t = { s with regs := t.regs } ∧ t.lan.asleep = true ∧
      RegsKept [(pgHost, R.HP_LINK_DSTATE.off)] s t))) ∧
  (∀ (s : State) (h : Half) (src : Nat) (x : FabSrc), src < 256 → fabGet s h src = x →
    (x.gap = false → exec (.fabGapExpiry h src) s = .next s) ∧
    (x.gap = true → x.count = 0 → Ends (.fabGapExpiry h src) s (fun t =>
      fabGet t h src = { x with gap := false } ∧ t = { s with lan := t.lan } ∧ t.lan.evtq = s.lan.evtq)) ∧
    (x.gap = true → x.count ≠ 0 → s.lan.evtHeld = [] → s.lan.evtq.length < 4096 →
      Ends (.fabGapExpiry h src) s (fun t =>
        fabGet t h src = { x with gap := false, count := 0, waiting := true, seq := (x.seq + 1) % 2 ^ 32 } ∧
        t.lan.evtq = s.lan.evtq ++ [(s.nextPid, .source h src, x.count)] ∧ t.nextPid = s.nextPid + 1 ∧
        pktOpen t s.nextPid = true))) ∧
  (∀ (s : State) (id : Nat), quiet s = true →
    (s.lan.evtq.find? (fun m => m.1 == id) = none ∨ pktUnsent s id = true → exec (.fabEvtSent id) s = .next s) ∧
    (∀ h src n, s.lan.evtq.find? (fun m => m.1 == id) = some (id, .source h src, n) → pktUnsent s id = false →
      src < 256 → route s src R.LAN_ROUTE_FAB_GAP_US ≠ 0 → Ends (.fabEvtSent id) s (fun t =>
        t.lan.evtq = s.lan.evtq.filter (fun m => m.1 != id) ∧
        fabGet t h src = { fabGet s h src with waiting := false, gap := true } ∧
        rd t pgLantern R.LANTERN_CNT_FAB_EVT = rd (bump pgLantern R.LANTERN_CNT_FAB_EVT s) pgLantern R.LANTERN_CNT_FAB_EVT ∧
        rd t pgLantern R.LANTERN_CNT_FAB_COALESCED =
          rd (bumpBy pgLantern R.LANTERN_CNT_FAB_COALESCED (n - 1) s) pgLantern R.LANTERN_CNT_FAB_COALESCED ∧
        t = { s with regs := t.regs, lan := t.lan })) ∧
    (∀ p w y n, s.lan.evtq.find? (fun m => m.1 == id) = some (id, .int p w y, n) → pktUnsent s id = false →
      Ends (.fabEvtSent id) s (fun t => t.lan.evtq = s.lan.evtq.filter (fun m => m.1 != id) ∧
        rd t pgLantern R.LANTERN_CNT_INT = rd (bump pgLantern R.LANTERN_CNT_INT s) pgLantern R.LANTERN_CNT_INT ∧
        t = { s with regs := t.regs, lan := t.lan })))

/-- O46. A register write follows each field's class: live, staged, stopped, guarded, read-only; halves latch; paths
and pages bound it. 00_scope.md R11; 00_scope.md R12; 00_scope.md R14; 00_scope.md R15;
15_register_pages_and_host_port.md R490; 15_register_pages_and_host_port.md R493; 15_register_pages_and_host_port.md
R494; 15_register_pages_and_host_port.md R496; 15_register_pages_and_host_port.md R497;
15_register_pages_and_host_port.md R500; 15_register_pages_and_host_port.md R502; 15_register_pages_and_host_port.md
R489 -/
def Obligations.RegisterWritesAreJudgedFieldByField : Prop :=
  (∀ (s : State) (P : Nat) (k : PageKind) (v : BitVec 64) (p : Path), pageKind P = some k →
    (Written s P R.CTRL_FREEZE.off p → Ends (.regWrite P R.CTRL_FREEZE.off .whole v p) s (fun t =>
      rd t P R.CTRL_FREEZE = v.toNat % 2 ∧ t = { s with regs := t.regs, woLatch := t.woLatch } ∧
      RegsKept [(P, R.CTRL_FREEZE.off)] s t)) ∧
    (Written s P R.EVT_EN.off p → Ends (.regWrite P R.EVT_EN.off .whole v p) s (fun t =>
      rd t P R.EVT_EN = v.toNat % 2 ^ eventCount k ∧ t = { s with regs := t.regs, woLatch := t.woLatch } ∧
      RegsKept [(P, R.EVT_EN.off)] s t)) ∧
    (Written s P R.BLK_ID_TYPE.off p → Ends (.regWrite P R.BLK_ID_TYPE.off .whole v p) s (fun t =>
      t = { s with woLatch := t.woLatch }))) ∧
  (∀ (s : State) (h : Half) (v : BitVec 64), Written s (pgLight h) 0x98 .pcie →
    Ends (.regWrite (pgLight h) 0x98 .whole v .pcie) s (Staged h (fun f => fldBits f v.toNat) s) ∧
    Ends (.regWrite (pgLight h) 0x98 .low v .pcie) s (Staged h (fun f =>
      let old := shadowVal s (f.key (pgLight h) 0)
      if f = R.LL_TUNE_LEAD_UP then bits old 15 8 * 256 + bits v.toNat 31 24
      else if f.lo < 32 then fldBits f v.toNat else old) s) ∧
    Ends (.regWrite (pgLight h) 0x98 .high v .pcie) s (Staged h (fun f =>
      let old := shadowVal s (f.key (pgLight h) 0)
      if f = R.LL_TUNE_LEAD_UP then bits v.toNat 7 0 * 256 + old % 256
      else if f.lo < 32 then old else bits v.toNat (f.lo + f.w - 33) (f.lo - 32)) s)) ∧
  (∀ (s : State) (n : Nat) (v : BitVec 64), Written s (pgFiu n) 0x90 .pcie →
    (rdB s (pgFiu n) R.FIU_LINK_CTRL_EN = false → Ends (.regWrite (pgFiu n) 0x90 .whole v .pcie) s (fun t =>
      (∀ f ∈ poolFlds, rd t (pgFiu n) f = fldBits f v.toNat) ∧ t = { s with regs := t.regs, woLatch := t.woLatch } ∧
      RegsKept [(pgFiu n, 0x90)] s t)) ∧
    (rdB s (pgFiu n) R.FIU_LINK_CTRL_EN = true → (∃ f ∈ poolFlds, rd s (pgFiu n) f ≠ fldBits f v.toNat) →
      Ends (.regWrite (pgFiu n) 0x90 .whole v .pcie) s (fun t =>
        t = cfgReject (pgFiu n) 0x90 1 .stopped (some .pcie) { s with woLatch := t.woLatch })) ∧
    ((∀ f ∈ poolFlds, rd s (pgFiu n) f = fldBits f v.toNat) →
      Ends (.regWrite (pgFiu n) 0x90 .whole v .pcie) s (fun t => t = { s with woLatch := t.woLatch }))) ∧
  (∀ (s : State) (v : BitVec 64), Written s pgProtect R.PR_ATN_WREN_MASK.off .pcie →
    (v.toNat ≠ rd s pgProtect R.PR_ATN_WREN_MASK → Ends (.regWrite pgProtect R.PR_ATN_WREN_MASK.off .whole v .pcie) s
      (fun t => t = cfgReject pgProtect R.PR_ATN_WREN_MASK.off 2 .guarded (some .pcie) { s with woLatch := t.woLatch })) ∧
    (v.toNat = rd s pgProtect R.PR_ATN_WREN_MASK → Ends (.regWrite pgProtect R.PR_ATN_WREN_MASK.off .whole v .pcie) s
      (fun t => t = { s with woLatch := t.woLatch }))) ∧
  (∀ (s : State) (P off hi : Nat) (k : PageKind) (v : BitVec 64) (p : Path), pageKind P = some k → isWoReg P off = true →
    (Written s P off p → Ends (.regWrite P off .high v p) s (fun t =>
      t = { s with woLatch := t.woLatch } ∧ t.woLatch.filter (fun e => e.1 == P) = [(P, off, v.toNat % 2 ^ 32)])) ∧
    (pageLive s P = true → hi < 2 ^ 32 →
      ((s.woLatch.find? (fun e => e.1 == P && e.2.1 == off)).map (·.2.2)).getD 0 = hi →
      exec (.regWrite P off .low v p) s =
        exec (.regWrite P off .whole (BitVec.ofNat 64 (v.toNat % 2 ^ 32 + hi * 2 ^ 32)) p) s)) ∧
  (∀ (s : State) (P off : Nat) (part : Part) (v : BitVec 64) (p : Path), quiet s = true →
    (pathMayWrite s P off p = false → exec (.regWrite P off part v p) s = .next s) ∧
    (pathMayWrite s P off p = true → (pageKind P).isSome = true → pageLive s P = false →
      Ends (.regWrite P off part v p) s (fun t => t = barErr 4 (barOff P off) s))) ∧
  (∀ (s : State) (n : Nat) (v : BitVec 64), quiet s = true → n < 64 →
    Ends (.regWrite pgMsix (16 * n) .whole v .pcie) s (fun t => msixRead t (16 * n) = v.toNat ∧
      (∀ off, off ≠ 16 * n → off / 16 < 64 → off % 8 = 0 → msixRead t off = msixRead s off) ∧
      t = { s with lan := { s.lan with msixTable := t.lan.msixTable } }))

/-- O47. Pops take the oldest word, flushes empty, APPLY captures, DISCARD returns, the boundary puts captured values
in force. 00_scope.md R12; 00_scope.md R16; 15_register_pages_and_host_port.md R489;
15_register_pages_and_host_port.md R490; 15_register_pages_and_host_port.md R497; 15_register_pages_and_host_port.md
R498; 15_register_pages_and_host_port.md R499; 15_register_pages_and_host_port.md R500;
15_register_pages_and_host_port.md R501; 15_register_pages_and_host_port.md R506; 15_register_pages_and_host_port.md
R507 -/
def Obligations.ResultQueuesLogsAndShadowsWork : Prop :=
  (∀ (s : State) (q : Option Half) (p : Path), pageLive s (resPage (resNum q)) = true →
    ((tget {} s.results (resNum q)).words = [] → Ends (.resultPop q p) s (fun t =>
      t = { s with out := s.out ++ [.answer (pathCode (some p)) 0], woLatch := t.woLatch })) ∧
    (∀ w ws, (tget {} s.results (resNum q)).words = w :: ws → Ends (.resultPop q p) s (fun t =>
      tget {} t.results (resNum q) = { tget {} s.results (resNum q) with words := ws } ∧
      (∀ i, i ≠ resNum q → tget {} t.results i = tget {} s.results i) ∧
      t.out = s.out ++ [.answer (pathCode (some p)) (2 ^ 63 + w.seq % 128 * 2 ^ 56 + w.payload % 2 ^ 56)] ∧
      rd t (resPage (resNum q)) R.RESULT_INFO_HEADER = bit w.header ∧
      rd t (resPage (resNum q)) R.RESULT_INFO_KIND = w.kind % 2 ^ 8 ∧
      rd t (resPage (resNum q)) R.RESULT_INFO_INDEX = w.index % 2 ^ 16 ∧
      rd t (resPage (resNum q)) R.RESULT_INFO_COUNT = w.count % 2 ^ 16 ∧
      t = { s with regs := t.regs, results := t.results, out := t.out, woLatch := t.woLatch } ∧
      RegsKept [(resPage (resNum q), R.RESULT_INFO_KIND.off)] s t)) ∧
    Ends (.resultFlush q) s (fun t =>
      tget {} t.results (resNum q) = { tget {} s.results (resNum q) with words := [] } ∧
      (∀ i, i ≠ resNum q → tget {} t.results i = tget {} s.results i) ∧
      t = { s with results := t.results, woLatch := t.woLatch })) ∧
  (∀ (s : State) (q : Option Half) (p : Path), pageLive s (resPage (resNum q)) = false →
    Ends (.resultPop q p) s (fun t => t = barErr 4 (barOff (resPage (resNum q)) R.RESULT_POP_VALID.off) s) ∧
    Ends (.resultFlush q) s (fun t => t = barErr 4 (barOff (resPage (resNum q)) R.RESULT_CTRL_FLUSH.off) s)) ∧
  (∀ (s : State) (P : Nat) (p : Path), (pageKind P).isSome = true →
    (pageLive s P = true → (tget {} s.logs P).entries = [] → Ends (.errlogPop P p) s (fun t =>
      t = { s with out := s.out ++ [.answer (pathCode (some p)) 0], woLatch := t.woLatch })) ∧
    (∀ n w r, pageLive s P = true → (tget {} s.logs P).entries = (n, w) :: r → Ends (.errlogPop P p) s (fun t =>
      tget {} t.logs P = { tget {} s.logs P with entries := r } ∧ (∀ i, i ≠ P → tget {} t.logs i = tget {} s.logs i) ∧
      t.out = s.out ++ [.answer (pathCode (some p)) (2 ^ 63 + n % 128 * 2 ^ 56 + w % 2 ^ 56)] ∧
      t = { s with logs := t.logs, out := t.out, woLatch := t.woLatch })) ∧
    (pageLive s P = false → Ends (.errlogPop P p) s (fun t => t = barErr 4 (barOff P R.ERRLOG_DATA_ENTRY.off) s))) ∧
  (∀ (s : State) (P : Nat) (p : Path) (k : PageKind), pageKind P = some k → pageLive s P = true →
    (s.captured.any (fun e => e.1.page == P) = true → Ends (.shadowApply P p) s (fun t =>
      t = cfgReject P R.SHADOW_CMD_APPLY.off 4 .live (some p) { s with woLatch := t.woLatch })) ∧
    (P ≠ pgPlaceG → s.captured.any (fun e => e.1.page == P) = false →
      s.shadow.any (fun e => e.1.page == P && e.2 != keyVal s e.1) = false →
      Ends (.shadowApply P p) s (fun t => t = { s with woLatch := t.woLatch })) ∧
    (P ≠ pgPlaceG → ToCapture s P → (∀ h, pageHalf P = some h → stagedOff s k h = false) →
      Ends (.shadowApply P p) s (fun t =>
        (∀ x : RKey, x.page = P → tgetBy (keyVal s x) t.captured x = shadowVal s x) ∧
        (∀ (x : RKey) (d : Nat), x.page ≠ P → tgetBy d t.captured x = tgetBy d s.captured x) ∧
        rd t P R.STAT_SHADOW_DIRTY = 0 ∧ rd t P R.CLASS_STAT_SHADOW_WRITES = 0 ∧
        t = { s with regs := t.regs, captured := t.captured, woLatch := t.woLatch } ∧
        RegsKept [(P, R.STAT_SHADOW_DIRTY.off), (P, R.CLASS_STAT_SHADOW_WRITES.off)] s t)) ∧
    Ends (.shadowDiscard P) s (fun t =>
      (∀ x : RKey, x.page = P → x.off ≠ R.STAT_SHADOW_DIRTY.off →
        x.off ≠ R.CLASS_STAT_SHADOW_WRITES.off → shadowVal t x = keyVal s x) ∧
      (∀ (x : RKey) (d : Nat), x.page ≠ P → tgetBy d t.shadow x = tgetBy d s.shadow x) ∧
      rd t P R.STAT_SHADOW_DIRTY = 0 ∧ rd t P R.CLASS_STAT_SHADOW_WRITES = 0 ∧
      t = { s with regs := t.regs, shadow := t.shadow, woLatch := t.woLatch } ∧
      RegsKept [(P, R.STAT_SHADOW_DIRTY.off), (P, R.CLASS_STAT_SHADOW_WRITES.off)] s t)) ∧
  (∀ (s : State) (h : Half) (p : Path), pageLive s (pgLight h) = true → ToCapture s (pgLight h) →
    rdB s (pgLight h) R.LL_CTRL_EN = false → (∀ e ∈ s.shadow, e.1.page = pgLight h → ∃ f ∈ tuneFlds, e.1 = f.key (pgLight h) 0) →
    Ends (.shadowApply (pgLight h) p) s (fun t =>
      (∀ f ∈ tuneFlds, rd t (pgLight h) f % 2 ^ f.w = shadowVal s (f.key (pgLight h) 0) % 2 ^ f.w) ∧
      t.captured.any (fun e => e.1.page == pgLight h) = false ∧
      t = { s with regs := t.regs, captured := t.captured, woLatch := t.woLatch } ∧
      RegsKept [(pgLight h, R.STAT_SHADOW_DIRTY.off), (pgLight h, R.CLASS_STAT_SHADOW_WRITES.off), (pgLight h, 0x98)] s t)) ∧
  (∀ (s : State) (P : Nat) (h : Half), P ≠ pgPlaceG →
    ((pageHalf P = none ∨ pageHalf P = some h) → PlacesOnce s.captured → Ends (.shadowBoundary P h) s (fun t =>
      (∀ (x : RKey) (v : Nat) (f : Fld), (x, v) ∈ s.captured → x.page = P → fldOf x = some f → keyVal t x = v % 2 ^ f.w) ∧
      (∀ (x : RKey) (d : Nat), (∀ v, (x, v) ∈ s.captured → x.page ≠ P) → tgetBy d t.regs x = tgetBy d s.regs x) ∧
      t.captured = s.captured.filter (fun e => e.1.page != P) ∧ t = { s with regs := t.regs, captured := t.captured })) ∧
    (pageHalf P = some (if h = .west then .east else .west) → exec (.shadowBoundary P h) s = .next s))

/-- O48. DP_DATA and BAR2 read and write Easel's policy regions and the staging areas, reach stations, and fail as
R513 says. 11_easel_staging_memory.md R367; 11_easel_staging_memory.md R372; 15_register_pages_and_host_port.md R481;
15_register_pages_and_host_port.md R509; 15_register_pages_and_host_port.md R510; 15_register_pages_and_host_port.md
R511; 15_register_pages_and_host_port.md R512; 15_register_pages_and_host_port.md R513;
15_register_pages_and_host_port.md R514 -/
def Obligations.TheDataPortReachesItsSpaces : Prop :=
  (∀ (s : State) (wide : Bool) (a : Nat) (v : BitVec 64), DpAt s 0 a (dpN wide) → InPolicyRegion s a (dpN wide) →
    Ends (.dpDataAccess false wide v) s (fun t => Stepped s t ∧ t.out = s.out ++ [.answer 0 (leNat (ezRead s a (dpN wide)))] ∧
      t = { s with
        regs := t.regs, out := t.out, freeSeq := s.freeSeq + 1, nextDp := s.nextDp + 1, woLatch := t.woLatch } ∧
      RegsKept [(pgDataPort, R.DP_ADDR.off)] s t) ∧
    (MemoriesWf s → Ends (.dpDataAccess true wide v) s (fun t => Stepped s t ∧ t.out = s.out ∧
      ezRead t a (dpN wide) = leBytes (dpN wide) v.toNat ∧
      (∀ b, ¬ (a ≤ b ∧ b < a + dpN wide) → ezByte t b = ezByte s b) ∧
      t = { s with
        regs := t.regs, easel := t.easel, strikes := t.strikes, nextDp := s.nextDp + 1, woLatch := t.woLatch }))) ∧
  (∀ (s : State) (wide : Bool) (h : Half) (o : Nat) (v : BitVec 64), MemoriesWf s → halfUp s h = true →
    0x800000 ≤ o → o + dpN wide ≤ 0x1000000 → DpAt s 2 (h.num * 2 ^ 24 + o) (dpN wide) →
    Ends (.dpDataAccess true wide v) s (fun t => Stepped s t ∧
      (∀ i, i < dpN wide → cellGet (h.num * 0x800000 + (o - 0x800000) + i) t.stage =
        ((leBytes (dpN wide) v.toNat)[i]?).getD 0) ∧
      (∀ b, ¬ (h.num * 0x800000 + (o - 0x800000) ≤ b ∧ b < h.num * 0x800000 + (o - 0x800000) + dpN wide) →
        cellGet b t.stage = cellGet b s.stage) ∧
      t = { s with regs := t.regs, stage := t.stage, nextDp := s.nextDp + 1, woLatch := t.woLatch } ∧
      RegsKept [(pgDataPort, R.DP_ADDR.off)] s t)) ∧
  (∀ (s : State) (wr wide : Bool) (a sp : Nat) (v : BitVec 64), quiet s = true → rd s pgDataPort R.DP_CFG_SPACE = sp →
    rd s pgDataPort R.DP_ADDR = a → a < 2 ^ 64 →
    ((sp = 3 ∨ (sp = 0 ∧ (2 ^ 41 ≤ a ∨ halfUp s (if a < 2 ^ 40 then .west else .east) = false))) →
      Ends (.dpDataAccess wr wide v) s (fun t => Stepped s t ∧ DpFailed 1 a s t ∧
        t.out = s.out ++ (if wr then [] else [.answer 0 (2 ^ (8 * dpN wide) - 1)]))) ∧
    (sp = 0 → halfUp s (if a < 2 ^ 40 then .west else .east) = true → a + dpN wide ≤ 2 ^ 41 → a % dpN wide ≠ 0 →
      Ends (.dpDataAccess wr wide v) s (fun t => Stepped s t ∧ DpFailed 2 a s t ∧
        t.out = s.out ++ (if wr then [] else [.answer 0 (2 ^ (8 * dpN wide) - 1)]))) ∧
    (∀ h, sp = 0 → halfUp s h = true → ezAddr h 0 ≤ a → a < ezAddr h 0x100000 ∨ (ezAddr h 0x200000 ≤ a ∧ a < ezAddr h (2 ^ 40)) →
      a % dpN wide = 0 → Ends (.dpDataAccess true wide v) s (fun t => Stepped s t ∧ DpFailed 3 a s t ∧ t.out = s.out ∧
        (rd t (pgEasel h) R.EVT_RAW).testBit 7 = true ∧
        t = { s with regs := t.regs, strikes := t.strikes, nextDp := s.nextDp + 1, woLatch := t.woLatch } ∧
        RegsKept (dpRegs ++ evtRegs (pgEasel h)) s t))) ∧
  (∀ (s : State) (wide : Bool) (n stn x : Nat) (v : BitVec 64), n < 64 → stn < 16 → x < 2 ^ 36 →
    DpAt s 1 (n * 2 ^ 40 + stn * 2 ^ 36 + x) (dpN wide) →
    (tgtDead s n stn = none → Settles (.dpDataAccess false wide v) s (fun u => Stepped s u ∧
      (apuGet u n).mgmt = (apuGet s n).mgmt ++
        [⟨txRD, stn, if wide then 2 else 1, 15, x, [], .dp s.nextDp 0⟩] ∧
      (∀ m, m ≠ n → apuGet u m = apuGet s m) ∧ u.out = s.out ∧
      u = { s with regs := u.regs, apu := u.apu, dp := u.dp, nextDp := s.nextDp + 1, woLatch := u.woLatch } ∧
      RegsKept [(pgDataPort, R.DP_ADDR.off)] s u)) ∧
    ((rd s pgProtect R.PR_ATN_WREN_MASK).testBit n = false → Ends (.dpDataAccess true wide v) s (fun t =>
      Stepped s t ∧ DpFailed 3 (n * 2 ^ 40 + stn * 2 ^ 36 + x) s t ∧ t.out = s.out))) ∧
  (∀ (s : State) (o base : Nat) (ben : List Bool) (data : List Byte), quiet s = true → rd s pgDataPort R.DP_WIN_BASE = base →
    (512 < ben.length → Ends (.bar2Access false o ben data) s (fun t =>
      t.out = s.out ++ [.unsupported] ∧ t = { barErr 3 o s with out := t.out })) ∧
    (rd s pgDataPort R.DP_WIN_SPACE = 0 → ben ≠ [] → ben.length ≤ 512 → (base * 2 ^ 20 + o) % 4 = 0 →
      InPolicyRegion s (base * 2 ^ 20 + o) ben.length → Ends (.bar2Access false o ben data) s (fun t =>
        t = { s with
          out := s.out ++ [.bytes (ezRead s (base * 2 ^ 20 + o) ben.length)]
          freeSeq := s.freeSeq + 1
          nextDp := s.nextDp + 1 })) ∧
    (∀ h q, rd s pgDataPort R.DP_WIN_SPACE = 2 → MemoriesWf s → halfUp s h = true → ben ≠ [] → q % 4 = 0 →
      base * 2 ^ 20 + o = h.num * 2 ^ 24 + 0x800000 + q → q + ben.length ≤ 0x800000 →
      Ends (.bar2Access true o ben data) s (fun t => (∀ i, i < ben.length → cellGet (h.num * 0x800000 + q + i) t.stage =
          (if (ben[i]?).getD false then (data[i]?).getD 0 else cellGet (h.num * 0x800000 + q + i) s.stage)) ∧
        (∀ b, ¬ (h.num * 0x800000 + q ≤ b ∧ b < h.num * 0x800000 + q + ben.length) → cellGet b t.stage = cellGet b s.stage) ∧
        t = { s with stage := t.stage, nextDp := s.nextDp + 1 })))

/-- O49. A Function Level Reset and PERST_N reset the function alone; the link's loss and return hold and send
vectors. 14_lantern_events.md R466; 15_register_pages_and_host_port.md R481; 15_register_pages_and_host_port.md R483;
15_register_pages_and_host_port.md R484; 15_register_pages_and_host_port.md R504; 19_startup_reset_recovery.md R597;
20_electrical_thermal_package.md R623 -/
def Obligations.PcieResetsAndLinkChangesActOnTheFunction : Prop :=
  (∀ (s : State), rdB s pgLantern R.LAN_STAT_WAKE_OUT = false →
    Ends .flr s (fun t => FunctionReset s t ∧ rd t pgHost R.EVT_RAW = 2 ^ 5 ∧ rd t pgHost R.HOST_CNT_LINK_DOWN = 0 ∧
      rd t pgHost R.HP_LINK_UP = rd s pgHost R.HP_LINK_UP % 2 ∧ rd t pgHost R.HP_LINK_WIDTH = rd s pgHost R.HP_LINK_WIDTH % 16 ∧
      rd t pgHost R.HP_LINK_SPEED = rd s pgHost R.HP_LINK_SPEED % 16) ∧
    (s.boot.supplies = true → rd s pgHost R.HP_LINK_UP = 1 → (∀ v, 64 ≤ v → vecState s v = vsIDLE) → Ends .perst s (fun t => FunctionReset s t ∧
      rd t pgHost R.EVT_RAW = 0 ∧ rd t pgHost R.HP_LINK_UP = 0 ∧ rd t pgHost R.HP_LINK_WIDTH = 0 ∧
      rd t pgHost R.HP_LINK_SPEED = 0)) ∧
    (s.boot.supplies = false → exec .perst s = .next s)) ∧
  (∀ (s : State), rdB s pgLantern R.LAN_STAT_WAKE_OUT = true → Ends .flr s (fun t =>
    rd t pgLantern R.LAN_STAT_WAKE_OUT = 0 ∧ t.out = s.out ++ [.pin "WAKE_OUT_N" (!rdB s pgKeeper R.KP_OUT_BY_RULE)])) ∧
  (∀ (s : State), (rdB s pgHost R.HP_LINK_UP = false → exec .pcieLinkDown s = .next s) ∧
    (rdB s pgHost R.HP_LINK_UP = true → Ends .pcieLinkDown s (fun t =>
      (∀ f ∈ [R.HP_LINK_UP, R.HP_LINK_WIDTH, R.HP_LINK_SPEED, R.HP_LINK_L1], rd t pgHost f = 0) ∧
      rd t pgHost R.HOST_CNT_LINK_DOWN = rd (bump pgHost R.HOST_CNT_LINK_DOWN s) pgHost R.HOST_CNT_LINK_DOWN ∧
      ((∃ v, vecState s v = vsDUE) → t.lan.held = true) ∧ ((∀ v, vecState s v ≠ vsDUE) → t.lan.held = s.lan.held) ∧
      t = { s with regs := t.regs, lan := { s.lan with held := t.lan.held } } ∧
      RegsKept [(pgHost, R.HP_LINK_UP.off), (pgHost, R.HOST_CNT_LINK_DOWN.off)] s t))) ∧
  (∀ (s : State) (w v : BitVec 4), quiet s = true →
    ((rdB s pgHost R.HP_LINK_UP = true ∨ leadHalf s = none) → exec (.pcieLinkUp w v) s = .next s) ∧
    (rdB s pgHost R.HP_LINK_UP = false → leadHalf s ≠ none → Ends (.pcieLinkUp w v) s (fun t =>
      rd t pgHost R.HP_LINK_UP = 1 ∧ rd t pgHost R.HP_LINK_WIDTH = w.toNat ∧ rd t pgHost R.HP_LINK_SPEED = v.toNat ∧
      ((w.toNat < 4 ∨ v.toNat < 5) → (rd t pgHost R.EVT_RAW).testBit 4 = true) ∧
      (¬ (w.toNat < 4 ∨ v.toNat < 5) → rd t pgHost R.EVT_RAW = rd s pgHost R.EVT_RAW) ∧
      (rd s pgHost R.HP_LINK_DSTATE = 0 → s.lan.pmeStatus = false → t.lan.held = false ∧
        ∀ x, x < 64 → vecState s x = vsDUE → vecMasked s x = false → rdB s pgLantern R.LAN_CTRL_EN = true →
          vecState t x = vsIDLE ∧ .msix x ∈ t.out) ∧
      ((rd s pgHost R.HP_LINK_DSTATE ≠ 0 ∨ s.lan.pmeStatus = true) → t = { s with regs := t.regs, strikes := t.strikes } ∧
        RegsKept ([(pgHost, R.HP_LINK_UP.off)] ++ evtRegs pgHost) s t)))) ∧
  (∀ (s : State) (off : BitVec 32),
    (∀ x c, (x, c) ∈ [(BarBad.other, 1), (.bar0Read, 2), (.bar2Read, 3)] → Ends (.barUnsupported x off) s (fun t =>
      t.out = s.out ++ [.unsupported] ∧ t = { barErr c off.toNat s with out := t.out })) ∧
    Ends (.barUnsupported .bar0Write off) s (fun t => t = barErr 2 off.toNat s))

/-- O50. SMBus sets OFFSET, reads and writes the KEEPER page and steps on; the TAP answers, loads cells or takes the
balls. 00_scope.md R9; 15_register_pages_and_host_port.md R494; 15_register_pages_and_host_port.md R501;
15_register_pages_and_host_port.md R516; 15_register_pages_and_host_port.md R517; 15_register_pages_and_host_port.md
R518; 15_register_pages_and_host_port.md R519; 15_register_pages_and_host_port.md R520; 19_startup_reset_recovery.md
R597 -/
def Obligations.SmbusAndTheTapAnswer : Prop :=
  (∀ (s : State) (w : BitVec 16) (v : BitVec 64) (x : BitVec 32), s.boot.keeperUp = true →
    (w.toNat % 4 = 0 → Ends (.smbSetOffset w) s (fun t =>
      t = { s with keeper := { s.keeper with smbOff := w.toNat % 4096 } })) ∧
    (w.toNat % 4 ≠ 0 → exec (.smbSetOffset w) s = .next s) ∧
    Ends .smbReadStatus s (fun t =>
      t = { s with out := s.out ++ [.answer 2 (bit s.boot.supplies + 2 * bit s.keeper.smbRefused)] }) ∧
    (∀ o, s.keeper.smbOff = o →
      (o + 8 ≤ 4096 → o % 8 = 0 → o ≠ R.ERRLOG_DATA_ENTRY.off → o ≠ R.KP_LOG_POP_ENTRY.off → Ends .smbRead64 s (fun t =>
        t = { s with
          keeper := smbStepped 8 s.keeper, out := s.out ++ [.answer 2 (regRead s pgKeeper o)], woLatch := t.woLatch })) ∧
      (∀ n q r, o = R.ERRLOG_DATA_ENTRY.off → (tget {} s.logs pgKeeper).entries = (n, q) :: r → Ends .smbRead64 s (fun t =>
        tget {} t.logs pgKeeper = { tget {} s.logs pgKeeper with entries := r } ∧
        t = { s with
          keeper := smbStepped 8 s.keeper, logs := t.logs, woLatch := t.woLatch
          out := s.out ++ [.answer 2 (2 ^ 63 + n % 128 * 2 ^ 56 + q % 2 ^ 56)] })) ∧
      (o + 4 ≤ 4096 → Ends .smbRead32 s (fun t =>
        t = { s with
          keeper := smbStepped 4 s.keeper, woLatch := t.woLatch
          out := s.out ++ [.answer 2 (regRead s pgKeeper (o / 8 * 8) / 2 ^ (8 * (o % 8)) % 2 ^ 32)] })) ∧
      (o + 8 ≤ 4096 → o % 8 = 0 → Settles (.smbWrite64 v) s (SmbWritten o 8 .whole v.toNat s)) ∧
      (o + 4 ≤ 4096 → Settles (.smbWrite32 x) s (SmbWritten o 4 (if o % 8 = 0 then .low else .high) x.toNat s)) ∧
      (4096 < o + 8 → quiet s = true → exec .smbRead64 s = .next { s with out := s.out ++ [.nack] } ∧
        exec (.smbWrite64 v) s = .next { s with out := s.out ++ [.nack] }) ∧
      (4096 < o + 4 → quiet s = true → exec .smbRead32 s = .next { s with out := s.out ++ [.nack] } ∧
        exec (.smbWrite32 x) s = .next { s with out := s.out ++ [.nack] }))) ∧
  (∀ (s : State) (w : BitVec 16) (v : BitVec 64) (x : BitVec 32), s.boot.keeperUp = false → quiet s = true →
    ∀ c ∈ [Instr.smbSetOffset w, .smbRead64, .smbRead32, .smbReadStatus, .smbWrite64 v, .smbWrite32 x],
      exec c s = .next s) ∧
  (∀ (s : State) (levels load : List Bool), quiet s = true →
    (s.boot.supplies = false → ∀ c ∈ [Instr.jtagExtest, .jtagIdcode, .jtagSamplePreload levels load, .jtagExtestPulse,
      .jtagExtestTrain, .jtagClamp, .jtagHighz, .jtagBypass, .jtagTrst], exec c s = .next s) ∧
    (s.boot.supplies = true →
      (∃ id, id / 2 ^ 12 = 0x11664 ∧ id % 2 = 1 ∧ Ends .jtagIdcode s (fun t => t.tap.ir = 1 ∧
        t = { s with tap := t.tap, out := s.out ++ [.answer 4 id] } ∧ t.tap.cells = s.tap.cells)) ∧
      Ends (.jtagSamplePreload levels load) s (fun t => t.tap.ir = 2 ∧ t.tap.cells = load ∧
        t = { s with tap := t.tap, out := s.out ++ [.answer 4 (levelsNat levels)] }) ∧
      (∀ c i, (c, i) ∈ [(Instr.jtagBypass, 0xFF), (.jtagTrst, 1)] → Ends c s (fun t => t.tap.ir = i ∧
        t.tap.cells = s.tap.cells ∧ (t.tap.undef = (s.tap.undef || takesBalls s.tap.ir)) ∧ t = { s with tap := t.tap })) ∧
      (∀ c i, (c, i) ∈ [(Instr.jtagExtest, 0), (.jtagExtestPulse, 4), (.jtagExtestTrain, 5), (.jtagClamp, 6),
          (.jtagHighz, 7)] →
        (takesBalls s.tap.ir = false → Settles c s (fun u => SignalLost s u ∧ u.tap = { s.tap with ir := i })) ∧
        (takesBalls s.tap.ir = true → Ends c s (fun t => t = { s with tap := { s.tap with ir := i } })))))

/-- O51. OPEN, APPEND, SEAL and ABANDON: the first failing check decides the cause; a refusal changes nothing else;
success sets CAUSE 0. 16_protection_and_two_party_commit.md R529 -/
def Obligations.ProposalCommandsAreCheckedInOrder : Prop :=
  ∀ (s : State) (fm : Bool),
    (prState s ≠ 0 → Ends (.prOpen fm) s (PrRefused 9 s)) ∧
    (prState s = 0 → Ends (.prOpen fm) s (fun t => rd t pgProtect R.PR_STAT_CAUSE = 0)) ∧
    (prState s ≠ 1 → Ends (.prAppend fm) s (PrRefused 1 s) ∧ Ends (.prSeal fm) s (PrRefused 1 s)) ∧
    (prState s = 1 → WrongPrincipal fm s →
      Ends (.prAppend fm) s (PrRefused 10 s) ∧ Ends (.prSeal fm) s (PrRefused 10 s)) ∧
    (prState s ≠ 0 → WrongPrincipal fm s → Ends (.prAbandon fm) s (PrRefused 10 s)) ∧
    (prState s = 0 → Ends (.prAbandon fm) s (PrRefused 1 s)) ∧
    (prState s ≠ 0 → ¬ WrongPrincipal fm s → Ends (.prAbandon fm) s (fun t => rd t pgProtect R.PR_STAT_CAUSE = 0)) ∧
    (prState s = 1 → ¬ WrongPrincipal fm s → ∀ e, stagedEntry s = e →
      (4096 ≤ s.prot.entries.length → Ends (.prAppend fm) s (PrRefused 2 s)) ∧
      (s.prot.entries.length < 4096 → ¬ KindListed e → Ends (.prAppend fm) s (PrRefused 3 s)) ∧
      (s.prot.entries.length < 4096 → KindListed e → rd s pgProtect R.PR_STAT_FM_VALID = 0 → eKind e ≠ 9 →
        Ends (.prAppend fm) s (PrRefused 6 s)) ∧
      (s.prot.entries.length < 4096 → KindListed e → (rd s pgProtect R.PR_STAT_FM_VALID ≠ 0 ∨ eKind e = 9) →
        Ends (.prAppend fm) s (fun t => rd t pgProtect R.PR_STAT_CAUSE = 0))) ∧
    (prState s = 1 → ¬ WrongPrincipal fm s → ∀ es u, s.prot.entries = es → u = applyAll es s →
      ((∃ e ∈ es, entryOk e = false) → Ends (.prSeal fm) s (PrRefused 4 s)) ∧
      ((∀ e ∈ es, entryOk e = true) → (∃ h, 16 < semWindows u h) → Ends (.prSeal fm) s (PrRefused 5 s)) ∧
      ((∀ e ∈ es, entryOk e = true) → (∀ h, semWindows u h ≤ 16) → (∃ h, inbAllReg u h = false) →
        Ends (.prSeal fm) s (PrRefused 4 s)) ∧
      ((∀ e ∈ es, entryOk e = true) → (∀ h, semWindows u h ≤ 16) → (∀ h, inbAllReg u h = true) →
        (modeRefused s u es = true → Ends (.prSeal fm) s (PrRefused 7 s)) ∧
        (modeRefused s u es = false → es = [] → Ends (.prSeal fm) s (PrRefused 4 s)) ∧
        (modeRefused s u es = false → es ≠ [] → Ends (.prSeal fm) s (fun t => rd t pgProtect R.PR_STAT_CAUSE = 0))))

/-- O52. OPEN, APPEND and SEAL build a proposal; confirmations are judged in order; the second commits it whole; MGT
requests are answered. 16_protection_and_two_party_commit.md R527; 16_protection_and_two_party_commit.md R528;
16_protection_and_two_party_commit.md R530; 16_protection_and_two_party_commit.md R531;
16_protection_and_two_party_commit.md R532; 16_protection_and_two_party_commit.md R533;
16_protection_and_two_party_commit.md R534; 16_protection_and_two_party_commit.md R535;
16_protection_and_two_party_commit.md R536; 16_protection_and_two_party_commit.md R538 -/
def Obligations.ProposalsAreBuiltConfirmedAndCommitted : Prop :=
  (∀ (s : State) (fm : Bool), prState s = 0 → Ends (.prOpen fm) s (fun t => prState t = 1 ∧
    rd t pgProtect R.PR_STAT_OPENER = (if fm then 2 else 1) ∧ t.prot = { s.prot with entries := [] } ∧
    t = { s with regs := t.regs, prot := t.prot, woLatch := t.woLatch } ∧
    RegsKept [(pgProtect, R.PR_STAT_STATE.off)] s t)) ∧
  (∀ (s : State) (fm : Bool) (e : List Nat), prState s = 1 → ¬ WrongPrincipal fm s → stagedEntry s = e → KindListed e →
    (rd s pgProtect R.PR_STAT_FM_VALID ≠ 0 ∨ eKind e = 9) → s.prot.entries.length < 4096 →
    Ends (.prAppend fm) s (fun t => t.prot = { s.prot with entries := s.prot.entries ++ [e] } ∧
      rd t pgProtect R.PR_STAT_ENTRIES = s.prot.entries.length + 1 ∧
      t = { s with regs := t.regs, prot := t.prot, woLatch := t.woLatch } ∧
      RegsKept [(pgProtect, R.PR_STAT_ENTRIES.off)] s t)) ∧
  (∀ (s : State) (fm : Bool) (d : Nat), sealCause fm s = none → resRoom s 0 3 = true →
    d = prDigest (s.prot.entries.map (sealEntry s)) (epoch s) (rd s pgProtect R.PR_STAT_OPENER) →
    Ends (.prSeal fm) s (fun t => prState t = 2 ∧ rd t pgProtect R.PR_DIGEST = d % 2 ^ 64 ∧
      rd t pgProtect R.PR_DEADLINE = (now s + rd s pgProtect R.PR_FM_CONFIRM_WINDOW * 1000000) % 2 ^ 64 ∧
      t.prot = { s.prot with entries := s.prot.entries.map (sealEntry s), epoch := epoch s } ∧
      rd t pgProtect R.PR_STAT_CONF_SP = 0 ∧ rd t pgProtect R.PR_STAT_CONF_FM = 0 ∧
      (rd t pgProtect R.EVT_RAW).testBit 0 = true ∧
      rd t pgProtect R.PROTECT_CNT_PROPOSAL = rd (bump pgProtect R.PROTECT_CNT_PROPOSAL s) pgProtect R.PROTECT_CNT_PROPOSAL ∧
      ResultPushed 0 7 [d / 2 ^ 32, d % 2 ^ 32, epoch s] s t ∧
      t = { s with
        regs := t.regs, prot := t.prot, results := t.results, strikes := t.strikes, woLatch := t.woLatch })) ∧
  (∀ (s : State) (fm : Bool), prState s ≠ 0 → ¬ WrongPrincipal fm s → Ends (.prAbandon fm) s (PrEnded 2 [] s)) ∧
  (∀ (s : State), (prState s = 2 → Ends .proposalExpiry s (PrEnded 1 [] s)) ∧
    (prState s ≠ 2 → exec .proposalExpiry s = .next s)) ∧
  (∀ (s : State) (pr : BitVec 8) (ep : BitVec 32), quiet s = true →
    (prState s ≠ 2 → Ends (.prConfirmSp pr ep) s (ConfRefused 13 s)) ∧
    (prState s = 2 → rd s pgProtect R.PR_DEADLINE < now s → Ends (.prConfirmSp pr ep) s (fun t =>
      PrEnded 1 [] s t ∧ rd t pgProtect R.PR_STAT_CONF_CAUSE = 13 ∧ (rd t pgProtect R.EVT_RAW).testBit 4 = true)) ∧
    (prState s = 2 → now s ≤ rd s pgProtect R.PR_DEADLINE →
      (pr.toNat ≠ 1 → Ends (.prConfirmSp pr ep) s (ConfRefused 12 s)) ∧
      (pr.toNat = 1 → ep.toNat ≠ s.prot.epoch → Ends (.prConfirmSp pr ep) s (ConfRefused 14 s)) ∧
      (pr.toNat = 1 → ep.toNat = s.prot.epoch → rd s pgProtect R.PR_CONF_DIGEST ≠ rd s pgProtect R.PR_DIGEST →
        Ends (.prConfirmSp pr ep) s (ConfRefused 11 s)))) ∧
  (∀ (s : State) (pr : BitVec 8) (ep : BitVec 32), ConfAccepted s pr.toNat ep.toNat →
    (rdB s pgProtect R.PR_STAT_CONF_SP = true → Ends (.prConfirmSp pr ep) s (fun t =>
      rd t pgProtect R.PROTECT_CNT_CONF_DUP = rd (bump pgProtect R.PROTECT_CNT_CONF_DUP s) pgProtect R.PROTECT_CNT_CONF_DUP ∧
      t = { s with regs := t.regs, woLatch := t.woLatch } ∧ RegsKept [(pgProtect, R.PROTECT_CNT_CONF_DUP.off)] s t)) ∧
    (rdB s pgProtect R.PR_STAT_CONF_SP = false → ∀ v, v = wr pgProtect R.PR_STAT_CONF_SP 1 s →
      (commitReady v = false → Ends (.prConfirmSp pr ep) s (fun t => t = { v with woLatch := t.woLatch })) ∧
      (commitReady v = true → imagesKept s = false → Ends (.prConfirmSp pr ep) s (PrEnded 4 [] s)) ∧
      (commitReady v = true → imagesKept s = true → Settles (.prConfirmSp pr ep) s (Committed s.prot.entries s)))) ∧
  (∀ (s s0 : State) (n k m : Nat) (h : Half) (p : Packet), MgtIs s s0 n k h p m →
    (FromFm s p → (m = 3 → exec (.mgtConfirm n) s = .next (settle (mgtAnswer h p 0
        (prConfirm true (p.word 0) (p.word 1 % 2 ^ 32) (bits (p.word 1) 39 32) s0).2
        (prConfirm true (p.word 0) (p.word 1 % 2 ^ 32) (bits (p.word 1) 39 32) s0).1))) ∧
      (m = 1 → mgtReadDenied p.w1 = true → exec (.mgtRead n) s = .next (settle (mgtAnswer h p 1 0 s0))) ∧
      (m = 1 → mgtReadDenied p.w1 = false → pageLive s0 (p.w1 / 4096) = true → s.woLatch = [] →
        exec (.mgtRead n) s = .next (settle (mgtAnswer h p 0 (regRead s0 (p.w1 / 4096) (p.w1 % 4096)) s0))) ∧
      (m ≠ 1 → m ≠ 2 → m ≠ 3 → exec (.mgtRead n) s = .next (settle (mgtAnswer h p 2 0 s0))) ∧
      (m = 2 → p.w1 % 8 = 0 → p.w1 / 4096 = pgProtect → pathMayWrite s pgProtect (p.w1 % 4096) .mgt = true →
        exec (.mgtWrite n) s = .next (settle (mgtAnswer h p 0 0
          (regWrite pgProtect (p.w1 % 4096) .whole (p.word 0) .mgt s0)))) ∧
      (m = 2 → (p.w1 % 8 ≠ 0 ∨ p.w1 / 4096 ≠ pgProtect ∨ pathMayWrite s pgProtect (p.w1 % 4096) .mgt = false) →
        exec (.mgtWrite n) s = .next (settle (mgtAnswer h p 1 0 s0)))) ∧
    (¬ FromFm s p → (m = 2 → exec (.mgtWrite n) s = .next (settle (mgtReject s0))) ∧
      (m ≠ 2 → m ≠ 3 → exec (.mgtRead n) s = .next (settle (mgtReject s0))) ∧
      (m = 3 → bootstrapOk s p.src p.w3 = false → exec (.mgtConfirm n) s = .next (settle (mgtReject s0))) ∧
      (m = 3 → bootstrapOk s p.src p.w3 = true → exec (.mgtConfirm n) s = .next (settle (mgtAnswer h p 0
        (prConfirm true (p.word 0) (p.word 1 % 2 ^ 32) (bits (p.word 1) 39 32) s0).2
        (prConfirm true (p.word 0) (p.word 1 % 2 ^ 32) (bits (p.word 1) 39 32) s0).1)))))

/-- O53. EMERG_N opens the path to SP alone; each OP disables its target, raises EPOCH and ends a proposal; nothing is
granted. 11_easel_staging_memory.md R382; 15_register_pages_and_host_port.md R500;
16_protection_and_two_party_commit.md R532; 16_protection_and_two_party_commit.md R535;
16_protection_and_two_party_commit.md R539; 16_protection_and_two_party_commit.md R540;
16_protection_and_two_party_commit.md R541; 16_protection_and_two_party_commit.md R548 -/
def Obligations.TheEmergencyPathOnlyDisables : Prop :=
  (∀ (s : State), (s.boot.keeperUp = true →
      Ends .emergAssert s (fun t => rd t pgProtect R.PR_EMERG_STAT_ASSERTED = 1 ∧
        t = { s with regs := t.regs, keeper := { s.keeper with emergN := true } } ∧
        RegsKept [(pgProtect, R.PR_EMERG_STAT_ASSERTED.off)] s t) ∧
      Ends .emergRelease s (fun t => rd t pgProtect R.PR_EMERG_STAT_ASSERTED = 0 ∧ rd t pgProtect R.PR_EMERG_MASK = 0 ∧
        t = { s with regs := t.regs, keeper := { s.keeper with emergN := false } } ∧
        RegsKept [(pgProtect, R.PR_EMERG_STAT_ASSERTED.off), (pgProtect, R.PR_EMERG_MASK.off)] s t)) ∧
    (s.boot.keeperUp = false → exec .emergAssert s = .next s ∧ exec .emergRelease s = .next s)) ∧
  (∀ (s : State) (v : BitVec 64) (p : Path),
    (s.keeper.emergN = true → Ends (.prEmergWrite v .pcie) s (fun t => rd t pgProtect R.PR_EMERG_MASK = v.toNat ∧
      t = { s with regs := t.regs, woLatch := t.woLatch } ∧ RegsKept [(pgProtect, R.PR_EMERG_MASK.off)] s t)) ∧
    ((s.keeper.emergN = false ∨ p ≠ .pcie) → Ends (.prEmergWrite v p) s (fun t =>
      t = cfgReject pgProtect R.PR_EMERG_MASK.off 3 .live (some p) { s with woLatch := t.woLatch }))) ∧
  (∀ (s : State) (tg : BitVec 11) (p : Path) (c : Instr) (op : Nat), EmergOps tg p c op →
    ((s.keeper.emergN = false ∨ p ≠ .pcie) → Ends c s (fun t =>
      t = cfgReject pgProtect R.PR_EMERG_OP.off 3 .live (some p) { s with woLatch := t.woLatch })) ∧
    (s.keeper.emergN = true → p = .pcie → leadHalf s = none → Ends c s (fun t => t = { s with woLatch := t.woLatch })) ∧
    (s.keeper.emergN = true → p = .pcie → leadHalf s ≠ none → (op = 3 ∨ op = 6) → xstepOk s = false →
      Ends c s (fun t => t.prot = { s.prot with
          emerg := s.prot.emerg ++ [(op, tg.toNat, rd s pgProtect R.PR_EMERG_MASK)] } ∧
        t = { s with prot := t.prot, woLatch := t.woLatch })) ∧
    (s.keeper.emergN = true → p = .pcie → leadHalf s ≠ none → (op = 3 ∨ op = 6 → xstepOk s = true) → Ends c s (fun t =>
      EmergDone op tg s t ∧ epoch t = (epoch s + 1) % 2 ^ 32 ∧ (rd t pgProtect R.EVT_RAW).testBit 6 = true ∧
      rd t pgProtect R.PROTECT_CNT_EMERG = rd (bump pgProtect R.PROTECT_CNT_EMERG s) pgProtect R.PROTECT_CNT_EMERG ∧
      prState t = (if op = 7 ∨ prState s = 2 then 0 else prState s) ∧
      (prState s = 2 → op ≠ 7 → rd t pgProtect R.PR_STAT_END_CAUSE = 3) ∧
      (prState s ≠ 0 → op = 7 → rd t pgProtect R.PR_STAT_END_CAUSE = 2) ∧
      ((op = 7 ∨ prState s = 2) → prState s ≠ 0 → t.prot.entries = [] ∧ (rd t pgProtect R.EVT_RAW).testBit 2 = true) ∧
      (op ≠ 7 → prState s ≠ 2 → t.prot = s.prot) ∧
      (∀ P ∈ [pgPalette .west, pgPalette .east, pgCrossing .west, pgCrossing .east, pgContexts, pgProtect],
        ∀ f ∈ guardedFlds, ∀ i, rdI t P f i = rdI s P f i ∨ rdI t P f i = 0 ∨ f = R.PR_ATN_WREN_MASK) ∧
      t.stnMode = s.stnMode ∧ t.fw = s.fw ∧ t.out = s.out ∧ t.pending = s.pending)))

/-- O54. Renewals are answered to the holder, others ask; the Keeper grants a free token; LOST halves get nothing
until a restore. 16_protection_and_two_party_commit.md R542; 16_protection_and_two_party_commit.md R543;
16_protection_and_two_party_commit.md R544; 16_protection_and_two_party_commit.md R545;
16_protection_and_two_party_commit.md R546; 16_protection_and_two_party_commit.md R551;
16_protection_and_two_party_commit.md R552 -/
def Obligations.TheTokenIsRenewedGrantedLostAndRestored : Prop :=
  (∀ (s : State) (h : Half) (reach : Bool) (l : Lease), TokenAlone s → s.keeper.lease = l →
    ((halfUp s h = false ∨ primLost s h = true ∨ reach = false ∨ s.boot.keeperUp = false) →
      exec (.leaseRenew h reach) s = .next s) ∧
    (halfUp s h = true → primLost s h = false → s.boot.keeperUp = true →
      (holds s h = true → l.holder = some h → (l.restore = none ∨ l.restore = some h) →
        Ends (.leaseRenew h true) s (fun t =>
          t.keeper.lease = { l with lastAns := s.clk, timer := l.timer.put h (some s.clk) } ∧
          rd t pgPrimacy (reachFld h) = 1 ∧ t = { s with regs := t.regs, keeper := { s.keeper with lease := t.keeper.lease } } ∧
          RegsKept [(pgPrimacy, (reachFld h).off)] s t)) ∧
      (holds s h = true → l.holder = some h → l.restore = some h.twin → exec (.leaseRenew h true) s = .next s) ∧
      (holds s h = false → Ends (.leaseRenew h true) s (fun t =>
          t.keeper.lease = { l with asks := l.asks.put h (some ((l.asks.at h).getD s.clk)) } ∧
          rd t pgPrimacy (reachFld h) = 1 ∧ t = { s with regs := t.regs, keeper := { s.keeper with lease := t.keeper.lease } } ∧
          RegsKept [(pgPrimacy, (reachFld h).off)] s t)))) ∧
  (∀ (s : State) (h : Half) (l : Lease), s.keeper.lease = l →
    (l.timer.at h = none → exec (.leaseLapse h) s = .next s) ∧
    (l.timer.at h ≠ none → Ends (.leaseLapse h) s (fun t => t.keeper.lease = { l with timer := l.timer.put h none } ∧
      holds t h = false ∧ (rd t pgPrimacy R.EVT_RAW).testBit 2 = true ∧
      rd t pgPrimacy R.PRIMACY_CNT_LAPSE = rd (bump pgPrimacy R.PRIMACY_CNT_LAPSE s) pgPrimacy R.PRIMACY_CNT_LAPSE ∧
      (rd s pgPrimacy R.PRM_STAT_HOLDER = holderCode (some h) → rd t pgPrimacy R.PRM_STAT_HOLDER = 0) ∧
      t = { s with regs := t.regs, keeper := { s.keeper with lease := t.keeper.lease }, strikes := t.strikes })) ∧
    (halfUp s h = true → primLost s h = false → Ends (.keeperTmoExpiry h) s (fun t =>
      t.keeper.lease = { l with timer := l.timer.put h none, asks := l.asks.put h none } ∧
      rd t pgPrimacy (lostFld h) = 1 ∧ rd t pgPrimacy (reachFld h) = 0 ∧ (rd t pgPrimacy R.EVT_RAW).testBit 3 = true ∧
      rd t pgPrimacy R.PRIMACY_CNT_LOST = rd (bump pgPrimacy R.PRIMACY_CNT_LOST s) pgPrimacy R.PRIMACY_CNT_LOST ∧
      t = { s with regs := t.regs, keeper := { s.keeper with lease := t.keeper.lease }, strikes := t.strikes })) ∧
    ((halfUp s h = false ∨ primLost s h = true) → exec (.keeperTmoExpiry h) s = .next s) ∧
    Ends .restoreWaitExpiry s (fun t => t = { s with keeper := { s.keeper with lease := { l with restore := none } } })) ∧
  (∀ (s : State) (h : Half) (l : Lease), TokenAlone s → s.keeper.lease = l →
    (AsksAlone s h → (l.holder = none ∨ l.holder = some h ∨ l.lastAns + 2000000 ≤ s.clk) →
      (l.last ≠ none ∨ h = s.keeper.straps.pref ∨ l.prefOver = true) → Ends (.primacyGrant h) s (Granted h [] s)) ∧
    (AsksAlone s h → l.holder = none → l.last = none → h ≠ s.keeper.straps.pref → l.prefOver = false →
      Ends (.primacyGrant h) s (fun t =>
        t = { s with keeper := { s.keeper with lease := { l with prefWait := some h } } })) ∧
    ((primLost s h = true ∨ l.asks.at h = none ∨ (l.holder = some h.twin ∧ s.clk < l.lastAns + 2000000) ∨
        (∃ q, l.quietFrom = some q ∧ s.clk < q + 2000000) ∨ l.restore = some h.twin) →
      exec (.primacyGrant h) s = .next s) ∧
    (l.prefWait = none → exec .prefWaitExpiry s = .next s) ∧
    (l.prefWait = some h → AsksAlone s h → (l.holder = none ∨ l.holder = some h) →
      Ends .prefWaitExpiry s (fun t => Granted h [] s t ∧ t.keeper.lease.prefOver = true)) ∧
    (l.prefWait = some h → AsksAlone s h.twin → (l.holder = none ∨ l.holder = some h.twin) →
      Ends .prefWaitExpiry s (fun t => Granted h.twin [] s t ∧ t.keeper.lease.prefOver = true))) ∧
  (∀ (s : State) (h : Half) (reach : Bool) (l : Lease), TokenAlone s → s.keeper.lease = l →
    ((reach = false ∨ s.boot.keeperUp = false ∨ halfUp s h = false) → Ends (.primacyRestore h reach) s (fun t =>
      rd t pgPrimacy R.PRM_STAT_CAUSE = 1 ∧ t = { s with regs := t.regs, woLatch := t.woLatch } ∧
      RegsKept [(pgPrimacy, R.PRM_STAT_CAUSE.off)] s t)) ∧
    (s.boot.keeperUp = true → halfUp s h = true →
      Ends (.primacyRestore h true) s (fun t => rd t pgPrimacy R.PRM_STAT_W_LOST = 0 ∧
        rd t pgPrimacy R.PRM_STAT_E_LOST = 0 ∧ rd t pgPrimacy R.PRM_STAT_CAUSE = 0 ∧
        (rd t pgPrimacy R.EVT_RAW).testBit 4 = true) ∧
      (holds s h.twin = true → Ends (.primacyRestore h true) s (fun t =>
        t.keeper.lease = { l with restore := some h, asks := l.asks.put h (some s.clk) } ∧
        t = { s with
          regs := t.regs, keeper := { s.keeper with lease := t.keeper.lease }, strikes := t.strikes, woLatch := t.woLatch })) ∧
      (holds s .west = false → holds s .east = false → (l.holder = none ∨ l.holder = some h ∨ l.lastAns + 2000000 ≤ s.clk) →
        Ends (.primacyRestore h true) s (Granted h [] s)) ∧
      (holds s .west = false → holds s .east = false → l.holder = some h.twin → s.clk < l.lastAns + 2000000 →
        Ends (.primacyRestore h true) s (fun t =>
          t.keeper.lease = { l with restore := some h, asks := l.asks.put h (some s.clk) }))))

/-- O55. While the waiting commands are those of the token and the emergency pin, no step and no nanosecond ever makes
two primaries. 16_protection_and_two_party_commit.md R542; 16_protection_and_two_party_commit.md R543;
16_protection_and_two_party_commit.md R544; 16_protection_and_two_party_commit.md R545;
16_protection_and_two_party_commit.md R546; 16_protection_and_two_party_commit.md R547 -/
def Obligations.NoInstantHasTwoPrimaries : Prop :=
  TokenInv State.reset ∧ ∀ (s t : State), TokenInv s → step s = .next t → TokenInv t

/-- O56. A pass filters its inputs, judges rules and trips; power commands, the drained instant, time-outs and timers
move the state. 17_keeper_and_power_states.md R555; 17_keeper_and_power_states.md R556; 17_keeper_and_power_states.md
R557; 17_keeper_and_power_states.md R558; 17_keeper_and_power_states.md R559; 17_keeper_and_power_states.md R560;
17_keeper_and_power_states.md R561; 17_keeper_and_power_states.md R562; 17_keeper_and_power_states.md R563;
17_keeper_and_power_states.md R566; 17_keeper_and_power_states.md R568; 17_keeper_and_power_states.md R571 -/
def Obligations.TheKeeperSamplesRulesAndMovesPower : Prop :=
  (∀ (s : State) (x : KeeperSample), KeeperRuns s → Settles (.keeperPass x) s (fun u =>
    rd u pgKeeper R.KP_TIME = (rd s pgKeeper R.KP_TIME + 1) % 2 ^ 48 ∧
    (∀ i, 8 ≤ i → i < 24 → rdI u pgKeeper R.KP_IN_VIEW_VALID i = 1 ∧ rdI u pgKeeper R.KP_IN_VIEW_RAW i = lineOf x s i ∧
      rdI u pgKeeper R.KP_IN_VIEW_FILT i = (if lineOf x s i ≠ rdI s pgKeeper R.KP_IN_VIEW_FILT i ∧
        rdI s pgKeeper R.KP_IN_CFG_DEB i + 1 ≤ tget 0 s.keeper.debs i + 1 then lineOf x s i
        else rdI s pgKeeper R.KP_IN_VIEW_FILT i)) ∧
    (∀ i v win, (i, v) ∈ [(3, x.flow), (4, x.vddCore), (5, x.vddEasel), (6, x.vddSerdes), (7, x.vddKeep)] →
      win = (if rdI s pgKeeper R.KP_IN_VIEW_VALID i = 0 then List.replicate 128 (v : Int)
        else ((v : Int) :: tget [] s.keeper.wins i).take 128).take (2 ^ rdI s pgKeeper R.KP_IN_CFG_AVG_LOG2 i) →
      rdI u pgKeeper R.KP_IN_VIEW_VALID i = 1 ∧ rdI u pgKeeper R.KP_IN_VIEW_RAW i = v % 65536 ∧
      rdI u pgKeeper R.KP_IN_VIEW_FILT i =
        low16 ((win.foldl (fun a b => a + b) 0).tdiv (2 ^ rdI s pgKeeper R.KP_IN_CFG_AVG_LOG2 i))) ∧
    (∀ r, r < 64 → rdI s pgKeeper R.KP_RULE_0_EN r = 0 → rdI u pgKeeper R.KP_RULE_1_MATCH r = 0) ∧
    (∀ r i, SteadyRule x s r i → rdI u pgKeeper R.KP_RULE_1_MATCH r = 1 ∧
      (rdI s pgKeeper R.KP_RULE_0_ACT_WAKE_OUT r = 1 → rdB u pgKeeper R.KP_OUT_BY_RULE = true) ∧
      (∀ p, rdI s pgKeeper R.KP_RULE_0_ACT_HOLD r = 1 → rdI s pgKeeper R.KP_RULE_0_PORT r = p → p < 64 →
        (rd u pgKeeper R.KP_HOLD_PORTS).testBit p = true)) ∧
    (2 ≤ power s → power s ≤ 4 → 1840 ≤ x.tempW → 3 ≤ tget 0 s.keeper.trips 0 → PoweredDown 0 u ∧
      rd u pgKeeper R.KP_PWR_STAT_TRIP_CAUSE = 1 ∧ u.keeper.tripDue = true ∧ u.easel = s.easel))) ∧
  (∀ (s : State) (x : KeeperSample), s.boot.keeperUp = false → exec (.keeperPass x) s = .next s) ∧
  (∀ (s : State) (tg : BitVec 3) (p : Path), AtKeeper s p →
    (tg.toNat = power s → Ends (.kpPwrCmd tg p) s (fun t => t = { s with woLatch := t.woLatch })) ∧
    ((tg.toNat ≠ power s ∧ (tg.toNat = 3 ∨ 4 < tg.toNat)) ∨ (power s = 4 ∧ tg.toNat < 3 ∧ startBusy s = true) ∨
        (power s ≤ 1 ∧ tg.toNat = 2) ∨ (power s = 2 ∧ tg.toNat < 2 ∧ mayLeave s = false) →
      Ends (.kpPwrCmd tg p) s (fun t =>
        t = cfgReject pgKeeper R.KP_PWR_CMD_TARGET.off 3 .live (some p) { s with woLatch := t.woLatch })) ∧
    (power s = 4 → tg.toNat < 3 → startBusy s = false → Settles (.kpPwrCmd tg p) s (fun u => power u = 3 ∧
      rd u pgKeeper R.KP_PWR_STAT_TARGET = tg.toNat ∧ rd u pgKeeper R.KP_PWR_STAT_LAST = 4 ∧ u.keeper.late = false ∧
      rd u pgKeeper R.KEEPER_CNT_DRAIN = rd (bump pgKeeper R.KEEPER_CNT_DRAIN s) pgKeeper R.KEEPER_CNT_DRAIN)) ∧
    (power s = 3 → tg.toNat < 3 → Ends (.kpPwrCmd tg p) s (fun t => rd t pgKeeper R.KP_PWR_STAT_TARGET = tg.toNat ∧
      t = { s with regs := t.regs, woLatch := t.woLatch } ∧ RegsKept [(pgKeeper, R.KP_PWR_STAT_TARGET.off)] s t ∧
      power t = 3)) ∧
    ((power s = 2 ∨ power s = 3) → tg.toNat = 4 →
      Settles (.kpPwrCmd tg p) s (Woken (if p = .smbus then 2 else 1) s)) ∧
    (power s = 2 → tg.toNat < 2 → mayLeave s = true → Settles (.kpPwrCmd tg p) s (PoweredDown tg.toNat)) ∧
    (power s = 1 → tg.toNat = 0 → Settles (.kpPwrCmd tg p) s (fun u => power u = 0 ∧ u.boot.mainEn = false)) ∧
    (power s = 0 → tg.toNat = 4 → p = .smbus → s.keeper.tripNow = false → Settles (.kpPwrCmd tg p) s (fun u =>
      Woken 2 s u ∧ u.boot.mainEn = true ∧ u.boot.cause = 4 ∧ u.boot.s2 = 1)) ∧
    (power s = 0 → tg.toNat = 4 → p = .smbus → s.keeper.tripNow = true →
      Ends (.kpPwrCmd tg p) s (fun t => t = { s with woLatch := t.woLatch }))) ∧
  (∀ (s : State), quiet s = true →
    ((power s ≠ 3 ∨ drainWait s ≠ 0) → exec .drained s = .next s) ∧
    (power s = 3 → drainWait s = 0 → rd s pgKeeper R.KP_PWR_STAT_TARGET = 2 → Settles .drained s (fun u => power u = 2 ∧
      ∀ n, n < 16 → fiuState s n = fsACTIVE → (fiuGet u n).pmLpi = true)) ∧
    (∀ tg, power s = 3 → drainWait s = 0 → rd s pgKeeper R.KP_PWR_STAT_TARGET = tg → tg < 2 → mayLeave s = true →
      Settles .drained s (PoweredDown tg)) ∧
    (power s = 3 → s.keeper.late = false → Ends .drainTimeout s (fun t => t.keeper = { s.keeper with late := true, owed := t.keeper.owed } ∧
      (rd t pgKeeper R.EVT_RAW).testBit 1 = true ∧ rd t pgKeeper R.KEEPER_CNT_DRAIN_LATE =
        rd (bump pgKeeper R.KEEPER_CNT_DRAIN_LATE s) pgKeeper R.KEEPER_CNT_DRAIN_LATE ∧
      t = { s with regs := t.regs, keeper := t.keeper, strikes := t.strikes })) ∧
    ((power s ≠ 3 ∨ s.keeper.late = true) → exec .drainTimeout s = .next s) ∧
    ((rd s pgKeeper R.KP_WAKE_TMR_EN = 0 ∨ rd s pgKeeper R.KP_TIME ≠ rd s pgKeeper R.KP_WAKE_TMR_AT) →
      exec .wakeTimer s = .next s) ∧
    (rd s pgKeeper R.KP_WAKE_TMR_EN = 1 → rd s pgKeeper R.KP_TIME = rd s pgKeeper R.KP_WAKE_TMR_AT →
      (power s = 2 ∨ power s = 3) → Settles .wakeTimer s (fun u => Woken 4 s u ∧ rd u pgKeeper R.KP_WAKE_TMR_EN = 0))) ∧
  (∀ (s : State) (p : Path), AtKeeper s p →
    (power s ≤ 1 → Ends (.kpQuerySnapshot p) s (fun t =>
      t = cfgReject pgKeeper R.KP_QUERY_OP.off 3 .live (some p) { s with woLatch := t.woLatch })) ∧
    (2 ≤ power s → resRoom s 0 24 = true → Ends (.kpQuerySnapshot p) s (fun t =>
      ResultPushed 0 8 ((List.range 24).map (fun i => i * 2 ^ 51 + rdI s pgKeeper R.KP_IN_VIEW_VALID i * 2 ^ 50 +
        rdI s pgKeeper R.KP_IN_VIEW_RAW i * 2 ^ 32 + rdI s pgKeeper R.KP_IN_VIEW_FILT i)) s t ∧
      t = { s with regs := t.regs, results := t.results, strikes := t.strikes, woLatch := t.woLatch })) ∧
    (s.keeper.log = [] → Ends (.kpLogPop p) s (fun t =>
      t = { s with out := s.out ++ [.answer (pathCode (some p)) 0], woLatch := t.woLatch })) ∧
    (∀ n w r, s.keeper.log = (n, w) :: r → Ends (.kpLogPop p) s (fun t =>
      t = { s with
        keeper := { s.keeper with log := r }, woLatch := t.woLatch
        out := s.out ++ [.answer (pathCode (some p)) (2 ^ 63 + n % 128 * 2 ^ 56 + w % 2 ^ 56)] })))

/-- O57. The Keeper boots, supplies and RESET_N release the halves, and each step of a start ends with its code.
19_startup_reset_recovery.md R599; 19_startup_reset_recovery.md R600; 19_startup_reset_recovery.md R601;
19_startup_reset_recovery.md R602; 19_startup_reset_recovery.md R603; 19_startup_reset_recovery.md R604;
19_startup_reset_recovery.md R607; 19_startup_reset_recovery.md R611; 19_startup_reset_recovery.md R613;
19_startup_reset_recovery.md R615; 11_easel_staging_memory.md R383; 11_easel_staging_memory.md R382 -/
def Obligations.StartUpRunsItsSteps : Prop :=
  (∀ (s : State) (p : StrapPins),
    (s.boot.vddKeep = true → exec (.vddKeepUp p) s = .next s) ∧
    (s.boot.vddKeep = false → Ends (.vddKeepUp p) s (fun t => t.boot.vddKeep = true ∧ t.boot.s1 = 1 ∧ t.boot.s2 = 0 ∧
      t.boot.s4 = 0 ∧ t.boot.cause = 1 ∧ t.boot.seq = nextSeq s.boot ∧ t.boot.mode = p.startMode.toNat ∧
      t.boot.boots = (s.boot.boots + 1) % 65536 ∧
      t.boot.recs = ⟨nextSeq s.boot, 1, 1, 0, 0, t.boot.boots, t.boot.west, t.boot.east⟩ :: s.boot.recs.take 15 ∧
      t.keeper.lease.holder = none ∧
      t = { s with boot := t.boot, keeper := { s.keeper with straps := strapsOf p, lease := t.keeper.lease } }))) ∧
  (∀ (s : State), quiet s = true →
    ((s.boot.vddKeep = false ∨ s.boot.s1 ≠ 1) → exec .keeperBootDone s = .next s) ∧
    (s.boot.vddKeep = true → s.boot.s1 = 1 →
      Ends .keeperBootDone s (fun t => t.boot.keeperUp = true ∧
        (s.keeper.straps.fwRom = true → t.boot.s1 = 2 ∧ t.boot.img = 0) ∧
        (∀ x r, s.boot.slots = x :: r → s.keeper.straps.fwRom = false →
          (imgGood x = true → t.boot.s1 = 2 ∧ t.boot.img = x.gen) ∧
          (imgGood x = false → t.boot.s1 = 3 ∧ ∀ y q, r = y :: q → imgGood y = true → t.boot.img = y.gen)) ∧
        (s.keeper.straps.startMode = 1 → power t = 0 ∧ t = { s with boot := t.boot, regs := t.regs } ∧
          t.boot.mainEn = s.boot.mainEn ∧ RegsKept [(pgKeeper, R.KP_PWR_STAT_STATE.off)] s t) ∧
        (s.keeper.straps.startMode ≠ 1 → t.boot.mainEn = true ∧ t.boot.s2 = 1 ∧
          t = { s with boot := t.boot, out := s.out ++ [.pin "MAIN_EN" true] }))) ∧
    ((s.boot.mainEn = false ∨ s.boot.s2 ≠ 1) → exec .suppliesInRange s = .next s ∧ exec .supplyTimeout s = .next s) ∧
    (s.boot.mainEn = true → s.boot.s2 = 1 →
      (s.boot.resetN = false → Ends .suppliesInRange s (fun t => t.boot.s2 = 4 ∧ t.boot.supplies = true ∧
        t.boot.west = s.boot.west ∧ t.boot.east = s.boot.east ∧ t = { s with boot := t.boot })) ∧
      (s.boot.keeperUp = true → s.boot.resetN = true → 2 ≤ power s → Settles .suppliesInRange s (fun u =>
        u.boot.s2 = 2 ∧ u.boot.supplies = true ∧ BothBegun s u)) ∧
      Ends .supplyTimeout s (fun t => t.boot.s2 = 16 ∧ t.boot.mainEn = false ∧ t.boot.supplies = false ∧ power t = 0 ∧
        t.out = s.out ++ [.pin "MAIN_EN" false] ∧ StartFailed s t)) ∧
    (s.boot.resetN = true → exec .resetNRise s = .next s) ∧
    (s.boot.resetN = false → Releasable { s with boot := { s.boot with resetN := true } } →
      (s.boot.s2 = 4 → Settles .resetNRise s (fun u => u.boot.s2 = 2 ∧ u.boot.resetN = true ∧ BothBegun s u)) ∧
      (s.boot.s2 ≠ 4 → halfState s .west = hsDOWN → halfState s .east = hsDOWN → Settles .resetNRise s (fun u =>
        u.boot.cause = 2 ∧ u.boot.s1 = 6 ∧ u.boot.s2 = 6 ∧ power u = 4 ∧ u.boot.seq = nextSeq s.boot ∧ BothBegun s u))) ∧
    (s.boot.resetN = false → power s < 2 →
      exec .resetNRise s = .next { s with boot := { s.boot with resetN := true } })) ∧
  (∀ (s : State) (h : Half) (r : TestRes),
    (quiet s = true → exec (.selfTestDone h r) s = .next s) ∧
    (SelfTests s h →
      (∀ c, (r, c) ∈ [(TestRes.sram, 16), (.engine, 17), (.easel, 18)] → Settles (.selfTestDone h r) s (fun u =>
        halfState u h = hsFAILED ∧ (u.boot.half h).s3 = c ∧ StartFailed s u ∧
        halfState u h.twin = halfState s h.twin ∧ u.easel = s.easel)) ∧
      (r = .span → s.boot.single = none → Settles (.selfTestDone h r) s (fun u => halfState u h = hsHALTED ∧
        (u.boot.half h).s3 = 19 ∧ (rd u (pgMgmt h) R.EVT_RAW).testBit 4 = true ∧ StartFailed s u ∧
        (SelfTests s h.twin → halfState u h.twin = hsHALTED ∧ (u.boot.half h.twin).s3 = 19))) ∧
      (r = .pass → halfUp s h.twin = false ∨ s.boot.span = true ∨ s.boot.single ≠ none →
        Settles (.selfTestDone h r) s (fun u => halfState u h = hsSTARTING ∧
          (u.boot.half h).s3 = (engineImage s h).1 ∧ (u.boot.half h).img = (engineImage s h).2 ∧
          ((engineImage s h).1 = 3 → (rd u (pgMgmt h) R.EVT_RAW).testBit 5 = true) ∧
          ((halfState s h.twin = hsRUNNING ∨ halfState s h.twin = hsSINGLE) → u.tb.at h = s.tb.at h.twin) ∧
          (halfState s h.twin ≠ hsRUNNING → halfState s h.twin ≠ hsSINGLE → s.time.run.at h = false →
            u.tb = ⟨(s.record.floor + 2000000000) % 2 ^ 64, (s.record.floor + 2000000000) % 2 ^ 64⟩ ∧
            u.time.run = ⟨true, true⟩) ∧ u.easel = s.easel)))) ∧
  (∀ (s : State),
    (quiet s = true → s.boot.s4 ≠ 1 → exec .primacyStepTimeout s = .next s) ∧
    (s.boot.s4 = 1 → (primary s).isSome = true →
      Settles .primacyStepTimeout s (fun u => u = { s with boot := { s.boot with s4 := 2 } })) ∧
    (s.boot.s4 = 1 → primary s = none → Settles .primacyStepTimeout s (fun u =>
      u = { s with boot := { s.boot with s4 := 16 }, regs := u.regs, strikes := u.strikes } ∧ StartFailed s u))) ∧
  (∀ (s : State) (h : Half), halfState s h = hsSTARTING → codeOn (s.boot.half h).s3 = true → step4On s = true →
    (s.boot.half h).s5 = 0 →
    (2 ≤ s.boot.mode → s.boot.goOn = false → HaltedAt5 h 4 (boot5 h s)) ∧
    ((s.boot.mode < 2 ∨ s.boot.goOn = true) →
      (halfState s h.twin = hsFAILED → s.boot.single ≠ some h → HaltedAt5 h 17 (boot5 h s) ∧ StartFailed s (boot5 h s)) ∧
      ((halfState s h.twin ≠ hsFAILED ∨ s.boot.single = some h) →
        ((boot5 h s).boot.half h).s5 = (if carved s then 1 else 5) ∧
        rd (boot5 h s) pgEaselG (replayFld h) = (if carved s then 1 else 4)))) ∧
  (∀ (s : State) (h : Half) (dmg : Bool),
    (quiet s = true → exec (.replayDone h dmg) s = .next s) ∧
    (halfState s h = hsSTARTING → (s.boot.half h).s5 = 1 →
      (dmg = true → Settles (.replayDone h dmg) s (fun u => HaltedAt5 h 16 u ∧ rd u pgEaselG (replayFld h) = 3 ∧
        (rd u pgEaselG R.EVT_RAW).testBit 3 = true ∧ StartFailed s u)) ∧
      (dmg = false → Settles (.replayDone h dmg) s (fun u => u = replayAll (rebuildAll h
        (wr pgEaselG (replayFld h) 2 (bhMod h (fun b => { b with state := hsSTARTING, s5 := 2 }) s))))) ∧
      (dmg = false → NothingToRebuild s h → Settles (.replayDone h dmg) s (fun u => rd u pgEaselG (replayFld h) = 2 ∧
        (u.boot.half h).s5 = 2 ∧ halfState u h = hsSTARTING ∧
        (rd s pgEaselG (replayFld h.twin) = 2 ∨ s.boot.single = some h →
          rd u pgEaselG R.EZG_CTRL_SVC = 1 ∧ (rd u pgEaselG R.EVT_RAW).testBit 2 = true) ∧
        (rd s pgEaselG (replayFld h.twin) ≠ 2 → s.boot.single = none →
          rd u pgEaselG R.EZG_CTRL_SVC = rd s pgEaselG R.EZG_CTRL_SVC))))) ∧
  (∀ (s : State) (h : Half),
    (quiet s = true → exec (.portWaitExpiry h) s = .next s ∧ exec (.lightWaitExpiry h) s = .next s ∧
      exec (.fabricWaitExpiry h) s = .next s ∧ exec (.resumeStep h) s = .next s) ∧
    (halfState s h = hsSTARTING →
      ((s.boot.half h).s6 = 1 →
        Settles (.portWaitExpiry h) s (fun u => u = bhMod h (fun b => { b with s6 := 3 }) s)) ∧
      ((s.boot.half h).s7 = 1 →
        Settles (.lightWaitExpiry h) s (fun u => u = bhMod h (fun b => { b with s7 := 3 }) s)) ∧
      ((s.boot.half h).s8 = 1 → (startFius s h).any (fun n => fiuState s n == fsACTIVE) = true →
        Settles (.fabricWaitExpiry h) s (fun u => u = bhMod h (fun b => { b with s8 := 3 }) s)) ∧
      ((s.boot.half h).s8 = 1 → (startFius s h).any (fun n => fiuState s n == fsACTIVE) = false →
        Settles (.fabricWaitExpiry h) s (fun u => (u.boot.half h).s8 = 16 ∧ StartFailed s u ∧
          u = { s with boot := u.boot, regs := u.regs, strikes := u.strikes })) ∧
      ((s.boot.half h).s9 = 1 → rdB s pgEaselG R.EZG_CTRL_SVC = true → Settles (.resumeStep h) s (fun u =>
        StartedUp h 2 s u ∧
        ∀ i P f, (i, P, f) ∈ [(0, pgPalette h, R.PAL_CTRL_EN), (1, pgDikar h, R.DK_CTRL_EN), (2, pgColl h, R.COL_CTRL_EN),
            (3, pgPlace h, R.PL_CTRL_EN), (4, pgSched h, R.SCH_CTRL_EN), (5, pgLantern, R.LAN_CTRL_EN)] →
          rd u P f = if (s.boot.half h).resume.testBit i then 1 else rd s P f)) ∧
      (codeOn (s.boot.half h).s8 = true ∨ (s.boot.half h).s8 = 16 → (s.boot.half h).s9 = 0 → (s.boot.half h).s5 = 5 →
        StartedUp h 5 s (boot9 h s))))

/-- O58. Resets and brown-outs put both halves in reset; ST_CMD starts, resets, continues or reports; TB_FLOOR and the
span follow. 19_startup_reset_recovery.md R601; 19_startup_reset_recovery.md R604; 19_startup_reset_recovery.md R605;
19_startup_reset_recovery.md R606; 19_startup_reset_recovery.md R608; 19_startup_reset_recovery.md R609;
19_startup_reset_recovery.md R611; 20_electrical_thermal_package.md R618; 20_electrical_thermal_package.md R622;
20_electrical_thermal_package.md R623; 15_register_pages_and_host_port.md R489; 16_protection_and_two_party_commit.md
R547 -/
def Obligations.ResetsAndStartCommandsAct : Prop :=
  (∀ (s : State) (c : Instr), c ∈ [.brownOut, .mainSupplyLoss] →
    (quiet s = true → (s.boot.supplies = false ∨ s.boot.brown = true) → exec c s = .next s) ∧
    (s.boot.supplies = true → s.boot.brown = false → 2 ≤ power s → Settles c s (fun u => u.boot.brown = true ∧ BothReset s u)) ∧
    (quiet s = true → s.boot.supplies = true → s.boot.brown = false → power s < 2 →
      exec c s = .next { s with boot := { s.boot with brown := true } })) ∧
  (∀ (s : State),
    (s.boot.supplies = true → 2 ≤ power s →
      Settles .resetNFall s (fun u => u.boot.resetN = false ∧ u.tap.undef = false ∧ BothReset s u)) ∧
    (quiet s = true → (s.boot.supplies = false ∨ power s < 2) → exec .resetNFall s =
      .next { s with boot := { s.boot with resetN := false }, tap := { s.tap with undef := false } }) ∧
    (quiet s = true → s.boot.brown = false → exec .brownOutRecover s = .next s) ∧
    (s.boot.brown = true → Releasable { s with boot := { s.boot with brown := false } } →
      (s.boot.s2 = 4 → Settles .brownOutRecover s (fun u => u.boot.s2 = 2 ∧ u.boot.brown = false ∧ BothBegun s u)) ∧
      (s.boot.s2 ≠ 4 → halfState s .west = hsDOWN → halfState s .east = hsDOWN → Settles .brownOutRecover s (fun u =>
        u.boot.cause = 2 ∧ power u = 4 ∧ u.boot.seq = nextSeq s.boot ∧ BothBegun s u))) ∧
    (s.boot.vddKeep = false → exec .vddKeepLoss s = .next s) ∧
    (s.boot.vddKeep = true → Ends .vddKeepLoss s (fun t => t.boot = {
        resetN := s.boot.resetN, boots := s.boot.boots, recs := s.boot.recs, slots := s.boot.slots } ∧
      t.keeper = {} ∧ t.easel = s.easel ∧ t.jrnl.west.jseq = s.jrnl.west.jseq ∧ t.jrnl.east.jseq = s.jrnl.east.jseq ∧
      (s.boot.mainEn = true → .pin "MAIN_EN" false ∈ t.out))) ∧
    (quiet s = true → (∀ h, leadHalf s = some h → halfState s h ≠ hsRUNNING ∧ halfState s h ≠ hsSINGLE) →
      exec .tbFloorSave s = .next s) ∧
    (∀ h, leadHalf s = some h → (halfState s h = hsRUNNING ∨ halfState s h = hsSINGLE) →
      Settles .tbFloorSave s (fun u => u.record = { s.record with floor := nowH s h })) ∧
    (quiet s = true → exec .spanDown s = .next { s with boot := { s.boot with span := false } }) ∧
    (quiet s = true → (s.boot.span = true ∨ halfUp s .west = false ∨ halfUp s .east = false) → exec .spanUp s = .next s) ∧
    (quiet s = true → s.boot.span = false → halfUp s .west = true → halfUp s .east = true → prState s ≠ 2 →
      s.prot.emerg = [] → exec .spanUp s = .next { s with boot := { s.boot with span := true } })) ∧
  (∀ (s : State) (pg h : Half) (p : StrapPins) (c : Instr), mgmtUp s pg = false → c ∈ [.stContinue pg, .stRestart pg,
      .stHalfReset pg h, .stSingle pg h, .stAcceptLoss pg h, .stKeeperRestart pg p, .stBootlog pg] →
    exec c s = .next (barErr 4 (barOff (pgMgmt pg) R.ST_CMD_OP.off) s)) ∧
  (∀ (s : State) (pg h : Half) (p : StrapPins), quiet s = true → mgmtUp s pg = true →
    (¬ WaitsAt5 s .west → ¬ WaitsAt5 s .east → StartRefused (.stContinue pg) pg s) ∧
    (WaitsAt5 s h → Settles (.stContinue pg) s (fun u => u.boot.goOn = true ∧ halfState u h = hsSTARTING ∧
      (u.boot.half h).s5 = 0 ∧ (¬ WaitsAt5 s h.twin → u.boot.half h.twin = s.boot.half h.twin) ∧
      u = { s with boot := u.boot, woLatch := u.woLatch })) ∧
    (power s < 2 → StartRefused (.stRestart pg) pg s) ∧
    (Releasable s → Settles (.stRestart pg) s (fun u => power u = 4 ∧ u.boot.cause = 5 ∧ u.boot.seq = nextSeq s.boot ∧
      u.boot.s1 = 6 ∧ u.boot.s2 = 6 ∧ u.boot.single = none ∧ u.easel = s.easel ∧
      ∀ g, halfState u g = hsSTARTING ∧ (u.boot.half g).step = 3)) ∧
    ((halfState s h ≠ hsRUNNING ∨ halfState s h.twin ≠ hsRUNNING) → StartRefused (.stHalfReset pg h) pg s) ∧
    (halfState s h = hsRUNNING → halfState s h.twin = hsRUNNING → Settles (.stHalfReset pg h) s (fun u =>
      halfState u h = hsSTARTING ∧ (u.boot.half h).step = 3 ∧ u.boot.cause = 6 ∧ u.boot.s4 = 6 ∧ u.boot.span = false ∧
      halfState u h.twin = hsRUNNING ∧ (u.boot.half h.twin).s3 = 6 ∧ (u.boot.half h.twin).s9 = 6)) ∧
    (halfState s h.twin ≠ hsFAILED → ¬ (HaltedForTwin s .west ∧ HaltedForTwin s .east) →
      StartRefused (.stSingle pg h) pg s) ∧
    (halfState s h.twin = hsFAILED ∨ (HaltedForTwin s .west ∧ HaltedForTwin s .east) → Settles (.stSingle pg h) s (fun u =>
      u.boot.single = some h ∧ halfState u h.twin = hsDOWN ∧ u.boot.span = false ∧
      (halfState s h = hsHALTED → (s.boot.half h).s3 = 19 →
        halfState u h = hsSTARTING ∧ (u.boot.half h).s3 = (engineImage s h).1) ∧
      (halfState s h = hsHALTED → (s.boot.half h).s3 ≠ 19 → (s.boot.half h).s5 = 17 →
        halfState u h = hsSTARTING ∧ (u.boot.half h).s5 = 0) ∧
      (halfState s h = hsRUNNING → halfState u h = hsSINGLE))) ∧
    ((halfState s h ≠ hsHALTED ∨ (s.boot.half h).s5 ≠ 16) → StartRefused (.stAcceptLoss pg h) pg s) ∧
    (halfState s h = hsHALTED → (s.boot.half h).s5 = 16 → Settles (.stAcceptLoss pg h) s (fun u =>
      (∃ r, r = { s with woLatch := r.woLatch } ∧ u = replayEnd h 3 (checkpoint h r)) ∧
      (NothingToRebuild s h → (s.jrnl.at h).owed = [] →
        halfState u h = hsSTARTING ∧ (u.boot.half h).s5 = 3 ∧ rd u pgEaselG (replayFld h) = 2 ∧
        u.jrnl = s.jrnl.put h { s.jrnl.at h with jseq := ((s.jrnl.at h).jseq + 1) % 2 ^ 64, fill := 1, full := false }))) ∧
    Settles (.stKeeperRestart pg p) s (fun u => ∃ r, KeeperRestarted p s r ∧
      u = recSync (holdsChanged (rd s pgKeeper R.KP_HOLD_PORTS) r)) ∧
    (resRoom s 0 48 = true → Ends (.stBootlog pg) s (fun t => ResultPushed 0 8
        ((s.boot.recs.map recWords).flatten ++ List.replicate (48 - (s.boot.recs.map recWords).flatten.length) 0) s t ∧
      t = { s with regs := t.regs, results := t.results, strikes := t.strikes, woLatch := t.woLatch })))

/-- O59. A step runs the command at the front of the queue; every command answers a next state; an empty queue passes
a nanosecond. 06_light_list_and_angle_time.md R199; 06_light_list_and_angle_time.md R201; 19_startup_reset_recovery.md
R603 -/
def Obligations.AStepRunsTheFrontCommand : Prop :=
  (∀ (s : State) (c : Instr) (r : List Instr), s.pending = c :: r → step s = exec c { s with pending := r }) ∧
  (∀ (s : State) (c : Instr), ∃ t, exec c s = .next t) ∧
  (∀ (s : State) (n w : Nat), s.withFetchWord n w = s) ∧
  (∀ (s : State), s.pending = [] → step s = .next (idle s)) ∧
  (∀ (s : State), s.pending = [] → quiet s = true → NoInterval s → ∃ t, step s = .next t ∧ t.clk = s.clk + 1 ∧
    (∀ h, t.tb.at h = if s.time.run.at h then (s.tb.at h + tickBy s.time) % 2 ^ 64 else s.tb.at h) ∧ tickBy s.time ≤ 2 ∧
    t = { s with clk := t.clk, tb := t.tb, time := { s.time with slewTick := t.time.slewTick, slew := t.time.slew } }) ∧
  SafeState State.reset ∧ quiet State.reset = true ∧ halfState State.reset .west = hsDOWN ∧
  halfState State.reset .east = hsDOWN ∧ power State.reset = 4 ∧ State.reset.boot.mainEn = false ∧
  State.reset.pending = [] ∧ State.reset.easel = []

/-- O60. An occurrence always sets EVT_RAW; with EVT_EN it sets EVT_PEND and strikes once; later enables and clears
never strike. 14_lantern_events.md R456 -/
def Obligations.EachOccurrenceStrikesOnceWhereEnabled : Prop :=
  (∀ (s : State) (P src b : Nat), pageSource P = some src → b < 64 →
    (∀ i, i < 64 → (rd (raise P b s) P R.EVT_RAW).testBit i = ((rd s P R.EVT_RAW).testBit i || i == b)) ∧
    ((rd s P R.EVT_EN).testBit b = true →
      (∀ i, i < 64 → (rd (raise P b s) P R.EVT_PEND).testBit i = ((rd s P R.EVT_PEND).testBit i || i == b)) ∧
      (raise P b s).strikes = s.strikes ++ [strikeOf src P s] ∧
      (raise P b (raise P b s)).strikes = s.strikes ++ [strikeOf src P s, strikeOf src P s]) ∧
    ((rd s P R.EVT_EN).testBit b = false →
      rd (raise P b s) P R.EVT_PEND = rd s P R.EVT_PEND ∧ (raise P b s).strikes = s.strikes) ∧
    raise P b s = { s with regs := (raise P b s).regs, strikes := (raise P b s).strikes } ∧
    RegsKept (evtRegs P) s (raise P b s)) ∧
  (∀ (s : State) (P : Nat) (k : PageKind) (v : BitVec 64) (p : Path), pageKind P = some k → Written s P R.EVT_EN.off p →
    Ends (.regWrite P R.EVT_EN.off .whole v p) s (fun t => t.strikes = s.strikes ∧
      rd t P R.EVT_RAW = rd s P R.EVT_RAW ∧ rd t P R.EVT_PEND = rd s P R.EVT_PEND)) ∧
  (∀ (s : State) (P : Nat) (m : BitVec 64), pageLive s P = true → Ends (.evtPendClear P m) s (fun t =>
    t.strikes = s.strikes ∧
    ∀ i, i < 64 → (rd t P R.EVT_PEND).testBit i = ((rd s P R.EVT_PEND).testBit i && !m.toNat.testBit i)))
end

