-- ==== Sys2Proof/Laws/State.lean ====
section
/-!
SUPPORT. What each update of the state leaves alone: one lemma for each field and each named update, so that no proof
unfolds a record update.
-/
namespace Sys2Proof.Machine

/-! `wrI` changes regs. -/

@[simp] theorem wrI_pending (P : Nat) (f : Fld) (i v : Nat) (s : State) : (wrI P f i v s).pending = s.pending := rfl
@[simp] theorem wrI_clk (P : Nat) (f : Fld) (i v : Nat) (s : State) : (wrI P f i v s).clk = s.clk := rfl
@[simp] theorem wrI_tb (P : Nat) (f : Fld) (i v : Nat) (s : State) : (wrI P f i v s).tb = s.tb := rfl
@[simp] theorem wrI_freeSeq (P : Nat) (f : Fld) (i v : Nat) (s : State) : (wrI P f i v s).freeSeq = s.freeSeq := rfl
@[simp] theorem wrI_shadow (P : Nat) (f : Fld) (i v : Nat) (s : State) : (wrI P f i v s).shadow = s.shadow := rfl
@[simp] theorem wrI_captured (P : Nat) (f : Fld) (i v : Nat) (s : State) : (wrI P f i v s).captured = s.captured := rfl
@[simp] theorem wrI_woLatch (P : Nat) (f : Fld) (i v : Nat) (s : State) : (wrI P f i v s).woLatch = s.woLatch := rfl
@[simp] theorem wrI_logs (P : Nat) (f : Fld) (i v : Nat) (s : State) : (wrI P f i v s).logs = s.logs := rfl
@[simp] theorem wrI_results (P : Nat) (f : Fld) (i v : Nat) (s : State) : (wrI P f i v s).results = s.results := rfl
@[simp] theorem wrI_strikes (P : Nat) (f : Fld) (i v : Nat) (s : State) : (wrI P f i v s).strikes = s.strikes := rfl
@[simp] theorem wrI_out (P : Nat) (f : Fld) (i v : Nat) (s : State) : (wrI P f i v s).out = s.out := rfl
@[simp] theorem wrI_nextPid (P : Nat) (f : Fld) (i v : Nat) (s : State) : (wrI P f i v s).nextPid = s.nextPid := rfl
@[simp] theorem wrI_fiu (P : Nat) (f : Fld) (i v : Nat) (s : State) : (wrI P f i v s).fiu = s.fiu := rfl
@[simp] theorem wrI_egr (P : Nat) (f : Fld) (i v : Nat) (s : State) : (wrI P f i v s).egr = s.egr := rfl
@[simp] theorem wrI_tags (P : Nat) (f : Fld) (i v : Nat) (s : State) : (wrI P f i v s).tags = s.tags := rfl
@[simp] theorem wrI_apu (P : Nat) (f : Fld) (i v : Nat) (s : State) : (wrI P f i v s).apu = s.apu := rfl
@[simp] theorem wrI_stnMode (P : Nat) (f : Fld) (i v : Nat) (s : State) : (wrI P f i v s).stnMode = s.stnMode := rfl
@[simp] theorem wrI_known (P : Nat) (f : Fld) (i v : Nat) (s : State) : (wrI P f i v s).known = s.known := rfl
@[simp] theorem wrI_cross (P : Nat) (f : Fld) (i v : Nat) (s : State) : (wrI P f i v s).cross = s.cross := rfl
@[simp] theorem wrI_lights (P : Nat) (f : Fld) (i v : Nat) (s : State) : (wrI P f i v s).lights = s.lights := rfl
@[simp] theorem wrI_sched (P : Nat) (f : Fld) (i v : Nat) (s : State) : (wrI P f i v s).sched = s.sched := rfl
@[simp] theorem wrI_mail (P : Nat) (f : Fld) (i v : Nat) (s : State) : (wrI P f i v s).mail = s.mail := rfl
@[simp] theorem wrI_easel (P : Nat) (f : Fld) (i v : Nat) (s : State) : (wrI P f i v s).easel = s.easel := rfl
@[simp] theorem wrI_lan (P : Nat) (f : Fld) (i v : Nat) (s : State) : (wrI P f i v s).lan = s.lan := rfl
@[simp] theorem wrI_dp (P : Nat) (f : Fld) (i v : Nat) (s : State) : (wrI P f i v s).dp = s.dp := rfl
@[simp] theorem wrI_nextDp (P : Nat) (f : Fld) (i v : Nat) (s : State) : (wrI P f i v s).nextDp = s.nextDp := rfl
@[simp] theorem wrI_fifos (P : Nat) (f : Fld) (i v : Nat) (s : State) : (wrI P f i v s).fifos = s.fifos := rfl
@[simp] theorem wrI_arbs (P : Nat) (f : Fld) (i v : Nat) (s : State) : (wrI P f i v s).arbs = s.arbs := rfl
@[simp] theorem wrI_time (P : Nat) (f : Fld) (i v : Nat) (s : State) : (wrI P f i v s).time = s.time := rfl
@[simp] theorem wrI_jrnl (P : Nat) (f : Fld) (i v : Nat) (s : State) : (wrI P f i v s).jrnl = s.jrnl := rfl
@[simp] theorem wrI_prot (P : Nat) (f : Fld) (i v : Nat) (s : State) : (wrI P f i v s).prot = s.prot := rfl
@[simp] theorem wrI_fw (P : Nat) (f : Fld) (i v : Nat) (s : State) : (wrI P f i v s).fw = s.fw := rfl
@[simp] theorem wrI_stage (P : Nat) (f : Fld) (i v : Nat) (s : State) : (wrI P f i v s).stage = s.stage := rfl
@[simp] theorem wrI_keeper (P : Nat) (f : Fld) (i v : Nat) (s : State) : (wrI P f i v s).keeper = s.keeper := rfl
@[simp] theorem wrI_cal (P : Nat) (f : Fld) (i v : Nat) (s : State) : (wrI P f i v s).cal = s.cal := rfl
@[simp] theorem wrI_boot (P : Nat) (f : Fld) (i v : Nat) (s : State) : (wrI P f i v s).boot = s.boot := rfl
@[simp] theorem wrI_record (P : Nat) (f : Fld) (i v : Nat) (s : State) : (wrI P f i v s).record = s.record := rfl
@[simp] theorem wrI_objs (P : Nat) (f : Fld) (i v : Nat) (s : State) : (wrI P f i v s).objs = s.objs := rfl
@[simp] theorem wrI_place (P : Nat) (f : Fld) (i v : Nat) (s : State) : (wrI P f i v s).place = s.place := rfl
@[simp] theorem wrI_dikar (P : Nat) (f : Fld) (i v : Nat) (s : State) : (wrI P f i v s).dikar = s.dikar := rfl
@[simp] theorem wrI_coll (P : Nat) (f : Fld) (i v : Nat) (s : State) : (wrI P f i v s).coll = s.coll := rfl
@[simp] theorem wrI_tap (P : Nat) (f : Fld) (i v : Nat) (s : State) : (wrI P f i v s).tap = s.tap := rfl

/-! `wr` changes regs. -/

@[simp] theorem wr_pending (P : Nat) (f : Fld) (v : Nat) (s : State) : (wr P f v s).pending = s.pending := rfl
@[simp] theorem wr_clk (P : Nat) (f : Fld) (v : Nat) (s : State) : (wr P f v s).clk = s.clk := rfl
@[simp] theorem wr_tb (P : Nat) (f : Fld) (v : Nat) (s : State) : (wr P f v s).tb = s.tb := rfl
@[simp] theorem wr_freeSeq (P : Nat) (f : Fld) (v : Nat) (s : State) : (wr P f v s).freeSeq = s.freeSeq := rfl
@[simp] theorem wr_shadow (P : Nat) (f : Fld) (v : Nat) (s : State) : (wr P f v s).shadow = s.shadow := rfl
@[simp] theorem wr_captured (P : Nat) (f : Fld) (v : Nat) (s : State) : (wr P f v s).captured = s.captured := rfl
@[simp] theorem wr_woLatch (P : Nat) (f : Fld) (v : Nat) (s : State) : (wr P f v s).woLatch = s.woLatch := rfl
@[simp] theorem wr_logs (P : Nat) (f : Fld) (v : Nat) (s : State) : (wr P f v s).logs = s.logs := rfl
@[simp] theorem wr_results (P : Nat) (f : Fld) (v : Nat) (s : State) : (wr P f v s).results = s.results := rfl
@[simp] theorem wr_strikes (P : Nat) (f : Fld) (v : Nat) (s : State) : (wr P f v s).strikes = s.strikes := rfl
@[simp] theorem wr_out (P : Nat) (f : Fld) (v : Nat) (s : State) : (wr P f v s).out = s.out := rfl
@[simp] theorem wr_nextPid (P : Nat) (f : Fld) (v : Nat) (s : State) : (wr P f v s).nextPid = s.nextPid := rfl
@[simp] theorem wr_fiu (P : Nat) (f : Fld) (v : Nat) (s : State) : (wr P f v s).fiu = s.fiu := rfl
@[simp] theorem wr_egr (P : Nat) (f : Fld) (v : Nat) (s : State) : (wr P f v s).egr = s.egr := rfl
@[simp] theorem wr_tags (P : Nat) (f : Fld) (v : Nat) (s : State) : (wr P f v s).tags = s.tags := rfl
@[simp] theorem wr_apu (P : Nat) (f : Fld) (v : Nat) (s : State) : (wr P f v s).apu = s.apu := rfl
@[simp] theorem wr_stnMode (P : Nat) (f : Fld) (v : Nat) (s : State) : (wr P f v s).stnMode = s.stnMode := rfl
@[simp] theorem wr_known (P : Nat) (f : Fld) (v : Nat) (s : State) : (wr P f v s).known = s.known := rfl
@[simp] theorem wr_cross (P : Nat) (f : Fld) (v : Nat) (s : State) : (wr P f v s).cross = s.cross := rfl
@[simp] theorem wr_lights (P : Nat) (f : Fld) (v : Nat) (s : State) : (wr P f v s).lights = s.lights := rfl
@[simp] theorem wr_sched (P : Nat) (f : Fld) (v : Nat) (s : State) : (wr P f v s).sched = s.sched := rfl
@[simp] theorem wr_mail (P : Nat) (f : Fld) (v : Nat) (s : State) : (wr P f v s).mail = s.mail := rfl
@[simp] theorem wr_easel (P : Nat) (f : Fld) (v : Nat) (s : State) : (wr P f v s).easel = s.easel := rfl
@[simp] theorem wr_lan (P : Nat) (f : Fld) (v : Nat) (s : State) : (wr P f v s).lan = s.lan := rfl
@[simp] theorem wr_dp (P : Nat) (f : Fld) (v : Nat) (s : State) : (wr P f v s).dp = s.dp := rfl
@[simp] theorem wr_nextDp (P : Nat) (f : Fld) (v : Nat) (s : State) : (wr P f v s).nextDp = s.nextDp := rfl
@[simp] theorem wr_fifos (P : Nat) (f : Fld) (v : Nat) (s : State) : (wr P f v s).fifos = s.fifos := rfl
@[simp] theorem wr_arbs (P : Nat) (f : Fld) (v : Nat) (s : State) : (wr P f v s).arbs = s.arbs := rfl
@[simp] theorem wr_time (P : Nat) (f : Fld) (v : Nat) (s : State) : (wr P f v s).time = s.time := rfl
@[simp] theorem wr_jrnl (P : Nat) (f : Fld) (v : Nat) (s : State) : (wr P f v s).jrnl = s.jrnl := rfl
@[simp] theorem wr_prot (P : Nat) (f : Fld) (v : Nat) (s : State) : (wr P f v s).prot = s.prot := rfl
@[simp] theorem wr_fw (P : Nat) (f : Fld) (v : Nat) (s : State) : (wr P f v s).fw = s.fw := rfl
@[simp] theorem wr_stage (P : Nat) (f : Fld) (v : Nat) (s : State) : (wr P f v s).stage = s.stage := rfl
@[simp] theorem wr_keeper (P : Nat) (f : Fld) (v : Nat) (s : State) : (wr P f v s).keeper = s.keeper := rfl
@[simp] theorem wr_cal (P : Nat) (f : Fld) (v : Nat) (s : State) : (wr P f v s).cal = s.cal := rfl
@[simp] theorem wr_boot (P : Nat) (f : Fld) (v : Nat) (s : State) : (wr P f v s).boot = s.boot := rfl
@[simp] theorem wr_record (P : Nat) (f : Fld) (v : Nat) (s : State) : (wr P f v s).record = s.record := rfl
@[simp] theorem wr_objs (P : Nat) (f : Fld) (v : Nat) (s : State) : (wr P f v s).objs = s.objs := rfl
@[simp] theorem wr_place (P : Nat) (f : Fld) (v : Nat) (s : State) : (wr P f v s).place = s.place := rfl
@[simp] theorem wr_dikar (P : Nat) (f : Fld) (v : Nat) (s : State) : (wr P f v s).dikar = s.dikar := rfl
@[simp] theorem wr_coll (P : Nat) (f : Fld) (v : Nat) (s : State) : (wr P f v s).coll = s.coll := rfl
@[simp] theorem wr_tap (P : Nat) (f : Fld) (v : Nat) (s : State) : (wr P f v s).tap = s.tap := rfl

/-! `strike` changes strikes. -/

@[simp] theorem strike_pending (src : Nat) (h : Half) (s : State) : (strike src h s).pending = s.pending := rfl
@[simp] theorem strike_clk (src : Nat) (h : Half) (s : State) : (strike src h s).clk = s.clk := rfl
@[simp] theorem strike_tb (src : Nat) (h : Half) (s : State) : (strike src h s).tb = s.tb := rfl
@[simp] theorem strike_freeSeq (src : Nat) (h : Half) (s : State) : (strike src h s).freeSeq = s.freeSeq := rfl
@[simp] theorem strike_regs (src : Nat) (h : Half) (s : State) : (strike src h s).regs = s.regs := rfl
@[simp] theorem strike_shadow (src : Nat) (h : Half) (s : State) : (strike src h s).shadow = s.shadow := rfl
@[simp] theorem strike_captured (src : Nat) (h : Half) (s : State) : (strike src h s).captured = s.captured := rfl
@[simp] theorem strike_woLatch (src : Nat) (h : Half) (s : State) : (strike src h s).woLatch = s.woLatch := rfl
@[simp] theorem strike_logs (src : Nat) (h : Half) (s : State) : (strike src h s).logs = s.logs := rfl
@[simp] theorem strike_results (src : Nat) (h : Half) (s : State) : (strike src h s).results = s.results := rfl
@[simp] theorem strike_out (src : Nat) (h : Half) (s : State) : (strike src h s).out = s.out := rfl
@[simp] theorem strike_nextPid (src : Nat) (h : Half) (s : State) : (strike src h s).nextPid = s.nextPid := rfl
@[simp] theorem strike_fiu (src : Nat) (h : Half) (s : State) : (strike src h s).fiu = s.fiu := rfl
@[simp] theorem strike_egr (src : Nat) (h : Half) (s : State) : (strike src h s).egr = s.egr := rfl
@[simp] theorem strike_tags (src : Nat) (h : Half) (s : State) : (strike src h s).tags = s.tags := rfl
@[simp] theorem strike_apu (src : Nat) (h : Half) (s : State) : (strike src h s).apu = s.apu := rfl
@[simp] theorem strike_stnMode (src : Nat) (h : Half) (s : State) : (strike src h s).stnMode = s.stnMode := rfl
@[simp] theorem strike_known (src : Nat) (h : Half) (s : State) : (strike src h s).known = s.known := rfl
@[simp] theorem strike_cross (src : Nat) (h : Half) (s : State) : (strike src h s).cross = s.cross := rfl
@[simp] theorem strike_lights (src : Nat) (h : Half) (s : State) : (strike src h s).lights = s.lights := rfl
@[simp] theorem strike_sched (src : Nat) (h : Half) (s : State) : (strike src h s).sched = s.sched := rfl
@[simp] theorem strike_mail (src : Nat) (h : Half) (s : State) : (strike src h s).mail = s.mail := rfl
@[simp] theorem strike_easel (src : Nat) (h : Half) (s : State) : (strike src h s).easel = s.easel := rfl
@[simp] theorem strike_lan (src : Nat) (h : Half) (s : State) : (strike src h s).lan = s.lan := rfl
@[simp] theorem strike_dp (src : Nat) (h : Half) (s : State) : (strike src h s).dp = s.dp := rfl
@[simp] theorem strike_nextDp (src : Nat) (h : Half) (s : State) : (strike src h s).nextDp = s.nextDp := rfl
@[simp] theorem strike_fifos (src : Nat) (h : Half) (s : State) : (strike src h s).fifos = s.fifos := rfl
@[simp] theorem strike_arbs (src : Nat) (h : Half) (s : State) : (strike src h s).arbs = s.arbs := rfl
@[simp] theorem strike_time (src : Nat) (h : Half) (s : State) : (strike src h s).time = s.time := rfl
@[simp] theorem strike_jrnl (src : Nat) (h : Half) (s : State) : (strike src h s).jrnl = s.jrnl := rfl
@[simp] theorem strike_prot (src : Nat) (h : Half) (s : State) : (strike src h s).prot = s.prot := rfl
@[simp] theorem strike_fw (src : Nat) (h : Half) (s : State) : (strike src h s).fw = s.fw := rfl
@[simp] theorem strike_stage (src : Nat) (h : Half) (s : State) : (strike src h s).stage = s.stage := rfl
@[simp] theorem strike_keeper (src : Nat) (h : Half) (s : State) : (strike src h s).keeper = s.keeper := rfl
@[simp] theorem strike_cal (src : Nat) (h : Half) (s : State) : (strike src h s).cal = s.cal := rfl
@[simp] theorem strike_boot (src : Nat) (h : Half) (s : State) : (strike src h s).boot = s.boot := rfl
@[simp] theorem strike_record (src : Nat) (h : Half) (s : State) : (strike src h s).record = s.record := rfl
@[simp] theorem strike_objs (src : Nat) (h : Half) (s : State) : (strike src h s).objs = s.objs := rfl
@[simp] theorem strike_place (src : Nat) (h : Half) (s : State) : (strike src h s).place = s.place := rfl
@[simp] theorem strike_dikar (src : Nat) (h : Half) (s : State) : (strike src h s).dikar = s.dikar := rfl
@[simp] theorem strike_coll (src : Nat) (h : Half) (s : State) : (strike src h s).coll = s.coll := rfl
@[simp] theorem strike_tap (src : Nat) (h : Half) (s : State) : (strike src h s).tap = s.tap := rfl

/-! `raiseTo` changes regs, strikes. -/

@[simp] theorem raiseTo_pending (src P b : Nat) (s : State) : (raiseTo src P b s).pending = s.pending := by
  unfold raiseTo; split <;> rfl
@[simp] theorem raiseTo_clk (src P b : Nat) (s : State) : (raiseTo src P b s).clk = s.clk := by
  unfold raiseTo; split <;> rfl
@[simp] theorem raiseTo_tb (src P b : Nat) (s : State) : (raiseTo src P b s).tb = s.tb := by
  unfold raiseTo; split <;> rfl
@[simp] theorem raiseTo_freeSeq (src P b : Nat) (s : State) : (raiseTo src P b s).freeSeq = s.freeSeq := by
  unfold raiseTo; split <;> rfl
@[simp] theorem raiseTo_shadow (src P b : Nat) (s : State) : (raiseTo src P b s).shadow = s.shadow := by
  unfold raiseTo; split <;> rfl
@[simp] theorem raiseTo_captured (src P b : Nat) (s : State) : (raiseTo src P b s).captured = s.captured := by
  unfold raiseTo; split <;> rfl
@[simp] theorem raiseTo_woLatch (src P b : Nat) (s : State) : (raiseTo src P b s).woLatch = s.woLatch := by
  unfold raiseTo; split <;> rfl
@[simp] theorem raiseTo_logs (src P b : Nat) (s : State) : (raiseTo src P b s).logs = s.logs := by
  unfold raiseTo; split <;> rfl
@[simp] theorem raiseTo_results (src P b : Nat) (s : State) : (raiseTo src P b s).results = s.results := by
  unfold raiseTo; split <;> rfl
@[simp] theorem raiseTo_out (src P b : Nat) (s : State) : (raiseTo src P b s).out = s.out := by
  unfold raiseTo; split <;> rfl
@[simp] theorem raiseTo_nextPid (src P b : Nat) (s : State) : (raiseTo src P b s).nextPid = s.nextPid := by
  unfold raiseTo; split <;> rfl
@[simp] theorem raiseTo_fiu (src P b : Nat) (s : State) : (raiseTo src P b s).fiu = s.fiu := by
  unfold raiseTo; split <;> rfl
@[simp] theorem raiseTo_egr (src P b : Nat) (s : State) : (raiseTo src P b s).egr = s.egr := by
  unfold raiseTo; split <;> rfl
@[simp] theorem raiseTo_tags (src P b : Nat) (s : State) : (raiseTo src P b s).tags = s.tags := by
  unfold raiseTo; split <;> rfl
@[simp] theorem raiseTo_apu (src P b : Nat) (s : State) : (raiseTo src P b s).apu = s.apu := by
  unfold raiseTo; split <;> rfl
@[simp] theorem raiseTo_stnMode (src P b : Nat) (s : State) : (raiseTo src P b s).stnMode = s.stnMode := by
  unfold raiseTo; split <;> rfl
@[simp] theorem raiseTo_known (src P b : Nat) (s : State) : (raiseTo src P b s).known = s.known := by
  unfold raiseTo; split <;> rfl
@[simp] theorem raiseTo_cross (src P b : Nat) (s : State) : (raiseTo src P b s).cross = s.cross := by
  unfold raiseTo; split <;> rfl
@[simp] theorem raiseTo_lights (src P b : Nat) (s : State) : (raiseTo src P b s).lights = s.lights := by
  unfold raiseTo; split <;> rfl
@[simp] theorem raiseTo_sched (src P b : Nat) (s : State) : (raiseTo src P b s).sched = s.sched := by
  unfold raiseTo; split <;> rfl
@[simp] theorem raiseTo_mail (src P b : Nat) (s : State) : (raiseTo src P b s).mail = s.mail := by
  unfold raiseTo; split <;> rfl
@[simp] theorem raiseTo_easel (src P b : Nat) (s : State) : (raiseTo src P b s).easel = s.easel := by
  unfold raiseTo; split <;> rfl
@[simp] theorem raiseTo_lan (src P b : Nat) (s : State) : (raiseTo src P b s).lan = s.lan := by
  unfold raiseTo; split <;> rfl
@[simp] theorem raiseTo_dp (src P b : Nat) (s : State) : (raiseTo src P b s).dp = s.dp := by
  unfold raiseTo; split <;> rfl
@[simp] theorem raiseTo_nextDp (src P b : Nat) (s : State) : (raiseTo src P b s).nextDp = s.nextDp := by
  unfold raiseTo; split <;> rfl
@[simp] theorem raiseTo_fifos (src P b : Nat) (s : State) : (raiseTo src P b s).fifos = s.fifos := by
  unfold raiseTo; split <;> rfl
@[simp] theorem raiseTo_arbs (src P b : Nat) (s : State) : (raiseTo src P b s).arbs = s.arbs := by
  unfold raiseTo; split <;> rfl
@[simp] theorem raiseTo_time (src P b : Nat) (s : State) : (raiseTo src P b s).time = s.time := by
  unfold raiseTo; split <;> rfl
@[simp] theorem raiseTo_jrnl (src P b : Nat) (s : State) : (raiseTo src P b s).jrnl = s.jrnl := by
  unfold raiseTo; split <;> rfl
@[simp] theorem raiseTo_prot (src P b : Nat) (s : State) : (raiseTo src P b s).prot = s.prot := by
  unfold raiseTo; split <;> rfl
@[simp] theorem raiseTo_fw (src P b : Nat) (s : State) : (raiseTo src P b s).fw = s.fw := by
  unfold raiseTo; split <;> rfl
@[simp] theorem raiseTo_stage (src P b : Nat) (s : State) : (raiseTo src P b s).stage = s.stage := by
  unfold raiseTo; split <;> rfl
@[simp] theorem raiseTo_keeper (src P b : Nat) (s : State) : (raiseTo src P b s).keeper = s.keeper := by
  unfold raiseTo; split <;> rfl
@[simp] theorem raiseTo_cal (src P b : Nat) (s : State) : (raiseTo src P b s).cal = s.cal := by
  unfold raiseTo; split <;> rfl
@[simp] theorem raiseTo_boot (src P b : Nat) (s : State) : (raiseTo src P b s).boot = s.boot := by
  unfold raiseTo; split <;> rfl
@[simp] theorem raiseTo_record (src P b : Nat) (s : State) : (raiseTo src P b s).record = s.record := by
  unfold raiseTo; split <;> rfl
@[simp] theorem raiseTo_objs (src P b : Nat) (s : State) : (raiseTo src P b s).objs = s.objs := by
  unfold raiseTo; split <;> rfl
@[simp] theorem raiseTo_place (src P b : Nat) (s : State) : (raiseTo src P b s).place = s.place := by
  unfold raiseTo; split <;> rfl
@[simp] theorem raiseTo_dikar (src P b : Nat) (s : State) : (raiseTo src P b s).dikar = s.dikar := by
  unfold raiseTo; split <;> rfl
@[simp] theorem raiseTo_coll (src P b : Nat) (s : State) : (raiseTo src P b s).coll = s.coll := by
  unfold raiseTo; split <;> rfl
@[simp] theorem raiseTo_tap (src P b : Nat) (s : State) : (raiseTo src P b s).tap = s.tap := by
  unfold raiseTo; split <;> rfl

/-! `raise` changes regs, strikes. -/

@[simp] theorem raise_pending (P b : Nat) (s : State) : (raise P b s).pending = s.pending := raiseTo_pending _ _ _ _
@[simp] theorem raise_clk (P b : Nat) (s : State) : (raise P b s).clk = s.clk := raiseTo_clk _ _ _ _
@[simp] theorem raise_tb (P b : Nat) (s : State) : (raise P b s).tb = s.tb := raiseTo_tb _ _ _ _
@[simp] theorem raise_freeSeq (P b : Nat) (s : State) : (raise P b s).freeSeq = s.freeSeq := raiseTo_freeSeq _ _ _ _
@[simp] theorem raise_shadow (P b : Nat) (s : State) : (raise P b s).shadow = s.shadow := raiseTo_shadow _ _ _ _
@[simp] theorem raise_captured (P b : Nat) (s : State) : (raise P b s).captured = s.captured := raiseTo_captured _ _ _ _
@[simp] theorem raise_woLatch (P b : Nat) (s : State) : (raise P b s).woLatch = s.woLatch := raiseTo_woLatch _ _ _ _
@[simp] theorem raise_logs (P b : Nat) (s : State) : (raise P b s).logs = s.logs := raiseTo_logs _ _ _ _
@[simp] theorem raise_results (P b : Nat) (s : State) : (raise P b s).results = s.results := raiseTo_results _ _ _ _
@[simp] theorem raise_out (P b : Nat) (s : State) : (raise P b s).out = s.out := raiseTo_out _ _ _ _
@[simp] theorem raise_nextPid (P b : Nat) (s : State) : (raise P b s).nextPid = s.nextPid := raiseTo_nextPid _ _ _ _
@[simp] theorem raise_fiu (P b : Nat) (s : State) : (raise P b s).fiu = s.fiu := raiseTo_fiu _ _ _ _
@[simp] theorem raise_egr (P b : Nat) (s : State) : (raise P b s).egr = s.egr := raiseTo_egr _ _ _ _
@[simp] theorem raise_tags (P b : Nat) (s : State) : (raise P b s).tags = s.tags := raiseTo_tags _ _ _ _
@[simp] theorem raise_apu (P b : Nat) (s : State) : (raise P b s).apu = s.apu := raiseTo_apu _ _ _ _
@[simp] theorem raise_stnMode (P b : Nat) (s : State) : (raise P b s).stnMode = s.stnMode := raiseTo_stnMode _ _ _ _
@[simp] theorem raise_known (P b : Nat) (s : State) : (raise P b s).known = s.known := raiseTo_known _ _ _ _
@[simp] theorem raise_cross (P b : Nat) (s : State) : (raise P b s).cross = s.cross := raiseTo_cross _ _ _ _
@[simp] theorem raise_lights (P b : Nat) (s : State) : (raise P b s).lights = s.lights := raiseTo_lights _ _ _ _
@[simp] theorem raise_sched (P b : Nat) (s : State) : (raise P b s).sched = s.sched := raiseTo_sched _ _ _ _
@[simp] theorem raise_mail (P b : Nat) (s : State) : (raise P b s).mail = s.mail := raiseTo_mail _ _ _ _
@[simp] theorem raise_easel (P b : Nat) (s : State) : (raise P b s).easel = s.easel := raiseTo_easel _ _ _ _
@[simp] theorem raise_lan (P b : Nat) (s : State) : (raise P b s).lan = s.lan := raiseTo_lan _ _ _ _
@[simp] theorem raise_dp (P b : Nat) (s : State) : (raise P b s).dp = s.dp := raiseTo_dp _ _ _ _
@[simp] theorem raise_nextDp (P b : Nat) (s : State) : (raise P b s).nextDp = s.nextDp := raiseTo_nextDp _ _ _ _
@[simp] theorem raise_fifos (P b : Nat) (s : State) : (raise P b s).fifos = s.fifos := raiseTo_fifos _ _ _ _
@[simp] theorem raise_arbs (P b : Nat) (s : State) : (raise P b s).arbs = s.arbs := raiseTo_arbs _ _ _ _
@[simp] theorem raise_time (P b : Nat) (s : State) : (raise P b s).time = s.time := raiseTo_time _ _ _ _
@[simp] theorem raise_jrnl (P b : Nat) (s : State) : (raise P b s).jrnl = s.jrnl := raiseTo_jrnl _ _ _ _
@[simp] theorem raise_prot (P b : Nat) (s : State) : (raise P b s).prot = s.prot := raiseTo_prot _ _ _ _
@[simp] theorem raise_fw (P b : Nat) (s : State) : (raise P b s).fw = s.fw := raiseTo_fw _ _ _ _
@[simp] theorem raise_stage (P b : Nat) (s : State) : (raise P b s).stage = s.stage := raiseTo_stage _ _ _ _
@[simp] theorem raise_keeper (P b : Nat) (s : State) : (raise P b s).keeper = s.keeper := raiseTo_keeper _ _ _ _
@[simp] theorem raise_cal (P b : Nat) (s : State) : (raise P b s).cal = s.cal := raiseTo_cal _ _ _ _
@[simp] theorem raise_boot (P b : Nat) (s : State) : (raise P b s).boot = s.boot := raiseTo_boot _ _ _ _
@[simp] theorem raise_record (P b : Nat) (s : State) : (raise P b s).record = s.record := raiseTo_record _ _ _ _
@[simp] theorem raise_objs (P b : Nat) (s : State) : (raise P b s).objs = s.objs := raiseTo_objs _ _ _ _
@[simp] theorem raise_place (P b : Nat) (s : State) : (raise P b s).place = s.place := raiseTo_place _ _ _ _
@[simp] theorem raise_dikar (P b : Nat) (s : State) : (raise P b s).dikar = s.dikar := raiseTo_dikar _ _ _ _
@[simp] theorem raise_coll (P b : Nat) (s : State) : (raise P b s).coll = s.coll := raiseTo_coll _ _ _ _
@[simp] theorem raise_tap (P b : Nat) (s : State) : (raise P b s).tap = s.tap := raiseTo_tap _ _ _ _

/-! `raiseIf` changes regs, strikes. -/

@[simp] theorem raiseIf_pending (c : Bool) (P b : Nat) (s : State) : (raiseIf c P b s).pending = s.pending := by
  unfold raiseIf; split
  · exact raise_pending _ _ _
  · rfl
@[simp] theorem raiseIf_clk (c : Bool) (P b : Nat) (s : State) : (raiseIf c P b s).clk = s.clk := by
  unfold raiseIf; split
  · exact raise_clk _ _ _
  · rfl
@[simp] theorem raiseIf_tb (c : Bool) (P b : Nat) (s : State) : (raiseIf c P b s).tb = s.tb := by
  unfold raiseIf; split
  · exact raise_tb _ _ _
  · rfl
@[simp] theorem raiseIf_freeSeq (c : Bool) (P b : Nat) (s : State) : (raiseIf c P b s).freeSeq = s.freeSeq := by
  unfold raiseIf; split
  · exact raise_freeSeq _ _ _
  · rfl
@[simp] theorem raiseIf_shadow (c : Bool) (P b : Nat) (s : State) : (raiseIf c P b s).shadow = s.shadow := by
  unfold raiseIf; split
  · exact raise_shadow _ _ _
  · rfl
@[simp] theorem raiseIf_captured (c : Bool) (P b : Nat) (s : State) : (raiseIf c P b s).captured = s.captured := by
  unfold raiseIf; split
  · exact raise_captured _ _ _
  · rfl
@[simp] theorem raiseIf_woLatch (c : Bool) (P b : Nat) (s : State) : (raiseIf c P b s).woLatch = s.woLatch := by
  unfold raiseIf; split
  · exact raise_woLatch _ _ _
  · rfl
@[simp] theorem raiseIf_logs (c : Bool) (P b : Nat) (s : State) : (raiseIf c P b s).logs = s.logs := by
  unfold raiseIf; split
  · exact raise_logs _ _ _
  · rfl
@[simp] theorem raiseIf_results (c : Bool) (P b : Nat) (s : State) : (raiseIf c P b s).results = s.results := by
  unfold raiseIf; split
  · exact raise_results _ _ _
  · rfl
@[simp] theorem raiseIf_out (c : Bool) (P b : Nat) (s : State) : (raiseIf c P b s).out = s.out := by
  unfold raiseIf; split
  · exact raise_out _ _ _
  · rfl
@[simp] theorem raiseIf_nextPid (c : Bool) (P b : Nat) (s : State) : (raiseIf c P b s).nextPid = s.nextPid := by
  unfold raiseIf; split
  · exact raise_nextPid _ _ _
  · rfl
@[simp] theorem raiseIf_fiu (c : Bool) (P b : Nat) (s : State) : (raiseIf c P b s).fiu = s.fiu := by
  unfold raiseIf; split
  · exact raise_fiu _ _ _
  · rfl
@[simp] theorem raiseIf_egr (c : Bool) (P b : Nat) (s : State) : (raiseIf c P b s).egr = s.egr := by
  unfold raiseIf; split
  · exact raise_egr _ _ _
  · rfl
@[simp] theorem raiseIf_tags (c : Bool) (P b : Nat) (s : State) : (raiseIf c P b s).tags = s.tags := by
  unfold raiseIf; split
  · exact raise_tags _ _ _
  · rfl
@[simp] theorem raiseIf_apu (c : Bool) (P b : Nat) (s : State) : (raiseIf c P b s).apu = s.apu := by
  unfold raiseIf; split
  · exact raise_apu _ _ _
  · rfl
@[simp] theorem raiseIf_stnMode (c : Bool) (P b : Nat) (s : State) : (raiseIf c P b s).stnMode = s.stnMode := by
  unfold raiseIf; split
  · exact raise_stnMode _ _ _
  · rfl
@[simp] theorem raiseIf_known (c : Bool) (P b : Nat) (s : State) : (raiseIf c P b s).known = s.known := by
  unfold raiseIf; split
  · exact raise_known _ _ _
  · rfl
@[simp] theorem raiseIf_cross (c : Bool) (P b : Nat) (s : State) : (raiseIf c P b s).cross = s.cross := by
  unfold raiseIf; split
  · exact raise_cross _ _ _
  · rfl
@[simp] theorem raiseIf_lights (c : Bool) (P b : Nat) (s : State) : (raiseIf c P b s).lights = s.lights := by
  unfold raiseIf; split
  · exact raise_lights _ _ _
  · rfl
@[simp] theorem raiseIf_sched (c : Bool) (P b : Nat) (s : State) : (raiseIf c P b s).sched = s.sched := by
  unfold raiseIf; split
  · exact raise_sched _ _ _
  · rfl
@[simp] theorem raiseIf_mail (c : Bool) (P b : Nat) (s : State) : (raiseIf c P b s).mail = s.mail := by
  unfold raiseIf; split
  · exact raise_mail _ _ _
  · rfl
@[simp] theorem raiseIf_easel (c : Bool) (P b : Nat) (s : State) : (raiseIf c P b s).easel = s.easel := by
  unfold raiseIf; split
  · exact raise_easel _ _ _
  · rfl
@[simp] theorem raiseIf_lan (c : Bool) (P b : Nat) (s : State) : (raiseIf c P b s).lan = s.lan := by
  unfold raiseIf; split
  · exact raise_lan _ _ _
  · rfl
@[simp] theorem raiseIf_dp (c : Bool) (P b : Nat) (s : State) : (raiseIf c P b s).dp = s.dp := by
  unfold raiseIf; split
  · exact raise_dp _ _ _
  · rfl
@[simp] theorem raiseIf_nextDp (c : Bool) (P b : Nat) (s : State) : (raiseIf c P b s).nextDp = s.nextDp := by
  unfold raiseIf; split
  · exact raise_nextDp _ _ _
  · rfl
@[simp] theorem raiseIf_fifos (c : Bool) (P b : Nat) (s : State) : (raiseIf c P b s).fifos = s.fifos := by
  unfold raiseIf; split
  · exact raise_fifos _ _ _
  · rfl
@[simp] theorem raiseIf_arbs (c : Bool) (P b : Nat) (s : State) : (raiseIf c P b s).arbs = s.arbs := by
  unfold raiseIf; split
  · exact raise_arbs _ _ _
  · rfl
@[simp] theorem raiseIf_time (c : Bool) (P b : Nat) (s : State) : (raiseIf c P b s).time = s.time := by
  unfold raiseIf; split
  · exact raise_time _ _ _
  · rfl
@[simp] theorem raiseIf_jrnl (c : Bool) (P b : Nat) (s : State) : (raiseIf c P b s).jrnl = s.jrnl := by
  unfold raiseIf; split
  · exact raise_jrnl _ _ _
  · rfl
@[simp] theorem raiseIf_prot (c : Bool) (P b : Nat) (s : State) : (raiseIf c P b s).prot = s.prot := by
  unfold raiseIf; split
  · exact raise_prot _ _ _
  · rfl
@[simp] theorem raiseIf_fw (c : Bool) (P b : Nat) (s : State) : (raiseIf c P b s).fw = s.fw := by
  unfold raiseIf; split
  · exact raise_fw _ _ _
  · rfl
@[simp] theorem raiseIf_stage (c : Bool) (P b : Nat) (s : State) : (raiseIf c P b s).stage = s.stage := by
  unfold raiseIf; split
  · exact raise_stage _ _ _
  · rfl
@[simp] theorem raiseIf_keeper (c : Bool) (P b : Nat) (s : State) : (raiseIf c P b s).keeper = s.keeper := by
  unfold raiseIf; split
  · exact raise_keeper _ _ _
  · rfl
@[simp] theorem raiseIf_cal (c : Bool) (P b : Nat) (s : State) : (raiseIf c P b s).cal = s.cal := by
  unfold raiseIf; split
  · exact raise_cal _ _ _
  · rfl
@[simp] theorem raiseIf_boot (c : Bool) (P b : Nat) (s : State) : (raiseIf c P b s).boot = s.boot := by
  unfold raiseIf; split
  · exact raise_boot _ _ _
  · rfl
@[simp] theorem raiseIf_record (c : Bool) (P b : Nat) (s : State) : (raiseIf c P b s).record = s.record := by
  unfold raiseIf; split
  · exact raise_record _ _ _
  · rfl
@[simp] theorem raiseIf_objs (c : Bool) (P b : Nat) (s : State) : (raiseIf c P b s).objs = s.objs := by
  unfold raiseIf; split
  · exact raise_objs _ _ _
  · rfl
@[simp] theorem raiseIf_place (c : Bool) (P b : Nat) (s : State) : (raiseIf c P b s).place = s.place := by
  unfold raiseIf; split
  · exact raise_place _ _ _
  · rfl
@[simp] theorem raiseIf_dikar (c : Bool) (P b : Nat) (s : State) : (raiseIf c P b s).dikar = s.dikar := by
  unfold raiseIf; split
  · exact raise_dikar _ _ _
  · rfl
@[simp] theorem raiseIf_coll (c : Bool) (P b : Nat) (s : State) : (raiseIf c P b s).coll = s.coll := by
  unfold raiseIf; split
  · exact raise_coll _ _ _
  · rfl
@[simp] theorem raiseIf_tap (c : Bool) (P b : Nat) (s : State) : (raiseIf c P b s).tap = s.tap := by
  unfold raiseIf; split
  · exact raise_tap _ _ _
  · rfl

/-! `bumpBy` changes regs. -/

@[simp] theorem bumpBy_pending (P : Nat) (f : Fld) (k : Nat) (s : State) : (bumpBy P f k s).pending = s.pending := by
  unfold bumpBy; split <;> rfl
@[simp] theorem bumpBy_clk (P : Nat) (f : Fld) (k : Nat) (s : State) : (bumpBy P f k s).clk = s.clk := by
  unfold bumpBy; split <;> rfl
@[simp] theorem bumpBy_tb (P : Nat) (f : Fld) (k : Nat) (s : State) : (bumpBy P f k s).tb = s.tb := by
  unfold bumpBy; split <;> rfl
@[simp] theorem bumpBy_freeSeq (P : Nat) (f : Fld) (k : Nat) (s : State) : (bumpBy P f k s).freeSeq = s.freeSeq := by
  unfold bumpBy; split <;> rfl
@[simp] theorem bumpBy_shadow (P : Nat) (f : Fld) (k : Nat) (s : State) : (bumpBy P f k s).shadow = s.shadow := by
  unfold bumpBy; split <;> rfl
@[simp] theorem bumpBy_captured (P : Nat) (f : Fld) (k : Nat) (s : State) : (bumpBy P f k s).captured = s.captured := by
  unfold bumpBy; split <;> rfl
@[simp] theorem bumpBy_woLatch (P : Nat) (f : Fld) (k : Nat) (s : State) : (bumpBy P f k s).woLatch = s.woLatch := by
  unfold bumpBy; split <;> rfl
@[simp] theorem bumpBy_logs (P : Nat) (f : Fld) (k : Nat) (s : State) : (bumpBy P f k s).logs = s.logs := by
  unfold bumpBy; split <;> rfl
@[simp] theorem bumpBy_results (P : Nat) (f : Fld) (k : Nat) (s : State) : (bumpBy P f k s).results = s.results := by
  unfold bumpBy; split <;> rfl
@[simp] theorem bumpBy_strikes (P : Nat) (f : Fld) (k : Nat) (s : State) : (bumpBy P f k s).strikes = s.strikes := by
  unfold bumpBy; split <;> rfl
@[simp] theorem bumpBy_out (P : Nat) (f : Fld) (k : Nat) (s : State) : (bumpBy P f k s).out = s.out := by
  unfold bumpBy; split <;> rfl
@[simp] theorem bumpBy_nextPid (P : Nat) (f : Fld) (k : Nat) (s : State) : (bumpBy P f k s).nextPid = s.nextPid := by
  unfold bumpBy; split <;> rfl
@[simp] theorem bumpBy_fiu (P : Nat) (f : Fld) (k : Nat) (s : State) : (bumpBy P f k s).fiu = s.fiu := by
  unfold bumpBy; split <;> rfl
@[simp] theorem bumpBy_egr (P : Nat) (f : Fld) (k : Nat) (s : State) : (bumpBy P f k s).egr = s.egr := by
  unfold bumpBy; split <;> rfl
@[simp] theorem bumpBy_tags (P : Nat) (f : Fld) (k : Nat) (s : State) : (bumpBy P f k s).tags = s.tags := by
  unfold bumpBy; split <;> rfl
@[simp] theorem bumpBy_apu (P : Nat) (f : Fld) (k : Nat) (s : State) : (bumpBy P f k s).apu = s.apu := by
  unfold bumpBy; split <;> rfl
@[simp] theorem bumpBy_stnMode (P : Nat) (f : Fld) (k : Nat) (s : State) : (bumpBy P f k s).stnMode = s.stnMode := by
  unfold bumpBy; split <;> rfl
@[simp] theorem bumpBy_known (P : Nat) (f : Fld) (k : Nat) (s : State) : (bumpBy P f k s).known = s.known := by
  unfold bumpBy; split <;> rfl
@[simp] theorem bumpBy_cross (P : Nat) (f : Fld) (k : Nat) (s : State) : (bumpBy P f k s).cross = s.cross := by
  unfold bumpBy; split <;> rfl
@[simp] theorem bumpBy_lights (P : Nat) (f : Fld) (k : Nat) (s : State) : (bumpBy P f k s).lights = s.lights := by
  unfold bumpBy; split <;> rfl
@[simp] theorem bumpBy_sched (P : Nat) (f : Fld) (k : Nat) (s : State) : (bumpBy P f k s).sched = s.sched := by
  unfold bumpBy; split <;> rfl
@[simp] theorem bumpBy_mail (P : Nat) (f : Fld) (k : Nat) (s : State) : (bumpBy P f k s).mail = s.mail := by
  unfold bumpBy; split <;> rfl
@[simp] theorem bumpBy_easel (P : Nat) (f : Fld) (k : Nat) (s : State) : (bumpBy P f k s).easel = s.easel := by
  unfold bumpBy; split <;> rfl
@[simp] theorem bumpBy_lan (P : Nat) (f : Fld) (k : Nat) (s : State) : (bumpBy P f k s).lan = s.lan := by
  unfold bumpBy; split <;> rfl
@[simp] theorem bumpBy_dp (P : Nat) (f : Fld) (k : Nat) (s : State) : (bumpBy P f k s).dp = s.dp := by
  unfold bumpBy; split <;> rfl
@[simp] theorem bumpBy_nextDp (P : Nat) (f : Fld) (k : Nat) (s : State) : (bumpBy P f k s).nextDp = s.nextDp := by
  unfold bumpBy; split <;> rfl
@[simp] theorem bumpBy_fifos (P : Nat) (f : Fld) (k : Nat) (s : State) : (bumpBy P f k s).fifos = s.fifos := by
  unfold bumpBy; split <;> rfl
@[simp] theorem bumpBy_arbs (P : Nat) (f : Fld) (k : Nat) (s : State) : (bumpBy P f k s).arbs = s.arbs := by
  unfold bumpBy; split <;> rfl
@[simp] theorem bumpBy_time (P : Nat) (f : Fld) (k : Nat) (s : State) : (bumpBy P f k s).time = s.time := by
  unfold bumpBy; split <;> rfl
@[simp] theorem bumpBy_jrnl (P : Nat) (f : Fld) (k : Nat) (s : State) : (bumpBy P f k s).jrnl = s.jrnl := by
  unfold bumpBy; split <;> rfl
@[simp] theorem bumpBy_prot (P : Nat) (f : Fld) (k : Nat) (s : State) : (bumpBy P f k s).prot = s.prot := by
  unfold bumpBy; split <;> rfl
@[simp] theorem bumpBy_fw (P : Nat) (f : Fld) (k : Nat) (s : State) : (bumpBy P f k s).fw = s.fw := by
  unfold bumpBy; split <;> rfl
@[simp] theorem bumpBy_stage (P : Nat) (f : Fld) (k : Nat) (s : State) : (bumpBy P f k s).stage = s.stage := by
  unfold bumpBy; split <;> rfl
@[simp] theorem bumpBy_keeper (P : Nat) (f : Fld) (k : Nat) (s : State) : (bumpBy P f k s).keeper = s.keeper := by
  unfold bumpBy; split <;> rfl
@[simp] theorem bumpBy_cal (P : Nat) (f : Fld) (k : Nat) (s : State) : (bumpBy P f k s).cal = s.cal := by
  unfold bumpBy; split <;> rfl
@[simp] theorem bumpBy_boot (P : Nat) (f : Fld) (k : Nat) (s : State) : (bumpBy P f k s).boot = s.boot := by
  unfold bumpBy; split <;> rfl
@[simp] theorem bumpBy_record (P : Nat) (f : Fld) (k : Nat) (s : State) : (bumpBy P f k s).record = s.record := by
  unfold bumpBy; split <;> rfl
@[simp] theorem bumpBy_objs (P : Nat) (f : Fld) (k : Nat) (s : State) : (bumpBy P f k s).objs = s.objs := by
  unfold bumpBy; split <;> rfl
@[simp] theorem bumpBy_place (P : Nat) (f : Fld) (k : Nat) (s : State) : (bumpBy P f k s).place = s.place := by
  unfold bumpBy; split <;> rfl
@[simp] theorem bumpBy_dikar (P : Nat) (f : Fld) (k : Nat) (s : State) : (bumpBy P f k s).dikar = s.dikar := by
  unfold bumpBy; split <;> rfl
@[simp] theorem bumpBy_coll (P : Nat) (f : Fld) (k : Nat) (s : State) : (bumpBy P f k s).coll = s.coll := by
  unfold bumpBy; split <;> rfl
@[simp] theorem bumpBy_tap (P : Nat) (f : Fld) (k : Nat) (s : State) : (bumpBy P f k s).tap = s.tap := by
  unfold bumpBy; split <;> rfl

/-! `bump` changes regs. -/

@[simp] theorem bump_pending (P : Nat) (f : Fld) (s : State) :
    (bump P f s).pending = s.pending := bumpBy_pending _ _ _ _
@[simp] theorem bump_clk (P : Nat) (f : Fld) (s : State) : (bump P f s).clk = s.clk := bumpBy_clk _ _ _ _
@[simp] theorem bump_tb (P : Nat) (f : Fld) (s : State) : (bump P f s).tb = s.tb := bumpBy_tb _ _ _ _
@[simp] theorem bump_freeSeq (P : Nat) (f : Fld) (s : State) :
    (bump P f s).freeSeq = s.freeSeq := bumpBy_freeSeq _ _ _ _
@[simp] theorem bump_shadow (P : Nat) (f : Fld) (s : State) : (bump P f s).shadow = s.shadow := bumpBy_shadow _ _ _ _
@[simp] theorem bump_captured (P : Nat) (f : Fld) (s : State) :
    (bump P f s).captured = s.captured := bumpBy_captured _ _ _ _
@[simp] theorem bump_woLatch (P : Nat) (f : Fld) (s : State) :
    (bump P f s).woLatch = s.woLatch := bumpBy_woLatch _ _ _ _
@[simp] theorem bump_logs (P : Nat) (f : Fld) (s : State) : (bump P f s).logs = s.logs := bumpBy_logs _ _ _ _
@[simp] theorem bump_results (P : Nat) (f : Fld) (s : State) :
    (bump P f s).results = s.results := bumpBy_results _ _ _ _
@[simp] theorem bump_strikes (P : Nat) (f : Fld) (s : State) :
    (bump P f s).strikes = s.strikes := bumpBy_strikes _ _ _ _
@[simp] theorem bump_out (P : Nat) (f : Fld) (s : State) : (bump P f s).out = s.out := bumpBy_out _ _ _ _
@[simp] theorem bump_nextPid (P : Nat) (f : Fld) (s : State) :
    (bump P f s).nextPid = s.nextPid := bumpBy_nextPid _ _ _ _
@[simp] theorem bump_fiu (P : Nat) (f : Fld) (s : State) : (bump P f s).fiu = s.fiu := bumpBy_fiu _ _ _ _
@[simp] theorem bump_egr (P : Nat) (f : Fld) (s : State) : (bump P f s).egr = s.egr := bumpBy_egr _ _ _ _
@[simp] theorem bump_tags (P : Nat) (f : Fld) (s : State) : (bump P f s).tags = s.tags := bumpBy_tags _ _ _ _
@[simp] theorem bump_apu (P : Nat) (f : Fld) (s : State) : (bump P f s).apu = s.apu := bumpBy_apu _ _ _ _
@[simp] theorem bump_stnMode (P : Nat) (f : Fld) (s : State) :
    (bump P f s).stnMode = s.stnMode := bumpBy_stnMode _ _ _ _
@[simp] theorem bump_known (P : Nat) (f : Fld) (s : State) : (bump P f s).known = s.known := bumpBy_known _ _ _ _
@[simp] theorem bump_cross (P : Nat) (f : Fld) (s : State) : (bump P f s).cross = s.cross := bumpBy_cross _ _ _ _
@[simp] theorem bump_lights (P : Nat) (f : Fld) (s : State) : (bump P f s).lights = s.lights := bumpBy_lights _ _ _ _
@[simp] theorem bump_sched (P : Nat) (f : Fld) (s : State) : (bump P f s).sched = s.sched := bumpBy_sched _ _ _ _
@[simp] theorem bump_mail (P : Nat) (f : Fld) (s : State) : (bump P f s).mail = s.mail := bumpBy_mail _ _ _ _
@[simp] theorem bump_easel (P : Nat) (f : Fld) (s : State) : (bump P f s).easel = s.easel := bumpBy_easel _ _ _ _
@[simp] theorem bump_lan (P : Nat) (f : Fld) (s : State) : (bump P f s).lan = s.lan := bumpBy_lan _ _ _ _
@[simp] theorem bump_dp (P : Nat) (f : Fld) (s : State) : (bump P f s).dp = s.dp := bumpBy_dp _ _ _ _
@[simp] theorem bump_nextDp (P : Nat) (f : Fld) (s : State) : (bump P f s).nextDp = s.nextDp := bumpBy_nextDp _ _ _ _
@[simp] theorem bump_fifos (P : Nat) (f : Fld) (s : State) : (bump P f s).fifos = s.fifos := bumpBy_fifos _ _ _ _
@[simp] theorem bump_arbs (P : Nat) (f : Fld) (s : State) : (bump P f s).arbs = s.arbs := bumpBy_arbs _ _ _ _
@[simp] theorem bump_time (P : Nat) (f : Fld) (s : State) : (bump P f s).time = s.time := bumpBy_time _ _ _ _
@[simp] theorem bump_jrnl (P : Nat) (f : Fld) (s : State) : (bump P f s).jrnl = s.jrnl := bumpBy_jrnl _ _ _ _
@[simp] theorem bump_prot (P : Nat) (f : Fld) (s : State) : (bump P f s).prot = s.prot := bumpBy_prot _ _ _ _
@[simp] theorem bump_fw (P : Nat) (f : Fld) (s : State) : (bump P f s).fw = s.fw := bumpBy_fw _ _ _ _
@[simp] theorem bump_stage (P : Nat) (f : Fld) (s : State) : (bump P f s).stage = s.stage := bumpBy_stage _ _ _ _
@[simp] theorem bump_keeper (P : Nat) (f : Fld) (s : State) : (bump P f s).keeper = s.keeper := bumpBy_keeper _ _ _ _
@[simp] theorem bump_cal (P : Nat) (f : Fld) (s : State) : (bump P f s).cal = s.cal := bumpBy_cal _ _ _ _
@[simp] theorem bump_boot (P : Nat) (f : Fld) (s : State) : (bump P f s).boot = s.boot := bumpBy_boot _ _ _ _
@[simp] theorem bump_record (P : Nat) (f : Fld) (s : State) : (bump P f s).record = s.record := bumpBy_record _ _ _ _
@[simp] theorem bump_objs (P : Nat) (f : Fld) (s : State) : (bump P f s).objs = s.objs := bumpBy_objs _ _ _ _
@[simp] theorem bump_place (P : Nat) (f : Fld) (s : State) : (bump P f s).place = s.place := bumpBy_place _ _ _ _
@[simp] theorem bump_dikar (P : Nat) (f : Fld) (s : State) : (bump P f s).dikar = s.dikar := bumpBy_dikar _ _ _ _
@[simp] theorem bump_coll (P : Nat) (f : Fld) (s : State) : (bump P f s).coll = s.coll := bumpBy_coll _ _ _ _
@[simp] theorem bump_tap (P : Nat) (f : Fld) (s : State) : (bump P f s).tap = s.tap := bumpBy_tap _ _ _ _

/-! `emit` changes out. -/

@[simp] theorem emit_pending (o : Out) (s : State) : (emit o s).pending = s.pending := rfl
@[simp] theorem emit_clk (o : Out) (s : State) : (emit o s).clk = s.clk := rfl
@[simp] theorem emit_tb (o : Out) (s : State) : (emit o s).tb = s.tb := rfl
@[simp] theorem emit_freeSeq (o : Out) (s : State) : (emit o s).freeSeq = s.freeSeq := rfl
@[simp] theorem emit_regs (o : Out) (s : State) : (emit o s).regs = s.regs := rfl
@[simp] theorem emit_shadow (o : Out) (s : State) : (emit o s).shadow = s.shadow := rfl
@[simp] theorem emit_captured (o : Out) (s : State) : (emit o s).captured = s.captured := rfl
@[simp] theorem emit_woLatch (o : Out) (s : State) : (emit o s).woLatch = s.woLatch := rfl
@[simp] theorem emit_logs (o : Out) (s : State) : (emit o s).logs = s.logs := rfl
@[simp] theorem emit_results (o : Out) (s : State) : (emit o s).results = s.results := rfl
@[simp] theorem emit_strikes (o : Out) (s : State) : (emit o s).strikes = s.strikes := rfl
@[simp] theorem emit_nextPid (o : Out) (s : State) : (emit o s).nextPid = s.nextPid := rfl
@[simp] theorem emit_fiu (o : Out) (s : State) : (emit o s).fiu = s.fiu := rfl
@[simp] theorem emit_egr (o : Out) (s : State) : (emit o s).egr = s.egr := rfl
@[simp] theorem emit_tags (o : Out) (s : State) : (emit o s).tags = s.tags := rfl
@[simp] theorem emit_apu (o : Out) (s : State) : (emit o s).apu = s.apu := rfl
@[simp] theorem emit_stnMode (o : Out) (s : State) : (emit o s).stnMode = s.stnMode := rfl
@[simp] theorem emit_known (o : Out) (s : State) : (emit o s).known = s.known := rfl
@[simp] theorem emit_cross (o : Out) (s : State) : (emit o s).cross = s.cross := rfl
@[simp] theorem emit_lights (o : Out) (s : State) : (emit o s).lights = s.lights := rfl
@[simp] theorem emit_sched (o : Out) (s : State) : (emit o s).sched = s.sched := rfl
@[simp] theorem emit_mail (o : Out) (s : State) : (emit o s).mail = s.mail := rfl
@[simp] theorem emit_easel (o : Out) (s : State) : (emit o s).easel = s.easel := rfl
@[simp] theorem emit_lan (o : Out) (s : State) : (emit o s).lan = s.lan := rfl
@[simp] theorem emit_dp (o : Out) (s : State) : (emit o s).dp = s.dp := rfl
@[simp] theorem emit_nextDp (o : Out) (s : State) : (emit o s).nextDp = s.nextDp := rfl
@[simp] theorem emit_fifos (o : Out) (s : State) : (emit o s).fifos = s.fifos := rfl
@[simp] theorem emit_arbs (o : Out) (s : State) : (emit o s).arbs = s.arbs := rfl
@[simp] theorem emit_time (o : Out) (s : State) : (emit o s).time = s.time := rfl
@[simp] theorem emit_jrnl (o : Out) (s : State) : (emit o s).jrnl = s.jrnl := rfl
@[simp] theorem emit_prot (o : Out) (s : State) : (emit o s).prot = s.prot := rfl
@[simp] theorem emit_fw (o : Out) (s : State) : (emit o s).fw = s.fw := rfl
@[simp] theorem emit_stage (o : Out) (s : State) : (emit o s).stage = s.stage := rfl
@[simp] theorem emit_keeper (o : Out) (s : State) : (emit o s).keeper = s.keeper := rfl
@[simp] theorem emit_cal (o : Out) (s : State) : (emit o s).cal = s.cal := rfl
@[simp] theorem emit_boot (o : Out) (s : State) : (emit o s).boot = s.boot := rfl
@[simp] theorem emit_record (o : Out) (s : State) : (emit o s).record = s.record := rfl
@[simp] theorem emit_objs (o : Out) (s : State) : (emit o s).objs = s.objs := rfl
@[simp] theorem emit_place (o : Out) (s : State) : (emit o s).place = s.place := rfl
@[simp] theorem emit_dikar (o : Out) (s : State) : (emit o s).dikar = s.dikar := rfl
@[simp] theorem emit_coll (o : Out) (s : State) : (emit o s).coll = s.coll := rfl
@[simp] theorem emit_tap (o : Out) (s : State) : (emit o s).tap = s.tap := rfl

/-! `post` changes mail. -/

@[simp] theorem post_pending (m : Mail) (s : State) : (post m s).pending = s.pending := rfl
@[simp] theorem post_clk (m : Mail) (s : State) : (post m s).clk = s.clk := rfl
@[simp] theorem post_tb (m : Mail) (s : State) : (post m s).tb = s.tb := rfl
@[simp] theorem post_freeSeq (m : Mail) (s : State) : (post m s).freeSeq = s.freeSeq := rfl
@[simp] theorem post_regs (m : Mail) (s : State) : (post m s).regs = s.regs := rfl
@[simp] theorem post_shadow (m : Mail) (s : State) : (post m s).shadow = s.shadow := rfl
@[simp] theorem post_captured (m : Mail) (s : State) : (post m s).captured = s.captured := rfl
@[simp] theorem post_woLatch (m : Mail) (s : State) : (post m s).woLatch = s.woLatch := rfl
@[simp] theorem post_logs (m : Mail) (s : State) : (post m s).logs = s.logs := rfl
@[simp] theorem post_results (m : Mail) (s : State) : (post m s).results = s.results := rfl
@[simp] theorem post_strikes (m : Mail) (s : State) : (post m s).strikes = s.strikes := rfl
@[simp] theorem post_out (m : Mail) (s : State) : (post m s).out = s.out := rfl
@[simp] theorem post_nextPid (m : Mail) (s : State) : (post m s).nextPid = s.nextPid := rfl
@[simp] theorem post_fiu (m : Mail) (s : State) : (post m s).fiu = s.fiu := rfl
@[simp] theorem post_egr (m : Mail) (s : State) : (post m s).egr = s.egr := rfl
@[simp] theorem post_tags (m : Mail) (s : State) : (post m s).tags = s.tags := rfl
@[simp] theorem post_apu (m : Mail) (s : State) : (post m s).apu = s.apu := rfl
@[simp] theorem post_stnMode (m : Mail) (s : State) : (post m s).stnMode = s.stnMode := rfl
@[simp] theorem post_known (m : Mail) (s : State) : (post m s).known = s.known := rfl
@[simp] theorem post_cross (m : Mail) (s : State) : (post m s).cross = s.cross := rfl
@[simp] theorem post_lights (m : Mail) (s : State) : (post m s).lights = s.lights := rfl
@[simp] theorem post_sched (m : Mail) (s : State) : (post m s).sched = s.sched := rfl
@[simp] theorem post_easel (m : Mail) (s : State) : (post m s).easel = s.easel := rfl
@[simp] theorem post_lan (m : Mail) (s : State) : (post m s).lan = s.lan := rfl
@[simp] theorem post_dp (m : Mail) (s : State) : (post m s).dp = s.dp := rfl
@[simp] theorem post_nextDp (m : Mail) (s : State) : (post m s).nextDp = s.nextDp := rfl
@[simp] theorem post_fifos (m : Mail) (s : State) : (post m s).fifos = s.fifos := rfl
@[simp] theorem post_arbs (m : Mail) (s : State) : (post m s).arbs = s.arbs := rfl
@[simp] theorem post_time (m : Mail) (s : State) : (post m s).time = s.time := rfl
@[simp] theorem post_jrnl (m : Mail) (s : State) : (post m s).jrnl = s.jrnl := rfl
@[simp] theorem post_prot (m : Mail) (s : State) : (post m s).prot = s.prot := rfl
@[simp] theorem post_fw (m : Mail) (s : State) : (post m s).fw = s.fw := rfl
@[simp] theorem post_stage (m : Mail) (s : State) : (post m s).stage = s.stage := rfl
@[simp] theorem post_keeper (m : Mail) (s : State) : (post m s).keeper = s.keeper := rfl
@[simp] theorem post_cal (m : Mail) (s : State) : (post m s).cal = s.cal := rfl
@[simp] theorem post_boot (m : Mail) (s : State) : (post m s).boot = s.boot := rfl
@[simp] theorem post_record (m : Mail) (s : State) : (post m s).record = s.record := rfl
@[simp] theorem post_objs (m : Mail) (s : State) : (post m s).objs = s.objs := rfl
@[simp] theorem post_place (m : Mail) (s : State) : (post m s).place = s.place := rfl
@[simp] theorem post_dikar (m : Mail) (s : State) : (post m s).dikar = s.dikar := rfl
@[simp] theorem post_coll (m : Mail) (s : State) : (post m s).coll = s.coll := rfl
@[simp] theorem post_tap (m : Mail) (s : State) : (post m s).tap = s.tap := rfl

/-! `ezWrite` changes easel. -/

@[simp] theorem ezWrite_pending (a : Nat) (bs : List Byte) (s : State) : (ezWrite a bs s).pending = s.pending := rfl
@[simp] theorem ezWrite_clk (a : Nat) (bs : List Byte) (s : State) : (ezWrite a bs s).clk = s.clk := rfl
@[simp] theorem ezWrite_tb (a : Nat) (bs : List Byte) (s : State) : (ezWrite a bs s).tb = s.tb := rfl
@[simp] theorem ezWrite_freeSeq (a : Nat) (bs : List Byte) (s : State) : (ezWrite a bs s).freeSeq = s.freeSeq := rfl
@[simp] theorem ezWrite_regs (a : Nat) (bs : List Byte) (s : State) : (ezWrite a bs s).regs = s.regs := rfl
@[simp] theorem ezWrite_shadow (a : Nat) (bs : List Byte) (s : State) : (ezWrite a bs s).shadow = s.shadow := rfl
@[simp] theorem ezWrite_captured (a : Nat) (bs : List Byte) (s : State) : (ezWrite a bs s).captured = s.captured := rfl
@[simp] theorem ezWrite_woLatch (a : Nat) (bs : List Byte) (s : State) : (ezWrite a bs s).woLatch = s.woLatch := rfl
@[simp] theorem ezWrite_logs (a : Nat) (bs : List Byte) (s : State) : (ezWrite a bs s).logs = s.logs := rfl
@[simp] theorem ezWrite_results (a : Nat) (bs : List Byte) (s : State) : (ezWrite a bs s).results = s.results := rfl
@[simp] theorem ezWrite_strikes (a : Nat) (bs : List Byte) (s : State) : (ezWrite a bs s).strikes = s.strikes := rfl
@[simp] theorem ezWrite_out (a : Nat) (bs : List Byte) (s : State) : (ezWrite a bs s).out = s.out := rfl
@[simp] theorem ezWrite_nextPid (a : Nat) (bs : List Byte) (s : State) : (ezWrite a bs s).nextPid = s.nextPid := rfl
@[simp] theorem ezWrite_fiu (a : Nat) (bs : List Byte) (s : State) : (ezWrite a bs s).fiu = s.fiu := rfl
@[simp] theorem ezWrite_egr (a : Nat) (bs : List Byte) (s : State) : (ezWrite a bs s).egr = s.egr := rfl
@[simp] theorem ezWrite_tags (a : Nat) (bs : List Byte) (s : State) : (ezWrite a bs s).tags = s.tags := rfl
@[simp] theorem ezWrite_apu (a : Nat) (bs : List Byte) (s : State) : (ezWrite a bs s).apu = s.apu := rfl
@[simp] theorem ezWrite_stnMode (a : Nat) (bs : List Byte) (s : State) : (ezWrite a bs s).stnMode = s.stnMode := rfl
@[simp] theorem ezWrite_known (a : Nat) (bs : List Byte) (s : State) : (ezWrite a bs s).known = s.known := rfl
@[simp] theorem ezWrite_cross (a : Nat) (bs : List Byte) (s : State) : (ezWrite a bs s).cross = s.cross := rfl
@[simp] theorem ezWrite_lights (a : Nat) (bs : List Byte) (s : State) : (ezWrite a bs s).lights = s.lights := rfl
@[simp] theorem ezWrite_sched (a : Nat) (bs : List Byte) (s : State) : (ezWrite a bs s).sched = s.sched := rfl
@[simp] theorem ezWrite_mail (a : Nat) (bs : List Byte) (s : State) : (ezWrite a bs s).mail = s.mail := rfl
@[simp] theorem ezWrite_lan (a : Nat) (bs : List Byte) (s : State) : (ezWrite a bs s).lan = s.lan := rfl
@[simp] theorem ezWrite_dp (a : Nat) (bs : List Byte) (s : State) : (ezWrite a bs s).dp = s.dp := rfl
@[simp] theorem ezWrite_nextDp (a : Nat) (bs : List Byte) (s : State) : (ezWrite a bs s).nextDp = s.nextDp := rfl
@[simp] theorem ezWrite_fifos (a : Nat) (bs : List Byte) (s : State) : (ezWrite a bs s).fifos = s.fifos := rfl
@[simp] theorem ezWrite_arbs (a : Nat) (bs : List Byte) (s : State) : (ezWrite a bs s).arbs = s.arbs := rfl
@[simp] theorem ezWrite_time (a : Nat) (bs : List Byte) (s : State) : (ezWrite a bs s).time = s.time := rfl
@[simp] theorem ezWrite_jrnl (a : Nat) (bs : List Byte) (s : State) : (ezWrite a bs s).jrnl = s.jrnl := rfl
@[simp] theorem ezWrite_prot (a : Nat) (bs : List Byte) (s : State) : (ezWrite a bs s).prot = s.prot := rfl
@[simp] theorem ezWrite_fw (a : Nat) (bs : List Byte) (s : State) : (ezWrite a bs s).fw = s.fw := rfl
@[simp] theorem ezWrite_stage (a : Nat) (bs : List Byte) (s : State) : (ezWrite a bs s).stage = s.stage := rfl
@[simp] theorem ezWrite_keeper (a : Nat) (bs : List Byte) (s : State) : (ezWrite a bs s).keeper = s.keeper := rfl
@[simp] theorem ezWrite_cal (a : Nat) (bs : List Byte) (s : State) : (ezWrite a bs s).cal = s.cal := rfl
@[simp] theorem ezWrite_boot (a : Nat) (bs : List Byte) (s : State) : (ezWrite a bs s).boot = s.boot := rfl
@[simp] theorem ezWrite_record (a : Nat) (bs : List Byte) (s : State) : (ezWrite a bs s).record = s.record := rfl
@[simp] theorem ezWrite_objs (a : Nat) (bs : List Byte) (s : State) : (ezWrite a bs s).objs = s.objs := rfl
@[simp] theorem ezWrite_place (a : Nat) (bs : List Byte) (s : State) : (ezWrite a bs s).place = s.place := rfl
@[simp] theorem ezWrite_dikar (a : Nat) (bs : List Byte) (s : State) : (ezWrite a bs s).dikar = s.dikar := rfl
@[simp] theorem ezWrite_coll (a : Nat) (bs : List Byte) (s : State) : (ezWrite a bs s).coll = s.coll := rfl
@[simp] theorem ezWrite_tap (a : Nat) (bs : List Byte) (s : State) : (ezWrite a bs s).tap = s.tap := rfl

/-! `fiuMod` changes fiu. -/

@[simp] theorem fiuMod_pending (n : Nat) (f : FiuPort → FiuPort) (s : State) : (fiuMod n f s).pending = s.pending := rfl
@[simp] theorem fiuMod_clk (n : Nat) (f : FiuPort → FiuPort) (s : State) : (fiuMod n f s).clk = s.clk := rfl
@[simp] theorem fiuMod_tb (n : Nat) (f : FiuPort → FiuPort) (s : State) : (fiuMod n f s).tb = s.tb := rfl
@[simp] theorem fiuMod_freeSeq (n : Nat) (f : FiuPort → FiuPort) (s : State) : (fiuMod n f s).freeSeq = s.freeSeq := rfl
@[simp] theorem fiuMod_regs (n : Nat) (f : FiuPort → FiuPort) (s : State) : (fiuMod n f s).regs = s.regs := rfl
@[simp] theorem fiuMod_shadow (n : Nat) (f : FiuPort → FiuPort) (s : State) : (fiuMod n f s).shadow = s.shadow := rfl
@[simp] theorem fiuMod_captured (n : Nat) (f : FiuPort → FiuPort) (s : State) :
    (fiuMod n f s).captured = s.captured := rfl
@[simp] theorem fiuMod_woLatch (n : Nat) (f : FiuPort → FiuPort) (s : State) : (fiuMod n f s).woLatch = s.woLatch := rfl
@[simp] theorem fiuMod_logs (n : Nat) (f : FiuPort → FiuPort) (s : State) : (fiuMod n f s).logs = s.logs := rfl
@[simp] theorem fiuMod_results (n : Nat) (f : FiuPort → FiuPort) (s : State) : (fiuMod n f s).results = s.results := rfl
@[simp] theorem fiuMod_strikes (n : Nat) (f : FiuPort → FiuPort) (s : State) : (fiuMod n f s).strikes = s.strikes := rfl
@[simp] theorem fiuMod_out (n : Nat) (f : FiuPort → FiuPort) (s : State) : (fiuMod n f s).out = s.out := rfl
@[simp] theorem fiuMod_nextPid (n : Nat) (f : FiuPort → FiuPort) (s : State) : (fiuMod n f s).nextPid = s.nextPid := rfl
@[simp] theorem fiuMod_egr (n : Nat) (f : FiuPort → FiuPort) (s : State) : (fiuMod n f s).egr = s.egr := rfl
@[simp] theorem fiuMod_tags (n : Nat) (f : FiuPort → FiuPort) (s : State) : (fiuMod n f s).tags = s.tags := rfl
@[simp] theorem fiuMod_apu (n : Nat) (f : FiuPort → FiuPort) (s : State) : (fiuMod n f s).apu = s.apu := rfl
@[simp] theorem fiuMod_stnMode (n : Nat) (f : FiuPort → FiuPort) (s : State) : (fiuMod n f s).stnMode = s.stnMode := rfl
@[simp] theorem fiuMod_known (n : Nat) (f : FiuPort → FiuPort) (s : State) : (fiuMod n f s).known = s.known := rfl
@[simp] theorem fiuMod_cross (n : Nat) (f : FiuPort → FiuPort) (s : State) : (fiuMod n f s).cross = s.cross := rfl
@[simp] theorem fiuMod_lights (n : Nat) (f : FiuPort → FiuPort) (s : State) : (fiuMod n f s).lights = s.lights := rfl
@[simp] theorem fiuMod_sched (n : Nat) (f : FiuPort → FiuPort) (s : State) : (fiuMod n f s).sched = s.sched := rfl
@[simp] theorem fiuMod_mail (n : Nat) (f : FiuPort → FiuPort) (s : State) : (fiuMod n f s).mail = s.mail := rfl
@[simp] theorem fiuMod_easel (n : Nat) (f : FiuPort → FiuPort) (s : State) : (fiuMod n f s).easel = s.easel := rfl
@[simp] theorem fiuMod_lan (n : Nat) (f : FiuPort → FiuPort) (s : State) : (fiuMod n f s).lan = s.lan := rfl
@[simp] theorem fiuMod_dp (n : Nat) (f : FiuPort → FiuPort) (s : State) : (fiuMod n f s).dp = s.dp := rfl
@[simp] theorem fiuMod_nextDp (n : Nat) (f : FiuPort → FiuPort) (s : State) : (fiuMod n f s).nextDp = s.nextDp := rfl
@[simp] theorem fiuMod_fifos (n : Nat) (f : FiuPort → FiuPort) (s : State) : (fiuMod n f s).fifos = s.fifos := rfl
@[simp] theorem fiuMod_arbs (n : Nat) (f : FiuPort → FiuPort) (s : State) : (fiuMod n f s).arbs = s.arbs := rfl
@[simp] theorem fiuMod_time (n : Nat) (f : FiuPort → FiuPort) (s : State) : (fiuMod n f s).time = s.time := rfl
@[simp] theorem fiuMod_jrnl (n : Nat) (f : FiuPort → FiuPort) (s : State) : (fiuMod n f s).jrnl = s.jrnl := rfl
@[simp] theorem fiuMod_prot (n : Nat) (f : FiuPort → FiuPort) (s : State) : (fiuMod n f s).prot = s.prot := rfl
@[simp] theorem fiuMod_fw (n : Nat) (f : FiuPort → FiuPort) (s : State) : (fiuMod n f s).fw = s.fw := rfl
@[simp] theorem fiuMod_stage (n : Nat) (f : FiuPort → FiuPort) (s : State) : (fiuMod n f s).stage = s.stage := rfl
@[simp] theorem fiuMod_keeper (n : Nat) (f : FiuPort → FiuPort) (s : State) : (fiuMod n f s).keeper = s.keeper := rfl
@[simp] theorem fiuMod_cal (n : Nat) (f : FiuPort → FiuPort) (s : State) : (fiuMod n f s).cal = s.cal := rfl
@[simp] theorem fiuMod_boot (n : Nat) (f : FiuPort → FiuPort) (s : State) : (fiuMod n f s).boot = s.boot := rfl
@[simp] theorem fiuMod_record (n : Nat) (f : FiuPort → FiuPort) (s : State) : (fiuMod n f s).record = s.record := rfl
@[simp] theorem fiuMod_objs (n : Nat) (f : FiuPort → FiuPort) (s : State) : (fiuMod n f s).objs = s.objs := rfl
@[simp] theorem fiuMod_place (n : Nat) (f : FiuPort → FiuPort) (s : State) : (fiuMod n f s).place = s.place := rfl
@[simp] theorem fiuMod_dikar (n : Nat) (f : FiuPort → FiuPort) (s : State) : (fiuMod n f s).dikar = s.dikar := rfl
@[simp] theorem fiuMod_coll (n : Nat) (f : FiuPort → FiuPort) (s : State) : (fiuMod n f s).coll = s.coll := rfl
@[simp] theorem fiuMod_tap (n : Nat) (f : FiuPort → FiuPort) (s : State) : (fiuMod n f s).tap = s.tap := rfl

/-! `egrMod` changes egr. -/

@[simp] theorem egrMod_pending (h : Half) (f : Egress → Egress) (s : State) : (egrMod h f s).pending = s.pending := rfl
@[simp] theorem egrMod_clk (h : Half) (f : Egress → Egress) (s : State) : (egrMod h f s).clk = s.clk := rfl
@[simp] theorem egrMod_tb (h : Half) (f : Egress → Egress) (s : State) : (egrMod h f s).tb = s.tb := rfl
@[simp] theorem egrMod_freeSeq (h : Half) (f : Egress → Egress) (s : State) : (egrMod h f s).freeSeq = s.freeSeq := rfl
@[simp] theorem egrMod_regs (h : Half) (f : Egress → Egress) (s : State) : (egrMod h f s).regs = s.regs := rfl
@[simp] theorem egrMod_shadow (h : Half) (f : Egress → Egress) (s : State) : (egrMod h f s).shadow = s.shadow := rfl
@[simp] theorem egrMod_captured (h : Half) (f : Egress → Egress) (s : State) :
    (egrMod h f s).captured = s.captured := rfl
@[simp] theorem egrMod_woLatch (h : Half) (f : Egress → Egress) (s : State) : (egrMod h f s).woLatch = s.woLatch := rfl
@[simp] theorem egrMod_logs (h : Half) (f : Egress → Egress) (s : State) : (egrMod h f s).logs = s.logs := rfl
@[simp] theorem egrMod_results (h : Half) (f : Egress → Egress) (s : State) : (egrMod h f s).results = s.results := rfl
@[simp] theorem egrMod_strikes (h : Half) (f : Egress → Egress) (s : State) : (egrMod h f s).strikes = s.strikes := rfl
@[simp] theorem egrMod_out (h : Half) (f : Egress → Egress) (s : State) : (egrMod h f s).out = s.out := rfl
@[simp] theorem egrMod_nextPid (h : Half) (f : Egress → Egress) (s : State) : (egrMod h f s).nextPid = s.nextPid := rfl
@[simp] theorem egrMod_fiu (h : Half) (f : Egress → Egress) (s : State) : (egrMod h f s).fiu = s.fiu := rfl
@[simp] theorem egrMod_tags (h : Half) (f : Egress → Egress) (s : State) : (egrMod h f s).tags = s.tags := rfl
@[simp] theorem egrMod_apu (h : Half) (f : Egress → Egress) (s : State) : (egrMod h f s).apu = s.apu := rfl
@[simp] theorem egrMod_stnMode (h : Half) (f : Egress → Egress) (s : State) : (egrMod h f s).stnMode = s.stnMode := rfl
@[simp] theorem egrMod_known (h : Half) (f : Egress → Egress) (s : State) : (egrMod h f s).known = s.known := rfl
@[simp] theorem egrMod_cross (h : Half) (f : Egress → Egress) (s : State) : (egrMod h f s).cross = s.cross := rfl
@[simp] theorem egrMod_lights (h : Half) (f : Egress → Egress) (s : State) : (egrMod h f s).lights = s.lights := rfl
@[simp] theorem egrMod_sched (h : Half) (f : Egress → Egress) (s : State) : (egrMod h f s).sched = s.sched := rfl
@[simp] theorem egrMod_mail (h : Half) (f : Egress → Egress) (s : State) : (egrMod h f s).mail = s.mail := rfl
@[simp] theorem egrMod_easel (h : Half) (f : Egress → Egress) (s : State) : (egrMod h f s).easel = s.easel := rfl
@[simp] theorem egrMod_lan (h : Half) (f : Egress → Egress) (s : State) : (egrMod h f s).lan = s.lan := rfl
@[simp] theorem egrMod_dp (h : Half) (f : Egress → Egress) (s : State) : (egrMod h f s).dp = s.dp := rfl
@[simp] theorem egrMod_nextDp (h : Half) (f : Egress → Egress) (s : State) : (egrMod h f s).nextDp = s.nextDp := rfl
@[simp] theorem egrMod_fifos (h : Half) (f : Egress → Egress) (s : State) : (egrMod h f s).fifos = s.fifos := rfl
@[simp] theorem egrMod_arbs (h : Half) (f : Egress → Egress) (s : State) : (egrMod h f s).arbs = s.arbs := rfl
@[simp] theorem egrMod_time (h : Half) (f : Egress → Egress) (s : State) : (egrMod h f s).time = s.time := rfl
@[simp] theorem egrMod_jrnl (h : Half) (f : Egress → Egress) (s : State) : (egrMod h f s).jrnl = s.jrnl := rfl
@[simp] theorem egrMod_prot (h : Half) (f : Egress → Egress) (s : State) : (egrMod h f s).prot = s.prot := rfl
@[simp] theorem egrMod_fw (h : Half) (f : Egress → Egress) (s : State) : (egrMod h f s).fw = s.fw := rfl
@[simp] theorem egrMod_stage (h : Half) (f : Egress → Egress) (s : State) : (egrMod h f s).stage = s.stage := rfl
@[simp] theorem egrMod_keeper (h : Half) (f : Egress → Egress) (s : State) : (egrMod h f s).keeper = s.keeper := rfl
@[simp] theorem egrMod_cal (h : Half) (f : Egress → Egress) (s : State) : (egrMod h f s).cal = s.cal := rfl
@[simp] theorem egrMod_boot (h : Half) (f : Egress → Egress) (s : State) : (egrMod h f s).boot = s.boot := rfl
@[simp] theorem egrMod_record (h : Half) (f : Egress → Egress) (s : State) : (egrMod h f s).record = s.record := rfl
@[simp] theorem egrMod_objs (h : Half) (f : Egress → Egress) (s : State) : (egrMod h f s).objs = s.objs := rfl
@[simp] theorem egrMod_place (h : Half) (f : Egress → Egress) (s : State) : (egrMod h f s).place = s.place := rfl
@[simp] theorem egrMod_dikar (h : Half) (f : Egress → Egress) (s : State) : (egrMod h f s).dikar = s.dikar := rfl
@[simp] theorem egrMod_coll (h : Half) (f : Egress → Egress) (s : State) : (egrMod h f s).coll = s.coll := rfl
@[simp] theorem egrMod_tap (h : Half) (f : Egress → Egress) (s : State) : (egrMod h f s).tap = s.tap := rfl

/-! `bootMod` changes boot. -/

@[simp] theorem bootMod_pending (f : Boot → Boot) (s : State) : (bootMod f s).pending = s.pending := rfl
@[simp] theorem bootMod_clk (f : Boot → Boot) (s : State) : (bootMod f s).clk = s.clk := rfl
@[simp] theorem bootMod_tb (f : Boot → Boot) (s : State) : (bootMod f s).tb = s.tb := rfl
@[simp] theorem bootMod_freeSeq (f : Boot → Boot) (s : State) : (bootMod f s).freeSeq = s.freeSeq := rfl
@[simp] theorem bootMod_regs (f : Boot → Boot) (s : State) : (bootMod f s).regs = s.regs := rfl
@[simp] theorem bootMod_shadow (f : Boot → Boot) (s : State) : (bootMod f s).shadow = s.shadow := rfl
@[simp] theorem bootMod_captured (f : Boot → Boot) (s : State) : (bootMod f s).captured = s.captured := rfl
@[simp] theorem bootMod_woLatch (f : Boot → Boot) (s : State) : (bootMod f s).woLatch = s.woLatch := rfl
@[simp] theorem bootMod_logs (f : Boot → Boot) (s : State) : (bootMod f s).logs = s.logs := rfl
@[simp] theorem bootMod_results (f : Boot → Boot) (s : State) : (bootMod f s).results = s.results := rfl
@[simp] theorem bootMod_strikes (f : Boot → Boot) (s : State) : (bootMod f s).strikes = s.strikes := rfl
@[simp] theorem bootMod_out (f : Boot → Boot) (s : State) : (bootMod f s).out = s.out := rfl
@[simp] theorem bootMod_nextPid (f : Boot → Boot) (s : State) : (bootMod f s).nextPid = s.nextPid := rfl
@[simp] theorem bootMod_fiu (f : Boot → Boot) (s : State) : (bootMod f s).fiu = s.fiu := rfl
@[simp] theorem bootMod_egr (f : Boot → Boot) (s : State) : (bootMod f s).egr = s.egr := rfl
@[simp] theorem bootMod_tags (f : Boot → Boot) (s : State) : (bootMod f s).tags = s.tags := rfl
@[simp] theorem bootMod_apu (f : Boot → Boot) (s : State) : (bootMod f s).apu = s.apu := rfl
@[simp] theorem bootMod_stnMode (f : Boot → Boot) (s : State) : (bootMod f s).stnMode = s.stnMode := rfl
@[simp] theorem bootMod_known (f : Boot → Boot) (s : State) : (bootMod f s).known = s.known := rfl
@[simp] theorem bootMod_cross (f : Boot → Boot) (s : State) : (bootMod f s).cross = s.cross := rfl
@[simp] theorem bootMod_lights (f : Boot → Boot) (s : State) : (bootMod f s).lights = s.lights := rfl
@[simp] theorem bootMod_sched (f : Boot → Boot) (s : State) : (bootMod f s).sched = s.sched := rfl
@[simp] theorem bootMod_mail (f : Boot → Boot) (s : State) : (bootMod f s).mail = s.mail := rfl
@[simp] theorem bootMod_easel (f : Boot → Boot) (s : State) : (bootMod f s).easel = s.easel := rfl
@[simp] theorem bootMod_lan (f : Boot → Boot) (s : State) : (bootMod f s).lan = s.lan := rfl
@[simp] theorem bootMod_dp (f : Boot → Boot) (s : State) : (bootMod f s).dp = s.dp := rfl
@[simp] theorem bootMod_nextDp (f : Boot → Boot) (s : State) : (bootMod f s).nextDp = s.nextDp := rfl
@[simp] theorem bootMod_fifos (f : Boot → Boot) (s : State) : (bootMod f s).fifos = s.fifos := rfl
@[simp] theorem bootMod_arbs (f : Boot → Boot) (s : State) : (bootMod f s).arbs = s.arbs := rfl
@[simp] theorem bootMod_time (f : Boot → Boot) (s : State) : (bootMod f s).time = s.time := rfl
@[simp] theorem bootMod_jrnl (f : Boot → Boot) (s : State) : (bootMod f s).jrnl = s.jrnl := rfl
@[simp] theorem bootMod_prot (f : Boot → Boot) (s : State) : (bootMod f s).prot = s.prot := rfl
@[simp] theorem bootMod_fw (f : Boot → Boot) (s : State) : (bootMod f s).fw = s.fw := rfl
@[simp] theorem bootMod_stage (f : Boot → Boot) (s : State) : (bootMod f s).stage = s.stage := rfl
@[simp] theorem bootMod_keeper (f : Boot → Boot) (s : State) : (bootMod f s).keeper = s.keeper := rfl
@[simp] theorem bootMod_cal (f : Boot → Boot) (s : State) : (bootMod f s).cal = s.cal := rfl
@[simp] theorem bootMod_record (f : Boot → Boot) (s : State) : (bootMod f s).record = s.record := rfl
@[simp] theorem bootMod_objs (f : Boot → Boot) (s : State) : (bootMod f s).objs = s.objs := rfl
@[simp] theorem bootMod_place (f : Boot → Boot) (s : State) : (bootMod f s).place = s.place := rfl
@[simp] theorem bootMod_dikar (f : Boot → Boot) (s : State) : (bootMod f s).dikar = s.dikar := rfl
@[simp] theorem bootMod_coll (f : Boot → Boot) (s : State) : (bootMod f s).coll = s.coll := rfl
@[simp] theorem bootMod_tap (f : Boot → Boot) (s : State) : (bootMod f s).tap = s.tap := rfl

/-! `keeperMod` changes keeper. -/

@[simp] theorem keeperMod_pending (f : Keeper → Keeper) (s : State) : (keeperMod f s).pending = s.pending := rfl
@[simp] theorem keeperMod_clk (f : Keeper → Keeper) (s : State) : (keeperMod f s).clk = s.clk := rfl
@[simp] theorem keeperMod_tb (f : Keeper → Keeper) (s : State) : (keeperMod f s).tb = s.tb := rfl
@[simp] theorem keeperMod_freeSeq (f : Keeper → Keeper) (s : State) : (keeperMod f s).freeSeq = s.freeSeq := rfl
@[simp] theorem keeperMod_regs (f : Keeper → Keeper) (s : State) : (keeperMod f s).regs = s.regs := rfl
@[simp] theorem keeperMod_shadow (f : Keeper → Keeper) (s : State) : (keeperMod f s).shadow = s.shadow := rfl
@[simp] theorem keeperMod_captured (f : Keeper → Keeper) (s : State) : (keeperMod f s).captured = s.captured := rfl
@[simp] theorem keeperMod_woLatch (f : Keeper → Keeper) (s : State) : (keeperMod f s).woLatch = s.woLatch := rfl
@[simp] theorem keeperMod_logs (f : Keeper → Keeper) (s : State) : (keeperMod f s).logs = s.logs := rfl
@[simp] theorem keeperMod_results (f : Keeper → Keeper) (s : State) : (keeperMod f s).results = s.results := rfl
@[simp] theorem keeperMod_strikes (f : Keeper → Keeper) (s : State) : (keeperMod f s).strikes = s.strikes := rfl
@[simp] theorem keeperMod_out (f : Keeper → Keeper) (s : State) : (keeperMod f s).out = s.out := rfl
@[simp] theorem keeperMod_nextPid (f : Keeper → Keeper) (s : State) : (keeperMod f s).nextPid = s.nextPid := rfl
@[simp] theorem keeperMod_fiu (f : Keeper → Keeper) (s : State) : (keeperMod f s).fiu = s.fiu := rfl
@[simp] theorem keeperMod_egr (f : Keeper → Keeper) (s : State) : (keeperMod f s).egr = s.egr := rfl
@[simp] theorem keeperMod_tags (f : Keeper → Keeper) (s : State) : (keeperMod f s).tags = s.tags := rfl
@[simp] theorem keeperMod_apu (f : Keeper → Keeper) (s : State) : (keeperMod f s).apu = s.apu := rfl
@[simp] theorem keeperMod_stnMode (f : Keeper → Keeper) (s : State) : (keeperMod f s).stnMode = s.stnMode := rfl
@[simp] theorem keeperMod_known (f : Keeper → Keeper) (s : State) : (keeperMod f s).known = s.known := rfl
@[simp] theorem keeperMod_cross (f : Keeper → Keeper) (s : State) : (keeperMod f s).cross = s.cross := rfl
@[simp] theorem keeperMod_lights (f : Keeper → Keeper) (s : State) : (keeperMod f s).lights = s.lights := rfl
@[simp] theorem keeperMod_sched (f : Keeper → Keeper) (s : State) : (keeperMod f s).sched = s.sched := rfl
@[simp] theorem keeperMod_mail (f : Keeper → Keeper) (s : State) : (keeperMod f s).mail = s.mail := rfl
@[simp] theorem keeperMod_easel (f : Keeper → Keeper) (s : State) : (keeperMod f s).easel = s.easel := rfl
@[simp] theorem keeperMod_lan (f : Keeper → Keeper) (s : State) : (keeperMod f s).lan = s.lan := rfl
@[simp] theorem keeperMod_dp (f : Keeper → Keeper) (s : State) : (keeperMod f s).dp = s.dp := rfl
@[simp] theorem keeperMod_nextDp (f : Keeper → Keeper) (s : State) : (keeperMod f s).nextDp = s.nextDp := rfl
@[simp] theorem keeperMod_fifos (f : Keeper → Keeper) (s : State) : (keeperMod f s).fifos = s.fifos := rfl
@[simp] theorem keeperMod_arbs (f : Keeper → Keeper) (s : State) : (keeperMod f s).arbs = s.arbs := rfl
@[simp] theorem keeperMod_time (f : Keeper → Keeper) (s : State) : (keeperMod f s).time = s.time := rfl
@[simp] theorem keeperMod_jrnl (f : Keeper → Keeper) (s : State) : (keeperMod f s).jrnl = s.jrnl := rfl
@[simp] theorem keeperMod_prot (f : Keeper → Keeper) (s : State) : (keeperMod f s).prot = s.prot := rfl
@[simp] theorem keeperMod_fw (f : Keeper → Keeper) (s : State) : (keeperMod f s).fw = s.fw := rfl
@[simp] theorem keeperMod_stage (f : Keeper → Keeper) (s : State) : (keeperMod f s).stage = s.stage := rfl
@[simp] theorem keeperMod_cal (f : Keeper → Keeper) (s : State) : (keeperMod f s).cal = s.cal := rfl
@[simp] theorem keeperMod_boot (f : Keeper → Keeper) (s : State) : (keeperMod f s).boot = s.boot := rfl
@[simp] theorem keeperMod_record (f : Keeper → Keeper) (s : State) : (keeperMod f s).record = s.record := rfl
@[simp] theorem keeperMod_objs (f : Keeper → Keeper) (s : State) : (keeperMod f s).objs = s.objs := rfl
@[simp] theorem keeperMod_place (f : Keeper → Keeper) (s : State) : (keeperMod f s).place = s.place := rfl
@[simp] theorem keeperMod_dikar (f : Keeper → Keeper) (s : State) : (keeperMod f s).dikar = s.dikar := rfl
@[simp] theorem keeperMod_coll (f : Keeper → Keeper) (s : State) : (keeperMod f s).coll = s.coll := rfl
@[simp] theorem keeperMod_tap (f : Keeper → Keeper) (s : State) : (keeperMod f s).tap = s.tap := rfl

/-! `leaseMod` changes keeper. -/

@[simp] theorem leaseMod_pending (f : Lease → Lease) (s : State) : (leaseMod f s).pending = s.pending := rfl
@[simp] theorem leaseMod_clk (f : Lease → Lease) (s : State) : (leaseMod f s).clk = s.clk := rfl
@[simp] theorem leaseMod_tb (f : Lease → Lease) (s : State) : (leaseMod f s).tb = s.tb := rfl
@[simp] theorem leaseMod_freeSeq (f : Lease → Lease) (s : State) : (leaseMod f s).freeSeq = s.freeSeq := rfl
@[simp] theorem leaseMod_regs (f : Lease → Lease) (s : State) : (leaseMod f s).regs = s.regs := rfl
@[simp] theorem leaseMod_shadow (f : Lease → Lease) (s : State) : (leaseMod f s).shadow = s.shadow := rfl
@[simp] theorem leaseMod_captured (f : Lease → Lease) (s : State) : (leaseMod f s).captured = s.captured := rfl
@[simp] theorem leaseMod_woLatch (f : Lease → Lease) (s : State) : (leaseMod f s).woLatch = s.woLatch := rfl
@[simp] theorem leaseMod_logs (f : Lease → Lease) (s : State) : (leaseMod f s).logs = s.logs := rfl
@[simp] theorem leaseMod_results (f : Lease → Lease) (s : State) : (leaseMod f s).results = s.results := rfl
@[simp] theorem leaseMod_strikes (f : Lease → Lease) (s : State) : (leaseMod f s).strikes = s.strikes := rfl
@[simp] theorem leaseMod_out (f : Lease → Lease) (s : State) : (leaseMod f s).out = s.out := rfl
@[simp] theorem leaseMod_nextPid (f : Lease → Lease) (s : State) : (leaseMod f s).nextPid = s.nextPid := rfl
@[simp] theorem leaseMod_fiu (f : Lease → Lease) (s : State) : (leaseMod f s).fiu = s.fiu := rfl
@[simp] theorem leaseMod_egr (f : Lease → Lease) (s : State) : (leaseMod f s).egr = s.egr := rfl
@[simp] theorem leaseMod_tags (f : Lease → Lease) (s : State) : (leaseMod f s).tags = s.tags := rfl
@[simp] theorem leaseMod_apu (f : Lease → Lease) (s : State) : (leaseMod f s).apu = s.apu := rfl
@[simp] theorem leaseMod_stnMode (f : Lease → Lease) (s : State) : (leaseMod f s).stnMode = s.stnMode := rfl
@[simp] theorem leaseMod_known (f : Lease → Lease) (s : State) : (leaseMod f s).known = s.known := rfl
@[simp] theorem leaseMod_cross (f : Lease → Lease) (s : State) : (leaseMod f s).cross = s.cross := rfl
@[simp] theorem leaseMod_lights (f : Lease → Lease) (s : State) : (leaseMod f s).lights = s.lights := rfl
@[simp] theorem leaseMod_sched (f : Lease → Lease) (s : State) : (leaseMod f s).sched = s.sched := rfl
@[simp] theorem leaseMod_mail (f : Lease → Lease) (s : State) : (leaseMod f s).mail = s.mail := rfl
@[simp] theorem leaseMod_easel (f : Lease → Lease) (s : State) : (leaseMod f s).easel = s.easel := rfl
@[simp] theorem leaseMod_lan (f : Lease → Lease) (s : State) : (leaseMod f s).lan = s.lan := rfl
@[simp] theorem leaseMod_dp (f : Lease → Lease) (s : State) : (leaseMod f s).dp = s.dp := rfl
@[simp] theorem leaseMod_nextDp (f : Lease → Lease) (s : State) : (leaseMod f s).nextDp = s.nextDp := rfl
@[simp] theorem leaseMod_fifos (f : Lease → Lease) (s : State) : (leaseMod f s).fifos = s.fifos := rfl
@[simp] theorem leaseMod_arbs (f : Lease → Lease) (s : State) : (leaseMod f s).arbs = s.arbs := rfl
@[simp] theorem leaseMod_time (f : Lease → Lease) (s : State) : (leaseMod f s).time = s.time := rfl
@[simp] theorem leaseMod_jrnl (f : Lease → Lease) (s : State) : (leaseMod f s).jrnl = s.jrnl := rfl
@[simp] theorem leaseMod_prot (f : Lease → Lease) (s : State) : (leaseMod f s).prot = s.prot := rfl
@[simp] theorem leaseMod_fw (f : Lease → Lease) (s : State) : (leaseMod f s).fw = s.fw := rfl
@[simp] theorem leaseMod_stage (f : Lease → Lease) (s : State) : (leaseMod f s).stage = s.stage := rfl
@[simp] theorem leaseMod_cal (f : Lease → Lease) (s : State) : (leaseMod f s).cal = s.cal := rfl
@[simp] theorem leaseMod_boot (f : Lease → Lease) (s : State) : (leaseMod f s).boot = s.boot := rfl
@[simp] theorem leaseMod_record (f : Lease → Lease) (s : State) : (leaseMod f s).record = s.record := rfl
@[simp] theorem leaseMod_objs (f : Lease → Lease) (s : State) : (leaseMod f s).objs = s.objs := rfl
@[simp] theorem leaseMod_place (f : Lease → Lease) (s : State) : (leaseMod f s).place = s.place := rfl
@[simp] theorem leaseMod_dikar (f : Lease → Lease) (s : State) : (leaseMod f s).dikar = s.dikar := rfl
@[simp] theorem leaseMod_coll (f : Lease → Lease) (s : State) : (leaseMod f s).coll = s.coll := rfl
@[simp] theorem leaseMod_tap (f : Lease → Lease) (s : State) : (leaseMod f s).tap = s.tap := rfl

/-! `jrnlMod` changes jrnl. -/

@[simp] theorem jrnlMod_pending (h : Half) (f : Jrnl → Jrnl) (s : State) : (jrnlMod h f s).pending = s.pending := rfl
@[simp] theorem jrnlMod_clk (h : Half) (f : Jrnl → Jrnl) (s : State) : (jrnlMod h f s).clk = s.clk := rfl
@[simp] theorem jrnlMod_tb (h : Half) (f : Jrnl → Jrnl) (s : State) : (jrnlMod h f s).tb = s.tb := rfl
@[simp] theorem jrnlMod_freeSeq (h : Half) (f : Jrnl → Jrnl) (s : State) : (jrnlMod h f s).freeSeq = s.freeSeq := rfl
@[simp] theorem jrnlMod_regs (h : Half) (f : Jrnl → Jrnl) (s : State) : (jrnlMod h f s).regs = s.regs := rfl
@[simp] theorem jrnlMod_shadow (h : Half) (f : Jrnl → Jrnl) (s : State) : (jrnlMod h f s).shadow = s.shadow := rfl
@[simp] theorem jrnlMod_captured (h : Half) (f : Jrnl → Jrnl) (s : State) : (jrnlMod h f s).captured = s.captured := rfl
@[simp] theorem jrnlMod_woLatch (h : Half) (f : Jrnl → Jrnl) (s : State) : (jrnlMod h f s).woLatch = s.woLatch := rfl
@[simp] theorem jrnlMod_logs (h : Half) (f : Jrnl → Jrnl) (s : State) : (jrnlMod h f s).logs = s.logs := rfl
@[simp] theorem jrnlMod_results (h : Half) (f : Jrnl → Jrnl) (s : State) : (jrnlMod h f s).results = s.results := rfl
@[simp] theorem jrnlMod_strikes (h : Half) (f : Jrnl → Jrnl) (s : State) : (jrnlMod h f s).strikes = s.strikes := rfl
@[simp] theorem jrnlMod_out (h : Half) (f : Jrnl → Jrnl) (s : State) : (jrnlMod h f s).out = s.out := rfl
@[simp] theorem jrnlMod_nextPid (h : Half) (f : Jrnl → Jrnl) (s : State) : (jrnlMod h f s).nextPid = s.nextPid := rfl
@[simp] theorem jrnlMod_fiu (h : Half) (f : Jrnl → Jrnl) (s : State) : (jrnlMod h f s).fiu = s.fiu := rfl
@[simp] theorem jrnlMod_egr (h : Half) (f : Jrnl → Jrnl) (s : State) : (jrnlMod h f s).egr = s.egr := rfl
@[simp] theorem jrnlMod_tags (h : Half) (f : Jrnl → Jrnl) (s : State) : (jrnlMod h f s).tags = s.tags := rfl
@[simp] theorem jrnlMod_apu (h : Half) (f : Jrnl → Jrnl) (s : State) : (jrnlMod h f s).apu = s.apu := rfl
@[simp] theorem jrnlMod_stnMode (h : Half) (f : Jrnl → Jrnl) (s : State) : (jrnlMod h f s).stnMode = s.stnMode := rfl
@[simp] theorem jrnlMod_known (h : Half) (f : Jrnl → Jrnl) (s : State) : (jrnlMod h f s).known = s.known := rfl
@[simp] theorem jrnlMod_cross (h : Half) (f : Jrnl → Jrnl) (s : State) : (jrnlMod h f s).cross = s.cross := rfl
@[simp] theorem jrnlMod_lights (h : Half) (f : Jrnl → Jrnl) (s : State) : (jrnlMod h f s).lights = s.lights := rfl
@[simp] theorem jrnlMod_sched (h : Half) (f : Jrnl → Jrnl) (s : State) : (jrnlMod h f s).sched = s.sched := rfl
@[simp] theorem jrnlMod_mail (h : Half) (f : Jrnl → Jrnl) (s : State) : (jrnlMod h f s).mail = s.mail := rfl
@[simp] theorem jrnlMod_easel (h : Half) (f : Jrnl → Jrnl) (s : State) : (jrnlMod h f s).easel = s.easel := rfl
@[simp] theorem jrnlMod_lan (h : Half) (f : Jrnl → Jrnl) (s : State) : (jrnlMod h f s).lan = s.lan := rfl
@[simp] theorem jrnlMod_dp (h : Half) (f : Jrnl → Jrnl) (s : State) : (jrnlMod h f s).dp = s.dp := rfl
@[simp] theorem jrnlMod_nextDp (h : Half) (f : Jrnl → Jrnl) (s : State) : (jrnlMod h f s).nextDp = s.nextDp := rfl
@[simp] theorem jrnlMod_fifos (h : Half) (f : Jrnl → Jrnl) (s : State) : (jrnlMod h f s).fifos = s.fifos := rfl
@[simp] theorem jrnlMod_arbs (h : Half) (f : Jrnl → Jrnl) (s : State) : (jrnlMod h f s).arbs = s.arbs := rfl
@[simp] theorem jrnlMod_time (h : Half) (f : Jrnl → Jrnl) (s : State) : (jrnlMod h f s).time = s.time := rfl
@[simp] theorem jrnlMod_prot (h : Half) (f : Jrnl → Jrnl) (s : State) : (jrnlMod h f s).prot = s.prot := rfl
@[simp] theorem jrnlMod_fw (h : Half) (f : Jrnl → Jrnl) (s : State) : (jrnlMod h f s).fw = s.fw := rfl
@[simp] theorem jrnlMod_stage (h : Half) (f : Jrnl → Jrnl) (s : State) : (jrnlMod h f s).stage = s.stage := rfl
@[simp] theorem jrnlMod_keeper (h : Half) (f : Jrnl → Jrnl) (s : State) : (jrnlMod h f s).keeper = s.keeper := rfl
@[simp] theorem jrnlMod_cal (h : Half) (f : Jrnl → Jrnl) (s : State) : (jrnlMod h f s).cal = s.cal := rfl
@[simp] theorem jrnlMod_boot (h : Half) (f : Jrnl → Jrnl) (s : State) : (jrnlMod h f s).boot = s.boot := rfl
@[simp] theorem jrnlMod_record (h : Half) (f : Jrnl → Jrnl) (s : State) : (jrnlMod h f s).record = s.record := rfl
@[simp] theorem jrnlMod_objs (h : Half) (f : Jrnl → Jrnl) (s : State) : (jrnlMod h f s).objs = s.objs := rfl
@[simp] theorem jrnlMod_place (h : Half) (f : Jrnl → Jrnl) (s : State) : (jrnlMod h f s).place = s.place := rfl
@[simp] theorem jrnlMod_dikar (h : Half) (f : Jrnl → Jrnl) (s : State) : (jrnlMod h f s).dikar = s.dikar := rfl
@[simp] theorem jrnlMod_coll (h : Half) (f : Jrnl → Jrnl) (s : State) : (jrnlMod h f s).coll = s.coll := rfl
@[simp] theorem jrnlMod_tap (h : Half) (f : Jrnl → Jrnl) (s : State) : (jrnlMod h f s).tap = s.tap := rfl

/-! `calMod` changes cal. -/

@[simp] theorem calMod_pending (h : Half) (f : Cal → Cal) (s : State) : (calMod h f s).pending = s.pending := rfl
@[simp] theorem calMod_clk (h : Half) (f : Cal → Cal) (s : State) : (calMod h f s).clk = s.clk := rfl
@[simp] theorem calMod_tb (h : Half) (f : Cal → Cal) (s : State) : (calMod h f s).tb = s.tb := rfl
@[simp] theorem calMod_freeSeq (h : Half) (f : Cal → Cal) (s : State) : (calMod h f s).freeSeq = s.freeSeq := rfl
@[simp] theorem calMod_regs (h : Half) (f : Cal → Cal) (s : State) : (calMod h f s).regs = s.regs := rfl
@[simp] theorem calMod_shadow (h : Half) (f : Cal → Cal) (s : State) : (calMod h f s).shadow = s.shadow := rfl
@[simp] theorem calMod_captured (h : Half) (f : Cal → Cal) (s : State) : (calMod h f s).captured = s.captured := rfl
@[simp] theorem calMod_woLatch (h : Half) (f : Cal → Cal) (s : State) : (calMod h f s).woLatch = s.woLatch := rfl
@[simp] theorem calMod_logs (h : Half) (f : Cal → Cal) (s : State) : (calMod h f s).logs = s.logs := rfl
@[simp] theorem calMod_results (h : Half) (f : Cal → Cal) (s : State) : (calMod h f s).results = s.results := rfl
@[simp] theorem calMod_strikes (h : Half) (f : Cal → Cal) (s : State) : (calMod h f s).strikes = s.strikes := rfl
@[simp] theorem calMod_out (h : Half) (f : Cal → Cal) (s : State) : (calMod h f s).out = s.out := rfl
@[simp] theorem calMod_nextPid (h : Half) (f : Cal → Cal) (s : State) : (calMod h f s).nextPid = s.nextPid := rfl
@[simp] theorem calMod_fiu (h : Half) (f : Cal → Cal) (s : State) : (calMod h f s).fiu = s.fiu := rfl
@[simp] theorem calMod_egr (h : Half) (f : Cal → Cal) (s : State) : (calMod h f s).egr = s.egr := rfl
@[simp] theorem calMod_tags (h : Half) (f : Cal → Cal) (s : State) : (calMod h f s).tags = s.tags := rfl
@[simp] theorem calMod_apu (h : Half) (f : Cal → Cal) (s : State) : (calMod h f s).apu = s.apu := rfl
@[simp] theorem calMod_stnMode (h : Half) (f : Cal → Cal) (s : State) : (calMod h f s).stnMode = s.stnMode := rfl
@[simp] theorem calMod_known (h : Half) (f : Cal → Cal) (s : State) : (calMod h f s).known = s.known := rfl
@[simp] theorem calMod_cross (h : Half) (f : Cal → Cal) (s : State) : (calMod h f s).cross = s.cross := rfl
@[simp] theorem calMod_lights (h : Half) (f : Cal → Cal) (s : State) : (calMod h f s).lights = s.lights := rfl
@[simp] theorem calMod_sched (h : Half) (f : Cal → Cal) (s : State) : (calMod h f s).sched = s.sched := rfl
@[simp] theorem calMod_mail (h : Half) (f : Cal → Cal) (s : State) : (calMod h f s).mail = s.mail := rfl
@[simp] theorem calMod_easel (h : Half) (f : Cal → Cal) (s : State) : (calMod h f s).easel = s.easel := rfl
@[simp] theorem calMod_lan (h : Half) (f : Cal → Cal) (s : State) : (calMod h f s).lan = s.lan := rfl
@[simp] theorem calMod_dp (h : Half) (f : Cal → Cal) (s : State) : (calMod h f s).dp = s.dp := rfl
@[simp] theorem calMod_nextDp (h : Half) (f : Cal → Cal) (s : State) : (calMod h f s).nextDp = s.nextDp := rfl
@[simp] theorem calMod_fifos (h : Half) (f : Cal → Cal) (s : State) : (calMod h f s).fifos = s.fifos := rfl
@[simp] theorem calMod_arbs (h : Half) (f : Cal → Cal) (s : State) : (calMod h f s).arbs = s.arbs := rfl
@[simp] theorem calMod_time (h : Half) (f : Cal → Cal) (s : State) : (calMod h f s).time = s.time := rfl
@[simp] theorem calMod_jrnl (h : Half) (f : Cal → Cal) (s : State) : (calMod h f s).jrnl = s.jrnl := rfl
@[simp] theorem calMod_prot (h : Half) (f : Cal → Cal) (s : State) : (calMod h f s).prot = s.prot := rfl
@[simp] theorem calMod_fw (h : Half) (f : Cal → Cal) (s : State) : (calMod h f s).fw = s.fw := rfl
@[simp] theorem calMod_stage (h : Half) (f : Cal → Cal) (s : State) : (calMod h f s).stage = s.stage := rfl
@[simp] theorem calMod_keeper (h : Half) (f : Cal → Cal) (s : State) : (calMod h f s).keeper = s.keeper := rfl
@[simp] theorem calMod_boot (h : Half) (f : Cal → Cal) (s : State) : (calMod h f s).boot = s.boot := rfl
@[simp] theorem calMod_record (h : Half) (f : Cal → Cal) (s : State) : (calMod h f s).record = s.record := rfl
@[simp] theorem calMod_objs (h : Half) (f : Cal → Cal) (s : State) : (calMod h f s).objs = s.objs := rfl
@[simp] theorem calMod_place (h : Half) (f : Cal → Cal) (s : State) : (calMod h f s).place = s.place := rfl
@[simp] theorem calMod_dikar (h : Half) (f : Cal → Cal) (s : State) : (calMod h f s).dikar = s.dikar := rfl
@[simp] theorem calMod_coll (h : Half) (f : Cal → Cal) (s : State) : (calMod h f s).coll = s.coll := rfl
@[simp] theorem calMod_tap (h : Half) (f : Cal → Cal) (s : State) : (calMod h f s).tap = s.tap := rfl

/-! `collMod` changes coll. -/

@[simp] theorem collMod_pending (h : Half) (f : CollHalf → CollHalf) (s : State) :
    (collMod h f s).pending = s.pending := rfl
@[simp] theorem collMod_clk (h : Half) (f : CollHalf → CollHalf) (s : State) : (collMod h f s).clk = s.clk := rfl
@[simp] theorem collMod_tb (h : Half) (f : CollHalf → CollHalf) (s : State) : (collMod h f s).tb = s.tb := rfl
@[simp] theorem collMod_freeSeq (h : Half) (f : CollHalf → CollHalf) (s : State) :
    (collMod h f s).freeSeq = s.freeSeq := rfl
@[simp] theorem collMod_regs (h : Half) (f : CollHalf → CollHalf) (s : State) : (collMod h f s).regs = s.regs := rfl
@[simp] theorem collMod_shadow (h : Half) (f : CollHalf → CollHalf) (s : State) :
    (collMod h f s).shadow = s.shadow := rfl
@[simp] theorem collMod_captured (h : Half) (f : CollHalf → CollHalf) (s : State) :
    (collMod h f s).captured = s.captured := rfl
@[simp] theorem collMod_woLatch (h : Half) (f : CollHalf → CollHalf) (s : State) :
    (collMod h f s).woLatch = s.woLatch := rfl
@[simp] theorem collMod_logs (h : Half) (f : CollHalf → CollHalf) (s : State) : (collMod h f s).logs = s.logs := rfl
@[simp] theorem collMod_results (h : Half) (f : CollHalf → CollHalf) (s : State) :
    (collMod h f s).results = s.results := rfl
@[simp] theorem collMod_strikes (h : Half) (f : CollHalf → CollHalf) (s : State) :
    (collMod h f s).strikes = s.strikes := rfl
@[simp] theorem collMod_out (h : Half) (f : CollHalf → CollHalf) (s : State) : (collMod h f s).out = s.out := rfl
@[simp] theorem collMod_nextPid (h : Half) (f : CollHalf → CollHalf) (s : State) :
    (collMod h f s).nextPid = s.nextPid := rfl
@[simp] theorem collMod_fiu (h : Half) (f : CollHalf → CollHalf) (s : State) : (collMod h f s).fiu = s.fiu := rfl
@[simp] theorem collMod_egr (h : Half) (f : CollHalf → CollHalf) (s : State) : (collMod h f s).egr = s.egr := rfl
@[simp] theorem collMod_tags (h : Half) (f : CollHalf → CollHalf) (s : State) : (collMod h f s).tags = s.tags := rfl
@[simp] theorem collMod_apu (h : Half) (f : CollHalf → CollHalf) (s : State) : (collMod h f s).apu = s.apu := rfl
@[simp] theorem collMod_stnMode (h : Half) (f : CollHalf → CollHalf) (s : State) :
    (collMod h f s).stnMode = s.stnMode := rfl
@[simp] theorem collMod_known (h : Half) (f : CollHalf → CollHalf) (s : State) : (collMod h f s).known = s.known := rfl
@[simp] theorem collMod_cross (h : Half) (f : CollHalf → CollHalf) (s : State) : (collMod h f s).cross = s.cross := rfl
@[simp] theorem collMod_lights (h : Half) (f : CollHalf → CollHalf) (s : State) :
    (collMod h f s).lights = s.lights := rfl
@[simp] theorem collMod_sched (h : Half) (f : CollHalf → CollHalf) (s : State) : (collMod h f s).sched = s.sched := rfl
@[simp] theorem collMod_mail (h : Half) (f : CollHalf → CollHalf) (s : State) : (collMod h f s).mail = s.mail := rfl
@[simp] theorem collMod_easel (h : Half) (f : CollHalf → CollHalf) (s : State) : (collMod h f s).easel = s.easel := rfl
@[simp] theorem collMod_lan (h : Half) (f : CollHalf → CollHalf) (s : State) : (collMod h f s).lan = s.lan := rfl
@[simp] theorem collMod_dp (h : Half) (f : CollHalf → CollHalf) (s : State) : (collMod h f s).dp = s.dp := rfl
@[simp] theorem collMod_nextDp (h : Half) (f : CollHalf → CollHalf) (s : State) :
    (collMod h f s).nextDp = s.nextDp := rfl
@[simp] theorem collMod_fifos (h : Half) (f : CollHalf → CollHalf) (s : State) : (collMod h f s).fifos = s.fifos := rfl
@[simp] theorem collMod_arbs (h : Half) (f : CollHalf → CollHalf) (s : State) : (collMod h f s).arbs = s.arbs := rfl
@[simp] theorem collMod_time (h : Half) (f : CollHalf → CollHalf) (s : State) : (collMod h f s).time = s.time := rfl
@[simp] theorem collMod_jrnl (h : Half) (f : CollHalf → CollHalf) (s : State) : (collMod h f s).jrnl = s.jrnl := rfl
@[simp] theorem collMod_prot (h : Half) (f : CollHalf → CollHalf) (s : State) : (collMod h f s).prot = s.prot := rfl
@[simp] theorem collMod_fw (h : Half) (f : CollHalf → CollHalf) (s : State) : (collMod h f s).fw = s.fw := rfl
@[simp] theorem collMod_stage (h : Half) (f : CollHalf → CollHalf) (s : State) : (collMod h f s).stage = s.stage := rfl
@[simp] theorem collMod_keeper (h : Half) (f : CollHalf → CollHalf) (s : State) :
    (collMod h f s).keeper = s.keeper := rfl
@[simp] theorem collMod_cal (h : Half) (f : CollHalf → CollHalf) (s : State) : (collMod h f s).cal = s.cal := rfl
@[simp] theorem collMod_boot (h : Half) (f : CollHalf → CollHalf) (s : State) : (collMod h f s).boot = s.boot := rfl
@[simp] theorem collMod_record (h : Half) (f : CollHalf → CollHalf) (s : State) :
    (collMod h f s).record = s.record := rfl
@[simp] theorem collMod_objs (h : Half) (f : CollHalf → CollHalf) (s : State) : (collMod h f s).objs = s.objs := rfl
@[simp] theorem collMod_place (h : Half) (f : CollHalf → CollHalf) (s : State) : (collMod h f s).place = s.place := rfl
@[simp] theorem collMod_dikar (h : Half) (f : CollHalf → CollHalf) (s : State) : (collMod h f s).dikar = s.dikar := rfl
@[simp] theorem collMod_tap (h : Half) (f : CollHalf → CollHalf) (s : State) : (collMod h f s).tap = s.tap := rfl

/-! `dkMod` changes dikar. -/

@[simp] theorem dkMod_pending (f : Dikar → Dikar) (s : State) : (dkMod f s).pending = s.pending := rfl
@[simp] theorem dkMod_clk (f : Dikar → Dikar) (s : State) : (dkMod f s).clk = s.clk := rfl
@[simp] theorem dkMod_tb (f : Dikar → Dikar) (s : State) : (dkMod f s).tb = s.tb := rfl
@[simp] theorem dkMod_freeSeq (f : Dikar → Dikar) (s : State) : (dkMod f s).freeSeq = s.freeSeq := rfl
@[simp] theorem dkMod_regs (f : Dikar → Dikar) (s : State) : (dkMod f s).regs = s.regs := rfl
@[simp] theorem dkMod_shadow (f : Dikar → Dikar) (s : State) : (dkMod f s).shadow = s.shadow := rfl
@[simp] theorem dkMod_captured (f : Dikar → Dikar) (s : State) : (dkMod f s).captured = s.captured := rfl
@[simp] theorem dkMod_woLatch (f : Dikar → Dikar) (s : State) : (dkMod f s).woLatch = s.woLatch := rfl
@[simp] theorem dkMod_logs (f : Dikar → Dikar) (s : State) : (dkMod f s).logs = s.logs := rfl
@[simp] theorem dkMod_results (f : Dikar → Dikar) (s : State) : (dkMod f s).results = s.results := rfl
@[simp] theorem dkMod_strikes (f : Dikar → Dikar) (s : State) : (dkMod f s).strikes = s.strikes := rfl
@[simp] theorem dkMod_out (f : Dikar → Dikar) (s : State) : (dkMod f s).out = s.out := rfl
@[simp] theorem dkMod_nextPid (f : Dikar → Dikar) (s : State) : (dkMod f s).nextPid = s.nextPid := rfl
@[simp] theorem dkMod_fiu (f : Dikar → Dikar) (s : State) : (dkMod f s).fiu = s.fiu := rfl
@[simp] theorem dkMod_egr (f : Dikar → Dikar) (s : State) : (dkMod f s).egr = s.egr := rfl
@[simp] theorem dkMod_tags (f : Dikar → Dikar) (s : State) : (dkMod f s).tags = s.tags := rfl
@[simp] theorem dkMod_apu (f : Dikar → Dikar) (s : State) : (dkMod f s).apu = s.apu := rfl
@[simp] theorem dkMod_stnMode (f : Dikar → Dikar) (s : State) : (dkMod f s).stnMode = s.stnMode := rfl
@[simp] theorem dkMod_known (f : Dikar → Dikar) (s : State) : (dkMod f s).known = s.known := rfl
@[simp] theorem dkMod_cross (f : Dikar → Dikar) (s : State) : (dkMod f s).cross = s.cross := rfl
@[simp] theorem dkMod_lights (f : Dikar → Dikar) (s : State) : (dkMod f s).lights = s.lights := rfl
@[simp] theorem dkMod_sched (f : Dikar → Dikar) (s : State) : (dkMod f s).sched = s.sched := rfl
@[simp] theorem dkMod_mail (f : Dikar → Dikar) (s : State) : (dkMod f s).mail = s.mail := rfl
@[simp] theorem dkMod_easel (f : Dikar → Dikar) (s : State) : (dkMod f s).easel = s.easel := rfl
@[simp] theorem dkMod_lan (f : Dikar → Dikar) (s : State) : (dkMod f s).lan = s.lan := rfl
@[simp] theorem dkMod_dp (f : Dikar → Dikar) (s : State) : (dkMod f s).dp = s.dp := rfl
@[simp] theorem dkMod_nextDp (f : Dikar → Dikar) (s : State) : (dkMod f s).nextDp = s.nextDp := rfl
@[simp] theorem dkMod_fifos (f : Dikar → Dikar) (s : State) : (dkMod f s).fifos = s.fifos := rfl
@[simp] theorem dkMod_arbs (f : Dikar → Dikar) (s : State) : (dkMod f s).arbs = s.arbs := rfl
@[simp] theorem dkMod_time (f : Dikar → Dikar) (s : State) : (dkMod f s).time = s.time := rfl
@[simp] theorem dkMod_jrnl (f : Dikar → Dikar) (s : State) : (dkMod f s).jrnl = s.jrnl := rfl
@[simp] theorem dkMod_prot (f : Dikar → Dikar) (s : State) : (dkMod f s).prot = s.prot := rfl
@[simp] theorem dkMod_fw (f : Dikar → Dikar) (s : State) : (dkMod f s).fw = s.fw := rfl
@[simp] theorem dkMod_stage (f : Dikar → Dikar) (s : State) : (dkMod f s).stage = s.stage := rfl
@[simp] theorem dkMod_keeper (f : Dikar → Dikar) (s : State) : (dkMod f s).keeper = s.keeper := rfl
@[simp] theorem dkMod_cal (f : Dikar → Dikar) (s : State) : (dkMod f s).cal = s.cal := rfl
@[simp] theorem dkMod_boot (f : Dikar → Dikar) (s : State) : (dkMod f s).boot = s.boot := rfl
@[simp] theorem dkMod_record (f : Dikar → Dikar) (s : State) : (dkMod f s).record = s.record := rfl
@[simp] theorem dkMod_objs (f : Dikar → Dikar) (s : State) : (dkMod f s).objs = s.objs := rfl
@[simp] theorem dkMod_place (f : Dikar → Dikar) (s : State) : (dkMod f s).place = s.place := rfl
@[simp] theorem dkMod_coll (f : Dikar → Dikar) (s : State) : (dkMod f s).coll = s.coll := rfl
@[simp] theorem dkMod_tap (f : Dikar → Dikar) (s : State) : (dkMod f s).tap = s.tap := rfl

/-! `crossMod` changes cross. -/

@[simp] theorem crossMod_pending (h : Half) (f : Cross → Cross) (s : State) :
    (crossMod h f s).pending = s.pending := rfl
@[simp] theorem crossMod_clk (h : Half) (f : Cross → Cross) (s : State) : (crossMod h f s).clk = s.clk := rfl
@[simp] theorem crossMod_tb (h : Half) (f : Cross → Cross) (s : State) : (crossMod h f s).tb = s.tb := rfl
@[simp] theorem crossMod_freeSeq (h : Half) (f : Cross → Cross) (s : State) :
    (crossMod h f s).freeSeq = s.freeSeq := rfl
@[simp] theorem crossMod_regs (h : Half) (f : Cross → Cross) (s : State) : (crossMod h f s).regs = s.regs := rfl
@[simp] theorem crossMod_shadow (h : Half) (f : Cross → Cross) (s : State) : (crossMod h f s).shadow = s.shadow := rfl
@[simp] theorem crossMod_captured (h : Half) (f : Cross → Cross) (s : State) :
    (crossMod h f s).captured = s.captured := rfl
@[simp] theorem crossMod_woLatch (h : Half) (f : Cross → Cross) (s : State) :
    (crossMod h f s).woLatch = s.woLatch := rfl
@[simp] theorem crossMod_logs (h : Half) (f : Cross → Cross) (s : State) : (crossMod h f s).logs = s.logs := rfl
@[simp] theorem crossMod_results (h : Half) (f : Cross → Cross) (s : State) :
    (crossMod h f s).results = s.results := rfl
@[simp] theorem crossMod_strikes (h : Half) (f : Cross → Cross) (s : State) :
    (crossMod h f s).strikes = s.strikes := rfl
@[simp] theorem crossMod_out (h : Half) (f : Cross → Cross) (s : State) : (crossMod h f s).out = s.out := rfl
@[simp] theorem crossMod_nextPid (h : Half) (f : Cross → Cross) (s : State) :
    (crossMod h f s).nextPid = s.nextPid := rfl
@[simp] theorem crossMod_fiu (h : Half) (f : Cross → Cross) (s : State) : (crossMod h f s).fiu = s.fiu := rfl
@[simp] theorem crossMod_egr (h : Half) (f : Cross → Cross) (s : State) : (crossMod h f s).egr = s.egr := rfl
@[simp] theorem crossMod_tags (h : Half) (f : Cross → Cross) (s : State) : (crossMod h f s).tags = s.tags := rfl
@[simp] theorem crossMod_apu (h : Half) (f : Cross → Cross) (s : State) : (crossMod h f s).apu = s.apu := rfl
@[simp] theorem crossMod_stnMode (h : Half) (f : Cross → Cross) (s : State) :
    (crossMod h f s).stnMode = s.stnMode := rfl
@[simp] theorem crossMod_known (h : Half) (f : Cross → Cross) (s : State) : (crossMod h f s).known = s.known := rfl
@[simp] theorem crossMod_lights (h : Half) (f : Cross → Cross) (s : State) : (crossMod h f s).lights = s.lights := rfl
@[simp] theorem crossMod_sched (h : Half) (f : Cross → Cross) (s : State) : (crossMod h f s).sched = s.sched := rfl
@[simp] theorem crossMod_mail (h : Half) (f : Cross → Cross) (s : State) : (crossMod h f s).mail = s.mail := rfl
@[simp] theorem crossMod_easel (h : Half) (f : Cross → Cross) (s : State) : (crossMod h f s).easel = s.easel := rfl
@[simp] theorem crossMod_lan (h : Half) (f : Cross → Cross) (s : State) : (crossMod h f s).lan = s.lan := rfl
@[simp] theorem crossMod_dp (h : Half) (f : Cross → Cross) (s : State) : (crossMod h f s).dp = s.dp := rfl
@[simp] theorem crossMod_nextDp (h : Half) (f : Cross → Cross) (s : State) : (crossMod h f s).nextDp = s.nextDp := rfl
@[simp] theorem crossMod_fifos (h : Half) (f : Cross → Cross) (s : State) : (crossMod h f s).fifos = s.fifos := rfl
@[simp] theorem crossMod_arbs (h : Half) (f : Cross → Cross) (s : State) : (crossMod h f s).arbs = s.arbs := rfl
@[simp] theorem crossMod_time (h : Half) (f : Cross → Cross) (s : State) : (crossMod h f s).time = s.time := rfl
@[simp] theorem crossMod_jrnl (h : Half) (f : Cross → Cross) (s : State) : (crossMod h f s).jrnl = s.jrnl := rfl
@[simp] theorem crossMod_prot (h : Half) (f : Cross → Cross) (s : State) : (crossMod h f s).prot = s.prot := rfl
@[simp] theorem crossMod_fw (h : Half) (f : Cross → Cross) (s : State) : (crossMod h f s).fw = s.fw := rfl
@[simp] theorem crossMod_stage (h : Half) (f : Cross → Cross) (s : State) : (crossMod h f s).stage = s.stage := rfl
@[simp] theorem crossMod_keeper (h : Half) (f : Cross → Cross) (s : State) : (crossMod h f s).keeper = s.keeper := rfl
@[simp] theorem crossMod_cal (h : Half) (f : Cross → Cross) (s : State) : (crossMod h f s).cal = s.cal := rfl
@[simp] theorem crossMod_boot (h : Half) (f : Cross → Cross) (s : State) : (crossMod h f s).boot = s.boot := rfl
@[simp] theorem crossMod_record (h : Half) (f : Cross → Cross) (s : State) : (crossMod h f s).record = s.record := rfl
@[simp] theorem crossMod_objs (h : Half) (f : Cross → Cross) (s : State) : (crossMod h f s).objs = s.objs := rfl
@[simp] theorem crossMod_place (h : Half) (f : Cross → Cross) (s : State) : (crossMod h f s).place = s.place := rfl
@[simp] theorem crossMod_dikar (h : Half) (f : Cross → Cross) (s : State) : (crossMod h f s).dikar = s.dikar := rfl
@[simp] theorem crossMod_coll (h : Half) (f : Cross → Cross) (s : State) : (crossMod h f s).coll = s.coll := rfl
@[simp] theorem crossMod_tap (h : Half) (f : Cross → Cross) (s : State) : (crossMod h f s).tap = s.tap := rfl

/-! `tapMod` changes tap. -/

@[simp] theorem tapMod_pending (f : Tap → Tap) (s : State) : (tapMod f s).pending = s.pending := rfl
@[simp] theorem tapMod_clk (f : Tap → Tap) (s : State) : (tapMod f s).clk = s.clk := rfl
@[simp] theorem tapMod_tb (f : Tap → Tap) (s : State) : (tapMod f s).tb = s.tb := rfl
@[simp] theorem tapMod_freeSeq (f : Tap → Tap) (s : State) : (tapMod f s).freeSeq = s.freeSeq := rfl
@[simp] theorem tapMod_regs (f : Tap → Tap) (s : State) : (tapMod f s).regs = s.regs := rfl
@[simp] theorem tapMod_shadow (f : Tap → Tap) (s : State) : (tapMod f s).shadow = s.shadow := rfl
@[simp] theorem tapMod_captured (f : Tap → Tap) (s : State) : (tapMod f s).captured = s.captured := rfl
@[simp] theorem tapMod_woLatch (f : Tap → Tap) (s : State) : (tapMod f s).woLatch = s.woLatch := rfl
@[simp] theorem tapMod_logs (f : Tap → Tap) (s : State) : (tapMod f s).logs = s.logs := rfl
@[simp] theorem tapMod_results (f : Tap → Tap) (s : State) : (tapMod f s).results = s.results := rfl
@[simp] theorem tapMod_strikes (f : Tap → Tap) (s : State) : (tapMod f s).strikes = s.strikes := rfl
@[simp] theorem tapMod_out (f : Tap → Tap) (s : State) : (tapMod f s).out = s.out := rfl
@[simp] theorem tapMod_nextPid (f : Tap → Tap) (s : State) : (tapMod f s).nextPid = s.nextPid := rfl
@[simp] theorem tapMod_fiu (f : Tap → Tap) (s : State) : (tapMod f s).fiu = s.fiu := rfl
@[simp] theorem tapMod_egr (f : Tap → Tap) (s : State) : (tapMod f s).egr = s.egr := rfl
@[simp] theorem tapMod_tags (f : Tap → Tap) (s : State) : (tapMod f s).tags = s.tags := rfl
@[simp] theorem tapMod_apu (f : Tap → Tap) (s : State) : (tapMod f s).apu = s.apu := rfl
@[simp] theorem tapMod_stnMode (f : Tap → Tap) (s : State) : (tapMod f s).stnMode = s.stnMode := rfl
@[simp] theorem tapMod_known (f : Tap → Tap) (s : State) : (tapMod f s).known = s.known := rfl
@[simp] theorem tapMod_cross (f : Tap → Tap) (s : State) : (tapMod f s).cross = s.cross := rfl
@[simp] theorem tapMod_lights (f : Tap → Tap) (s : State) : (tapMod f s).lights = s.lights := rfl
@[simp] theorem tapMod_sched (f : Tap → Tap) (s : State) : (tapMod f s).sched = s.sched := rfl
@[simp] theorem tapMod_mail (f : Tap → Tap) (s : State) : (tapMod f s).mail = s.mail := rfl
@[simp] theorem tapMod_easel (f : Tap → Tap) (s : State) : (tapMod f s).easel = s.easel := rfl
@[simp] theorem tapMod_lan (f : Tap → Tap) (s : State) : (tapMod f s).lan = s.lan := rfl
@[simp] theorem tapMod_dp (f : Tap → Tap) (s : State) : (tapMod f s).dp = s.dp := rfl
@[simp] theorem tapMod_nextDp (f : Tap → Tap) (s : State) : (tapMod f s).nextDp = s.nextDp := rfl
@[simp] theorem tapMod_fifos (f : Tap → Tap) (s : State) : (tapMod f s).fifos = s.fifos := rfl
@[simp] theorem tapMod_arbs (f : Tap → Tap) (s : State) : (tapMod f s).arbs = s.arbs := rfl
@[simp] theorem tapMod_time (f : Tap → Tap) (s : State) : (tapMod f s).time = s.time := rfl
@[simp] theorem tapMod_jrnl (f : Tap → Tap) (s : State) : (tapMod f s).jrnl = s.jrnl := rfl
@[simp] theorem tapMod_prot (f : Tap → Tap) (s : State) : (tapMod f s).prot = s.prot := rfl
@[simp] theorem tapMod_fw (f : Tap → Tap) (s : State) : (tapMod f s).fw = s.fw := rfl
@[simp] theorem tapMod_stage (f : Tap → Tap) (s : State) : (tapMod f s).stage = s.stage := rfl
@[simp] theorem tapMod_keeper (f : Tap → Tap) (s : State) : (tapMod f s).keeper = s.keeper := rfl
@[simp] theorem tapMod_cal (f : Tap → Tap) (s : State) : (tapMod f s).cal = s.cal := rfl
@[simp] theorem tapMod_boot (f : Tap → Tap) (s : State) : (tapMod f s).boot = s.boot := rfl
@[simp] theorem tapMod_record (f : Tap → Tap) (s : State) : (tapMod f s).record = s.record := rfl
@[simp] theorem tapMod_objs (f : Tap → Tap) (s : State) : (tapMod f s).objs = s.objs := rfl
@[simp] theorem tapMod_place (f : Tap → Tap) (s : State) : (tapMod f s).place = s.place := rfl
@[simp] theorem tapMod_dikar (f : Tap → Tap) (s : State) : (tapMod f s).dikar = s.dikar := rfl
@[simp] theorem tapMod_coll (f : Tap → Tap) (s : State) : (tapMod f s).coll = s.coll := rfl

/-! `lanMod` changes lan. -/

@[simp] theorem lanMod_pending (f : Lantern → Lantern) (s : State) : (lanMod f s).pending = s.pending := rfl
@[simp] theorem lanMod_clk (f : Lantern → Lantern) (s : State) : (lanMod f s).clk = s.clk := rfl
@[simp] theorem lanMod_tb (f : Lantern → Lantern) (s : State) : (lanMod f s).tb = s.tb := rfl
@[simp] theorem lanMod_freeSeq (f : Lantern → Lantern) (s : State) : (lanMod f s).freeSeq = s.freeSeq := rfl
@[simp] theorem lanMod_regs (f : Lantern → Lantern) (s : State) : (lanMod f s).regs = s.regs := rfl
@[simp] theorem lanMod_shadow (f : Lantern → Lantern) (s : State) : (lanMod f s).shadow = s.shadow := rfl
@[simp] theorem lanMod_captured (f : Lantern → Lantern) (s : State) : (lanMod f s).captured = s.captured := rfl
@[simp] theorem lanMod_woLatch (f : Lantern → Lantern) (s : State) : (lanMod f s).woLatch = s.woLatch := rfl
@[simp] theorem lanMod_logs (f : Lantern → Lantern) (s : State) : (lanMod f s).logs = s.logs := rfl
@[simp] theorem lanMod_results (f : Lantern → Lantern) (s : State) : (lanMod f s).results = s.results := rfl
@[simp] theorem lanMod_strikes (f : Lantern → Lantern) (s : State) : (lanMod f s).strikes = s.strikes := rfl
@[simp] theorem lanMod_out (f : Lantern → Lantern) (s : State) : (lanMod f s).out = s.out := rfl
@[simp] theorem lanMod_nextPid (f : Lantern → Lantern) (s : State) : (lanMod f s).nextPid = s.nextPid := rfl
@[simp] theorem lanMod_fiu (f : Lantern → Lantern) (s : State) : (lanMod f s).fiu = s.fiu := rfl
@[simp] theorem lanMod_egr (f : Lantern → Lantern) (s : State) : (lanMod f s).egr = s.egr := rfl
@[simp] theorem lanMod_tags (f : Lantern → Lantern) (s : State) : (lanMod f s).tags = s.tags := rfl
@[simp] theorem lanMod_apu (f : Lantern → Lantern) (s : State) : (lanMod f s).apu = s.apu := rfl
@[simp] theorem lanMod_stnMode (f : Lantern → Lantern) (s : State) : (lanMod f s).stnMode = s.stnMode := rfl
@[simp] theorem lanMod_known (f : Lantern → Lantern) (s : State) : (lanMod f s).known = s.known := rfl
@[simp] theorem lanMod_cross (f : Lantern → Lantern) (s : State) : (lanMod f s).cross = s.cross := rfl
@[simp] theorem lanMod_lights (f : Lantern → Lantern) (s : State) : (lanMod f s).lights = s.lights := rfl
@[simp] theorem lanMod_sched (f : Lantern → Lantern) (s : State) : (lanMod f s).sched = s.sched := rfl
@[simp] theorem lanMod_mail (f : Lantern → Lantern) (s : State) : (lanMod f s).mail = s.mail := rfl
@[simp] theorem lanMod_easel (f : Lantern → Lantern) (s : State) : (lanMod f s).easel = s.easel := rfl
@[simp] theorem lanMod_dp (f : Lantern → Lantern) (s : State) : (lanMod f s).dp = s.dp := rfl
@[simp] theorem lanMod_nextDp (f : Lantern → Lantern) (s : State) : (lanMod f s).nextDp = s.nextDp := rfl
@[simp] theorem lanMod_fifos (f : Lantern → Lantern) (s : State) : (lanMod f s).fifos = s.fifos := rfl
@[simp] theorem lanMod_arbs (f : Lantern → Lantern) (s : State) : (lanMod f s).arbs = s.arbs := rfl
@[simp] theorem lanMod_time (f : Lantern → Lantern) (s : State) : (lanMod f s).time = s.time := rfl
@[simp] theorem lanMod_jrnl (f : Lantern → Lantern) (s : State) : (lanMod f s).jrnl = s.jrnl := rfl
@[simp] theorem lanMod_prot (f : Lantern → Lantern) (s : State) : (lanMod f s).prot = s.prot := rfl
@[simp] theorem lanMod_fw (f : Lantern → Lantern) (s : State) : (lanMod f s).fw = s.fw := rfl
@[simp] theorem lanMod_stage (f : Lantern → Lantern) (s : State) : (lanMod f s).stage = s.stage := rfl
@[simp] theorem lanMod_keeper (f : Lantern → Lantern) (s : State) : (lanMod f s).keeper = s.keeper := rfl
@[simp] theorem lanMod_cal (f : Lantern → Lantern) (s : State) : (lanMod f s).cal = s.cal := rfl
@[simp] theorem lanMod_boot (f : Lantern → Lantern) (s : State) : (lanMod f s).boot = s.boot := rfl
@[simp] theorem lanMod_record (f : Lantern → Lantern) (s : State) : (lanMod f s).record = s.record := rfl
@[simp] theorem lanMod_objs (f : Lantern → Lantern) (s : State) : (lanMod f s).objs = s.objs := rfl
@[simp] theorem lanMod_place (f : Lantern → Lantern) (s : State) : (lanMod f s).place = s.place := rfl
@[simp] theorem lanMod_dikar (f : Lantern → Lantern) (s : State) : (lanMod f s).dikar = s.dikar := rfl
@[simp] theorem lanMod_coll (f : Lantern → Lantern) (s : State) : (lanMod f s).coll = s.coll := rfl
@[simp] theorem lanMod_tap (f : Lantern → Lantern) (s : State) : (lanMod f s).tap = s.tap := rfl

/-! `schMod` changes sched. -/

@[simp] theorem schMod_pending (h : Half) (f : Sched → Sched) (s : State) : (schMod h f s).pending = s.pending := rfl
@[simp] theorem schMod_clk (h : Half) (f : Sched → Sched) (s : State) : (schMod h f s).clk = s.clk := rfl
@[simp] theorem schMod_tb (h : Half) (f : Sched → Sched) (s : State) : (schMod h f s).tb = s.tb := rfl
@[simp] theorem schMod_freeSeq (h : Half) (f : Sched → Sched) (s : State) : (schMod h f s).freeSeq = s.freeSeq := rfl
@[simp] theorem schMod_regs (h : Half) (f : Sched → Sched) (s : State) : (schMod h f s).regs = s.regs := rfl
@[simp] theorem schMod_shadow (h : Half) (f : Sched → Sched) (s : State) : (schMod h f s).shadow = s.shadow := rfl
@[simp] theorem schMod_captured (h : Half) (f : Sched → Sched) (s : State) : (schMod h f s).captured = s.captured := rfl
@[simp] theorem schMod_woLatch (h : Half) (f : Sched → Sched) (s : State) : (schMod h f s).woLatch = s.woLatch := rfl
@[simp] theorem schMod_logs (h : Half) (f : Sched → Sched) (s : State) : (schMod h f s).logs = s.logs := rfl
@[simp] theorem schMod_results (h : Half) (f : Sched → Sched) (s : State) : (schMod h f s).results = s.results := rfl
@[simp] theorem schMod_strikes (h : Half) (f : Sched → Sched) (s : State) : (schMod h f s).strikes = s.strikes := rfl
@[simp] theorem schMod_out (h : Half) (f : Sched → Sched) (s : State) : (schMod h f s).out = s.out := rfl
@[simp] theorem schMod_nextPid (h : Half) (f : Sched → Sched) (s : State) : (schMod h f s).nextPid = s.nextPid := rfl
@[simp] theorem schMod_fiu (h : Half) (f : Sched → Sched) (s : State) : (schMod h f s).fiu = s.fiu := rfl
@[simp] theorem schMod_egr (h : Half) (f : Sched → Sched) (s : State) : (schMod h f s).egr = s.egr := rfl
@[simp] theorem schMod_tags (h : Half) (f : Sched → Sched) (s : State) : (schMod h f s).tags = s.tags := rfl
@[simp] theorem schMod_apu (h : Half) (f : Sched → Sched) (s : State) : (schMod h f s).apu = s.apu := rfl
@[simp] theorem schMod_stnMode (h : Half) (f : Sched → Sched) (s : State) : (schMod h f s).stnMode = s.stnMode := rfl
@[simp] theorem schMod_known (h : Half) (f : Sched → Sched) (s : State) : (schMod h f s).known = s.known := rfl
@[simp] theorem schMod_cross (h : Half) (f : Sched → Sched) (s : State) : (schMod h f s).cross = s.cross := rfl
@[simp] theorem schMod_lights (h : Half) (f : Sched → Sched) (s : State) : (schMod h f s).lights = s.lights := rfl
@[simp] theorem schMod_mail (h : Half) (f : Sched → Sched) (s : State) : (schMod h f s).mail = s.mail := rfl
@[simp] theorem schMod_easel (h : Half) (f : Sched → Sched) (s : State) : (schMod h f s).easel = s.easel := rfl
@[simp] theorem schMod_lan (h : Half) (f : Sched → Sched) (s : State) : (schMod h f s).lan = s.lan := rfl
@[simp] theorem schMod_dp (h : Half) (f : Sched → Sched) (s : State) : (schMod h f s).dp = s.dp := rfl
@[simp] theorem schMod_nextDp (h : Half) (f : Sched → Sched) (s : State) : (schMod h f s).nextDp = s.nextDp := rfl
@[simp] theorem schMod_fifos (h : Half) (f : Sched → Sched) (s : State) : (schMod h f s).fifos = s.fifos := rfl
@[simp] theorem schMod_arbs (h : Half) (f : Sched → Sched) (s : State) : (schMod h f s).arbs = s.arbs := rfl
@[simp] theorem schMod_time (h : Half) (f : Sched → Sched) (s : State) : (schMod h f s).time = s.time := rfl
@[simp] theorem schMod_jrnl (h : Half) (f : Sched → Sched) (s : State) : (schMod h f s).jrnl = s.jrnl := rfl
@[simp] theorem schMod_prot (h : Half) (f : Sched → Sched) (s : State) : (schMod h f s).prot = s.prot := rfl
@[simp] theorem schMod_fw (h : Half) (f : Sched → Sched) (s : State) : (schMod h f s).fw = s.fw := rfl
@[simp] theorem schMod_stage (h : Half) (f : Sched → Sched) (s : State) : (schMod h f s).stage = s.stage := rfl
@[simp] theorem schMod_keeper (h : Half) (f : Sched → Sched) (s : State) : (schMod h f s).keeper = s.keeper := rfl
@[simp] theorem schMod_cal (h : Half) (f : Sched → Sched) (s : State) : (schMod h f s).cal = s.cal := rfl
@[simp] theorem schMod_boot (h : Half) (f : Sched → Sched) (s : State) : (schMod h f s).boot = s.boot := rfl
@[simp] theorem schMod_record (h : Half) (f : Sched → Sched) (s : State) : (schMod h f s).record = s.record := rfl
@[simp] theorem schMod_objs (h : Half) (f : Sched → Sched) (s : State) : (schMod h f s).objs = s.objs := rfl
@[simp] theorem schMod_place (h : Half) (f : Sched → Sched) (s : State) : (schMod h f s).place = s.place := rfl
@[simp] theorem schMod_dikar (h : Half) (f : Sched → Sched) (s : State) : (schMod h f s).dikar = s.dikar := rfl
@[simp] theorem schMod_coll (h : Half) (f : Sched → Sched) (s : State) : (schMod h f s).coll = s.coll := rfl
@[simp] theorem schMod_tap (h : Half) (f : Sched → Sched) (s : State) : (schMod h f s).tap = s.tap := rfl

/-! `plMod` changes place. -/

@[simp] theorem plMod_pending (h : Half) (f : PlaceHalf → PlaceHalf) (s : State) :
    (plMod h f s).pending = s.pending := rfl
@[simp] theorem plMod_clk (h : Half) (f : PlaceHalf → PlaceHalf) (s : State) : (plMod h f s).clk = s.clk := rfl
@[simp] theorem plMod_tb (h : Half) (f : PlaceHalf → PlaceHalf) (s : State) : (plMod h f s).tb = s.tb := rfl
@[simp] theorem plMod_freeSeq (h : Half) (f : PlaceHalf → PlaceHalf) (s : State) :
    (plMod h f s).freeSeq = s.freeSeq := rfl
@[simp] theorem plMod_regs (h : Half) (f : PlaceHalf → PlaceHalf) (s : State) : (plMod h f s).regs = s.regs := rfl
@[simp] theorem plMod_shadow (h : Half) (f : PlaceHalf → PlaceHalf) (s : State) : (plMod h f s).shadow = s.shadow := rfl
@[simp] theorem plMod_captured (h : Half) (f : PlaceHalf → PlaceHalf) (s : State) :
    (plMod h f s).captured = s.captured := rfl
@[simp] theorem plMod_woLatch (h : Half) (f : PlaceHalf → PlaceHalf) (s : State) :
    (plMod h f s).woLatch = s.woLatch := rfl
@[simp] theorem plMod_logs (h : Half) (f : PlaceHalf → PlaceHalf) (s : State) : (plMod h f s).logs = s.logs := rfl
@[simp] theorem plMod_results (h : Half) (f : PlaceHalf → PlaceHalf) (s : State) :
    (plMod h f s).results = s.results := rfl
@[simp] theorem plMod_strikes (h : Half) (f : PlaceHalf → PlaceHalf) (s : State) :
    (plMod h f s).strikes = s.strikes := rfl
@[simp] theorem plMod_out (h : Half) (f : PlaceHalf → PlaceHalf) (s : State) : (plMod h f s).out = s.out := rfl
@[simp] theorem plMod_nextPid (h : Half) (f : PlaceHalf → PlaceHalf) (s : State) :
    (plMod h f s).nextPid = s.nextPid := rfl
@[simp] theorem plMod_fiu (h : Half) (f : PlaceHalf → PlaceHalf) (s : State) : (plMod h f s).fiu = s.fiu := rfl
@[simp] theorem plMod_egr (h : Half) (f : PlaceHalf → PlaceHalf) (s : State) : (plMod h f s).egr = s.egr := rfl
@[simp] theorem plMod_tags (h : Half) (f : PlaceHalf → PlaceHalf) (s : State) : (plMod h f s).tags = s.tags := rfl
@[simp] theorem plMod_apu (h : Half) (f : PlaceHalf → PlaceHalf) (s : State) : (plMod h f s).apu = s.apu := rfl
@[simp] theorem plMod_stnMode (h : Half) (f : PlaceHalf → PlaceHalf) (s : State) :
    (plMod h f s).stnMode = s.stnMode := rfl
@[simp] theorem plMod_known (h : Half) (f : PlaceHalf → PlaceHalf) (s : State) : (plMod h f s).known = s.known := rfl
@[simp] theorem plMod_cross (h : Half) (f : PlaceHalf → PlaceHalf) (s : State) : (plMod h f s).cross = s.cross := rfl
@[simp] theorem plMod_lights (h : Half) (f : PlaceHalf → PlaceHalf) (s : State) : (plMod h f s).lights = s.lights := rfl
@[simp] theorem plMod_sched (h : Half) (f : PlaceHalf → PlaceHalf) (s : State) : (plMod h f s).sched = s.sched := rfl
@[simp] theorem plMod_mail (h : Half) (f : PlaceHalf → PlaceHalf) (s : State) : (plMod h f s).mail = s.mail := rfl
@[simp] theorem plMod_easel (h : Half) (f : PlaceHalf → PlaceHalf) (s : State) : (plMod h f s).easel = s.easel := rfl
@[simp] theorem plMod_lan (h : Half) (f : PlaceHalf → PlaceHalf) (s : State) : (plMod h f s).lan = s.lan := rfl
@[simp] theorem plMod_dp (h : Half) (f : PlaceHalf → PlaceHalf) (s : State) : (plMod h f s).dp = s.dp := rfl
@[simp] theorem plMod_nextDp (h : Half) (f : PlaceHalf → PlaceHalf) (s : State) : (plMod h f s).nextDp = s.nextDp := rfl
@[simp] theorem plMod_fifos (h : Half) (f : PlaceHalf → PlaceHalf) (s : State) : (plMod h f s).fifos = s.fifos := rfl
@[simp] theorem plMod_arbs (h : Half) (f : PlaceHalf → PlaceHalf) (s : State) : (plMod h f s).arbs = s.arbs := rfl
@[simp] theorem plMod_time (h : Half) (f : PlaceHalf → PlaceHalf) (s : State) : (plMod h f s).time = s.time := rfl
@[simp] theorem plMod_jrnl (h : Half) (f : PlaceHalf → PlaceHalf) (s : State) : (plMod h f s).jrnl = s.jrnl := rfl
@[simp] theorem plMod_prot (h : Half) (f : PlaceHalf → PlaceHalf) (s : State) : (plMod h f s).prot = s.prot := rfl
@[simp] theorem plMod_fw (h : Half) (f : PlaceHalf → PlaceHalf) (s : State) : (plMod h f s).fw = s.fw := rfl
@[simp] theorem plMod_stage (h : Half) (f : PlaceHalf → PlaceHalf) (s : State) : (plMod h f s).stage = s.stage := rfl
@[simp] theorem plMod_keeper (h : Half) (f : PlaceHalf → PlaceHalf) (s : State) : (plMod h f s).keeper = s.keeper := rfl
@[simp] theorem plMod_cal (h : Half) (f : PlaceHalf → PlaceHalf) (s : State) : (plMod h f s).cal = s.cal := rfl
@[simp] theorem plMod_boot (h : Half) (f : PlaceHalf → PlaceHalf) (s : State) : (plMod h f s).boot = s.boot := rfl
@[simp] theorem plMod_record (h : Half) (f : PlaceHalf → PlaceHalf) (s : State) : (plMod h f s).record = s.record := rfl
@[simp] theorem plMod_objs (h : Half) (f : PlaceHalf → PlaceHalf) (s : State) : (plMod h f s).objs = s.objs := rfl
@[simp] theorem plMod_dikar (h : Half) (f : PlaceHalf → PlaceHalf) (s : State) : (plMod h f s).dikar = s.dikar := rfl
@[simp] theorem plMod_coll (h : Half) (f : PlaceHalf → PlaceHalf) (s : State) : (plMod h f s).coll = s.coll := rfl
@[simp] theorem plMod_tap (h : Half) (f : PlaceHalf → PlaceHalf) (s : State) : (plMod h f s).tap = s.tap := rfl

/-! `objMod` changes objs. -/

@[simp] theorem objMod_pending (f : Objects → Objects) (s : State) : (objMod f s).pending = s.pending := rfl
@[simp] theorem objMod_clk (f : Objects → Objects) (s : State) : (objMod f s).clk = s.clk := rfl
@[simp] theorem objMod_tb (f : Objects → Objects) (s : State) : (objMod f s).tb = s.tb := rfl
@[simp] theorem objMod_freeSeq (f : Objects → Objects) (s : State) : (objMod f s).freeSeq = s.freeSeq := rfl
@[simp] theorem objMod_regs (f : Objects → Objects) (s : State) : (objMod f s).regs = s.regs := rfl
@[simp] theorem objMod_shadow (f : Objects → Objects) (s : State) : (objMod f s).shadow = s.shadow := rfl
@[simp] theorem objMod_captured (f : Objects → Objects) (s : State) : (objMod f s).captured = s.captured := rfl
@[simp] theorem objMod_woLatch (f : Objects → Objects) (s : State) : (objMod f s).woLatch = s.woLatch := rfl
@[simp] theorem objMod_logs (f : Objects → Objects) (s : State) : (objMod f s).logs = s.logs := rfl
@[simp] theorem objMod_results (f : Objects → Objects) (s : State) : (objMod f s).results = s.results := rfl
@[simp] theorem objMod_strikes (f : Objects → Objects) (s : State) : (objMod f s).strikes = s.strikes := rfl
@[simp] theorem objMod_out (f : Objects → Objects) (s : State) : (objMod f s).out = s.out := rfl
@[simp] theorem objMod_nextPid (f : Objects → Objects) (s : State) : (objMod f s).nextPid = s.nextPid := rfl
@[simp] theorem objMod_fiu (f : Objects → Objects) (s : State) : (objMod f s).fiu = s.fiu := rfl
@[simp] theorem objMod_egr (f : Objects → Objects) (s : State) : (objMod f s).egr = s.egr := rfl
@[simp] theorem objMod_tags (f : Objects → Objects) (s : State) : (objMod f s).tags = s.tags := rfl
@[simp] theorem objMod_apu (f : Objects → Objects) (s : State) : (objMod f s).apu = s.apu := rfl
@[simp] theorem objMod_stnMode (f : Objects → Objects) (s : State) : (objMod f s).stnMode = s.stnMode := rfl
@[simp] theorem objMod_known (f : Objects → Objects) (s : State) : (objMod f s).known = s.known := rfl
@[simp] theorem objMod_cross (f : Objects → Objects) (s : State) : (objMod f s).cross = s.cross := rfl
@[simp] theorem objMod_lights (f : Objects → Objects) (s : State) : (objMod f s).lights = s.lights := rfl
@[simp] theorem objMod_sched (f : Objects → Objects) (s : State) : (objMod f s).sched = s.sched := rfl
@[simp] theorem objMod_mail (f : Objects → Objects) (s : State) : (objMod f s).mail = s.mail := rfl
@[simp] theorem objMod_easel (f : Objects → Objects) (s : State) : (objMod f s).easel = s.easel := rfl
@[simp] theorem objMod_lan (f : Objects → Objects) (s : State) : (objMod f s).lan = s.lan := rfl
@[simp] theorem objMod_dp (f : Objects → Objects) (s : State) : (objMod f s).dp = s.dp := rfl
@[simp] theorem objMod_nextDp (f : Objects → Objects) (s : State) : (objMod f s).nextDp = s.nextDp := rfl
@[simp] theorem objMod_fifos (f : Objects → Objects) (s : State) : (objMod f s).fifos = s.fifos := rfl
@[simp] theorem objMod_arbs (f : Objects → Objects) (s : State) : (objMod f s).arbs = s.arbs := rfl
@[simp] theorem objMod_time (f : Objects → Objects) (s : State) : (objMod f s).time = s.time := rfl
@[simp] theorem objMod_jrnl (f : Objects → Objects) (s : State) : (objMod f s).jrnl = s.jrnl := rfl
@[simp] theorem objMod_prot (f : Objects → Objects) (s : State) : (objMod f s).prot = s.prot := rfl
@[simp] theorem objMod_fw (f : Objects → Objects) (s : State) : (objMod f s).fw = s.fw := rfl
@[simp] theorem objMod_stage (f : Objects → Objects) (s : State) : (objMod f s).stage = s.stage := rfl
@[simp] theorem objMod_keeper (f : Objects → Objects) (s : State) : (objMod f s).keeper = s.keeper := rfl
@[simp] theorem objMod_cal (f : Objects → Objects) (s : State) : (objMod f s).cal = s.cal := rfl
@[simp] theorem objMod_boot (f : Objects → Objects) (s : State) : (objMod f s).boot = s.boot := rfl
@[simp] theorem objMod_record (f : Objects → Objects) (s : State) : (objMod f s).record = s.record := rfl
@[simp] theorem objMod_place (f : Objects → Objects) (s : State) : (objMod f s).place = s.place := rfl
@[simp] theorem objMod_dikar (f : Objects → Objects) (s : State) : (objMod f s).dikar = s.dikar := rfl
@[simp] theorem objMod_coll (f : Objects → Objects) (s : State) : (objMod f s).coll = s.coll := rfl
@[simp] theorem objMod_tap (f : Objects → Objects) (s : State) : (objMod f s).tap = s.tap := rfl

/-! `protMod` changes prot. -/

@[simp] theorem protMod_pending (f : Prot → Prot) (s : State) : (protMod f s).pending = s.pending := rfl
@[simp] theorem protMod_clk (f : Prot → Prot) (s : State) : (protMod f s).clk = s.clk := rfl
@[simp] theorem protMod_tb (f : Prot → Prot) (s : State) : (protMod f s).tb = s.tb := rfl
@[simp] theorem protMod_freeSeq (f : Prot → Prot) (s : State) : (protMod f s).freeSeq = s.freeSeq := rfl
@[simp] theorem protMod_regs (f : Prot → Prot) (s : State) : (protMod f s).regs = s.regs := rfl
@[simp] theorem protMod_shadow (f : Prot → Prot) (s : State) : (protMod f s).shadow = s.shadow := rfl
@[simp] theorem protMod_captured (f : Prot → Prot) (s : State) : (protMod f s).captured = s.captured := rfl
@[simp] theorem protMod_woLatch (f : Prot → Prot) (s : State) : (protMod f s).woLatch = s.woLatch := rfl
@[simp] theorem protMod_logs (f : Prot → Prot) (s : State) : (protMod f s).logs = s.logs := rfl
@[simp] theorem protMod_results (f : Prot → Prot) (s : State) : (protMod f s).results = s.results := rfl
@[simp] theorem protMod_strikes (f : Prot → Prot) (s : State) : (protMod f s).strikes = s.strikes := rfl
@[simp] theorem protMod_out (f : Prot → Prot) (s : State) : (protMod f s).out = s.out := rfl
@[simp] theorem protMod_nextPid (f : Prot → Prot) (s : State) : (protMod f s).nextPid = s.nextPid := rfl
@[simp] theorem protMod_fiu (f : Prot → Prot) (s : State) : (protMod f s).fiu = s.fiu := rfl
@[simp] theorem protMod_egr (f : Prot → Prot) (s : State) : (protMod f s).egr = s.egr := rfl
@[simp] theorem protMod_tags (f : Prot → Prot) (s : State) : (protMod f s).tags = s.tags := rfl
@[simp] theorem protMod_apu (f : Prot → Prot) (s : State) : (protMod f s).apu = s.apu := rfl
@[simp] theorem protMod_stnMode (f : Prot → Prot) (s : State) : (protMod f s).stnMode = s.stnMode := rfl
@[simp] theorem protMod_known (f : Prot → Prot) (s : State) : (protMod f s).known = s.known := rfl
@[simp] theorem protMod_cross (f : Prot → Prot) (s : State) : (protMod f s).cross = s.cross := rfl
@[simp] theorem protMod_lights (f : Prot → Prot) (s : State) : (protMod f s).lights = s.lights := rfl
@[simp] theorem protMod_sched (f : Prot → Prot) (s : State) : (protMod f s).sched = s.sched := rfl
@[simp] theorem protMod_mail (f : Prot → Prot) (s : State) : (protMod f s).mail = s.mail := rfl
@[simp] theorem protMod_easel (f : Prot → Prot) (s : State) : (protMod f s).easel = s.easel := rfl
@[simp] theorem protMod_lan (f : Prot → Prot) (s : State) : (protMod f s).lan = s.lan := rfl
@[simp] theorem protMod_dp (f : Prot → Prot) (s : State) : (protMod f s).dp = s.dp := rfl
@[simp] theorem protMod_nextDp (f : Prot → Prot) (s : State) : (protMod f s).nextDp = s.nextDp := rfl
@[simp] theorem protMod_fifos (f : Prot → Prot) (s : State) : (protMod f s).fifos = s.fifos := rfl
@[simp] theorem protMod_arbs (f : Prot → Prot) (s : State) : (protMod f s).arbs = s.arbs := rfl
@[simp] theorem protMod_time (f : Prot → Prot) (s : State) : (protMod f s).time = s.time := rfl
@[simp] theorem protMod_jrnl (f : Prot → Prot) (s : State) : (protMod f s).jrnl = s.jrnl := rfl
@[simp] theorem protMod_fw (f : Prot → Prot) (s : State) : (protMod f s).fw = s.fw := rfl
@[simp] theorem protMod_stage (f : Prot → Prot) (s : State) : (protMod f s).stage = s.stage := rfl
@[simp] theorem protMod_keeper (f : Prot → Prot) (s : State) : (protMod f s).keeper = s.keeper := rfl
@[simp] theorem protMod_cal (f : Prot → Prot) (s : State) : (protMod f s).cal = s.cal := rfl
@[simp] theorem protMod_boot (f : Prot → Prot) (s : State) : (protMod f s).boot = s.boot := rfl
@[simp] theorem protMod_record (f : Prot → Prot) (s : State) : (protMod f s).record = s.record := rfl
@[simp] theorem protMod_objs (f : Prot → Prot) (s : State) : (protMod f s).objs = s.objs := rfl
@[simp] theorem protMod_place (f : Prot → Prot) (s : State) : (protMod f s).place = s.place := rfl
@[simp] theorem protMod_dikar (f : Prot → Prot) (s : State) : (protMod f s).dikar = s.dikar := rfl
@[simp] theorem protMod_coll (f : Prot → Prot) (s : State) : (protMod f s).coll = s.coll := rfl
@[simp] theorem protMod_tap (f : Prot → Prot) (s : State) : (protMod f s).tap = s.tap := rfl

/-! `timeMod` changes time. -/

@[simp] theorem timeMod_pending (f : TimeRef → TimeRef) (s : State) : (timeMod f s).pending = s.pending := rfl
@[simp] theorem timeMod_clk (f : TimeRef → TimeRef) (s : State) : (timeMod f s).clk = s.clk := rfl
@[simp] theorem timeMod_tb (f : TimeRef → TimeRef) (s : State) : (timeMod f s).tb = s.tb := rfl
@[simp] theorem timeMod_freeSeq (f : TimeRef → TimeRef) (s : State) : (timeMod f s).freeSeq = s.freeSeq := rfl
@[simp] theorem timeMod_regs (f : TimeRef → TimeRef) (s : State) : (timeMod f s).regs = s.regs := rfl
@[simp] theorem timeMod_shadow (f : TimeRef → TimeRef) (s : State) : (timeMod f s).shadow = s.shadow := rfl
@[simp] theorem timeMod_captured (f : TimeRef → TimeRef) (s : State) : (timeMod f s).captured = s.captured := rfl
@[simp] theorem timeMod_woLatch (f : TimeRef → TimeRef) (s : State) : (timeMod f s).woLatch = s.woLatch := rfl
@[simp] theorem timeMod_logs (f : TimeRef → TimeRef) (s : State) : (timeMod f s).logs = s.logs := rfl
@[simp] theorem timeMod_results (f : TimeRef → TimeRef) (s : State) : (timeMod f s).results = s.results := rfl
@[simp] theorem timeMod_strikes (f : TimeRef → TimeRef) (s : State) : (timeMod f s).strikes = s.strikes := rfl
@[simp] theorem timeMod_out (f : TimeRef → TimeRef) (s : State) : (timeMod f s).out = s.out := rfl
@[simp] theorem timeMod_nextPid (f : TimeRef → TimeRef) (s : State) : (timeMod f s).nextPid = s.nextPid := rfl
@[simp] theorem timeMod_fiu (f : TimeRef → TimeRef) (s : State) : (timeMod f s).fiu = s.fiu := rfl
@[simp] theorem timeMod_egr (f : TimeRef → TimeRef) (s : State) : (timeMod f s).egr = s.egr := rfl
@[simp] theorem timeMod_tags (f : TimeRef → TimeRef) (s : State) : (timeMod f s).tags = s.tags := rfl
@[simp] theorem timeMod_apu (f : TimeRef → TimeRef) (s : State) : (timeMod f s).apu = s.apu := rfl
@[simp] theorem timeMod_stnMode (f : TimeRef → TimeRef) (s : State) : (timeMod f s).stnMode = s.stnMode := rfl
@[simp] theorem timeMod_known (f : TimeRef → TimeRef) (s : State) : (timeMod f s).known = s.known := rfl
@[simp] theorem timeMod_cross (f : TimeRef → TimeRef) (s : State) : (timeMod f s).cross = s.cross := rfl
@[simp] theorem timeMod_lights (f : TimeRef → TimeRef) (s : State) : (timeMod f s).lights = s.lights := rfl
@[simp] theorem timeMod_sched (f : TimeRef → TimeRef) (s : State) : (timeMod f s).sched = s.sched := rfl
@[simp] theorem timeMod_mail (f : TimeRef → TimeRef) (s : State) : (timeMod f s).mail = s.mail := rfl
@[simp] theorem timeMod_easel (f : TimeRef → TimeRef) (s : State) : (timeMod f s).easel = s.easel := rfl
@[simp] theorem timeMod_lan (f : TimeRef → TimeRef) (s : State) : (timeMod f s).lan = s.lan := rfl
@[simp] theorem timeMod_dp (f : TimeRef → TimeRef) (s : State) : (timeMod f s).dp = s.dp := rfl
@[simp] theorem timeMod_nextDp (f : TimeRef → TimeRef) (s : State) : (timeMod f s).nextDp = s.nextDp := rfl
@[simp] theorem timeMod_fifos (f : TimeRef → TimeRef) (s : State) : (timeMod f s).fifos = s.fifos := rfl
@[simp] theorem timeMod_arbs (f : TimeRef → TimeRef) (s : State) : (timeMod f s).arbs = s.arbs := rfl
@[simp] theorem timeMod_jrnl (f : TimeRef → TimeRef) (s : State) : (timeMod f s).jrnl = s.jrnl := rfl
@[simp] theorem timeMod_prot (f : TimeRef → TimeRef) (s : State) : (timeMod f s).prot = s.prot := rfl
@[simp] theorem timeMod_fw (f : TimeRef → TimeRef) (s : State) : (timeMod f s).fw = s.fw := rfl
@[simp] theorem timeMod_stage (f : TimeRef → TimeRef) (s : State) : (timeMod f s).stage = s.stage := rfl
@[simp] theorem timeMod_keeper (f : TimeRef → TimeRef) (s : State) : (timeMod f s).keeper = s.keeper := rfl
@[simp] theorem timeMod_cal (f : TimeRef → TimeRef) (s : State) : (timeMod f s).cal = s.cal := rfl
@[simp] theorem timeMod_boot (f : TimeRef → TimeRef) (s : State) : (timeMod f s).boot = s.boot := rfl
@[simp] theorem timeMod_record (f : TimeRef → TimeRef) (s : State) : (timeMod f s).record = s.record := rfl
@[simp] theorem timeMod_objs (f : TimeRef → TimeRef) (s : State) : (timeMod f s).objs = s.objs := rfl
@[simp] theorem timeMod_place (f : TimeRef → TimeRef) (s : State) : (timeMod f s).place = s.place := rfl
@[simp] theorem timeMod_dikar (f : TimeRef → TimeRef) (s : State) : (timeMod f s).dikar = s.dikar := rfl
@[simp] theorem timeMod_coll (f : TimeRef → TimeRef) (s : State) : (timeMod f s).coll = s.coll := rfl
@[simp] theorem timeMod_tap (f : TimeRef → TimeRef) (s : State) : (timeMod f s).tap = s.tap := rfl

/-! `apuMod` changes apu. -/

@[simp] theorem apuMod_pending (n : Nat) (f : ApuPort → ApuPort) (s : State) : (apuMod n f s).pending = s.pending := rfl
@[simp] theorem apuMod_clk (n : Nat) (f : ApuPort → ApuPort) (s : State) : (apuMod n f s).clk = s.clk := rfl
@[simp] theorem apuMod_tb (n : Nat) (f : ApuPort → ApuPort) (s : State) : (apuMod n f s).tb = s.tb := rfl
@[simp] theorem apuMod_freeSeq (n : Nat) (f : ApuPort → ApuPort) (s : State) : (apuMod n f s).freeSeq = s.freeSeq := rfl
@[simp] theorem apuMod_regs (n : Nat) (f : ApuPort → ApuPort) (s : State) : (apuMod n f s).regs = s.regs := rfl
@[simp] theorem apuMod_shadow (n : Nat) (f : ApuPort → ApuPort) (s : State) : (apuMod n f s).shadow = s.shadow := rfl
@[simp] theorem apuMod_captured (n : Nat) (f : ApuPort → ApuPort) (s : State) :
    (apuMod n f s).captured = s.captured := rfl
@[simp] theorem apuMod_woLatch (n : Nat) (f : ApuPort → ApuPort) (s : State) : (apuMod n f s).woLatch = s.woLatch := rfl
@[simp] theorem apuMod_logs (n : Nat) (f : ApuPort → ApuPort) (s : State) : (apuMod n f s).logs = s.logs := rfl
@[simp] theorem apuMod_results (n : Nat) (f : ApuPort → ApuPort) (s : State) : (apuMod n f s).results = s.results := rfl
@[simp] theorem apuMod_strikes (n : Nat) (f : ApuPort → ApuPort) (s : State) : (apuMod n f s).strikes = s.strikes := rfl
@[simp] theorem apuMod_out (n : Nat) (f : ApuPort → ApuPort) (s : State) : (apuMod n f s).out = s.out := rfl
@[simp] theorem apuMod_nextPid (n : Nat) (f : ApuPort → ApuPort) (s : State) : (apuMod n f s).nextPid = s.nextPid := rfl
@[simp] theorem apuMod_fiu (n : Nat) (f : ApuPort → ApuPort) (s : State) : (apuMod n f s).fiu = s.fiu := rfl
@[simp] theorem apuMod_egr (n : Nat) (f : ApuPort → ApuPort) (s : State) : (apuMod n f s).egr = s.egr := rfl
@[simp] theorem apuMod_tags (n : Nat) (f : ApuPort → ApuPort) (s : State) : (apuMod n f s).tags = s.tags := rfl
@[simp] theorem apuMod_stnMode (n : Nat) (f : ApuPort → ApuPort) (s : State) : (apuMod n f s).stnMode = s.stnMode := rfl
@[simp] theorem apuMod_known (n : Nat) (f : ApuPort → ApuPort) (s : State) : (apuMod n f s).known = s.known := rfl
@[simp] theorem apuMod_cross (n : Nat) (f : ApuPort → ApuPort) (s : State) : (apuMod n f s).cross = s.cross := rfl
@[simp] theorem apuMod_lights (n : Nat) (f : ApuPort → ApuPort) (s : State) : (apuMod n f s).lights = s.lights := rfl
@[simp] theorem apuMod_sched (n : Nat) (f : ApuPort → ApuPort) (s : State) : (apuMod n f s).sched = s.sched := rfl
@[simp] theorem apuMod_mail (n : Nat) (f : ApuPort → ApuPort) (s : State) : (apuMod n f s).mail = s.mail := rfl
@[simp] theorem apuMod_easel (n : Nat) (f : ApuPort → ApuPort) (s : State) : (apuMod n f s).easel = s.easel := rfl
@[simp] theorem apuMod_lan (n : Nat) (f : ApuPort → ApuPort) (s : State) : (apuMod n f s).lan = s.lan := rfl
@[simp] theorem apuMod_dp (n : Nat) (f : ApuPort → ApuPort) (s : State) : (apuMod n f s).dp = s.dp := rfl
@[simp] theorem apuMod_nextDp (n : Nat) (f : ApuPort → ApuPort) (s : State) : (apuMod n f s).nextDp = s.nextDp := rfl
@[simp] theorem apuMod_fifos (n : Nat) (f : ApuPort → ApuPort) (s : State) : (apuMod n f s).fifos = s.fifos := rfl
@[simp] theorem apuMod_arbs (n : Nat) (f : ApuPort → ApuPort) (s : State) : (apuMod n f s).arbs = s.arbs := rfl
@[simp] theorem apuMod_time (n : Nat) (f : ApuPort → ApuPort) (s : State) : (apuMod n f s).time = s.time := rfl
@[simp] theorem apuMod_jrnl (n : Nat) (f : ApuPort → ApuPort) (s : State) : (apuMod n f s).jrnl = s.jrnl := rfl
@[simp] theorem apuMod_prot (n : Nat) (f : ApuPort → ApuPort) (s : State) : (apuMod n f s).prot = s.prot := rfl
@[simp] theorem apuMod_fw (n : Nat) (f : ApuPort → ApuPort) (s : State) : (apuMod n f s).fw = s.fw := rfl
@[simp] theorem apuMod_stage (n : Nat) (f : ApuPort → ApuPort) (s : State) : (apuMod n f s).stage = s.stage := rfl
@[simp] theorem apuMod_keeper (n : Nat) (f : ApuPort → ApuPort) (s : State) : (apuMod n f s).keeper = s.keeper := rfl
@[simp] theorem apuMod_cal (n : Nat) (f : ApuPort → ApuPort) (s : State) : (apuMod n f s).cal = s.cal := rfl
@[simp] theorem apuMod_boot (n : Nat) (f : ApuPort → ApuPort) (s : State) : (apuMod n f s).boot = s.boot := rfl
@[simp] theorem apuMod_record (n : Nat) (f : ApuPort → ApuPort) (s : State) : (apuMod n f s).record = s.record := rfl
@[simp] theorem apuMod_objs (n : Nat) (f : ApuPort → ApuPort) (s : State) : (apuMod n f s).objs = s.objs := rfl
@[simp] theorem apuMod_place (n : Nat) (f : ApuPort → ApuPort) (s : State) : (apuMod n f s).place = s.place := rfl
@[simp] theorem apuMod_dikar (n : Nat) (f : ApuPort → ApuPort) (s : State) : (apuMod n f s).dikar = s.dikar := rfl
@[simp] theorem apuMod_coll (n : Nat) (f : ApuPort → ApuPort) (s : State) : (apuMod n f s).coll = s.coll := rfl
@[simp] theorem apuMod_tap (n : Nat) (f : ApuPort → ApuPort) (s : State) : (apuMod n f s).tap = s.tap := rfl

/-! `lgtMod` changes lights. -/

@[simp] theorem lgtMod_pending (l : Nat) (f : Light → Light) (s : State) : (lgtMod l f s).pending = s.pending := rfl
@[simp] theorem lgtMod_clk (l : Nat) (f : Light → Light) (s : State) : (lgtMod l f s).clk = s.clk := rfl
@[simp] theorem lgtMod_tb (l : Nat) (f : Light → Light) (s : State) : (lgtMod l f s).tb = s.tb := rfl
@[simp] theorem lgtMod_freeSeq (l : Nat) (f : Light → Light) (s : State) : (lgtMod l f s).freeSeq = s.freeSeq := rfl
@[simp] theorem lgtMod_regs (l : Nat) (f : Light → Light) (s : State) : (lgtMod l f s).regs = s.regs := rfl
@[simp] theorem lgtMod_shadow (l : Nat) (f : Light → Light) (s : State) : (lgtMod l f s).shadow = s.shadow := rfl
@[simp] theorem lgtMod_captured (l : Nat) (f : Light → Light) (s : State) : (lgtMod l f s).captured = s.captured := rfl
@[simp] theorem lgtMod_woLatch (l : Nat) (f : Light → Light) (s : State) : (lgtMod l f s).woLatch = s.woLatch := rfl
@[simp] theorem lgtMod_logs (l : Nat) (f : Light → Light) (s : State) : (lgtMod l f s).logs = s.logs := rfl
@[simp] theorem lgtMod_results (l : Nat) (f : Light → Light) (s : State) : (lgtMod l f s).results = s.results := rfl
@[simp] theorem lgtMod_strikes (l : Nat) (f : Light → Light) (s : State) : (lgtMod l f s).strikes = s.strikes := rfl
@[simp] theorem lgtMod_out (l : Nat) (f : Light → Light) (s : State) : (lgtMod l f s).out = s.out := rfl
@[simp] theorem lgtMod_nextPid (l : Nat) (f : Light → Light) (s : State) : (lgtMod l f s).nextPid = s.nextPid := rfl
@[simp] theorem lgtMod_fiu (l : Nat) (f : Light → Light) (s : State) : (lgtMod l f s).fiu = s.fiu := rfl
@[simp] theorem lgtMod_egr (l : Nat) (f : Light → Light) (s : State) : (lgtMod l f s).egr = s.egr := rfl
@[simp] theorem lgtMod_tags (l : Nat) (f : Light → Light) (s : State) : (lgtMod l f s).tags = s.tags := rfl
@[simp] theorem lgtMod_apu (l : Nat) (f : Light → Light) (s : State) : (lgtMod l f s).apu = s.apu := rfl
@[simp] theorem lgtMod_stnMode (l : Nat) (f : Light → Light) (s : State) : (lgtMod l f s).stnMode = s.stnMode := rfl
@[simp] theorem lgtMod_known (l : Nat) (f : Light → Light) (s : State) : (lgtMod l f s).known = s.known := rfl
@[simp] theorem lgtMod_cross (l : Nat) (f : Light → Light) (s : State) : (lgtMod l f s).cross = s.cross := rfl
@[simp] theorem lgtMod_sched (l : Nat) (f : Light → Light) (s : State) : (lgtMod l f s).sched = s.sched := rfl
@[simp] theorem lgtMod_mail (l : Nat) (f : Light → Light) (s : State) : (lgtMod l f s).mail = s.mail := rfl
@[simp] theorem lgtMod_easel (l : Nat) (f : Light → Light) (s : State) : (lgtMod l f s).easel = s.easel := rfl
@[simp] theorem lgtMod_lan (l : Nat) (f : Light → Light) (s : State) : (lgtMod l f s).lan = s.lan := rfl
@[simp] theorem lgtMod_dp (l : Nat) (f : Light → Light) (s : State) : (lgtMod l f s).dp = s.dp := rfl
@[simp] theorem lgtMod_nextDp (l : Nat) (f : Light → Light) (s : State) : (lgtMod l f s).nextDp = s.nextDp := rfl
@[simp] theorem lgtMod_fifos (l : Nat) (f : Light → Light) (s : State) : (lgtMod l f s).fifos = s.fifos := rfl
@[simp] theorem lgtMod_arbs (l : Nat) (f : Light → Light) (s : State) : (lgtMod l f s).arbs = s.arbs := rfl
@[simp] theorem lgtMod_time (l : Nat) (f : Light → Light) (s : State) : (lgtMod l f s).time = s.time := rfl
@[simp] theorem lgtMod_jrnl (l : Nat) (f : Light → Light) (s : State) : (lgtMod l f s).jrnl = s.jrnl := rfl
@[simp] theorem lgtMod_prot (l : Nat) (f : Light → Light) (s : State) : (lgtMod l f s).prot = s.prot := rfl
@[simp] theorem lgtMod_fw (l : Nat) (f : Light → Light) (s : State) : (lgtMod l f s).fw = s.fw := rfl
@[simp] theorem lgtMod_stage (l : Nat) (f : Light → Light) (s : State) : (lgtMod l f s).stage = s.stage := rfl
@[simp] theorem lgtMod_keeper (l : Nat) (f : Light → Light) (s : State) : (lgtMod l f s).keeper = s.keeper := rfl
@[simp] theorem lgtMod_cal (l : Nat) (f : Light → Light) (s : State) : (lgtMod l f s).cal = s.cal := rfl
@[simp] theorem lgtMod_boot (l : Nat) (f : Light → Light) (s : State) : (lgtMod l f s).boot = s.boot := rfl
@[simp] theorem lgtMod_record (l : Nat) (f : Light → Light) (s : State) : (lgtMod l f s).record = s.record := rfl
@[simp] theorem lgtMod_objs (l : Nat) (f : Light → Light) (s : State) : (lgtMod l f s).objs = s.objs := rfl
@[simp] theorem lgtMod_place (l : Nat) (f : Light → Light) (s : State) : (lgtMod l f s).place = s.place := rfl
@[simp] theorem lgtMod_dikar (l : Nat) (f : Light → Light) (s : State) : (lgtMod l f s).dikar = s.dikar := rfl
@[simp] theorem lgtMod_coll (l : Nat) (f : Light → Light) (s : State) : (lgtMod l f s).coll = s.coll := rfl
@[simp] theorem lgtMod_tap (l : Nat) (f : Light → Light) (s : State) : (lgtMod l f s).tap = s.tap := rfl

/-! `fifoMod` changes fifos. -/

@[simp] theorem fifoMod_pending (r qid : Nat) (f : Fifo → Fifo) (s : State) :
    (fifoMod r qid f s).pending = s.pending := rfl
@[simp] theorem fifoMod_clk (r qid : Nat) (f : Fifo → Fifo) (s : State) : (fifoMod r qid f s).clk = s.clk := rfl
@[simp] theorem fifoMod_tb (r qid : Nat) (f : Fifo → Fifo) (s : State) : (fifoMod r qid f s).tb = s.tb := rfl
@[simp] theorem fifoMod_freeSeq (r qid : Nat) (f : Fifo → Fifo) (s : State) :
    (fifoMod r qid f s).freeSeq = s.freeSeq := rfl
@[simp] theorem fifoMod_regs (r qid : Nat) (f : Fifo → Fifo) (s : State) : (fifoMod r qid f s).regs = s.regs := rfl
@[simp] theorem fifoMod_shadow (r qid : Nat) (f : Fifo → Fifo) (s : State) :
    (fifoMod r qid f s).shadow = s.shadow := rfl
@[simp] theorem fifoMod_captured (r qid : Nat) (f : Fifo → Fifo) (s : State) :
    (fifoMod r qid f s).captured = s.captured := rfl
@[simp] theorem fifoMod_woLatch (r qid : Nat) (f : Fifo → Fifo) (s : State) :
    (fifoMod r qid f s).woLatch = s.woLatch := rfl
@[simp] theorem fifoMod_logs (r qid : Nat) (f : Fifo → Fifo) (s : State) : (fifoMod r qid f s).logs = s.logs := rfl
@[simp] theorem fifoMod_results (r qid : Nat) (f : Fifo → Fifo) (s : State) :
    (fifoMod r qid f s).results = s.results := rfl
@[simp] theorem fifoMod_strikes (r qid : Nat) (f : Fifo → Fifo) (s : State) :
    (fifoMod r qid f s).strikes = s.strikes := rfl
@[simp] theorem fifoMod_out (r qid : Nat) (f : Fifo → Fifo) (s : State) : (fifoMod r qid f s).out = s.out := rfl
@[simp] theorem fifoMod_nextPid (r qid : Nat) (f : Fifo → Fifo) (s : State) :
    (fifoMod r qid f s).nextPid = s.nextPid := rfl
@[simp] theorem fifoMod_fiu (r qid : Nat) (f : Fifo → Fifo) (s : State) : (fifoMod r qid f s).fiu = s.fiu := rfl
@[simp] theorem fifoMod_egr (r qid : Nat) (f : Fifo → Fifo) (s : State) : (fifoMod r qid f s).egr = s.egr := rfl
@[simp] theorem fifoMod_tags (r qid : Nat) (f : Fifo → Fifo) (s : State) : (fifoMod r qid f s).tags = s.tags := rfl
@[simp] theorem fifoMod_apu (r qid : Nat) (f : Fifo → Fifo) (s : State) : (fifoMod r qid f s).apu = s.apu := rfl
@[simp] theorem fifoMod_stnMode (r qid : Nat) (f : Fifo → Fifo) (s : State) :
    (fifoMod r qid f s).stnMode = s.stnMode := rfl
@[simp] theorem fifoMod_known (r qid : Nat) (f : Fifo → Fifo) (s : State) : (fifoMod r qid f s).known = s.known := rfl
@[simp] theorem fifoMod_cross (r qid : Nat) (f : Fifo → Fifo) (s : State) : (fifoMod r qid f s).cross = s.cross := rfl
@[simp] theorem fifoMod_lights (r qid : Nat) (f : Fifo → Fifo) (s : State) :
    (fifoMod r qid f s).lights = s.lights := rfl
@[simp] theorem fifoMod_sched (r qid : Nat) (f : Fifo → Fifo) (s : State) : (fifoMod r qid f s).sched = s.sched := rfl
@[simp] theorem fifoMod_mail (r qid : Nat) (f : Fifo → Fifo) (s : State) : (fifoMod r qid f s).mail = s.mail := rfl
@[simp] theorem fifoMod_easel (r qid : Nat) (f : Fifo → Fifo) (s : State) : (fifoMod r qid f s).easel = s.easel := rfl
@[simp] theorem fifoMod_lan (r qid : Nat) (f : Fifo → Fifo) (s : State) : (fifoMod r qid f s).lan = s.lan := rfl
@[simp] theorem fifoMod_dp (r qid : Nat) (f : Fifo → Fifo) (s : State) : (fifoMod r qid f s).dp = s.dp := rfl
@[simp] theorem fifoMod_nextDp (r qid : Nat) (f : Fifo → Fifo) (s : State) :
    (fifoMod r qid f s).nextDp = s.nextDp := rfl
@[simp] theorem fifoMod_arbs (r qid : Nat) (f : Fifo → Fifo) (s : State) : (fifoMod r qid f s).arbs = s.arbs := rfl
@[simp] theorem fifoMod_time (r qid : Nat) (f : Fifo → Fifo) (s : State) : (fifoMod r qid f s).time = s.time := rfl
@[simp] theorem fifoMod_jrnl (r qid : Nat) (f : Fifo → Fifo) (s : State) : (fifoMod r qid f s).jrnl = s.jrnl := rfl
@[simp] theorem fifoMod_prot (r qid : Nat) (f : Fifo → Fifo) (s : State) : (fifoMod r qid f s).prot = s.prot := rfl
@[simp] theorem fifoMod_fw (r qid : Nat) (f : Fifo → Fifo) (s : State) : (fifoMod r qid f s).fw = s.fw := rfl
@[simp] theorem fifoMod_stage (r qid : Nat) (f : Fifo → Fifo) (s : State) : (fifoMod r qid f s).stage = s.stage := rfl
@[simp] theorem fifoMod_keeper (r qid : Nat) (f : Fifo → Fifo) (s : State) :
    (fifoMod r qid f s).keeper = s.keeper := rfl
@[simp] theorem fifoMod_cal (r qid : Nat) (f : Fifo → Fifo) (s : State) : (fifoMod r qid f s).cal = s.cal := rfl
@[simp] theorem fifoMod_boot (r qid : Nat) (f : Fifo → Fifo) (s : State) : (fifoMod r qid f s).boot = s.boot := rfl
@[simp] theorem fifoMod_record (r qid : Nat) (f : Fifo → Fifo) (s : State) :
    (fifoMod r qid f s).record = s.record := rfl
@[simp] theorem fifoMod_objs (r qid : Nat) (f : Fifo → Fifo) (s : State) : (fifoMod r qid f s).objs = s.objs := rfl
@[simp] theorem fifoMod_place (r qid : Nat) (f : Fifo → Fifo) (s : State) : (fifoMod r qid f s).place = s.place := rfl
@[simp] theorem fifoMod_dikar (r qid : Nat) (f : Fifo → Fifo) (s : State) : (fifoMod r qid f s).dikar = s.dikar := rfl
@[simp] theorem fifoMod_coll (r qid : Nat) (f : Fifo → Fifo) (s : State) : (fifoMod r qid f s).coll = s.coll := rfl
@[simp] theorem fifoMod_tap (r qid : Nat) (f : Fifo → Fifo) (s : State) : (fifoMod r qid f s).tap = s.tap := rfl

/-! `arbMod` changes arbs. -/

@[simp] theorem arbMod_pending (r aid : Nat) (f : Arb → Arb) (s : State) : (arbMod r aid f s).pending = s.pending := rfl
@[simp] theorem arbMod_clk (r aid : Nat) (f : Arb → Arb) (s : State) : (arbMod r aid f s).clk = s.clk := rfl
@[simp] theorem arbMod_tb (r aid : Nat) (f : Arb → Arb) (s : State) : (arbMod r aid f s).tb = s.tb := rfl
@[simp] theorem arbMod_freeSeq (r aid : Nat) (f : Arb → Arb) (s : State) : (arbMod r aid f s).freeSeq = s.freeSeq := rfl
@[simp] theorem arbMod_regs (r aid : Nat) (f : Arb → Arb) (s : State) : (arbMod r aid f s).regs = s.regs := rfl
@[simp] theorem arbMod_shadow (r aid : Nat) (f : Arb → Arb) (s : State) : (arbMod r aid f s).shadow = s.shadow := rfl
@[simp] theorem arbMod_captured (r aid : Nat) (f : Arb → Arb) (s : State) :
    (arbMod r aid f s).captured = s.captured := rfl
@[simp] theorem arbMod_woLatch (r aid : Nat) (f : Arb → Arb) (s : State) : (arbMod r aid f s).woLatch = s.woLatch := rfl
@[simp] theorem arbMod_logs (r aid : Nat) (f : Arb → Arb) (s : State) : (arbMod r aid f s).logs = s.logs := rfl
@[simp] theorem arbMod_results (r aid : Nat) (f : Arb → Arb) (s : State) : (arbMod r aid f s).results = s.results := rfl
@[simp] theorem arbMod_strikes (r aid : Nat) (f : Arb → Arb) (s : State) : (arbMod r aid f s).strikes = s.strikes := rfl
@[simp] theorem arbMod_out (r aid : Nat) (f : Arb → Arb) (s : State) : (arbMod r aid f s).out = s.out := rfl
@[simp] theorem arbMod_nextPid (r aid : Nat) (f : Arb → Arb) (s : State) : (arbMod r aid f s).nextPid = s.nextPid := rfl
@[simp] theorem arbMod_fiu (r aid : Nat) (f : Arb → Arb) (s : State) : (arbMod r aid f s).fiu = s.fiu := rfl
@[simp] theorem arbMod_egr (r aid : Nat) (f : Arb → Arb) (s : State) : (arbMod r aid f s).egr = s.egr := rfl
@[simp] theorem arbMod_tags (r aid : Nat) (f : Arb → Arb) (s : State) : (arbMod r aid f s).tags = s.tags := rfl
@[simp] theorem arbMod_apu (r aid : Nat) (f : Arb → Arb) (s : State) : (arbMod r aid f s).apu = s.apu := rfl
@[simp] theorem arbMod_stnMode (r aid : Nat) (f : Arb → Arb) (s : State) : (arbMod r aid f s).stnMode = s.stnMode := rfl
@[simp] theorem arbMod_known (r aid : Nat) (f : Arb → Arb) (s : State) : (arbMod r aid f s).known = s.known := rfl
@[simp] theorem arbMod_cross (r aid : Nat) (f : Arb → Arb) (s : State) : (arbMod r aid f s).cross = s.cross := rfl
@[simp] theorem arbMod_lights (r aid : Nat) (f : Arb → Arb) (s : State) : (arbMod r aid f s).lights = s.lights := rfl
@[simp] theorem arbMod_sched (r aid : Nat) (f : Arb → Arb) (s : State) : (arbMod r aid f s).sched = s.sched := rfl
@[simp] theorem arbMod_mail (r aid : Nat) (f : Arb → Arb) (s : State) : (arbMod r aid f s).mail = s.mail := rfl
@[simp] theorem arbMod_easel (r aid : Nat) (f : Arb → Arb) (s : State) : (arbMod r aid f s).easel = s.easel := rfl
@[simp] theorem arbMod_lan (r aid : Nat) (f : Arb → Arb) (s : State) : (arbMod r aid f s).lan = s.lan := rfl
@[simp] theorem arbMod_dp (r aid : Nat) (f : Arb → Arb) (s : State) : (arbMod r aid f s).dp = s.dp := rfl
@[simp] theorem arbMod_nextDp (r aid : Nat) (f : Arb → Arb) (s : State) : (arbMod r aid f s).nextDp = s.nextDp := rfl
@[simp] theorem arbMod_fifos (r aid : Nat) (f : Arb → Arb) (s : State) : (arbMod r aid f s).fifos = s.fifos := rfl
@[simp] theorem arbMod_time (r aid : Nat) (f : Arb → Arb) (s : State) : (arbMod r aid f s).time = s.time := rfl
@[simp] theorem arbMod_jrnl (r aid : Nat) (f : Arb → Arb) (s : State) : (arbMod r aid f s).jrnl = s.jrnl := rfl
@[simp] theorem arbMod_prot (r aid : Nat) (f : Arb → Arb) (s : State) : (arbMod r aid f s).prot = s.prot := rfl
@[simp] theorem arbMod_fw (r aid : Nat) (f : Arb → Arb) (s : State) : (arbMod r aid f s).fw = s.fw := rfl
@[simp] theorem arbMod_stage (r aid : Nat) (f : Arb → Arb) (s : State) : (arbMod r aid f s).stage = s.stage := rfl
@[simp] theorem arbMod_keeper (r aid : Nat) (f : Arb → Arb) (s : State) : (arbMod r aid f s).keeper = s.keeper := rfl
@[simp] theorem arbMod_cal (r aid : Nat) (f : Arb → Arb) (s : State) : (arbMod r aid f s).cal = s.cal := rfl
@[simp] theorem arbMod_boot (r aid : Nat) (f : Arb → Arb) (s : State) : (arbMod r aid f s).boot = s.boot := rfl
@[simp] theorem arbMod_record (r aid : Nat) (f : Arb → Arb) (s : State) : (arbMod r aid f s).record = s.record := rfl
@[simp] theorem arbMod_objs (r aid : Nat) (f : Arb → Arb) (s : State) : (arbMod r aid f s).objs = s.objs := rfl
@[simp] theorem arbMod_place (r aid : Nat) (f : Arb → Arb) (s : State) : (arbMod r aid f s).place = s.place := rfl
@[simp] theorem arbMod_dikar (r aid : Nat) (f : Arb → Arb) (s : State) : (arbMod r aid f s).dikar = s.dikar := rfl
@[simp] theorem arbMod_coll (r aid : Nat) (f : Arb → Arb) (s : State) : (arbMod r aid f s).coll = s.coll := rfl
@[simp] theorem arbMod_tap (r aid : Nat) (f : Arb → Arb) (s : State) : (arbMod r aid f s).tap = s.tap := rfl

/-! `clearAll` changes regs. -/

@[simp] theorem clearAll_pending (P : Nat) (fs : List Fld) (s : State) : (clearAll P fs s).pending = s.pending := by
  induction fs generalizing s with
  | nil => rfl
  | cons f r ih => exact ih (wr P f 0 s)
@[simp] theorem clearAll_clk (P : Nat) (fs : List Fld) (s : State) : (clearAll P fs s).clk = s.clk := by
  induction fs generalizing s with
  | nil => rfl
  | cons f r ih => exact ih (wr P f 0 s)
@[simp] theorem clearAll_tb (P : Nat) (fs : List Fld) (s : State) : (clearAll P fs s).tb = s.tb := by
  induction fs generalizing s with
  | nil => rfl
  | cons f r ih => exact ih (wr P f 0 s)
@[simp] theorem clearAll_freeSeq (P : Nat) (fs : List Fld) (s : State) : (clearAll P fs s).freeSeq = s.freeSeq := by
  induction fs generalizing s with
  | nil => rfl
  | cons f r ih => exact ih (wr P f 0 s)
@[simp] theorem clearAll_shadow (P : Nat) (fs : List Fld) (s : State) : (clearAll P fs s).shadow = s.shadow := by
  induction fs generalizing s with
  | nil => rfl
  | cons f r ih => exact ih (wr P f 0 s)
@[simp] theorem clearAll_captured (P : Nat) (fs : List Fld) (s : State) : (clearAll P fs s).captured = s.captured := by
  induction fs generalizing s with
  | nil => rfl
  | cons f r ih => exact ih (wr P f 0 s)
@[simp] theorem clearAll_woLatch (P : Nat) (fs : List Fld) (s : State) : (clearAll P fs s).woLatch = s.woLatch := by
  induction fs generalizing s with
  | nil => rfl
  | cons f r ih => exact ih (wr P f 0 s)
@[simp] theorem clearAll_logs (P : Nat) (fs : List Fld) (s : State) : (clearAll P fs s).logs = s.logs := by
  induction fs generalizing s with
  | nil => rfl
  | cons f r ih => exact ih (wr P f 0 s)
@[simp] theorem clearAll_results (P : Nat) (fs : List Fld) (s : State) : (clearAll P fs s).results = s.results := by
  induction fs generalizing s with
  | nil => rfl
  | cons f r ih => exact ih (wr P f 0 s)
@[simp] theorem clearAll_strikes (P : Nat) (fs : List Fld) (s : State) : (clearAll P fs s).strikes = s.strikes := by
  induction fs generalizing s with
  | nil => rfl
  | cons f r ih => exact ih (wr P f 0 s)
@[simp] theorem clearAll_out (P : Nat) (fs : List Fld) (s : State) : (clearAll P fs s).out = s.out := by
  induction fs generalizing s with
  | nil => rfl
  | cons f r ih => exact ih (wr P f 0 s)
@[simp] theorem clearAll_nextPid (P : Nat) (fs : List Fld) (s : State) : (clearAll P fs s).nextPid = s.nextPid := by
  induction fs generalizing s with
  | nil => rfl
  | cons f r ih => exact ih (wr P f 0 s)
@[simp] theorem clearAll_fiu (P : Nat) (fs : List Fld) (s : State) : (clearAll P fs s).fiu = s.fiu := by
  induction fs generalizing s with
  | nil => rfl
  | cons f r ih => exact ih (wr P f 0 s)
@[simp] theorem clearAll_egr (P : Nat) (fs : List Fld) (s : State) : (clearAll P fs s).egr = s.egr := by
  induction fs generalizing s with
  | nil => rfl
  | cons f r ih => exact ih (wr P f 0 s)
@[simp] theorem clearAll_tags (P : Nat) (fs : List Fld) (s : State) : (clearAll P fs s).tags = s.tags := by
  induction fs generalizing s with
  | nil => rfl
  | cons f r ih => exact ih (wr P f 0 s)
@[simp] theorem clearAll_apu (P : Nat) (fs : List Fld) (s : State) : (clearAll P fs s).apu = s.apu := by
  induction fs generalizing s with
  | nil => rfl
  | cons f r ih => exact ih (wr P f 0 s)
@[simp] theorem clearAll_stnMode (P : Nat) (fs : List Fld) (s : State) : (clearAll P fs s).stnMode = s.stnMode := by
  induction fs generalizing s with
  | nil => rfl
  | cons f r ih => exact ih (wr P f 0 s)
@[simp] theorem clearAll_known (P : Nat) (fs : List Fld) (s : State) : (clearAll P fs s).known = s.known := by
  induction fs generalizing s with
  | nil => rfl
  | cons f r ih => exact ih (wr P f 0 s)
@[simp] theorem clearAll_cross (P : Nat) (fs : List Fld) (s : State) : (clearAll P fs s).cross = s.cross := by
  induction fs generalizing s with
  | nil => rfl
  | cons f r ih => exact ih (wr P f 0 s)
@[simp] theorem clearAll_lights (P : Nat) (fs : List Fld) (s : State) : (clearAll P fs s).lights = s.lights := by
  induction fs generalizing s with
  | nil => rfl
  | cons f r ih => exact ih (wr P f 0 s)
@[simp] theorem clearAll_sched (P : Nat) (fs : List Fld) (s : State) : (clearAll P fs s).sched = s.sched := by
  induction fs generalizing s with
  | nil => rfl
  | cons f r ih => exact ih (wr P f 0 s)
@[simp] theorem clearAll_mail (P : Nat) (fs : List Fld) (s : State) : (clearAll P fs s).mail = s.mail := by
  induction fs generalizing s with
  | nil => rfl
  | cons f r ih => exact ih (wr P f 0 s)
@[simp] theorem clearAll_easel (P : Nat) (fs : List Fld) (s : State) : (clearAll P fs s).easel = s.easel := by
  induction fs generalizing s with
  | nil => rfl
  | cons f r ih => exact ih (wr P f 0 s)
@[simp] theorem clearAll_lan (P : Nat) (fs : List Fld) (s : State) : (clearAll P fs s).lan = s.lan := by
  induction fs generalizing s with
  | nil => rfl
  | cons f r ih => exact ih (wr P f 0 s)
@[simp] theorem clearAll_dp (P : Nat) (fs : List Fld) (s : State) : (clearAll P fs s).dp = s.dp := by
  induction fs generalizing s with
  | nil => rfl
  | cons f r ih => exact ih (wr P f 0 s)
@[simp] theorem clearAll_nextDp (P : Nat) (fs : List Fld) (s : State) : (clearAll P fs s).nextDp = s.nextDp := by
  induction fs generalizing s with
  | nil => rfl
  | cons f r ih => exact ih (wr P f 0 s)
@[simp] theorem clearAll_fifos (P : Nat) (fs : List Fld) (s : State) : (clearAll P fs s).fifos = s.fifos := by
  induction fs generalizing s with
  | nil => rfl
  | cons f r ih => exact ih (wr P f 0 s)
@[simp] theorem clearAll_arbs (P : Nat) (fs : List Fld) (s : State) : (clearAll P fs s).arbs = s.arbs := by
  induction fs generalizing s with
  | nil => rfl
  | cons f r ih => exact ih (wr P f 0 s)
@[simp] theorem clearAll_time (P : Nat) (fs : List Fld) (s : State) : (clearAll P fs s).time = s.time := by
  induction fs generalizing s with
  | nil => rfl
  | cons f r ih => exact ih (wr P f 0 s)
@[simp] theorem clearAll_jrnl (P : Nat) (fs : List Fld) (s : State) : (clearAll P fs s).jrnl = s.jrnl := by
  induction fs generalizing s with
  | nil => rfl
  | cons f r ih => exact ih (wr P f 0 s)
@[simp] theorem clearAll_prot (P : Nat) (fs : List Fld) (s : State) : (clearAll P fs s).prot = s.prot := by
  induction fs generalizing s with
  | nil => rfl
  | cons f r ih => exact ih (wr P f 0 s)
@[simp] theorem clearAll_fw (P : Nat) (fs : List Fld) (s : State) : (clearAll P fs s).fw = s.fw := by
  induction fs generalizing s with
  | nil => rfl
  | cons f r ih => exact ih (wr P f 0 s)
@[simp] theorem clearAll_stage (P : Nat) (fs : List Fld) (s : State) : (clearAll P fs s).stage = s.stage := by
  induction fs generalizing s with
  | nil => rfl
  | cons f r ih => exact ih (wr P f 0 s)
@[simp] theorem clearAll_keeper (P : Nat) (fs : List Fld) (s : State) : (clearAll P fs s).keeper = s.keeper := by
  induction fs generalizing s with
  | nil => rfl
  | cons f r ih => exact ih (wr P f 0 s)
@[simp] theorem clearAll_cal (P : Nat) (fs : List Fld) (s : State) : (clearAll P fs s).cal = s.cal := by
  induction fs generalizing s with
  | nil => rfl
  | cons f r ih => exact ih (wr P f 0 s)
@[simp] theorem clearAll_boot (P : Nat) (fs : List Fld) (s : State) : (clearAll P fs s).boot = s.boot := by
  induction fs generalizing s with
  | nil => rfl
  | cons f r ih => exact ih (wr P f 0 s)
@[simp] theorem clearAll_record (P : Nat) (fs : List Fld) (s : State) : (clearAll P fs s).record = s.record := by
  induction fs generalizing s with
  | nil => rfl
  | cons f r ih => exact ih (wr P f 0 s)
@[simp] theorem clearAll_objs (P : Nat) (fs : List Fld) (s : State) : (clearAll P fs s).objs = s.objs := by
  induction fs generalizing s with
  | nil => rfl
  | cons f r ih => exact ih (wr P f 0 s)
@[simp] theorem clearAll_place (P : Nat) (fs : List Fld) (s : State) : (clearAll P fs s).place = s.place := by
  induction fs generalizing s with
  | nil => rfl
  | cons f r ih => exact ih (wr P f 0 s)
@[simp] theorem clearAll_dikar (P : Nat) (fs : List Fld) (s : State) : (clearAll P fs s).dikar = s.dikar := by
  induction fs generalizing s with
  | nil => rfl
  | cons f r ih => exact ih (wr P f 0 s)
@[simp] theorem clearAll_coll (P : Nat) (fs : List Fld) (s : State) : (clearAll P fs s).coll = s.coll := by
  induction fs generalizing s with
  | nil => rfl
  | cons f r ih => exact ih (wr P f 0 s)
@[simp] theorem clearAll_tap (P : Nat) (fs : List Fld) (s : State) : (clearAll P fs s).tap = s.tap := by
  induction fs generalizing s with
  | nil => rfl
  | cons f r ih => exact ih (wr P f 0 s)

/-! `cfgReject` changes logs, regs, strikes. -/

@[simp] theorem cfgReject_pending (P off cause : Nat) (cls : FCls) (path : Option Path) (s : State) :
    (cfgReject P off cause cls path s).pending = s.pending := by
  unfold cfgReject; dsimp only; split <;> simp
@[simp] theorem cfgReject_clk (P off cause : Nat) (cls : FCls) (path : Option Path) (s : State) :
    (cfgReject P off cause cls path s).clk = s.clk := by
  unfold cfgReject; dsimp only; split <;> simp
@[simp] theorem cfgReject_tb (P off cause : Nat) (cls : FCls) (path : Option Path) (s : State) :
    (cfgReject P off cause cls path s).tb = s.tb := by
  unfold cfgReject; dsimp only; split <;> simp
@[simp] theorem cfgReject_freeSeq (P off cause : Nat) (cls : FCls) (path : Option Path) (s : State) :
    (cfgReject P off cause cls path s).freeSeq = s.freeSeq := by
  unfold cfgReject; dsimp only; split <;> simp
@[simp] theorem cfgReject_shadow (P off cause : Nat) (cls : FCls) (path : Option Path) (s : State) :
    (cfgReject P off cause cls path s).shadow = s.shadow := by
  unfold cfgReject; dsimp only; split <;> simp
@[simp] theorem cfgReject_captured (P off cause : Nat) (cls : FCls) (path : Option Path) (s : State) :
    (cfgReject P off cause cls path s).captured = s.captured := by
  unfold cfgReject; dsimp only; split <;> simp
@[simp] theorem cfgReject_woLatch (P off cause : Nat) (cls : FCls) (path : Option Path) (s : State) :
    (cfgReject P off cause cls path s).woLatch = s.woLatch := by
  unfold cfgReject; dsimp only; split <;> simp
@[simp] theorem cfgReject_results (P off cause : Nat) (cls : FCls) (path : Option Path) (s : State) :
    (cfgReject P off cause cls path s).results = s.results := by
  unfold cfgReject; dsimp only; split <;> simp
@[simp] theorem cfgReject_out (P off cause : Nat) (cls : FCls) (path : Option Path) (s : State) :
    (cfgReject P off cause cls path s).out = s.out := by
  unfold cfgReject; dsimp only; split <;> simp
@[simp] theorem cfgReject_nextPid (P off cause : Nat) (cls : FCls) (path : Option Path) (s : State) :
    (cfgReject P off cause cls path s).nextPid = s.nextPid := by
  unfold cfgReject; dsimp only; split <;> simp
@[simp] theorem cfgReject_fiu (P off cause : Nat) (cls : FCls) (path : Option Path) (s : State) :
    (cfgReject P off cause cls path s).fiu = s.fiu := by
  unfold cfgReject; dsimp only; split <;> simp
@[simp] theorem cfgReject_egr (P off cause : Nat) (cls : FCls) (path : Option Path) (s : State) :
    (cfgReject P off cause cls path s).egr = s.egr := by
  unfold cfgReject; dsimp only; split <;> simp
@[simp] theorem cfgReject_tags (P off cause : Nat) (cls : FCls) (path : Option Path) (s : State) :
    (cfgReject P off cause cls path s).tags = s.tags := by
  unfold cfgReject; dsimp only; split <;> simp
@[simp] theorem cfgReject_apu (P off cause : Nat) (cls : FCls) (path : Option Path) (s : State) :
    (cfgReject P off cause cls path s).apu = s.apu := by
  unfold cfgReject; dsimp only; split <;> simp
@[simp] theorem cfgReject_stnMode (P off cause : Nat) (cls : FCls) (path : Option Path) (s : State) :
    (cfgReject P off cause cls path s).stnMode = s.stnMode := by
  unfold cfgReject; dsimp only; split <;> simp
@[simp] theorem cfgReject_known (P off cause : Nat) (cls : FCls) (path : Option Path) (s : State) :
    (cfgReject P off cause cls path s).known = s.known := by
  unfold cfgReject; dsimp only; split <;> simp
@[simp] theorem cfgReject_cross (P off cause : Nat) (cls : FCls) (path : Option Path) (s : State) :
    (cfgReject P off cause cls path s).cross = s.cross := by
  unfold cfgReject; dsimp only; split <;> simp
@[simp] theorem cfgReject_lights (P off cause : Nat) (cls : FCls) (path : Option Path) (s : State) :
    (cfgReject P off cause cls path s).lights = s.lights := by
  unfold cfgReject; dsimp only; split <;> simp
@[simp] theorem cfgReject_sched (P off cause : Nat) (cls : FCls) (path : Option Path) (s : State) :
    (cfgReject P off cause cls path s).sched = s.sched := by
  unfold cfgReject; dsimp only; split <;> simp
@[simp] theorem cfgReject_mail (P off cause : Nat) (cls : FCls) (path : Option Path) (s : State) :
    (cfgReject P off cause cls path s).mail = s.mail := by
  unfold cfgReject; dsimp only; split <;> simp
@[simp] theorem cfgReject_easel (P off cause : Nat) (cls : FCls) (path : Option Path) (s : State) :
    (cfgReject P off cause cls path s).easel = s.easel := by
  unfold cfgReject; dsimp only; split <;> simp
@[simp] theorem cfgReject_lan (P off cause : Nat) (cls : FCls) (path : Option Path) (s : State) :
    (cfgReject P off cause cls path s).lan = s.lan := by
  unfold cfgReject; dsimp only; split <;> simp
@[simp] theorem cfgReject_dp (P off cause : Nat) (cls : FCls) (path : Option Path) (s : State) :
    (cfgReject P off cause cls path s).dp = s.dp := by
  unfold cfgReject; dsimp only; split <;> simp
@[simp] theorem cfgReject_nextDp (P off cause : Nat) (cls : FCls) (path : Option Path) (s : State) :
    (cfgReject P off cause cls path s).nextDp = s.nextDp := by
  unfold cfgReject; dsimp only; split <;> simp
@[simp] theorem cfgReject_fifos (P off cause : Nat) (cls : FCls) (path : Option Path) (s : State) :
    (cfgReject P off cause cls path s).fifos = s.fifos := by
  unfold cfgReject; dsimp only; split <;> simp
@[simp] theorem cfgReject_arbs (P off cause : Nat) (cls : FCls) (path : Option Path) (s : State) :
    (cfgReject P off cause cls path s).arbs = s.arbs := by
  unfold cfgReject; dsimp only; split <;> simp
@[simp] theorem cfgReject_time (P off cause : Nat) (cls : FCls) (path : Option Path) (s : State) :
    (cfgReject P off cause cls path s).time = s.time := by
  unfold cfgReject; dsimp only; split <;> simp
@[simp] theorem cfgReject_jrnl (P off cause : Nat) (cls : FCls) (path : Option Path) (s : State) :
    (cfgReject P off cause cls path s).jrnl = s.jrnl := by
  unfold cfgReject; dsimp only; split <;> simp
@[simp] theorem cfgReject_prot (P off cause : Nat) (cls : FCls) (path : Option Path) (s : State) :
    (cfgReject P off cause cls path s).prot = s.prot := by
  unfold cfgReject; dsimp only; split <;> simp
@[simp] theorem cfgReject_fw (P off cause : Nat) (cls : FCls) (path : Option Path) (s : State) :
    (cfgReject P off cause cls path s).fw = s.fw := by
  unfold cfgReject; dsimp only; split <;> simp
@[simp] theorem cfgReject_stage (P off cause : Nat) (cls : FCls) (path : Option Path) (s : State) :
    (cfgReject P off cause cls path s).stage = s.stage := by
  unfold cfgReject; dsimp only; split <;> simp
@[simp] theorem cfgReject_keeper (P off cause : Nat) (cls : FCls) (path : Option Path) (s : State) :
    (cfgReject P off cause cls path s).keeper = s.keeper := by
  unfold cfgReject; dsimp only; split <;> simp
@[simp] theorem cfgReject_cal (P off cause : Nat) (cls : FCls) (path : Option Path) (s : State) :
    (cfgReject P off cause cls path s).cal = s.cal := by
  unfold cfgReject; dsimp only; split <;> simp
@[simp] theorem cfgReject_boot (P off cause : Nat) (cls : FCls) (path : Option Path) (s : State) :
    (cfgReject P off cause cls path s).boot = s.boot := by
  unfold cfgReject; dsimp only; split <;> simp
@[simp] theorem cfgReject_record (P off cause : Nat) (cls : FCls) (path : Option Path) (s : State) :
    (cfgReject P off cause cls path s).record = s.record := by
  unfold cfgReject; dsimp only; split <;> simp
@[simp] theorem cfgReject_objs (P off cause : Nat) (cls : FCls) (path : Option Path) (s : State) :
    (cfgReject P off cause cls path s).objs = s.objs := by
  unfold cfgReject; dsimp only; split <;> simp
@[simp] theorem cfgReject_place (P off cause : Nat) (cls : FCls) (path : Option Path) (s : State) :
    (cfgReject P off cause cls path s).place = s.place := by
  unfold cfgReject; dsimp only; split <;> simp
@[simp] theorem cfgReject_dikar (P off cause : Nat) (cls : FCls) (path : Option Path) (s : State) :
    (cfgReject P off cause cls path s).dikar = s.dikar := by
  unfold cfgReject; dsimp only; split <;> simp
@[simp] theorem cfgReject_coll (P off cause : Nat) (cls : FCls) (path : Option Path) (s : State) :
    (cfgReject P off cause cls path s).coll = s.coll := by
  unfold cfgReject; dsimp only; split <;> simp
@[simp] theorem cfgReject_tap (P off cause : Nat) (cls : FCls) (path : Option Path) (s : State) :
    (cfgReject P off cause cls path s).tap = s.tap := by
  unfold cfgReject; dsimp only; split <;> simp

/-! `pushResult` changes regs, results, strikes. -/

@[simp] theorem pushResult_pending (q kind : Nat) (hd : Bool) (ws : List Nat) (s : State) :
    (pushResult q kind hd ws s).pending = s.pending := by
  unfold pushResult; dsimp only; cases hd <;> simp only [Bool.false_eq_true, if_false, if_true] <;> split <;> simp
@[simp] theorem pushResult_clk (q kind : Nat) (hd : Bool) (ws : List Nat) (s : State) :
    (pushResult q kind hd ws s).clk = s.clk := by
  unfold pushResult; dsimp only; cases hd <;> simp only [Bool.false_eq_true, if_false, if_true] <;> split <;> simp
@[simp] theorem pushResult_tb (q kind : Nat) (hd : Bool) (ws : List Nat) (s : State) :
    (pushResult q kind hd ws s).tb = s.tb := by
  unfold pushResult; dsimp only; cases hd <;> simp only [Bool.false_eq_true, if_false, if_true] <;> split <;> simp
@[simp] theorem pushResult_freeSeq (q kind : Nat) (hd : Bool) (ws : List Nat) (s : State) :
    (pushResult q kind hd ws s).freeSeq = s.freeSeq := by
  unfold pushResult; dsimp only; cases hd <;> simp only [Bool.false_eq_true, if_false, if_true] <;> split <;> simp
@[simp] theorem pushResult_shadow (q kind : Nat) (hd : Bool) (ws : List Nat) (s : State) :
    (pushResult q kind hd ws s).shadow = s.shadow := by
  unfold pushResult; dsimp only; cases hd <;> simp only [Bool.false_eq_true, if_false, if_true] <;> split <;> simp
@[simp] theorem pushResult_captured (q kind : Nat) (hd : Bool) (ws : List Nat) (s : State) :
    (pushResult q kind hd ws s).captured = s.captured := by
  unfold pushResult; dsimp only; cases hd <;> simp only [Bool.false_eq_true, if_false, if_true] <;> split <;> simp
@[simp] theorem pushResult_woLatch (q kind : Nat) (hd : Bool) (ws : List Nat) (s : State) :
    (pushResult q kind hd ws s).woLatch = s.woLatch := by
  unfold pushResult; dsimp only; cases hd <;> simp only [Bool.false_eq_true, if_false, if_true] <;> split <;> simp
@[simp] theorem pushResult_logs (q kind : Nat) (hd : Bool) (ws : List Nat) (s : State) :
    (pushResult q kind hd ws s).logs = s.logs := by
  unfold pushResult; dsimp only; cases hd <;> simp only [Bool.false_eq_true, if_false, if_true] <;> split <;> simp
@[simp] theorem pushResult_out (q kind : Nat) (hd : Bool) (ws : List Nat) (s : State) :
    (pushResult q kind hd ws s).out = s.out := by
  unfold pushResult; dsimp only; cases hd <;> simp only [Bool.false_eq_true, if_false, if_true] <;> split <;> simp
@[simp] theorem pushResult_nextPid (q kind : Nat) (hd : Bool) (ws : List Nat) (s : State) :
    (pushResult q kind hd ws s).nextPid = s.nextPid := by
  unfold pushResult; dsimp only; cases hd <;> simp only [Bool.false_eq_true, if_false, if_true] <;> split <;> simp
@[simp] theorem pushResult_fiu (q kind : Nat) (hd : Bool) (ws : List Nat) (s : State) :
    (pushResult q kind hd ws s).fiu = s.fiu := by
  unfold pushResult; dsimp only; cases hd <;> simp only [Bool.false_eq_true, if_false, if_true] <;> split <;> simp
@[simp] theorem pushResult_egr (q kind : Nat) (hd : Bool) (ws : List Nat) (s : State) :
    (pushResult q kind hd ws s).egr = s.egr := by
  unfold pushResult; dsimp only; cases hd <;> simp only [Bool.false_eq_true, if_false, if_true] <;> split <;> simp
@[simp] theorem pushResult_tags (q kind : Nat) (hd : Bool) (ws : List Nat) (s : State) :
    (pushResult q kind hd ws s).tags = s.tags := by
  unfold pushResult; dsimp only; cases hd <;> simp only [Bool.false_eq_true, if_false, if_true] <;> split <;> simp
@[simp] theorem pushResult_apu (q kind : Nat) (hd : Bool) (ws : List Nat) (s : State) :
    (pushResult q kind hd ws s).apu = s.apu := by
  unfold pushResult; dsimp only; cases hd <;> simp only [Bool.false_eq_true, if_false, if_true] <;> split <;> simp
@[simp] theorem pushResult_stnMode (q kind : Nat) (hd : Bool) (ws : List Nat) (s : State) :
    (pushResult q kind hd ws s).stnMode = s.stnMode := by
  unfold pushResult; dsimp only; cases hd <;> simp only [Bool.false_eq_true, if_false, if_true] <;> split <;> simp
@[simp] theorem pushResult_known (q kind : Nat) (hd : Bool) (ws : List Nat) (s : State) :
    (pushResult q kind hd ws s).known = s.known := by
  unfold pushResult; dsimp only; cases hd <;> simp only [Bool.false_eq_true, if_false, if_true] <;> split <;> simp
@[simp] theorem pushResult_cross (q kind : Nat) (hd : Bool) (ws : List Nat) (s : State) :
    (pushResult q kind hd ws s).cross = s.cross := by
  unfold pushResult; dsimp only; cases hd <;> simp only [Bool.false_eq_true, if_false, if_true] <;> split <;> simp
@[simp] theorem pushResult_lights (q kind : Nat) (hd : Bool) (ws : List Nat) (s : State) :
    (pushResult q kind hd ws s).lights = s.lights := by
  unfold pushResult; dsimp only; cases hd <;> simp only [Bool.false_eq_true, if_false, if_true] <;> split <;> simp
@[simp] theorem pushResult_sched (q kind : Nat) (hd : Bool) (ws : List Nat) (s : State) :
    (pushResult q kind hd ws s).sched = s.sched := by
  unfold pushResult; dsimp only; cases hd <;> simp only [Bool.false_eq_true, if_false, if_true] <;> split <;> simp
@[simp] theorem pushResult_mail (q kind : Nat) (hd : Bool) (ws : List Nat) (s : State) :
    (pushResult q kind hd ws s).mail = s.mail := by
  unfold pushResult; dsimp only; cases hd <;> simp only [Bool.false_eq_true, if_false, if_true] <;> split <;> simp
@[simp] theorem pushResult_easel (q kind : Nat) (hd : Bool) (ws : List Nat) (s : State) :
    (pushResult q kind hd ws s).easel = s.easel := by
  unfold pushResult; dsimp only; cases hd <;> simp only [Bool.false_eq_true, if_false, if_true] <;> split <;> simp
@[simp] theorem pushResult_lan (q kind : Nat) (hd : Bool) (ws : List Nat) (s : State) :
    (pushResult q kind hd ws s).lan = s.lan := by
  unfold pushResult; dsimp only; cases hd <;> simp only [Bool.false_eq_true, if_false, if_true] <;> split <;> simp
@[simp] theorem pushResult_dp (q kind : Nat) (hd : Bool) (ws : List Nat) (s : State) :
    (pushResult q kind hd ws s).dp = s.dp := by
  unfold pushResult; dsimp only; cases hd <;> simp only [Bool.false_eq_true, if_false, if_true] <;> split <;> simp
@[simp] theorem pushResult_nextDp (q kind : Nat) (hd : Bool) (ws : List Nat) (s : State) :
    (pushResult q kind hd ws s).nextDp = s.nextDp := by
  unfold pushResult; dsimp only; cases hd <;> simp only [Bool.false_eq_true, if_false, if_true] <;> split <;> simp
@[simp] theorem pushResult_fifos (q kind : Nat) (hd : Bool) (ws : List Nat) (s : State) :
    (pushResult q kind hd ws s).fifos = s.fifos := by
  unfold pushResult; dsimp only; cases hd <;> simp only [Bool.false_eq_true, if_false, if_true] <;> split <;> simp
@[simp] theorem pushResult_arbs (q kind : Nat) (hd : Bool) (ws : List Nat) (s : State) :
    (pushResult q kind hd ws s).arbs = s.arbs := by
  unfold pushResult; dsimp only; cases hd <;> simp only [Bool.false_eq_true, if_false, if_true] <;> split <;> simp
@[simp] theorem pushResult_time (q kind : Nat) (hd : Bool) (ws : List Nat) (s : State) :
    (pushResult q kind hd ws s).time = s.time := by
  unfold pushResult; dsimp only; cases hd <;> simp only [Bool.false_eq_true, if_false, if_true] <;> split <;> simp
@[simp] theorem pushResult_jrnl (q kind : Nat) (hd : Bool) (ws : List Nat) (s : State) :
    (pushResult q kind hd ws s).jrnl = s.jrnl := by
  unfold pushResult; dsimp only; cases hd <;> simp only [Bool.false_eq_true, if_false, if_true] <;> split <;> simp
@[simp] theorem pushResult_prot (q kind : Nat) (hd : Bool) (ws : List Nat) (s : State) :
    (pushResult q kind hd ws s).prot = s.prot := by
  unfold pushResult; dsimp only; cases hd <;> simp only [Bool.false_eq_true, if_false, if_true] <;> split <;> simp
@[simp] theorem pushResult_fw (q kind : Nat) (hd : Bool) (ws : List Nat) (s : State) :
    (pushResult q kind hd ws s).fw = s.fw := by
  unfold pushResult; dsimp only; cases hd <;> simp only [Bool.false_eq_true, if_false, if_true] <;> split <;> simp
@[simp] theorem pushResult_stage (q kind : Nat) (hd : Bool) (ws : List Nat) (s : State) :
    (pushResult q kind hd ws s).stage = s.stage := by
  unfold pushResult; dsimp only; cases hd <;> simp only [Bool.false_eq_true, if_false, if_true] <;> split <;> simp
@[simp] theorem pushResult_keeper (q kind : Nat) (hd : Bool) (ws : List Nat) (s : State) :
    (pushResult q kind hd ws s).keeper = s.keeper := by
  unfold pushResult; dsimp only; cases hd <;> simp only [Bool.false_eq_true, if_false, if_true] <;> split <;> simp
@[simp] theorem pushResult_cal (q kind : Nat) (hd : Bool) (ws : List Nat) (s : State) :
    (pushResult q kind hd ws s).cal = s.cal := by
  unfold pushResult; dsimp only; cases hd <;> simp only [Bool.false_eq_true, if_false, if_true] <;> split <;> simp
@[simp] theorem pushResult_boot (q kind : Nat) (hd : Bool) (ws : List Nat) (s : State) :
    (pushResult q kind hd ws s).boot = s.boot := by
  unfold pushResult; dsimp only; cases hd <;> simp only [Bool.false_eq_true, if_false, if_true] <;> split <;> simp
@[simp] theorem pushResult_record (q kind : Nat) (hd : Bool) (ws : List Nat) (s : State) :
    (pushResult q kind hd ws s).record = s.record := by
  unfold pushResult; dsimp only; cases hd <;> simp only [Bool.false_eq_true, if_false, if_true] <;> split <;> simp
@[simp] theorem pushResult_objs (q kind : Nat) (hd : Bool) (ws : List Nat) (s : State) :
    (pushResult q kind hd ws s).objs = s.objs := by
  unfold pushResult; dsimp only; cases hd <;> simp only [Bool.false_eq_true, if_false, if_true] <;> split <;> simp
@[simp] theorem pushResult_place (q kind : Nat) (hd : Bool) (ws : List Nat) (s : State) :
    (pushResult q kind hd ws s).place = s.place := by
  unfold pushResult; dsimp only; cases hd <;> simp only [Bool.false_eq_true, if_false, if_true] <;> split <;> simp
@[simp] theorem pushResult_dikar (q kind : Nat) (hd : Bool) (ws : List Nat) (s : State) :
    (pushResult q kind hd ws s).dikar = s.dikar := by
  unfold pushResult; dsimp only; cases hd <;> simp only [Bool.false_eq_true, if_false, if_true] <;> split <;> simp
@[simp] theorem pushResult_coll (q kind : Nat) (hd : Bool) (ws : List Nat) (s : State) :
    (pushResult q kind hd ws s).coll = s.coll := by
  unfold pushResult; dsimp only; cases hd <;> simp only [Bool.false_eq_true, if_false, if_true] <;> split <;> simp
@[simp] theorem pushResult_tap (q kind : Nat) (hd : Bool) (ws : List Nat) (s : State) :
    (pushResult q kind hd ws s).tap = s.tap := by
  unfold pushResult; dsimp only; cases hd <;> simp only [Bool.false_eq_true, if_false, if_true] <;> split <;> simp

end Sys2Proof.Machine
end

