-- ==== Sys2Proof/Laws/Tables.lean ====
section
/-!
SUPPORT. Read after write for the sparse tables, the register fields and Easel's bytes, and the canonical form that every
write of bytes keeps.
-/
namespace Sys2Proof.Machine

/-! Sparse tables: no order of the entries is asked for. -/

theorem tgetBy_filter_self {κ α : Type} [DecidableEq κ] (d : α) (t : List (κ × α)) (k : κ) :
    tgetBy d (t.filter (fun p => decide (p.1 ≠ k))) k = d := by
  induction t with
  | nil => rfl
  | cons p r ih => by_cases h : p.1 = k <;> simp_all [tgetBy]

theorem tgetBy_filter_other {κ α : Type} [DecidableEq κ] (d : α) (t : List (κ × α)) (k j : κ) (hj : j ≠ k) :
    tgetBy d (t.filter (fun p => decide (p.1 ≠ k))) j = tgetBy d t j := by
  induction t with
  | nil => rfl
  | cons p r ih =>
    by_cases h : p.1 = k
    · have h2 : p.1 ≠ j := fun e => hj (e ▸ h)
      simp_all [tgetBy]
    · by_cases h2 : p.1 = j <;> simp_all [tgetBy]

theorem tgetBy_tinsBy_self {κ α : Type} [DecidableEq κ] (code : κ → Nat) (d : α) (t : List (κ × α)) (k : κ) (v : α) :
    tgetBy d (tinsBy code t k v) k = v := by
  induction t with
  | nil => simp [tinsBy, tgetBy]
  | cons p r ih =>
    unfold tinsBy
    split
    · simp [tgetBy]
    · split
      · simp [tgetBy]
      · simp_all [tgetBy]

theorem tgetBy_tinsBy_other {κ α : Type} [DecidableEq κ] (code : κ → Nat) (d : α) (t : List (κ × α)) (k j : κ) (v : α)
    (hj : j ≠ k) : tgetBy d (tinsBy code t k v) j = tgetBy d t j := by
  induction t with
  | nil => simp [tinsBy, tgetBy, Ne.symm hj]
  | cons p r ih =>
    unfold tinsBy
    split
    · simp_all [tgetBy, Ne.symm hj]
    · split
      · simp [tgetBy, Ne.symm hj]
      · simp [tgetBy, ih]

@[simp] theorem tgetBy_tputBy_self {κ α : Type} [DecidableEq κ] [DecidableEq α] (code : κ → Nat) (d : α)
    (t : List (κ × α)) (k : κ) (v : α) : tgetBy d (tputBy code d t k v) k = v := by
  unfold tputBy
  split
  · rw [tgetBy_filter_self]; exact Eq.symm ‹_›
  · exact tgetBy_tinsBy_self code d t k v

/-- A write at one key leaves every other key, whatever default the reader takes. -/
theorem tgetBy_tputBy_other {κ α : Type} [DecidableEq κ] [DecidableEq α] (code : κ → Nat) (d e : α)
    (t : List (κ × α)) (k j : κ) (v : α) (hj : j ≠ k) : tgetBy e (tputBy code d t k v) j = tgetBy e t j := by
  unfold tputBy
  split
  · exact tgetBy_filter_other e t k j hj
  · exact tgetBy_tinsBy_other code e t k j v hj

@[simp] theorem tget_tput_self {α : Type} [DecidableEq α] (d : α) (t : Table α) (k : Nat) (v : α) :
    tget d (tput d t k v) k = v := tgetBy_tputBy_self _ d t k v

theorem tget_tput_other {α : Type} [DecidableEq α] (d : α) (t : Table α) (k j : Nat) (v : α) (hj : j ≠ k) :
    tget d (tput d t k v) j = tget d t j := tgetBy_tputBy_other _ d d t k j v hj

@[simp] theorem PerHalf.at_put_self {α : Type} (p : PerHalf α) (h : Half) (v : α) : (p.put h v).at h = v := by
  cases h <;> rfl

@[simp] theorem PerHalf.at_put_twin {α : Type} (p : PerHalf α) (h : Half) (v : α) :
    (p.put h v).at h.twin = p.at h.twin := by
  cases h <;> rfl

/-! Register fields. -/

@[simp] theorem rdI_wrI_self (s : State) (P : Nat) (f : Fld) (i v : Nat) :
    rdI (wrI P f i v s) P f i = v % 2 ^ f.w := tgetBy_tputBy_self _ _ _ _ _

theorem rdI_wrI_other (s : State) (P Q : Nat) (f g : Fld) (i j v : Nat) (h : g.key Q j ≠ f.key P i) :
    rdI (wrI P f i v s) Q g j = rdI s Q g j := tgetBy_tputBy_other _ _ _ _ _ _ _ h

@[simp] theorem rd_wr_self (s : State) (P : Nat) (f : Fld) (v : Nat) : rd (wr P f v s) P f = v % 2 ^ f.w :=
  rdI_wrI_self s P f 0 v

theorem rd_wr_other (s : State) (P Q : Nat) (f g : Fld) (v : Nat) (h : g.key Q 0 ≠ f.key P 0) :
    rd (wr P f v s) Q g = rd s Q g := rdI_wrI_other s P Q f g 0 0 v h

/-! Easel's bytes. -/

@[simp] theorem cellGet_cellPut_self (a : Nat) (v : Byte) (m : List Host.Cell) (hm : Memory.wf m) :
    cellGet a (cellPut a v m) = v := by
  induction m with
  | nil => by_cases h : v = ezBlank <;> simp [cellPut, cellGet, h]
  | cons c r ih =>
    obtain ⟨b, w⟩ := c
    have hr : Memory.wf r := by
      cases r with
      | nil => rfl
      | cons d q => simp only [Memory.wf, Bool.and_eq_true] at hm; exact hm.2
    unfold cellPut
    split
    · rename_i h; simp [cellGet, Nat.ne_of_lt h, h, ih hr]
    · split
      · rename_i h1 h2
        subst h2
        split
        · rename_i hv
          cases r with
          | nil => simp [cellGet, hv]
          | cons d q =>
            simp only [Memory.wf, Bool.and_eq_true, decide_eq_true_eq] at hm
            have : ¬ d.1 = b := by omega
            have : ¬ d.1 < b := by omega
            simp_all [cellGet]
        · simp [cellGet]
      · rename_i h1 h2
        split
        · rename_i hv; simp [cellGet, h1, h2, hv]
        · simp [cellGet]

theorem cellGet_head_other (a b : Nat) (w : Byte) (r : List Host.Cell) (hm : Memory.wf ((b, w) :: r)) (hb : a ≤ b) :
    cellGet a r = ezBlank := by
  cases r with
  | nil => rfl
  | cons d q =>
    simp only [Memory.wf, Bool.and_eq_true, decide_eq_true_eq] at hm
    have : ¬ d.1 = a := by omega
    have : ¬ d.1 < a := by omega
    simp_all [cellGet]

theorem cellGet_cellPut_other (a b : Nat) (v : Byte) (m : List Host.Cell) (hm : Memory.wf m) (hb : b ≠ a) :
    cellGet b (cellPut a v m) = cellGet b m := by
  induction m with
  | nil => by_cases h : v = ezBlank <;> simp [cellPut, cellGet, h, Ne.symm hb]
  | cons c r ih =>
    obtain ⟨k, w⟩ := c
    have hr : Memory.wf r := by
      cases r with
      | nil => rfl
      | cons d q => simp only [Memory.wf, Bool.and_eq_true] at hm; exact hm.2
    unfold cellPut
    split
    · simp [cellGet, ih hr]
    · split
      · rename_i h1 h2
        subst h2
        split
        · simp only [cellGet, Ne.symm hb, if_false]
          split
          · rfl
          · exact cellGet_head_other b k w r hm (by omega)
        · simp [cellGet, Ne.symm hb]
      · rename_i h1 h2
        split
        · rfl
        · simp only [cellGet, Ne.symm hb, if_false]
          split
          · rfl
          · rename_i h3
            have h4 : ¬ k = b := by omega
            have h5 : ¬ k < b := by omega
            simp [h4, h5]

/-- The first address of a canonical list after a write is the old one or the one written. -/
theorem cellPut_wf_lt (k a : Nat) (w v : Byte) (m : List Host.Cell) (hw : Memory.wf ((k, w) :: m)) (ha : k < a) :
    Memory.wf ((k, w) :: cellPut a v m) := by
  induction m generalizing k w with
  | nil =>
    simp only [Memory.wf, decide_eq_true_eq] at hw
    unfold cellPut
    split <;> simp_all [Memory.wf]
  | cons c r ih =>
    obtain ⟨b, x⟩ := c
    simp only [Memory.wf, Bool.and_eq_true, decide_eq_true_eq] at hw
    unfold cellPut
    split
    · rename_i h
      simp only [Memory.wf, Bool.and_eq_true, decide_eq_true_eq]
      exact ⟨hw.1, ih b x hw.2 h⟩
    · split
      · rename_i h1 h2
        subst h2
        split
        · cases r with
          | nil => simp_all [Memory.wf]
          | cons d q =>
            simp only [Memory.wf, Bool.and_eq_true, decide_eq_true_eq] at hw ⊢
            exact ⟨⟨hw.1.1, by omega⟩, hw.2.2⟩
        · cases r with
          | nil => simp_all [Memory.wf]
          | cons d q =>
            simp only [Memory.wf, Bool.and_eq_true, decide_eq_true_eq] at hw ⊢
            exact ⟨hw.1, ⟨by assumption, hw.2.1.2⟩, hw.2.2⟩
      · rename_i h1 h2
        split
        · simp only [Memory.wf, Bool.and_eq_true, decide_eq_true_eq]; exact hw
        · simp only [Memory.wf, Bool.and_eq_true, decide_eq_true_eq]
          exact ⟨⟨hw.1.1, ha⟩, ⟨by assumption, by omega⟩, hw.2⟩

/-- A byte write keeps the canonical form. -/
theorem cellPut_wf (a : Nat) (v : Byte) (m : List Host.Cell) (hm : Memory.wf m) : Memory.wf (cellPut a v m) := by
  cases m with
  | nil => unfold cellPut; split <;> simp_all [Memory.wf]
  | cons c r =>
    obtain ⟨b, x⟩ := c
    unfold cellPut
    split
    · rename_i h; exact cellPut_wf_lt b a x v r hm h
    · split
      · split
        · cases r with
          | nil => rfl
          | cons d q => simp only [Memory.wf, Bool.and_eq_true] at hm; exact hm.2
        · rename_i h1 h2 h3
          subst h2
          cases r with
          | nil => simp_all [Memory.wf]
          | cons d q =>
            simp only [Memory.wf, Bool.and_eq_true, decide_eq_true_eq] at hm ⊢
            exact ⟨⟨h3, hm.1.2⟩, hm.2⟩
      · split
        · exact hm
        · rename_i h1 h2 h3
          simp only [Memory.wf, Bool.and_eq_true, decide_eq_true_eq]
          exact ⟨⟨h3, by omega⟩, hm⟩

theorem cellPuts_wf (a : Nat) (bs : List Byte) (m : List Host.Cell) (hm : Memory.wf m) :
    Memory.wf (cellPuts a bs m) := by
  induction bs generalizing a m with
  | nil => exact hm
  | cons v vs ih => exact ih (a + 1) (cellPut a v m) (cellPut_wf a v m hm)

theorem ezWrite_wf (a : Nat) (bs : List Byte) (s : State) (hm : Memory.wf s.easel) :
    Memory.wf (ezWrite a bs s).easel := cellPuts_wf a bs s.easel hm

/-- A run of writes leaves every byte outside the run. -/
theorem cellGet_cellPuts_other (a b : Nat) (bs : List Byte) (m : List Host.Cell) (hm : Memory.wf m)
    (hb : b < a ∨ a + bs.length ≤ b) : cellGet b (cellPuts a bs m) = cellGet b m := by
  induction bs generalizing a m with
  | nil => rfl
  | cons v vs ih =>
    simp only [List.length_cons] at hb
    rw [cellPuts, ih (a + 1) (cellPut a v m) (cellPut_wf a v m hm) (by omega),
      cellGet_cellPut_other a b v m hm (by omega)]

end Sys2Proof.Machine
end

