-- ==== Sys2Proof/Laws/Ops.lean ====
section
/-!
SUPPORT. What the shared operations do, said once: events, counters, refusals, register accesses of live and dead pages,
and the settling of what the units tell each other.
-/
namespace Sys2Proof.Machine

/-! Events change their two registers and the list of strikes. -/

theorem rdI_raiseTo_other (src P b : Nat) (s : State) (Q : Nat) (g : Fld) (j : Nat)
    (h1 : g.key Q j ≠ R.EVT_RAW.key P 0) (h2 : g.key Q j ≠ R.EVT_PEND.key P 0) :
    rdI (raiseTo src P b s) Q g j = rdI s Q g j := by
  unfold raiseTo
  dsimp only
  split
  · show rdI (wr P R.EVT_PEND _ _) Q g j = _
    unfold wr
    rw [rdI_wrI_other _ _ _ _ _ _ _ _ h2, rdI_wrI_other _ _ _ _ _ _ _ _ h1]
  · unfold wr
    rw [rdI_wrI_other _ _ _ _ _ _ _ _ h1]

theorem rdI_raise_other (P b : Nat) (s : State) (Q : Nat) (g : Fld) (j : Nat)
    (h1 : g.key Q j ≠ R.EVT_RAW.key P 0) (h2 : g.key Q j ≠ R.EVT_PEND.key P 0) :
    rdI (raise P b s) Q g j = rdI s Q g j := rdI_raiseTo_other _ P b s Q g j h1 h2

theorem rdI_raiseIf_other (c : Bool) (P b : Nat) (s : State) (Q : Nat) (g : Fld) (j : Nat)
    (h1 : g.key Q j ≠ R.EVT_RAW.key P 0) (h2 : g.key Q j ≠ R.EVT_PEND.key P 0) :
    rdI (raiseIf c P b s) Q g j = rdI s Q g j := by
  unfold raiseIf
  split
  · exact rdI_raise_other P b s Q g j h1 h2
  · rfl

theorem rdI_bumpBy_other (P : Nat) (f : Fld) (k : Nat) (s : State) (Q : Nat) (g : Fld) (j : Nat)
    (h : g.key Q j ≠ f.key P 0) : rdI (bumpBy P f k s) Q g j = rdI s Q g j := by
  unfold bumpBy
  split
  · rfl
  · exact rdI_wrI_other _ _ _ _ _ _ _ _ h

/-- A counter that is not frozen grows by `k` and saturates (R490). -/
theorem rd_bumpBy_self (P : Nat) (f : Fld) (k : Nat) (s : State) (hF : rdB s P R.CTRL_FREEZE = false) :
    rd (bumpBy P f k s) P f = min (rd s P f + k) (2 ^ f.w - 1) := by
  unfold bumpBy
  rw [hF, if_neg (by simp), rd_wr_self]
  exact Nat.mod_eq_of_lt (by have : 0 < 2 ^ f.w := Nat.two_pow_pos _; omega)

/-- What `clearAll` does to a field outside its list. -/
theorem rdI_clearAll_other (P : Nat) (fs : List Fld) (s : State) (Q : Nat) (g : Fld) (j : Nat)
    (h : ∀ f ∈ fs, g.key Q j ≠ f.key P 0) : rdI (clearAll P fs s) Q g j = rdI s Q g j := by
  induction fs generalizing s with
  | nil => rfl
  | cons f r ih =>
    show rdI (clearAll P r (wr P f 0 s)) Q g j = _
    rw [ih (wr P f 0 s) (fun f' hf => h f' (List.mem_cons_of_mem f hf))]
    exact rdI_wrI_other _ _ _ _ _ _ _ _ (h f (List.mem_cons_self ..))

/-! Accesses of live and dead pages (R489). -/

theorem onPage_live (P off : Nat) (f : State → State) (s : State) (h : pageLive s P = true) :
    onPage P off f s = f { s with woLatch := s.woLatch.filter (fun e => e.1 != P) } := by
  unfold onPage; rw [if_pos h]

theorem onPage_dead (P off : Nat) (f : State → State) (s : State) (h : pageLive s P = false) :
    onPage P off f s = barErr 4 (barOff P off) s := by
  unfold onPage; rw [if_neg (by simp [h])]

/-! Settling. -/

/-- Where nothing is to be told and nothing waits, settling changes nothing. -/
theorem settle_quiet (s : State) (h : quiet s = true) : settle s = s := by
  unfold settle; rw [if_pos h]

/-- Only these parts of the state decide whether something is left to settle. -/
theorem quiet_congr (s t : State) (h1 : t.mail = s.mail) (h2 : t.cross = s.cross) (h3 : t.sched = s.sched)
    (h4 : t.coll = s.coll) (h5 : t.boot = s.boot) (h6 : t.lan = s.lan) (h7 : t.dp = s.dp) (h8 : t.apu = s.apu) :
    quiet t = quiet s := by
  unfold quiet quietHalf halfState
  rw [h1, h2, h3, h4, h5, h6, h7, h8]

/-! The journal. -/

/-- A step is one record or more and takes at most half of the journal (R380, R381). -/
theorem stepShape_le (s : State) : 1 ≤ (stepShape s).1 ∧ (stepShape s).1 ≤ (stepShape s).2 ∧ (stepShape s).2 ≤ 2 ^ 25 := by
  unfold stepShape
  dsimp only
  have h1 : (Config.jrnlShape s.freeSeq).1 % 2 ^ 19 < 2 ^ 19 := Nat.mod_lt _ (by decide)
  have h2 := Nat.mod_lt (Config.jrnlShape s.freeSeq).2
    (show 0 < 63 * ((Config.jrnlShape s.freeSeq).1 % 2 ^ 19 + 1) + 1 by omega)
  omega

/-! One step. -/

theorem step_cons (s : State) (c : Instr) (r : List Instr) (h : s.pending = c :: r) :
    step s = exec c { s with pending := r } := by
  unfold step; rw [h]

end Sys2Proof.Machine
end

