-- ==== Sys2Proof/Laws/Regs.lean ====
section
/-!
SUPPORT. Which registers each shared operation leaves alone.
-/
namespace Sys2Proof.Machine

theorem RegsKept.refl (ex : List (Nat × Nat)) (s : State) : RegsKept ex s s := fun _ _ _ => rfl

theorem RegsKept.trans {ex : List (Nat × Nat)} {s t u : State} (h1 : RegsKept ex s t) (h2 : RegsKept ex t u) :
    RegsKept ex s u := fun k d h => (h2 k d h).trans (h1 k d h)

theorem RegsKept.mono {ex ey : List (Nat × Nat)} {s t : State} (h : RegsKept ex s t) (hs : ∀ p ∈ ex, p ∈ ey) :
    RegsKept ey s t := fun k d hk => h k d (fun hm => hk (hs _ hm))

theorem RegsKept.of_eq {ex : List (Nat × Nat)} {s t : State} (h : t.regs = s.regs) : RegsKept ex s t :=
  fun k d _ => by rw [h]

/-- What a kept register says of a field. -/
theorem RegsKept.rdI {ex : List (Nat × Nat)} {s t : State} (h : RegsKept ex s t) (P : Nat) (f : Fld) (i : Nat)
    (hk : (P, f.off) ∉ ex) : rdI t P f i = rdI s P f i := h (f.key P i) f.rst hk

theorem RegsKept.rd {ex : List (Nat × Nat)} {s t : State} (h : RegsKept ex s t) (P : Nat) (f : Fld)
    (hk : (P, f.off) ∉ ex) : rd t P f = rd s P f := h.rdI P f 0 hk

theorem wrI_kept (P : Nat) (f : Fld) (i v : Nat) (s : State) : RegsKept [(P, f.off)] s (wrI P f i v s) := by
  intro k d hk
  refine tgetBy_tputBy_other _ _ _ _ _ _ _ ?_
  rintro rfl
  exact hk (List.mem_singleton.mpr rfl)

theorem wr_kept (P : Nat) (f : Fld) (v : Nat) (s : State) : RegsKept [(P, f.off)] s (wr P f v s) := wrI_kept P f 0 v s

theorem raiseTo_kept (src P b : Nat) (s : State) : RegsKept (evtRegs P) s (raiseTo src P b s) := by
  have h1 := (wr_kept P R.EVT_RAW (rd s P R.EVT_RAW ||| 2 ^ b) s).mono (ey := evtRegs P) (by simp [evtRegs])
  unfold raiseTo
  dsimp only
  split
  · exact h1.trans ((wr_kept P R.EVT_PEND _ _).mono (ey := evtRegs P) (by simp [evtRegs]))
  · exact h1

theorem raise_kept (P b : Nat) (s : State) : RegsKept (evtRegs P) s (raise P b s) := raiseTo_kept _ P b s

theorem raiseIf_kept (c : Bool) (P b : Nat) (s : State) : RegsKept (evtRegs P) s (raiseIf c P b s) := by
  unfold raiseIf
  split
  · exact raise_kept P b s
  · exact RegsKept.refl _ s

theorem bumpBy_kept (P : Nat) (f : Fld) (k : Nat) (s : State) : RegsKept [(P, f.off)] s (bumpBy P f k s) := by
  unfold bumpBy
  split
  · exact RegsKept.refl _ s
  · exact wr_kept P f _ s

theorem bump_kept (P : Nat) (f : Fld) (s : State) : RegsKept [(P, f.off)] s (bump P f s) := bumpBy_kept P f 1 s

theorem clearAll_kept (P : Nat) (fs : List Fld) (s : State) : RegsKept (fs.map (fun f => (P, f.off))) s (clearAll P fs s) := by
  induction fs generalizing s with
  | nil => exact RegsKept.refl _ s
  | cons f r ih =>
    exact ((wr_kept P f 0 s).mono (by simp)).trans ((ih (wr P f 0 s)).mono (by simp_all))

/-- A field of the list reads 0 after `clearAll`, where no two fields of the list share a place. -/
theorem rd_clearAll_self (P : Nat) (fs : List Fld) (s : State) (f : Fld) (hf : f ∈ fs)
    (hn : (fs.map (fun g => (g.off, g.lo))).Nodup) : rd (clearAll P fs s) P f = 0 := by
  induction fs generalizing s with
  | nil => simp at hf
  | cons g r ih =>
    simp only [List.map_cons, List.nodup_cons] at hn
    by_cases h : f ∈ r
    · exact ih (wr P g 0 s) h hn.2
    · have e : f = g := by simp_all
      subst e
      have := rdI_clearAll_other P r (wr P f 0 s) P f 0 (by
        intro f' hf' hk
        simp only [Fld.key, RKey.mk.injEq] at hk
        exact hn.1 (List.mem_map.mpr ⟨f', hf', by simp [hk.2.1, hk.2.2.1]⟩))
      show rdI (clearAll P r (wr P f 0 s)) P f 0 = 0
      rw [this]
      show rd (wr P f 0 s) P f = 0
      rw [rd_wr_self]; simp

end Sys2Proof.Machine
end

