-- ==== Sys2Proof/Laws/Fabric.lean ====
section
/-!
SUPPORT. What the egress choice of a half does: it moves packets between its own waiting list and the transmit queues,
and raises its own events; links, replay buffers and everything else stay.
-/
namespace Sys2Proof.Machine

/-- What any work of the egress choices leaves alone. -/
structure EgrStep (s t : State) : Prop where
  frame : t = { s with
    regs := t.regs, fiu := t.fiu, egr := t.egr, strikes := t.strikes }
  regs : RegsKept egrRegs s t
  port : ∀ n, ∃ q, fiuGet t n = { fiuGet s n with txq := q }

theorem EgrStep.refl (s : State) : EgrStep s s := ⟨rfl, RegsKept.refl _ s, fun _ => ⟨_, rfl⟩⟩

theorem EgrStep.trans {s t u : State} (h1 : EgrStep s t) (h2 : EgrStep t u) : EgrStep s u := by
  refine ⟨?_, h1.regs.trans h2.regs, fun n => ?_⟩
  · have e1 := h1.frame
    have e2 := h2.frame
    rw [e1] at e2
    exact e2
  · obtain ⟨q1, e1⟩ := h1.port n
    obtain ⟨q2, e2⟩ := h2.port n
    exact ⟨q2, by rw [e2, e1]⟩

theorem egrMod_step (h : Half) (f : Egress → Egress) (s : State) : EgrStep s (egrMod h f s) :=
  ⟨rfl, RegsKept.of_eq rfl, fun _ => ⟨_, rfl⟩⟩

theorem raise_egr_step (h : Half) (b : Nat) (s : State) : EgrStep s (raise (pgEgress h) b s) := by
  refine ⟨?_, (raise_kept _ b s).mono ?_, fun n => ⟨(fiuGet s n).txq, ?_⟩⟩
  · show _ = _
    unfold raise raiseTo
    dsimp only
    split <;> rfl
  · intro p hp; cases h <;> simp_all [egrRegs]
  · unfold fiuGet; rw [raise_fiu]

theorem raiseIf_egr_step (c : Bool) (h : Half) (b : Nat) (s : State) : EgrStep s (raiseIf c (pgEgress h) b s) := by
  unfold raiseIf
  split
  · exact raise_egr_step h b s
  · exact EgrStep.refl s

theorem fiuGet_fiuMod (n m : Nat) (f : FiuPort → FiuPort) (s : State) :
    fiuGet (fiuMod n f s) m = if m = n then f (fiuGet s n) else fiuGet s m := by
  unfold fiuMod fiuGet
  split
  · rename_i h; subst h; exact tget_tput_self _ _ _ _
  · rename_i h; exact tget_tput_other _ _ _ _ _ h

theorem txEnqueue_step (n : Nat) (q : QPkt) (s : State) : EgrStep s (txEnqueue n q s) := by
  refine ⟨rfl, RegsKept.of_eq rfl, fun m => ?_⟩
  unfold txEnqueue
  rw [fiuGet_fiuMod]
  split
  · rename_i h; subst h; exact ⟨_, rfl⟩
  · exact ⟨_, rfl⟩

theorem egrWait_step (q : QPkt) (e : Bool) (s : State) : EgrStep s (egrWait q e s) :=
  (egrMod_step _ _ s).trans (raiseIf_egr_step _ _ _ _)

theorem egrPut_step (q : QPkt) (s : State) : EgrStep s (egrPut q s) := by
  unfold egrPut
  dsimp only
  split
  · exact egrWait_step q true s
  · split
    · split
      · exact egrWait_step q false s
      · exact txEnqueue_step _ q s
    · split
      · exact (egrMod_step _ _ s).trans (txEnqueue_step _ q _)
      · exact txEnqueue_step _ q s

theorem egrPuts_step (ws : List QPkt) (s : State) : EgrStep s (ws.foldl (fun t q => egrPut q t) s) := by
  induction ws generalizing s with
  | nil => exact EgrStep.refl s
  | cons w r ih => exact (egrPut_step w s).trans (ih (egrPut w s))

theorem egrDrain_step (h : Half) (s : State) : EgrStep s (egrDrain h s) :=
  (egrMod_step _ _ s).trans (egrPuts_step _ _)

theorem egrAfterHalf_step (h : Half) (old : List Nat) (s : State) : EgrStep s (egrAfterHalf h old s) := by
  unfold egrAfterHalf
  dsimp only
  split
  · exact EgrStep.refl s
  · exact ((egrMod_step _ _ s).trans (raise_egr_step _ _ _)).trans (egrDrain_step h _)

theorem withEgress_step (f : State → State) (s : State) : EgrStep (f s) (withEgress f s) :=
  (egrAfterHalf_step .west _ (f s)).trans (egrAfterHalf_step .east _ _)

theorem resend_step (qs : List QPkt) (s : State) : EgrStep s (resend qs s) :=
  ((egrMod_step _ _ s).trans (egrDrain_step .west _)).trans ((egrMod_step _ _ _).trans (egrDrain_step .east _))

theorem sendPkt_step (h : Half) (pkt : Packet) (s : State) : EgrStep { s with nextPid := s.nextPid + 1 } (sendPkt h pkt s) :=
  egrPut_step _ _

end Sys2Proof.Machine
end

