-- ==== Sys2Proof/Tests/Slice0.lean ====
section
/-!
SUPPORT. Tests: ill-formed commands are refused by the check of well-formedness, commands do on small states what the rules
say, and every hypothesis of the statements can be met.
-/
namespace Sys2Proof.Machine
/- One test after another: the kernel's work on one waits for all before it, and waiting threads hold their stacks. -/
set_option Elab.async false

/-! Ill-formed commands, one for each check of `Instr.wf`, are refused. -/

theorem test_ill_formed_1 :
    (∀ cw, (.codewordReceive 16 cw : Instr).wf = false) ∧
    (∀ n, (.codewordReceive n ⟨0, [], 0⟩ : Instr).wf = false) ∧
    (∀ n, (.codewordReceive n ⟨0, [[0], [], [], []], 0⟩ : Instr).wf = false) ∧
    ((.replayTimeout 16 : Instr).wf = false) ∧
    (∀ vc, (.packetSend 16 vc : Instr).wf = false) ∧
    (∀ n, (.packetSend n 6 : Instr).wf = false) ∧
    ((.downWaitExpiry 16 : Instr).wf = false) ∧
    (∀ lanes, (.trainComplete 16 lanes : Instr).wf = false) ∧
    (∀ n, (.trainComplete n 256 : Instr).wf = false) ∧
    ((.trainNoSignal 16 : Instr).wf = false) ∧
    ((.alignLock 16 : Instr).wf = false) ∧
    ((.alignTimeout 16 : Instr).wf = false) ∧
    ((.initTimeout 16 : Instr).wf = false) ∧
    ((.recoverTimeout 16 : Instr).wf = false) ∧
    (∀ lane, (.linkSignalLoss 16 lane : Instr).wf = false) ∧
    (∀ n, (.linkSignalLoss n 8 : Instr).wf = false) ∧
    ((.lowpwrWakeTimeout 16 : Instr).wf = false) ∧
    (∀ en path, (.fiuEnWrite 16 en path : Instr).wf = false) ∧
    ((.fiuRetrain 16 : Instr).wf = false) ∧
    (∀ v, (.lpReqWrite 16 v : Instr).wf = false) ∧
    ((.fiuCntClr 16 : Instr).wf = false) ∧
    ((.rxPw 16 : Instr).wf = false) ∧
    ((.rxNpw 16 : Instr).wf = false) ∧
    ((.rxRd 16 : Instr).wf = false) := by
  simp [Instr.wf]

theorem test_ill_formed_2 :
    ((.rxAmo 16 : Instr).wf = false) ∧
    ((.rxRsp 16 : Instr).wf = false) ∧
    (∀ h, (.rspTimeout h 65536 : Instr).wf = false) ∧
    (∀ h, (.tagQuarantineEnd h 65536 : Instr).wf = false) ∧
    (∀ h, (.egrPortMaskWrite h 256 : Instr).wf = false) ∧
    (∀ h, (.flowSettleExpiry h (2 ^ 20) : Instr).wf = false) ∧
    (∀ en, (.apuEnWrite 64 en : Instr).wf = false) ∧
    (∀ hold, (.apuHoldWrite 64 hold : Instr).wf = false) ∧
    ((.trainStart 64 : Instr).wf = false) ∧
    ((.enumStart 64 : Instr).wf = false) ∧
    ((.autoTrainExpiry 64 : Instr).wf = false) ∧
    ((.atnTrainNoSignal 64 : Instr).wf = false) ∧
    ((.atnLockTimeout 64 : Instr).wf = false) ∧
    (∀ lane good w, (.trnWordReceive 64 lane good w : Instr).wf = false) ∧
    (∀ n good w, (.trnWordReceive n 9 good w : Instr).wf = false) ∧
    ((.enumTimeout 64 : Instr).wf = false) ∧
    (∀ w, (.enumEnd 64 w : Instr).wf = false) ∧
    ((.enumDone 64 : Instr).wf = false) ∧
    ((.parityError 64 : Instr).wf = false) ∧
    ((.atnSignalLoss 64 : Instr).wf = false) ∧
    (∀ w, (.flowReceive 64 w : Instr).wf = false) ∧
    (∀ w, (.laneReceive 64 w : Instr).wf = false) ∧
    ((.steerTimeout 64 : Instr).wf = false) ∧
    (∀ w ws, (.atnRxTxnWr 64 w ws : Instr).wf = false) := by
  simp [Instr.wf]

theorem test_ill_formed_3 :
    (∀ w ws, (.atnRxRsp 64 w ws : Instr).wf = false) ∧
    (∀ stn tn, (.atnRdTimeout 64 stn tn : Instr).wf = false) ∧
    (∀ n tn, (.atnRdTimeout n 16 tn : Instr).wf = false) ∧
    (∀ n stn, (.atnRdTimeout n stn 64 : Instr).wf = false) ∧
    (∀ stn tn, (.tnQuarantineEnd 64 stn tn : Instr).wf = false) ∧
    (∀ n tn, (.tnQuarantineEnd n 16 tn : Instr).wf = false) ∧
    (∀ n stn, (.tnQuarantineEnd n stn 64 : Instr).wf = false) ∧
    (∀ w ws, (.atnRxInt 64 w ws : Instr).wf = false) ∧
    (∀ w ws, (.atnRxBeacon 64 w ws : Instr).wf = false) ∧
    (∀ w ws, (.atnRxVerify 64 w ws : Instr).wf = false) ∧
    (∀ w ws, (.atnRxWrErr 64 w ws : Instr).wf = false) ∧
    (∀ w ws, (.atnRxUnitState 64 w ws : Instr).wf = false) ∧
    (∀ w ws, (.atnRxStationFault 64 w ws : Instr).wf = false) ∧
    ((.tsyncSend 64 : Instr).wf = false) ∧
    ((.apuCntClr 64 : Instr).wf = false) ∧
    (∀ h, (.palProbe h (2 ^ 64) : Instr).wf = false) ∧
    (∀ h mask, (.palHaltClear h 16 mask : Instr).wf = false) ∧
    ((.lockTimeout 64 : Instr).wf = false) ∧
    ((.lockBudgetBreak 64 : Instr).wf = false) ∧
    ((.intRelease 64 : Instr).wf = false) ∧
    ((.lightIndexTimeout 16384 : Instr).wf = false) ∧
    ((.driftRevsExpiry 16384 : Instr).wf = false) ∧
    (∀ hold, (.llHoldWrite 16384 hold : Instr).wf = false) ∧
    (∀ en, (.tsyncEnWrite 64 en : Instr).wf = false) := by
  simp [Instr.wf]

theorem test_ill_formed_4 :
    (∀ h path, (.llUnbind h 16384 path : Instr).wf = false) ∧
    (∀ h on, (.subEnable h 1024 on : Instr).wf = false) ∧
    (∀ h, (.subIntervalExpiry h 1024 : Instr).wf = false) ∧
    ((.streamOpen 16384 : Instr).wf = false) ∧
    ((.streamClose 16384 : Instr).wf = false) ∧
    (∀ h, (.streamChunkOffer h 256 : Instr).wf = false) ∧
    (∀ h, (.streamFill h 256 : Instr).wf = false) ∧
    (∀ h, (.spinUpIssue h 256 : Instr).wf = false) ∧
    ((.spinDownIdle 16384 : Instr).wf = false) ∧
    ((.dikarReq 16 : Instr).wf = false) ∧
    ((.ctxCloseFinish (2 ^ 20) : Instr).wf = false) ∧
    (∀ h, (.ovfTimeout h (2 ^ 20) : Instr).wf = false) ∧
    ((.cqRecordWrite (2 ^ 20) : Instr).wf = false) ∧
    ((.cqPiWrite (2 ^ 20) : Instr).wf = false) ∧
    ((.cqCiWrite 16 : Instr).wf = false) ∧
    ((.ringPiWrite 16 : Instr).wf = false) ∧
    ((.ringDescWrite 16 : Instr).wf = false) ∧
    ((.ringPoll 65536 : Instr).wf = false) ∧
    ((.ringIdle 65536 : Instr).wf = false) ∧
    (∀ h, (.collDeadline h 512 : Instr).wf = false) ∧
    (∀ h, (.collEffect h 512 : Instr).wf = false) ∧
    (∀ h, (.collNotify h 512 : Instr).wf = false) ∧
    (∀ h tag, (.lingerExpiry h (2 ^ 64) tag : Instr).wf = false) ∧
    (∀ h obj, (.lingerExpiry h obj (2 ^ 64) : Instr).wf = false) := by
  simp [Instr.wf]

theorem test_ill_formed_5 :
    (∀ line errs both, (.patrolRead 8 line errs both : Instr).wf = false) ∧
    (∀ stack line both, (.patrolRead stack line [0] both : Instr).wf = false) ∧
    ((.wearGapCopy 8 : Instr).wf = false) ∧
    ((.scrubInsert 16384 : Instr).wf = false) ∧
    ((.scrubLate 16384 : Instr).wf = false) ∧
    ((.repairDelayExpiry 16384 : Instr).wf = false) ∧
    (∀ h, (.gessoAbort h 8 : Instr).wf = false) ∧
    (∀ qid c push pop e, (.fifoCycle 3 qid c push pop e : Instr).wf = false) ∧
    (∀ r c push pop e, (.fifoCycle r 65536 c push pop e : Instr).wf = false) ∧
    (∀ aid reqs waits, (.arbiterDecision 3 aid reqs waits : Instr).wf = false) ∧
    (∀ r reqs waits, (.arbiterDecision r 65536 reqs waits : Instr).wf = false) ∧
    (∀ aid, (.arbiterParkedGrant 3 aid : Instr).wf = false) ∧
    (∀ r, (.arbiterParkedGrant r 65536 : Instr).wf = false) ∧
    (∀ qid path, (.qFlush 3 qid path : Instr).wf = false) ∧
    (∀ r path, (.qFlush r 65536 path : Instr).wf = false) ∧
    (∀ qid v, (.qLevelWrite 3 qid v : Instr).wf = false) ∧
    (∀ r v, (.qLevelWrite r 65536 v : Instr).wf = false) ∧
    (∀ r qid, (.qLevelWrite r qid (2 ^ 24) : Instr).wf = false) ∧
    (∀ aid q b cl, (.aCfgWrite 3 aid q b cl : Instr).wf = false) ∧
    (∀ r q b cl, (.aCfgWrite r 65536 q b cl : Instr).wf = false) ∧
    (∀ r aid b cl, (.aCfgWrite r aid 8 b cl : Instr).wf = false) ∧
    ((.qCntClr 3 : Instr).wf = false) ∧
    (∀ mask, (.evtPendClear 16384 mask : Instr).wf = false) ∧
    (∀ mask, (.lanSummaryClear 4 mask : Instr).wf = false) := by
  simp [Instr.wf]

theorem test_ill_formed_6 :
    ((.vectorModTimer 64 : Instr).wf = false) ∧
    ((.vectorSend 64 : Instr).wf = false) ∧
    (∀ h, (.fabGapExpiry h 256 : Instr).wf = false) ∧
    (∀ w, (.lanRouteWrite 256 w : Instr).wf = false) ∧
    (∀ w, (.lanVecCfgWrite 64 w : Instr).wf = false) ∧
    (∀ off part v path, (.regWrite 16384 off part v path : Instr).wf = false) ∧
    (∀ P part v path, (.regWrite P 4096 part v path : Instr).wf = false) ∧
    (∀ P part v path, (.regWrite P 4 part v path : Instr).wf = false) ∧
    (∀ path, (.errlogPop 16384 path : Instr).wf = false) ∧
    (∀ path, (.shadowApply 16384 path : Instr).wf = false) ∧
    ((.shadowDiscard 16384 : Instr).wf = false) ∧
    (∀ h, (.shadowBoundary 16384 h : Instr).wf = false) ∧
    (∀ wr ben data, (.bar2Access wr (2 ^ 20) ben data : Instr).wf = false) ∧
    (∀ wr off data, (.bar2Access wr off [true] data : Instr).wf = false) ∧
    (∀ off, (.bar2Access true off [true, true, true, true] [] : Instr).wf = false) ∧
    ((.jtagSamplePreload [] [true] : Instr).wf = false) ∧
    ((.mgtConfirm 16 : Instr).wf = false) ∧
    ((.mgtRead 16 : Instr).wf = false) ∧
    ((.mgtWrite 16 : Instr).wf = false) ∧
    (∀ h, (.calRunStart h 32 : Instr).wf = false) ∧
    (∀ h, (.calPatternTimeout h 32 : Instr).wf = false) ∧
    (∀ h eye phase voff dfe1 ctle, (.calMeasureEnd h 32 eye phase voff dfe1 ctle : Instr).wf = false) ∧
    (∀ h i phase voff dfe1 ctle, (.calMeasureEnd h i 129 phase voff dfe1 ctle : Instr).wf = false) ∧
    (∀ h, (.calVerifyPass h 32 : Instr).wf = false) := by
  simp [Instr.wf]

theorem test_ill_formed_7 :
    (∀ h, (.calVerifyTimeout h 32 : Instr).wf = false) ∧
    (∀ h k, (.calRunCmd h 32 k : Instr).wf = false) ∧
    (∀ h i, (.calRunCmd h i 8 : Instr).wf = false) ∧
    (∀ h, (.calClearAborts h 32 : Instr).wf = false) ∧
    ((.steerMatch 64 : Instr).wf = false) ∧
    ((.steerParityError 64 : Instr).wf = false) ∧
    (∀ aid, (.grantPark 3 aid : Instr).wf = false) ∧
    (∀ r, (.grantPark r 65536 : Instr).wf = false) := by
  simp [Instr.wf]

theorem test_well_formed : (Instr.packetSend 15 5).wf = true ∧ (Instr.evtPendClear 16383 1).wf = true ∧
    (Instr.lingerExpiry .east 7 9).wf = true ∧ (Instr.patrolRead 7 0 [0, 0, 0, 0] false).wf = true ∧
    (Instr.codewordReceive 0 ⟨0, List.replicate 4 (List.replicate 128 0), 0⟩).wf = true ∧
    (Instr.qLevelWrite 2 65535 1).wf = true ∧ (Instr.spanUp).wf = true := by
  decide +kernel

/-- F[n] in link state `st`, everything else as at reset. -/
def exLink (n st : Nat) : State := wr (pgFiu n) R.FIU_LINK_STAT_STATE st State.reset

theorem wit_fabric_timers :
    fiuState (exLink 0 1) 0 = fsDOWN ∧ fiuState (exLink 15 2) 15 = fsTRAIN ∧ fiuState (exLink 8 3) 8 = fsALIGN ∧
      fiuState (exLink 7 4) 7 = fsINIT ∧ fiuState (exLink 0 7) 0 = fsLOWPWR := by decide

theorem wit_fabric_recover :
    fiuState (exLink 0 6) 0 = fsRECOVER ∧
      (fiuGet (exLink 0 6) 0).attempts < max 1 (rd (exLink 0 6) (pgFiu 0) R.FIU_LINK_CTRL_RECOVER_LIMIT) ∧
      fiuState (fiuMod 0 (fun p => { p with attempts := 3 }) (exLink 0 6)) 0 = fsRECOVER ∧
      max 1 (rd (fiuMod 0 (fun p => { p with attempts := 3 }) (exLink 0 6)) (pgFiu 0) R.FIU_LINK_CTRL_RECOVER_LIMIT) ≤
        (fiuGet (fiuMod 0 (fun p => { p with attempts := 3 }) (exLink 0 6)) 0).attempts := by decide

theorem wit_fabric_signal :
    fiuState (wr (pgFiu 0) R.FIU_LINK_STAT_LANE_MASK 240 (exLink 0 5)) 0 = fsACTIVE ∧
      (rd (wr (pgFiu 0) R.FIU_LINK_STAT_LANE_MASK 240 (exLink 0 5)) (pgFiu 0) R.FIU_LINK_STAT_LANE_MASK).testBit 7 = true := by
  decide

/-- Both halves have ended step 3 and run. -/
def exUp (s : State) : State :=
  bhMod .west (fun b => { b with s3 := 2, state := hsRUNNING }) (bhMod .east (fun b => { b with s3 := 2, state := hsRUNNING }) s)

theorem wit_fabric_enable :
    pageLive (exUp (wr (pgFiu 0) R.FIU_LINK_CTRL_EN 1 (exLink 0 5))) (pgFiu 0) = true ∧
      rdB (exUp (wr (pgFiu 0) R.FIU_LINK_CTRL_EN 1 (exLink 0 5))) (pgFiu 0) R.FIU_LINK_CTRL_EN = true ∧
      pageLive (exUp State.reset) (pgFiu 15) = true ∧ rdB (exUp State.reset) (pgFiu 15) R.FIU_LINK_CTRL_EN = false ∧
      poolsOk (exUp State.reset) 15 = true := by decide

theorem wit_fabric_enable_refused :
    pageLive (wr (pgFiu 0) R.FIU_VC_POOL_LO_POOL_VC0 34 (exUp State.reset)) (pgFiu 0) = true ∧
      rdB (wr (pgFiu 0) R.FIU_VC_POOL_LO_POOL_VC0 34 (exUp State.reset)) (pgFiu 0) R.FIU_LINK_CTRL_EN = false ∧
      poolsOk (wr (pgFiu 0) R.FIU_VC_POOL_LO_POOL_VC0 34 (exUp State.reset)) 0 = false := by decide

theorem wit_fabric_retrain :
    pageLive (exUp (exLink 8 5)) (pgFiu 8) = true ∧ fiuState (exUp (exLink 8 5)) 8 = fsACTIVE ∧
      fiuState (exUp (exLink 8 6)) 8 ≠ fsACTIVE ∧ fiuState (exUp (exLink 8 5)) 8 ≠ fsLOWPWR ∧
      fiuState (exUp (exLink 8 7)) 8 = fsLOWPWR ∧ (fiuGet (exUp (exLink 8 7)) 8).pmLpi = false := by decide

theorem wit_fabric_train :
    fiuState (exLink 0 2) 0 = fsTRAIN ∧ rdB (exLink 0 2) (pgFiu 0) R.FIU_LINK_CTRL_WIDTH4_OK = true ∧
      rdB (wr (pgFiu 0) R.FIU_LINK_CTRL_WIDTH4_OK 0 (exLink 0 2)) (pgFiu 0) R.FIU_LINK_CTRL_WIDTH4_OK = false ∧
      239 % 16 = 15 ∧ 239 / 16 ≠ 15 ∧ 238 % 16 ≠ 15 := by decide

theorem wit_fabric_align :
    fiuState (fiuMod 0 (fun p => { p with alignRun := 64 }) (exLink 0 3)) 0 = fsALIGN ∧
      64 ≤ (fiuGet (fiuMod 0 (fun p => { p with alignRun := 64 }) (exLink 0 3)) 0).alignRun ∧
      fiuState (fiuMod 0 (fun p => { p with alignRun := 64 }) (exLink 0 6)) 0 = fsRECOVER := by decide

/-- A flit of SEQ 0 on VC 1 that is a whole packet of zeros, and a codeword with it in slot 0. -/
def exFlit : List Byte := mkFlit 0 1 true true (zeros 120)
def exCw : Codeword := ⟨BitVec.ofNat 64 (2 ^ 51), [exFlit, zeros 128, zeros 128, zeros 128], 0⟩

/-- F[0] in ACTIVE, its receiver expecting CW_NUM 0. -/
def exRx : State := fiuMod 0 (fun p => { p with cwNext := some 0 }) (exLink 0 5)

theorem wit_codeword_uncorrectable :
    16 < (⟨0#64, [], 17⟩ : Codeword).symErr ∧ fiuState exRx 0 ≠ fsDISABLED ∧ fiuState exRx 0 ≠ fsDOWN ∧
      fiuState exRx 0 ≠ fsTRAIN ∧ (fiuGet exRx 0).uncorrRun < 15 := by decide

theorem wit_codeword_flit :
    exCw.symErr ≤ 16 ∧ fiuState exRx 0 = fsACTIVE ∧ (fiuGet exRx 0).cwNext = some (bits exCw.hdr.toNat 63 56) ∧
      exCw.hdr.toNat.testBit 55 = false ∧ exCw.hdr.toNat.testBit 50 = false ∧ exCw.hdr.toNat.testBit 23 = false ∧
      bits exCw.hdr.toNat 54 51 = 1 ∧ flitOk exFlit = true ∧ flitSeq exFlit = (fiuGet exRx 0).expect ∧
      flitVc exFlit < 6 ∧ (fiuGet exRx 0).expect < 4096 ∧
      (tget [] (fiuGet exRx 0).vcbuf (flitVc exFlit)).length < poolOf exRx 0 (flitVc exFlit) := by decide +kernel

theorem wit_codeword_down : fiuState (exLink 0 1) 0 = fsDOWN := by decide

/-- A packet of no payload, queued on VC 1 of F[0] in ACTIVE with credit `c`, and `k` flits held. -/
def exQ : QPkt := ⟨7, .west, mkPW true 5 0 0 0 []⟩
def exSend (c k : Nat) : State :=
  fiuMod 0 (fun p => { p with
    txq := [(1, [exQ])], crdCum := [(1, c)], held := List.replicate k ⟨0, 7, []⟩ }) (exLink 0 5)

theorem wit_send_room :
    fiuState (exSend 1 1) 0 = fsACTIVE ∧ tget [] (fiuGet (exSend 1 1) 0).txq 1 = exQ :: [] ∧
      (fiuGet (exSend 1 1) 0).held.length + flitCount exQ.pkt.len ≤ 1536 ∧
      flitCount exQ.pkt.len ≤ creditAvail (fiuGet (exSend 1 1) 0) 1 := by decide

theorem wit_send_waits :
    fiuState (exSend 0 0) 0 = fsACTIVE ∧ tget [] (fiuGet (exSend 0 0) 0).txq 1 = exQ :: [] ∧
      creditAvail (fiuGet (exSend 0 0) 0) 1 < flitCount exQ.pkt.len := by decide

theorem wit_replay :
    (fiuGet (exSend 1 1) 0).held = ⟨0, 7, []⟩ :: [] ∧ (fiuGet (exSend 1 1) 0).prevOldest ≠ some 0 ∧
      (fiuGet (exSend 1 0) 0).held = [] := by decide

theorem wit_egress_mask :
    pageLive (exUp (exLink 0 5)) (pgEgress .west) = true ∧
      eligible (exUp (exLink 0 5)) .west ≠ eligible (wr (pgEgress .west) R.EGR_PORT_MASK_ELIGIBLE 0 (exUp (exLink 0 5))) .west := by
  decide
theorem wit_egress_settle :
    ((egrMod .west (fun e => { e with changes := [⟨[0], [0, 1], [5]⟩] }) (exUp (exLink 0 5))).egr.at .west).changes = [⟨[0], [0, 1], [5]⟩] ∧
      (7 : Nat) ∉ [5] := by decide

/-- F[0] in ACTIVE with packet `p` whole at the head of its VC's buffer, both halves up, the engines on. -/
def exHead (p : Packet) : State :=
  fiuMod 0 (fun x => { x with
    vcbuf := [(vcOfType p.type, [⟨0, true, true, fit 120 (p.header ++ p.payload)⟩])] })
    (wr pgKeeper R.KP_PWR_STAT_STATE 4 (exUp (exLink 0 5)))

theorem wit_head_pw : HeadIs (exHead (mkPW true 0 4096 1 2 [3, 4])) 0 1 1 .west (mkPW true 0 4096 1 2 [3, 4]) ∧
    inAperture 4096 = false := by unfold HeadIs; decide

theorem wit_head_asks :
    HeadIs (exHead (mkRD 0 4096 1 2 3 64)) 0 2 1 .west (mkRD 0 4096 1 2 3 64) ∧
      HeadIs (exHead ⟨tNPW, false, false, 9, 0, 1, 4096, 0, 0, [5]⟩) 0 2 1 .west ⟨tNPW, false, false, 9, 0, 1, 4096, 0, 0, [5]⟩ ∧
      HeadIs (exHead ⟨tAMO, false, false, 9, 0, 8, 4096, 3 * 2 ^ 32, 0, zeros 8⟩) 0 2 1 .west
        ⟨tAMO, false, false, 9, 0, 8, 4096, 3 * 2 ^ 32, 0, zeros 8⟩ := by unfold HeadIs; decide

theorem wit_head_rsp :
    HeadIs (exHead ⟨tRSP, false, false, 9, 0, 1, 0, 2 ^ 48, 0, [5]⟩) 0 0 1 .west ⟨tRSP, false, false, 9, 0, 1, 0, 2 ^ 48, 0, [5]⟩ ∧
      tget .free ((tagPut .west 1 (.out 1 (.pull 0 0)) (exHead ⟨tRSP, false, false, 9, 0, 1, 0, 2 ^ 48, 0, [5]⟩)).tags.at .west) 1 =
        .out 1 (.pull 0 0) ∧ quiet State.reset = true ∧
      tget .free ((tagPut .west 65535 .quar State.reset).tags.at .west) 65535 = .quar := by unfold HeadIs; decide
/-- A one-byte answer COMPLETE to tag 1, and the state in which that tag is outstanding for a byte. -/
def exRsp : Packet := ⟨tRSP, false, false, 9, 0, 1, 0, 2 ^ 48, 0, [5]⟩
def exRspS : State := tagPut .west 1 (.out 1 (.pull 0 0)) (exHead exRsp)
theorem wit_rsp_answers : HeadIs exRspS 0 0 1 .west exRsp ∧ exRsp.type = tRSP ∧ exRsp.status = stComplete ∧ exRsp.len = 1 ∧
    tget .free (exRspS.tags.at .west) exRsp.tag = .out 1 (.pull 0 0) := by unfold HeadIs; decide

theorem wit_packet_fits : PacketFits (mkPW true 1048575 (2 ^ 64 - 1) 5 (2 ^ 64 - 1) (zeros 4096)) := by
  unfold PacketFits; decide +kernel

/-- A[n] in port state `st`, both halves up. -/
def exAtn (n st : Nat) : State := wr (pgApu n) R.APU_STAT_STATE st (exUp State.reset)

theorem wit_atnen_training :
    apuState (exAtn 0 3) 0 = asTRAIN ∧ lockedLanes (apuGet (exAtn 0 3) 0) = [] ∧
      apuState (apuMod 63 (fun p => { p with trn := [(4, 64, 0)] }) (exAtn 63 3)) 63 = asTRAIN ∧
      (lockedLanes (apuGet (apuMod 63 (fun p => { p with trn := [(4, 64, 0)] }) (exAtn 63 3)) 63)).length = 1 := by decide

theorem wit_atnen_down :
    apuState (exAtn 63 2) 63 = asDOWN ∧ pageLive (exAtn 63 2) (pgApu 63) = true ∧
      rdB (wr (pgApu 63) R.APU_CTRL_AUTO_TRAIN 1 (exAtn 63 2)) (pgApu 63) R.APU_CTRL_AUTO_TRAIN = true ∧
      rdB (wr (pgApu 63) R.APU_CTRL_AUTO_TRAIN 0 (exAtn 63 2)) (pgApu 63) R.APU_CTRL_AUTO_TRAIN = false ∧
      apuState (exAtn 63 5) 63 ≠ asDOWN ∧ pageLive (exAtn 63 5) (pgApu 63) = true := by decide

theorem wit_atnen_leave :
    apuState (exAtn 0 4) 0 = asENUM ∧ apuLive (exAtn 0 5) 0 = true ∧ apuLive (exAtn 0 3) 0 = false ∧
      pageLive (exAtn 0 5) (pgApu 0) = true ∧ apuState (exAtn 0 5) 0 ≠ asDISABLED ∧ apuState (exAtn 0 5) 0 = asACTIVE ∧
      apuState (exAtn 0 5) 0 ≠ asENUM := by decide

theorem wit_atnen_enter :
    pageLive (exAtn 32 0) (pgApu 32) = true ∧ apuState (exAtn 32 0) 32 = asDISABLED ∧ apuHeldNow (exAtn 32 0) 32 = false ∧
      quiet (exAtn 32 0) = true ∧ apuState (exAtn 32 2) 32 = asDOWN ∧ quiet (exAtn 32 2) = true ∧
      apuState (exAtn 32 1) 32 = asHELD ∧ quiet (exAtn 32 1) = true ∧
      (rd (exAtn 32 1) pgKeeper R.KP_HOLD_PORTS).testBit 32 = false := by decide

def exTrn : LaneWord := ⟨true, BitVec.ofNat 32 (14 * 2 ^ 28 + 0)⟩

theorem wit_trn_word :
    apuState (apuMod 0 (fun p => { p with trn := [(8, 63, 65535)] }) (exAtn 0 3)) 0 = asTRAIN ∧
      quiet (apuMod 0 (fun p => { p with trn := [(8, 63, 65535)] }) (exAtn 0 3)) = true ∧ exTrn.c = true ∧
      wCode exTrn.d.toNat = 14 ∧ exTrn.d.toNat.testBit 22 = false ∧
      tget (0, 0) (apuGet (apuMod 0 (fun p => { p with trn := [(8, 63, 65535)] }) (exAtn 0 3)) 0).trn 8 = (63, 65535) ∧
      bits exTrn.d.toNat 15 0 = (65535 + 1) % 65536 := by decide

theorem wit_enum_end :
    apuState (exAtn 63 4) 63 = asENUM ∧ (apuGet (exAtn 63 4) 63).enumEnd = false ∧ bits (16#32).toNat 4 0 = 16 ∧
      (16#32).toNat.testBit 5 = false := by decide

theorem wit_enum_done :
    apuState (apuMod 63 (fun p => { p with enumEnd := true }) (exAtn 63 4)) 63 = asENUM ∧
      (apuGet (apuMod 63 (fun p => { p with enumEnd := true }) (exAtn 63 4)) 63).enumEnd = true ∧
      (apuGet (apuMod 63 (fun p => { p with enumEnd := true }) (exAtn 63 4)) 63).stations = [] ∧
      (apuGet (apuMod 63 (fun p => { p with enumEnd := true }) (exAtn 63 4)) 63).prevSerials = [] := by decide

/-- A[0] in ACTIVE with the direction into the device in steering state `st`, answered. -/
def exSteer (st : Nat) : State :=
  apuMod 0 (fun p => { p with steerAns := true }) (wr (pgApu 0) R.APU_STEER_RX_STATE st (exAtn 0 5))

theorem wit_steer :
    quiet (exSteer 1) = true ∧ (apuGet (exSteer 1) 0).steerAns = true ∧ rxSteer (exSteer 1) 0 = ssMIRROR ∧
      quiet (exSteer 3) = true ∧ (apuGet (exSteer 3) 0).steerAns = true ∧ rxSteer (exSteer 3) 0 = ssRESTORE ∧
      quiet (exSteer 2) = true ∧ rxSteer (exSteer 2) 0 = ssSWAPPED ∧ quiet (exSteer 0) = true ∧
      rxSteer (exSteer 0) 0 = ssNONE := by decide

theorem wit_flow_lane :
    quiet (exSteer 1) = true ∧ apuLive (exSteer 1) 0 = true ∧ (0x18000000#32).toNat.testBit 26 = false ∧
      (0x1FC00000#32).toNat.testBit 26 = true ∧ bits (0x1FC00000#32).toNat 25 22 = 15 ∧
      rd (exSteer 1) (pgApu 0) R.APU_STAT_STN_OFF < 65536 ∧ bits (0x24000000#32).toNat 27 25 = 2 ∧
      rxSteer (exSteer 1) 0 = ssMIRROR ∧ bits (0x22000000#32).toNat 27 25 = 1 ∧
      rd (exSteer 1) (pgApu 0) R.APU_STEER_TX_STATE = ssNONE := by decide

theorem wit_station_words :
    apuLive (exAtn 0 5) 0 = true ∧ intHeld (exAtn 0 5) 0 = false ∧ quiet (exAtn 0 5) = true ∧
      wCode (0x60000000#32).toNat = 6 ∧ bits (0x60000000#32).toNat 16 14 < 3 ∧ wCode (0x80000000#32).toNat = 8 ∧
      wCode (0x50000000#32).toNat = 5 ∧ wCode (0x90100000#32).toNat = 9 ∧ bits (0x90100000#32).toNat 23 20 = 1 ∧
      dpCovers (exAtn 0 5) 0 (bits (0x90100000#32).toNat 27 24) (bits (0x90100000#32).toNat 11 8 * 2 ^ 32 + 4) = false ∧
      bits (0x90200008#32).toNat 23 20 = 2 ∧ bits (0x90300000#32).toNat 23 20 = 3 ∧ wCode (0x40000000#32).toNat = 4 ∧
      bits (0x40000000#32).toNat 11 9 = 0 ∧ [0#32].length = bits (0x40000000#32).toNat 17 12 + 1 ∧
      bits (0x40000200#32).toNat 11 9 ≠ 0 ∧ wCode (0x30000000#32).toNat = 3 ∧ bits (0x30000000#32).toNat 27 25 = txWR ∧
      [0#32].length = bits (0x30000000#32).toNat 14 9 + 1 := by decide

/-- Light 0 bound to unit 0 of station 0 of A[0]. -/
def exLight : State :=
  lgtMod 0 (fun x => { x with bound := true, present := true, serial := 9 })
    (stnMod 0 0 (fun x => { x with seen := true, kind := 1, serial := 9, units := 1 }) (exAtn 0 5))

theorem wit_unit_state : lightOf exLight 0 0 0 = some 0 ∧ strOfLight exLight 0 = none ∧ apuLive exLight 0 = true ∧
    intHeld exLight 0 = false := by decide

theorem wit_atnen_times :
    ((apuGet (apuMod 0 (fun p => { p with reads := [⟨3, 5, 6, .hdr 3⟩] }) (exAtn 0 4)) 0).reads.find?
      (fun r => r.stn == 3 && r.tn == 5)) = some ⟨3, 5, 6, .hdr 3⟩ ∧
      isLockRd (apuMod 0 (fun p => { p with reads := [⟨3, 5, 6, .hdr 3⟩] }) (exAtn 0 4)) 0 ⟨3, 5, 6, .hdr 3⟩ = false ∧
      (apuGet (exAtn 0 4) 0).reads.find? (fun r => r.stn == 3 && r.tn == 5) = none ∧ quiet (exAtn 0 4) = true := by decide

theorem wit_tsync :
    apuLive (wr (pgApu 0) R.APU_CTRL_TSYNC_EN 1 (exAtn 0 5)) 0 = true ∧
      rdB (wr (pgApu 0) R.APU_CTRL_TSYNC_EN 1 (exAtn 0 5)) (pgApu 0) R.APU_CTRL_TSYNC_EN = true ∧
      rdB (wr (pgApu 0) R.APU_CTRL_TSYNC_EN 1 (exAtn 0 5)) (pgApu 0) R.APU_STAT_RX_HOP_OFF = false ∧
      apuLive (exAtn 0 2) 0 = false ∧ pageLive (exAtn 0 5) (pgApu 0) = true := by decide
theorem wit_quarantine : ((3, 5) : Nat × Nat) ∈ (apuGet (apuMod 0 (fun p => { p with quar := [(3, 5), (3, 6)] }) (exAtn 0 4)) 0).quar ∧
    ((3, 6) : Nat × Nat) ∈ (apuGet (apuMod 0 (fun p => { p with quar := [(3, 5), (3, 6)] }) (exAtn 0 4)) 0).quar := by decide

theorem wit_palette_controls :
    pageLive (exUp State.reset) (pgPalette .east) = true ∧ pageLive (exUp State.reset) (pgCrossing .west) = true ∧
      (tget {} (exUp State.reset).results (resOf .east)).words.length < 4096 ∧ tailOk 5 (5 - 5) 4096 = true ∧
      tailOk 5 6 4096 = false ∧ tailOk 4097 1 4096 = true ∧ tailOk 4097 0 4096 = false := by decide

/-- A sent NPW of West with WR_HOLD running. -/
def exAcc : Access :=
  ⟨3, ⟨tNPW, false, false, 9, 0, 4, 4096, 0, 0, zeros 4⟩, ⟨0, 0, 0, 0, 0, false, false, 0, false, 0⟩, 0, 4, [], (0, 0, 0),
    .opened, [], none, false, some 7, [], 0⟩

theorem wit_hold :
    accGet (crossMod .west (fun c => { c with accs := [exAcc] }) (exAtn 0 5)) .west 3 = some exAcc ∧
      exAcc.holdFrom.isSome = true ∧ exAcc.pkt.type = tNPW ∧ exAcc.answered = false ∧ quiet (exAtn 0 5) = true ∧
      accGet (exAtn 0 5) .west 3 = none := by decide

theorem wit_lock_and_int :
    schedWaiting (apuMod 0 (fun p => { p with media := [⟨txRD, 0, 1, 15, 0, [], .hdr 0⟩] }) (exAtn 0 5)) 0 = true ∧
      schedWaiting (exAtn 0 5) 0 = false ∧ (apuGet (exAtn 0 5) 0).lock = none ∧ quiet (exAtn 0 5) = true ∧
      (apuGet (apuMod 0 (fun p => { p with ints := [⟨0x50000000, 0, 3, [4]⟩] }) (exAtn 0 5)) 0).ints =
        ⟨0x50000000, 0, 3, [4]⟩ :: [] ∧
      pktOpen (apuMod 0 (fun p => { p with ints := [⟨0x50000000, 0, 3, [4]⟩] }) (exAtn 0 5)) 4 = false := by decide
theorem wit_hold_answered :
    accGet (crossMod .west (fun c => { c with accs := [{ exAcc with answered := true }] }) (exAtn 0 5)) .west 3 =
      some { exAcc with answered := true } ∧ ({ exAcc with answered := true } : Access).holdFrom.isSome = true := by decide

theorem test_split_partial :
    (splitWr 7 254 [1, 2, 3, 4, 5, 6]).map (fun p => (p.addr, p.words, p.be)) = [(252, 1, 3), (256, 1, 15)] := by decide
theorem wit_split_whole : (splitWr 13 4 (zeros 12)).map (fun p => (p.addr, p.words, p.be)) = [(4, 3, 15)] := by decide

theorem wit_amo : (4 = 4 ∨ 4 = 8) ∧ 2 ^ 32 - 1 < 2 ^ (8 * 4) := by decide

/-- Light `l` in light state `st`, a disc light, both halves up. -/
def exLit (l st : Nat) : State :=
  lPut l R.LL_VIEW_0_KIND 1 (lPut l R.LL_VIEW_0_STATE st (exUp State.reset))

theorem wit_light_states :
    lightState (exLit 0 3) 0 = lsLIT ∧ isDisc (exLit 0 3) 0 = true ∧ lightState (exLit 16383 4) 16383 = lsDRIFT ∧
      ((exLit 16383 4).sched.at (lHalf 16383)).events = [] ∧ quiet (exLit 16383 4) = true ∧
      lightState (exLit 0 4) 0 ≠ lsLIT ∧ lightState (exLit 0 3) 0 ≠ lsDRIFT := by decide

theorem wit_light_controls :
    pageLive (exLit 8192 3) (pgL 8192) = true ∧ lightState (exLit 8192 3) 8192 = lsLIT ∧
      pageLive (exLit 8192 3) (pgLight .east) = true ∧ halfLights (exLit 8192 3) .east = [] ∧ quiet (exLit 8192 3) = true := by
  decide
/-- A held event of light 8192, which is LIT, and one of light 8193. -/
def exHeldEv (l : Nat) : Event := {
  id := l, light := l, op := 1, track := 0, slot := 0, count := 1, panels := [none], seals := [], owner := .scrub 0 }
def exHeld : State := { exLit 8192 3 with
  sched := (exLit 8192 3).sched.put .east { (exLit 8192 3).sched.at .east with events := [exHeldEv 8192, exHeldEv 8193] } }
theorem wit_light_held : pageLive exHeld (pgL 8192) = true ∧ lightState exHeld 8192 = lsLIT ∧
    exHeldEv 8193 ∈ (exHeld.sched.at (lHalf 8192)).events ∧ (exHeldEv 8193).light ≠ 8192 ∧
    (exHeldEv 8192).light = 8192 ∧ (exHeldEv 8192).st = .held := by decide

theorem wit_tb_set :
    quiet (exUp State.reset) = true ∧ rdB (exUp State.reset) (pgSched .west) R.SCH_CTRL_EN = false ∧
      rdB (exUp State.reset) (pgSched .east) R.SCH_CTRL_EN = false ∧ halfLights (exUp State.reset) .west = [] ∧
      halfLights (exUp State.reset) .east = [] ∧
      rdB (wr (pgSched .east) R.SCH_CTRL_EN 1 (exUp State.reset)) (pgSched .east) R.SCH_CTRL_EN = true := by decide

/-- A site whose node 5 is registered, subscription 1023 of East for that node with a record written. -/
def exSub : State :=
  subMod .east 1023 (fun x => { x with written := true, seq := 2 ^ 32 - 1 }) (wrI (pgLight .east) R.LL_SUB_CTRL_DST 1023 5
    (wrI pgProtect R.PR_NODE_VIEW_VALID 0 1 (wrI pgProtect R.PR_NODE_VIEW_LO 0 5 (wrI pgProtect R.PR_NODE_VIEW_HI 0 5
      (exUp State.reset)))))

theorem wit_subscriptions :
    pageLive exSub (pgLight .east) = true ∧ rdBI exSub (pgLight .east) R.LL_SUB_CTRL_EN 1023 = false ∧
      nodeReg exSub (rdI exSub (pgLight .east) R.LL_SUB_CTRL_DST 1023) = true ∧
      nodeReg exSub (rdI exSub (pgLight .east) R.LL_SUB_CTRL_DST 0) = false ∧
      rdBI exSub (pgLight .east) R.LL_SUB_CTRL_EN 0 = false ∧
      rdBI (wrI (pgLight .east) R.LL_SUB_CTRL_EN 1023 1 exSub) (pgLight .east) R.LL_SUB_CTRL_EN 1023 = true ∧
      (tget {} ((wrI (pgLight .east) R.LL_SUB_CTRL_EN 1023 1 exSub).sched.at .east).subs 1023).written = true := by decide

/-- An event on light 0 with state `st`, in a half that fires. -/
def exEv (st : EvSt) : Event :=
  { id := 4, light := 0, op := 6, track := 0, slot := 0, count := 1, panels := [], seals := [], owner := .scrub 0, st := st }
def exFire (e : Event) : State :=
  wr (pgSched .west) R.SCH_CTRL_EN 1 (wr pgKeeper R.KP_PWR_STAT_STATE 4
    (schMod .west (fun c => { c with events := [e] }) (exLit 0 3)))

theorem wit_event_found :
    evGet (exFire (exEv .fixed)) .west 4 = some (exEv .fixed) ∧ evGet (exFire (exEv .held)) .west 4 = some (exEv .held) ∧
      (exEv .held).st ≠ .fixed ∧ (exEv .held).st ≠ .fired ∧ quiet (exFire (exEv .held)) = true := by decide

theorem wit_event_fires : MayFire (exFire (exEv .fixed)) .west (exEv .fixed) ∧
    ¬ MayFire (exFire (exEv .held)) .west (exEv .held) := by unfold MayFire; decide

/-- A disc event whose deadline, 0, lies before the timebase. -/
def exMiss : State := { exFire { exEv .fixed with op := 1 } with tb := ⟨1, 1⟩ }

theorem wit_event_misses :
    evGet exMiss .west 4 = some { exEv .fixed with op := 1 } ∧ deadline exMiss { exEv .fixed with op := 1 } < nowH exMiss .west ∧
      quiet exMiss = true ∧ ({ exEv .fixed with op := 1 } : Event).op ≠ 6 := by decide

theorem wit_verify_and_readback :
    ((exFire (exEv .verify)).sched.at .west).events.find? (fun e => e.vtag == (0#32).toNat && e.st == .verify) =
        some (exEv .verify) ∧
      evByVtag (exFire (exEv .readback)) .west (0#32).toNat = some (exEv .readback) ∧ (exEv .readback).left = 0 ∧
      quiet (exFire { exEv .readback with left := 1 }) = true ∧
      rdB (wr pgEaselG R.EZG_CTRL_SVC 1 (exFire (exEv .held))) pgEaselG R.EZG_CTRL_SVC = true ∧
      rdB (exFire (exEv .held)) pgEaselG R.EZG_CTRL_SVC = false ∧ pageLive (exFire (exEv .held)) (pgSched .west) = true := by
  decide

/-- Stream 3 of West, open on light 5 of A[0], with one panel to fill at place `k` and a FIFO of 16 blocks. -/
def exStr (k : Nat) : State :=
  strMod .west 3 (fun _ => {
    open_ := true, state := tsSTREAMING, light := 5, fifoLog2 := 24, srcs := [⟨k, 1, 0, 0, [none], []⟩],
    blocks := [⟨7, 0, false, false, 0, none, 0⟩], credit := 65536 })
    (lPut 5 R.LL_VIEW_0_CMD_DEPTH 4 (wr (pgSched .west) R.SCH_CTRL_EN 1 (exAtn 0 5)))

theorem wit_stream_fill :
    (strGet (exStr 0) .west 3).srcs.find? (fun p => p.ord == (strGet (exStr 0) .west 3).fillOrd) =
        some ⟨0, 1, 0, 0, [none], []⟩ ∧ Memory.wf (exStr 0).easel = true ∧
      (strGet (exStr 0) .west 3).open_ = true ∧ (strGet (exStr 0) .west 3).state ≠ tsSTOPPING ∧
      (strGet (exStr 0) .west 3).blocks.length < fifoBlocks (strGet (exStr 0) .west 3) ∧
      (strGet (exStr 1) .west 3).srcs.find? (fun p => p.ord == (strGet (exStr 1) .west 3).fillOrd) = none := by decide

theorem wit_stream_chunk :
    nextChunkBlk (strGet (exStr 0) .west 3) = some ⟨7, 0, false, false, 0, none, 0⟩ ∧
      feedReady (exStr 0) .west (strGet (exStr 0) .west 3) = true ∧ 65536 ≤ creditNow (exStr 0) (strGet (exStr 0) .west 3) ∧
      creditNow (strMod .west 3 (fun x => { x with credit := 65535 }) (exStr 0))
        (strGet (strMod .west 3 (fun x => { x with credit := 65535 }) (exStr 0)) .west 3) < 65536 := by decide

theorem wit_references :
    rdB (wr pgTimebase R.TB_CTRL_PPS_EN 1 (wr pgTimebase R.TB_STAT_PPS_OK 1 State.reset)) pgTimebase R.TB_CTRL_PPS_EN = true ∧
      rdB (wr pgTimebase R.TB_CTRL_PPS_EN 1 (wr pgTimebase R.TB_STAT_PPS_OK 1 State.reset)) pgTimebase R.TB_STAT_PPS_OK = true ∧
      rdB (wr pgTimebase R.TB_CTRL_PPS_EN 0 State.reset) pgTimebase R.TB_CTRL_PPS_EN = false ∧
      quiet (exAtn 0 5) = true ∧ (-10000 : Int).natAbs ≤ 10000 ∧ (exAtn 0 5).time.gateBad = false ∧
      rdB (wr pgTimebase R.TB_STAT_REF_OK 1 (exAtn 0 5)) pgTimebase R.TB_STAT_REF_OK = true ∧
      10000 < (-10001 : Int).natAbs ∧ rdB (exAtn 0 5) pgTimebase R.TB_STAT_REF_OK = false ∧
      rdB (exAtn 0 5) pgTimebase R.TB_STAT_HOLDOVER = false := by decide

theorem wit_calibration_idle : CalibrationIdle (exAtn 0 5) := by unfold CalibrationIdle; decide
/-- The last PPS edge was captured at instant 7, the timebase is at 500. -/
def exGlitch : State := { timeMod (fun x => { x with lastPps := some 7, freshPps := false })
  (wr pgTimebase R.TB_CTRL_PPS_EN 1 (exAtn 0 5)) with tb := ⟨500, 500⟩ }
theorem wit_pps_glitch : rdB exGlitch pgTimebase R.TB_CTRL_PPS_EN = true ∧ exGlitch.time.lastPps = some 7 ∧
    exGlitch.time.freshPps = false ∧ now exGlitch = 500 := by decide

/-- A run on lane 7 of the half's port 31, in a step, `k` good words seen, in a half that calibrates. -/
def exRun (st : CalStep) (k : Nat) : CalRun := { port := 31, lane := 7, step := st, trn := k }
def exCal (f : Cal → Cal) : State :=
  calMod .east f (wr (pgCal .east) R.CAL_CTRL_EN 1 (wr pgTimebase R.TB_STAT_REF_OK 1 (wr pgKeeper R.KP_PWR_STAT_STATE 4
    (exAtn 63 5))))

theorem wit_cal_runs :
    runOf (exCal (fun c => { c with runs := [exRun .pattern 0] })) .east 31 = some (exRun .pattern 0) ∧
      runOf (exCal (fun c => { c with runs := [exRun .measure 0] })) .east 31 = some (exRun .measure 0) ∧
      quiet (exCal (fun c => { c with runs := [exRun .measure 0] })) = true ∧
      runOf (exCal (fun c => { c with runs := [exRun .verify 1024] })) .east 31 = some (exRun .verify 1024) ∧
      quiet (exCal (fun c => { c with runs := [exRun .verify 1024] })) = true := by decide

theorem wit_cal_start :
    calPower (exCal (fun c => { c with marked := [31] })) = true ∧
      rdB (exCal (fun c => { c with marked := [31] })) (pgCal .east) R.CAL_CTRL_EN = true ∧
      rdB (exCal (fun c => { c with marked := [31] })) pgTimebase R.TB_STAT_REF_OK = true ∧
      runOf (exCal (fun c => { c with marked := [31] })) .east 31 = none ∧
      ((exCal (fun c => { c with marked := [31] })).cal.at .east).sweeps = [] ∧
      ((exCal (fun c => { c with marked := [31] })).cal.at .east).marked = 31 :: [] ∧
      pageLive (exCal id) (pgCal .east) = true ∧ quiet (exCal id) = true ∧ ((exCal id).cal.at .east).runs = [] := by decide

theorem wit_cal_temp : ∀ i, i < 32 → apuState (exAtn 0 2) (aPort .west i) ≠ asACTIVE := by decide
theorem wit_cal_marked_lane : pageLive (exCal (fun c => { c with lanes := [(31, 7)] })) (pgCal .east) = true ∧
    (31, 7) ∈ ((exCal (fun c => { c with lanes := [(31, 7)] })).cal.at .east).lanes := by decide

/-- Disc light 0 with one track of one slot, LIT and eligible in group 0 of West, which is a disc group with K 1 and M 0. -/
def exPlace : State :=
  plMod .west (fun x => { x with policy := some ⟨[{ wearCap := 9 }], [], 1⟩ }) (pltMod 0 (fun x => { x with tbl := some 0 })
    (lgtMod 0 (fun x => { x with
      bound := true, present := true, reach := true, unitState := 3, period := 2 ^ 20,
      desc := { x.desc with slotBytes := panelBytes, geometry := 1, extent := 1 } })
    (stnMod 0 0 (fun x => { x with seen := true, kind := 1, units := 1 })
    (wr (pgApu 0) R.APU_STAT_STATE 5 { lPut 0 R.LL_VIEW_3_SLOTS 1 (lPut 0 R.LL_VIEW_3_EXTENT 1
    (wrI pgPlaceG R.PLG_GRP_VIEW_0_K 0 1 (wrI pgPlaceG R.PLG_GRP_VIEW_0_M 0 0 (wrI pgPlaceG R.PLG_GRP_VIEW_0_KIND 0 1
    (wrI pgPlaceG R.PLG_GRP_VIEW_0_EN 0 1 (plPut 0 R.PL_LIGHT_VIEW_0_GROUP 0 (wr (pgPlace .west) R.PL_CTRL_EN 1
    (wr pgKeeper R.KP_PWR_STAT_STATE 4 (exLit 0 3))))))))) with stnMode := [(0, true)] }))))

theorem wit_place_choice :
    chooseStripe exPlace .west 0 1 0 1 = some [⟨0, ⟨runInstant exPlace 0 0 0 2731 0, 0, 0⟩⟩] := by decide +kernel

/-- A stripe of group 0 that waits to be placed. -/
def exStripe : Stripe := {
  id := 5, home := .west, obj := 7, num := 0, write := 1, ord := 1, group := 0, k := 1, m := 0, s := 1, kind := 1,
  st := .wait, units := [none] }
def exWait : State := objMod (fun o => { o with stripes := [exStripe] }) exPlace

theorem wit_place_stripe :
    stpGet exWait 5 = some exStripe ∧ exStripe.st = .wait ∧ rdB exWait (pgPlace .west) R.PL_CTRL_EN = true ∧
      takesWork exWait = true ∧ isStalled exWait exStripe = false ∧ exWait.captured = [] ∧ exWait.place.west.plg = [] ∧
      exWait.place.east.plg = [] ∧ takePages .west (runUnits 1 1 * 0) exWait = some ([], exWait) ∧ quiet exWait = true ∧
      stpGet (wr (pgPlace .west) R.PL_CTRL_EN 0 exWait) 5 = some exStripe ∧
      rdB (wr (pgPlace .west) R.PL_CTRL_EN 0 exWait) (pgPlace .west) R.PL_CTRL_EN = false := by decide

theorem wit_place_stripe_choice : ∃ cs, chooseStripe exWait .west 0 1 0 1 = some cs :=
  ⟨[⟨0, ⟨runInstant exWait 0 0 0 2731 0, 0, 0⟩⟩], by decide +kernel⟩

theorem wit_place_eligible : lightEligible exPlace .west 0 0 = true ∧ lightEligible exPlace .west 0 1 = false := by decide

/-- `exWait` with the stripe flagged as waiting, group 0 managed, light 0 in unit state `u` and light state `st`. -/
def exSpin (u st : Nat) : State :=
  lPut 0 R.LL_VIEW_0_CMD_DEPTH 4 (wr (pgPlace .west) R.PL_SPIN_SPINUP_BUDGET 100
    (lgtMod 0 (fun x => { x with unitState := u, desc := { x.desc with period := 2 ^ 20 } })
    (lPut 0 R.LL_VIEW_0_STATE st (wrI pgPlaceG R.PLG_GRP_VIEW_0_SPIN_MGD 0 1
    (plMod .west (fun x => { x with policy := some ⟨[{ wearCap := 9, spinFill := 90 }], [], 1⟩ })
    (objMod (fun o => { o with stripes := [{ exStripe with noStripe := true }] }) exPlace))))))

theorem wit_retry :
    exWait.objs.stripes.all (fun x => !(decide (x.home = Half.west) && x.noStripe && !x.stalled)) = true ∧ quiet exWait = true ∧
      (exSpin 1 1).objs.stripes.filter (fun y => decide (y.home = Half.west) && y.noStripe && !y.stalled) =
        [{ exStripe with noStripe := true }] ∧
      isStalled (objMod (fun o => { o with stripes := [{ exStripe with stalled := true }] }) exPlace)
        { exStripe with stalled := true } = true ∧
      stpGet (objMod (fun o => { o with stripes := [{ exStripe with stalled := true }] }) exPlace) 5 =
        some { exStripe with stalled := true } := by decide

theorem wit_spin_up : SpinWanted (exSpin 1 1) .west 0 0 ∧ quiet (exSpin 1 1) = true := by unfold SpinWanted; decide
theorem wit_spin_up_allowed : spinAllowed (exSpin 1 1) 0 0 = true ∧
    spinAllowed (wr (pgPlace .west) R.PL_SPIN_SPINUP_BUDGET 0 (lgtMod 0 (fun x => { x with desc := { x.desc with spinDw := 1 } })
      (exSpin 1 1))) 0 0 = false := by decide +kernel
theorem wit_spin_up_held :
    SpinWanted (wr (pgPlace .west) R.PL_SPIN_SPINUP_BUDGET 0 (lgtMod 0 (fun x => { x with desc := { x.desc with spinDw := 1 } })
      (exSpin 1 1))) .west 0 0 := by unfold SpinWanted; decide

/-- `exSpin` with light 0 LIT in a group of K 0 and M 0, which can spare it. -/
def exSpare : State := wrI pgPlaceG R.PLG_GRP_VIEW_0_K 0 0 (exSpin 3 3)

theorem wit_spin_down : SpareIdle exSpare 0 ∧ quiet exSpare = true ∧ grpSpin exPlace .west (lightGroup exPlace 0) = false := by
  unfold SpareIdle; decide +kernel
/-- `exSpin` without budget, its limit already reported. -/
def exSpinHeld : State := plMod .west (fun x => { x with spinLimit := true }) (wr (pgPlace .west) R.PL_SPIN_SPINUP_BUDGET 0
  (lgtMod 0 (fun x => { x with desc := { x.desc with spinDw := 1 } }) (exSpin 1 1)))
theorem wit_spin_up_reported : SpinWanted exSpinHeld .west 0 0 ∧ quiet exSpinHeld = true ∧ spinAllowed exSpinHeld 0 0 = false ∧
    (exSpinHeld.place.at .west).spinLimit = true := by unfold SpinWanted; decide +kernel

/-- Tape light 0 of group 0, LIT, with a stripe of one tape panel waiting for it. -/
def exTape : State :=
  objMod (fun o => { o with stripes := [{ exStripe with kind := 2 }] }) (wr (pgSched .west) R.SCH_CTRL_RES_CAP_PCT 50
    (wr pgEaselG R.EZG_CARVE_STREAM_GIB 1 (wrI pgPlaceG R.PLG_GRP_VIEW_0_KIND 0 2 (lPut 0 R.LL_VIEW_0_KIND 2
    (lgtMod 0 (fun x => { x with desc := { x.desc with geometry := tapeBytes, period := 1 } }) exPlace)))))

theorem wit_tape_asked : TapeAsked exTape 0 := by unfold TapeAsked NoRetry; decide
theorem wit_tape_opens :
    strOfLight exTape 0 = none ∧ underCap exTape 0 = true ∧
      firstFree (((exTape.sched.at (lHalf 0)).streams.filter (fun p => p.2.open_)).map (·.1)) 256 0 = some 0 ∧
      firstFree (((exTape.sched.at (lHalf 0)).streams.filter (fun p => p.2.open_)).map (·.2.fifo)) (strFifos exTape) 0 = some 0 := by
  decide
theorem wit_tape_refused :
    TapeAsked (wr (pgSched .west) R.SCH_CTRL_RES_CAP_PCT 0 exTape) 0 ∧
      underCap (wr (pgSched .west) R.SCH_CTRL_RES_CAP_PCT 0 exTape) 0 = false := by unfold TapeAsked NoRetry; decide

/-- Stream 255 of East, open and streaming with nothing in it, on light 8192. -/
def exIdleStr : State := strMod .east 255 (fun _ => { open_ := true, state := tsSTREAMING, light := 8192 }) (exUp State.reset)

theorem wit_stream_close :
    quiet exIdleStr = true ∧ strOfLight exIdleStr 8192 = some (255, strGet exIdleStr .east 255) ∧
      (strGet exIdleStr .east 255).srcs = [] ∧ (strGet exIdleStr .east 255).state = tsSTREAMING ∧
      (strGet exIdleStr .east 255).blocks.any (fun b => b.sent && decide (b.chunks < 16)) = false := by decide

theorem wit_unbind :
    pageLive (exUp State.reset) (pgLight .east) = true ∧ quiet (exUp State.reset) = true ∧ lHalf 8192 = .east ∧
      unbindOk (exUp State.reset) 8192 = true ∧
      ((exUp State.reset).place.west.map ++ (exUp State.reset).place.east.map).all (fun e => e.light != 8192) = true ∧
      pageLive exIdleStr (pgLight .east) = true ∧ unbindOk exIdleStr 8192 = false ∧ lHalf 0 ≠ .east := by decide

theorem wit_policy_tick :
    quiet exPlace = true ∧ exPlace.captured = [] ∧ exPlace.place.west.plg = [] ∧ exPlace.place.east.plg = [] ∧
      (exPlace.place.at .west).polDue = false ∧ (exPlace.place.at .west).policy = some ⟨[{ wearCap := 9 }], [], 1⟩ := by decide

theorem wit_efficiency :
    pageLive (exUp State.reset) (pgPlace .east) = true ∧
      rd (exUp State.reset) (pgPlace .east) R.PL_EFF_STOP ≤ rd (exUp State.reset) (pgPlace .east) R.PL_EFF_START ∧
      resRoom (exUp State.reset) (resOf .east) 3 = true ∧
      rd (wr (pgPlace .east) R.PL_EFF_STOP 5 (exUp State.reset)) (pgPlace .east) R.PL_EFF_START <
        rd (wr (pgPlace .east) R.PL_EFF_STOP 5 (exUp State.reset)) (pgPlace .east) R.PL_EFF_STOP ∧
      rdB (wr (pgPlace .east) R.PL_EFF_CTRL_ARMED 1 (exUp State.reset)) (pgPlace .east) R.PL_EFF_CTRL_ARMED = true ∧
      rdB (wr (pgPlace .east) R.PL_EFF_CTRL_RUNNING 1 (exUp State.reset)) (pgPlace .east) R.PL_EFF_CTRL_RUNNING = true ∧
      rd (exUp State.reset) (pgPlace .east) R.PL_EFF_STOP ≤ nowH (exUp State.reset) .east := by decide

theorem wit_lookup_room : resRoom (exUp State.reset) (resOf .west) 20 = true ∧ pageLive (exUp State.reset) (pgPlace .west) = true := by
  decide

/-- Request 9 of context 5 on West, whose body is a GET of name 4 when `w0` is 2 * 2 ^ 56 + 2 ^ 48. -/
def exOp (w0 : Nat) (st : OpSt) (e : Option MatchEnt) : DOp := {
  id := 9, h := .west, ctx := 5, src := 0, mtch := 6, key := 8, body := [w0, 4, 0, 100, 0, 0, 0, 0], ent := e, st := st,
  home := .west }
def exEnt : MatchEnt := { mtch := 6, dops := 127, nameHi := 9, valid := true, anyGroup := true, ctx := 5 }
def exOps (d : DOp) : State := dkMod (fun k => { k with ops := [d], next := 10 }) (exUp State.reset)

/-- A MSG with OP `op` and match bits 6 for context 5. -/
def exMsgPkt (op : Nat) : Packet := mkMSG 0 6 op 5 8 (zeros 64)
/-- Context 5 open on West with key 8 and OVF_MAX `v`; entry 0 of its only block takes match bits 6 where `e`. -/
def exMsg (op v : Nat) (e : Bool) : State :=
  mhMod .west (fun m => { m with blocks := [(5, [0])], usedSlots := [(0, 1)], ents := if e then [(0, exEnt)] else [] })
    (ctxPut R.CTX_VIEW_0_OVF_MAX 5 v (ctxPut R.CTX_VIEW_1_KEY 5 8 (ctxPut R.CTX_VIEW_0_STATE 5 csOPEN (exHead (exMsgPkt op)))))

theorem wit_msg_bad : ∃ k, MsgIs (exMsg 2 0 true) 0 k .west .west (exMsgPkt 2) := ⟨1, by unfold MsgIs HeadIs; decide⟩
theorem wit_msg_open : MsgIs (exMsg 1 0 true) 0 1 .west .west (exMsgPkt 1) := by unfold MsgIs HeadIs; decide
theorem wit_msg_clauses :
    ctxIsOpen (exMsg 1 0 true) 5 = true ∧ (exMsgPkt 1).ctx = 5 ∧ (exMsgPkt 1).op = 1 ∧ (exMsgPkt 1).salv = false ∧
      srcOk (exMsg 1 0 true) 5 0 = true ∧ (exMsgPkt 1).key = ctxV (exMsg 1 0 true) R.CTX_VIEW_1_KEY 5 ∧
      ctxOvf (exMsg 1 0 true) .west 5 = [] ∧
      (search (exMsg 1 0 true) .west 6 (ctxBlocks (exMsg 1 0 true) .west 5)).2 = some 0 ∧
      (search (exMsg 1 0 false) .west 6 (ctxBlocks (exMsg 1 0 false) .west 5)).2 = none ∧
      ctxV (exMsg 1 0 false) R.CTX_VIEW_0_OVF_MAX 5 = 0 ∧ 0 < ctxV (exMsg 1 1 false) R.CTX_VIEW_0_OVF_MAX 5 := by decide
theorem wit_msg_reject : MsgIs (ctxPut R.CTX_VIEW_1_KEY 5 7 (exMsg 1 0 true)) 0 1 .west .west (exMsgPkt 1) ∧
    (exMsgPkt 1).key ≠ ctxV (ctxPut R.CTX_VIEW_1_KEY 5 7 (exMsg 1 0 true)) R.CTX_VIEW_1_KEY 5 := by
  unfold MsgIs HeadIs; decide

theorem wit_slot : ByQueue (exOps (exOp 0 .slot none)) (exOp 0 .slot none) ∧
    ByQueue (exOps (exOp 0 .slot (some exEnt))) (exOp 0 .slot (some exEnt)) := by unfold ByQueue; decide
theorem wit_slot_clauses :
    quiet (exOps (exOp 0 .slot none)) = true ∧ slotWaiters (exOps (exOp 0 .slot none)) .west = exOp 0 .slot none :: [] ∧
      slotFree (exOps (exOp 0 .slot none)) .west = true ∧
      firstCheck (exOps (exOp 0 .slot (some exEnt))) (exOp 0 .slot (some exEnt)) exEnt = some stBAD_REQUEST ∧
      firstCheck (exOps (exOp (6 * 2 ^ 56 + 2 ^ 48) .slot (some exEnt))) (exOp (6 * 2 ^ 56 + 2 ^ 48) .slot (some exEnt)) exEnt =
        none ∧ (exOp (6 * 2 ^ 56 + 2 ^ 48) .slot (some exEnt)).dop = doFENCE ∧
      slotWaiters (exUp State.reset) .east = [] := by decide
theorem wit_slot_turned :
    ByQueue (exOps { exOp 0 .slot (some exEnt) with turned := true }) { exOp 0 .slot (some exEnt) with turned := true } ∧
      slotWaiters (exOps { exOp 0 .slot (some exEnt) with turned := true }) .west =
        { exOp 0 .slot (some exEnt) with turned := true } :: [] ∧
      slotFree (exOps { exOp 0 .slot (some exEnt) with turned := true }) .west = true := by unfold ByQueue; decide

/-- `exOps` with the request in West's admission queue, and name 4 standing for object `obj` of 50 bytes where `e`. -/
def exAdmit (d : DOp) (e : Bool) (obj : Nat) : State :=
  objMod (fun o => { o with
    names := if e then [(7, { name := 4, objId := obj, size := 50, gen := 2, group := 0, tomb := false, creator := 5, used := true })]
      else [] })
    (wr pgEaselG R.EZG_CARVE_NAME_LOG2 4 (dkMod (fun k => { k with queue := ⟨[9], []⟩ }) (exOps d)))

theorem wit_admit_hash : nameHash (exAdmit (exOp 0 .admitting none) true 7) 4 = 7 := by decide +kernel
theorem wit_admit : AdmitNext (exAdmit (exOp (2 * 2 ^ 56 + 2 ^ 48) .admitting none) false 7) .west (exOp (2 * 2 ^ 56 + 2 ^ 48) .admitting none) ∧
    nameFind (exAdmit (exOp (2 * 2 ^ 56 + 2 ^ 48) .admitting none) false 7) 4 = none := by
  unfold AdmitNext ByQueue; decide +kernel
theorem wit_admit_found :
    nameFind (exAdmit (exOp 0 .admitting none) true 7) 4 = some (7, nameAt (exAdmit (exOp 0 .admitting none) true 7) 7) ∧
      objHome 7 = .west ∧ objHome (2 ^ 63 + 7) = Half.west.twin ∧
      (exOp (4 * 2 ^ 56 + 2 ^ 48) .admitting none).dop = doDELETE ∧ (exOp (5 * 2 ^ 56 + 2 ^ 48) .admitting none).dop = doSTAT ∧
      (exOp (2 ^ 56 + 2 ^ 48 + 2 ^ 47 + 2 ^ 46) .admitting none).excl = true ∧ (exOp (2 ^ 56 + 2 ^ 48) .admitting none).len ≠ 0 := by
  decide +kernel
theorem wit_admit_put : AdmitNext (exAdmit (exOp (2 ^ 56 + 2 ^ 48) .admitting none) true 7) .west (exOp (2 ^ 56 + 2 ^ 48) .admitting none) := by
  unfold AdmitNext ByQueue; decide +kernel
/-- A request of operation `o` for name 4 with the flag bits `f` and COND_GEN `g`, waiting for admission. -/
def exAsk (o f g : Nat) : DOp := { exOp (o * 2 ^ 56 + 2 ^ 48 + f) .admitting none with
  body := [o * 2 ^ 56 + 2 ^ 48 + f, 4, 0, 100, 0, 0, 0, g * 2 ^ 32] }
/-- `exAdmit` with its names replaced by 14 others that fill the table to its limit. -/
def exFull (d : DOp) : State := objMod (fun o => { o with
  names := (List.range 14).map (fun i => (i, { name := 100 + i, objId := i, used := true })) }) (exAdmit d false 7)
def exCreate : Nat := 2 ^ 47
def exExcl : Nat := 2 ^ 47 + 2 ^ 46

theorem wit_admit_absent :
    AdmitNext (exAdmit (exAsk 1 exCreate 3) false 7) .west (exAsk 1 exCreate 3) ∧ (exAsk 1 exCreate 3).creates = true ∧
      (exAsk 1 exCreate 3).condGen ≠ 0 ∧ nameFind (exAdmit (exAsk 1 exCreate 3) false 7) 4 = none ∧
      AdmitNext (exFull (exAsk 1 exCreate 0)) .west (exAsk 1 exCreate 0) ∧ nameFind (exFull (exAsk 1 exCreate 0)) 4 = none ∧
      nameFull (exFull (exAsk 1 exCreate 0)) 4 = true ∧
      AdmitNext (exAdmit (exAsk 1 exCreate 0) false 7) .west (exAsk 1 exCreate 0) ∧
      nameFull (exAdmit (exAsk 1 exCreate 0) false 7) 4 = false := by
  unfold AdmitNext ByQueue; decide +kernel
theorem wit_admit_away :
    AdmitNext (bootMod (fun b => { b with span := true }) (exAdmit (exAsk 5 0 0) true (2 ^ 63 + 7))) .west (exAsk 5 0 0) ∧
      objHome (2 ^ 63 + 7) = Half.west.twin ∧
      xstepOk (bootMod (fun b => { b with span := true }) (exAdmit (exAsk 5 0 0) true (2 ^ 63 + 7))) = true := by
  unfold AdmitNext ByQueue; decide +kernel
theorem wit_admit_present :
    AdmitNext (exAdmit (exAsk 5 0 0) true 7) .west (exAsk 5 0 0) ∧ AdmitNext (exAdmit (exAsk 1 exExcl 0) true 7) .west (exAsk 1 exExcl 0) ∧
      AdmitNext (exAdmit (exAsk 4 0 3) true 7) .west (exAsk 4 0 3) ∧ (exAsk 4 0 3).condGen ≠ 2 ∧
      AdmitNext (exAdmit (exAsk 4 0 2) true 7) .west (exAsk 4 0 2) ∧ (exAsk 4 0 2).condGen = 2 := by
  unfold AdmitNext ByQueue; decide +kernel
theorem wit_admit_lost :
    AdmitNext (plMod .west (fun p => { p with lost := [⟨7, 49, 1, 2⟩] }) (exAdmit (exAsk 2 0 0) true 7)) .west (exAsk 2 0 0) ∧
      lostHit (plMod .west (fun p => { p with lost := [⟨7, 49, 1, 2⟩] }) (exAdmit (exAsk 2 0 0) true 7)) 7 0 50 = true := by
  unfold AdmitNext ByQueue; decide +kernel

/-- `exAdmit` with primacy and the span up: West holds a lease renewed at instant 0. -/
def exStep (d : DOp) (e : Bool) : State :=
  let s := exAdmit d e 7
  leaseMod (fun l => { l with timer := ⟨some 0, none⟩ }) { s with boot := { s.boot with span := true } }

theorem wit_step_delete :
    StepWaits (exStep { exOp (4 * 2 ^ 56 + 2 ^ 48) .step none with obj := 7 } true) .west
      { exOp (4 * 2 ^ 56 + 2 ^ 48) .step none with obj := 7 } ∧
      nameFind (exStep { exOp (4 * 2 ^ 56 + 2 ^ 48) .step none with obj := 7 } true) 4 =
        some (7, nameAt (exStep { exOp (4 * 2 ^ 56 + 2 ^ 48) .step none with obj := 7 } true) 7) := by
  unfold StepWaits ByQueue; decide +kernel
theorem wit_step_flags :
    holds (exStep (exOp 0 .step none) true) .west = true ∧ primLost (exStep (exOp 0 .step none) true) .west = false ∧
      holdsLong (exStep (exOp 0 .step none) true) .west = true ∧ xstepOk (exStep (exOp 0 .step none) true) = true ∧
      (exStep (exOp 0 .step none) true).boot.single = none ∧
      holds (exAdmit (exOp 0 .step none) true 7) .east = false := by decide
theorem wit_step_room (d : DOp) (e : Bool) : nameRoom (exStep d e) .west = true := by
  have h0 : ((exStep d e).jrnl.at .west).owed = [] ∧ ((exStep d e).jrnl.at .west).fill = 0 ∧
      ((exStep d e).jrnl.at .east).owed = [] ∧ ((exStep d e).jrnl.at .east).fill = 0 := ⟨rfl, rfl, rfl, rfl⟩
  have h1 : (exStep d e).boot.single = none := rfl
  have h2 := stepShape_le (exStep d e)
  have h3 : (stepShape (exStep d e)).2 ≤ jrnlLines := by unfold jrnlLines; omega
  simp [nameRoom, h1, jrnlRoom, Half.twin, h0, h3]
theorem wit_step_put :
    nameFind (exStep (exOp (2 ^ 56 + 2 ^ 48 + 2 ^ 47) .step none) false) 4 = none ∧
      nameFull (exStep (exOp (2 ^ 56 + 2 ^ 48 + 2 ^ 47) .step none) false) 4 = false ∧
      freeSlotOf (exStep (exOp (2 ^ 56 + 2 ^ 48 + 2 ^ 47) .step none) false)
        (namePath (exStep (exOp (2 ^ 56 + 2 ^ 48 + 2 ^ 47) .step none) false) 4) = some 7 := by decide +kernel

/-- Write 3 of request 9, 100 bytes at offset 0 of object 7, with its page on East. -/
def exWr : Write := { id := 3, obj := 7, home := .west, ranges := [(0, 100)], ops := [(9, 5)], coll := none, pages := [⟨0, .east, 0, false⟩] }
def exDur : DOp := { exOp (2 ^ 56 + 2 ^ 48) .pull none with obj := 7, write := some 3, landed := 100, issued := 100 }
def exDurS (d : DOp) (w : Write) : State := objMod (fun o => { o with writes := [w] }) (wr pgEaselG R.EZG_CARVE_NAME_LOG2 4 (exStep d true))

theorem wit_compact :
    primaryReady (exStep (exOp 0 .step none) true) = true ∧
      twf (fun n => n) {} (exStep (exOp 0 .step none) true).objs.names = true ∧
      compactNext (objMod (fun o => { o with
        names := [(7, { name := 9, used := true, tomb := true }), (8, { name := 4, used := true, objId := 7 })] })
        (exStep (exOp 0 .step none) true)) 0 = some (8, 7) := by decide +kernel

theorem wit_write_effect :
    exDur.len = 100 ∧ exDur.durable = true ∧ wrGet (exDurS exDur exWr) 3 = some exWr ∧ opGet (exDurS exDur exWr) 9 = some exDur ∧
      nameStepOk (exDurS exDur exWr) = true ∧ (objEnt (exDurS exDur exWr) 7).isSome = true ∧
      quiet (exDurS exDur exWr) = true := by decide
theorem wit_span_copy :
    wrGet (exDurS exDur { exWr with ord := 1 }) 3 = some { exWr with ord := 1 } ∧ allHome exWr = false ∧
      (takePages .west 1 (wr pgEaselG R.EZG_CARVE_MAP_GIB 1 (exDurS exDur { exWr with ord := 1 }))).isSome = true := by
  decide +kernel
theorem wit_merge_held :
    stpGet (objMod (fun o => { o with stripes := [{ exStripe with held := true }] }) exPlace) 5 = some { exStripe with held := true } := by
  decide
/-- `exStep` with room in the name table, and the DELETE and PUT that wait for their steps. -/
def exDel : DOp := { exOp (4 * 2 ^ 56 + 2 ^ 48) .step none with obj := 7 }
theorem wit_step_lost :
    StepWaits (bootMod (fun b => { b with span := true }) (exAdmit exDel true 7)) .east exDel ∧
      holds (bootMod (fun b => { b with span := true }) (exAdmit exDel true 7)) .east = false := by
  unfold StepWaits ByQueue; decide +kernel
theorem wit_step_deletes : StepWaits (exStep exDel true) .west exDel ∧ exDel.dop = doDELETE ∧
    holds (exStep exDel true) .west = true ∧ primLost (exStep exDel true) .west = false ∧
    holdsLong (exStep exDel true) .west = true ∧ xstepOk (exStep exDel true) = true ∧ (exStep exDel true).boot.single = none ∧
    (exStep exDel true).place.west.badNames = [] ∧ (exStep exDel true).place.east.badNames = [] := by
  unfold StepWaits ByQueue; decide +kernel
theorem wit_write_gone :
    wrGet (exDurS { exDur with gone := true } exWr) 3 = some exWr ∧ ({ exDur with gone := true } : DOp).durable = true ∧
      opGet (exDurS { exDur with gone := true } exWr) 9 = some { exDur with gone := true } := by decide
/-- Write 3 takes effect with its page on East, and a free page on West. -/
def exCopyS : State := wr pgEaselG R.EZG_CARVE_MAP_GIB 1 (exDurS exDur { exWr with ord := 1 })
theorem wit_span_copies :
    wrGet exCopyS 3 = some { exWr with ord := 1 } ∧ exCopyS.boot.span = true ∧ (takePages .west 1 exCopyS).isSome = true ∧
      exCopyS.dikar.ops.all (fun d => !(d.coll.isSome && d.write == some 3)) = true := by decide +kernel
theorem wit_merge_free : quiet exWait = true ∧ stpGet exWait 5 = some exStripe ∧ exStripe.held = false := by decide
/-- `exStep` with a tombstone before the entry of name 4, compaction under way. -/
def exCompact : State := objMod (fun o => { o with
    names := [(7, { name := 9, used := true, tomb := true }), (8, { name := 4, used := true, objId := 7 })], compacting := true })
  (exStep (exOp 0 .step none) true)
theorem wit_compacts :
    quiet exCompact = true ∧ twf (fun n => n) {} exCompact.objs.names = true ∧ primaryReady exCompact = true ∧
      xstepOk exCompact = true ∧ primLost exCompact .west = false ∧ primLost exCompact .east = false ∧
      exCompact.objs.compacting = true ∧ compactNext exCompact 0 = some (8, 7) := by decide +kernel

/-- A pull of 100 bytes that has begun, its page on West where `pg`. -/
def exPull : DOp := { exDur with landed := 0, issued := 0 }
def exPullS (pg : Bool) : State :=
  objMod (fun o => { o with writes := [{ exWr with pages := if pg then [⟨0, .west, 0, false⟩] else [] }] }) (exOps exPull)

theorem wit_pull :
    quiet (exPullS true) = true ∧ opGet (exPullS true) 9 = some exPull ∧ exPull.outst < pullWin (exPullS true) .west ∧
      nextPiece exPull = some (0, 100) ∧ freeTag (exPullS true) .west = some 0 ∧
      unitsMissing { exWr with pages := [⟨0, .west, 0, false⟩] } .west 0 100 = [] ∧
      unitsMissing { exWr with pages := [] } .west 0 100 = 0 :: [] ∧ freePage (exPullS false) .west true = none ∧
      exPull.waitPage = false := by decide

/-- A GET of 100 bytes that nothing holds, `p` of them pushed. -/
def exGet (p : Nat) : DOp := { exOp (2 * 2 ^ 56 + 2 ^ 48) .get none with bytes := 100, pushed := p }

theorem wit_get : ByQueue (exOps (exGet 100)) (exGet 100) ∧ quiet (exOps (exGet 0)) = true := by unfold ByQueue; decide
theorem wit_get_clauses :
    opGet (exOps (exGet 0)) 9 = some (exGet 0) ∧ (exGet 0).pushed < (exGet 0).bytes ∧
      getFailed (exOps (exGet 0)) (exGet 0) = false ∧ getReady (exOps (exGet 0)) (exGet 0) = true ∧
      (exGet 0).home = (exGet 0).h ∧ (exGet 100).pushed = (exGet 100).bytes ∧
      getFailed (exOps { exGet 0 with plans := [1] }) { exGet 0 with plans := [1] } = true := by decide

theorem wit_fence :
    ByQueue (exOps (exOp (6 * 2 ^ 56 + 2 ^ 48) .fence none)) (exOp (6 * 2 ^ 56 + 2 ^ 48) .fence none) ∧
      (exOp (6 * 2 ^ 56 + 2 ^ 48) .fence none).media = false ∧
      pwOpen (exOps (exOp (6 * 2 ^ 56 + 2 ^ 48) .fence none)) 5 0 = false ∧
      ctxV (ctxPut R.CTX_VIEW_7_FAILED 5 3 (exOps (exOp (6 * 2 ^ 56 + 2 ^ 48) .fence none))) R.CTX_VIEW_7_FAILED 5 ≠ 0 := by
  unfold ByQueue; decide

theorem wit_dk_en :
    pageLive (exUp State.reset) (pgDikar .east) = true ∧ rdB (exUp State.reset) pgEaselG R.EZG_CTRL_SVC = false ∧
      rdB (wr pgEaselG R.EZG_CTRL_SVC 1 (exUp State.reset)) pgEaselG R.EZG_CTRL_SVC = true := by decide
/-- Write 3 of the pull, with its first page present where `pg`. -/
def exPullW (pg : Bool) : Write := { exWr with pages := if pg then [⟨0, .west, 0, false⟩] else [] }
theorem wit_pull_writes : wrGet (exPullS true) exPull.write.get! = some (exPullW true) ∧
    wrGet (exPullS false) 3 = some (exPullW false) ∧ exPull.write = some (exPullW true).id ∧ quiet (exPullS false) = true ∧
    opGet (exPullS false) 9 = some exPull ∧ exPull.coll = none ∧ exPull.st = .pull := by decide
theorem wit_get_failed : quiet (exOps { exGet 0 with plans := [1] }) = true ∧ ByQueue (exOps { exGet 0 with plans := [1] }) { exGet 0 with plans := [1] } ∧
    opGet (exOps { exGet 0 with plans := [1] }) 9 = some { exGet 0 with plans := [1] } := by
  unfold ByQueue; decide

/-- Context 5 selected, in state `st`, entry 0 of its only block valid where `e`, a staged entry ready. -/
def exCtx (st : Nat) (e : Bool) : State :=
  wr pgContexts (R.ME_STAGE.at 4) (2 ^ 63 + 2 ^ 54) (wr pgContexts R.CTX_SEL_CTX 5 (ctxPut R.CTX_VIEW_0_STATE 5 st
    (mhMod .west (fun m => { m with blocks := [(5, [0])], usedSlots := [(0, 1)], ents := if e then [(0, exEnt)] else [] })
    (exUp State.reset))))

theorem wit_ctx_sel : CtxSel (exCtx csCLOSED true) .west 5 ∧ openCode (exCtx csCLOSED true) 5 ≠ 0 ∧
    ctxRings (exCtx csCLOSED true) 5 = [] ∧ ctxIsOpen (exCtx csCLOSED true) 5 = false := by unfold CtxSel; decide
theorem wit_ctx_open :
    openCode (wrI pgContexts R.KR_VIEW_0_VALID 0 1 (wrI pgContexts R.KR_VIEW_0_CTX_HI 0 9
      (ctxPut R.CTX_VIEW_2_CQ_LOG2 5 4 (exCtx csCLOSED true)))) 5 = 0 := by decide
theorem wit_ctx_close :
    CtxSel (exCtx csOPEN true) .west 5 ∧ ctxIsOpen (exCtx csOPEN true) 5 = true ∧ ctxOvf (exCtx csOPEN true) .west 5 = [] ∧
      ctxRings (wrI pgRings R.RING_CTRL_CTX 3 5 (wrI pgRings R.RING_CTRL_EN 3 1 (exCtx csOPEN true))) 5 = 3 :: [] ∧
      ctxState (exCtx csCLOSING true) 5 = csCLOSING ∧ closeReady (exCtx csCLOSING true) .west 5 = true := by
  unfold CtxSel; decide
theorem wit_ctx_close_op :
    ByQueue (dkMod (fun k => { k with ops := [exOp 0 .slot none] }) (exCtx csOPEN true)) (exOp 0 .slot none) := by
  unfold ByQueue; decide
theorem wit_me :
    (staged (exCtx csOPEN true) 5).dops ≠ 0 ∧ (staged (exCtx csOPEN true) 5).nameLo ≤ (staged (exCtx csOPEN true) 5).nameHi ∧
      bits (stageWord (exCtx csOPEN true) 4) 25 0 = 0 ∧ entSlot (exCtx csOPEN true) .west 5 = some (1, false) ∧
      (staged (wr pgContexts (R.ME_STAGE.at 4) 0 (exCtx csOPEN true)) 5).dops = 0 ∧
      selOk (exCtx csOPEN true) 5 = true ∧ selOk (exCtx csOPEN false) 5 = false ∧
      (ctxRings (exCtx csOPEN true) 5).any (fun r => rdI (exCtx csOPEN true) pgRings R.RING_CTRL_ENTRY r == 0) = false ∧
      pinned (exCtx csOPEN true) .west < 16384 := by decide

/-- Context 5 open on West with CQ_LOG2 4, PI 3 and CI `ci`, one record that waits in its queue. -/
def exCq (ci : Nat) : State :=
  cqMod .west 5 (fun q => { q with recs := [⟨[1], none, none, false⟩], uncovered := 1 }) (ctxPut R.CTX_VIEW_2_CQ_LOG2 5 4
    (ctxPut R.CTX_VIEW_5_CQ_PI 5 3 (ctxPut R.CTX_VIEW_5_CQ_CI 5 ci (exCtx csOPEN true))))
def exOvf : OvfRec := { ctx := 5, src := 0, mtch := 6, key := 8, body := [], badLen := false, time := 0 }

theorem wit_overflow :
    ctxOvf (mhMod .west (fun m => { m with ovf := [exOvf] }) (exUp State.reset)) .west 5 = [exOvf] ∧
      quiet (mhMod .west (fun m => { m with ovf := [exOvf] }) (exUp State.reset)) = true ∧
      ctxOvf (exUp State.reset) .east 0 = [] := by decide
theorem wit_cq :
    quiet (exCq 0) = true ∧ ctxHome (exCq 0) 5 = .west ∧ (cqGet (exCq 0) .west 5).recs = ⟨[1], none, none, false⟩ :: [] ∧
      cqRoom (exCq 0) 5 ≠ 0 ∧ ctxV (exCq 0) R.CTX_VIEW_2_CQ_LOG2 5 ≤ 16 ∧ cqRoom (exCq 19) 5 = 0 ∧
      (cqGet (exCq 0) .west 5).uncovered ≠ 0 ∧ (cqGet (exUp State.reset) .west 5).uncovered = 0 := by decide

/-- An aperture write of `v` to CI of context 5, at the head of VC1 of F[0], PI 3 and CI 0 in force, with key `key`. -/
def exCi (key v : Nat) : Packet := mkPW true 0 (0xFFFF * 2 ^ 48 + 2 ^ 39 + 5 * 2 ^ 19) 5 key (leBytes 8 v)
def exCiS (p : Packet) : State :=
  ctxPut R.CTX_VIEW_2_CQ_LOG2 5 4 (ctxPut R.CTX_VIEW_5_CQ_PI 5 3 (ctxPut R.CTX_VIEW_1_KEY 5 8
    (ctxPut R.CTX_VIEW_0_STATE 5 csOPEN (exHead p))))

theorem wit_ci_write :
    HeadIs (exCiS (exCi 8 2)) 0 1 1 .west (exCi 8 2) ∧ quiet (exCiS (exCi 8 2)) = true ∧ (exCi 8 2).type = tPW ∧
      inAperture (exCi 8 2).addr = true ∧ (exCi 8 2).addr.testBit 39 = true ∧ apCtx (exCiS (exCi 8 2)) (exCi 8 2) = 5 ∧
      apCause (exCiS (exCi 8 2)) .west (exCi 8 2) = none ∧ leNat (exCi 8 2).payload = 2 ∧ leNat (exCi 8 4).payload = 4 ∧
      apCause (exCiS (exCi 8 4)) .west (exCi 8 4) = none ∧ apCause (exCiS (exCi 7 2)) .west (exCi 7 2) = some 4 := by
  unfold HeadIs; decide

/-- Ring 2 of context 5, enabled with a block at Easel address 2^23 and a size of 2^4 descriptors. -/
def exRing (s : State) : State :=
  ringMod 2 (fun y => { y with blk := some (2 ^ 23) }) (ringPut R.RING_CTRL_EN 2 1 (wrI pgRings R.RING_CTRL_CTX 2 5 s))
def exRw (o : Nat) (bs : List Byte) : Packet := mkPW true 0 (0xFFFF * 2 ^ 48 + 2 * 2 ^ 23 + o) 5 8 bs

theorem wit_ring_pi : RingWrite (exRing (exCiS (exRw 0 (leBytes 8 1)))) 0 1 .west 2 (exRw 0 (leBytes 8 1)) ∧
    bits (exRw 0 (leBytes 8 1)).addr 22 0 = 0 := by unfold RingWrite HeadIs; decide
theorem wit_ring_desc : RingWrite (exRing (exCiS (exRw 0x1040 (zeros 64)))) 0 1 .west 2 (exRw 0x1040 (zeros 64)) ∧
    bits (exRw 0x1040 (zeros 64)).addr 22 0 ≠ 0 := by unfold RingWrite HeadIs; decide

/-- `exCtx` with everything that R332 asks of ring 0. -/
def exRingOk : State :=
  wrI pgRings R.RING_CTRL_CTX 0 5 (wr pgEaselG R.EZG_CARVE_RING_GIB 1 (wr pgEaselG R.EZG_CTRL_SVC 1 (exCtx csOPEN true)))

theorem wit_ring_enable :
    rd exRingOk pgRings R.RING_SEL_RING = 0 ∧ quiet exRingOk = true ∧ ringEn exRingOk 0 = false ∧ ringOk exRingOk 0 = true ∧
      (ringGet (ringMod 0 (fun y => { y with blk := some 0 }) exRingOk) 0).blk = some 0 ∧
      ringOk (exUp State.reset) 0 = false ∧ ringEn (exRing (exUp State.reset)) 2 = true ∧
      rd (wr pgRings R.RING_SEL_RING 2 (exRing (exUp State.reset))) pgRings R.RING_SEL_RING = 2 := by decide

/-- Ring 2 polled with `v` as its producer index. -/
def exPoll (v : Nat) : State :=
  let s := exRing (wr pgKeeper R.KP_PWR_STAT_STATE 4 (exCtx csOPEN true))
  ezWrite (ringRec s 2) (leBytes 8 v) s

theorem wit_ring_poll :
    Polled (exPoll 0) 2 ∧ ringNew (exPoll 0) 2 = 0 ∧ ringNew (exPoll 17) 2 = 17 ∧ ringNew (exPoll 3) 2 = 3 ∧
      min (min (ringNew (exPoll 3) 2) 64) (freeSlots (exPoll 3) .west) = 3 := by unfold Polled; decide
theorem wit_ring_idle :
    quiet exRingOk = true ∧ ringV (ringPut R.RING_STAT_IDLE 0 0 exRingOk) R.RING_STAT_IDLE 0 ≠ 1 ∧ (ringGet exRingOk 0).descs = [] ∧
      (ringGet exRingOk 0).open_ = 0 ∧ exRingOk.dikar.ops.any (fun d => d.ring.any (fun x => x.1 == 0)) = false ∧
      ringV (ringPut R.RING_STAT_IDLE 0 1 exRingOk) R.RING_STAT_IDLE 0 = 1 := by decide

theorem wit_clears : pageLive (exUp State.reset) (pgFiu 15) = true ∧ pageLive (exUp State.reset) (pgCal .east) = true ∧
    pageLive State.reset (pgFiu 3) = false ∧ pageLive State.reset (pgRegQ 1) = false ∧
    pageLive State.reset (pgRegQ 0) = true := by decide
theorem wit_clears_tables : TablesWf State.reset := by unfold TablesWf; decide
theorem test_clear_frozen :
    (clearAll (pgFiu 0) fiuCounters (wr (pgFiu 0) R.CTRL_FREEZE 1 (wr (pgFiu 0) R.FIU_CNT_RECOVER 9 State.reset))).regs =
      (wr (pgFiu 0) R.CTRL_FREEZE 1 State.reset).regs := by decide

/-- A collective of `n` ranks for object 7 on West, its assembly area being write 3. -/
def exColl (n : Nat) (ov : Bool) : Coll := {
  obj := 7, tag := 2, nmemb := n, tmo := 0, tmoMs := 1, notify := true, partialOk := false, create := false, group := 0,
  deadline := 0, write := 3, members := [9], closing := ov, doneBody := if ov then [0] else [], nodes := [0] }
def exMember : DOp := { exDur with coll := some (0, 0), st := .member, received := true }
def exCollS (d : DOp) (r : Coll) : State := collMod .west (fun c => { c with recs := [(0, r)] }) (exDurS d exWr)

theorem wit_coll_gather :
    opGet (exCollS { exDur with coll := some (0, 0) } (exColl 2 false)) 9 = some { exDur with coll := some (0, 0) } ∧
      DOp.durable { exDur with coll := some (0, 0) } = true ∧ exDur.h = .west ∧ exDur.home = .west ∧
      recGet (exCollS { exDur with coll := some (0, 0) } (exColl 2 false)) .west 0 = some (exColl 2 false) ∧
      (exColl 2 false).over = false ∧ wrGet (exCollS exDur (exColl 2 false)) 3 = some exWr ∧
      rdB (exCollS exDur (exColl 2 false)) (pgColl .west) R.COL_CTRL_EARLY = (R.COL_CTRL_EARLY.rst != 0) ∧
      rdB (wr (pgColl .west) R.COL_CTRL_EARLY 0 (exCollS exDur (exColl 2 false))) (pgColl .west) R.COL_CTRL_EARLY = false ∧
      exMember.durable = false := by decide
theorem wit_coll_members : OneMember (exCollS exMember (exColl 2 false)) .west 0 (exColl 2 false) exMember ∧
    MemberIn (exColl 2 false) exMember := by unfold OneMember MemberIn; decide +kernel
theorem wit_coll_one : OneMember (exCollS exMember (exColl 1 false)) .west 0 (exColl 1 false) exMember ∧
    MemberIn (exColl 1 false) exMember := by unfold OneMember MemberIn; decide +kernel
theorem wit_coll_close :
    (exColl 2 false).deadline ≤ nowH (exCollS exMember (exColl 2 false)) .west ∧
      (exCollS exMember (exColl 1 false)).objs.stripes.filter (fun x => x.write == 3) = [] ∧
      nameStepOk (exCollS exMember (exColl 1 false)) = true ∧
      nowH (exCollS exMember (exColl 2 false)) .west < { exColl 2 false with deadline := 5 }.deadline := by decide
theorem wit_coll_room (d : DOp) (r : Coll) : nameRoom (exCollS d r) .west = true := by
  have h0 : ((exCollS d r).jrnl.at .west).owed = [] ∧ ((exCollS d r).jrnl.at .west).fill = 0 ∧
      ((exCollS d r).jrnl.at .east).owed = [] ∧ ((exCollS d r).jrnl.at .east).fill = 0 := ⟨rfl, rfl, rfl, rfl⟩
  have h1 : (exCollS d r).boot.single = none := rfl
  have h2 := stepShape_le (exCollS d r)
  have h3 : (stepShape (exCollS d r)).2 ≤ jrnlLines := by unfold jrnlLines; omega
  simp [nameRoom, h1, jrnlRoom, Half.twin, h0, h3]
theorem wit_coll_open : collAllIn (exCollS exMember (exColl 2 false)) (exColl 2 false) = false := by decide +kernel
theorem wit_coll_notify :
    recGet (exCollS exDur (exColl 2 true)) .west 0 = some (exColl 2 true) ∧ (exColl 2 true).over = true ∧
      (exColl 2 true).nodes.find? (fun m => !([] : List Nat).contains m) = some 0 := by decide
theorem wit_coll_owed : recOps (exUp State.reset) (exColl 2 true) = [] := by decide +kernel

/-- NAME_LOG2 20, MAP_GIB 1, RING_GIB 1, the rest 0. -/
def exCarve : BitVec 64 := BitVec.ofNat 64 (20 * 2 ^ 59 + 2 ^ 53 + 2 ^ 23)
/-- Both halves up, with SVC `v`. -/
def exSvc (v : Nat) : State := wr pgEaselG R.EZG_CTRL_SVC v (exUp State.reset)

theorem wit_carve :
    quiet (exSvc 0) = true ∧ carveOf 0 = carveFlds.map (rd (exSvc 0) pgEaselG) ∧
      carveOf exCarve.toNat ≠ carveFlds.map (rd (exSvc 0) pgEaselG) ∧ rdB (exSvc 1) pgEaselG R.EZG_CTRL_SVC = true ∧
      carveOf exCarve.toNat ≠ carveFlds.map (rd (exSvc 1) pgEaselG) ∧ rdB (exSvc 0) pgEaselG R.EZG_CTRL_SVC = false ∧
      carveOk (exSvc 0) (carveOf (2 ^ 53)) = false ∧ carveOk (exSvc 0) (carveOf exCarve.toNat) = true ∧
      carveBusy (exSvc 0) = false ∧ carveHolds (exSvc 0) = false := by decide
theorem wit_carve_busy :
    carveBusy (plMod .west (fun x => { x with used := [0] }) (exSvc 0)) = true ∧
      carveOk (plMod .west (fun x => { x with used := [0] }) (exSvc 0)) (carveOf exCarve.toNat) = true ∧
      carveHolds (pltMod 0 (fun x => { x with tbl := some 0 }) (exSvc 0)) = true ∧
      carveOk (pltMod 0 (fun x => { x with tbl := some 0 }) (exSvc 0)) (carveOf exCarve.toNat) = true ∧
      (carveOf exCarve.toNat).take 3 ≠
        (carveFlds.map (rd (pltMod 0 (fun x => { x with tbl := some 0 }) (exSvc 0)) pgEaselG)).take 3 := by decide
theorem wit_format_svc :
    (∀ h, ((exSvc 0).place.at h).used = []) ∧ rd (exSvc 0) pgEaselG R.EZG_STAT_CARVE_GEN = 0 ∧ ezState (exSvc 0) ≠ 1 ∧
      ezState (wr pgEaselG R.EZG_CARVE_NAME_LOG2 20 (exSvc 0)) = 1 ∧ svcNeeded (exSvc 1) = false ∧
      svcNeeded (wr (pgDikar .west) R.DK_CTRL_EN 1 (exSvc 1)) = true := by
  refine ⟨fun h => by cases h <;> decide, ?_⟩; decide

/-- Page 0 of West's write buffer in use, one fill from it, the carve of `exCarve` with one GiB of cache. -/
def exPages : State :=
  plMod .west (fun x => { x with used := [0], fills := [⟨7, 3, 0⟩] })
    (wr pgEaselG R.EZG_CARVE_CACHE_GIB 1 (carvePut (carveOf exCarve.toNat) (exSvc 1)))

theorem wit_page :
    quiet exPages = true ∧ (exPages.place.at .west).used.contains 0 = true ∧ (exPages.place.at .east).used.contains 0 = false ∧
      jrnlRoom (jrnlMod .west (fun j => { j with owed := [(1, 1)] }) exPages) .west = false ∧
      pageHeld exPages .west 0 = true ∧ pageHeld (plMod .west (fun x => { x with fills := [] }) exPages) .west 0 = false ∧
      NoRetry exPages ∧ exPages.objs.stripes.filter (fun x => x.st == .merge && !x.held && !x.gone) = [] := by
  unfold NoRetry; decide
theorem wit_page_room : jrnlRoom exPages .west = true := by
  have h0 : (exPages.jrnl.at .west).owed = [] ∧ (exPages.jrnl.at .west).fill = 0 := ⟨rfl, rfl⟩
  have h2 := stepShape_le exPages
  have h3 : (stepShape exPages).2 ≤ jrnlLines := by unfold jrnlLines; omega
  simp [jrnlRoom, h0, h3]
theorem wit_checkpoint_fill :
    prState exPages ≠ prSEALED ∧ (exPages.jrnl.at .west).owed = [] ∧ (exPages.place.at .west).fills = ⟨7, 3, 0⟩ :: [] ∧
      cachePlace { exPages with place := { exPages.place with west := { exPages.place.west with cache := [⟨7, 3, 2⟩] } } } .west
        ⟨7, 3, 0⟩ = some 2 ∧ Memory.wf exPages.easel = true ∧ (exPages.place.at .east).fills = [] := by decide
theorem wit_patrol : Patrolled exPages 0 0 (lineAddr 0 0) .west ∧ Patrolled exPages 7 (2 ^ 30 - 1) (lineAddr 7 (2 ^ 30 - 1)) .east ∧
    (exPages.place.at .west).warned.contains 0 = false ∧ (exPages.place.at .west).retired.contains 0 = false ∧
    1 < rdI exPages (pgEasel .west) R.EZ_STK_VIEW_1_SPARES_LEFT 0 ∧
    rdI exPages (pgEasel .west) R.EZ_STK_VIEW_1_SPARES_LEFT 0 < 2 ^ R.EZ_STK_VIEW_1_SPARES_LEFT.w := by
  unfold Patrolled; decide
theorem wit_patrol_regions :
    regionOf exPages (lineAddr 0 (11 * 2 ^ 20) % 2 ^ 40) = 3 ∧ regionOf exPages (lineAddr 0 (14 * 2 ^ 20) % 2 ^ 40) = 8 := by decide
theorem wit_gap :
    rdB exPages pgEaselG R.EZG_CTRL_WL_EN = true ∧ gapGet exPages .west 0 = (0, 0) ∧
      rdI (addLines 0 64 exPages) (pgEasel .west) R.EZ_STK_VIEW_0_LINE_WRITES 0 = 64 ∧
      rdI exPages (pgEasel .west) R.EZ_STK_VIEW_0_LINE_WRITES 0 < 64 ∧ pageLive exPages (pgEasel .west) = true := by decide

/-- The only member of stripe 0 of object 7, on slot 0 of light 0's track 0. -/
def exMap (lost : Bool) : MapEnt := {
  obj := 7, stripe := 0, member := 0, k := 1, m := 0, strip := 0, group := 0, lost, light := 0, kind := 1, track := 0,
  slot := 0, gen := 0 }
/-- `exPlace` with that map entry, scrub and repair on, and the record of its loss where `q`. -/
def exScrub (lost q : Bool) (pass : Option (Nat × Bool)) : State :=
  wr (pgErasure .west) R.ER_CTRL_SCRUB_EN 1 (wr (pgErasure .west) R.ER_CTRL_REPAIR_EN 1
    (pltMod 0 (fun x => { x with pass := pass }) (plMod .west (fun x => { x with
      map := [exMap lost], sweep := true, repairs := if q then [{ obj := 7, num := 0, lost := [(0, false)] }] else [] }) exPlace)))

theorem wit_scrub : ScrubIdle (exScrub false false (some (9, false))) 0 .west := by unfold ScrubIdle; decide
theorem wit_scrub_pick :
    (plt (exScrub false false (some (9, false))) 0).scrub = none ∧
      (plt (exScrub false false (some (9, false))) 0).pass.isSome = true ∧
      unread (exScrub false false (some (9, false))) 0 = [exMap false] ∧
      scrubPick (exScrub false false (some (9, false))) 0 = some (exMap false) ∧
      quiet (exScrub false false (some (9, false))) = true ∧
      scrubbable (exUp State.reset) 0 = false := by decide +kernel
theorem wit_scrub_late :
    (plt (exScrub false false (some (0, false))) 0).pass = some (0, false) ∧
      (0 : Nat) ≤ nowH (exScrub false false (some (0, false))) (lHalf 0) ∧
      scrubbable (exScrub false false (some (0, false))) 0 = true ∧
      (plt (exScrub false false (some (0, true))) 0).pass = some (0, true) := by decide
theorem wit_repair :
    lightState (exLit 0 6) 0 ≠ lsFAULT ∧ lightState (exLit 0 lsFAULT) 0 = lsFAULT ∧
      rdB (exScrub true true none) (pgErasure .west) R.ER_CTRL_REPAIR_EN = true ∧ takesWork (exScrub true true none) = true ∧
      repairsOn (exScrub true true none) .west <
        min 4096 (max 1 (rd (exScrub true true none) (pgErasure .west) R.ER_CTRL_REPAIR_MAX)) ∧
      repairPick (exScrub true true none) .west = some { obj := 7, num := 0, lost := [(0, false)] } ∧ objHome 7 = .west ∧
      mapStripe (exScrub true true none) 7 0 = [exMap true] ∧ repairPick (exScrub false false none) .west = none := by decide
theorem wit_sweep :
    ((exScrub true false none).place.at .west).sweep = true ∧ ((exUp State.reset).place.at .west).sweep = false ∧
      ((exScrub false false none).place.at .west).map.all (fun e => !e.lost) = true ∧
      ((exScrub true false none).place.at .west).map.filter (fun x => x.lost &&
        !((exScrub true false none).place.at .west).repairs.any (fun r =>
          r.obj == x.obj && r.num == x.stripe && r.lost.any (fun m => m.1 == x.member))) = [exMap true] ∧
      quiet (exScrub true false none) = true := by decide

/-- GS_TGT names unit `u` of station 0 of A[0] in `s`. -/
def exTgt (u : Nat) (s : State) : State := wr (pgErasure .west) R.GS_TGT_UNIT u s

theorem wit_gesso_refused : GessoTarget (exTgt 1 (exUp State.reset)) .west 0 0 [{ unit := 1, out := some 1 }] ∧
    gessoRefusal (exTgt 1 (exUp State.reset)) .west 0 0 [{ unit := 1, out := some 1 }] = some 1 ∧
    resRoom (exTgt 1 (exUp State.reset)) (resOf .west) 1 = true ∧ quiet (exTgt 1 (exUp State.reset)) = true := by
  unfold GessoTarget; decide
theorem wit_gesso_done : GessoTarget (exTgt 1 exPlace) .west 0 0 [{ unit := 1, out := some 1 }] ∧
    gessoRefusal (exTgt 1 exPlace) .west 0 0 [{ unit := 1, out := some 1 }] = none ∧ quiet (exTgt 1 exPlace) = true ∧
    ((exTgt 1 exPlace).place.at .west).jobs = [] ∧ takesWork (exTgt 1 exPlace) = true ∧
    jobFlying (exTgt 1 exPlace) .west 0 = false ∧ resRoom (exTgt 1 exPlace) (resOf .west) 2 = true := by
  unfold GessoTarget; decide
theorem wit_gesso_unit : GessoTarget (exTgt 0 exPlace) .west 0 0 [{ unit := 0, light := 0 }] ∧
    gessoRefusal (exTgt 0 exPlace) .west 0 0 [{ unit := 0, light := 0 }] = none ∧ isDisc (exTgt 0 exPlace) 0 = true ∧
    lightState (exTgt 0 exPlace) 0 = lsLIT ∧ 2 ≤ (lgt (exTgt 0 exPlace) 0).unitState ∧
    jobFlying (exTgt 0 exPlace) .west 0 = false := by
  unfold GessoTarget; decide
/-- Job 3 with the unit of light 0, nothing in flight. -/
def exJob : State := plMod .west (fun x => { x with jobs := [(3, ⟨0, 0, 0, 0, false, [{ unit := 0 }]⟩)] }) exPlace
theorem wit_gesso_abort :
    pageLive exJob (pgErasure .west) = true ∧ (exJob.place.at .west).jobs = [(3, ⟨0, 0, 0, 0, false, [{ unit := 0 }]⟩)] ∧
      jobFlying exJob .west 3 = false ∧ resRoom exJob (resOf .west) 2 = true ∧ jobGet exJob .west 2 = none ∧
      quiet exJob = true := by decide

/-- West's request queue of stack 0 with LEVEL `v` and two entries. -/
def exFifo (v : Nat) : State :=
  fifoMod 1 9216 (fun f => { f with ents := [⟨1, true, true, 0⟩, ⟨2, true, true, 0⟩], level := v }) (exUp State.reset)

theorem wit_fifo :
    fifoCap (exFifo 3) 1 9216 = some 256 ∧ fifoDual 9216 = false ∧ fifoFramed 9216 = false ∧ (fifoGet (exFifo 3) 1 9216).pops = [] ∧
      (fifoGet (exFifo 3) 1 9216).ents.length = 2 ∧
      (fifoGet (exFifo 3) 1 9216).ents.all (fun e => e.wait == 0) = true ∧ qType 9216 = 9 ∧ quiet (exFifo 3) = true ∧
      fifoCap (exFifo 3) 0 5 = none := by decide
theorem wit_fifo_level : levelFires 3 2 (cycleEnts 256 (some ⟨3, true, true⟩) false (fifoGet (exFifo 3) 1 9216).ents).length true ∧
    ¬ levelFires 3 2 (cycleEnts 256 (some ⟨3, true, true⟩) true (fifoGet (exFifo 3) 1 9216).ents).length true := by
  unfold levelFires; decide
theorem wit_fifo_flush :
    pageLive (exFifo 0) (pgRegQ 1) = true ∧ fifoOwnerOff (exFifo 0) 1 9216 = true ∧
      fifoOwnerOff (wr pgEaselG R.EZG_CTRL_SVC 1 (exFifo 0)) 1 9216 = false ∧ fifoLevelRw 9216 = true ∧
      fifoCap (exFifo 0) 1 4096 = some 16384 ∧ fifoLevelRw 4096 = false := by decide
/-- R432's worked example: with C = 4 full, a push is held while the pop succeeds; then it is accepted. -/
theorem test_fifo_full_holds :
    (cycleEnts 4 (some ⟨6, true, true⟩) true ((List.range 4).map (fun i => ⟨i, true, true, 0⟩))).map (·.id) = [1, 2, 3] ∧
      (cycleEnts 4 (some ⟨6, true, true⟩) false ((List.range 3).map (fun i => ⟨i, true, true, 0⟩))).map (·.id) = [0, 1, 2, 6] ∧
      (cycleEnts 4 (some ⟨6, true, true⟩) true []).map (·.id) = [6] := by decide

/-- The arbiter of West's stack 0, owned by requester 3, held where `b`. -/
def exArb (b : Bool) : State := arbMod 1 0x8C00 (fun a => { a with owner := some 3, held := b, last := 3 }) (exUp State.reset)

theorem wit_arb : FreeArb 1 0x8C00 ∧ FreeArb 2 0x9000 := by unfold FreeArb; decide
theorem wit_arb_states :
    (arbGet (exArb true) 1 0x8C00).owner = some 3 ∧ (arbGet (exArb true) 1 0x8C00).held = true ∧
      (arbGet (exArb false) 1 0x8C00).held = false ∧ (arbCfg 1 0x8C00 7).isSome = true ∧
      arbCfg 1 0x8C00 0 = some (8, 12, false) ∧ (arbCfg 1 0x8C00 6).all (fun x => x.2.2) = true ∧
      pageLive (exArb true) (pgRegQ 1) = true ∧ (arbReq 1 0x8C00 (arbGet (exArb true) 1 0x8C00) 0).base = 8 := by decide
theorem wit_arb_fabric :
    arbAsks (fiuMod 0 (fun p => { p with
      txq := [(1, [⟨0, .west, mkPW false 0 0 0 0 []⟩])], crdCum := [(1, 40)] }) (exLink 0 5)) 1 (0x21 * 1024) 0 1 = true := by decide
/-- R449's stack arbiter with all asking: the journal (12) gives way to the wear copy (14), then ages to 13. -/
theorem test_arb_ages :
    arbWinner 1 0x8C00 {} (fun _ => true) = some 6 ∧
      (arbReq 1 0x8C00 (arbDecide 1 0x8C00 (fun _ => true) [] 6 {}) 3).p = 13 ∧
      (arbReq 1 0x8C00 (arbDecide 1 0x8C00 (fun _ => true) [] 6 {}) 6).p = 14 := by decide

/-- One strike of source 212 of West on its way, LAN_CTRL.EN 1, and its route with the targets `m`, `f` and `k`, vector 5,
destination node 0. -/
def exStrike (m f k : Nat) (g : Lantern → Lantern) : State :=
  wrI pgLantern R.LAN_ROUTE_VECTOR 212 5 (wrI pgLantern R.LAN_ROUTE_KEEP_EN 212 k (wrI pgLantern R.LAN_ROUTE_FAB_EN 212 f
    (wrI pgLantern R.LAN_ROUTE_MSIX_EN 212 m (wr pgLantern R.LAN_CTRL_EN 1 (wr pgHost R.HP_LINK_UP 1
      (lanMod g { exUp State.reset with strikes := [⟨212, .west, 40, []⟩] }))))))
def exMsix (l : Lantern) : Lantern := { l with msixEn := true, busMaster := true, vecMask := 0 }

theorem wit_strike :
    strikeNext (exStrike 0 0 0 id) = some ⟨212, .west, 40, []⟩ ∧ quiet (exStrike 0 0 0 id) = true ∧
      strikeNext (exUp State.reset) = none ∧ quiet (exStrike 1 0 0 exMsix) = true ∧
      hostAway (exStrike 1 0 0 exMsix) = false ∧ route (exStrike 1 0 0 exMsix) 212 R.LAN_ROUTE_VECTOR = 5 ∧
      vecState (exStrike 1 0 0 exMsix) 5 ≤ vsDUE ∧ (exStrike 1 0 0 id).lan.msixEn = false := by decide
theorem wit_strike_routes : RouteIs (exStrike 0 0 0 id) 212 0 0 0 ∧ RouteIs (exStrike 1 0 0 exMsix) 212 1 0 0 ∧
    RouteIs (exStrike 0 1 0 id) 212 0 1 0 ∧ RouteIs (exStrike 0 0 1 id) 212 0 0 1 ∧
    RouteIs (exStrike 1 0 0 id) 212 1 0 0 := by unfold RouteIs; decide
theorem wit_strike_fabric :
    (fabGet (exStrike 0 1 0 id) .west 212).waiting = false ∧ (fabGet (exStrike 0 1 0 id) .west 212).gap = false ∧
      (exStrike 0 1 0 id).lan.evtHeld = [] ∧ (exStrike 0 1 0 id).lan.evtq.length < 4096 ∧
      (fabGet (fabMod .west 212 (fun x => { x with gap := true }) (exStrike 0 1 0 id)) .west 212).gap = true ∧
      quiet (fabMod .west 212 (fun x => { x with gap := true }) (exStrike 0 1 0 id)) = true := by decide
theorem wit_route :
    nodeReg (exUp State.reset) 0 = false ∧ bits (BitVec.ofNat 64 (2 ^ 62)).toNat 62 62 = 1 ∧
      bits (BitVec.ofNat 64 (2 ^ 62)).toNat 54 35 = 0 ∧ route (exUp State.reset) 212 R.LAN_ROUTE_FAB_EN ≠ 1 ∧
      route (exStrike 0 1 0 id) 212 R.LAN_ROUTE_FAB_EN = 1 ∧
      nodeReg (wrI pgProtect R.PR_NODE_VIEW_VALID 0 1 (exUp State.reset)) 0 = true := by decide

/-- Vector 5 in state `st` with COUNT 3, MOD_US 40, the rest ready to send. -/
def exVec (st : Nat) : State :=
  wrI pgLantern R.LAN_VEC_CFG_MOD_US 5 40 (wrI pgLantern R.LAN_VEC_STAT_COUNT 5 3 (wrI pgLantern R.LAN_VEC_STAT_STATE 5 st
    (exStrike 1 0 0 exMsix)))

theorem wit_vectors :
    vecState (exVec 1) 5 = vsCOLLECTING ∧ rdI (exVec 1) pgLantern R.LAN_VEC_CFG_MOD_US 5 ≠ 0 ∧ hostAway (exVec 1) = false ∧
      vecState (exVec 0) 5 ≠ vsCOLLECTING ∧ sends (exVec 2) 5 = true ∧ sends (exVec 1) 5 = false ∧
      sends (lanMod (fun l => { l with vecMask := 32 }) (exVec 2)) 5 = false := by decide
/-- R464: MOD_CNT 8, two strikes more than COUNT 3 keep the vector COLLECTING. -/
theorem test_vector_counts :
    vecState (vecStrike 5 (wrI pgLantern R.LAN_VEC_CFG_MOD_CNT 5 8 (exVec 1))) 5 = vsCOLLECTING ∧
      vecState (vecStrike 5 (wrI pgLantern R.LAN_VEC_CFG_MOD_CNT 5 4 (exVec 1))) 5 = vsDUE := by decide

theorem wit_sleep :
    vecState (exVec 2) 5 = vsDUE ∧ (exVec 2).lan.held = false ∧ (exVec 2).lan.pmeStatus = false ∧
      rdB (exVec 2) pgHost R.HP_LINK_UP = true ∧ hostAway (lanMod (fun l => { l with asleep := true, held := true }) (exVec 2)) = true ∧
      (exVec 2).lan.asleep = false ∧ vecMasked (exVec 2) 5 = false ∧
      rdB (exVec 2) pgLantern R.LAN_CTRL_EN = true ∧ hostAway (exVec 2) = false := by decide
theorem wit_sleep_none : ∀ v, vecState (exUp State.reset) v ≠ vsDUE := by
  intro v; rw [show vecState (exUp State.reset) v = 0 from rfl]; decide

/-- Source 212 of West with `x`, and message 3 in the queue. -/
def exFab (x : FabSrc) : State :=
  lanMod (fun l => { l with evtq := [(3, .source .west 212, 2), (4, .int 0 0 0, 0)] }) (fabMod .west 212 (fun _ => x)
    (wrI pgLantern R.LAN_ROUTE_FAB_GAP_US 212 9 (exUp State.reset)))

theorem wit_fab :
    fabGet (exFab { gap := true }) .west 212 = { gap := true } ∧
      fabGet (exFab { gap := true, count := 2 }) .west 212 = { gap := true, count := 2 } ∧
      fabGet (exFab {}) .west 212 = {} ∧ (exFab {}).lan.evtHeld = [] ∧ (exFab {}).lan.evtq.length < 4096 ∧
      quiet (exFab { waiting := true }) = true ∧
      (exFab {}).lan.evtq.find? (fun m => m.1 == 3) = some (3, .source .west 212, 2) ∧
      (exFab {}).lan.evtq.find? (fun m => m.1 == 4) = some (4, .int 0 0 0, 0) ∧ pktUnsent (exFab {}) 3 = false ∧
      (exFab {}).lan.evtq.find? (fun m => m.1 == 5) = none ∧ route (exFab {}) 212 R.LAN_ROUTE_FAB_GAP_US ≠ 0 := by decide

/-- Every half up and F[2] enabled where `b`. -/
def exReg (b : Bool) : State := wr (pgFiu 2) R.FIU_LINK_CTRL_EN (bit b) (exUp State.reset)

theorem wit_reg : Written (exReg true) (pgCal .east) R.CTRL_FREEZE.off .pcie ∧ Written (exReg true) (pgLight .west) 0x98 .pcie ∧
    Written (exReg true) (pgFiu 2) 0x90 .pcie ∧ Written (exReg false) pgProtect R.PR_ATN_WREN_MASK.off .pcie := by
  unfold Written; decide
theorem wit_reg_pools : rdB (exReg true) (pgFiu 2) R.FIU_LINK_CTRL_EN = true ∧ rdB (exReg false) (pgFiu 2) R.FIU_LINK_CTRL_EN = false ∧
    (∃ f ∈ poolFlds, rd (exReg true) (pgFiu 2) f ≠ fldBits f 0) ∧
    (∀ f ∈ poolFlds, rd (exReg true) (pgFiu 2) f = fldBits f 0x0180010002800280) := by decide
theorem wit_reg_wo : isWoReg pgTimebase R.TB_SET.off = true ∧ Written (exReg true) pgTimebase R.TB_SET.off .pcie ∧
    ((({ exReg true with woLatch := [(pgTimebase, R.TB_SET.off, 7)] } : State).woLatch.find?
      (fun e => e.1 == pgTimebase && e.2.1 == R.TB_SET.off)).map (·.2.2)).getD 0 = 7 := by
  unfold Written; decide
theorem wit_reg_paths : quiet (exReg true) = true ∧ pathMayWrite (exReg true) pgGlobal 0x10 .mgt = false ∧
    pathMayWrite State.reset (pgCal .east) 0x10 .pcie = true ∧ (pageKind (pgCal .east)).isSome = true ∧
    pageLive State.reset (pgCal .east) = false := by decide
theorem wit_reg_stopped : Written (exReg true) (pgFiu 2) 0x90 .pcie ∧ rdB (exReg true) (pgFiu 2) R.FIU_LINK_CTRL_EN = true ∧
    Written (exReg false) pgProtect R.PR_ATN_WREN_MASK.off .pcie ∧ (0#64).toNat = rd (exReg false) pgProtect R.PR_ATN_WREN_MASK ∧
    pageKind pgTimebase = some .timebase ∧ isWoReg pgTimebase R.TB_SET.off = true := by
  unfold Written; decide

/-- The HOST queue with one word, and a refusal in West's Light page log. -/
def exQueues : State :=
  { exUp State.reset with
    results := [(0, { words := [⟨5, 3, true, 7, 0, 4⟩], nextSeq := 4 })]
    logs := [(pgLight .west, { entries := [(0, 9)], seq := 1 })] }

/-- JUMP_TOL of West's Light in the shadow, with EN at `v`. -/
def exTune (v : Nat) : State :=
  wr (pgLight .west) R.LL_CTRL_EN v { exUp State.reset with shadow := [(R.LL_TUNE_JUMP_TOL.key (pgLight .west) 0, 5)] }

theorem wit_pops : pageLive exQueues (resPage (resNum none)) = true ∧ (tget {} exQueues.results 1).words = [] ∧
    (tget {} exQueues.results 0).words ≠ [] ∧ pageLive exQueues (pgLight .west) = true ∧
    (tget {} exQueues.logs (pgLight .west)).entries = [(0, 9)] ∧ (tget {} exQueues.logs (pgLight .east)).entries = [] ∧
    pageLive State.reset (resPage (resNum (some .east))) = false := by decide
theorem wit_capture : ToCapture (exTune 1) (pgLight .west) ∧ ToCapture (exTune 0) (pgLight .west) := by
  unfold ToCapture PlacesOnce; decide
theorem wit_capture_states : stagedOff (exTune 1) .light .west = false ∧ pageHalf (pgLight .west) ≠ some .east ∧
    rdB (exTune 0) (pgLight .west) R.LL_CTRL_EN = false ∧ pageLive (exTune 0) (pgLight .west) = true ∧
    (exTune 1).shadow.any (fun e => e.1.page == pgCal .west && e.2 != keyVal (exTune 1) e.1) = false ∧
    ({ exTune 1 with captured := (exTune 1).shadow } : State).captured.any (fun e => e.1.page == pgLight .west) = true ∧
    pageHalf (pgLight .west) = some .west ∧ (pageKind (pgLight .west)).isSome = true := by decide
theorem wit_capture_tune : ∀ e ∈ (exTune 0).shadow, e.1.page = pgLight .west → ∃ f ∈ tuneFlds, e.1 = f.key (pgLight .west) 0 := by
  decide

/-- The data port set to a space and an address, every half up. -/
def exDp (sp a : Nat) : State := wr pgDataPort R.DP_CFG_SPACE sp (wr pgDataPort R.DP_ADDR a (exUp State.reset))

theorem wit_dp_policy : DpAt (exDp 0 (2 ^ 40 + 0x100008)) 0 (2 ^ 40 + 0x100008) (dpN true) ∧
    MemoriesWf (exDp 0 (2 ^ 40 + 0x100008)) := by
  unfold DpAt MemoriesWf; decide
theorem wit_dp_region : InPolicyRegion (exDp 0 (2 ^ 40 + 0x100008)) (2 ^ 40 + 0x100008) (dpN true) :=
  ⟨.east, by decide, by decide, by decide⟩
theorem wit_dp_stage : DpAt (exDp 2 (2 ^ 24 + 0x800010)) 2 (Half.east.num * 2 ^ 24 + 0x800010) (dpN false) ∧
    halfUp (exDp 2 0) .east = true := by unfold DpAt; decide
theorem wit_dp_range : quiet (exDp 3 0) = true ∧ rd (exDp 3 0) pgDataPort R.DP_CFG_SPACE = 3 ∧
    quiet (exDp 0 (2 ^ 41)) = true ∧ rd (exDp 0 (2 ^ 41)) pgDataPort R.DP_ADDR = 2 ^ 41 ∧
    (exDp 0 5).boot = (exUp State.reset).boot ∧ halfUp (exDp 0 0x200000) .west = true ∧
    ezAddr .west 0x200000 ≤ 0x200000 := by decide
/-- Station 2 of A[0] answers, and the data port points at its byte 8. -/
def exDpStn : State := wr pgDataPort R.DP_CFG_SPACE 1 (wr pgDataPort R.DP_ADDR (2 * 2 ^ 36 + 8)
  (stnMod 0 2 (fun x => { x with seen := true, kind := 1, serial := 9, units := 1 }) (exAtn 0 5)))

theorem wit_dp_station : DpAt exDpStn 1 (0 * 2 ^ 40 + 2 * 2 ^ 36 + 8) (dpN true) ∧ tgtDead exDpStn 0 2 = none ∧
    (rd exDpStn pgProtect R.PR_ATN_WREN_MASK).testBit 0 = false := by unfold DpAt; decide
theorem wit_dp_bar2 : quiet (exDp 0 0) = true ∧ rd (exDp 0 0) pgDataPort R.DP_WIN_BASE = 0 ∧
    rd (exDp 0 0) pgDataPort R.DP_WIN_SPACE = 0 ∧
    rd (wr pgDataPort R.DP_WIN_SPACE 2 (exDp 0 0)) pgDataPort R.DP_WIN_SPACE = 2 := by decide
theorem wit_dp_bar2_region : InPolicyRegion (exDp 0 0) 0x100000 512 := ⟨.west, by decide, by decide, by decide⟩

theorem wit_pcie : rdB (exUp State.reset) pgLantern R.LAN_STAT_WAKE_OUT = false ∧
    rd (exVec 2) pgHost R.HP_LINK_UP = 1 ∧ (bootMod (fun b => { b with supplies := true }) (exVec 2)).boot.supplies = true ∧
    rdB (exVec 2) pgLantern R.LAN_STAT_WAKE_OUT = false ∧ vecState (exVec 2) 5 = vsDUE ∧
    rdB (exUp State.reset) pgHost R.HP_LINK_UP = false ∧ leadHalf (exUp State.reset) ≠ none ∧ quiet (exUp State.reset) = true ∧
    rdB (wr pgLantern R.LAN_STAT_WAKE_OUT 1 (exVec 2)) pgLantern R.LAN_STAT_WAKE_OUT = true ∧
    rd (exUp State.reset) pgHost R.HP_LINK_DSTATE = 0 ∧ (exUp State.reset).lan.pmeStatus = false := by decide
/-- The PCIe link up and the main supplies on. -/
def exPcie : State := bootMod (fun b => { b with supplies := true }) (wr pgHost R.HP_LINK_UP 1 (exUp State.reset))

theorem wit_perst : exPcie.boot.supplies = true ∧ rd exPcie pgHost R.HP_LINK_UP = 1 := by decide
theorem wit_perst_vectors : ∀ v, 64 ≤ v → vecState exPcie v = vsIDLE := by
  intro v _; rw [show vecState exPcie v = 0 from rfl]; decide

/-- The Keeper serves SMBus at `o`, with the main supplies on and a refusal in its log. -/
def exSmb (o : Nat) : State :=
  { keeperMod (fun k => { k with smbOff := o }) (bootMod (fun b => { b with keeperUp := true, supplies := true }) State.reset) with
    logs := [(pgKeeper, { entries := [(3, 9)], seq := 4 })] }

theorem wit_smb : (exSmb 8).boot.keeperUp = true ∧ (exSmb 8).keeper.smbOff = 8 ∧
    (tget {} (exSmb R.ERRLOG_DATA_ENTRY.off).logs pgKeeper).entries = [(3, 9)] ∧ (exSmb 4096).keeper.smbOff = 4096 ∧
    quiet (exSmb 4096) = true ∧ State.reset.boot.keeperUp = false ∧ quiet State.reset = true := by decide
theorem wit_tap : (exSmb 0).boot.supplies = true ∧ takesBalls (exSmb 0).tap.ir = false ∧
    takesBalls { (exSmb 0).tap with ir := 7 }.ir = true ∧ State.reset.boot.supplies = false := by decide
theorem test_smb_offset : (smbOffset 0x1050 (exSmb 8)).keeper.smbOff = 0x50 ∧ (smbOffset 0x52 (exSmb 8)).keeper.smbOff = 8 := by
  decide

/-- A proposal of SP with `es`, in state `st`, with VALID at `v`. -/
def exProp (st v : Nat) (es : List (List Nat)) : State :=
  protMod (fun p => { p with entries := es }) (wr pgProtect R.PR_STAT_STATE st (wr pgProtect R.PR_STAT_OPENER 1
    (wr pgProtect R.PR_STAT_FM_VALID v (exUp State.reset))))

/-- The write enable of A[5]. -/
def exWren : List Nat := [7 * 2 ^ 56, 32, 0, 0, 0, 0, 0, 0]

/-- `exWren` staged. -/
def exStaged (st v : Nat) : State :=
  wr pgProtect (R.PR_ENTRY.at 0) (7 * 2 ^ 56) (wr pgProtect (R.PR_ENTRY.at 1) 32 (exProp st v []))

theorem wit_prop_states : prState (exProp 0 0 []) = 0 ∧ prState (exProp 1 1 []) = 1 ∧ prState (exProp 2 1 []) ≠ 1 ∧
    prState (exProp 2 1 []) ≠ 0 := by decide
theorem wit_prop_principal : WrongPrincipal true (exProp 1 1 []) ∧ ¬ WrongPrincipal false (exProp 1 1 []) := by
  unfold WrongPrincipal; decide
theorem wit_prop_append : KindListed (stagedEntry (exStaged 1 1)) ∧ ¬ KindListed (stagedEntry (exProp 1 1 [])) :=
  ⟨⟨0, by decide⟩, fun ⟨_, h, _⟩ => absurd h (by rw [show eMaxIndex (eKind (stagedEntry (exProp 1 1 []))) = none from rfl]; exact nofun)⟩
theorem wit_prop_append_kinds : eKind (stagedEntry (exStaged 1 0)) ≠ 9 ∧ rd (exStaged 1 0) pgProtect R.PR_STAT_FM_VALID = 0 ∧
    rd (exStaged 1 1) pgProtect R.PR_STAT_FM_VALID ≠ 0 ∧ (exStaged 1 1).prot.entries.length < 4096 := by decide
theorem wit_prop_full : 4096 ≤ (exProp 1 1 (List.replicate 4096 exWren)).prot.entries.length :=
  le_of_eq (List.length_replicate (n := 4096) (a := exWren)).symm
theorem wit_prop_seal : entryOk [10 * 2 ^ 56] = false ∧ entryOk exWren = true ∧
    modeRefused (exProp 1 1 [exWren]) (applyAll [exWren] (exProp 1 1 [exWren])) [exWren] = false := by decide
theorem wit_prop_halves : (∀ h, semWindows (applyAll [exWren] (exProp 1 1 [exWren])) h ≤ 16) ∧
    (∀ h, inbAllReg (applyAll [exWren] (exProp 1 1 [exWren])) h = true) :=
  ⟨fun h => by cases h <;> decide, fun h => by cases h <;> decide⟩
theorem wit_prop_inbound : inbAllReg (applyAll [[3 * 2 ^ 56, 2 ^ 63]] (exProp 1 1 [[3 * 2 ^ 56, 2 ^ 63]])) .west = false ∧
    entryOk [3 * 2 ^ 56, 2 ^ 63] = true := by decide

/-- Seventeen windows of West under a semaphore. -/
def exSems : List (List Nat) := (List.range 17).map (fun i => [2 ^ 56 + i * 2 ^ 40, i * 4096 + 12, 0, 65, 0, 0, 0, 0])

theorem wit_prop_sems : 16 < semWindows (applyAll exSems (exProp 1 1 exSems)) .west ∧ exSems.all entryOk = true := by
  decide +kernel

/-- Light 0 with PREP NONE on station 0 of A[0]. -/
def exMode : State :=
  lgtMod 0 (fun x => { x with bound := true, serial := 9 })
    (stnMod 0 0 (fun x => { x with seen := true, kind := 1, serial := 9, units := 1 }) (exProp 1 1 [[6 * 2 ^ 56, 1]]))

theorem wit_prop_mode : modeRefused exMode (applyAll [[6 * 2 ^ 56, 1]] exMode) [[6 * 2 ^ 56, 1]] = true ∧
    entryOk [6 * 2 ^ 56, 1] = true := by decide

/-- A sealed proposal of `es` with digest `d`, EPOCH 1 and the deadline at `dl`; SP and FM have confirmed at `a` and `b`. -/
def exSealed (es : List (List Nat)) (d dl a b : Nat) : State :=
  protMod (fun p => { p with epoch := 1 }) (wr pgProtect R.PR_DIGEST 7 (wr pgProtect R.PR_CONF_DIGEST d
    (wr pgProtect R.PR_DEADLINE dl (wr pgProtect R.PR_STAT_CONF_SP a (wr pgProtect R.PR_STAT_CONF_FM b
    (leaseMod (fun l => { l with holder := some .west, timer := ⟨some 0, none⟩ })
      (bootMod (fun x => { x with span := true }) (exProp 2 1 es))))))))

theorem wit_seal : sealCause false (exProp 1 1 [exWren]) = none ∧ resRoom (exProp 1 1 [exWren]) 0 3 = true := by decide
theorem wit_conf : ConfAccepted (exSealed [exWren] 7 0 0 0) 1 1 ∧ ConfAccepted (exSealed [exWren] 7 0 1 0) 1 1 := by
  unfold ConfAccepted; decide
theorem wit_conf_refused : quiet (exSealed [exWren] 8 0 0 0) = true ∧ prState (exSealed [exWren] 8 0 0 0) = 2 ∧
    rd (exSealed [exWren] 8 0 0 0) pgProtect R.PR_CONF_DIGEST ≠ rd (exSealed [exWren] 8 0 0 0) pgProtect R.PR_DIGEST ∧
    rd { exSealed [exWren] 7 0 0 0 with tb := ⟨1, 1⟩ } pgProtect R.PR_DEADLINE < now { exSealed [exWren] 7 0 0 0 with tb := ⟨1, 1⟩ } ∧
    rdB (exSealed [exWren] 7 0 1 0) pgProtect R.PR_STAT_CONF_SP = true := by decide
theorem wit_conf_waits : commitReady (wr pgProtect R.PR_STAT_CONF_SP 1 (exSealed [exWren] 7 0 0 0)) = false := by decide
theorem commitReady_of (u : State) (h1 : primary u = some .west) (h2 : prState u = prSEALED)
    (h3 : rdB u pgProtect R.PR_STAT_CONF_SP = true) (h4 : rdB u pgProtect R.PR_STAT_CONF_FM = true)
    (h5 : u.keeper.lease.timer.at .west = some 0) (h6 : u.clk = 0) (h7 : xstepOk u = true)
    (h8 : (u.jrnl.at .west).owed = [] ∧ (u.jrnl.at .west).fill = 0) : commitReady u = true := by
  have h9 := stepShape_le u
  have h10 : (stepShape u).2 ≤ jrnlLines := by unfold jrnlLines; omega
  simp [commitReady, primaryReady, h1, h2, h3, h4, h5, h6, h7, holdsLong, jrnlRoom, h8, h10]
theorem wit_commit (es : List (List Nat)) : commitReady (wr pgProtect R.PR_STAT_CONF_SP 1 (exSealed es 7 0 0 1)) = true :=
  commitReady_of _ rfl rfl rfl rfl rfl rfl rfl ⟨rfl, rfl⟩
theorem wit_commit_images : imagesKept (exSealed [exWren] 7 0 0 1) = true ∧
    imagesKept (exSealed [[10 * 2 ^ 56, 0, 1, 5]] 7 0 0 1) = false := by decide +kernel
theorem test_commit_wren : rd (applyAll [exWren] (exProp 1 1 [])) pgProtect R.PR_ATN_WREN_MASK = 32 := by decide

/-- An MGT request from node 4 with key 5, of operation `m` at address `a`. -/
def exReq (m a : Nat) : Packet := ⟨tMGT, true, false, 4, 0, 0, a, 2 ^ 48 + m * 2 ^ 32, 5, []⟩

/-- It at the head of F[0], with node 4 and key 5 registered where `v` is 1. -/
def exMgt (m a v : Nat) : State := wr pgProtect R.PR_STAT_FM_VALID v (wr pgProtect R.PR_FM_NODE 4
  (protMod (fun p => { p with mkey := 5 }) (exHead (exReq m a))))

theorem wit_mgt : HeadIs (exMgt 1 0 1) 0 5 1 .west (exReq 1 0) ∧ (exReq 1 0).mop = 1 ∧ (exReq 1 0).type = tMGT ∧
    mgtReadDenied 0 = false ∧ mgtReadDenied 4 = true ∧ pageLive (exMgt 1 0 1) 0 = true ∧ (exMgt 1 0 1).woLatch = [] := by
  unfold HeadIs; decide
theorem wit_mgt_fm : FromFm (exMgt 1 0 1) (exReq 1 0) ∧ ¬ FromFm (exMgt 1 0 0) (exReq 1 0) := by unfold FromFm; decide
theorem wit_mgt_write : HeadIs (exMgt 2 (pgProtect * 4096 + 0x220) 1) 0 5 1 .west (exReq 2 (pgProtect * 4096 + 0x220)) ∧
    pathMayWrite (exMgt 2 0 1) pgProtect 0x220 .mgt = true ∧ pathMayWrite (exMgt 2 0 1) pgProtect 0x2A8 .mgt = false := by
  unfold HeadIs; decide
theorem wit_mgt_confirm : HeadIs (exMgt 3 0 1) 0 5 1 .west (exReq 3 0) ∧ HeadIs (exMgt 9 0 1) 0 5 1 .west (exReq 9 0) ∧
    bootstrapOk (exMgt 3 0 0) 4 5 = false ∧ bootstrapOk (exSealed [[9 * 2 ^ 56, 2 ^ 63 + 4, 5, 1000]] 7 0 0 0) 4 5 = false ∧
    bootstrapOk (wr pgProtect R.PR_STAT_FM_VALID 0 (exSealed [[9 * 2 ^ 56, 2 ^ 63 + 4, 5, 1000]] 7 0 0 0)) 4 5 = true := by
  unfold HeadIs; decide

/-- EMERG_N asserted, every half up, the span up where `b`. -/
def exEmerg (b : Bool) (st : Nat) : State :=
  keeperMod (fun k => { k with emergN := true }) (bootMod (fun x => { x with span := b, keeperUp := true }) (exProp st 1 []))

theorem wit_emerg : (exEmerg true 0).boot.keeperUp = true ∧ State.reset.boot.keeperUp = false ∧
    (exEmerg true 0).keeper.emergN = true ∧ leadHalf (exEmerg true 0) ≠ none ∧ xstepOk (exEmerg true 2) = true ∧
    xstepOk (exEmerg false 2) = false ∧ prState (exEmerg true 2) = 2 ∧ State.reset.keeper.emergN = false ∧
    leadHalf (keeperMod (fun k => { k with emergN := true }) State.reset) = none := by decide
theorem wit_emerg_ops : EmergOps 5 .pcie (.emergAbandon 5 .pcie) 7 ∧ EmergOps 5 .mgt (.emergWindowOff 5 .mgt) 1 ∧
    EmergOps 5 .pcie (.emergWrenClear 5 .pcie) 3 := by unfold EmergOps; simp
theorem test_emerg_wren : rd (emergApply 3 0 5 (wr pgProtect R.PR_ATN_WREN_MASK 7 State.reset)) pgProtect R.PR_ATN_WREN_MASK = 2 := by
  decide

/-- Every half and the Keeper up, with lease `l` at time `c`. -/
def exLease (c : Nat) (l : Lease) : State :=
  { leaseMod (fun _ => l) (bootMod (fun x => { x with keeperUp := true }) (exUp State.reset)) with clk := c }

theorem wit_token : TokenAlone (exLease 5 {}) := by unfold TokenAlone; decide
theorem wit_token_states : halfUp (exLease 5 {}) .west = true ∧ primLost (exLease 5 {}) .west = false ∧
    (exLease 5 {}).boot.keeperUp = true ∧ holds (exLease 5 { holder := some .west, timer := ⟨some 4, none⟩ }) .west = true ∧
    holds (exLease 5 {}) .east = false ∧ halfUp State.reset .west = false := by decide
theorem wit_token_asks : AsksAlone (exLease 5 { asks := ⟨some 3, none⟩ }) .west ∧
    (exLease 5 { asks := ⟨some 3, none⟩ }).keeper.straps.pref = .west ∧
    AsksAlone (exLease 5 { asks := ⟨none, some 3⟩, prefWait := some .east }) .east ∧
    AsksAlone (exLease 5 { asks := ⟨none, some 3⟩, prefWait := some .west }) .east := by unfold AsksAlone; decide
theorem wit_token_clauses :
    TokenAlone (exLease 5 { holder := some .west, timer := ⟨some 4, none⟩, restore := some .east }) ∧
      holds (exLease 5 { holder := some .west, timer := ⟨some 4, none⟩, restore := some .east }) .west = true ∧
      rd (wr pgPrimacy R.PRM_STAT_HOLDER (holderCode (some .west)) (exLease 5 { timer := ⟨some 4, none⟩ })) pgPrimacy
        R.PRM_STAT_HOLDER = holderCode (some .west) ∧
      AsksAlone (exLease 2000009 { asks := ⟨some 3, none⟩, last := some .east, lastAns := 4, holder := some .east }) .west ∧
      TokenAlone (exLease 2000009 { asks := ⟨some 3, none⟩, last := some .east, lastAns := 4, holder := some .east }) ∧
      AsksAlone (exLease 5 { asks := ⟨some 3, none⟩, last := some .east, prefWait := some .west }) .west ∧
      AsksAlone (exLease 5 { asks := ⟨none, some 3⟩, last := some .west, prefWait := some .west }) .east ∧
      holds (exLease 5 { last := some .east }) .west = false ∧ holds (exLease 5 { last := some .east }) .east = false ∧
      holds (exLease 5 { holder := some .east, last := some .east }) .east = false ∧
      (exLease 5 { holder := some .east, last := some .east, lastAns := 4 }).keeper.lease.holder = some .east := by
  unfold AsksAlone TokenAlone; decide

theorem wit_token_inv : TokenAlone { exLease 5 { holder := some .west, timer := ⟨some 4, none⟩, lastAns := 4 } with
      pending := [.primacyRestore .east true, .leaseLapse .west] } ∧
    ({ exLease 5 {} with pending := [.primacyRestore .east true, .leaseLapse .west] } : State).pending.all isTokenCmd = true := by
  unfold TokenAlone; decide
theorem wit_token_sound : TokenSound (exLease 5 { holder := some .west, timer := ⟨some 4, none⟩, lastAns := 4 }) :=
  ⟨by decide, fun h t => by cases h <;> simp [exLease, leaseMod, keeperMod, PerHalf.at] <;> omega,
    fun g hg => by
      simp [exLease, leaseMod, keeperMod] at hg
      subst hg
      exact ⟨fun t => by simp [exLease, leaseMod, keeperMod, PerHalf.at]; omega,
        fun t => by simp [exLease, leaseMod, keeperMod, PerHalf.at, Half.twin]⟩,
    fun hn => by simp [exLease, leaseMod, keeperMod] at hn⟩

/-- The Keeper and both halves up, in power state `st` with target `tg`. -/
def exPower (st tg : Nat) : State :=
  wr pgKeeper R.KP_PWR_STAT_STATE st (wr pgKeeper R.KP_PWR_STAT_TARGET tg
    (bootMod (fun x => { x with keeperUp := true, mainEn := true, supplies := true }) (exUp State.reset)))

/-- A cool sample with every line low but line 3, and `t` on West. -/
def exSample (t : Int) : KeeperSample := ⟨t, 0, 0, 50, 700, 1100, 800, 3300, 8⟩

/-- Rule 5 holds A[9] and asserts WAKE_OUT while line 3 is high. -/
def exRule : State :=
  wrI pgKeeper R.KP_RULE_0_INPUT 5 11 (wrI pgKeeper R.KP_RULE_0_OP 5 2 (wrI pgKeeper R.KP_RULE_0_EN 5 1
    (wrI pgKeeper R.KP_RULE_0_STATES 5 16 (wrI pgKeeper R.KP_RULE_0_ACT_WAKE_OUT 5 1 (wrI pgKeeper R.KP_RULE_0_ACT_HOLD 5 1
    (wrI pgKeeper R.KP_RULE_0_PORT 5 9 (wrI pgKeeper R.KP_IN_VIEW_FILT 11 1 (exPower 4 4))))))))

theorem wit_keeper : KeeperRuns (exPower 4 4) ∧ KeeperRuns exRule := by unfold KeeperRuns; decide
theorem wit_keeper_rule : SteadyRule (exSample 0) exRule 5 11 := by unfold SteadyRule; decide
theorem wit_keeper_trip : 2 ≤ power (exPower 4 4) ∧ (1840 : Int) ≤ (exSample 1840).tempW ∧
    3 ≤ tget 0 (keeperMod (fun k => { k with trips := [(0, 3)] }) (exPower 4 4)).keeper.trips 0 := by decide
theorem wit_pwr : AtKeeper (exPower 4 4) .pcie ∧ AtKeeper (exPower 0 0) .smbus := by unfold AtKeeper; decide
theorem wit_pwr_states : power (exPower 3 1) = 3 ∧ drainWait (exPower 3 1) = 0 ∧ mayLeave (exPower 3 1) = true ∧
    startBusy (exPower 4 4) = false ∧ startBusy (bootMod (fun x => { x with west := {} }) (exPower 4 4)) = true ∧
    mayLeave (lanMod (fun l => { l with asleep := true }) (exPower 2 2)) = false ∧
    (exPower 0 0).keeper.tripNow = false ∧ (exPower 3 2).keeper.late = false ∧ resRoom (exPower 4 4) 0 24 = true ∧
    quiet (exPower 3 1) = true := by decide
theorem wit_wake_timer : rd (wr pgKeeper R.KP_WAKE_TMR_EN 1 (exPower 2 2)) pgKeeper R.KP_WAKE_TMR_EN = 1 ∧
    rd (exPower 2 2) pgKeeper R.KP_TIME = rd (exPower 2 2) pgKeeper R.KP_WAKE_TMR_AT := by decide
theorem test_debounce : rdI (debounceIn 8 1 (wrI pgKeeper R.KP_IN_CFG_DEB 8 0 State.reset)) pgKeeper R.KP_IN_VIEW_FILT 8 = 1 ∧
    rdI (debounceIn 8 1 State.reset) pgKeeper R.KP_IN_VIEW_FILT 8 = 0 := by decide

def exStraps (m : Nat) : StrapPins := { prefEast := false, addr := 0, startMode := BitVec.ofNat 2 m, fwRom := true }

/-- The Keeper has booted and waits for its supplies with MAIN_EN high; RESET_N at `rn`. -/
def exSupply (rn : Bool) : State :=
  wr pgKeeper R.KP_PWR_STAT_STATE 4 (bootMod (fun x => { x with
    vddKeep := true, keeperUp := true, mainEn := true, s1 := 2, s2 := 1, resetN := rn }) State.reset)

/-- Both halves start and stand at step `n`, with codes as `f` makes them. -/
def exStart (n : Nat) (f : BootHalf → BootHalf) : State :=
  bhMod .west (fun b => f { b with state := hsSTARTING, step := n, s3 := 2 })
    (bhMod .east (fun b => f { b with state := hsSTARTING, step := n, s3 := 2 })
      (bootMod (fun x => { x with
        vddKeep := true, keeperUp := true, mainEn := true, supplies := true, resetN := true, s1 := 2, s2 := 2, s4 := 2 })
        State.reset))

theorem wit_boot : quiet State.reset = true ∧ State.reset.boot.vddKeep = false ∧
    quiet (vddKeepUp (exStraps 0) State.reset) = true ∧ (vddKeepUp (exStraps 0) State.reset).boot.s1 = 1 ∧
    (vddKeepUp (exStraps 1) State.reset).keeper.straps.startMode = 1 := by decide
theorem wit_supply : quiet (exSupply true) = true ∧ quiet (exSupply false) = true ∧ (exSupply true).boot.s2 = 1 ∧
    2 ≤ power (exSupply true) := by decide
theorem wit_release : Releasable (bootMod (fun x => { x with supplies := true, s2 := 4 }) (exSupply true)) ∧
    Releasable (bootMod (fun x => { x with supplies := true, s2 := 2 }) (exSupply true)) ∧
    halfState (exSupply false) .west = hsDOWN := by unfold Releasable; decide
theorem wit_selftest : SelfTests (wr pgTimebase R.TB_STAT_REF_OK 1 (exStart 3 (fun b => { b with s3 := 1 }))) .west ∧
    SelfTests (wr pgTimebase R.TB_STAT_REF_OK 1 (exStart 3 (fun b => { b with s3 := 1 }))) .east ∧
    halfUp (exStart 3 (fun b => { b with s3 := 1 })) .east = false ∧
    (exStart 3 (fun b => b)).boot.single = none := by unfold SelfTests; decide
theorem wit_step4 : (bootMod (fun x => { x with s4 := 1 }) (exStart 3 (fun b => b))).boot.s4 = 1 ∧
    primary (exStart 3 (fun b => b)) = none := by decide
theorem wit_step5 : halfState (exStart 5 (fun b => b)) .west = hsSTARTING ∧ step4On (exStart 5 (fun b => b)) = true ∧
    ((exStart 5 (fun b => b)).boot.half .west).s5 = 0 ∧ carved (exStart 5 (fun b => b)) = false ∧
    2 ≤ (bootMod (fun x => { x with mode := 2 }) (exStart 5 (fun b => b))).boot.mode ∧
    halfState (bhMod .east (fun b => { b with state := hsFAILED }) (exStart 5 (fun b => b))) .east = hsFAILED := by decide
theorem wit_step5_replay : NothingToRebuild (exStart 5 (fun b => { b with s5 := 1 })) .west ∧
    ((exStart 5 (fun b => { b with s5 := 1 })).boot.half .west).s5 = 1 := by unfold NothingToRebuild; decide
theorem wit_waits : ((exStart 8 (fun b => { b with s6 := 1, s7 := 1, s8 := 1, s9 := 1 })).boot.half .west).s8 = 1 ∧
    (startFius (exStart 8 (fun b => { b with s8 := 1 })) .west).any (fun n => fiuState (exStart 8 (fun b => b)) n == fsACTIVE) = false ∧
    (startFius (exStart 8 (fun b => { b with s8 := 1, fiuEn := 1 })) .west).any
      (fun n => fiuState (wr (pgFiu 0) R.FIU_LINK_STAT_STATE fsACTIVE State.reset) n == fsACTIVE) = true ∧
    rdB (wr pgEaselG R.EZG_CTRL_SVC 1 (exStart 9 (fun b => { b with s9 := 1 }))) pgEaselG R.EZG_CTRL_SVC = true ∧
    codeOn ((exStart 8 (fun b => { b with s8 := 5, s5 := 5 })).boot.half .west).s8 = true := by decide
theorem test_boot_record : (vddKeepUp (exStraps 0) State.reset).boot.recs.map recWords =
    [[1 * 2 ^ 48 + 1 * 2 ^ 44 + 1 * 2 ^ 36 + 1 * 2 ^ 4, 0, 0]] := by decide

/-- Every half runs, the Keeper is up, the supplies are in range. -/
def exHalves (st : Nat) : State := bootMod (fun x => { x with vddKeep := true, resetN := true, span := true }) (exPower st 4)

theorem wit_resets : (exHalves 4).boot.supplies = true ∧ (exHalves 4).boot.brown = false ∧ quiet (exHalves 4) = true ∧
    quiet (exHalves 1) = true ∧ 2 ≤ power (exHalves 4) ∧ power (exHalves 1) < 2 := by decide
theorem wit_recover : Releasable { exPower 4 4 with boot := { (exHalves 4).boot with brown := false } } ∧
    halfState (supplyFail (exHalves 4)) .west = hsDOWN ∧ (supplyFail (exHalves 4)).boot.brown = true ∧
    (supplyFail (exHalves 4)).boot.s2 ≠ 4 := by unfold Releasable; decide +kernel
theorem wit_floor : leadHalf (exHalves 4) = some .west ∧ halfState (exHalves 4) .west = hsRUNNING ∧
    leadHalf State.reset = none := by decide
theorem wit_span : (bootMod (fun x => { x with span := false }) (exHalves 4)).boot.span = false ∧
    halfUp (exHalves 4) .west = true ∧ halfUp (exHalves 4) .east = true ∧ prState (exHalves 4) ≠ 2 ∧ (exHalves 4).prot.emerg = [] := by
  decide
theorem wit_st_dead : mgmtUp State.reset .west = false := by decide
theorem wit_st_cmds : mgmtUp (exHalves 4) .west = true ∧ Releasable (exHalves 4) ∧ ¬ WaitsAt5 (exHalves 4) .west ∧
    ¬ (HaltedForTwin (exHalves 4) .west ∧ HaltedForTwin (exHalves 4) .east) ∧ resRoom (exHalves 4) 0 48 = true := by
  unfold Releasable WaitsAt5 HaltedForTwin; decide
theorem wit_st_halted : WaitsAt5 (bhMod .west (fun b => { b with state := hsHALTED, s5 := 4 }) (exHalves 4)) .west ∧
    HaltedForTwin (bhMod .west (fun b => { b with state := hsHALTED, s3 := 19 }) (exHalves 4)) .west ∧
    HaltedForTwin (bhMod .west (fun b => { b with state := hsHALTED, s5 := 17 }) (exHalves 4)) .west ∧
    halfState (bhMod .west (fun b => { b with state := hsHALTED, s5 := 16 }) (exHalves 4)) .west = hsHALTED ∧
    (exHalves 4).jrnl.west.owed = [] := by
  unfold WaitsAt5 HaltedForTwin; decide

theorem wit_step : ({ State.reset with pending := [.spanDown, .spanUp] } : State).pending = .spanDown :: [.spanUp] := by decide
theorem wit_idle : State.reset.pending = [] ∧ quiet State.reset = true ∧ NoInterval State.reset ∧
    (PerHalf.at ({ State.reset with time := { State.reset.time with run := ⟨true, true⟩ } } : State).time.run .west) = true := by
  unfold NoInterval; decide
theorem test_idle_clock : (idle { State.reset with time := { State.reset.time with run := ⟨true, false⟩ } }).tb = ⟨1, 0⟩ := by
  decide +kernel

theorem wit_raise : pageSource pgHost = some 5 ∧
    (rd (wr pgHost R.EVT_EN 8 State.reset) pgHost R.EVT_EN).testBit 3 = true ∧
    (rd State.reset pgHost R.EVT_EN).testBit 3 = false := by decide
theorem wit_evt_en : pageKind (pgFiu 3) = some .fiu ∧ Written (exUp State.reset) (pgFiu 3) R.EVT_EN.off .pcie ∧
    pageLive (exUp State.reset) (pgFiu 3) = true := by unfold Written; decide +kernel
theorem test_two_strikes : (raise pgHost 3 (raise pgHost 3 (wr pgHost R.EVT_EN 8 State.reset))).strikes.length = 2 := by decide

end Sys2Proof.Machine
end

section
/-!
SUPPORT. Commands that end at once, result queues and page logs: what pops and flushes take and leave (R501, R507).
-/
namespace Sys2Proof.Machine

/-! A command that comes to an end at once. -/

theorem ends_done {c : Instr} {s t : State} {Q : State → Prop} (h : exec c s = done t) (hQ : Q t) : Ends c s Q :=
  ⟨t, h, hQ⟩

/-- The state whose latches of page `P` an access has ended (R494). -/
def unlatched (P : Nat) (s : State) : State := { s with woLatch := s.woLatch.filter (fun e => e.1 != P) }

theorem ends_onPage_live {c : Instr} {s : State} {Q : State → Prop} {P off : Nat} {f : State → State}
    (hl : pageLive s P = true) (h : exec c s = done (onPage P off f s)) (hQ : Q (f (unlatched P s))) : Ends c s Q := by
  rw [onPage_live P off f s hl] at h
  exact ends_done h hQ

theorem ends_onPage_dead {c : Instr} {s : State} {Q : State → Prop} {P off : Nat} {f : State → State}
    (hd : pageLive s P = false) (h : exec c s = done (onPage P off f s)) (hQ : Q (barErr 4 (barOff P off) s)) :
    Ends c s Q := by
  rw [onPage_dead P off f s hd] at h
  exact ends_done h hQ

/-! Result queues and page logs (R501, R507). -/

theorem resPop_nil (q : Nat) (s : State) (h : (tget {} s.results q).words = []) : resPop q s = (s, 0) := by
  simp only [resPop, h]

/-- RESULT_INFO as a pop of word `w` leaves it. -/
def infoOf (q : Nat) (w : ResWord) (s : State) : State :=
  let P := resPage q
  wr P R.RESULT_INFO_HEADER (bit w.header) (wr P R.RESULT_INFO_KIND w.kind (wr P R.RESULT_INFO_INDEX w.index
    (wr P R.RESULT_INFO_COUNT w.count s)))

theorem resPop_cons (q : Nat) (s : State) (w : ResWord) (ws : List ResWord)
    (h : (tget {} s.results q).words = w :: ws) :
    resPop q s = (infoOf q w { s with results := tput {} s.results q { tget {} s.results q with words := ws } },
      popWord w.seq w.payload) := by
  simp only [resPop, h, infoOf]

theorem logPop_nil (P : Nat) (s : State) (h : (tget {} s.logs P).entries = []) : logPop P s = (s, 0) := by
  simp only [logPop, h]

theorem logPop_cons (P : Nat) (s : State) (n w : Nat) (r : List (Nat × Nat))
    (h : (tget {} s.logs P).entries = (n, w) :: r) :
    logPop P s = ({ s with logs := tput {} s.logs P { tget {} s.logs P with entries := r } }, popWord n w) := by
  simp only [logPop, h]

/-- Two fields at different places of one page. -/
theorem key_ne_of_lo {f g : Fld} (P : Nat) (h : g.lo ≠ f.lo) : g.key P 0 ≠ f.key P 0 := by
  intro e
  simp only [Fld.key, RKey.mk.injEq] at e
  exact h e.2.2.1

theorem infoOf_reads (q : Nat) (w : ResWord) (s : State) :
    rd (infoOf q w s) (resPage q) R.RESULT_INFO_HEADER = bit w.header ∧
    rd (infoOf q w s) (resPage q) R.RESULT_INFO_KIND = w.kind % 2 ^ 8 ∧
    rd (infoOf q w s) (resPage q) R.RESULT_INFO_INDEX = w.index % 2 ^ 16 ∧
    rd (infoOf q w s) (resPage q) R.RESULT_INFO_COUNT = w.count % 2 ^ 16 := by
  have hb : bit w.header % 2 ^ R.RESULT_INFO_HEADER.w = bit w.header := by cases w.header <;> rfl
  unfold infoOf
  refine ⟨?_, ?_, ?_, ?_⟩
  · rw [rd_wr_self, hb]
  · rw [rd_wr_other _ _ _ _ _ _ (key_ne_of_lo _ (by decide)), rd_wr_self]; rfl
  · rw [rd_wr_other _ _ _ _ _ _ (key_ne_of_lo _ (by decide)), rd_wr_other _ _ _ _ _ _ (key_ne_of_lo _ (by decide)),
      rd_wr_self]; rfl
  · rw [rd_wr_other _ _ _ _ _ _ (key_ne_of_lo _ (by decide)), rd_wr_other _ _ _ _ _ _ (key_ne_of_lo _ (by decide)),
      rd_wr_other _ _ _ _ _ _ (key_ne_of_lo _ (by decide)), rd_wr_self]; rfl

theorem infoOf_kept (q : Nat) (w : ResWord) (s : State) :
    RegsKept [(resPage q, R.RESULT_INFO_KIND.off)] s (infoOf q w s) :=
  (((wr_kept _ R.RESULT_INFO_COUNT _ _).trans (wr_kept _ R.RESULT_INFO_INDEX _ _)).trans
    (wr_kept _ R.RESULT_INFO_KIND _ _)).trans (wr_kept _ R.RESULT_INFO_HEADER _ _)

@[simp] theorem rd_answer (p : Path) (x : State × Nat) (P : Nat) (f : Fld) : rd (answer p x) P f = rd x.1 P f := rfl

theorem answer_kept (p : Path) (x : State × Nat) (ex : List (Nat × Nat)) : RegsKept ex x.1 (answer p x) :=
  RegsKept.of_eq rfl

theorem resultPop_empty (s : State) (q : Option Half) (p : Path) (hl : pageLive s (resPage (resNum q)) = true)
    (h : (tget {} s.results (resNum q)).words = []) : Ends (.resultPop q p) s (fun t =>
      t = { s with out := s.out ++ [.answer (pathCode (some p)) 0], woLatch := t.woLatch }) := by
  refine ends_onPage_live hl rfl ?_
  rw [resPop_nil _ (unlatched _ s) h]
  rfl

theorem resultPop_word (s : State) (q : Option Half) (p : Path) (hl : pageLive s (resPage (resNum q)) = true)
    (w : ResWord) (ws : List ResWord) (h : (tget {} s.results (resNum q)).words = w :: ws) :
    Ends (.resultPop q p) s (fun t =>
      tget {} t.results (resNum q) = { tget {} s.results (resNum q) with words := ws } ∧
      (∀ i, i ≠ resNum q → tget {} t.results i = tget {} s.results i) ∧
      t.out = s.out ++ [.answer (pathCode (some p)) (2 ^ 63 + w.seq % 128 * 2 ^ 56 + w.payload % 2 ^ 56)] ∧
      rd t (resPage (resNum q)) R.RESULT_INFO_HEADER = bit w.header ∧
      rd t (resPage (resNum q)) R.RESULT_INFO_KIND = w.kind % 2 ^ 8 ∧
      rd t (resPage (resNum q)) R.RESULT_INFO_INDEX = w.index % 2 ^ 16 ∧
      rd t (resPage (resNum q)) R.RESULT_INFO_COUNT = w.count % 2 ^ 16 ∧
      t = { s with regs := t.regs, results := t.results, out := t.out, woLatch := t.woLatch } ∧
      RegsKept [(resPage (resNum q), R.RESULT_INFO_KIND.off)] s t) := by
  refine ends_onPage_live hl rfl ?_
  rw [resPop_cons _ (unlatched _ s) w ws h]
  generalize hu : ({ unlatched (resPage (resNum q)) s with
      results := tput {} (unlatched (resPage (resNum q)) s).results (resNum q)
        { tget {} (unlatched (resPage (resNum q)) s).results (resNum q) with words := ws } } : State) = u
  obtain ⟨hh, hk, hi, hc⟩ := infoOf_reads (resNum q) w u
  have hkept : RegsKept [(resPage (resNum q), R.RESULT_INFO_KIND.off)] u (infoOf (resNum q) w u) := infoOf_kept _ w u
  simp only [rd_answer]
  refine ⟨?_, ?_, ?_, hh, hk, hi, hc, ?_, ?_⟩
  · subst hu; exact tget_tput_self ..
  · subst hu; exact fun i hi => tget_tput_other _ _ _ _ _ hi
  · subst hu; rfl
  · subst hu; rfl
  · subst hu; exact hkept.trans (answer_kept p _ _)

theorem resultFlush_empties (s : State) (q : Option Half) (hl : pageLive s (resPage (resNum q)) = true) :
    Ends (.resultFlush q) s (fun t =>
      tget {} t.results (resNum q) = { tget {} s.results (resNum q) with words := [] } ∧
      (∀ i, i ≠ resNum q → tget {} t.results i = tget {} s.results i) ∧
      t = { s with results := t.results, woLatch := t.woLatch }) :=
  ends_onPage_live hl rfl ⟨tget_tput_self .., fun _ hi => tget_tput_other _ _ _ _ _ hi, rfl⟩

theorem exec_errlogPop (s : State) (P : Nat) (p : Path) (hk : (pageKind P).isSome = true) :
    exec (.errlogPop P p) s = done (onPage P R.ERRLOG_DATA_ENTRY.off (fun s => answer p (logPop P s)) s) := by
  show execErrlogPop P p s = _
  obtain ⟨k, hk⟩ := Option.isSome_iff_exists.mp hk
  simp only [execErrlogPop, hk]

theorem errlogPop_empty (s : State) (P : Nat) (p : Path) (hk : (pageKind P).isSome = true) (hl : pageLive s P = true)
    (h : (tget {} s.logs P).entries = []) : Ends (.errlogPop P p) s (fun t =>
      t = { s with out := s.out ++ [.answer (pathCode (some p)) 0], woLatch := t.woLatch }) := by
  refine ends_onPage_live hl (exec_errlogPop s P p hk) ?_
  rw [logPop_nil P (unlatched P s) h]
  rfl

theorem errlogPop_entry (s : State) (P : Nat) (p : Path) (hk : (pageKind P).isSome = true) (hl : pageLive s P = true)
    (n w : Nat) (r : List (Nat × Nat)) (h : (tget {} s.logs P).entries = (n, w) :: r) :
    Ends (.errlogPop P p) s (fun t =>
      tget {} t.logs P = { tget {} s.logs P with entries := r } ∧ (∀ i, i ≠ P → tget {} t.logs i = tget {} s.logs i) ∧
      t.out = s.out ++ [.answer (pathCode (some p)) (2 ^ 63 + n % 128 * 2 ^ 56 + w % 2 ^ 56)] ∧
      t = { s with logs := t.logs, out := t.out, woLatch := t.woLatch }) := by
  refine ends_onPage_live hl (exec_errlogPop s P p hk) ?_
  rw [logPop_cons P (unlatched P s) n w r h]
  exact ⟨tget_tput_self .., fun i hi => tget_tput_other _ _ _ _ _ hi, rfl, rfl⟩

end Sys2Proof.Machine
end

section
/-!
SUPPORT. The shadow's tables place by place, and the boundary that puts captured values in force (R497, R499).
-/
namespace Sys2Proof.Machine

/-! Tables taken as lists of places. -/

/-- The entries of `l` put into a table in their order. -/
def tinsAll (l t : RTable) : RTable := l.foldl (fun t e => tinsBy RKey.code t e.1 e.2) t

theorem tgetBy_of_not_mem {κ α : Type} [DecidableEq κ] (d : α) (t : List (κ × α)) (x : κ)
    (h : ∀ e ∈ t, e.1 ≠ x) : tgetBy d t x = d := by
  induction t with
  | nil => rfl
  | cons e r ih =>
    have he := h e (List.mem_cons_self ..)
    have hr := ih (fun e' h' => h e' (List.mem_cons_of_mem _ h'))
    simp [tgetBy, he, hr]

theorem tgetBy_of_mem {κ α : Type} [DecidableEq κ] (d : α) (t : List (κ × α)) (x : κ) (v : α)
    (hn : (t.map (·.1)).Nodup) (h : (x, v) ∈ t) : tgetBy d t x = v := by
  induction t with
  | nil => simp at h
  | cons e r ih =>
    obtain ⟨y, w⟩ := e
    simp only [List.map_cons, List.nodup_cons] at hn
    rcases List.mem_cons.mp h with he | hr
    · obtain ⟨rfl, rfl⟩ := Prod.mk.inj he
      simp [tgetBy]
    · have hy : y ≠ x := fun e => hn.1 (List.mem_map.mpr ⟨_, hr, e.symm⟩)
      simp [tgetBy, hy, ih hn.2 hr]

theorem tgetBy_tinsAll (d : Nat) (l t : RTable) (x : RKey) (v : Nat) (hv : ∀ e ∈ l, e.1 = x → e.2 = v)
    (h : (∃ e ∈ l, e.1 = x) ∨ tgetBy d t x = v) : tgetBy d (tinsAll l t) x = v := by
  induction l generalizing t with
  | nil => exact h.resolve_left (by simp)
  | cons e r ih =>
    refine ih (tinsBy RKey.code t e.1 e.2) (fun e' he => hv e' (List.mem_cons_of_mem _ he)) ?_
    by_cases hx : e.1 = x
    · right
      rw [← hv e (List.mem_cons_self ..) hx, ← hx]
      exact tgetBy_tinsBy_self ..
    · rw [tgetBy_tinsBy_other _ _ _ _ _ _ (Ne.symm hx)]
      simpa [hx] using h

theorem tgetBy_tinsAll_other (d : Nat) (l t : RTable) (x : RKey) (h : ∀ e ∈ l, e.1 ≠ x) :
    tgetBy d (tinsAll l t) x = tgetBy d t x := by
  induction l generalizing t with
  | nil => rfl
  | cons e r ih =>
    show tgetBy d (tinsAll r (tinsBy RKey.code t e.1 e.2)) x = _
    rw [ih _ (fun e' he => h e' (List.mem_cons_of_mem _ he)),
      tgetBy_tinsBy_other _ _ _ _ _ _ (Ne.symm (h e (List.mem_cons_self ..)))]

theorem tinsBy_perm {κ α : Type} [DecidableEq κ] (code : κ → Nat) (t : List (κ × α)) (k : κ) (v : α)
    (h : ∀ e ∈ t, e.1 ≠ k) : List.Perm (tinsBy code t k v) ((k, v) :: t) := by
  induction t with
  | nil => exact List.Perm.refl _
  | cons e r ih =>
    have he := h e (List.mem_cons_self ..)
    have hr := ih (fun e' h' => h e' (List.mem_cons_of_mem _ h'))
    unfold tinsBy
    rw [if_neg he]
    split
    · exact List.Perm.refl _
    · exact (hr.cons e).trans (List.Perm.swap ..)

theorem tinsAll_perm (l t : RTable) (hn : PlacesOnce l) (h : ∀ a ∈ l, ∀ e ∈ t, e.1 ≠ a.1) :
    List.Perm (tinsAll l t) (l ++ t) := by
  induction l generalizing t with
  | nil => exact List.Perm.refl _
  | cons a r ih =>
    simp only [PlacesOnce, List.map_cons, List.nodup_cons] at hn
    have h1 := tinsBy_perm RKey.code t a.1 a.2 (h a (List.mem_cons_self ..))
    have h2 : List.Perm (tinsAll r (tinsBy RKey.code t a.1 a.2)) (r ++ tinsBy RKey.code t a.1 a.2) := by
      refine ih _ hn.2 (fun b hb e he => ?_)
      rcases List.mem_cons.mp (h1.mem_iff.mp he) with rfl | he
      · exact fun e => hn.1 (List.mem_map.mpr ⟨b, hb, e.symm⟩)
      · exact h b (List.mem_cons_of_mem _ hb) e he
    exact h2.trans ((h1.append_left r).trans List.perm_middle)

theorem PlacesOnce.filter {l : RTable} (h : PlacesOnce l) (p : RKey × Nat → Bool) : PlacesOnce (l.filter p) :=
  (List.filter_sublist.map _).nodup h

theorem PlacesOnce.value_unique {l : RTable} (h : PlacesOnce l) {x : RKey} {v : Nat} (hv : (x, v) ∈ l) :
    ∀ e ∈ l, e.1 = x → e.2 = v := by
  rintro ⟨y, w⟩ he rfl
  rw [← tgetBy_of_mem 0 l y w h he, ← tgetBy_of_mem 0 l y v h hv]

/-! Values in force by their places (R497). -/

theorem keyVal_kept {ex : List (Nat × Nat)} {s t : State} (h : RegsKept ex s t) (x : RKey) (hx : (x.page, x.off) ∉ ex) :
    keyVal t x = keyVal s x := by
  unfold keyVal
  split
  · exact h x _ hx
  · rfl

/-- The entries of `l` put in force in their order. -/
def putAll (l : RTable) (s : State) : State := l.foldl (fun t e => putKey e.1 e.2 t) s

theorem putKey_regs_only (k : RKey) (v : Nat) (s : State) : putKey k v s = { s with regs := (putKey k v s).regs } := by
  unfold putKey
  split <;> rfl

theorem putAll_regs_only (l : RTable) (s : State) : putAll l s = { s with regs := (putAll l s).regs } := by
  induction l generalizing s with
  | nil => rfl
  | cons e r ih =>
    show putAll r (putKey e.1 e.2 s) = { s with regs := (putAll r (putKey e.1 e.2 s)).regs }
    generalize hu : putKey e.1 e.2 s = u
    have h1 : u = { s with regs := u.regs } := hu ▸ putKey_regs_only e.1 e.2 s
    calc putAll r u = { u with regs := (putAll r u).regs } := ih u
      _ = { s with regs := (putAll r u).regs } := by rw [h1]

theorem tgetBy_putKey_other (k x : RKey) (v d : Nat) (s : State) (h : x ≠ k) :
    tgetBy d (putKey k v s).regs x = tgetBy d s.regs x := by
  unfold putKey
  split
  · exact tgetBy_tputBy_other _ _ _ _ _ _ _ h
  · rfl

theorem keyVal_putKey_self (k : RKey) (v : Nat) (f : Fld) (s : State) (hf : fldOf k = some f) :
    keyVal (putKey k v s) k = v % 2 ^ f.w := by
  simp [keyVal, putKey, hf]

theorem keyVal_putKey_other (k x : RKey) (v : Nat) (s : State) (h : x ≠ k) : keyVal (putKey k v s) x = keyVal s x := by
  unfold keyVal
  split
  · exact tgetBy_putKey_other _ _ _ _ _ h
  · rfl

theorem tgetBy_putAll_other (l : RTable) (s : State) (x : RKey) (d : Nat) (h : ∀ e ∈ l, e.1 ≠ x) :
    tgetBy d (putAll l s).regs x = tgetBy d s.regs x := by
  induction l generalizing s with
  | nil => rfl
  | cons e r ih =>
    show tgetBy d (putAll r (putKey e.1 e.2 s)).regs x = _
    rw [ih _ (fun e' he => h e' (List.mem_cons_of_mem _ he)),
      tgetBy_putKey_other _ _ _ _ _ (Ne.symm (h e (List.mem_cons_self ..)))]

theorem keyVal_putAll (l : RTable) (s : State) (x : RKey) (v : Nat) (f : Fld) (hf : fldOf x = some f)
    (hv : ∀ e ∈ l, e.1 = x → e.2 = v) (h : (∃ e ∈ l, e.1 = x) ∨ keyVal s x = v % 2 ^ f.w) :
    keyVal (putAll l s) x = v % 2 ^ f.w := by
  induction l generalizing s with
  | nil => exact h.resolve_left (by simp)
  | cons e r ih =>
    refine ih (putKey e.1 e.2 s) (fun e' he => hv e' (List.mem_cons_of_mem _ he)) ?_
    by_cases hx : e.1 = x
    · right
      rw [hx, keyVal_putKey_self _ _ f _ hf, hv e (List.mem_cons_self ..) hx]
    · rw [keyVal_putKey_other _ _ _ _ (Ne.symm hx)]
      simpa [hx] using h

/-! Boundaries (R497, R499). -/

/-- The captured entries of page `P`. -/
def capturedOf (P : Nat) (s : State) : RTable := s.captured.filter (fun e => e.1.page == P)

theorem boundary_all (P : Nat) (s : State) : boundary P (fun _ => true) s =
    putAll (capturedOf P s) { s with captured := s.captured.filter (fun e => e.1.page != P) } := by
  simp only [boundary, Bool.and_true, putAll, capturedOf, bne]

theorem shadowBoundary_foreign (P : Nat) (g h : Half) (s : State) (hG : P ≠ pgPlaceG) (hP : pageHalf P = some g)
    (hne : g ≠ h) : shadowBoundary P h s = s := by
  simp [shadowBoundary, hG, hP, hne]

theorem shadowBoundary_own (P : Nat) (h : Half) (s : State) (hG : P ≠ pgPlaceG)
    (hP : pageHalf P = none ∨ pageHalf P = some h) : shadowBoundary P h s = boundary P (fun _ => true) s := by
  rcases hP with hP | hP <;> simp [shadowBoundary, hG, hP]

theorem boundary_all_captured (P : Nat) (s : State) :
    (boundary P (fun _ => true) s).captured = s.captured.filter (fun e => e.1.page != P) := by
  rw [boundary_all, putAll_regs_only]

theorem boundary_all_only (P : Nat) (s : State) : boundary P (fun _ => true) s =
    { s with
      regs := (boundary P (fun _ => true) s).regs, captured := (boundary P (fun _ => true) s).captured } := by
  rw [boundary_all, putAll_regs_only]

theorem boundary_all_other (P : Nat) (s : State) (x : RKey) (d : Nat) (h : ∀ v, (x, v) ∈ s.captured → x.page ≠ P) :
    tgetBy d (boundary P (fun _ => true) s).regs x = tgetBy d s.regs x := by
  rw [boundary_all, tgetBy_putAll_other]
  rintro ⟨y, v⟩ he rfl
  obtain ⟨hm, hp⟩ := List.mem_filter.mp he
  exact h v hm (by simpa using hp)

/-- A captured entry is in force after the boundary. -/
theorem boundary_all_value (P : Nat) (s : State) (x : RKey) (v : Nat) (f : Fld) (hn : PlacesOnce (capturedOf P s))
    (hm : (x, v) ∈ capturedOf P s) (hf : fldOf x = some f) :
    keyVal (boundary P (fun _ => true) s) x = v % 2 ^ f.w := by
  rw [boundary_all]
  exact keyVal_putAll _ _ _ _ _ hf (hn.value_unique hm) (.inl ⟨_, hm, rfl⟩)

theorem shadowBoundary_takes (s : State) (P : Nat) (h : Half) (hG : P ≠ pgPlaceG)
    (hP : pageHalf P = none ∨ pageHalf P = some h) (hn : PlacesOnce s.captured) :
    Ends (.shadowBoundary P h) s (fun t =>
      (∀ (x : RKey) (v : Nat) (f : Fld), (x, v) ∈ s.captured → x.page = P → fldOf x = some f → keyVal t x = v % 2 ^ f.w) ∧
      (∀ (x : RKey) (d : Nat), (∀ v, (x, v) ∈ s.captured → x.page ≠ P) → tgetBy d t.regs x = tgetBy d s.regs x) ∧
      t.captured = s.captured.filter (fun e => e.1.page != P) ∧ t = { s with regs := t.regs, captured := t.captured }) := by
  refine ends_done (t := shadowBoundary P h s) rfl ?_
  rw [shadowBoundary_own P h s hG hP]
  refine ⟨fun x v f hm hp hf => ?_, fun x d hx => boundary_all_other P s x d hx, boundary_all_captured P s,
    boundary_all_only P s⟩
  exact boundary_all_value P s x v f (hn.filter _) (List.mem_filter.mpr ⟨hm, by simp [hp]⟩) hf

theorem exec_shadowBoundary_foreign (s : State) (P : Nat) (g h : Half) (hG : P ≠ pgPlaceG) (hP : pageHalf P = some g)
    (hne : g ≠ h) : exec (.shadowBoundary P h) s = .next s := by
  show done (shadowBoundary P h s) = _
  rw [shadowBoundary_foreign P g h s hG hP hne]
  rfl

end Sys2Proof.Machine
end

section
/-!
CERTIFICATE. APPLY and DISCARD, and what result queues, logs and shadows do (R497, R498, R501, R507).
-/
namespace Sys2Proof.Machine

/-! The shadow's commands (R497, R498). -/

/-- The two registers that show a page's uncaptured shadow writes. -/
def shadowRegs (P : Nat) : List (Nat × Nat) := [(P, R.STAT_SHADOW_DIRTY.off), (P, R.CLASS_STAT_SHADOW_WRITES.off)]

theorem shadowClean_kept (P : Nat) (s : State) : RegsKept (shadowRegs P) s (shadowClean P s) :=
  clearAll_kept P [R.STAT_SHADOW_DIRTY, R.CLASS_STAT_SHADOW_WRITES] s

theorem shadowClean_reads (P : Nat) (s : State) :
    rd (shadowClean P s) P R.STAT_SHADOW_DIRTY = 0 ∧ rd (shadowClean P s) P R.CLASS_STAT_SHADOW_WRITES = 0 :=
  ⟨rd_clearAll_self P _ s _ (by simp) (by decide), rd_clearAll_self P _ s _ (by simp) (by decide)⟩

/-- What APPLY captures on page `P`. -/
def toCapture (P : Nat) (s : State) : RTable := s.shadow.filter (fun e => e.1.page == P && e.2 != keyVal s e.1)

/-- The capture of APPLY, before any of it takes effect. -/
def captureAll (P : Nat) (s : State) : State :=
  shadowClean P { s with captured := tinsAll (toCapture P s) s.captured }

/-- Captures of a disabled block take effect at once. -/
def takeIfOff (k : PageKind) (P : Nat) (h : Half) (s : State) : State :=
  if stagedOff s k h then shadowBoundary P h s else s

theorem shadowApply_busy (k : PageKind) (P : Nat) (p : Path) (s : State)
    (h : s.captured.any (fun e => e.1.page == P) = true) :
    shadowApply k P p s = cfgReject P R.SHADOW_CMD_APPLY.off 4 .live (some p) s := by
  simp only [shadowApply, h, if_true]

theorem shadowApply_nothing (k : PageKind) (P : Nat) (p : Path) (s : State) (hG : P ≠ pgPlaceG)
    (hc : s.captured.any (fun e => e.1.page == P) = false) (hn : toCapture P s = []) : shadowApply k P p s = s := by
  simp only [toCapture] at hn
  simp [shadowApply, hc, hn, hG]

theorem shadowApply_captures (k : PageKind) (P : Nat) (p : Path) (s : State) (hG : P ≠ pgPlaceG)
    (hc : s.captured.any (fun e => e.1.page == P) = false) (hn : toCapture P s ≠ []) :
    shadowApply k P p s = takeIfOff k P .east (takeIfOff k P .west (captureAll P s)) := by
  have h0 : (toCapture P s).isEmpty = false := by simpa using hn
  simp only [toCapture] at h0
  simp only [shadowApply, hc, hG, h0, if_false, Bool.false_eq_true]
  rfl

theorem exec_shadowApply (s : State) (P : Nat) (p : Path) (k : PageKind) (hk : pageKind P = some k) :
    exec (.shadowApply P p) s = done (onPage P R.SHADOW_CMD_APPLY.off (fun s => shadowApply k P p s) s) := by
  show execShadowApply P p s = _
  simp only [execShadowApply, hk]

theorem exec_shadowDiscard (s : State) (P : Nat) (k : PageKind) (hk : pageKind P = some k) :
    exec (.shadowDiscard P) s = done (onPage P R.SHADOW_CMD_APPLY.off (fun s => shadowDiscard P s) s) := by
  show execShadowDiscard P s = _
  simp only [execShadowDiscard, hk]

theorem toCapture_nil_of_any {s : State} {P : Nat}
    (h : s.shadow.any (fun e => e.1.page == P && e.2 != keyVal s e.1) = false) : toCapture P s = [] := by
  rw [toCapture, List.filter_eq_nil_iff]
  intro e he
  rw [List.any_eq_false] at h
  exact h e he

theorem toCapture_ne_nil {s : State} {P : Nat} (h : ToCapture s P) : toCapture P s ≠ [] := by
  obtain ⟨-, -, h⟩ := h
  obtain ⟨e, he, hv⟩ := List.any_eq_true.mp h
  exact List.ne_nil_of_mem (List.mem_filter.mpr ⟨he, hv⟩)

theorem mem_toCapture {s : State} {P : Nat} {e : RKey × Nat} :
    e ∈ toCapture P s ↔ e ∈ s.shadow ∧ e.1.page = P ∧ e.2 ≠ keyVal s e.1 := by
  simp [toCapture]

/-- No captured entry is of page `P`. -/
theorem captured_other_page {s : State} {P : Nat} (h : s.captured.any (fun e => e.1.page == P) = false) :
    ∀ e ∈ s.captured, e.1.page ≠ P := by
  intro e he hp
  rw [List.any_eq_false] at h
  exact h e he (by simp [hp])

theorem captureAll_captured (P : Nat) (s : State) : (captureAll P s).captured = tinsAll (toCapture P s) s.captured := by
  simp [captureAll, shadowClean]

/-- A shadow value that is not captured is the value in force. -/
theorem shadowVal_of_not_captured {s : State} {P : Nat} {x : RKey} (hx : x.page = P)
    (hn : ∀ e ∈ toCapture P s, e.1 ≠ x) (hp : PlacesOnce s.shadow) : shadowVal s x = keyVal s x := by
  unfold shadowVal
  by_cases h : ∃ v, (x, v) ∈ s.shadow
  · obtain ⟨v, hv⟩ := h
    rw [tgetBy_of_mem _ _ _ v hp hv]
    by_contra hne
    exact hn (x, v) (mem_toCapture.mpr ⟨hv, hx, hne⟩) rfl
  · exact tgetBy_of_not_mem _ _ _ (fun e he hk => h ⟨e.2, hk ▸ he⟩)

theorem toCapture_value {s : State} {P : Nat} (hp : PlacesOnce s.shadow) {e : RKey × Nat} (he : e ∈ toCapture P s) :
    e.2 = shadowVal s e.1 :=
  (tgetBy_of_mem _ _ e.1 e.2 hp (mem_toCapture.mp he).1).symm

/-- What is captured of page `P` is what its shadow holds. -/
theorem captureAll_value {s : State} {P : Nat} (h : ToCapture s P) (x : RKey) (hx : x.page = P) :
    tgetBy (keyVal s x) (captureAll P s).captured x = shadowVal s x := by
  obtain ⟨hc, hp, -⟩ := h
  rw [captureAll_captured]
  refine tgetBy_tinsAll _ _ _ _ _ (fun e he hk => hk ▸ toCapture_value hp he) ?_
  by_cases hm : ∃ e ∈ toCapture P s, e.1 = x
  · exact .inl hm
  · right
    rw [tgetBy_of_not_mem _ _ _ (fun e he hk => captured_other_page hc e he (hk ▸ hx))]
    exact (shadowVal_of_not_captured hx (fun e he hk => hm ⟨e, he, hk⟩) hp).symm

theorem captureAll_other_page (s : State) (P : Nat) (x : RKey) (d : Nat) (hx : x.page ≠ P) :
    tgetBy d (captureAll P s).captured x = tgetBy d s.captured x := by
  rw [captureAll_captured]
  exact tgetBy_tinsAll_other _ _ _ _ (fun e he hk => hx (hk ▸ (mem_toCapture.mp he).2.1))

theorem captureAll_only (P : Nat) (s : State) : captureAll P s =
    { s with regs := (captureAll P s).regs, captured := (captureAll P s).captured } := rfl

theorem captureAll_kept (P : Nat) (s : State) : RegsKept (shadowRegs P) s (captureAll P s) := shadowClean_kept P _

/-- What of the captures stands for page `P` is what was to be captured. -/
theorem capturedOf_captureAll {s : State} {P : Nat} (h : ToCapture s P) :
    List.Perm (capturedOf P (captureAll P s)) (toCapture P s) := by
  obtain ⟨hc, hp, -⟩ := h
  have hperm := tinsAll_perm (toCapture P s) s.captured (hp.filter _)
    (fun a ha e he hk => captured_other_page hc e he (hk ▸ (mem_toCapture.mp ha).2.1))
  have h1 : (toCapture P s).filter (fun e => e.1.page == P) = toCapture P s :=
    List.filter_eq_self.mpr (fun e he => by simp [(mem_toCapture.mp he).2.1])
  have h2 : s.captured.filter (fun e => e.1.page == P) = [] :=
    List.filter_eq_nil_iff.mpr (fun e he => by simp [captured_other_page hc e he])
  have h3 := hperm.filter (fun e => e.1.page == P)
  rw [List.filter_append, h1, h2, List.append_nil] at h3
  rw [capturedOf, captureAll_captured]
  exact h3

/-! Which blocks can be disabled (R496, R497). -/

theorem rdB_kept_shadowRegs {s t : State} {P : Nat} (hk : RegsKept (shadowRegs P) s t) (Q : Nat) (f : Fld)
    (hd : f.off ≠ R.STAT_SHADOW_DIRTY.off) (hw : f.off ≠ R.CLASS_STAT_SHADOW_WRITES.off) : rdB t Q f = rdB s Q f := by
  unfold rdB
  rw [hk.rd Q f (by simp [shadowRegs, hd, hw])]

theorem stagedOff_kept {s t : State} {P : Nat} (hk : RegsKept (shadowRegs P) s t) (k : PageKind) (h : Half) :
    stagedOff t k h = stagedOff s k h := by
  have hrd := rdB_kept_shadowRegs hk
  cases k with
  | light => exact congrArg (!·) (hrd (pgLight h) R.LL_CTRL_EN (by decide) (by decide))
  | place => exact congrArg (!·) (hrd (pgPlace h) R.PL_CTRL_EN (by decide) (by decide))
  | placeG => exact congrArg (!·) (hrd (pgPlace h) R.PL_CTRL_EN (by decide) (by decide))
  | cal => exact congrArg (!·) (hrd (pgCal h) R.CAL_CTRL_EN (by decide) (by decide))
  | _ => rfl

/-- The kinds of the global pages in their order (R486). -/
def globalKinds : List PageKind :=
  [.global, .host, .lantern, .timebase, .keeper, .protect, .primacy, .contexts, .rings, .placeG, .easelG, .queuesG, .dataPort]

theorem pageKind_global (P : Nat) (h : P % 4 = 0) : pageKind P = globalKinds[P / 4]? := by
  unfold pageKind
  rw [if_pos h]
  rfl

/-- A page of no half, other than PLACE_GLOBAL, has no block that a capture could find disabled. -/
theorem stagedOff_of_no_half (s : State) (P : Nat) (k : PageKind) (h : Half) (hk : pageKind P = some k)
    (hP : pageHalf P = none) (hG : P ≠ pgPlaceG) : stagedOff s k h = false := by
  have h0 : P % 4 = 0 := by
    by_contra h0
    have h3 : P % 4 = 3 := by
      unfold pageHalf at hP
      split at hP
      · cases hP
      · split at hP
        · cases hP
        · omega
    simp [pageKind, h3] at hk
  rw [pageKind_global P h0] at hk
  have hmem : k ∈ globalKinds := List.mem_of_getElem? hk
  cases k with
  | placeG =>
    have hlt : P / 4 < 13 := (List.getElem?_eq_some_iff.mp hk).1
    have hq : P / 4 = 9 := (by decide : ∀ q < 13, globalKinds[q]? = some .placeG → q = 9) _ hlt hk
    exact absurd (show P = 36 by omega) hG
  | light => exact absurd hmem (by decide)
  | place => exact absurd hmem (by decide)
  | cal => exact absurd hmem (by decide)
  | _ => rfl

/-- Where the page's block is enabled, nothing captured takes effect. -/
theorem takeIfOff_enabled (s : State) (k : PageKind) (P : Nat) (h : Half) (hk : pageKind P = some k) (hG : P ≠ pgPlaceG)
    (ho : ∀ g, pageHalf P = some g → stagedOff s k g = false) : takeIfOff k P h s = s := by
  unfold takeIfOff
  cases hP : pageHalf P with
  | none => rw [stagedOff_of_no_half s P k h hk hP hG]; rfl
  | some g =>
    by_cases hg : g = h
    · subst hg; rw [ho g hP]; rfl
    · rw [shadowBoundary_foreign P g h s hG hP hg, ite_self]

theorem shadowApply_refused (s : State) (P : Nat) (p : Path) (k : PageKind) (hk : pageKind P = some k)
    (hl : pageLive s P = true) (hc : s.captured.any (fun e => e.1.page == P) = true) :
    Ends (.shadowApply P p) s (fun t =>
      t = cfgReject P R.SHADOW_CMD_APPLY.off 4 .live (some p) { s with woLatch := t.woLatch }) := by
  refine ends_onPage_live hl (exec_shadowApply s P p k hk) ?_
  rw [shadowApply_busy k P p (unlatched P s) hc, cfgReject_woLatch]
  rfl

theorem shadowApply_idle (s : State) (P : Nat) (p : Path) (k : PageKind) (hk : pageKind P = some k)
    (hl : pageLive s P = true) (hG : P ≠ pgPlaceG) (hc : s.captured.any (fun e => e.1.page == P) = false)
    (hn : s.shadow.any (fun e => e.1.page == P && e.2 != keyVal s e.1) = false) :
    Ends (.shadowApply P p) s (fun t => t = { s with woLatch := t.woLatch }) := by
  refine ends_onPage_live hl (exec_shadowApply s P p k hk) ?_
  rw [shadowApply_nothing k P p (unlatched P s) hG hc (toCapture_nil_of_any (s := unlatched P s) hn)]
  rfl

theorem shadowApply_enabled (s : State) (P : Nat) (p : Path) (k : PageKind) (hk : pageKind P = some k)
    (hl : pageLive s P = true) (hG : P ≠ pgPlaceG) (ht : ToCapture s P)
    (ho : ∀ h, pageHalf P = some h → stagedOff s k h = false) :
    Ends (.shadowApply P p) s (fun t =>
      (∀ x : RKey, x.page = P → tgetBy (keyVal s x) t.captured x = shadowVal s x) ∧
      (∀ (x : RKey) (d : Nat), x.page ≠ P → tgetBy d t.captured x = tgetBy d s.captured x) ∧
      rd t P R.STAT_SHADOW_DIRTY = 0 ∧ rd t P R.CLASS_STAT_SHADOW_WRITES = 0 ∧
      t = { s with regs := t.regs, captured := t.captured, woLatch := t.woLatch } ∧
      RegsKept [(P, R.STAT_SHADOW_DIRTY.off), (P, R.CLASS_STAT_SHADOW_WRITES.off)] s t) := by
  refine ends_onPage_live hl (exec_shadowApply s P p k hk) ?_
  have ht' : ToCapture (unlatched P s) P := ht
  have ho' : ∀ g, pageHalf P = some g → stagedOff (captureAll P (unlatched P s)) k g = false := fun g hg => by
    rw [stagedOff_kept (captureAll_kept P (unlatched P s))]; exact ho g hg
  rw [shadowApply_captures k P p _ hG ht'.1 (toCapture_ne_nil ht'), takeIfOff_enabled _ k P .west hk hG ho',
    takeIfOff_enabled _ k P .east hk hG ho']
  obtain ⟨hd, hw⟩ := shadowClean_reads P
    { unlatched P s with captured := tinsAll (toCapture P (unlatched P s)) s.captured }
  exact ⟨fun x hx => captureAll_value ht' x hx, fun x d hx => captureAll_other_page (unlatched P s) P x d hx, hd, hw, rfl,
    captureAll_kept P (unlatched P s)⟩

/-! DISCARD (R497, R498). -/

theorem shadowDiscard_eq (P : Nat) (s : State) : shadowDiscard P s = shadowClean P { s with
    shadow := tinsAll ((s.captured.filter (fun e => e.1.page == P)).map (fun e => (e.1, keyVal s e.1)))
      (s.shadow.filter (fun e => e.1.page != P)) } := rfl

theorem shadowDiscard_shadow (P : Nat) (s : State) : (shadowDiscard P s).shadow =
    tinsAll ((s.captured.filter (fun e => e.1.page == P)).map (fun e => (e.1, keyVal s e.1)))
      (s.shadow.filter (fun e => e.1.page != P)) := by
  rw [shadowDiscard_eq, shadowClean, clearAll_shadow]

theorem shadowDiscard_kept (P : Nat) (s : State) : RegsKept (shadowRegs P) s (shadowDiscard P s) :=
  shadowClean_kept P _

theorem shadowDiscard_own (P : Nat) (s : State) (x : RKey) (hx : x.page = P) (hd : x.off ≠ R.STAT_SHADOW_DIRTY.off)
    (hw : x.off ≠ R.CLASS_STAT_SHADOW_WRITES.off) : shadowVal (shadowDiscard P s) x = keyVal s x := by
  unfold shadowVal
  rw [keyVal_kept (shadowDiscard_kept P s) x (by simp [shadowRegs, hd, hw]), shadowDiscard_shadow]
  refine tgetBy_tinsAll _ _ _ _ _ ?_ (.inr ?_)
  · simp only [List.mem_map]
    rintro _ ⟨e, -, rfl⟩ rfl
    rfl
  · exact tgetBy_of_not_mem _ _ _ (fun e he hk => by simpa [hk, hx] using (List.mem_filter.mp he).2)

theorem tgetBy_filter_keep {κ α : Type} [DecidableEq κ] (d : α) (t : List (κ × α)) (p : κ × α → Bool) (x : κ)
    (h : ∀ v, p (x, v) = true) : tgetBy d (t.filter p) x = tgetBy d t x := by
  induction t with
  | nil => rfl
  | cons e r ih =>
    obtain ⟨y, w⟩ := e
    by_cases hy : y = x
    · subst hy; simp [tgetBy, h]
    · by_cases hp : p (y, w) = true <;> simp [tgetBy, hp, hy, ih]

theorem shadowDiscard_other (P : Nat) (s : State) (x : RKey) (d : Nat) (hx : x.page ≠ P) :
    tgetBy d (shadowDiscard P s).shadow x = tgetBy d s.shadow x := by
  rw [shadowDiscard_shadow, tgetBy_tinsAll_other, tgetBy_filter_keep _ _ _ _ (fun v => by simp [hx])]
  simp only [List.mem_map, List.mem_filter]
  rintro _ ⟨e, ⟨-, hp⟩, rfl⟩ rfl
  exact hx (by simpa using hp)

theorem shadowDiscard_ends (s : State) (P : Nat) (k : PageKind) (hk : pageKind P = some k) (hl : pageLive s P = true) :
    Ends (.shadowDiscard P) s (fun t =>
      (∀ x : RKey, x.page = P → x.off ≠ R.STAT_SHADOW_DIRTY.off →
        x.off ≠ R.CLASS_STAT_SHADOW_WRITES.off → shadowVal t x = keyVal s x) ∧
      (∀ (x : RKey) (d : Nat), x.page ≠ P → tgetBy d t.shadow x = tgetBy d s.shadow x) ∧
      rd t P R.STAT_SHADOW_DIRTY = 0 ∧ rd t P R.CLASS_STAT_SHADOW_WRITES = 0 ∧
      t = { s with regs := t.regs, shadow := t.shadow, woLatch := t.woLatch } ∧
      RegsKept [(P, R.STAT_SHADOW_DIRTY.off), (P, R.CLASS_STAT_SHADOW_WRITES.off)] s t) := by
  refine ends_onPage_live hl (exec_shadowDiscard s P k hk) ?_
  obtain ⟨hd, hw⟩ := shadowClean_reads P _
  exact ⟨fun x hx hd hw => shadowDiscard_own P (unlatched P s) x hx hd hw,
    fun x d hx => shadowDiscard_other P (unlatched P s) x d hx, hd, hw, rfl, shadowDiscard_kept P (unlatched P s)⟩

/-! APPLY on the page of a disabled Light (R497, R499). -/

theorem pageHalf_pgLight (h : Half) : pageHalf (pgLight h) = some h := by cases h <;> rfl

theorem pgLight_ne_placeG (h : Half) : pgLight h ≠ pgPlaceG := by cases h <;> decide

theorem pageKind_pgLight (h : Half) : pageKind (pgLight h) = some .light := by cases h <;> rfl

theorem takeIfOff_light_foreign (s : State) (g h : Half) (hne : g ≠ h) : takeIfOff .light (pgLight g) h s = s := by
  unfold takeIfOff
  rw [shadowBoundary_foreign _ g h s (pgLight_ne_placeG g) (pageHalf_pgLight g) hne, ite_self]

theorem takeIfOff_light_off (s : State) (h : Half) (ho : rdB s (pgLight h) R.LL_CTRL_EN = false) :
    takeIfOff .light (pgLight h) h s = boundary (pgLight h) (fun _ => true) s := by
  have : stagedOff s .light h = true := by simp [stagedOff, ho]
  rw [takeIfOff, if_pos this, shadowBoundary_own _ h s (pgLight_ne_placeG h) (.inr (pageHalf_pgLight h))]

/-- The captures of a disabled Light take effect in the same step. -/
theorem shadowApply_light_off (p : Path) (s : State) (h : Half) (ht : ToCapture s (pgLight h))
    (ho : rdB s (pgLight h) R.LL_CTRL_EN = false) :
    shadowApply .light (pgLight h) p s = boundary (pgLight h) (fun _ => true) (captureAll (pgLight h) s) := by
  have ho' : rdB (captureAll (pgLight h) s) (pgLight h) R.LL_CTRL_EN = false := by
    rw [rdB_kept_shadowRegs (captureAll_kept _ s) _ _ (by decide) (by decide)]; exact ho
  rw [shadowApply_captures _ _ p s (pgLight_ne_placeG h) ht.1 (toCapture_ne_nil ht)]
  cases h with
  | west => rw [takeIfOff_light_off _ .west ho', takeIfOff_light_foreign _ .west .east (by decide)]
  | east => rw [takeIfOff_light_foreign _ .east .west (by decide), takeIfOff_light_off _ .east ho']

/-- LL_TUNE's fields at their places. -/
theorem fldOf_tune (h : Half) (f : Fld) (hf : f ∈ tuneFlds) : fldOf (f.key (pgLight h) 0) = some f := by
  have : ∀ g ∈ tuneFlds, ∀ h, fldOf (g.key (pgLight h) 0) = some g := by
    intro g hg h
    cases h <;> revert g <;> decide
  exact this f hf h

theorem keyVal_tune (s : State) (h : Half) (f : Fld) (hf : f ∈ tuneFlds) :
    keyVal s (f.key (pgLight h) 0) = rd s (pgLight h) f := by
  unfold keyVal
  rw [fldOf_tune h f hf]
  rfl

/-- After the capture of a disabled Light each entry of LL_TUNE that was captured is in force. -/
theorem light_off_reads {s : State} {h : Half} (ht : ToCapture s (pgLight h)) (f : Fld) (hf : f ∈ tuneFlds) :
    rd (boundary (pgLight h) (fun _ => true) (captureAll (pgLight h) s)) (pgLight h) f % 2 ^ f.w =
      shadowVal s (f.key (pgLight h) 0) % 2 ^ f.w := by
  have hperm := capturedOf_captureAll ht
  have honce : PlacesOnce (toCapture (pgLight h) s) := ht.2.1.filter _
  have hfo := fldOf_tune h f hf
  rw [← keyVal_tune _ h f hf]
  generalize hx : f.key (pgLight h) 0 = x at hfo ⊢
  have hxp : x.page = pgLight h := hx ▸ rfl
  have hoff : x.off = 0x98 := by
    rw [← hx]; exact (by decide : ∀ g ∈ tuneFlds, g.off = 0x98) f hf
  by_cases hm : ∃ e ∈ toCapture (pgLight h) s, e.1 = x
  · obtain ⟨⟨_, v⟩, he, rfl⟩ := hm
    rw [boundary_all_value _ _ _ v f ((hperm.map _).nodup_iff.mpr honce) (hperm.mem_iff.mpr he) hfo, Nat.mod_mod,
      ← toCapture_value ht.2.1 he]
  · have hno : ∀ e ∈ toCapture (pgLight h) s, e.1 ≠ x := fun e he hk => hm ⟨e, he, hk⟩
    rw [shadowVal_of_not_captured hxp hno ht.2.1, boundary_all]
    have hput : ∀ t : State, keyVal (putAll (capturedOf (pgLight h) (captureAll (pgLight h) s)) t) x = keyVal t x := by
      intro t
      unfold keyVal
      rw [hfo]
      exact tgetBy_putAll_other _ _ _ _ (fun e he => hno e (hperm.mem_iff.mp he))
    rw [hput]
    exact congrArg (· % 2 ^ f.w) (keyVal_kept (captureAll_kept (pgLight h) s) x (by
      rw [hxp, hoff]; simp only [shadowRegs, List.mem_cons, Prod.mk.injEq, true_and, List.not_mem_nil, or_false]; decide))

/-- Registers outside LL_TUNE and the two that show the shadow's writes are left alone. -/
theorem light_off_kept {s : State} {h : Half} (ht : ToCapture s (pgLight h))
    (hs : ∀ e ∈ s.shadow, e.1.page = pgLight h → ∃ f ∈ tuneFlds, e.1 = f.key (pgLight h) 0) :
    RegsKept [(pgLight h, R.STAT_SHADOW_DIRTY.off), (pgLight h, R.CLASS_STAT_SHADOW_WRITES.off), (pgLight h, 0x98)] s
      (boundary (pgLight h) (fun _ => true) (captureAll (pgLight h) s)) := by
  have h1 := (captureAll_kept (pgLight h) s).mono (ey := [(pgLight h, R.STAT_SHADOW_DIRTY.off),
    (pgLight h, R.CLASS_STAT_SHADOW_WRITES.off), (pgLight h, 0x98)]) (by simp [shadowRegs])
  refine h1.trans (fun x d hx => boundary_all_other _ _ x d (fun v hv hp => hx ?_))
  have he : (x, v) ∈ toCapture (pgLight h) s :=
    (capturedOf_captureAll ht).mem_iff.mp (List.mem_filter.mpr ⟨hv, by simp [hp]⟩)
  obtain ⟨f, hf, rfl⟩ := hs _ (mem_toCapture.mp he).1 hp
  have hoff : f.off = 0x98 := (by decide : ∀ g ∈ tuneFlds, g.off = 0x98) f hf
  simp [Fld.key, hoff]

theorem shadowApply_disabled_light (s : State) (h : Half) (p : Path) (hl : pageLive s (pgLight h) = true)
    (ht : ToCapture s (pgLight h)) (ho : rdB s (pgLight h) R.LL_CTRL_EN = false)
    (hs : ∀ e ∈ s.shadow, e.1.page = pgLight h → ∃ f ∈ tuneFlds, e.1 = f.key (pgLight h) 0) :
    Ends (.shadowApply (pgLight h) p) s (fun t =>
      (∀ f ∈ tuneFlds, rd t (pgLight h) f % 2 ^ f.w = shadowVal s (f.key (pgLight h) 0) % 2 ^ f.w) ∧
      t.captured.any (fun e => e.1.page == pgLight h) = false ∧
      t = { s with regs := t.regs, captured := t.captured, woLatch := t.woLatch } ∧
      RegsKept [(pgLight h, R.STAT_SHADOW_DIRTY.off), (pgLight h, R.CLASS_STAT_SHADOW_WRITES.off), (pgLight h, 0x98)] s t) := by
  refine ends_onPage_live hl (exec_shadowApply s _ p .light (pageKind_pgLight h)) ?_
  have ht' : ToCapture (unlatched (pgLight h) s) (pgLight h) := ht
  rw [shadowApply_light_off p (unlatched (pgLight h) s) h ht' ho]
  refine ⟨fun f hf => light_off_reads ht' f hf, ?_, ?_, light_off_kept (s := unlatched (pgLight h) s) ht' hs⟩
  · rw [boundary_all_captured, List.any_eq_false]
    intro e he
    simpa using (List.mem_filter.mp he).2
  · rw [boundary_all_only, captureAll_only]
    rfl

/-- Settles O47, clause by clause: pops and flushes by the shape of the queue, APPLY and DISCARD by what they capture
and leave in the shadow, the boundary by what it puts in force. -/
theorem resultQueuesLogsAndShadowsWork : Obligations.ResultQueuesLogsAndShadowsWork := by
  unfold Obligations.ResultQueuesLogsAndShadowsWork
  refine ⟨fun s q p hl => ?_, fun s q p hd => ?_, fun s P p hk => ?_, fun s P p k hk hl => ?_, fun s h p hl ht ho hs => ?_,
    fun s P h hG => ?_⟩
  · exact ⟨resultPop_empty s q p hl, resultPop_word s q p hl, resultFlush_empties s q hl⟩
  · exact ⟨ends_onPage_dead hd rfl rfl, ends_onPage_dead hd rfl rfl⟩
  · exact ⟨errlogPop_empty s P p hk, fun n w r hl h => errlogPop_entry s P p hk hl n w r h,
      fun hd => ends_onPage_dead hd (exec_errlogPop s P p hk) rfl⟩
  · exact ⟨shadowApply_refused s P p k hk hl, shadowApply_idle s P p k hk hl, shadowApply_enabled s P p k hk hl,
      shadowDiscard_ends s P k hk hl⟩
  · exact shadowApply_disabled_light s h p hl ht ho hs
  · exact ⟨fun hP hn => shadowBoundary_takes s P h hG hP hn,
      fun hP => exec_shadowBoundary_foreign s P _ h hG hP (by cases h <;> decide)⟩

end Sys2Proof.Machine
end

section
/-!
SUPPORT. Register writes judged field by field: the fields of the registers, what a whole or half image gives each field (R9, R493-R500).
-/
namespace Sys2Proof.Machine

/-! Writes that change only what no unit waits on leave the state quiet. -/

@[simp] theorem quiet_unlatched (P : Nat) (s : State) : quiet (unlatched P s) = quiet s :=
  quiet_congr _ _ rfl rfl rfl rfl rfl rfl rfl rfl

@[simp] theorem quiet_wrI (P : Nat) (f : Fld) (i v : Nat) (s : State) : quiet (wrI P f i v s) = quiet s :=
  quiet_congr _ _ rfl rfl rfl rfl rfl rfl rfl rfl

@[simp] theorem quiet_shadowCount (P : Nat) (s : State) : quiet (shadowCount P s) = quiet s :=
  quiet_congr _ _ rfl rfl rfl rfl rfl rfl rfl rfl

@[simp] theorem quiet_cfgReject (P off cause : Nat) (cls : FCls) (p : Option Path) (s : State) :
    quiet (cfgReject P off cause cls p s) = quiet s := by
  apply quiet_congr <;> simp

@[simp] theorem quiet_barErr (cause off : Nat) (s : State) : quiet (barErr cause off s) = quiet s := by
  unfold barErr
  apply quiet_congr <;> simp

/-! The fields of a register. -/

/-- The fields of the register at byte `off` of a page of kind `k`. -/
def kindRegFields (k : PageKind) (off : Nat) : List Fld :=
  (R.pageHDR ++ kindFields k).filterMap (fun f =>
    if f.off ≤ off ∧ off < f.off + 8 * f.n ∧ (off - f.off) % 8 = 0 then some { f with off := off, n := 1 } else none)

theorem regFields_of_kind {P : Nat} {k : PageKind} (hk : pageKind P = some k) (off : Nat) :
    regFields P off = kindRegFields k off := by
  simp only [regFields, pageFields, hk, kindRegFields]

theorem kindRegFields_ctrl (k : PageKind) : kindRegFields k R.CTRL_FREEZE.off = [R.CTRL_FREEZE] := by
  cases k <;> rfl

theorem kindRegFields_evtEn (k : PageKind) : kindRegFields k R.EVT_EN.off = [R.EVT_EN] := by
  cases k <;> rfl

theorem kindRegFields_blkId (k : PageKind) :
    kindRegFields k R.BLK_ID_TYPE.off = [R.BLK_ID_TYPE, R.BLK_ID_INSTANCE, R.BLK_ID_REVISION] := by
  cases k <;> rfl

theorem kindRegFields_pools : kindRegFields .fiu 0x90 = poolFlds.reverse := rfl

theorem kindRegFields_wren : kindRegFields .protect R.PR_ATN_WREN_MASK.off = [R.PR_ATN_WREN_MASK] := rfl

/-! The fields of a register in the order in which they are judged (R500). -/

/-- From the lowest field up. -/
def byLo (l : List Fld) : List Fld := l.mergeSort (fun a b => decide (a.lo ≤ b.lo))

/-- A rising list whose fields have places of their own is what it is sorted to, in whatever order it is given. -/
theorem byLo_of_perm (l r : List Fld) (hp : List.Perm l r) (hr : r.Pairwise (fun a b => a.lo ≤ b.lo))
    (hu : ∀ a ∈ r, ∀ b ∈ r, a.lo = b.lo → a = b) : byLo l = r := by
  have hs : (byLo l).Pairwise (fun a b => decide (a.lo ≤ b.lo) = true) :=
    List.pairwise_mergeSort (fun a b c h1 h2 => by simp only [decide_eq_true_eq] at h1 h2 ⊢; omega)
      (fun a b => by simp only [Bool.or_eq_true, decide_eq_true_eq]; omega) l
  refine List.Perm.eq_of_pairwise (le := fun a b : Fld => a.lo ≤ b.lo) ?_ (hs.imp (fun h => by simpa using h)) hr
    ((List.mergeSort_perm l _).trans hp)
  intro a b ha hb h1 h2
  exact hu a (hp.mem_iff.mp ((List.mergeSort_perm l _).mem_iff.mp ha)) b hb (Nat.le_antisymm h1 h2)

theorem byLo_singleton (f : Fld) : byLo [f] = [f] := List.mergeSort_singleton f

theorem byLo_tune : byLo tuneFlds = tuneFlds.reverse := byLo_of_perm _ _ (List.reverse_perm _).symm (by decide) (by decide)

theorem byLo_pools : byLo poolFlds.reverse = poolFlds := byLo_of_perm _ _ (List.reverse_perm _) (by decide) (by decide)

theorem byLo_blkId : byLo [R.BLK_ID_TYPE, R.BLK_ID_INSTANCE, R.BLK_ID_REVISION] =
    [R.BLK_ID_REVISION, R.BLK_ID_INSTANCE, R.BLK_ID_TYPE] :=
  byLo_of_perm _ _ (by decide) (by decide) (by decide)

/-- The judgement of a list of fields: what the writes leave, and the refusal that counts. -/
def judged (k : PageKind) (P : Nat) (p : Path) (mask img : Nat) (fs : List Fld) (s : State) :
    State × Option (Nat × FCls) :=
  fs.foldl (fldWrite k P p mask img (blockOff s k P)) (s, none)

theorem judge_eq (k : PageKind) (P off : Nat) (p : Path) (mask img : Nat) (s : State) (fs : List Fld)
    (hk : pageKind P = some k) (hf : byLo (kindRegFields k off) = fs) :
    judge k P off p mask img s =
      (let s1 := if fs.any (fun f => f.cls == .staged && fldReached f mask && (selIdx s k P f.off).isSome)
        then shadowCount P (judged k P p mask img fs s).1 else (judged k P p mask img fs s).1
      match (judged k P p mask img fs s).2 with
      | some (c, cls) => cfgReject P off c cls (some p) s1
      | none => s1) := by
  subst hf
  rw [← regFields_of_kind hk]
  rfl

theorem any_staged_of_none (fs : List Fld) (hs : fs.all (fun f => f.cls != .staged) = true) (q : Fld → Bool) (r : Fld → Bool) :
    fs.any (fun f => f.cls == .staged && q f && r f) = false := by
  rw [List.any_eq_false]
  intro f hf
  have hc : f.cls ≠ .staged := by simpa using List.all_eq_true.mp hs f hf
  simp [hc]

/-- A register without STAGED fields none of whose fields is refused. -/
theorem judge_taken (k : PageKind) (P off : Nat) (p : Path) (mask img : Nat) (s t : State) (fs : List Fld)
    (hk : pageKind P = some k) (hf : byLo (kindRegFields k off) = fs) (hs : fs.all (fun f => f.cls != .staged) = true)
    (hj : judged k P p mask img fs s = (t, none)) : judge k P off p mask img s = t := by
  rw [judge_eq k P off p mask img s fs hk hf, hj, any_staged_of_none fs hs]
  rfl

/-- A register without STAGED fields of which some field is refused. -/
theorem judge_refused (k : PageKind) (P off : Nat) (p : Path) (mask img c : Nat) (cls : FCls) (s t : State) (fs : List Fld)
    (hk : pageKind P = some k) (hf : byLo (kindRegFields k off) = fs) (hs : fs.all (fun f => f.cls != .staged) = true)
    (hj : judged k P p mask img fs s = (t, some (c, cls))) :
    judge k P off p mask img s = cfgReject P off c cls (some p) t := by
  rw [judge_eq k P off p mask img s fs hk hf, hj, any_staged_of_none fs hs]
  rfl

/-! One field (R493-R500). -/

/-- A field that neither the selectors nor other state decide reads as it is stored. -/
theorem fldRead_stored (s : State) (k : PageKind) (P : Nat) (f : Fld) (hw : f.acc ≠ .wo) (hr : f.acc ≠ .rpop)
    (hi : selIdx s k P f.off = some 0)
    (hv : ∀ x ∈ (if f.off < 0x80 then viewHdr s k P else pageView s k P f.off 0), x.1 ≠ f) :
    fldRead s k P f = rd s P f := by
  have hfind : (if f.off < 0x80 then viewHdr s k P else pageView s k P f.off 0).find? (fun x => x.1 == f) = none :=
    List.find?_eq_none.mpr (fun x hx => by simpa using hv x hx)
  unfold fldRead
  split
  · exact absurd ‹_› hw
  · exact absurd ‹_› hr
  · simp only [hi, hfind, ite_self, rd]

theorem fldWrite_plain_ro (k : PageKind) (P : Nat) (p : Path) (mask img : Nat) (off : Bool)
    (x : State × Option (Nat × FCls)) (f : Fld) (ha : f.acc = .ro) (hc : f.cls ≠ .guarded) :
    fldWrite k P p mask img off x f = x := by
  unfold fldWrite
  simp only [ha, hc, false_and, if_false]
  split
  · rfl
  · split <;> rfl

theorem fldWrite_guarded (k : PageKind) (P : Nat) (p : Path) (mask img : Nat) (off : Bool)
    (x : State × Option (Nat × FCls)) (f : Fld) (ha : f.acc = .ro) (hc : f.cls = .guarded)
    (hr : fldReached f mask = true) (hi : selIdx x.1 k P f.off = some 0) :
    fldWrite k P p mask img off x f =
      if fldNew f (fldRead x.1 k P f) mask img ≠ fldRead x.1 k P f then (x.1, some (2, .guarded)) else x := by
  simp [fldWrite, hr, hi, ha, hc]

theorem fldWrite_stopped (k : PageKind) (P : Nat) (p : Path) (mask img : Nat) (off : Bool)
    (x : State × Option (Nat × FCls)) (f : Fld) (ha : f.acc = .rw) (hc : f.cls = .stopped)
    (hr : fldReached f mask = true) (hi : selIdx x.1 k P f.off = some 0) :
    fldWrite k P p mask img off x f =
      if fldNew f (fldRead x.1 k P f) mask img = fldRead x.1 k P f then x
      else if off then (stoppedPut P 0 f (fldNew f (fldRead x.1 k P f) mask img) x.1, x.2)
      else (x.1, some (1, .stopped)) := by
  simp [fldWrite, hr, hi, ha, hc]

theorem fldWrite_staged (k : PageKind) (P : Nat) (p : Path) (mask img : Nat) (off : Bool)
    (x : State × Option (Nat × FCls)) (f : Fld) (ha : f.acc = .rw) (hc : f.cls = .staged)
    (hi : selIdx x.1 k P f.off = some 0) :
    fldWrite k P p mask img off x f =
      if fldReached f mask then (shadowPut (f.key P 0) (fldNew f (shadowVal x.1 (f.key P 0)) mask img) x.1, x.2) else x := by
  by_cases hr : fldReached f mask = true <;> simp [fldWrite, hr, hi, ha, hc]

/-- A LIVE field that no chapter refuses and that acts on nothing but itself. -/
theorem fldWrite_live_plain (k : PageKind) (P : Nat) (p : Path) (mask img w : Nat) (off : Bool)
    (x : State × Option (Nat × FCls)) (f : Fld) (ha : f.acc = .rw) (hc : f.cls = .live)
    (hr : fldReached f mask = true) (hi : selIdx x.1 k P f.off = some 0)
    (hw : (if f.off = R.EVT_EN.off then fldNew f (fldRead x.1 k P f) mask img % 2 ^ eventCount k
      else fldNew f (fldRead x.1 k P f) mask img) = w)
    (hn : liveRefused k P 0 f w x.1 = false) (hp : livePut k P 0 f w p x.1 = wrI P f 0 w x.1) :
    fldWrite k P p mask img off x f = if w = fldRead x.1 k P f then x else (wr P f w x.1, x.2) := by
  subst hw
  simp [fldWrite, hr, hi, ha, hc, hn, hp, wr]

/-! Images (R9, R494). -/

theorem mergeImage_whole (cur v : Nat) (hv : v < 2 ^ 64) : mergeImage cur (partMask .whole) (partImage .whole v) = v := by
  simp only [mergeImage, partMask, partImage, Nat.sub_self, Nat.and_zero, Nat.zero_or, Nat.and_two_pow_sub_one_eq_mod,
    Nat.mod_eq_of_lt hv]

theorem fldNew_whole (f : Fld) (cur v : Nat) (hv : v < 2 ^ 64) :
    fldNew f cur (partMask .whole) (partImage .whole v) = fldBits f v := by
  unfold fldNew
  rw [mergeImage_whole _ v hv]
  rfl

theorem mergeImage_low (cur v : Nat) : mergeImage cur (partMask .low) (partImage .low v) =
    2 ^ 32 * (cur / 2 ^ 32 % 2 ^ 32) + v % 2 ^ 32 := by
  rw [Nat.two_pow_add_eq_or_of_lt (Nat.mod_lt _ (by decide))]
  unfold mergeImage partMask partImage
  congr 1
  · have h : 2 ^ 64 - 1 - (2 ^ 32 - 1) = 2 ^ 32 * (2 ^ 32 - 1) := by decide
    apply Nat.eq_of_testBit_eq
    intro i
    rw [h, Nat.testBit_and, Nat.testBit_two_pow_mul, Nat.testBit_two_pow_mul, Nat.testBit_mod_two_pow,
      Nat.testBit_div_two_pow, Nat.testBit_two_pow_sub_one]
    by_cases hi : 32 ≤ i <;> simp [hi, Nat.sub_add_cancel, Bool.and_comm]
  · rw [Nat.and_two_pow_sub_one_eq_mod, Nat.mod_mod]

theorem mergeImage_high (cur v : Nat) : mergeImage cur (partMask .high) (partImage .high v) =
    2 ^ 32 * (v % 2 ^ 32) + cur % 2 ^ 32 := by
  rw [Nat.two_pow_add_eq_or_of_lt (Nat.mod_lt _ (by decide)), Nat.or_comm]
  unfold mergeImage partMask partImage
  congr 1
  · have h : 2 ^ 64 - 1 - (2 ^ 32 - 1) * 2 ^ 32 = 2 ^ 32 - 1 := by decide
    show cur &&& (2 ^ 64 - 1 - (2 ^ 32 - 1) * 2 ^ 32) = _
    rw [h, Nat.and_two_pow_sub_one_eq_mod]
  · show v % 2 ^ 32 * 2 ^ 32 &&& (2 ^ 32 - 1) * 2 ^ 32 = _
    rw [Nat.mul_comm, Nat.mul_comm (2 ^ 32 - 1)]
    apply Nat.eq_of_testBit_eq
    intro i
    rw [Nat.testBit_and, Nat.testBit_two_pow_mul, Nat.testBit_two_pow_mul, Nat.testBit_mod_two_pow,
      Nat.testBit_two_pow_sub_one]
    by_cases hi : 32 ≤ i <;> simp [hi, Bool.and_comm]

end Sys2Proof.Machine
end

section
/-!
SUPPORT. How a register write comes to its end, and the common header (R490, R493).
-/
namespace Sys2Proof.Machine

/-! How a write of a register comes to its end. -/

/-- A write whose page takes it, of a register that is not WO (R489, R493). -/
theorem regWrite_judged {s : State} {P off : Nat} {k : PageKind} {p : Path} (hk : pageKind P = some k)
    (hl : pageLive s P = true) (hp : pathMayWrite s P off p = true) (hw : isWoReg P off = false) (part : Part) (v : Nat) :
    regWrite P off part v p s = regPut k P off part v p (unlatched P s) := by
  have hm : P ≠ pgMsix := by rintro rfl; cases hk
  simp only [regWrite, hp, hm, hk, hw, Bool.not_true, Bool.false_eq_true, if_false, onPage_live P off _ s hl]
  rfl

/-- A register write that leaves the device quiet has no more to it than its own effect. -/
theorem ends_regWrite {s t : State} {P off : Nat} {part : Part} {v : BitVec 64} {p : Path} {Q : State → Prop}
    (h : regWrite P off part v.toNat p s = t) (hq : quiet t = true) (hQ : Q t) : Ends (.regWrite P off part v p) s Q := by
  refine ends_done (t := t) ?_ hQ
  show done (settle (regWrite P off part v.toNat p s)) = _
  rw [h, settle_quiet t hq]

theorem isWoReg_of_kind {P : Nat} {k : PageKind} (hk : pageKind P = some k) (off : Nat) : isWoReg P off =
    (!((kindRegFields k off).filter (fun f => f.acc != .ro)).isEmpty &&
      ((kindRegFields k off).filter (fun f => f.acc != .ro)).all (fun f => f.acc == .wo)) := by
  simp only [isWoReg, regFields_of_kind hk]

/-- A register that no chapter writes as a whole is judged field by field. -/
theorem regPut_judge (k : PageKind) (P off : Nat) (part : Part) (v : Nat) (p : Path) (s : State)
    (h1 : k = .easelG → off ≠ R.EZG_CARVE_NAME_LOG2.off) (h2 : k = .lantern → off ≠ R.LAN_ROUTE_MSIX_EN.off)
    (h3 : k = .lantern → off ≠ R.LAN_VEC_CFG_MOD_US.off) (h4 : k = .dataPort → off ≠ R.DP_DATA.off) :
    regPut k P off part v p s = judge k P off p (partMask part) (partImage part v) s := by
  cases k with
  | easelG => simp [regPut, h1]
  | lantern => simp [regPut, h2, h3]
  | dataPort => simp [regPut, h4]
  | _ => rfl

theorem regPut_header (k : PageKind) (P off : Nat) (part : Part) (v : Nat) (p : Path) (s : State) (h : off < 0x80) :
    regPut k P off part v p s = judge k P off p (partMask part) (partImage part v) s := by
  have ne : ∀ o, 0x80 ≤ o → off ≠ o := fun o ho => by omega
  exact regPut_judge k P off part v p s (fun _ => ne _ (by decide)) (fun _ => ne _ (by decide)) (fun _ => ne _ (by decide))
    (fun _ => ne _ (by decide))

theorem selIdx_header (s : State) (k : PageKind) (P off : Nat) (h : off < 0x80) : selIdx s k P off = some 0 := by
  cases k <;> grind [selIdx]

/-! The common header (R490). -/

/-- Fields of the header that nothing but their store decides. -/
theorem fldRead_header (s : State) (k : PageKind) (P : Nat) (f : Fld) (hf : f = R.CTRL_FREEZE ∨ f = R.EVT_EN) :
    fldRead s k P f = rd s P f := by
  have hoff : f.off < 0x80 := by rcases hf with rfl | rfl <;> decide
  refine fldRead_stored s k P f ?_ ?_ (selIdx_header s k P _ hoff) ?_
  · rcases hf with rfl | rfl <;> decide
  · rcases hf with rfl | rfl <;> decide
  · rw [if_pos hoff]
    intro x hx
    simp only [viewHdr, List.mem_cons, List.not_mem_nil, or_false] at hx
    rcases hf with rfl | rfl <;> rcases hx with rfl | rfl | rfl | rfl | rfl | rfl | rfl | rfl | rfl | rfl | rfl | rfl <;>
      simp only [] <;> decide

theorem liveRefused_header (k : PageKind) (P w : Nat) (f : Fld) (s : State) (hf : f = R.CTRL_FREEZE ∨ f = R.EVT_EN) :
    liveRefused k P 0 f w s = false := by
  rcases hf with rfl | rfl <;> cases k <;> rfl

theorem livePut_header (k : PageKind) (P w : Nat) (f : Fld) (p : Path) (s : State)
    (hf : f = R.CTRL_FREEZE ∨ f = R.EVT_EN) : livePut k P 0 f w p s = wrI P f 0 w s := by
  rcases hf with rfl | rfl <;> cases k <;> rfl

/-- A whole write of CTRL or EVT_EN: the field takes the bits that the page has. -/
theorem headerWrite {s : State} {P w : Nat} {k : PageKind} {v : BitVec 64} {p : Path} {f : Fld}
    (hf : f = R.CTRL_FREEZE ∨ f = R.EVT_EN) (hk : pageKind P = some k) (hw : Written s P f.off p)
    (hv : (if f.off = R.EVT_EN.off then fldBits f v.toNat % 2 ^ eventCount k else fldBits f v.toNat) = w)
    (hlt : w < 2 ^ f.w) :
    Ends (.regWrite P f.off .whole v p) s (fun t =>
      rd t P f = w ∧ t = { s with regs := t.regs, woLatch := t.woLatch } ∧ RegsKept [(P, f.off)] s t) := by
  obtain ⟨hq, hl, hp⟩ := hw
  have hoff : f.off < 0x80 := by rcases hf with rfl | rfl <;> decide
  have hfs : kindRegFields k f.off = [f] := by
    rcases hf with rfl | rfl
    · exact kindRegFields_ctrl k
    · exact kindRegFields_evtEn k
  have hacc : f.acc = .rw ∧ f.cls = .live ∧ fldReached f (partMask .whole) = true := by
    rcases hf with rfl | rfl <;> decide
  obtain ⟨ha, hc, hr⟩ := hacc
  have hwo : isWoReg P f.off = false := by rw [isWoReg_of_kind hk, hfs]; simp [ha]
  set u := unlatched P s with hu
  have hj : judged k P p (partMask .whole) (partImage .whole v.toNat) [f] u =
      (if w = rd u P f then u else wr P f w u, none) := by
    show fldWrite k P p _ _ _ (u, none) f = _
    rw [fldWrite_live_plain k P p _ _ w _ (u, none) f ha hc hr (selIdx_header u k P _ hoff)
      (by rw [fldNew_whole f _ _ v.isLt]; exact hv) (liveRefused_header k P w f u hf) (livePut_header k P w f p u hf),
      fldRead_header u k P f hf]
    split <;> rfl
  have hput := judge_taken k P f.off p _ _ u _ [f] hk (by rw [hfs]; exact byLo_singleton f) (by simp [hc]) hj
  refine ends_regWrite (t := if w = rd u P f then u else wr P f w u)
    (by rw [regWrite_judged hk hl hp hwo, regPut_header k P _ _ _ p _ hoff]; exact hput) ?_ ?_
  · split
    · rw [hu, quiet_unlatched]; exact hq
    · rw [wr, quiet_wrI, hu, quiet_unlatched]; exact hq
  · split
    · exact ⟨Eq.symm ‹_›, rfl, RegsKept.of_eq rfl⟩
    · exact ⟨by rw [rd_wr_self, Nat.mod_eq_of_lt hlt], rfl,
        (RegsKept.of_eq rfl : RegsKept _ s u).trans (wr_kept P f w u)⟩

theorem ctrlWrite (s : State) (P : Nat) (k : PageKind) (v : BitVec 64) (p : Path) (hk : pageKind P = some k)
    (hw : Written s P R.CTRL_FREEZE.off p) : Ends (.regWrite P R.CTRL_FREEZE.off .whole v p) s (fun t =>
      rd t P R.CTRL_FREEZE = v.toNat % 2 ∧ t = { s with regs := t.regs, woLatch := t.woLatch } ∧
      RegsKept [(P, R.CTRL_FREEZE.off)] s t) :=
  headerWrite (.inl rfl) hk hw (by simp [fldBits, bits, R.CTRL_FREEZE, R.EVT_EN]) (Nat.mod_lt _ (by decide))

theorem evtEnWrite (s : State) (P : Nat) (k : PageKind) (v : BitVec 64) (p : Path) (hk : pageKind P = some k)
    (hw : Written s P R.EVT_EN.off p) : Ends (.regWrite P R.EVT_EN.off .whole v p) s (fun t =>
      rd t P R.EVT_EN = v.toNat % 2 ^ eventCount k ∧ t = { s with regs := t.regs, woLatch := t.woLatch } ∧
      RegsKept [(P, R.EVT_EN.off)] s t) := by
  have hb : fldBits R.EVT_EN v.toNat = v.toNat := by
    show v.toNat / 2 ^ 0 % 2 ^ 64 = _
    rw [Nat.pow_zero, Nat.div_one, Nat.mod_eq_of_lt v.isLt]
  refine headerWrite (.inr rfl) hk hw (by rw [if_pos rfl, hb]) ?_
  exact (Nat.mod_le _ _).trans_lt v.isLt

/-- A register all of whose fields are RO and not GUARDED takes nothing. -/
theorem blkIdWrite (s : State) (P : Nat) (k : PageKind) (v : BitVec 64) (p : Path) (hk : pageKind P = some k)
    (hw : Written s P R.BLK_ID_TYPE.off p) : Ends (.regWrite P R.BLK_ID_TYPE.off .whole v p) s (fun t =>
      t = { s with woLatch := t.woLatch }) := by
  obtain ⟨hq, hl, hp⟩ := hw
  have hwo : isWoReg P R.BLK_ID_TYPE.off = false := by rw [isWoReg_of_kind hk, kindRegFields_blkId]; rfl
  have hj : judged k P p (partMask .whole) (partImage .whole v.toNat)
      [R.BLK_ID_REVISION, R.BLK_ID_INSTANCE, R.BLK_ID_TYPE] (unlatched P s) = (unlatched P s, none) := by
    simp only [judged, List.foldl_cons, List.foldl_nil]
    rw [fldWrite_plain_ro _ _ _ _ _ _ _ R.BLK_ID_REVISION rfl (by decide),
      fldWrite_plain_ro _ _ _ _ _ _ _ R.BLK_ID_INSTANCE rfl (by decide),
      fldWrite_plain_ro _ _ _ _ _ _ _ R.BLK_ID_TYPE rfl (by decide)]
  have hput := judge_taken k P R.BLK_ID_TYPE.off p _ _ _ _ _ hk (by rw [kindRegFields_blkId]; exact byLo_blkId)
    (by decide) hj
  exact ends_regWrite (t := unlatched P s)
    (by rw [regWrite_judged hk hl hp hwo, regPut_header k P _ _ _ p _ (by decide)]; exact hput)
    (by rw [quiet_unlatched]; exact hq) rfl

end Sys2Proof.Machine
end

section
/-!
SUPPORT. What a write of LL_TUNE leaves in the shadow, whole and half by half (R494, R497).
-/
namespace Sys2Proof.Machine

/-! STAGED fields (R497): LL_TUNE. -/

/-- One STAGED field of page `P` judged: its new value goes to the shadow where the write reaches it. -/
def stageFld (P mask img : Nat) (t : State) (f : Fld) : State :=
  if fldReached f mask then shadowPut (f.key P 0) (fldNew f (shadowVal t (f.key P 0)) mask img) t else t

theorem shadowVal_shadowPut_self (k : RKey) (v : Nat) (s : State) : shadowVal (shadowPut k v s) k = v :=
  tgetBy_tinsBy_self ..

theorem shadowPut_kept (k : RKey) (v : Nat) (s : State) :
    RegsKept [(k.page, R.STAT_SHADOW_DIRTY.off)] s (shadowPut k v s) :=
  wr_kept k.page R.STAT_SHADOW_DIRTY 1 { s with shadow := tinsBy RKey.code s.shadow k v }

theorem shadowVal_shadowPut_other (k x : RKey) (v : Nat) (s : State) (h : x ≠ k) (hd : x.off ≠ R.STAT_SHADOW_DIRTY.off) :
    shadowVal (shadowPut k v s) x = shadowVal s x := by
  unfold shadowVal
  rw [keyVal_kept (shadowPut_kept k v s) x (by simp [hd])]
  exact tgetBy_tinsBy_other _ _ _ _ _ _ h

theorem stageFld_kept (P mask img : Nat) (t : State) (f : Fld) :
    RegsKept [(P, R.STAT_SHADOW_DIRTY.off)] t (stageFld P mask img t f) := by
  unfold stageFld
  split
  · exact shadowPut_kept (f.key P 0) _ t
  · exact RegsKept.refl _ t

theorem stageFld_only (P mask img : Nat) (t : State) (f : Fld) : stageFld P mask img t f =
    { t with regs := (stageFld P mask img t f).regs, shadow := (stageFld P mask img t f).shadow } := by
  unfold stageFld
  split <;> rfl

/-- All STAGED fields of a register. -/
def stageAll (P mask img : Nat) (fs : List Fld) (s : State) : State := fs.foldl (stageFld P mask img) s

theorem stageAll_kept (P mask img : Nat) (fs : List Fld) (s : State) :
    RegsKept [(P, R.STAT_SHADOW_DIRTY.off)] s (stageAll P mask img fs s) := by
  induction fs generalizing s with
  | nil => exact RegsKept.refl _ s
  | cons f r ih => exact (stageFld_kept P mask img s f).trans (ih (stageFld P mask img s f))

theorem stageAll_only (P mask img : Nat) (fs : List Fld) (s : State) : stageAll P mask img fs s =
    { s with regs := (stageAll P mask img fs s).regs, shadow := (stageAll P mask img fs s).shadow } := by
  induction fs generalizing s with
  | nil => rfl
  | cons f r ih =>
    show stageAll P mask img r (stageFld P mask img s f) = { s with
      regs := (stageAll P mask img r (stageFld P mask img s f)).regs
      shadow := (stageAll P mask img r (stageFld P mask img s f)).shadow }
    have h1 := stageFld_only P mask img s f
    generalize stageFld P mask img s f = u at h1 ⊢
    calc stageAll P mask img r u = _ := ih u
      _ = _ := by rw [h1]

/-- A field that the list does not hold keeps its shadow value. -/
theorem shadowVal_stageAll_other (P mask img : Nat) (fs : List Fld) (s : State) (x : RKey)
    (h : ∀ f ∈ fs, x ≠ f.key P 0) (hd : x.off ≠ R.STAT_SHADOW_DIRTY.off) : shadowVal (stageAll P mask img fs s) x = shadowVal s x := by
  induction fs generalizing s with
  | nil => rfl
  | cons f r ih =>
    show shadowVal (stageAll P mask img r (stageFld P mask img s f)) x = _
    rw [ih _ (fun g hg => h g (List.mem_cons_of_mem _ hg))]
    unfold stageFld
    split
    · exact shadowVal_shadowPut_other _ _ _ _ (h f (List.mem_cons_self ..)) hd
    · rfl

/-- A field of the list takes what the write gives it, where no two fields share a place. -/
theorem shadowVal_stageAll (P mask img : Nat) (fs : List Fld) (s : State) (f : Fld) (hf : f ∈ fs)
    (hn : (fs.map (·.lo)).Nodup) (hd : ∀ g ∈ fs, g.off ≠ R.STAT_SHADOW_DIRTY.off) :
    shadowVal (stageAll P mask img fs s) (f.key P 0) =
      if fldReached f mask then fldNew f (shadowVal s (f.key P 0)) mask img else shadowVal s (f.key P 0) := by
  have key_ne : ∀ a b : Fld, a.lo ≠ b.lo → a.key P 0 ≠ b.key P 0 := fun a b h => key_ne_of_lo P h
  induction fs generalizing s with
  | nil => cases hf
  | cons g r ih =>
    simp only [List.map_cons, List.nodup_cons] at hn
    have hdf := hd f hf
    show shadowVal (stageAll P mask img r (stageFld P mask img s g)) _ = _
    rcases List.mem_cons.mp hf with rfl | hr
    · rw [shadowVal_stageAll_other _ _ _ _ _ _
        (fun g hg => key_ne _ _ (fun e => hn.1 (List.mem_map.mpr ⟨g, hg, e.symm⟩))) hdf]
      unfold stageFld
      split
      · exact shadowVal_shadowPut_self ..
      · rfl
    · rw [ih _ hr hn.2 (fun g hg => hd g (List.mem_cons_of_mem _ hg))]
      have hsame : shadowVal (stageFld P mask img s g) (f.key P 0) = shadowVal s (f.key P 0) := by
        unfold stageFld
        split
        · exact shadowVal_shadowPut_other _ _ _ _ (key_ne _ _ (fun e => hn.1 (List.mem_map.mpr ⟨f, hr, e⟩))) hdf
        · rfl
      rw [hsame]

theorem stageAll_dirty_or_none (P mask img : Nat) (fs : List Fld) (s : State)
    (h : (∃ f ∈ fs, fldReached f mask = true) ∨ rd s P R.STAT_SHADOW_DIRTY = 1) :
    rd (stageAll P mask img fs s) P R.STAT_SHADOW_DIRTY = 1 := by
  induction fs generalizing s with
  | nil => exact h.resolve_left (by simp)
  | cons f r ih =>
    refine ih (stageFld P mask img s f) ?_
    unfold stageFld
    split
    · exact .inr (by simp [shadowPut, R.STAT_SHADOW_DIRTY, Fld.key])
    · simpa [*] using h

theorem judged_staged (k : PageKind) (P : Nat) (p : Path) (mask img : Nat) (fs : List Fld) (s : State)
    (hf : ∀ f ∈ fs, f.acc = .rw ∧ f.cls = .staged ∧ ∀ t, selIdx t k P f.off = some 0) :
    judged k P p mask img fs s = (stageAll P mask img fs s, none) := by
  have step : ∀ (off : Bool) (t : State),
      fs.foldl (fldWrite k P p mask img off) (t, none) = (stageAll P mask img fs t, none) := by
    intro off
    induction fs with
    | nil => exact fun t => rfl
    | cons f r ih =>
      intro t
      obtain ⟨ha, hc, hi⟩ := hf f (List.mem_cons_self ..)
      show r.foldl _ (fldWrite k P p mask img off (t, none) f) = (stageAll P mask img r (stageFld P mask img t f), none)
      rw [fldWrite_staged k P p mask img off (t, none) f ha hc (hi t), ← ih (fun g hg => hf g (List.mem_cons_of_mem _ hg))]
      unfold stageFld
      split <;> rfl
  exact step _ s

theorem shadowCount_kept (P : Nat) (s : State) : RegsKept [(P, R.CLASS_STAT_SHADOW_WRITES.off)] s (shadowCount P s) :=
  wr_kept P R.CLASS_STAT_SHADOW_WRITES _ s

theorem shadowVal_shadowCount (P : Nat) (s : State) (x : RKey) (hx : x.off ≠ R.CLASS_STAT_SHADOW_WRITES.off) :
    shadowVal (shadowCount P s) x = shadowVal s x := by
  unfold shadowVal
  rw [keyVal_kept (shadowCount_kept P s) x (by simp [hx])]
  rfl

/-- A write into the shadow of LL_TUNE, with the values that it gives the fields. -/
theorem staged_stageAll (s : State) (h : Half) (mask img : Nat) (new : Fld → Nat)
    (hr : ∃ f ∈ tuneFlds, fldReached f mask = true)
    (hnew : ∀ f ∈ tuneFlds, (if fldReached f mask then fldNew f (shadowVal s (f.key (pgLight h) 0)) mask img
      else shadowVal s (f.key (pgLight h) 0)) = new f) :
    Staged h new s (shadowCount (pgLight h) (stageAll (pgLight h) mask img tuneFlds.reverse (unlatched (pgLight h) s))) := by
  have hoff : ∀ f ∈ tuneFlds, f.off = 0x98 := by decide
  have hw : R.CLASS_STAT_SHADOW_WRITES.off = 0x68 := rfl
  have hd : R.STAT_SHADOW_DIRTY.off = 0x18 := rfl
  have hkeep := stageAll_kept (pgLight h) mask img tuneFlds.reverse (unlatched (pgLight h) s)
  have honly := stageAll_only (pgLight h) mask img tuneFlds.reverse (unlatched (pgLight h) s)
  have hval := shadowVal_stageAll (pgLight h) mask img tuneFlds.reverse (unlatched (pgLight h) s)
  have hdirty := stageAll_dirty_or_none (pgLight h) mask img tuneFlds.reverse (unlatched (pgLight h) s)
  generalize stageAll (pgLight h) mask img tuneFlds.reverse (unlatched (pgLight h) s) = x at hkeep honly hval hdirty ⊢
  have hcount := shadowCount_kept (pgLight h) x
  refine ⟨fun f hf => ⟨?_, ?_⟩, ?_, ?_, ?_, ?_⟩
  · rw [shadowVal_shadowCount _ _ _ (by rw [hw]; show f.off ≠ _; rw [hoff f hf]; decide),
      hval f (List.mem_reverse.mpr hf) (by decide) (by decide)]
    exact hnew f hf
  · rw [hcount.rd _ f (by simp [hoff f hf, hw]), hkeep.rd _ f (by simp [hoff f hf, hd])]
    rfl
  · obtain ⟨f, hf, hfr⟩ := hr
    rw [hcount.rd _ _ (by simp [hd, hw])]
    exact hdirty (.inl ⟨f, List.mem_reverse.mpr hf, hfr⟩)
  · rw [shadowCount, rd_wr_self, hkeep.rd _ _ (by simp [hd, hw])]
    exact Nat.mod_eq_of_lt (by show _ < 65536; omega)
  · rw [shadowCount, honly]
    rfl
  · exact ((RegsKept.of_eq rfl : RegsKept _ s (unlatched (pgLight h) s)).trans (hkeep.mono (by simp))).trans
      (hcount.mono (by simp))

theorem regPut_tune (s : State) (h : Half) (part : Part) (v : Nat) (p : Path)
    (hr : ∃ f ∈ tuneFlds, fldReached f (partMask part) = true) : regPut .light (pgLight h) 0x98 part v p s =
      shadowCount (pgLight h) (stageAll (pgLight h) (partMask part) (partImage part v) tuneFlds.reverse s) := by
  have hall : ∀ f ∈ tuneFlds, f.acc = .rw ∧ f.cls = .staged ∧ f.off = 0x98 := by decide
  have hj := judged_staged .light (pgLight h) p (partMask part) (partImage part v) tuneFlds.reverse s (fun f hf => by
    obtain ⟨ha, hc, ho⟩ := hall f (List.mem_reverse.mp hf)
    exact ⟨ha, hc, fun t => by rw [ho]; rfl⟩)
  have hany : tuneFlds.reverse.any (fun f => f.cls == .staged && fldReached f (partMask part) &&
      (selIdx s .light (pgLight h) f.off).isSome) = true := by
    obtain ⟨f, hf, hfr⟩ := hr
    obtain ⟨-, hc, ho⟩ := hall f hf
    exact List.any_eq_true.mpr ⟨f, List.mem_reverse.mpr hf, by rw [hc, hfr, ho]; rfl⟩
  show judge .light (pgLight h) 0x98 p (partMask part) (partImage part v) s = _
  rw [judge_eq .light _ 0x98 p _ _ s tuneFlds.reverse (pageKind_pgLight h) byLo_tune, hj]
  simp only [hany, if_true]

/-- What a write into LL_TUNE leaves, by the values that it gives the fields. -/
theorem tuneWrite {s : State} {h : Half} {part : Part} {v : BitVec 64} {new : Fld → Nat}
    (hw : Written s (pgLight h) 0x98 .pcie) (hr : ∃ f ∈ tuneFlds, fldReached f (partMask part) = true)
    (hnew : ∀ f ∈ tuneFlds, (if fldReached f (partMask part) then
        fldNew f (shadowVal s (f.key (pgLight h) 0)) (partMask part) (partImage part v.toNat)
      else shadowVal s (f.key (pgLight h) 0)) = new f) :
    Ends (.regWrite (pgLight h) 0x98 part v .pcie) s (Staged h new s) := by
  obtain ⟨hq, hl, hp⟩ := hw
  have hk := pageKind_pgLight h
  have hwo : isWoReg (pgLight h) 0x98 = false := by rw [isWoReg_of_kind hk]; rfl
  refine ends_regWrite ((regWrite_judged hk hl hp hwo part _).trans (regPut_tune _ h part _ _ hr)) ?_
    (staged_stageAll s h _ _ new hr hnew)
  rw [quiet_shadowCount, stageAll_only]
  exact (quiet_congr s _ rfl rfl rfl rfl rfl rfl rfl rfl).trans hq

theorem tuneWrite_whole (s : State) (h : Half) (v : BitVec 64) (hw : Written s (pgLight h) 0x98 .pcie) :
    Ends (.regWrite (pgLight h) 0x98 .whole v .pcie) s (Staged h (fun f => fldBits f v.toNat) s) := by
  refine tuneWrite hw (by decide) (fun f hf => ?_)
  have hreach : fldReached f (partMask .whole) = true :=
    (by decide : ∀ g ∈ tuneFlds, fldReached g (partMask .whole) = true) f hf
  rw [if_pos hreach, fldNew_whole f _ _ v.isLt]

/-- The bits of a field of LL_TUNE after a write of the low half. -/
theorem fldNew_tune_low (f : Fld) (hf : f ∈ tuneFlds) (old v : Nat) :
    (if fldReached f (partMask .low) then fldNew f old (partMask .low) (partImage .low v) else old) =
      if f = R.LL_TUNE_LEAD_UP then bits old 15 8 * 256 + bits v 31 24
      else if f.lo < 32 then fldBits f v else old := by
  unfold fldNew
  rw [mergeImage_low]
  simp only [tuneFlds, List.mem_cons, List.not_mem_nil, or_false] at hf
  rcases hf with rfl | rfl | rfl | rfl | rfl | rfl | rfl <;>
    simp [fldReached, partMask, bits, fldBits, R.LL_TUNE_DRIFT_REVS, R.LL_TUNE_LEAD_N_LOG2, R.LL_TUNE_LEAD_DN,
      R.LL_TUNE_LEAD_UP, R.LL_TUNE_GP, R.LL_TUNE_GT, R.LL_TUNE_JUMP_TOL] <;> omega

/-- The bits of a field of LL_TUNE after a write of the high half. -/
theorem fldNew_tune_high (f : Fld) (hf : f ∈ tuneFlds) (old v : Nat) :
    (if fldReached f (partMask .high) then fldNew f old (partMask .high) (partImage .high v) else old) =
      if f = R.LL_TUNE_LEAD_UP then bits v 7 0 * 256 + old % 256
      else if f.lo < 32 then old else bits v (f.lo + f.w - 33) (f.lo - 32) := by
  unfold fldNew
  rw [mergeImage_high]
  simp only [tuneFlds, List.mem_cons, List.not_mem_nil, or_false] at hf
  rcases hf with rfl | rfl | rfl | rfl | rfl | rfl | rfl <;>
    simp [fldReached, partMask, bits, R.LL_TUNE_DRIFT_REVS, R.LL_TUNE_LEAD_N_LOG2, R.LL_TUNE_LEAD_DN,
      R.LL_TUNE_LEAD_UP, R.LL_TUNE_GP, R.LL_TUNE_GT, R.LL_TUNE_JUMP_TOL] <;> omega

theorem tuneWrite_low (s : State) (h : Half) (v : BitVec 64) (hw : Written s (pgLight h) 0x98 .pcie) :
    Ends (.regWrite (pgLight h) 0x98 .low v .pcie) s (Staged h (fun f =>
      let old := shadowVal s (f.key (pgLight h) 0)
      if f = R.LL_TUNE_LEAD_UP then bits old 15 8 * 256 + bits v.toNat 31 24
      else if f.lo < 32 then fldBits f v.toNat else old) s) :=
  tuneWrite hw (by decide) (fun f hf => fldNew_tune_low f hf _ _)

theorem tuneWrite_high (s : State) (h : Half) (v : BitVec 64) (hw : Written s (pgLight h) 0x98 .pcie) :
    Ends (.regWrite (pgLight h) 0x98 .high v .pcie) s (Staged h (fun f =>
      let old := shadowVal s (f.key (pgLight h) 0)
      if f = R.LL_TUNE_LEAD_UP then bits v.toNat 7 0 * 256 + old % 256
      else if f.lo < 32 then old else bits v.toNat (f.lo + f.w - 33) (f.lo - 32)) s) :=
  tuneWrite hw (by decide) (fun f hf => fldNew_tune_high f hf _ _)

end Sys2Proof.Machine
end

section
/-!
CERTIFICATE. STOPPED, GUARDED and write-only registers, paths and pages, and the judgement of register writes (R489-R502).
-/
namespace Sys2Proof.Machine

/-! STOPPED fields (R496): the pools of a fabric port. -/

/-- The pages of a half by their number in its region (R487). -/
theorem pageKind_pgH (q : Nat) (h : Half) : pageKind (pgH q h) =
    if q < 14 then
      [PageKind.mgmt, .egress, .palette, .crossing, .light, .sched, .place, .dikar, .matching, .coll, .erasure, .queues,
        .easel, .cal][q]?
    else if 16 ≤ q ∧ q < 24 then some .fiu
    else if 32 ≤ q ∧ q < 64 then some .apu
    else none := by
  have hnum : h.num < 2 := by cases h <;> decide
  have h0 : ¬ pgH q h % 4 = 0 := by unfold pgH; omega
  have h3 : ¬ pgH q h % 4 = 3 := by unfold pgH; omega
  have hd : pgH q h / 4 = q := by unfold pgH; omega
  unfold pageKind
  rw [if_neg h0, if_neg h3, hd]

theorem pageKind_pgFiu (n : Nat) : pageKind (pgFiu n) = some .fiu := by
  rw [pgFiu, pageKind_pgH, if_neg (by omega), if_pos (by omega)]

theorem poolFlds_facts : ∀ f ∈ poolFlds, f.acc = .rw ∧ f.cls = .stopped ∧ fldReached f (partMask .whole) = true ∧
    f.off = 0x90 ∧ f.w = 11 := by decide

theorem fldRead_pool (s : State) (P : Nat) (f : Fld) (hf : f ∈ poolFlds) : fldRead s .fiu P f = rd s P f := by
  obtain ⟨ha, -, -, ho, -⟩ := poolFlds_facts f hf
  refine fldRead_stored s .fiu P f (by simp [ha]) (by simp [ha]) rfl ?_
  rw [if_neg (by rw [ho]; decide)]
  intro x hx he
  have hoff : x.1.off = 0x90 := he ▸ ho
  have hx' : x ∈ viewFiu s (pageFiu P) := hx
  simp only [viewFiu, List.mem_cons, List.not_mem_nil, or_false] at hx'
  rcases hx' with rfl | rfl | rfl | rfl | rfl | rfl | rfl | rfl | rfl | rfl <;> cases hoff

/-- One pool of a disabled port judged. -/
def poolPut (P v : Nat) (t : State) (f : Fld) : State := if fldBits f v = rd t P f then t else wr P f (fldBits f v) t

/-- One pool judged: taken while the port is disabled, refused where it differs while it is enabled. -/
theorem fldWrite_pool (P n : Nat) (p : Path) (v : Nat) (hv : v < 2 ^ 64) (off : Bool) (hP : P = pgFiu n)
    (x : State × Option (Nat × FCls)) (f : Fld) (hf : f ∈ poolFlds) :
    fldWrite .fiu P p (partMask .whole) (partImage .whole v) off x f =
      if fldBits f v = rd x.1 P f then x
      else if off then (wr P f (fldBits f v) x.1, x.2) else (x.1, some (1, .stopped)) := by
  obtain ⟨ha, hc, hr, -, -⟩ := poolFlds_facts f hf
  have hG : P ≠ pgGlobal := by
    rintro rfl
    have := pageKind_pgFiu n
    rw [← hP] at this
    cases this
  rw [fldWrite_stopped .fiu P p _ _ off x f ha hc hr rfl, fldRead_pool x.1 P f hf, fldNew_whole f _ v hv]
  simp only [stoppedPut, hG, if_false, wr]

/-- All pools of a disabled port. -/
def poolsPut (P v : Nat) (fs : List Fld) (s : State) : State := fs.foldl (poolPut P v) s

theorem poolPut_kept (P v : Nat) (t : State) (f : Fld) : RegsKept [(P, f.off)] t (poolPut P v t f) := by
  unfold poolPut
  split
  · exact RegsKept.refl _ t
  · exact wr_kept P f _ t

theorem poolsPut_only (P v : Nat) (fs : List Fld) (s : State) :
    poolsPut P v fs s = { s with regs := (poolsPut P v fs s).regs } := by
  induction fs generalizing s with
  | nil => rfl
  | cons f r ih =>
    show poolsPut P v r (poolPut P v s f) = { s with regs := (poolsPut P v r (poolPut P v s f)).regs }
    have h1 : poolPut P v s f = { s with regs := (poolPut P v s f).regs } := by unfold poolPut; split <;> rfl
    generalize poolPut P v s f = u at h1 ⊢
    calc poolsPut P v r u = _ := ih u
      _ = _ := by rw [h1]

theorem poolsPut_kept (P v : Nat) (fs : List Fld) (s : State) (h : ∀ f ∈ fs, f.off = 0x90) :
    RegsKept [(P, 0x90)] s (poolsPut P v fs s) := by
  induction fs generalizing s with
  | nil => exact RegsKept.refl _ s
  | cons f r ih =>
    have h1 := poolPut_kept P v s f
    rw [h f (List.mem_cons_self ..)] at h1
    exact h1.trans (ih (poolPut P v s f) (fun g hg => h g (List.mem_cons_of_mem _ hg)))

theorem rd_poolPut_other (P v : Nat) (t : State) (f g : Fld) (h : g.lo ≠ f.lo) : rd (poolPut P v t f) P g = rd t P g := by
  unfold poolPut
  split
  · rfl
  · exact rd_wr_other _ _ _ _ _ _ (key_ne_of_lo P h)

theorem rd_poolsPut_other (P v : Nat) (fs : List Fld) (s : State) (g : Fld) (h : ∀ f ∈ fs, g.lo ≠ f.lo) :
    rd (poolsPut P v fs s) P g = rd s P g := by
  induction fs generalizing s with
  | nil => rfl
  | cons f r ih =>
    show rd (poolsPut P v r (poolPut P v s f)) P g = _
    rw [ih _ (fun k hk => h k (List.mem_cons_of_mem _ hk)), rd_poolPut_other _ _ _ _ _ (h f (List.mem_cons_self ..))]

theorem rd_poolsPut (P v : Nat) (fs : List Fld) (s : State) (f : Fld) (hf : f ∈ fs) (hw : 0 < f.w)
    (hn : (fs.map (·.lo)).Nodup) : rd (poolsPut P v fs s) P f = fldBits f v := by
  induction fs generalizing s with
  | nil => cases hf
  | cons g r ih =>
    simp only [List.map_cons, List.nodup_cons] at hn
    show rd (poolsPut P v r (poolPut P v s g)) P f = _
    by_cases hr : f ∈ r
    · exact ih _ hr hn.2
    · obtain rfl : f = g := (List.mem_cons.mp hf).resolve_right hr
      rw [rd_poolsPut_other P v r _ f (fun k hk e => hn.1 (List.mem_map.mpr ⟨k, hk, e.symm⟩))]
      unfold poolPut
      split
      · exact Eq.symm ‹_›
      · rw [rd_wr_self]
        have hle : f.lo + f.w - 1 + 1 - f.lo = f.w := by omega
        rw [fldBits, bits, hle, Nat.mod_mod]

theorem judged_pools_off (P n : Nat) (p : Path) (v : Nat) (hv : v < 2 ^ 64) (hP : P = pgFiu n) (s : State)
    (ho : blockOff s .fiu P = true) : judged .fiu P p (partMask .whole) (partImage .whole v) poolFlds s =
      (poolsPut P v poolFlds s, none) := by
  have step : ∀ (fs : List Fld), (∀ f ∈ fs, f ∈ poolFlds) → ∀ t : State,
      fs.foldl (fldWrite .fiu P p (partMask .whole) (partImage .whole v) true) (t, none) = (poolsPut P v fs t, none) := by
    intro fs
    induction fs with
    | nil => exact fun _ t => rfl
    | cons f r ih =>
      intro hf t
      rw [List.foldl_cons, fldWrite_pool P n p v hv true hP (t, none) f (hf f (List.mem_cons_self ..))]
      show r.foldl _ _ = (poolsPut P v r (poolPut P v t f), none)
      rw [← ih (fun g hg => hf g (List.mem_cons_of_mem _ hg))]
      unfold poolPut
      split <;> rfl
  unfold judged
  rw [ho]
  exact step poolFlds (fun _ h => h) s

/-- Pools of an enabled port stay as they are; some difference is one refusal. -/
theorem judged_pools_on (P n : Nat) (p : Path) (v : Nat) (hv : v < 2 ^ 64) (hP : P = pgFiu n) (s : State)
    (ho : blockOff s .fiu P = false) : judged .fiu P p (partMask .whole) (partImage .whole v) poolFlds s =
      (s, if ∃ f ∈ poolFlds, fldBits f v ≠ rd s P f then some (1, .stopped) else none) := by
  have step : ∀ (fs : List Fld), (∀ f ∈ fs, f ∈ poolFlds) → ∀ c : Option (Nat × FCls),
      fs.foldl (fldWrite .fiu P p (partMask .whole) (partImage .whole v) false) (s, c) =
        (s, if ∃ f ∈ fs, fldBits f v ≠ rd s P f then some (1, .stopped) else c) := by
    intro fs
    induction fs with
    | nil => exact fun _ c => by simp
    | cons f r ih =>
      intro hf c
      have hr := ih (fun g hg => hf g (List.mem_cons_of_mem _ hg))
      rw [List.foldl_cons, fldWrite_pool P n p v hv false hP (s, c) f (hf f (List.mem_cons_self ..))]
      by_cases h : fldBits f v = rd s P f
      · rw [if_pos h, hr]; simp [h]
      · rw [if_neg h]
        show r.foldl _ (s, some (1, FCls.stopped)) = _
        rw [hr]; simp [h]
  unfold judged
  rw [ho]
  exact step poolFlds (fun _ h => h) none

theorem isWoReg_pools (n : Nat) : isWoReg (pgFiu n) 0x90 = false := by
  rw [isWoReg_of_kind (pageKind_pgFiu n), kindRegFields_pools]; decide

theorem kindRegFields_pools_sorted : byLo (kindRegFields .fiu 0x90) = poolFlds := by
  rw [kindRegFields_pools]; exact byLo_pools

theorem poolsWrite_disabled (s : State) (n : Nat) (v : BitVec 64) (hw : Written s (pgFiu n) 0x90 .pcie)
    (he : rdB s (pgFiu n) R.FIU_LINK_CTRL_EN = false) : Ends (.regWrite (pgFiu n) 0x90 .whole v .pcie) s (fun t =>
      (∀ f ∈ poolFlds, rd t (pgFiu n) f = fldBits f v.toNat) ∧ t = { s with regs := t.regs, woLatch := t.woLatch } ∧
      RegsKept [(pgFiu n, 0x90)] s t) := by
  obtain ⟨hq, hl, hp⟩ := hw
  have hoff : blockOff (unlatched (pgFiu n) s) .fiu (pgFiu n) = true := by
    show (!rdB s (pgFiu n) R.FIU_LINK_CTRL_EN) = true
    rw [he]; rfl
  have hput := judge_taken .fiu (pgFiu n) 0x90 .pcie _ _ _ _ poolFlds (pageKind_pgFiu n) kindRegFields_pools_sorted
    (by decide) (judged_pools_off (pgFiu n) n .pcie v.toNat v.isLt rfl (unlatched (pgFiu n) s) hoff)
  refine ends_regWrite ((regWrite_judged (pageKind_pgFiu n) hl hp (isWoReg_pools n) _ _).trans hput) ?_
    ⟨fun f hf => ?_, ?_, ?_⟩
  · rw [poolsPut_only]
    exact (quiet_congr s _ rfl rfl rfl rfl rfl rfl rfl rfl).trans hq
  · obtain ⟨-, -, -, -, hw⟩ := poolFlds_facts f hf
    exact rd_poolsPut _ _ _ _ f hf (by omega) (by decide)
  · rw [poolsPut_only]; rfl
  · exact poolsPut_kept _ _ _ (unlatched (pgFiu n) s) (fun f hf => (poolFlds_facts f hf).2.2.2.1)

theorem poolsWrite_refused (s : State) (n : Nat) (v : BitVec 64) (hw : Written s (pgFiu n) 0x90 .pcie)
    (he : rdB s (pgFiu n) R.FIU_LINK_CTRL_EN = true) (hd : ∃ f ∈ poolFlds, rd s (pgFiu n) f ≠ fldBits f v.toNat) :
    Ends (.regWrite (pgFiu n) 0x90 .whole v .pcie) s (fun t =>
      t = cfgReject (pgFiu n) 0x90 1 .stopped (some .pcie) { s with woLatch := t.woLatch }) := by
  obtain ⟨hq, hl, hp⟩ := hw
  have hon : blockOff (unlatched (pgFiu n) s) .fiu (pgFiu n) = false := by
    show (!rdB s (pgFiu n) R.FIU_LINK_CTRL_EN) = false
    rw [he]; rfl
  have hj := judged_pools_on (pgFiu n) n .pcie v.toNat v.isLt rfl (unlatched (pgFiu n) s) hon
  rw [if_pos (by obtain ⟨f, hf, h⟩ := hd; exact ⟨f, hf, fun e => h e.symm⟩)] at hj
  have hput := judge_refused .fiu (pgFiu n) 0x90 .pcie _ _ _ _ _ _ poolFlds (pageKind_pgFiu n) kindRegFields_pools_sorted
    (by decide) hj
  refine ends_regWrite ((regWrite_judged (pageKind_pgFiu n) hl hp (isWoReg_pools n) _ _).trans hput) ?_ ?_
  · rw [quiet_cfgReject, quiet_unlatched]; exact hq
  · rw [cfgReject_woLatch]; rfl

theorem poolsWrite_same (s : State) (n : Nat) (v : BitVec 64) (hw : Written s (pgFiu n) 0x90 .pcie)
    (hd : ∀ f ∈ poolFlds, rd s (pgFiu n) f = fldBits f v.toNat) :
    Ends (.regWrite (pgFiu n) 0x90 .whole v .pcie) s (fun t => t = { s with woLatch := t.woLatch }) := by
  obtain ⟨hq, hl, hp⟩ := hw
  have hj : judged .fiu (pgFiu n) .pcie (partMask .whole) (partImage .whole v.toNat) poolFlds (unlatched (pgFiu n) s) =
      (unlatched (pgFiu n) s, none) := by
    refine List.foldlRecOn (motive := fun x => x = (unlatched (pgFiu n) s, none)) poolFlds _ rfl ?_
    rintro _ rfl f hf
    rw [fldWrite_pool (pgFiu n) n .pcie v.toNat v.isLt _ rfl _ f hf]
    exact if_pos (hd f hf).symm
  have hput := judge_taken .fiu (pgFiu n) 0x90 .pcie _ _ _ _ poolFlds (pageKind_pgFiu n) kindRegFields_pools_sorted
    (by decide) hj
  exact ends_regWrite ((regWrite_judged (pageKind_pgFiu n) hl hp (isWoReg_pools n) _ _).trans hput)
    (by rw [quiet_unlatched]; exact hq) rfl

/-! GUARDED fields (R500, R538). -/

theorem judged_wren (s : State) (p : Path) (v : Nat) (hv : v < 2 ^ 64) :
    judged .protect pgProtect p (partMask .whole) (partImage .whole v) [R.PR_ATN_WREN_MASK] s =
      (s, if v ≠ rd s pgProtect R.PR_ATN_WREN_MASK then some (2, .guarded) else none) := by
  have hb : fldBits R.PR_ATN_WREN_MASK v = v := by
    show v / 2 ^ 0 % 2 ^ 64 = _
    rw [Nat.pow_zero, Nat.div_one, Nat.mod_eq_of_lt hv]
  have hrd : fldRead s .protect pgProtect R.PR_ATN_WREN_MASK = rd s pgProtect R.PR_ATN_WREN_MASK :=
    fldRead_stored s .protect pgProtect _ (by decide) (by decide) rfl (fun x hx => by cases hx)
  unfold judged
  rw [List.foldl_cons, List.foldl_nil, fldWrite_guarded .protect pgProtect p _ _ _ (s, none) _ rfl rfl (by decide) rfl,
    fldNew_whole _ _ v hv, hb, hrd]
  split <;> rfl

theorem regWrite_wren {s : State} (hw : Written s pgProtect R.PR_ATN_WREN_MASK.off .pcie) (v : Nat) :
    regWrite pgProtect R.PR_ATN_WREN_MASK.off .whole v .pcie s = judge .protect pgProtect R.PR_ATN_WREN_MASK.off .pcie
      (partMask .whole) (partImage .whole v) (unlatched pgProtect s) := by
  obtain ⟨-, hl, hp⟩ := hw
  exact regWrite_judged (k := .protect) rfl hl hp (by rw [isWoReg_of_kind (k := .protect) rfl]; rfl) _ _

theorem wrenWrite_refused (s : State) (v : BitVec 64) (hw : Written s pgProtect R.PR_ATN_WREN_MASK.off .pcie)
    (hd : v.toNat ≠ rd s pgProtect R.PR_ATN_WREN_MASK) :
    Ends (.regWrite pgProtect R.PR_ATN_WREN_MASK.off .whole v .pcie) s (fun t =>
      t = cfgReject pgProtect R.PR_ATN_WREN_MASK.off 2 .guarded (some .pcie) { s with woLatch := t.woLatch }) := by
  have hj := judged_wren (unlatched pgProtect s) .pcie v.toNat v.isLt
  rw [if_pos (show v.toNat ≠ rd (unlatched pgProtect s) pgProtect R.PR_ATN_WREN_MASK from hd)] at hj
  refine ends_regWrite ((regWrite_wren hw v.toNat).trans (judge_refused .protect pgProtect _ .pcie _ _ _ _ _ _ _ rfl
    (by rw [kindRegFields_wren]; exact byLo_singleton _) (by decide) hj)) ?_ ?_
  · rw [quiet_cfgReject, quiet_unlatched]; exact hw.1
  · rw [cfgReject_woLatch]; rfl

theorem wrenWrite_same (s : State) (v : BitVec 64) (hw : Written s pgProtect R.PR_ATN_WREN_MASK.off .pcie)
    (hd : v.toNat = rd s pgProtect R.PR_ATN_WREN_MASK) :
    Ends (.regWrite pgProtect R.PR_ATN_WREN_MASK.off .whole v .pcie) s (fun t => t = { s with woLatch := t.woLatch }) := by
  have hj := judged_wren (unlatched pgProtect s) .pcie v.toNat v.isLt
  rw [if_neg (show ¬ v.toNat ≠ rd (unlatched pgProtect s) pgProtect R.PR_ATN_WREN_MASK from not_not.mpr hd)] at hj
  exact ends_regWrite ((regWrite_wren hw v.toNat).trans (judge_taken .protect pgProtect _ .pcie _ _ _ _ _ rfl
    (by rw [kindRegFields_wren]; exact byLo_singleton _) (by decide) hj)) (by rw [quiet_unlatched]; exact hw.1) rfl

/-! Write-only registers and their latched halves (R494). -/

theorem ne_pgMsix_of_kind {P : Nat} {k : PageKind} (hk : pageKind P = some k) : P ≠ pgMsix := by
  rintro rfl
  cases hk

theorem woWrite_high (s : State) (P off : Nat) (k : PageKind) (v : BitVec 64) (p : Path) (hk : pageKind P = some k)
    (hwo : isWoReg P off = true) (hw : Written s P off p) : Ends (.regWrite P off .high v p) s (fun t =>
      t = { s with woLatch := t.woLatch } ∧ t.woLatch.filter (fun e => e.1 == P) = [(P, off, v.toNat % 2 ^ 32)]) := by
  obtain ⟨hq, hl, hp⟩ := hw
  have hr : regWrite P off .high v.toNat p s =
      { unlatched P s with woLatch := (unlatched P s).woLatch ++ [(P, off, v.toNat % 2 ^ 32)] } := by
    simp only [regWrite, hp, ne_pgMsix_of_kind hk, hk, hwo, Bool.not_true, Bool.false_eq_true, if_false, if_true,
      onPage_live P off _ s hl, unlatched]
  refine ends_regWrite hr ((quiet_congr s _ rfl rfl rfl rfl rfl rfl rfl rfl).trans hq) ⟨rfl, ?_⟩
  have hnone : (unlatched P s).woLatch.filter (fun e => e.1 == P) = [] :=
    List.filter_eq_nil_iff.mpr (fun e he => by simpa [unlatched] using (List.mem_filter.mp he).2)
  show List.filter _ (_ ++ _) = _
  rw [List.filter_append, hnone]
  simp

/-- The low half acts as the whole of the register with the latched high half. -/
theorem woWrite_low (s : State) (P off hi : Nat) (k : PageKind) (v : BitVec 64) (p : Path) (hk : pageKind P = some k)
    (hwo : isWoReg P off = true) (hhi : hi < 2 ^ 32)
    (hlatch : ((s.woLatch.find? (fun e => e.1 == P && e.2.1 == off)).map (·.2.2)).getD 0 = hi) :
    exec (.regWrite P off .low v p) s =
      exec (.regWrite P off .whole (BitVec.ofNat 64 (v.toNat % 2 ^ 32 + hi * 2 ^ 32)) p) s := by
  have hlo : v.toNat % 2 ^ 32 < 2 ^ 32 := Nat.mod_lt _ (by decide)
  have hto : (BitVec.ofNat 64 (v.toNat % 2 ^ 32 + hi * 2 ^ 32)).toNat = v.toNat % 2 ^ 32 + hi * 2 ^ 32 := by
    rw [BitVec.toNat_ofNat]
    exact Nat.mod_eq_of_lt (by omega)
  show done (settle (regWrite P off .low v.toNat p s)) = done (settle (regWrite P off .whole _ p s))
  rw [hto]
  simp only [regWrite, ne_pgMsix_of_kind hk, hk, hwo, if_true, if_false, hlatch]

/-! Paths and pages (R489, R502). -/

theorem pathClosed (s : State) (P off : Nat) (part : Part) (v : BitVec 64) (p : Path) (hq : quiet s = true)
    (hp : pathMayWrite s P off p = false) : exec (.regWrite P off part v p) s = .next s := by
  show done (settle (regWrite P off part v.toNat p s)) = _
  have : regWrite P off part v.toNat p s = s := by simp [regWrite, hp]
  rw [this, settle_quiet s hq]
  rfl

theorem deadPageWrite (s : State) (P off : Nat) (part : Part) (v : BitVec 64) (p : Path) (hq : quiet s = true)
    (hp : pathMayWrite s P off p = true) (hk : (pageKind P).isSome = true) (hd : pageLive s P = false) :
    Ends (.regWrite P off part v p) s (fun t => t = barErr 4 (barOff P off) s) := by
  obtain ⟨k, hk⟩ := Option.isSome_iff_exists.mp hk
  have hdead : ∀ f : State → State, onPage P off f s = barErr 4 (barOff P off) s := fun f => onPage_dead P off f s hd
  have hr : regWrite P off part v.toNat p s = barErr 4 (barOff P off) s := by
    unfold regWrite
    simp only [hp, ne_pgMsix_of_kind hk, hk, Bool.not_true, Bool.false_eq_true, if_false]
    split
    · cases part <;> exact hdead _
    · exact hdead _
  exact ends_regWrite hr (by rw [quiet_barErr]; exact hq) rfl

/-! The MSI-X table (R465, R488). -/

/-- The state with the address of MSI-X entry `n` set. -/
def msixAddr (n v : Nat) (s : State) : State := lanMod (fun l => { l with msixTable := tput 0 l.msixTable (2 * n) v }) s

theorem msixAddr_read_self (n v : Nat) (s : State) (hn : n < 64) : msixRead (msixAddr n v s) (16 * n) = v := by
  have h1 : 16 * n < 0x400 := by omega
  have h2 : 16 * n / 16 = n := by omega
  have h3 : 16 * n % 16 = 0 := by omega
  simp [msixRead, h1, h2, h3, msixAddr, lanMod]

theorem msixAddr_read_other (n v off : Nat) (s : State) (ho : off ≠ 16 * n) (h64 : off / 16 < 64) :
    msixRead (msixAddr n v s) off = msixRead s off := by
  have h1 : off < 0x400 := by omega
  unfold msixRead
  simp only [h1, if_true]
  split
  · exact tget_tput_other 0 _ _ _ _ (by omega)
  · have := tget_tput_other 0 s.lan.msixTable (2 * n) (2 * (off / 16) + 1) v (by omega)
    simp [msixAddr, lanMod, this]

theorem msixWrite_addr (s : State) (n : Nat) (v : BitVec 64) (hq : quiet s = true) (hn : n < 64) :
    Ends (.regWrite pgMsix (16 * n) .whole v .pcie) s (fun t => msixRead t (16 * n) = v.toNat ∧
      (∀ off, off ≠ 16 * n → off / 16 < 64 → off % 8 = 0 → msixRead t off = msixRead s off) ∧
      t = { s with lan := { s.lan with msixTable := t.lan.msixTable } }) := by
  have h1 : ¬ 0x400 ≤ 16 * n := by omega
  have h2 : 16 * n / 16 = n := by omega
  have h3 : 16 * n % 16 = 0 := by omega
  have hp : pathMayWrite s pgMsix (16 * n) .pcie = true := rfl
  have hr : regWrite pgMsix (16 * n) .whole v.toNat .pcie s = msixAddr n v.toNat s := by
    simp only [regWrite, hp, Bool.not_true, Bool.false_eq_true, if_false, if_true, msixWrite, h1, h2, h3,
      mergeImage_whole _ v.toNat v.isLt, msixAddr]
  exact ends_regWrite hr hq ⟨msixAddr_read_self n _ s hn, fun off ho h64 _ => msixAddr_read_other n _ off s ho h64, rfl⟩

/-- Settles O46, register by register: each write is judged by the class of the fields that it reaches. -/
theorem registerWritesAreJudgedFieldByField : Obligations.RegisterWritesAreJudgedFieldByField := by
  unfold Obligations.RegisterWritesAreJudgedFieldByField
  refine ⟨fun s P k v p hk => ?_, fun s h v hw => ?_, fun s n v hw => ?_, fun s v hw => ?_,
    fun s P off hi k v p hk hwo => ?_, fun s P off part v p hq => ?_, fun s n v hq hn => ?_⟩
  · exact ⟨ctrlWrite s P k v p hk, evtEnWrite s P k v p hk, blkIdWrite s P k v p hk⟩
  · exact ⟨tuneWrite_whole s h v hw, tuneWrite_low s h v hw, tuneWrite_high s h v hw⟩
  · exact ⟨poolsWrite_disabled s n v hw, poolsWrite_refused s n v hw, poolsWrite_same s n v hw⟩
  · exact ⟨wrenWrite_refused s v hw, wrenWrite_same s v hw⟩
  · exact ⟨woWrite_high s P off k v p hk hwo, fun _ hhi hlatch => woWrite_low s P off hi k v p hk hwo hhi hlatch⟩
  · exact ⟨pathClosed s P off part v p hq, deadPageWrite s P off part v p hq⟩
  · exact msixWrite_addr s n v hq hn

end Sys2Proof.Machine
end

section
/-!
SUPPORT. What the fall of a link leaves alone: the other links' states and causes, Easel and the TAP.
-/
namespace Sys2Proof.Machine

/-! What of the state tells how the links stand (R58, R97), with Easel and the TAP. -/

/-- A page of a fabric or an Atnen port. -/
def isPort (P : Nat) : Bool := pageKind P == some .fiu || pageKind P == some .apu

/-- Where a port page shows its link's state and cause. -/
def isLinkPlace (off lo : Nat) : Bool :=
  [R.FIU_LINK_STAT_STATE, R.FIU_LINK_STAT_CAUSE, R.APU_STAT_STATE, R.APU_STAT_CAUSE].any
    (fun f => f.off == off && f.lo == lo)

def isLinkKey (k : RKey) : Bool := isPort k.page && isLinkPlace k.off k.lo

/-- Easel, the TAP, and every port's link state and cause. -/
def linkView (s : State) : List Host.Cell × Tap × (RKey → Nat → Nat) :=
  (s.easel, s.tap, fun k d => if isLinkKey k then tgetBy d s.regs k else 0)

theorem linkView_easel {s t : State} (h : linkView t = linkView s) : t.easel = s.easel := congrArg (·.1) h

theorem linkView_tap {s t : State} (h : linkView t = linkView s) : t.tap = s.tap := congrArg (·.2.1) h

theorem linkView_rd {s t : State} (h : linkView t = linkView s) (P : Nat) (f : Fld) (hk : isLinkKey (f.key P 0) = true) :
    rd t P f = rd s P f := by
  have h1 := congrFun (congrFun (congrArg (·.2.2) h) (f.key P 0)) f.rst
  simp only [linkView, hk, if_true] at h1
  exact h1

/-! Writes of registers. -/

theorem linkView_wrI {P i v : Nat} {f : Fld} {s : State} (h : isLinkKey (f.key P i) = false) :
    linkView (wrI P f i v s) = linkView s := by
  unfold linkView
  simp only [wrI_easel, wrI_tap, Prod.mk.injEq, true_and]
  funext k d
  by_cases hk : isLinkKey k = true
  · rw [if_pos hk, if_pos hk]
    exact tgetBy_tputBy_other _ _ _ _ _ _ _ (fun e => by rw [e, h] at hk; cases hk)
  · rw [if_neg hk, if_neg hk]

/-- What a reader with a default of its own finds at a place that has been written. -/
theorem tgetBy_tputBy_self_default {κ α : Type} [DecidableEq κ] [DecidableEq α] (code : κ → Nat) (d e : α)
    (t : List (κ × α)) (k : κ) (v : α) : tgetBy e (tputBy code d t k v) k = if v = d then e else v := by
  unfold tputBy
  split
  · exact tgetBy_filter_self ..
  · exact tgetBy_tinsBy_self ..

/-- A write to two states of one view leaves one view. -/
theorem linkView_wrI_congr {s t : State} (h : linkView t = linkView s) (P i v : Nat) (f : Fld) :
    linkView (wrI P f i v t) = linkView (wrI P f i v s) := by
  have he := linkView_easel h
  have ht := linkView_tap h
  unfold linkView
  simp only [wrI_easel, wrI_tap, he, ht, Prod.mk.injEq, true_and]
  funext k d
  by_cases hk : isLinkKey k = true
  · rw [if_pos hk, if_pos hk]
    by_cases hkk : k = f.key P i
    · subst hkk
      exact (tgetBy_tputBy_self_default ..).trans (tgetBy_tputBy_self_default ..).symm
    · rw [wrI, wrI, tgetBy_tputBy_other _ _ _ _ _ _ _ hkk, tgetBy_tputBy_other _ _ _ _ _ _ _ hkk]
      have h1 := congrFun (congrFun (congrArg (·.2.2) h) k) d
      simpa only [linkView, hk, if_true] using h1
  · rw [if_neg hk, if_neg hk]

theorem isLinkKey_of_page {P : Nat} (hP : isPort P = false) (f : Fld) (i : Nat) : isLinkKey (f.key P i) = false := by
  simp [isLinkKey, Fld.key, hP]

theorem isLinkKey_of_fld {f : Fld} (hf : isLinkPlace f.off f.lo = false) (P i : Nat) : isLinkKey (f.key P i) = false := by
  simp [isLinkKey, Fld.key, hf]

@[simp] theorem linkView_wrI_page {P : Nat} (hP : isPort P = false) (f : Fld) (i v : Nat) (s : State) :
    linkView (wrI P f i v s) = linkView s := linkView_wrI (isLinkKey_of_page hP f i)

@[simp] theorem linkView_wr_page {P : Nat} (hP : isPort P = false) (f : Fld) (v : Nat) (s : State) :
    linkView (wr P f v s) = linkView s := linkView_wrI (isLinkKey_of_page hP f 0)

theorem linkView_wr_fld {f : Fld} (hf : isLinkPlace f.off f.lo = false) (P v : Nat) (s : State) :
    linkView (wr P f v s) = linkView s := linkView_wrI (isLinkKey_of_fld hf P 0)

theorem linkView_bumpBy_fld {f : Fld} (hf : isLinkPlace f.off f.lo = false) (P k : Nat) (s : State) :
    linkView (bumpBy P f k s) = linkView s := by
  unfold bumpBy
  split
  · rfl
  · exact linkView_wr_fld hf P _ s

@[simp] theorem linkView_bumpBy_page {P : Nat} (hP : isPort P = false) (f : Fld) (k : Nat) (s : State) :
    linkView (bumpBy P f k s) = linkView s := by
  unfold bumpBy
  split
  · rfl
  · exact linkView_wr_page hP f _ s

@[simp] theorem linkView_bump_page {P : Nat} (hP : isPort P = false) (f : Fld) (s : State) :
    linkView (bump P f s) = linkView s := linkView_bumpBy_page hP f 1 s

@[simp] theorem linkView_strike (src : Nat) (h : Half) (s : State) : linkView (strike src h s) = linkView s := rfl

@[simp] theorem linkView_raiseTo (src P b : Nat) (s : State) : linkView (raiseTo src P b s) = linkView s := by
  have hw : isLinkPlace R.EVT_RAW.off R.EVT_RAW.lo = false := by decide
  have hp : isLinkPlace R.EVT_PEND.off R.EVT_PEND.lo = false := by decide
  unfold raiseTo
  dsimp only
  split
  · rw [linkView_strike, linkView_wr_fld hp, linkView_wr_fld hw]
  · rw [linkView_wr_fld hw]

@[simp] theorem linkView_raise (P b : Nat) (s : State) : linkView (raise P b s) = linkView s := linkView_raiseTo _ P b s

@[simp] theorem linkView_raiseIf (c : Bool) (P b : Nat) (s : State) : linkView (raiseIf c P b s) = linkView s := by
  cases c
  · rfl
  · exact linkView_raise P b s

/-! Pages that are no port's. -/

@[simp] theorem isPort_pgHost : isPort pgHost = false := by decide
@[simp] theorem isPort_pgLantern : isPort pgLantern = false := by decide
@[simp] theorem isPort_pgContexts : isPort pgContexts = false := by decide
@[simp] theorem isPort_pgEgress (h : Half) : isPort (pgEgress h) = false := by cases h <;> rfl
@[simp] theorem isPort_pgPalette (h : Half) : isPort (pgPalette h) = false := by cases h <;> rfl
@[simp] theorem isPort_pgCrossing (h : Half) : isPort (pgCrossing h) = false := by cases h <;> rfl
@[simp] theorem isPort_pgLight (h : Half) : isPort (pgLight h) = false := by cases h <;> rfl
@[simp] theorem isPort_pgL (l : Nat) : isPort (pgL l) = false := isPort_pgLight (lHalf l)
@[simp] theorem isPort_pgSched (h : Half) : isPort (pgSched h) = false := by cases h <;> rfl

/-! Updates of the units' own records. -/

@[simp] theorem linkView_emit (o : Out) (s : State) : linkView (emit o s) = linkView s := rfl
@[simp] theorem linkView_post (m : Mail) (s : State) : linkView (post m s) = linkView s := rfl
@[simp] theorem linkView_fiuMod (n : Nat) (f : FiuPort → FiuPort) (s : State) : linkView (fiuMod n f s) = linkView s := rfl
@[simp] theorem linkView_egrMod (h : Half) (f : Egress → Egress) (s : State) : linkView (egrMod h f s) = linkView s := rfl
@[simp] theorem linkView_apuMod (n : Nat) (f : ApuPort → ApuPort) (s : State) : linkView (apuMod n f s) = linkView s := rfl
@[simp] theorem linkView_crossMod (h : Half) (f : Cross → Cross) (s : State) : linkView (crossMod h f s) = linkView s := rfl
@[simp] theorem linkView_lgtMod (l : Nat) (f : Light → Light) (s : State) : linkView (lgtMod l f s) = linkView s := rfl
@[simp] theorem linkView_schMod (h : Half) (f : Sched → Sched) (s : State) : linkView (schMod h f s) = linkView s := rfl
@[simp] theorem linkView_lanMod (f : Lantern → Lantern) (s : State) : linkView (lanMod f s) = linkView s := rfl
@[simp] theorem linkView_fifoMod (r q : Nat) (f : Fifo → Fifo) (s : State) : linkView (fifoMod r q f s) = linkView s := rfl

/-- A run of steps each of which keeps the view. -/
theorem linkView_foldl {α : Type} (f : State → α → State) (h : ∀ t a, linkView (f t a) = linkView t) (l : List α)
    (s : State) : linkView (l.foldl f s) = linkView s := by
  induction l generalizing s with
  | nil => rfl
  | cons a r ih => exact (ih (f s a)).trans (h s a)

/-! The egress choice and the packets that a half builds (R74, R79-R82). -/

@[simp] theorem linkView_txEnqueue (n : Nat) (q : QPkt) (s : State) : linkView (txEnqueue n q s) = linkView s := rfl

@[simp] theorem linkView_egrWait (q : QPkt) (e : Bool) (s : State) : linkView (egrWait q e s) = linkView s := by
  simp [egrWait]

@[simp] theorem linkView_egrPut (q : QPkt) (s : State) : linkView (egrPut q s) = linkView s := by
  unfold egrPut
  dsimp only
  split
  · simp
  · split
    · split <;> simp
    · split <;> simp

@[simp] theorem linkView_egrDrain (h : Half) (s : State) : linkView (egrDrain h s) = linkView s :=
  linkView_foldl _ (fun t q => linkView_egrPut q t) _ _

@[simp] theorem linkView_egrAfterHalf (h : Half) (old : List Nat) (s : State) :
    linkView (egrAfterHalf h old s) = linkView s := by
  unfold egrAfterHalf
  dsimp only
  split
  · rfl
  · simp

theorem linkView_withEgress (f : State → State) (s : State) : linkView (withEgress f s) = linkView (f s) := by
  simp [withEgress]

@[simp] theorem linkView_resend (qs : List QPkt) (s : State) : linkView (resend qs s) = linkView s :=
  linkView_foldl _ (fun t h => by simp) _ _

@[simp] theorem linkView_sendPkt (h : Half) (p : Packet) (s : State) : linkView (sendPkt h p s) = linkView s :=
  linkView_egrPut _ _

/-! FIFOs (R62, R99). -/

@[simp] theorem linkView_fifoFlush (r q : Nat) (s : State) : linkView (fifoFlush r q s) = linkView s := rfl
@[simp] theorem linkView_fifoDropOpen (r q : Nat) (s : State) : linkView (fifoDropOpen r q s) = linkView s := rfl

@[simp] theorem linkView_fiuFifos (n : Nat) (s : State) : linkView (fiuFifos n s) = linkView s :=
  linkView_foldl _ (fun t v => by simp) _ _

@[simp] theorem linkView_apuFifos (n : Nat) (s : State) : linkView (apuFifos n s) = linkView s :=
  linkView_foldl _ (fun t q => linkView_fifoFlush _ q t) _ _

/-! A fabric link falls (R58, R62). -/

/-- Entry to DOWN changes the port's own state and cause alone. -/
theorem linkView_fiuDown (n c : Nat) (s : State) : linkView (fiuDown n c s) =
    linkView (wr (pgFiu n) R.FIU_LINK_STAT_STATE fsDOWN (wr (pgFiu n) R.FIU_LINK_STAT_CAUSE c s)) := by
  have hm : isLinkPlace R.FIU_CNT_MALFORMED.off R.FIU_CNT_MALFORMED.lo = false := by decide
  unfold fiuDown fiuSalvage fiuSetState
  dsimp only
  rw [linkView_resend, linkView_withEgress]
  refine linkView_wrI_congr ?_ _ _ _ _
  rw [linkView_raise]
  refine linkView_wrI_congr ?_ _ _ _ _
  rw [linkView_fiuFifos, linkView_fiuMod, linkView_bumpBy_fld hm]

/-! The Crossing Unit's accesses (R161-R187). -/

@[simp] theorem linkView_slotsBack (sl : Nat × Nat × Nat) (s : State) : linkView (slotsBack sl s) = linkView s := by
  unfold slotsBack
  split <;> rfl

@[simp] theorem linkView_ctxFail (c : Nat) (s : State) : linkView (ctxFail c s) = linkView s := by
  unfold ctxFail
  split <;> simp

@[simp] theorem linkView_pwLogPut (h : Half) (mk : Nat → List Nat) (s : State) :
    linkView (pwLogPut h mk s) = linkView s := by
  unfold pwLogPut
  dsimp only
  split <;> simp

@[simp] theorem linkView_farLogPut (h : Half) (mk : Nat → List Nat) (s : State) :
    linkView (farLogPut h mk s) = linkView s := by
  unfold farLogPut
  dsimp only
  split <;> simp

@[simp] theorem linkView_setHalt (h : Half) (w : Nat) (s : State) : linkView (setHalt h w s) = linkView s := by
  simp [setHalt]

@[simp] theorem linkView_pwFail (h : Half) (p : Packet) (w : Option Win) (kind code addr : Nat) (pal : Bool) (s : State) :
    linkView (pwFail h p w kind code addr pal s) = linkView s := by
  unfold pwFail
  cases w with
  | none => simp
  | some x => dsimp only; split <;> simp

@[simp] theorem linkView_accMod (h : Half) (id : Nat) (f : Access → Access) (s : State) :
    linkView (accMod h id f s) = linkView s := rfl

@[simp] theorem linkView_accDrop (h : Half) (id : Nat) (s : State) : linkView (accDrop h id s) = linkView s := rfl

@[simp] theorem linkView_accAnswer (h : Half) (p : Packet) (st : Nat) (d : List Byte) (s : State) :
    linkView (accAnswer h p st d s) = linkView s := linkView_sendPkt ..

@[simp] theorem linkView_allOnes (h : Half) (a : Access) (s : State) : linkView (allOnes h a s) = linkView s :=
  linkView_accAnswer ..

@[simp] theorem linkView_postedFail (h : Half) (a : Access) (code addr : Nat) (s : State) :
    linkView (postedFail h a code addr s) = linkView s := by
  unfold postedFail
  dsimp only
  split
  · rfl
  · split <;> simp

@[simp] theorem linkView_readTry (h : Half) (id : Nat) (s : State) : linkView (readTry h id s) = linkView s := by
  unfold readTry
  split
  · rfl
  · split
    · dsimp only
      split <;> simp
    · rfl

@[simp] theorem linkView_readFail (h : Half) (a : Access) (code : Nat) (s : State) :
    linkView (readFail h a code s) = linkView s := by
  unfold readFail
  dsimp only
  split <;> simp

@[simp] theorem linkView_amoFail (h : Half) (a : Access) (code : Nat) (b : Bool) (s : State) :
    linkView (amoFail h a code b s) = linkView s := by
  unfold amoFail
  cases b <;> simp

@[simp] theorem linkView_accDead (h : Half) (code : Nat) (s : State) (a : Access) :
    linkView (accDead h code s a) = linkView s := by
  unfold accDead
  dsimp only
  split
  · split <;> simp
  · split
    · simp
    · split <;> simp

@[simp] theorem linkView_accJoin (h : Half) (a : Access) (s : State) : linkView (accJoin h a s) = linkView s := by
  unfold accJoin
  dsimp only
  split
  · simp
  · split <;> simp

@[simp] theorem linkView_sweepEmpty (h : Half) (k : Nat) (s : State) : linkView (sweepEmpty h k s) = linkView s := by
  induction k generalizing s with
  | zero => rfl
  | succ k ih =>
    unfold sweepEmpty
    dsimp only
    split
    · rfl
    · rw [ih]
      split <;> simp

@[simp] theorem linkView_accAdmit (h : Half) (k : Nat) (s : State) : linkView (accAdmit h k s) = linkView s := by
  induction k generalizing s with
  | zero => rfl
  | succ k ih =>
    unfold accAdmit
    dsimp only
    split
    · rfl
    · rw [ih, linkView_accJoin]
      split <;> simp

@[simp] theorem linkView_crossSettle (h : Half) (s : State) : linkView (crossSettle h s) = linkView s := by
  simp [crossSettle]

@[simp] theorem linkView_accLeft (h : Half) (s : State) (a : Access) : linkView (accLeft h s a) = linkView s := by
  unfold accLeft
  split_ifs <;> simp

@[simp] theorem linkView_crossLeft (n : Nat) (s : State) : linkView (crossLeft n s) = linkView s := by
  unfold crossLeft
  dsimp only
  rw [linkView_crossSettle]
  exact linkView_foldl _ (linkView_accLeft _) _ _

@[simp] theorem linkView_partReadFail (h : Half) (id i code : Nat) (s : State) :
    linkView (partReadFail h id i code s) = linkView s := by
  unfold partReadFail
  split
  · rfl
  · split_ifs <;> simp

/-! Scheduled events and lights (R207, R221). -/

@[simp] theorem linkView_dropEvTxns (h : Half) (e : Event) (s : State) : linkView (dropEvTxns h e s) = linkView s := by
  unfold dropEvTxns
  split <;> rfl

@[simp] theorem linkView_evEnd (h : Half) (e : Event) (o : EvOut) (s : State) : linkView (evEnd h e o s) = linkView s := by
  simp [evEnd]

@[simp] theorem linkView_handOne (h : Half) (c : Nat) (s : State) (e : Event) : linkView (handOne h c s e) = linkView s := by
  simp [handOne]

@[simp] theorem linkView_handBackEvents (l c : Nat) (sel : Event → Bool) (s : State) :
    linkView (handBackEvents l c sel s) = linkView s := linkView_foldl _ (linkView_handOne _ _) _ _

@[simp] theorem linkView_lPut (l : Nat) (f : Fld) (v : Nat) (s : State) : linkView (lPut l f v s) = linkView s := by
  simp [lPut]

@[simp] theorem linkView_setHealth (l v : Nat) (s : State) : linkView (setHealth l v s) = linkView s := by
  simp [setHealth]

@[simp] theorem linkView_enterFault (l : Nat) (s : State) : linkView (enterFault l s) = linkView s := by
  unfold enterFault
  split <;> simp

@[simp] theorem linkView_unreach (s : State) (l : Nat) : linkView (unreach s l) = linkView s := by
  simp [unreach]

@[simp] theorem linkView_schPortDown (n : Nat) (s : State) : linkView (schPortDown n s) = linkView s := by
  unfold schPortDown
  dsimp only
  rw [linkView_schMod, linkView_foldl _ (fun t c => linkView_post _ t), linkView_schMod]
  exact linkView_foldl _ (fun t l => linkView_handBackEvents l 1 _ t) _ _

@[simp] theorem linkView_evBufFail (h : Half) (v : Nat) (s : State) : linkView (evBufFail h v s) = linkView s := by
  unfold evBufFail
  split <;> simp

/-! An Atnen link falls (R97, R99). -/

@[simp] theorem linkView_stnBad (n stn : Nat) (s : State) : linkView (stnBad n stn s) = linkView s := rfl

@[simp] theorem linkView_readFailed (n : Nat) (r : RdOut) (code : Nat) (s : State) :
    linkView (readFailed n r code s) = linkView s := by
  unfold readFailed
  split <;> simp

@[simp] theorem linkView_lockEnd (n : Nat) (s : State) : linkView (lockEnd n s) = linkView s := by
  unfold lockEnd
  split
  · rfl
  · dsimp only
    split
    · split <;> simp
    · simp

@[simp] theorem linkView_portCleanup (n : Nat) (s : State) : linkView (portCleanup n s) = linkView s := by
  have h1 : isLinkPlace R.APU_STAT_STN_OFF.off R.APU_STAT_STN_OFF.lo = false := by decide
  have h2 : isLinkPlace R.APU_STAT_RX_HOP_OFF.off R.APU_STAT_RX_HOP_OFF.lo = false := by decide
  have h3 : isLinkPlace R.APU_STAT_TX_HOP_OFF.off R.APU_STAT_TX_HOP_OFF.lo = false := by decide
  unfold portCleanup
  dsimp only
  rw [linkView_post, linkView_wr_fld h1, linkView_wr_fld h2, linkView_wr_fld h3, linkView_foldl _ linkView_unreach,
    linkView_crossLeft, linkView_foldl _ (fun t x => linkView_post _ t),
    linkView_foldl _ (fun t r => linkView_readFailed n r _ t)]
  simp

/-- A port's new state is all that setting it changes of the view, whatever the port leaves behind. -/
theorem linkView_apuSetState (n st : Nat) (s : State) :
    linkView (apuSetState n st s) = linkView (wr (pgApu n) R.APU_STAT_STATE st s) := by
  unfold apuSetState
  dsimp only
  split
  · rw [linkView_portCleanup]
  · rfl

/-- Entry into DOWN changes the port's own state and cause alone. -/
theorem linkView_apuDown (n c : Nat) (s : State) : linkView (apuDown n (some c) s) =
    linkView (wr (pgApu n) R.APU_STAT_STATE asDOWN (wr (pgApu n) R.APU_STAT_CAUSE c s)) := by
  have hd : isLinkPlace R.APU_CNT_DOWN.off R.APU_CNT_DOWN.lo = false := by decide
  unfold apuDown bump
  dsimp only
  rw [linkView_raise, linkView_bumpBy_fld hd, linkView_apuSetState]

/-! The PCIe link falls (R484). -/

@[simp] theorem linkView_hostHold (s : State) : linkView (hostHold s) = linkView s := by
  unfold hostHold
  split
  · dsimp only
    split <;> simp
  · rfl

@[simp] theorem linkView_linkDown (s : State) : linkView (linkDown s) = linkView s := by
  unfold linkDown
  split
  · rfl
  · simp

end Sys2Proof.Machine
end

section
/-!
CERTIFICATE. SMBus and the TAP (R516-R520).
-/
namespace Sys2Proof.Machine

/-! Which ports a step leaves as they stand. -/

/-- Page `P` shows the same link state and cause in both states. -/
def SamePort (P : Nat) (s t : State) : Prop := ∀ f : Fld, isLinkKey (f.key P 0) = true → rd t P f = rd s P f

/-- Easel, the TAP, and every port but those of the pages `ex` stand as they did. -/
def PortsKept (ex : Nat → Prop) (s t : State) : Prop :=
  t.easel = s.easel ∧ t.tap = s.tap ∧ ∀ P, ¬ ex P → SamePort P s t

theorem PortsKept.of_view {ex : Nat → Prop} {s t : State} (h : linkView t = linkView s) : PortsKept ex s t :=
  ⟨linkView_easel h, linkView_tap h, fun P _ f hk => linkView_rd h P f hk⟩

theorem PortsKept.trans {ex : Nat → Prop} {s t u : State} (h1 : PortsKept ex s t) (h2 : PortsKept ex t u) :
    PortsKept ex s u :=
  ⟨h2.1.trans h1.1, h2.2.1.trans h1.2.1, fun P hP f hk => (h2.2.2 P hP f hk).trans (h1.2.2 P hP f hk)⟩

theorem PortsKept.mono {ex ey : Nat → Prop} {s t : State} (h : PortsKept ex s t) (hs : ∀ P, ex P → ey P) :
    PortsKept ey s t := ⟨h.1, h.2.1, fun P hP => h.2.2 P (fun hx => hP (hs P hx))⟩

theorem wr_portsKept (P : Nat) (f : Fld) (v : Nat) (s : State) : PortsKept (· = P) s (wr P f v s) :=
  ⟨rfl, rfl, fun _ hQ _ _ => rd_wr_other _ _ _ _ _ _ (fun e => hQ (congrArg RKey.page e))⟩

/-- Steps that each leave all ports but their own leave all but those of the list. -/
theorem sweep_kept (pg : Nat → Nat) (f : State → Nat → State) (hf : ∀ t n, PortsKept (· = pg n) t (f t n))
    (l : List Nat) (s : State) : PortsKept (fun P => ∃ n ∈ l, P = pg n) s (l.foldl f s) := by
  induction l generalizing s with
  | nil => exact PortsKept.of_view rfl
  | cons n r ih =>
    refine PortsKept.trans ((hf s n).mono ?_) ((ih (f s n)).mono ?_)
    · rintro P rfl
      exact ⟨n, List.mem_cons_self .., rfl⟩
    · rintro P ⟨m, hm, rfl⟩
      exact ⟨m, List.mem_cons_of_mem _ hm, rfl⟩

/-- A port that is live before a sweep is down after it, where each step fells its own port and ports share no page. -/
theorem sweep_fells (pg : Nat → Nat) (f : State → Nat → State) (live down : State → Nat → Prop)
    (hf : ∀ t n, PortsKept (· = pg n) t (f t n)) (hfall : ∀ t n, live t n → down (f t n) n)
    (hlive : ∀ s t n, SamePort (pg n) s t → live s n → live t n)
    (hdown : ∀ s t n, SamePort (pg n) s t → down s n → down t n) (l : List Nat) (hn : l.Nodup)
    (hinj : ∀ m ∈ l, ∀ n ∈ l, pg m = pg n → m = n) (s : State) (n : Nat) (hm : n ∈ l) (hs : live s n) :
    down (l.foldl f s) n := by
  induction l generalizing s with
  | nil => cases hm
  | cons m r ih =>
    obtain ⟨hmr, hr⟩ := List.nodup_cons.mp hn
    rcases List.mem_cons.mp hm with rfl | hnr
    · refine hdown _ _ n ((sweep_kept pg f hf r (f s n)).2.2 (pg n) ?_) (hfall s n hs)
      rintro ⟨k, hk, e⟩
      exact hmr (hinj n hm k (List.mem_cons_of_mem _ hk) e ▸ hk)
    · refine ih hr (fun a ha b hb => hinj a (List.mem_cons_of_mem _ ha) b (List.mem_cons_of_mem _ hb)) (f s m) hnr ?_
      refine hlive _ _ n ((hf s m).2.2 (pg n) ?_) hs
      intro e
      exact hmr (hinj n hm m (List.mem_cons_self ..) e ▸ hnr)

/-! The pages of the ports (R487). -/

theorem pageKind_pgApu (n : Nat) : pageKind (pgApu n) = some .apu := by
  rw [pgApu, pageKind_pgH, if_neg (by omega), if_neg (by omega), if_pos (by omega)]

theorem pgFiu_inj : ∀ m ∈ List.range 16, ∀ n ∈ List.range 16, pgFiu m = pgFiu n → m = n := by decide

theorem pgApu_inj (m n : Nat) (hm : m < 64) (hn : n < 64) (h : pgApu m = pgApu n) : m = n := by
  have hnum : ∀ k, k < 64 → (aHalf k).num = k / 32 := by
    intro k hk
    unfold aHalf
    split
    · show 0 = _; omega
    · show 1 = _; omega
  simp only [pgApu, pgH, hnum m hm, hnum n hn] at h
  omega

theorem pgFiu_ne_pgApu (m n : Nat) : pgFiu m ≠ pgApu n := by
  intro h
  have := (pageKind_pgFiu m).symm.trans ((congrArg pageKind h).trans (pageKind_pgApu n))
  cases this

theorem isLinkKey_fiu (n : Nat) (f : Fld) (hf : isLinkPlace f.off f.lo = true) : isLinkKey (f.key (pgFiu n) 0) = true := by
  simp [isLinkKey, isPort, Fld.key, pageKind_pgFiu, hf]

theorem isLinkKey_apu (n : Nat) (f : Fld) (hf : isLinkPlace f.off f.lo = true) : isLinkKey (f.key (pgApu n) 0) = true := by
  simp [isLinkKey, isPort, Fld.key, pageKind_pgApu, hf]

/-! Loss of signal on every lane (R520). -/

/-- F[n] is in a state in which loss of signal fells it (R58). -/
def FiuUp (s : State) (n : Nat) : Prop := fiuState s n = fsACTIVE ∨ fiuState s n = fsRECOVER ∨ fiuState s n = fsLOWPWR

def FiuFallen (s : State) (n : Nat) : Prop := fiuState s n = fsDOWN ∧ rd s (pgFiu n) R.FIU_LINK_STAT_CAUSE = 1

def ApuFallen (s : State) (n : Nat) : Prop := apuState s n = asDOWN ∧ rd s (pgApu n) R.APU_STAT_CAUSE = 1

/-- F[n] loses its signal. -/
def fiuLost (t : State) (n : Nat) : State :=
  if fiuState t n = fsACTIVE ∨ fiuState t n = fsRECOVER ∨ fiuState t n = fsLOWPWR then fiuDown n 1 t else t

/-- A[n] loses its signal. -/
def apuLost (t : State) (n : Nat) : State := if apuLive t n then apuDown n (some 1) t else t

theorem lanesLost_eq (s : State) : lanesLost s =
    linkDown ((List.range 64).foldl apuLost ((List.range 16).foldl fiuLost s)) := rfl

theorem fiuLost_kept (t : State) (n : Nat) : PortsKept (· = pgFiu n) t (fiuLost t n) := by
  unfold fiuLost
  split
  · exact ((wr_portsKept _ _ _ t).trans (wr_portsKept _ _ _ _)).trans (PortsKept.of_view (linkView_fiuDown n 1 t))
  · exact PortsKept.of_view rfl

theorem apuLost_kept (t : State) (n : Nat) : PortsKept (· = pgApu n) t (apuLost t n) := by
  unfold apuLost
  split
  · exact ((wr_portsKept _ _ _ t).trans (wr_portsKept _ _ _ _)).trans (PortsKept.of_view (linkView_apuDown n 1 t))
  · exact PortsKept.of_view rfl

theorem fiuLost_fells (t : State) (n : Nat) (h : FiuUp t n) : FiuFallen (fiuLost t n) n := by
  have hv := linkView_fiuDown n 1 t
  unfold fiuLost
  rw [if_pos (show fiuState t n = fsACTIVE ∨ fiuState t n = fsRECOVER ∨ fiuState t n = fsLOWPWR from h)]
  constructor
  · rw [fiuState, linkView_rd hv _ _ (isLinkKey_fiu n _ (by decide)), rd_wr_self]
    rfl
  · rw [linkView_rd hv _ _ (isLinkKey_fiu n _ (by decide)), rd_wr_other _ _ _ _ _ _ (key_ne_of_lo _ (by decide)),
      rd_wr_self]
    rfl

theorem apuLost_fells (t : State) (n : Nat) (h : apuLive t n = true) : ApuFallen (apuLost t n) n := by
  have hv := linkView_apuDown n 1 t
  unfold apuLost
  rw [if_pos h]
  constructor
  · rw [apuState, linkView_rd hv _ _ (isLinkKey_apu n _ (by decide)), rd_wr_self]
    rfl
  · rw [linkView_rd hv _ _ (isLinkKey_apu n _ (by decide)), rd_wr_other _ _ _ _ _ _ (key_ne_of_lo _ (by decide)),
      rd_wr_self]
    rfl

theorem fiuState_same {s t : State} {n : Nat} (h : SamePort (pgFiu n) s t) : fiuState t n = fiuState s n :=
  h _ (isLinkKey_fiu n _ (by decide))

theorem apuState_same {s t : State} {n : Nat} (h : SamePort (pgApu n) s t) : apuState t n = apuState s n :=
  h _ (isLinkKey_apu n _ (by decide))

theorem fiuFallen_same {s t : State} {n : Nat} (h : SamePort (pgFiu n) s t) (hd : FiuFallen s n) : FiuFallen t n :=
  ⟨(fiuState_same h).trans hd.1, (h _ (isLinkKey_fiu n _ (by decide))).trans hd.2⟩

theorem apuFallen_same {s t : State} {n : Nat} (h : SamePort (pgApu n) s t) (hd : ApuFallen s n) : ApuFallen t n :=
  ⟨(apuState_same h).trans hd.1, (h _ (isLinkKey_apu n _ (by decide))).trans hd.2⟩

theorem apuLive_same {s t : State} {n : Nat} (h : SamePort (pgApu n) s t) : apuLive t n = apuLive s n := by
  unfold apuLive
  rw [apuState_same h]

theorem fiuSweep_fells (s : State) (n : Nat) (hn : n < 16) (h : FiuUp s n) : FiuFallen ((List.range 16).foldl fiuLost s) n :=
  sweep_fells pgFiu fiuLost FiuUp FiuFallen fiuLost_kept fiuLost_fells
    (fun s t n h hu => by unfold FiuUp; rw [fiuState_same h]; exact hu) (fun _ _ _ => fiuFallen_same) _ List.nodup_range
    pgFiu_inj s n (List.mem_range.mpr hn) h

theorem apuSweep_fells (s : State) (n : Nat) (hn : n < 64) (h : apuLive s n = true) :
    ApuFallen ((List.range 64).foldl apuLost s) n :=
  sweep_fells pgApu apuLost (fun t n => apuLive t n = true) ApuFallen apuLost_kept apuLost_fells
    (fun s t n h hu => by rw [apuLive_same h]; exact hu) (fun _ _ _ => apuFallen_same) _ List.nodup_range
    (fun a ha b hb => pgApu_inj a b (List.mem_range.mp ha) (List.mem_range.mp hb)) s n (List.mem_range.mpr hn) h

/-! The PCIe link (R484). -/

theorem rd_hostHold_linkUp (s : State) : rd (hostHold s) pgHost R.HP_LINK_UP = rd s pgHost R.HP_LINK_UP := by
  unfold hostHold
  split
  · dsimp only
    split
    · show rd (bump pgLantern R.LANTERN_CNT_PME _) pgHost R.HP_LINK_UP = _
      rw [(bump_kept pgLantern R.LANTERN_CNT_PME _).rd pgHost _ (by decide),
        rd_wr_other _ _ _ _ _ _ (key_ne_of_lo _ (by decide))]
      rfl
    · rfl
  · rfl

theorem linkDown_ends (s : State) : rdB (linkDown s) pgHost R.HP_LINK_UP = false := by
  unfold linkDown
  by_cases h : rdB s pgHost R.HP_LINK_UP = false
  · rw [if_pos (by rw [h]; rfl)]
    exact h
  · rw [if_neg (by simpa using h), rdB, rd_hostHold_linkUp,
      (bump_kept pgHost R.HOST_CNT_LINK_DOWN _).rd pgHost _ (by decide), rd_wr_self]
    rfl

theorem lanesLost_kept (s : State) :
    PortsKept (fun P => (∃ n ∈ List.range 16, P = pgFiu n) ∨ ∃ n ∈ List.range 64, P = pgApu n) s (lanesLost s) := by
  rw [lanesLost_eq]
  exact (((sweep_kept pgFiu fiuLost fiuLost_kept _ s).mono (fun _ => .inl)).trans
    ((sweep_kept pgApu apuLost apuLost_kept _ _).mono (fun _ => .inr))).trans (PortsKept.of_view (linkView_linkDown _))

/-- Every link that lives loses its signal, and Easel keeps its bytes. -/
theorem lanesLost_signalLost (s : State) : SignalLost s (lanesLost s) := by
  have hfiu := sweep_kept pgFiu fiuLost fiuLost_kept (List.range 16) s
  have hapu := sweep_kept pgApu apuLost apuLost_kept (List.range 64) ((List.range 16).foldl fiuLost s)
  have hlast : PortsKept (fun _ => False) _ (lanesLost s) := PortsKept.of_view (linkView_linkDown _)
  refine ⟨fun n hn hu => ?_, fun n hn hu => ?_, linkDown_ends _, (lanesLost_kept s).1⟩
  · have h1 := fiuFallen_same (hapu.2.2 (pgFiu n) (by rintro ⟨m, -, e⟩; exact pgFiu_ne_pgApu n m e))
      (fiuSweep_fells s n hn hu)
    exact fiuFallen_same (hlast.2.2 (pgFiu n) not_false) h1
  · have h1 : apuLive ((List.range 16).foldl fiuLost s) n = true := by
      rw [apuLive_same (hfiu.2.2 (pgApu n) (by rintro ⟨m, -, e⟩; exact pgFiu_ne_pgApu m n e.symm))]
      exact hu
    exact apuFallen_same (hlast.2.2 (pgApu n) not_false) (apuSweep_fells _ n hn h1)

/-! The TAP (R518-R520). -/

/-- The TAP with opcode `i`; letting go of the balls leaves the functional state undefined (R520). -/
def tapSet (i : Nat) (s : State) : State :=
  tapMod (fun x => { x with ir := i, undef := x.undef || (takesBalls x.ir && !takesBalls i) }) s

@[simp] theorem quiet_tapMod (f : Tap → Tap) (s : State) : quiet (tapMod f s) = quiet s :=
  quiet_congr _ _ rfl rfl rfl rfl rfl rfl rfl rfl

theorem tapIr_off (i : Nat) (s : State) (h : s.boot.supplies = false) : tapIr i s = s := by
  simp [tapIr, h]

/-- An opcode that leaves the balls as they are. -/
theorem tapIr_kept (i : Nat) (s : State) (h : s.boot.supplies = true) (hb : (takesBalls i && !takesBalls s.tap.ir) = false) :
    tapIr i s = tapSet i s := by
  simp only [tapIr, h, hb, tapSet, Bool.not_true, Bool.false_eq_true, if_false]

/-- An opcode that takes the balls. -/
theorem tapIr_takes (i : Nat) (s : State) (h : s.boot.supplies = true) (hi : takesBalls i = true)
    (hb : takesBalls s.tap.ir = false) : tapIr i s = lanesLost (tapSet i s) := by
  simp only [tapIr, h, hi, hb, tapSet, Bool.not_true, Bool.not_false, Bool.and_true, Bool.false_eq_true, if_false, if_true]

/-- An opcode that takes no balls, as those of IDCODE, SAMPLE/PRELOAD and BYPASS (R519). -/
theorem tapIr_plain (i : Nat) (s : State) (h : s.boot.supplies = true) (hi : takesBalls i = false) : tapIr i s = tapSet i s :=
  tapIr_kept i s h (by rw [hi]; rfl)

theorem settle_tapSet (i : Nat) (s : State) (hq : quiet s = true) : settle (tapSet i s) = tapSet i s :=
  settle_quiet _ (by unfold tapSet; rw [quiet_tapMod]; exact hq)

theorem idcode_word : idcode / 2 ^ 12 = 0x11664 ∧ idcode % 2 = 1 := by
  have h : Config.jtagMfr % 2 ^ 11 < 2 ^ 11 := Nat.mod_lt _ (by decide)
  unfold idcode
  generalize Config.jtagMfr % 2 ^ 11 = m at h
  omega

/-- Each of these commands selects its opcode, which takes the balls. -/
theorem exec_ballOpcode (s : State) (c : Instr) (i : Nat) (hc : (c, i) ∈ [(Instr.jtagExtest, 0), (.jtagExtestPulse, 4),
    (.jtagExtestTrain, 5), (.jtagClamp, 6), (.jtagHighz, 7)]) :
    exec c s = .next (settle (tapIr i s)) ∧ takesBalls i = true := by
  simp only [List.mem_cons, Prod.mk.injEq, List.not_mem_nil, or_false] at hc
  rcases hc with ⟨rfl, rfl⟩ | ⟨rfl, rfl⟩ | ⟨rfl, rfl⟩ | ⟨rfl, rfl⟩ | ⟨rfl, rfl⟩ <;> exact ⟨rfl, rfl⟩

theorem exec_tap_off (s : State) (levels load : List Bool) (hq : quiet s = true) (h : s.boot.supplies = false) :
    ∀ c ∈ [Instr.jtagExtest, .jtagIdcode, .jtagSamplePreload levels load, .jtagExtestPulse, .jtagExtestTrain, .jtagClamp,
      .jtagHighz, .jtagBypass, .jtagTrst], exec c s = .next s := by
  have hir : ∀ i, settle (tapIr i s) = s := fun i => by rw [tapIr_off i s h, settle_quiet s hq]
  have hid : tapId s = s := by simp [tapId, h]
  have hsample : tapSample levels load s = s := by simp [tapSample, h]
  intro c hc
  simp only [List.mem_cons, List.not_mem_nil, or_false] at hc
  rcases hc with rfl | rfl | rfl | rfl | rfl | rfl | rfl | rfl | rfl
  · exact congrArg done (hir 0)
  · exact congrArg done hid
  · exact congrArg done hsample
  · exact congrArg done (hir 4)
  · exact congrArg done (hir 5)
  · exact congrArg done (hir 6)
  · exact congrArg done (hir 7)
  · exact congrArg done (hir 0xFF)
  · exact congrArg done (tapIr_off 1 s h)

theorem jtagIdcode_answers (s : State) (h : s.boot.supplies = true) :
    ∃ id, id / 2 ^ 12 = 0x11664 ∧ id % 2 = 1 ∧ Ends .jtagIdcode s (fun t => t.tap.ir = 1 ∧
      t = { s with tap := t.tap, out := s.out ++ [.answer 4 id] } ∧ t.tap.cells = s.tap.cells) := by
  have he : exec .jtagIdcode s = done (emit (.answer 4 idcode) (tapSet 1 s)) := by
    show done (tapId s) = _
    rw [tapId, if_pos h, tapIr_plain 1 s h rfl]
  exact ⟨idcode, idcode_word.1, idcode_word.2, ends_done he ⟨rfl, rfl, rfl⟩⟩

theorem jtagSample_loads (s : State) (levels load : List Bool) (h : s.boot.supplies = true) :
    Ends (.jtagSamplePreload levels load) s (fun t => t.tap.ir = 2 ∧ t.tap.cells = load ∧
      t = { s with tap := t.tap, out := s.out ++ [.answer 4 (levelsNat levels)] }) := by
  have he : exec (.jtagSamplePreload levels load) s =
      done (emit (.answer 4 (levelsNat levels)) (tapMod (fun x => { x with cells := load }) (tapSet 2 s))) := by
    show done (tapSample levels load s) = _
    rw [tapSample, if_pos h, tapIr_plain 2 s h rfl]
  exact ends_done he ⟨rfl, rfl, rfl⟩

theorem jtagSelect (s : State) (hq : quiet s = true) (h : s.boot.supplies = true) (c : Instr) (i : Nat)
    (hc : (c, i) ∈ [(Instr.jtagBypass, 0xFF), (.jtagTrst, 1)]) : Ends c s (fun t => t.tap.ir = i ∧
      t.tap.cells = s.tap.cells ∧ (t.tap.undef = (s.tap.undef || takesBalls s.tap.ir)) ∧ t = { s with tap := t.tap }) := by
  have hset : ∀ i, takesBalls i = false → (tapSet i s).tap.undef = (s.tap.undef || takesBalls s.tap.ir) := fun i hi => by
    simp [tapSet, tapMod, hi]
  simp only [List.mem_cons, Prod.mk.injEq, List.not_mem_nil, or_false] at hc
  rcases hc with ⟨rfl, rfl⟩ | ⟨rfl, rfl⟩
  · refine ends_done (t := tapSet 0xFF s) ?_ ⟨rfl, rfl, hset 0xFF rfl, rfl⟩
    show done (settle (tapIr 0xFF s)) = _
    rw [tapIr_plain 0xFF s h rfl, settle_tapSet _ s hq]
  · refine ends_done (t := tapSet 1 s) ?_ ⟨rfl, rfl, hset 1 rfl, rfl⟩
    show done (tapIr 1 s) = _
    rw [tapIr_plain 1 s h rfl]

/-- The balls are taken: the links lose their signal, the TAP holds the opcode. -/
theorem jtagTakesBalls (s : State) (h : s.boot.supplies = true) (c : Instr) (i : Nat)
    (hc : (c, i) ∈ [(Instr.jtagExtest, 0), (.jtagExtestPulse, 4), (.jtagExtestTrain, 5), (.jtagClamp, 6), (.jtagHighz, 7)])
    (hb : takesBalls s.tap.ir = false) : Settles c s (fun u => SignalLost s u ∧ u.tap = { s.tap with ir := i }) := by
  obtain ⟨he, hi⟩ := exec_ballOpcode s c i hc
  rw [tapIr_takes i s h hi hb] at he
  refine ⟨_, he, lanesLost_signalLost (tapSet i s), ?_⟩
  rw [(lanesLost_kept (tapSet i s)).2.1]
  simp [tapSet, tapMod, hi]

/-- The balls are held already: the opcode alone changes. -/
theorem jtagHoldsBalls (s : State) (hq : quiet s = true) (h : s.boot.supplies = true) (c : Instr) (i : Nat)
    (hc : (c, i) ∈ [(Instr.jtagExtest, 0), (.jtagExtestPulse, 4), (.jtagExtestTrain, 5), (.jtagClamp, 6), (.jtagHighz, 7)])
    (hb : takesBalls s.tap.ir = true) : Ends c s (fun t => t = { s with tap := { s.tap with ir := i } }) := by
  obtain ⟨he, hi⟩ := exec_ballOpcode s c i hc
  rw [tapIr_kept i s h (by rw [hb, Bool.not_true, Bool.and_false]), settle_tapSet i s hq] at he
  exact ⟨_, he, by simp [tapSet, tapMod, hi]⟩

/-! SMBus (R516, R517). -/

theorem smb_up (f : State → State) (s : State) (h : s.boot.keeperUp = true) : smb f s = f s := if_pos h

theorem smb_down (f : State → State) (s : State) (h : s.boot.keeperUp = false) : smb f s = s := by simp [smb, h]

theorem smbAt_within (n : Nat) (f : Nat → State → State) (s : State) (h : s.boot.keeperUp = true)
    (ho : s.keeper.smbOff + n ≤ 4096) : smbAt n f s = smbOn n (f s.keeper.smbOff s) := by
  rw [smbAt, smb_up _ s h, if_neg (by omega)]

theorem smbAt_beyond (n : Nat) (f : Nat → State → State) (s : State) (h : s.boot.keeperUp = true)
    (ho : 4096 < s.keeper.smbOff + n) : smbAt n f s = emit .nack s := by
  rw [smbAt, smb_up _ s h, if_pos ho]

@[simp] theorem quiet_emit (o : Out) (s : State) : quiet (emit o s) = quiet s :=
  quiet_congr _ _ rfl rfl rfl rfl rfl rfl rfl rfl

theorem smbSetOffset_taken (s : State) (w : BitVec 16) (h : s.boot.keeperUp = true) (hw : w.toNat % 4 = 0) :
    Ends (.smbSetOffset w) s (fun t => t = { s with keeper := { s.keeper with smbOff := w.toNat % 4096 } }) := by
  refine ends_done (t := keeperMod (fun k => { k with smbOff := w.toNat % 4096 }) s) ?_ rfl
  show done (smbOffset w.toNat s) = _
  rw [smbOffset, smb_up _ s h, if_pos hw]

theorem smbSetOffset_not_taken (s : State) (w : BitVec 16) (h : s.boot.keeperUp = true) (hw : w.toNat % 4 ≠ 0) :
    exec (.smbSetOffset w) s = .next s := by
  show done (smbOffset w.toNat s) = _
  rw [smbOffset, smb_up _ s h, if_neg hw]
  rfl

theorem smbReadStatus_answers (s : State) (h : s.boot.keeperUp = true) : Ends .smbReadStatus s (fun t =>
    t = { s with out := s.out ++ [.answer 2 (bit s.boot.supplies + 2 * bit s.keeper.smbRefused)] }) := by
  refine ends_done (t := answer .smbus (s, bit s.boot.supplies + 2 * bit s.keeper.smbRefused)) ?_ rfl
  show done (smb _ s) = _
  rw [smb_up _ s h]

theorem smbTake_register (o : Nat) (s : State) (h8 : o % 8 = 0) (he : o ≠ R.ERRLOG_DATA_ENTRY.off)
    (hk : o ≠ R.KP_LOG_POP_ENTRY.off) : smbTake o s = (s, regRead s pgKeeper o) := by
  simp only [smbTake, h8, he, hk, ne_eq, not_true_eq_false, if_false]

theorem smbRead64_register (s : State) (h : s.boot.keeperUp = true) (ho : s.keeper.smbOff + 8 ≤ 4096)
    (h8 : s.keeper.smbOff % 8 = 0) (he : s.keeper.smbOff ≠ R.ERRLOG_DATA_ENTRY.off)
    (hk : s.keeper.smbOff ≠ R.KP_LOG_POP_ENTRY.off) : Ends .smbRead64 s (fun t =>
      t = { s with
        keeper := smbStepped 8 s.keeper, out := s.out ++ [.answer 2 (regRead s pgKeeper s.keeper.smbOff)]
        woLatch := t.woLatch }) := by
  refine ends_done (t := smbOn 8 (smbAnswer s.keeper.smbOff (s, regRead s pgKeeper s.keeper.smbOff))) ?_ rfl
  show done (smbAt 8 (fun o s => smbAnswer o (smbTake o s)) s) = _
  rw [smbAt_within 8 _ s h ho, smbTake_register _ s h8 he hk]

theorem smbRead64_log (s : State) (h : s.boot.keeperUp = true) (ho : s.keeper.smbOff = R.ERRLOG_DATA_ENTRY.off)
    (n q : Nat) (r : List (Nat × Nat)) (hl : (tget {} s.logs pgKeeper).entries = (n, q) :: r) :
    Ends .smbRead64 s (fun t =>
      tget {} t.logs pgKeeper = { tget {} s.logs pgKeeper with entries := r } ∧
      t = { s with
        keeper := smbStepped 8 s.keeper, logs := t.logs, woLatch := t.woLatch
        out := s.out ++ [.answer 2 (2 ^ 63 + n % 128 * 2 ^ 56 + q % 2 ^ 56)] }) := by
  have htake : smbTake s.keeper.smbOff s = logPop pgKeeper s := by rw [ho]; rfl
  refine ends_done (t := smbOn 8 (smbAnswer s.keeper.smbOff (logPop pgKeeper s))) ?_ ?_
  · show done (smbAt 8 (fun o s => smbAnswer o (smbTake o s)) s) = _
    rw [smbAt_within 8 _ s h (by rw [ho]; decide), htake]
  · rw [logPop_cons pgKeeper s n q r hl]
    exact ⟨tget_tput_self .., rfl⟩

theorem smbRead32_half (s : State) (h : s.boot.keeperUp = true) (ho : s.keeper.smbOff + 4 ≤ 4096) :
    Ends .smbRead32 s (fun t => t = { s with
      keeper := smbStepped 4 s.keeper, woLatch := t.woLatch
      out := s.out ++
        [.answer 2 (regRead s pgKeeper (s.keeper.smbOff / 8 * 8) / 2 ^ (8 * (s.keeper.smbOff % 8)) % 2 ^ 32)] }) := by
  refine ends_done (t := smbOn 4 (smbAnswer (s.keeper.smbOff / 8 * 8) (s, smbHalf s.keeper.smbOff s))) ?_ rfl
  show done (smbAt 4 (fun o s => smbAnswer (o / 8 * 8) (s, smbHalf o s)) s) = _
  rw [smbAt_within 4 _ s h ho]

theorem smbWrite64_written (s : State) (v : BitVec 64) (h : s.boot.keeperUp = true) (ho : s.keeper.smbOff + 8 ≤ 4096)
    (h8 : s.keeper.smbOff % 8 = 0) : Settles (.smbWrite64 v) s (SmbWritten s.keeper.smbOff 8 .whole v.toNat s) := by
  refine ⟨smbOn 8 (smbPut s.keeper.smbOff .whole v.toNat s), ?_, ?_⟩
  · show done (settle (smbAt 8 (fun o s => if o % 8 = 0 then smbPut o .whole v.toNat s else s) s)) = _
    rw [smbAt_within 8 _ s h ho, if_pos h8]
    rfl
  · have hr : s.keeper.smbOff / 8 * 8 = s.keeper.smbOff := by omega
    unfold SmbWritten
    rw [hr]
    rfl

theorem smbWrite32_written (s : State) (x : BitVec 32) (h : s.boot.keeperUp = true) (ho : s.keeper.smbOff + 4 ≤ 4096) :
    Settles (.smbWrite32 x) s
      (SmbWritten s.keeper.smbOff 4 (if s.keeper.smbOff % 8 = 0 then .low else .high) x.toNat s) := by
  refine ⟨smbOn 4 (smbPut (s.keeper.smbOff / 8 * 8) (if s.keeper.smbOff % 8 = 0 then .low else .high) x.toNat s), ?_, rfl⟩
  show done (settle (smbAt 4 _ s)) = _
  rw [smbAt_within 4 _ s h ho]
  rfl

theorem smb64_beyond (s : State) (v : BitVec 64) (h : s.boot.keeperUp = true) (ho : 4096 < s.keeper.smbOff + 8)
    (hq : quiet s = true) : exec .smbRead64 s = .next { s with out := s.out ++ [.nack] } ∧
      exec (.smbWrite64 v) s = .next { s with out := s.out ++ [.nack] } := by
  constructor
  · show done (smbAt 8 _ s) = _
    rw [smbAt_beyond 8 _ s h ho]
    rfl
  · show done (settle (smbAt 8 _ s)) = _
    rw [smbAt_beyond 8 _ s h ho, settle_quiet _ (by rw [quiet_emit]; exact hq)]
    rfl

theorem smb32_beyond (s : State) (x : BitVec 32) (h : s.boot.keeperUp = true) (ho : 4096 < s.keeper.smbOff + 4)
    (hq : quiet s = true) : exec .smbRead32 s = .next { s with out := s.out ++ [.nack] } ∧
      exec (.smbWrite32 x) s = .next { s with out := s.out ++ [.nack] } := by
  constructor
  · show done (smbAt 4 _ s) = _
    rw [smbAt_beyond 4 _ s h ho]
    rfl
  · show done (settle (smbAt 4 _ s)) = _
    rw [smbAt_beyond 4 _ s h ho, settle_quiet _ (by rw [quiet_emit]; exact hq)]
    rfl

/-- With no Keeper nothing answers. -/
theorem exec_smb_down (s : State) (w : BitVec 16) (v : BitVec 64) (x : BitVec 32) (h : s.boot.keeperUp = false)
    (hq : quiet s = true) :
    ∀ c ∈ [Instr.smbSetOffset w, .smbRead64, .smbRead32, .smbReadStatus, .smbWrite64 v, .smbWrite32 x], exec c s = .next s := by
  have hat : ∀ n f, smbAt n f s = s := fun n f => smb_down _ s h
  have hsettle : ∀ n f, settle (smbAt n f s) = s := fun n f => by rw [hat, settle_quiet s hq]
  intro c hc
  simp only [List.mem_cons, List.not_mem_nil, or_false] at hc
  rcases hc with rfl | rfl | rfl | rfl | rfl | rfl
  · exact congrArg done (smb_down _ s h)
  · exact congrArg done (hat 8 _)
  · exact congrArg done (hat 4 _)
  · exact congrArg done (smb_down _ s h)
  · exact congrArg done (hsettle 8 _)
  · exact congrArg done (hsettle 4 _)

/-- Settles O50: SMBus access by access, the TAP opcode by opcode; taking the balls fells every port in turn. -/
theorem smbusAndTheTapAnswer : Obligations.SmbusAndTheTapAnswer := by
  unfold Obligations.SmbusAndTheTapAnswer
  refine ⟨fun s w v x h => ⟨smbSetOffset_taken s w h, smbSetOffset_not_taken s w h, smbReadStatus_answers s h, ?_⟩,
    fun s w v x => exec_smb_down s w v x, fun s levels load hq => ⟨exec_tap_off s levels load hq, fun h => ?_⟩⟩
  · rintro _ rfl
    exact ⟨smbRead64_register s h, fun n q r ho => smbRead64_log s h ho n q r, smbRead32_half s h,
      smbWrite64_written s v h, smbWrite32_written s x h, smb64_beyond s v h, smb32_beyond s x h⟩
  · exact ⟨jtagIdcode_answers s h, jtagSample_loads s levels load h, jtagSelect s hq h,
      fun c i hc => ⟨jtagTakesBalls s h c i hc, jtagHoldsBalls s hq h c i hc⟩⟩

end Sys2Proof.Machine
end

section
/-!
SUPPORT. Little-endian numbers, the CRC-32C and one flit: what is built of a flit's parts is read back from its bytes
(R42, R43).
-/
namespace Sys2Proof.Machine

/-! Little-endian numbers. -/

@[simp] theorem length_leBytes (n w : Nat) : (leBytes n w).length = n := by
  induction n generalizing w with
  | zero => rfl
  | succ n ih => rw [leBytes, List.length_cons, ih]

theorem leNat_leBytes (n w : Nat) : leNat (leBytes n w) = w % 256 ^ n := by
  induction n generalizing w with
  | zero => simp [leBytes, leNat, Nat.mod_one]
  | succ n ih =>
    calc leNat (leBytes (n + 1) w) = w % 256 + 256 * (w / 256 % 256 ^ n) := by
          simp only [leBytes, leNat, ih, BitVec.toNat_ofNat, Nat.reducePow]
      _ = w % 256 ^ (n + 1) := by rw [Nat.pow_succ', Nat.mod_mul]

theorem leNat_leBytes_of_lt {n w : Nat} (h : w < 256 ^ n) : leNat (leBytes n w) = w := by
  rw [leNat_leBytes, Nat.mod_eq_of_lt h]

/-! One-bit fields. -/

theorem bit_lt (b : Bool) : bit b < 2 := by cases b <;> decide

theorem testBit_eq_of_bit {x i : Nat} {b : Bool} (h : x / 2 ^ i % 2 = bit b) : x.testBit i = b := by
  rw [Nat.testBit_eq_decide_div_mod_eq, h]
  cases b <;> rfl

/-! The CRC is a word of 32 bits. -/

theorem crcBit_lt {poly c : Nat} (hp : poly < 2 ^ 32) (hc : c < 2 ^ 32) : crcBit poly c < 2 ^ 32 := by
  unfold crcBit
  split
  · exact Nat.xor_lt_two_pow (by omega) hp
  · omega

theorem crcByte_lt {poly c : Nat} (b : Byte) (hp : poly < 2 ^ 32) (hc : c < 2 ^ 32) : crcByte poly c b < 2 ^ 32 := by
  have hx : c ^^^ b.toNat < 2 ^ 32 := Nat.xor_lt_two_pow hc (by have := b.isLt; omega)
  have step {x : Nat} : x < 2 ^ 32 → crcBit poly x < 2 ^ 32 := crcBit_lt hp
  exact step (step (step (step (step (step (step (step hx)))))))

theorem crcFold_lt {poly c : Nat} (hp : poly < 2 ^ 32) (hc : c < 2 ^ 32) (l : List Byte) :
    l.foldl (crcByte poly) c < 2 ^ 32 := by
  induction l generalizing c with
  | nil => exact hc
  | cons b r ih => exact ih (crcByte_lt b hp hc)

theorem crc32c_lt (l : List Byte) : crc32c l < 2 ^ 32 :=
  Nat.xor_lt_two_pow (crcFold_lt (by decide) (by decide) l) (by decide)

/-! One flit. -/

theorem flitHdr_lt (seq vc : Nat) (head tail : Bool) : flitHdr seq vc head tail < 256 ^ 4 := by
  have hh := bit_lt head
  have ht := bit_lt tail
  unfold flitHdr
  omega

section
variable (seq vc : Nat) (head tail : Bool) {data : List Byte}

theorem take_mkFlit_hdr : (mkFlit seq vc head tail data).take 4 = leBytes 4 (flitHdr seq vc head tail) := by
  simp only [mkFlit, List.append_assoc]
  exact List.take_left' (length_leBytes ..)

theorem leNat_mkFlit_hdr : leNat ((mkFlit seq vc head tail data).take 4) = flitHdr seq vc head tail := by
  rw [take_mkFlit_hdr, leNat_leBytes_of_lt (flitHdr_lt ..)]

theorem flitSeq_mkFlit : flitSeq (mkFlit seq vc head tail data) = seq % 4096 := by
  have hh := bit_lt head
  have ht := bit_lt tail
  rw [flitSeq, leNat_mkFlit_hdr, bits, flitHdr]
  omega

theorem flitVc_mkFlit : flitVc (mkFlit seq vc head tail data) = vc % 8 := by
  have hh := bit_lt head
  have ht := bit_lt tail
  rw [flitVc, leNat_mkFlit_hdr, bits, flitHdr]
  omega

theorem flitHead_mkFlit : flitHead (mkFlit seq vc head tail data) = head := by
  have hh := bit_lt head
  have ht := bit_lt tail
  rw [flitHead, leNat_mkFlit_hdr]
  exact testBit_eq_of_bit (by rw [flitHdr]; omega)

theorem flitTail_mkFlit : flitTail (mkFlit seq vc head tail data) = tail := by
  have hh := bit_lt head
  have ht := bit_lt tail
  rw [flitTail, leNat_mkFlit_hdr]
  exact testBit_eq_of_bit (by rw [flitHdr]; omega)

theorem length_mkFlit (hd : data.length = 120) : (mkFlit seq vc head tail data).length = 128 := by
  simp [mkFlit, hd]

theorem flitData_mkFlit (hd : data.length = 120) : flitData (mkFlit seq vc head tail data) = data := by
  simp only [flitData, mkFlit, List.append_assoc]
  rw [List.drop_left' (length_leBytes ..), List.take_left' hd]

theorem flitOk_mkFlit (hd : data.length = 120) : flitOk (mkFlit seq vc head tail data) = true := by
  have hb : (leBytes 4 (flitHdr seq vc head tail) ++ data).length = 124 := by simp [hd]
  have hc : crc32c (leBytes 4 (flitHdr seq vc head tail) ++ data) < 256 ^ 4 := crc32c_lt _
  rw [flitOk, length_mkFlit seq vc head tail hd]
  simp only [mkFlit, List.take_left' hb, List.drop_left' hb, leNat_leBytes_of_lt hc, decide_true, beq_self_eq_true,
    Bool.and_self]

end

end Sys2Proof.Machine
end

section
/-!
CERTIFICATE. A packet is read back from its flits (R42-R44, R67-R69, R72).
-/
namespace Sys2Proof.Machine

/-! A list cut into pieces of one length, the last filled up with zeros. -/

theorem length_fit (n : Nat) (l : List Byte) : (fit n l).length = n := by simp [fit, zeros]; omega

@[simp] theorem length_pieces (n k : Nat) (l : List Byte) : (pieces n k l).length = k := by
  induction k generalizing l with
  | zero => rfl
  | succ k ih => rw [pieces, List.length_cons, ih]

theorem length_of_mem_pieces {n k : Nat} {l d : List Byte} (h : d ∈ pieces n k l) : d.length = n := by
  induction k generalizing l with
  | zero => simp [pieces] at h
  | succ k ih =>
    rcases List.mem_cons.mp h with rfl | h
    · exact length_fit n l
    · exact ih h

/-- The pieces one after the other are the list and its padding. -/
theorem flatten_pieces {n k : Nat} {l : List Byte} (h : l.length ≤ n * k) :
    (pieces n k l).flatten = l ++ zeros (n * k - l.length) := by
  induction k generalizing l with
  | zero => simp_all [pieces, zeros]
  | succ k ih =>
    rw [Nat.mul_succ] at h ⊢
    rw [pieces, List.flatten_cons, ih (by simp; omega)]
    by_cases hl : l.length ≤ n
    · have hz : n - l.length + n * k = n * k + n - l.length := by omega
      simp [fit, zeros, List.take_of_length_le hl, List.drop_eq_nil_of_le hl, hz]
    · have h0 : n - l.length = 0 := by omega
      have hz : n * k - (l.length - n) = n * k + n - l.length := by omega
      simp only [fit, zeros, h0, List.replicate_zero, List.append_nil, List.length_drop, hz, ← List.append_assoc,
        List.take_append_drop]

/-! The flits of content pieces: each piece's flit stands in its place, numbered on from the first. -/

theorem length_mkFlits (vc seq : Nat) (head : Bool) (ds : List (List Byte)) :
    (mkFlits vc seq head ds).length = ds.length := by
  induction ds generalizing seq head with
  | nil => rfl
  | cons d ds ih => rw [mkFlits, List.length_cons, ih, List.length_cons]

theorem getElem?_mkFlits (vc seq : Nat) (head : Bool) (ds : List (List Byte)) (i : Nat) :
    (mkFlits vc seq head ds)[i]? = ds[i]?.map (fun d =>
      ((seq + i) % 4096, mkFlit (seq + i) vc (head && decide (i = 0)) (decide (i + 1 = ds.length)) d)) := by
  induction ds generalizing seq head i with
  | nil => rfl
  | cons d ds ih =>
    cases i with
    | zero =>
      have he : ds.isEmpty = decide (ds = []) := by cases ds <;> simp
      simp [mkFlits, he]
    | succ i => simp [mkFlits, ih, Nat.add_assoc, Nat.add_comm 1]

theorem map_flitData_mkFlits (vc seq : Nat) (head : Bool) (ds : List (List Byte)) (hd : ∀ d ∈ ds, d.length = 120) :
    (mkFlits vc seq head ds).map (fun f => flitData f.2) = ds := by
  induction ds generalizing seq head with
  | nil => rfl
  | cons d ds ih =>
    obtain ⟨h, hr⟩ := List.forall_mem_cons.mp hd
    rw [mkFlits, List.map_cons, flitData_mkFlit _ _ _ _ h, ih _ _ hr]

/-! A packet and its header. -/

theorem vcOfType_lt (t : Nat) : vcOfType t < 8 := by
  unfold vcOfType
  repeat' split
  all_goals decide

@[simp] theorem length_header (p : Packet) : p.header.length = 32 := by simp [Packet.header]

/-- The flits of R72 have room for the header and the payload. -/
theorem room_of_flitCount (len : Nat) : 32 + len ≤ 120 * flitCount len := by
  unfold flitCount
  split <;> omega

theorem length_packetFlits (seq : Nat) (p : Packet) : (packetFlits seq p).length = flitCount p.len := by
  rw [packetFlits, length_mkFlits, length_pieces]

/-- The four header words stand at the first 32 bytes. -/
theorem header_words (p : Packet) (l : List Byte) :
    (p.header ++ l).take 8 = leBytes 8 p.w0 ∧ ((p.header ++ l).drop 8).take 8 = leBytes 8 p.w1 ∧
      ((p.header ++ l).drop 16).take 8 = leBytes 8 p.w2 ∧ ((p.header ++ l).drop 24).take 8 = leBytes 8 p.w3 := by
  have h8 (w : Nat) : (leBytes 8 w).length = 8 := length_leBytes 8 w
  have hd (m w : Nat) (r : List Byte) : (leBytes 8 w ++ r).drop (8 + m) = r.drop m := by
    rw [← List.drop_drop, List.drop_left' (h8 w)]
  simp only [Packet.header, List.append_assoc]
  refine ⟨List.take_left' (h8 _), ?_, ?_, ?_⟩
  · rw [hd 0, List.drop_zero, List.take_left' (h8 _)]
  · rw [hd 8, hd 0, List.drop_zero, List.take_left' (h8 _)]
  · rw [hd 16, hd 8, hd 0, List.drop_zero, List.take_left' (h8 _)]

theorem w0_lt (p : Packet) : p.w0 < 256 ^ 8 := by
  have ho := bit_lt p.ord
  have hs := bit_lt p.salv
  unfold Packet.w0
  omega

/-- What R68 puts into header word 0 is read back from it. -/
theorem w0_fields {p : Packet} (h : PacketFits p) :
    bits p.w0 63 60 = p.type ∧ p.w0.testBit 59 = p.ord ∧ p.w0.testBit 58 = p.salv ∧ bits p.w0 55 36 = p.src ∧
      bits p.w0 35 16 = p.dst ∧ bits p.w0 12 0 = p.len := by
  obtain ⟨ht, hs, hd, -, -, -, hl, -⟩ := h
  have ho := bit_lt p.ord
  have hv := bit_lt p.salv
  refine ⟨?_, testBit_eq_of_bit ?_, testBit_eq_of_bit ?_, ?_, ?_, ?_⟩ <;>
    simp only [bits, Packet.w0] <;> omega

theorem ofBytes_header_append {p : Packet} (h : PacketFits p) (r : List Byte) :
    Packet.ofBytes (p.header ++ (p.payload ++ r)) = p := by
  obtain ⟨e0, e1, e2, e3⟩ := header_words p (p.payload ++ r)
  obtain ⟨ft, fo, fv, fs, fd, fl⟩ := w0_fields h
  obtain ⟨-, -, -, h1, h2, h3, -, hp⟩ := h
  have e4 : ((p.header ++ (p.payload ++ r)).drop 32).take p.len = p.payload := by
    rw [List.drop_left' (length_header p), List.take_left' hp]
  simp only [Packet.ofBytes, e0, e1, e2, e3, leNat_leBytes_of_lt (w0_lt p), leNat_leBytes_of_lt (n := 8) h1,
    leNat_leBytes_of_lt (n := 8) h2, leNat_leBytes_of_lt (n := 8) h3, ft, fo, fv, fs, fd, fl, e4]

/-- What one flit of a packet carries: its place's number, the VC, HEAD at the first and TAIL at the last (R42, R44). -/
theorem packetFlits_flit {p : Packet} {seq i : Nat} {f : Nat × List Byte} (hf : (packetFlits seq p)[i]? = some f) :
    f.2.length = 128 ∧ flitOk f.2 = true ∧ f.1 = (seq + i) % 4096 ∧ flitSeq f.2 = (seq + i) % 4096 ∧
      flitVc f.2 = vcOfType p.type ∧ flitHead f.2 = decide (i = 0) ∧ flitTail f.2 = decide (i + 1 = flitCount p.len) := by
  rw [packetFlits, getElem?_mkFlits, length_pieces] at hf
  obtain ⟨d, hd, rfl⟩ := Option.map_eq_some_iff.mp hf
  have h120 : d.length = 120 := length_of_mem_pieces (List.mem_of_getElem? hd)
  exact ⟨length_mkFlit _ _ _ _ h120, flitOk_mkFlit _ _ _ _ h120, rfl, flitSeq_mkFlit ..,
    (flitVc_mkFlit ..).trans (Nat.mod_eq_of_lt (vcOfType_lt _)), flitHead_mkFlit .., flitTail_mkFlit ..⟩

theorem ofBytes_packetFlits {p : Packet} (h : PacketFits p) (seq : Nat) :
    Packet.ofBytes ((packetFlits seq p).map (fun f => flitData f.2)).flatten = p := by
  have ⟨_, _, _, _, _, _, _, hlen⟩ := h
  have hroom : (p.header ++ p.payload).length ≤ 120 * flitCount p.len := by
    simpa [hlen] using room_of_flitCount p.len
  rw [packetFlits, map_flitData_mkFlits _ _ _ _ (fun _ => length_of_mem_pieces), flatten_pieces hroom, List.append_assoc,
    ofBytes_header_append h]

/-- Settles O7: piece by piece; a flit's fields are read from its bytes, and the flits' contents are header, payload and
padding. -/
theorem packetsSurviveTheirFlits : Obligations.PacketsSurviveTheirFlits := by
  unfold Obligations.PacketsSurviveTheirFlits
  exact fun p seq h => ⟨length_packetFlits seq p, fun _ _ => packetFlits_flit, ofBytes_packetFlits h seq⟩

end Sys2Proof.Machine
end

section
/-!
SUPPORT. Link changes of a fabric port: what they may touch, and what the registers and the port's record hold
afterwards (R58, R62).
-/
namespace Sys2Proof.Machine

/-! Reads of a field after a write, an event or a count elsewhere on whatever page. -/

theorem rd_wr_place {f g : Fld} (P Q v : Nat) (s : State) (h : (g.off, g.lo) ≠ (f.off, f.lo)) :
    rd (wr P f v s) Q g = rd s Q g :=
  rd_wr_other _ _ _ _ _ _ (fun e => h (by simp_all [Fld.key]))

theorem rd_raise_off {g : Fld} (P Q b : Nat) (s : State) (h : g.off ≠ R.EVT_RAW.off ∧ g.off ≠ R.EVT_PEND.off) :
    rd (raise P b s) Q g = rd s Q g :=
  (raise_kept P b s).rd Q g (by simp [evtRegs, h.1, h.2])

theorem rd_bumpBy_off {f g : Fld} (P Q k : Nat) (s : State) (h : g.off ≠ f.off) :
    rd (bumpBy P f k s) Q g = rd s Q g :=
  (bumpBy_kept P f k s).rd Q g (by simp [h])

theorem raise_only (P b : Nat) (s : State) :
    raise P b s = { s with regs := (raise P b s).regs, strikes := (raise P b s).strikes } := by
  unfold raise raiseTo
  dsimp only
  split <;> rfl

theorem bumpBy_only (P : Nat) (f : Fld) (k : Nat) (s : State) :
    bumpBy P f k s = { s with regs := (bumpBy P f k s).regs } := by
  unfold bumpBy
  split <;> rfl

/-! A port's record. -/

/-- Two records of a port that differ at most in the transmit queues. -/
def SameButTxq (p q : FiuPort) : Prop := ∃ x, q = { p with txq := x }

theorem SameButTxq.refl (p : FiuPort) : SameButTxq p p := ⟨_, rfl⟩

theorem SameButTxq.of_eq {p q : FiuPort} (h : q = p) : SameButTxq p q := h ▸ SameButTxq.refl p

theorem SameButTxq.trans {p q r : FiuPort} (h1 : SameButTxq p q) (h2 : SameButTxq q r) : SameButTxq p r := by
  obtain ⟨x, rfl⟩ := h1
  obtain ⟨y, rfl⟩ := h2
  exact ⟨y, rfl⟩

theorem SameButTxq.eq {p q : FiuPort} (h : SameButTxq p q) : q = { p with txq := q.txq } := by
  obtain ⟨x, rfl⟩ := h
  rfl

theorem EgrStep.sameButTxq {s t : State} (h : EgrStep s t) (m : Nat) : SameButTxq (fiuGet s m) (fiuGet t m) := h.port m

@[simp] theorem fiuGet_wr (P : Nat) (f : Fld) (v : Nat) (s : State) (m : Nat) : fiuGet (wr P f v s) m = fiuGet s m := rfl

@[simp] theorem fiuGet_raise (P b : Nat) (s : State) (m : Nat) : fiuGet (raise P b s) m = fiuGet s m := by
  unfold fiuGet
  rw [raise_fiu]

@[simp] theorem fiuGet_bumpBy (P : Nat) (f : Fld) (k : Nat) (s : State) (m : Nat) :
    fiuGet (bumpBy P f k s) m = fiuGet s m := by
  unfold fiuGet
  rw [bumpBy_fiu]

@[simp] theorem fiuGet_fiuMod_self (n : Nat) (f : FiuPort → FiuPort) (s : State) :
    fiuGet (fiuMod n f s) n = f (fiuGet s n) := by rw [fiuGet_fiuMod, if_pos rfl]

theorem fiuGet_fiuMod_other {m n : Nat} (f : FiuPort → FiuPort) (s : State) (h : m ≠ n) :
    fiuGet (fiuMod n f s) m = fiuGet s m := by rw [fiuGet_fiuMod, if_neg h]

@[simp] theorem rd_fiuMod (n : Nat) (f : FiuPort → FiuPort) (s : State) (P : Nat) (g : Fld) :
    rd (fiuMod n f s) P g = rd s P g := rfl

@[simp] theorem fiuState_fiuMod (n m : Nat) (f : FiuPort → FiuPort) (s : State) :
    fiuState (fiuMod n f s) m = fiuState s m := rfl

theorem fiuState_raise (P b : Nat) (s : State) (m : Nat) : fiuState (raise P b s) m = fiuState s m :=
  rd_raise_off P _ b s (by decide)

theorem fiuState_bumpBy {f : Fld} (P k : Nat) (s : State) (m : Nat) (h : R.FIU_LINK_STAT_STATE.off ≠ f.off) :
    fiuState (bumpBy P f k s) m = fiuState s m := rd_bumpBy_off P _ k s h

/-! What a link change may touch. -/

/-- The registers that a change of F[n]'s link may write, FIU_LINK_CTRL apart, which only software writes. -/
def linkRegs (n : Nat) : List (Nat × Nat) :=
  [(pgFiu n, R.FIU_LINK_STAT_STATE.off), (pgFiu n, R.FIU_CNT_MALFORMED.off), (pgFiu n, R.FIU_CNT_RECOVER.off)] ++
    evtRegs (pgFiu n) ++ egrRegs

theorem pgFiu_not_egrRegs (n off : Nat) : (pgFiu n, off) ∉ egrRegs := by
  have h : ∀ h : Half, pgFiu n ≠ pgEgress h := by
    intro h e
    have hk := congrArg pageKind e
    rw [pageKind_pgFiu] at hk
    cases h <;> exact absurd hk (by decide)
  simp [egrRegs, evtRegs, h]

/-- What any part of a change of F[n]'s link leaves alone. -/
structure LinkStep (n : Nat) (s t : State) : Prop where
  frame : t = { s with
    regs := t.regs, fiu := t.fiu, egr := t.egr, strikes := t.strikes, fifos := t.fifos, woLatch := t.woLatch }
  regs : RegsKept (linkRegs n) s t
  port : ∀ m, m ≠ n → SameButTxq (fiuGet s m) (fiuGet t m)

section
variable {n : Nat} {s t u : State}

theorem linkRegs_ctrl : (pgFiu n, R.FIU_LINK_CTRL_EN.off) ∉ linkRegs n := by
  simp [linkRegs, evtRegs, pgFiu_not_egrRegs]
  decide

/-- A link change leaves FIU_LINK_CTRL. -/
theorem LinkStep.rd_ctrl (h : LinkStep n s t) {f : Fld} (hf : f.off = R.FIU_LINK_CTRL_EN.off) :
    rd t (pgFiu n) f = rd s (pgFiu n) f := h.regs.rd _ f (hf ▸ linkRegs_ctrl)

theorem linkRegs_sub {p : Nat × Nat} (h : p ∈ linkRegs n) :
    p ∈ [(pgFiu n, R.FIU_LINK_STAT_STATE.off), (pgFiu n, R.FIU_LINK_CTRL_EN.off), (pgFiu n, R.FIU_CNT_MALFORMED.off),
      (pgFiu n, R.FIU_CNT_RECOVER.off)] ++ evtRegs (pgFiu n) ++ egrRegs := by
  simp only [linkRegs, List.mem_append, List.mem_cons] at h ⊢
  tauto

theorem LinkStep.linkFrame (h : LinkStep n s t) : LinkFrame n s t :=
  ⟨h.frame, h.regs.mono fun _ => linkRegs_sub, fun m hm => (h.port m hm).eq⟩

/-- The frame of a link change that begins with a write of a field of FIU_LINK_CTRL. -/
theorem LinkStep.linkFrame_of_ctrl {f : Fld} {v P : Nat} (h : LinkStep n u t)
    (hu : wr (pgFiu n) f v (unlatched P s) = u) (hf : f.off = R.FIU_LINK_CTRL_EN.off) : LinkFrame n s t := by
  subst hu
  refine ⟨?_, ?_, fun m hm => (h.port m hm).eq⟩
  · have e := h.frame
    rw [e]
    rfl
  · exact ((wr_kept _ f v (unlatched P s)).mono (by simp [hf])).trans (h.regs.mono fun _ => linkRegs_sub)

theorem LinkStep.refl (n : Nat) (s : State) : LinkStep n s s := ⟨rfl, RegsKept.refl _ s, fun _ _ => .refl _⟩

theorem LinkStep.trans (h1 : LinkStep n s t) (h2 : LinkStep n t u) : LinkStep n s u := by
  refine ⟨?_, h1.regs.trans h2.regs, fun m hm => (h1.port m hm).trans (h2.port m hm)⟩
  have e1 := h1.frame
  have e2 := h2.frame
  rw [e1] at e2
  exact e2

theorem EgrStep.linkStep (n : Nat) (h : EgrStep s t) : LinkStep n s t := by
  refine ⟨?_, h.regs.mono fun _ hp => List.mem_append_right _ hp, fun m _ => h.port m⟩
  have e := h.frame
  rw [e]

/-- An update of nothing but registers that a link change may write. -/
theorem LinkStep.of_regs (hf : t = { s with regs := t.regs, strikes := t.strikes }) {ex : List (Nat × Nat)}
    (hr : RegsKept ex s t) (hx : ∀ p ∈ ex, p ∈ linkRegs n) : LinkStep n s t :=
  ⟨by rw [hf], hr.mono hx, fun m _ => .of_eq (by rw [hf]; rfl)⟩

end

theorem wr_linkStep (n : Nat) {f : Fld} (v : Nat) (s : State) (h : f.off = R.FIU_LINK_STAT_STATE.off) :
    LinkStep n s (wr (pgFiu n) f v s) :=
  .of_regs rfl (wr_kept _ f v s) (by simp [linkRegs, h])

theorem bumpBy_linkStep (n : Nat) {f : Fld} (k : Nat) (s : State)
    (h : f = R.FIU_CNT_MALFORMED ∨ f = R.FIU_CNT_RECOVER) : LinkStep n s (bumpBy (pgFiu n) f k s) :=
  .of_regs (by rw [bumpBy_only]) (bumpBy_kept _ f k s) (by rcases h with rfl | rfl <;> simp [linkRegs])

theorem raise_linkStep (n b : Nat) (s : State) : LinkStep n s (raise (pgFiu n) b s) :=
  .of_regs (raise_only _ b s) (raise_kept _ b s) fun _ hp => List.mem_append_left _ (List.mem_append_right _ hp)

theorem fiuMod_linkStep (n : Nat) (f : FiuPort → FiuPort) (s : State) : LinkStep n s (fiuMod n f s) :=
  ⟨rfl, RegsKept.of_eq rfl, fun _ hm => .of_eq (fiuGet_fiuMod_other f s hm)⟩

theorem unlatched_linkStep (n P : Nat) (s : State) : LinkStep n s (unlatched P s) :=
  ⟨rfl, RegsKept.of_eq rfl, fun _ _ => .refl _⟩

theorem foldl_fifos_only {α : Type} (f : State → α → State) (h : ∀ t a, ∃ x, f t a = { t with fifos := x })
    (l : List α) (s : State) : ∃ x, l.foldl f s = { s with fifos := x } := by
  induction l generalizing s with
  | nil => exact ⟨s.fifos, rfl⟩
  | cons a r ih =>
    obtain ⟨x, hx⟩ := h s a
    obtain ⟨y, hy⟩ := ih (f s a)
    exact ⟨y, by rw [List.foldl_cons, hy, hx]⟩

theorem fiuFifos_only (n : Nat) (s : State) : ∃ x, fiuFifos n s = { s with fifos := x } :=
  foldl_fifos_only _ (fun _ _ => ⟨_, rfl⟩) _ s

@[simp] theorem fiuGet_fiuFifos (n m : Nat) (s : State) : fiuGet (fiuFifos n s) m = fiuGet s m := by
  obtain ⟨x, hx⟩ := fiuFifos_only n s
  rw [hx]
  rfl

theorem fiuFifos_linkStep (n : Nat) (s : State) : LinkStep n s (fiuFifos n s) := by
  obtain ⟨x, hx⟩ := fiuFifos_only n s
  rw [hx]
  exact ⟨rfl, .of_eq rfl, fun _ _ => .refl _⟩

/-! A link's state set. -/

theorem EgrStep.rd_pgFiu {s t : State} (h : EgrStep s t) (n : Nat) (f : Fld) : rd t (pgFiu n) f = rd s (pgFiu n) f :=
  h.regs.rd _ f (pgFiu_not_egrRegs n f.off)

theorem fiuSetState_egr (n st : Nat) (s : State) :
    EgrStep (wr (pgFiu n) R.FIU_LINK_STAT_STATE st s) (fiuSetState n st s) := withEgress_step _ s

theorem fiuSetState_linkStep (n st : Nat) (s : State) : LinkStep n s (fiuSetState n st s) :=
  (wr_linkStep n st s rfl).trans ((fiuSetState_egr n st s).linkStep n)

theorem fiuState_fiuSetState (n : Nat) {st : Nat} (s : State) (h : st < 16) : fiuState (fiuSetState n st s) n = st := by
  unfold fiuState
  rw [(fiuSetState_egr n st s).rd_pgFiu, rd_wr_self]
  exact Nat.mod_eq_of_lt h

theorem rd_fiuSetState (n st : Nat) (s : State) {f : Fld}
    (h : (f.off, f.lo) ≠ (R.FIU_LINK_STAT_STATE.off, R.FIU_LINK_STAT_STATE.lo)) :
    rd (fiuSetState n st s) (pgFiu n) f = rd s (pgFiu n) f := by
  rw [(fiuSetState_egr n st s).rd_pgFiu, rd_wr_place _ _ _ _ h]

theorem fiuGet_fiuSetState (n st : Nat) (s : State) (m : Nat) : SameButTxq (fiuGet s m) (fiuGet (fiuSetState n st s) m) :=
  (fiuSetState_egr n st s).port m

/-! Leaving a link (R62). -/

/-- What leaving the link does before and after the state that it enters is set. -/
theorem fiuSalvage_steps (n : Nat) (enter : State → State) (s : State) :
    ∃ u, LinkStep n s u ∧ (fiuGet u n).held = [] ∧ (fiuGet u n).sent = [] ∧ EgrStep (enter u) (fiuSalvage n enter s) := by
  refine ⟨_, ?_, ?_, ?_, resend_step _ _⟩
  · exact ((bumpBy_linkStep n _ s (.inl rfl)).trans (fiuMod_linkStep n _ _)).trans (fiuFifos_linkStep n _)
  · rw [fiuGet_fiuFifos, fiuGet_fiuMod_self]
  · rw [fiuGet_fiuFifos, fiuGet_fiuMod_self]

/-- A port that has left its link for state `st` with a cause holds nothing for replay. -/
structure Left (n st cause : Nat) (s t : State) : Prop where
  state : fiuState t n = st
  cause : rd t (pgFiu n) R.FIU_LINK_STAT_CAUSE = cause
  held : (fiuGet t n).held = []
  sent : (fiuGet t n).sent = []
  step : LinkStep n s t

/-- Leaving the link, where the state is entered by its own registers and events alone. -/
theorem fiuSalvage_left {n st cause : Nat} {enter : State → State} (s : State)
    (hstate : ∀ u, fiuState (enter u) n = st) (hcause : ∀ u, rd (enter u) (pgFiu n) R.FIU_LINK_STAT_CAUSE = cause)
    (hport : ∀ u, SameButTxq (fiuGet u n) (fiuGet (enter u) n)) (hstep : ∀ u, LinkStep n u (enter u)) :
    Left n st cause s (fiuSalvage n enter s) := by
  obtain ⟨u, hu, hheld, hsent, he⟩ := fiuSalvage_steps n enter s
  have hp := ((hport u).trans (he.sameButTxq n)).eq
  refine ⟨(he.rd_pgFiu n _).trans (hstate u), (he.rd_pgFiu n _).trans (hcause u), ?_, ?_,
    (hu.trans (hstep u)).trans (he.linkStep n)⟩
  · rw [hp]; exact hheld
  · rw [hp]; exact hsent

theorem fiuDown_left (n : Nat) {cause : Nat} (s : State) (h : cause < 16) :
    Left n fsDOWN cause s (fiuDown n cause s) := by
  refine fiuSalvage_left s (fun _ => fiuState_fiuSetState n _ (by decide)) (fun u => ?_) (fun u => ?_) fun u => ?_
  · rw [rd_fiuSetState _ _ _ (by decide), rd_raise_off _ _ _ _ (by decide), rd_wr_self]
    exact Nat.mod_eq_of_lt h
  · have h := fiuGet_fiuSetState n fsDOWN (raise (pgFiu n) 1 (wr (pgFiu n) R.FIU_LINK_STAT_CAUSE cause u)) n
    rwa [fiuGet_raise, fiuGet_wr] at h
  · exact ((wr_linkStep n (f := R.FIU_LINK_STAT_CAUSE) _ u rfl).trans (raise_linkStep n 1 _)).trans
      (fiuSetState_linkStep n _ _)

theorem fiuDisable_left (n : Nat) (s : State) : Left n fsDISABLED 8 s (fiuDisable n s) := by
  refine fiuSalvage_left s (fun _ => fiuState_fiuSetState n _ (by decide)) (fun u => ?_) (fun u => ?_) fun u => ?_
  · rw [rd_fiuSetState _ _ _ (by decide), rd_wr_self]
    rfl
  · exact fiuGet_fiuSetState n fsDISABLED (wr (pgFiu n) R.FIU_LINK_STAT_CAUSE 8 u) n
  · exact (wr_linkStep n (f := R.FIU_LINK_STAT_CAUSE) _ u rfl).trans (fiuSetState_linkStep n _ _)

theorem Left.fellDown {n cause : Nat} {s t : State} (h : Left n fsDOWN cause s t) : FellDown n cause s t :=
  ⟨h.state, h.cause, h.held, h.sent, h.step.linkFrame⟩

theorem fiuDown_fellDown (n : Nat) {cause : Nat} (s : State) (h : cause < 16) : FellDown n cause s (fiuDown n cause s) :=
  (fiuDown_left n s h).fellDown

end Sys2Proof.Machine
end

section
/-!
CERTIFICATE. The timers and losses of a fabric link (R58, R62).
-/
namespace Sys2Proof.Machine

/-- A command that takes the link down where a condition holds, which it does. -/
theorem ends_fiuDown {c : Instr} {s : State} {n cause : Nat} {p : Prop} [Decidable p] (hp : p) (hc : cause < 16)
    (h : exec c s = done (if p then fiuDown n cause s else s)) : Ends c s (FellDown n cause s) := by
  rw [if_pos hp] at h
  exact ends_done h (fiuDown_fellDown n s hc)

theorem downWaitExpiry_trains {s : State} {n : Nat} (h : fiuState s n = fsDOWN) :
    Ends (.downWaitExpiry n) s (fun t => fiuState t n = fsTRAIN ∧ LinkFrame n s t) :=
  ends_done (congrArg done (if_pos h)) ⟨fiuState_fiuSetState n s (by decide), (fiuSetState_linkStep n _ s).linkFrame⟩

/-- The state of a RECOVER whose next attempt begins. -/
theorem recoverTimeout_again {s : State} {n : Nat} (h : fiuState s n = fsRECOVER)
    (ha : (fiuGet s n).attempts < max 1 (rd s (pgFiu n) R.FIU_LINK_CTRL_RECOVER_LIMIT)) :
    Ends (.recoverTimeout n) s (fun t => fiuState t n = fsRECOVER ∧
      (fiuGet t n).attempts = (fiuGet s n).attempts + 1 ∧ t = { s with fiu := t.fiu }) :=
  ends_done (congrArg done ((if_pos h).trans (if_pos ha))) ⟨h, by rw [fiuGet_fiuMod_self], rfl⟩

theorem recoverTimeout_gives_up {s : State} {n : Nat} (h : fiuState s n = fsRECOVER)
    (ha : max 1 (rd s (pgFiu n) R.FIU_LINK_CTRL_RECOVER_LIMIT) ≤ (fiuGet s n).attempts) :
    Ends (.recoverTimeout n) s (FellDown n 7 s) :=
  ends_done (congrArg done ((if_pos h).trans (if_neg (Nat.not_lt.mpr ha)))) (fiuDown_fellDown n s (by decide))

/-- Settles O1: every fall is `fiuDown` with the cause of R58's table. -/
theorem fabricTimersMoveTheLink : Obligations.FabricTimersMoveTheLink := by
  unfold Obligations.FabricTimersMoveTheLink
  exact fun s n _ => ⟨downWaitExpiry_trains, fun h => ends_fiuDown h (by decide) rfl,
    fun h => ends_fiuDown h (by decide) rfl, fun h => ends_fiuDown h (by decide) rfl,
    fun h => ends_fiuDown h (by decide) rfl, recoverTimeout_again, recoverTimeout_gives_up,
    fun lane h hl => ends_fiuDown (Or.inl ⟨h, hl⟩) (by decide) rfl,
    fun h => ends_fiuDown (Or.inr ⟨h, rfl⟩) (by decide) rfl⟩

end Sys2Proof.Machine
end

section
/-!
CERTIFICATE. The controls of a fabric port, its training and its alignment (R52, R58, R59, R64).
-/
namespace Sys2Proof.Machine

/-! Entries of RECOVER, INIT and ALIGN. -/

/-- A state entered through its registers and record alone: the state, the record but for the transmit queues, the frame. -/
structure Entered (n st : Nat) (p : FiuPort) (s t : State) : Prop where
  state : fiuState t n = st
  port : SameButTxq p (fiuGet t n)
  step : LinkStep n s t

theorem fiuSetState_entered {n st : Nat} {s u : State} (hst : st < 16) (h : LinkStep n s u) :
    Entered n st (fiuGet u n) s (fiuSetState n st u) :=
  ⟨fiuState_fiuSetState n u hst, fiuGet_fiuSetState n st u n, h.trans (fiuSetState_linkStep n st u)⟩

/-- The record of a port as its first RECOVER attempt begins. -/
def recoverPort (p : FiuPort) : FiuPort :=
  { p with
    attempts := 1, alignRun := 0, resume := false, ctlRun := 0, uncorrRun := 0, noProg := 0, lpiRun := 0, cwNext := none }

theorem fiuRecover_entered (n : Nat) (s : State) :
    Entered n fsRECOVER (recoverPort (fiuGet s n)) s (fiuRecover n s) := by
  have h := fiuSetState_entered (st := fsRECOVER) (by decide) (((fiuMod_linkStep n recoverPort s).trans
    (bumpBy_linkStep n 1 _ (.inr rfl))).trans (raise_linkStep n 2 _))
  rwa [fiuGet_raise, fiuGet_bumpBy, fiuGet_fiuMod_self] at h

/-- The record of a port that enters INIT. -/
def initPort (s : State) (n : Nat) (p : FiuPort) : FiuPort :=
  { p with
    txNext := 0, expect := 0, gap := false, consumed := [], crdCum := [],
    returned := [0, 1, 2, 3, 4, 5].foldl (fun t v => tput 0 t v (poolOf s n v)) [], vcbuf := [],
    ctlRun := 0, ackedTx := false, ackedRx := false }

theorem fiuInit_entered (n : Nat) (s : State) : Entered n fsINIT (initPort s n (fiuGet s n)) s (fiuInit n s) := by
  have h := fiuSetState_entered (st := fsINIT) (by decide) (fiuMod_linkStep n (initPort s n) s)
  rwa [fiuGet_fiuMod_self] at h

/-- What TRAIN_COMPLETE does where the lanes of `mask` come into use. -/
def toAlign (n mask w : Nat) (s : State) : State :=
  fiuSetState n fsALIGN (fiuMod n (fun p => { p with alignRun := 0, cwNext := none })
    (wr (pgFiu n) R.FIU_LINK_STAT_LANE_MASK mask (wr (pgFiu n) R.FIU_LINK_STAT_WIDTH w s)))

theorem trainComplete_eq (n lanes : Nat) (s : State) : trainComplete n lanes s =
    if fiuState s n ≠ fsTRAIN then s
    else if lanes % 256 = 255 then toAlign n 255 2 s
    else if rdB s (pgFiu n) R.FIU_LINK_CTRL_WIDTH4_OK then
      if lanes % 16 = 15 then raise (pgFiu n) 3 (toAlign n 15 1 s)
      else if lanes / 16 % 16 = 15 then raise (pgFiu n) 3 (toAlign n 240 1 s)
      else fiuDown n 2 s
    else fiuDown n 2 s := rfl

/-- A port in ALIGN with the lanes of `mask`, `w` of them. -/
def Aligns (n mask w : Nat) (s t : State) : Prop :=
  fiuState t n = fsALIGN ∧ rd t (pgFiu n) R.FIU_LINK_STAT_LANE_MASK = mask ∧ fiuWidth t n = w ∧ LinkFrame n s t

theorem toAlign_linkStep (n mask w : Nat) (s : State) : LinkStep n s (toAlign n mask w s) :=
  (((wr_linkStep n (f := R.FIU_LINK_STAT_WIDTH) w s rfl).trans
    (wr_linkStep n (f := R.FIU_LINK_STAT_LANE_MASK) mask _ rfl)).trans (fiuMod_linkStep n _ _)).trans
    (fiuSetState_linkStep n fsALIGN _)

theorem toAlign_mask (n : Nat) {mask : Nat} (w : Nat) (s : State) (h : mask < 256) :
    rd (toAlign n mask w s) (pgFiu n) R.FIU_LINK_STAT_LANE_MASK = mask := by
  rw [toAlign, rd_fiuSetState _ _ _ (by decide), rd_fiuMod, rd_wr_self]
  exact Nat.mod_eq_of_lt h

theorem toAlign_width (n mask : Nat) {w : Nat} (s : State) (h : w < 4) :
    rd (toAlign n mask w s) (pgFiu n) R.FIU_LINK_STAT_WIDTH = w := by
  rw [toAlign, rd_fiuSetState _ _ _ (by decide), rd_fiuMod, rd_wr_place _ _ _ _ (by decide), rd_wr_self]
  exact Nat.mod_eq_of_lt h

theorem toAlign_wide (n : Nat) (s : State) : Aligns n 255 8 s (toAlign n 255 2 s) :=
  ⟨fiuState_fiuSetState n _ (by decide), toAlign_mask n 2 s (by decide),
    by rw [fiuWidth, toAlign_width n 255 s (by decide)]; rfl, (toAlign_linkStep n 255 2 s).linkFrame⟩

theorem toAlign_narrow (n : Nat) {mask : Nat} (s : State) (h : mask < 256) :
    Aligns n mask 4 s (raise (pgFiu n) 3 (toAlign n mask 1 s)) := by
  refine ⟨?_, ?_, ?_, ((toAlign_linkStep n mask 1 s).trans (raise_linkStep n 3 _)).linkFrame⟩
  · rw [fiuState_raise]
    exact fiuState_fiuSetState n _ (by decide)
  · rw [rd_raise_off _ _ _ _ (by decide), toAlign_mask n 1 s h]
  · rw [fiuWidth, rd_raise_off _ _ _ _ (by decide), toAlign_width n mask s (by decide)]
    rfl

section
variable {s : State} {n lanes : Nat}

theorem trainComplete_all (h : fiuState s n = fsTRAIN) : Ends (.trainComplete n 255) s (Aligns n 255 8 s) := by
  refine ends_done (congrArg done (trainComplete_eq n 255 s)) ?_
  rw [if_neg (not_not.mpr h), if_pos rfl]
  exact toAlign_wide n s

theorem trainComplete_low (h : fiuState s n = fsTRAIN) (hw : rdB s (pgFiu n) R.FIU_LINK_CTRL_WIDTH4_OK = true)
    (hl : lanes < 255) (h15 : lanes % 16 = 15) : Ends (.trainComplete n lanes) s (Aligns n 15 4 s) := by
  refine ends_done (congrArg done (trainComplete_eq n lanes s)) ?_
  rw [if_neg (not_not.mpr h), if_neg (by omega), if_pos hw, if_pos h15]
  exact toAlign_narrow n s (by decide)

theorem trainComplete_high (h : fiuState s n = fsTRAIN) (hw : rdB s (pgFiu n) R.FIU_LINK_CTRL_WIDTH4_OK = true)
    {low : Nat} (hl : low < 15) : Ends (.trainComplete n (240 + low)) s (Aligns n 240 4 s) := by
  refine ends_done (congrArg done (trainComplete_eq n (240 + low) s)) ?_
  rw [if_neg (not_not.mpr h), if_neg (by omega), if_pos hw, if_neg (by omega), if_pos (by omega)]
  exact toAlign_narrow n s (by decide)

theorem trainComplete_fails (h : fiuState s n = fsTRAIN) (hl : lanes < 255)
    (hn : rdB s (pgFiu n) R.FIU_LINK_CTRL_WIDTH4_OK = false ∨ (lanes % 16 ≠ 15 ∧ lanes / 16 ≠ 15)) :
    Ends (.trainComplete n lanes) s (FellDown n 2 s) := by
  refine ends_done (congrArg done (trainComplete_eq n lanes s)) ?_
  rw [if_neg (not_not.mpr h), if_neg (by omega)]
  have hd : FellDown n 2 s (fiuDown n 2 s) := fiuDown_fellDown n s (by decide)
  rcases hn with hw | ⟨hlow, hhigh⟩
  · rwa [if_neg (by simp [hw])]
  · rw [if_neg hlow]
    split
    · rwa [if_neg (by omega)]
    · exact hd

/-! Alignment. -/

theorem alignLock_ends_align (h : fiuState s n = fsALIGN) (hr : 64 ≤ (fiuGet s n).alignRun) :
    Ends (.alignLock n) s (fun t => fiuState t n = fsINIT ∧ (fiuGet t n).txNext = 0 ∧ (fiuGet t n).expect = 0 ∧
      (fiuGet t n).consumed = [] ∧ (fiuGet t n).crdCum = [] ∧ LinkFrame n s t) := by
  refine ends_done (congrArg done ((if_pos hr).trans (if_pos h))) ?_
  obtain ⟨hs, ⟨q, hp⟩, hf⟩ := fiuInit_entered n s
  rw [hp]
  exact ⟨hs, rfl, rfl, rfl, rfl, hf.linkFrame⟩

theorem alignLock_resumes (h : fiuState s n = fsRECOVER) (hr : 64 ≤ (fiuGet s n).alignRun) :
    Ends (.alignLock n) s (fun t => (fiuGet t n).resume = true ∧ t = { s with fiu := t.fiu }) := by
  have ha : fiuState s n ≠ fsALIGN := by rw [h]; decide
  refine ends_done (congrArg done ((if_pos hr).trans ((if_neg ha).trans (if_pos h)))) ⟨?_, rfl⟩
  rw [fiuGet_fiuMod_self]

/-! Software's controls. -/

theorem fiuEnWrite_off (p : Path) (hl : pageLive s (pgFiu n) = true)
    (he : rdB s (pgFiu n) R.FIU_LINK_CTRL_EN = true) :
    Ends (.fiuEnWrite n false p) s (fun t => fiuState t n = fsDISABLED ∧ rd t (pgFiu n) R.FIU_LINK_STAT_CAUSE = 8 ∧
      rdB t (pgFiu n) R.FIU_LINK_CTRL_EN = false ∧ (fiuGet t n).held = [] ∧ LinkFrame n s t) := by
  refine ends_onPage_live hl rfl ?_
  have e : fiuEnWrite n false p (unlatched (pgFiu n) s) =
      fiuDisable n (wr (pgFiu n) R.FIU_LINK_CTRL_EN 0 (unlatched (pgFiu n) s)) :=
    (if_neg (fun x => Bool.noConfusion (he.symm.trans x))).trans (if_neg Bool.false_ne_true)
  rw [e]
  obtain ⟨hs, hc, hh, -, hf⟩ := fiuDisable_left n (wr (pgFiu n) R.FIU_LINK_CTRL_EN 0 (unlatched (pgFiu n) s))
  refine ⟨hs, hc, ?_, hh, hf.linkFrame_of_ctrl rfl rfl⟩
  rw [rdB, hf.rd_ctrl rfl, rd_wr_self]
  rfl

/-- A write of EN = 1 on a disabled port is judged by the pools. -/
theorem fiuEnWrite_on_eq (p : Path) (he : rdB s (pgFiu n) R.FIU_LINK_CTRL_EN = false) : fiuEnWrite n true p s =
    if poolsOk s n then fiuSetState n fsDOWN (raise (pgFiu n) 1 (wr (pgFiu n) R.FIU_LINK_CTRL_EN 1 s))
    else cfgReject (pgFiu n) 0x80 3 .live (some p) s :=
  (if_neg (fun x => Bool.noConfusion (he.symm.trans x))).trans (if_pos rfl)

theorem fiuEnWrite_on (p : Path) (hl : pageLive s (pgFiu n) = true)
    (he : rdB s (pgFiu n) R.FIU_LINK_CTRL_EN = false) (hp : poolsOk s n = true) :
    Ends (.fiuEnWrite n true p) s (fun t => fiuState t n = fsDOWN ∧ rdB t (pgFiu n) R.FIU_LINK_CTRL_EN = true ∧
      rd t (pgFiu n) R.FIU_LINK_STAT_CAUSE = rd s (pgFiu n) R.FIU_LINK_STAT_CAUSE ∧ LinkFrame n s t) := by
  refine ends_onPage_live hl rfl ?_
  rw [fiuEnWrite_on_eq (s := unlatched (pgFiu n) s) p he, if_pos (show poolsOk (unlatched (pgFiu n) s) n = true from hp)]
  generalize hu : wr (pgFiu n) R.FIU_LINK_CTRL_EN 1 (unlatched (pgFiu n) s) = u
  have hf : LinkStep n u (fiuSetState n fsDOWN (raise (pgFiu n) 1 u)) :=
    (raise_linkStep n 1 u).trans (fiuSetState_linkStep n fsDOWN _)
  refine ⟨fiuState_fiuSetState n _ (by decide), ?_, ?_, hf.linkFrame_of_ctrl hu rfl⟩
  · rw [rdB, hf.rd_ctrl rfl, ← hu, rd_wr_self]
    rfl
  · rw [rd_fiuSetState _ _ _ (by decide), rd_raise_off _ _ _ _ (by decide), ← hu, rd_wr_place _ _ _ _ (by decide)]
    rfl

theorem fiuEnWrite_refused (p : Path) (hl : pageLive s (pgFiu n) = true)
    (he : rdB s (pgFiu n) R.FIU_LINK_CTRL_EN = false) (hp : poolsOk s n = false) :
    Ends (.fiuEnWrite n true p) s (fun t =>
      t = cfgReject (pgFiu n) 0x80 3 .live (some p) { s with woLatch := t.woLatch }) := by
  refine ends_onPage_live hl rfl ?_
  have hp' : ¬ poolsOk (unlatched (pgFiu n) s) n = true := fun x => Bool.noConfusion (hp.symm.trans x)
  rw [fiuEnWrite_on_eq (s := unlatched (pgFiu n) s) p he, if_neg hp', cfgReject_woLatch]
  rfl

theorem fiuRetrain_recovers (hl : pageLive s (pgFiu n) = true) (h : fiuState s n = fsACTIVE) :
    Ends (.fiuRetrain n) s (fun t => fiuState t n = fsRECOVER ∧ (fiuGet t n).attempts = 1 ∧ LinkFrame n s t) := by
  refine ends_onPage_live hl rfl ?_
  rw [fiuRetrain, if_pos (show fiuState (unlatched (pgFiu n) s) n = fsACTIVE from h)]
  obtain ⟨hs, ⟨q, hp⟩, hf⟩ := fiuRecover_entered n (unlatched (pgFiu n) s)
  rw [hp]
  exact ⟨hs, rfl, ((unlatched_linkStep n _ s).trans hf).linkFrame⟩

theorem fiuRetrain_elsewhere (hl : pageLive s (pgFiu n) = true) (h : fiuState s n ≠ fsACTIVE) :
    Ends (.fiuRetrain n) s (fun t => t = { s with woLatch := t.woLatch }) := by
  refine ends_onPage_live hl rfl ?_
  rw [fiuRetrain, if_neg (show fiuState (unlatched (pgFiu n) s) n ≠ fsACTIVE from h)]
  rfl

theorem bit_stored (v : Bool) : (bit v % 2 ^ R.FIU_LINK_CTRL_LP_REQ.w != 0) = v := by cases v <;> rfl

theorem fiuState_wr_lpReq (v : Nat) : fiuState (wr (pgFiu n) R.FIU_LINK_CTRL_LP_REQ v s) n = fiuState s n :=
  rd_wr_place _ _ _ _ (by decide)

theorem lpReqWrite_stored (v : Bool) (hl : pageLive s (pgFiu n) = true) (h : fiuState s n ≠ fsLOWPWR) :
    Ends (.lpReqWrite n v) s (fun t => rdB t (pgFiu n) R.FIU_LINK_CTRL_LP_REQ = v ∧
      t = { s with regs := t.regs, woLatch := t.woLatch } ∧ RegsKept [(pgFiu n, R.FIU_LINK_CTRL_EN.off)] s t) := by
  refine ends_onPage_live hl rfl ?_
  have hs : ¬ fiuState (wr (pgFiu n) R.FIU_LINK_CTRL_LP_REQ (bit v) (unlatched (pgFiu n) s)) n = fsLOWPWR :=
    fun x => h ((fiuState_wr_lpReq _).symm.trans x)
  rw [lpReqWrite, lpiCheck, if_neg (fun x => hs x.1)]
  refine ⟨?_, rfl, wr_kept (pgFiu n) R.FIU_LINK_CTRL_LP_REQ (bit v) (unlatched (pgFiu n) s)⟩
  rw [rdB, rd_wr_self, bit_stored]

theorem lpReqWrite_wakes (hl : pageLive s (pgFiu n) = true) (h : fiuState s n = fsLOWPWR)
    (hp : (fiuGet s n).pmLpi = false) :
    Ends (.lpReqWrite n false) s (fun t => fiuState t n = fsACTIVE ∧ LinkFrame n s t) := by
  refine ends_onPage_live hl rfl ?_
  generalize hu : wr (pgFiu n) R.FIU_LINK_CTRL_LP_REQ (bit false) (unlatched (pgFiu n) s) = u
  have hs : fiuState u n = fsLOWPWR := by rw [← hu, fiuState_wr_lpReq]; exact h
  have hx : ¬ lpiTx u n = true := by
    have hb : rdB u (pgFiu n) R.FIU_LINK_CTRL_LP_REQ = false := by rw [← hu, rdB, rd_wr_self, bit_stored]
    have hg : (fiuGet u n).pmLpi = false := by rw [← hu]; exact hp
    simp [lpiTx, hb, hg]
  rw [lpReqWrite, hu, lpiCheck, if_pos ⟨hs, hx⟩]
  have hf : LinkStep n u (fiuSetState n fsACTIVE (fiuMod n (fun p => { p with lpiRun := 0 }) u)) :=
    (fiuMod_linkStep n _ u).trans (fiuSetState_linkStep n fsACTIVE _)
  exact ⟨fiuState_fiuSetState n _ (by decide), hf.linkFrame_of_ctrl hu rfl⟩

end

/-- Settles O2: each control and each end of training or alignment enters its state by the rules above. -/
theorem fabricLinkControlsAct : Obligations.FabricLinkControlsAct := by
  unfold Obligations.FabricLinkControlsAct
  exact fun s n p _ => ⟨fiuEnWrite_off p, fiuEnWrite_on p, fiuEnWrite_refused p, fiuRetrain_recovers, fiuRetrain_elsewhere,
    lpReqWrite_stored, lpReqWrite_wakes, trainComplete_all, fun h hw _ => trainComplete_low h hw,
    fun h hw _ => trainComplete_high h hw, fun h _ => trainComplete_fails h, alignLock_ends_align, alignLock_resumes⟩

end Sys2Proof.Machine
end

section
/-!
CERTIFICATE. Egress masks and holds (R79, R82, R89).
-/
namespace Sys2Proof.Machine

/-! The egress choice's own work leaves eligible sets and the changes that hold destinations. -/

theorem egrMod_at (h g : Half) (f : Egress → Egress) (s : State) :
    (egrMod h f s).egr.at g = if g = h then f (s.egr.at h) else s.egr.at g := by
  cases h <;> cases g <;> rfl

theorem pgEgress_not_pgFiu (n : Nat) (h : Half) : pgEgress h ≠ pgFiu n := by
  intro e
  have hk := congrArg pageKind e
  rw [pageKind_pgFiu] at hk
  cases h <;> exact absurd hk (by decide)

theorem EgrStep.rd_off {s t : State} (h : EgrStep s t) (P : Nat) {f : Fld}
    (hf : f.off ≠ R.EVT_RAW.off ∧ f.off ≠ R.EVT_PEND.off) : rd t P f = rd s P f :=
  h.regs.rd P f (by simp [egrRegs, evtRegs, hf.1, hf.2])

theorem EgrStep.fiuState {s t : State} (h : EgrStep s t) (n : Nat) : fiuState t n = fiuState s n := h.rd_pgFiu n _

theorem EgrStep.ownElig {s t : State} (h : EgrStep s t) (g : Half) : ownElig t g = ownElig s g := by
  simp only [Machine.ownElig, h.fiuState, h.rd_off (pgEgress g) (f := R.EGR_PORT_MASK_ELIGIBLE) (by decide)]

theorem EgrStep.eligible {s t : State} (h : EgrStep s t) (g : Half) : eligible t g = eligible s g := by
  have hspill : rdB t (pgEgress g) R.EGR_CTRL_SPAN_SPILL = rdB s (pgEgress g) R.EGR_CTRL_SPAN_SPILL :=
    congrArg (· != 0) (h.rd_off (pgEgress g) (by decide))
  unfold Machine.eligible
  rw [h.ownElig, h.ownElig, hspill]

/-- Both halves hold the same changes of their eligible sets in both states. -/
def ChangesKept (s t : State) : Prop := ∀ g, (t.egr.at g).changes = (s.egr.at g).changes

theorem ChangesKept.trans {s t u : State} (h1 : ChangesKept s t) (h2 : ChangesKept t u) : ChangesKept s u :=
  fun g => (h2 g).trans (h1 g)

theorem ChangesKept.of_egr {s t : State} (h : t.egr = s.egr) : ChangesKept s t := fun g => by rw [h]

theorem egrMod_changesKept (h : Half) {f : Egress → Egress} (hf : ∀ e, (f e).changes = e.changes) (s : State) :
    ChangesKept s (egrMod h f s) := fun g => by
  rw [egrMod_at]
  split
  · rename_i e
    rw [hf, e]
  · rfl

theorem egrWait_changesKept (q : QPkt) (b : Bool) (s : State) : ChangesKept s (egrWait q b s) :=
  (egrMod_changesKept q.half (fun _ => by rfl) s).trans (.of_egr (raiseIf_egr ..))

theorem txEnqueue_changesKept (n : Nat) (q : QPkt) (s : State) : ChangesKept s (txEnqueue n q s) := .of_egr rfl

theorem egrPut_changesKept (q : QPkt) (s : State) : ChangesKept s (egrPut q s) := by
  unfold egrPut
  dsimp only
  split
  · exact egrWait_changesKept q true s
  · split
    · split
      · exact egrWait_changesKept q false s
      · exact txEnqueue_changesKept _ q s
    · split
      · exact (egrMod_changesKept q.half (fun _ => by rfl) s).trans (txEnqueue_changesKept _ q _)
      · exact txEnqueue_changesKept _ q s

theorem egrPuts_changesKept (ws : List QPkt) (s : State) : ChangesKept s (ws.foldl (fun t q => egrPut q t) s) := by
  induction ws generalizing s with
  | nil => exact fun _ => rfl
  | cons w r ih => exact (egrPut_changesKept w s).trans (ih (egrPut w s))

theorem egrDrain_changesKept (h : Half) (s : State) : ChangesKept s (egrDrain h s) :=
  (egrMod_changesKept h (fun _ => by rfl) s).trans (egrPuts_changesKept _ _)

/-! What a change of the links or masks appends to a half's changes. -/

theorem egrAfterHalf_changes {h : Half} {old : List Nat} {s : State} (he : eligible s h ≠ old) :
    ((egrAfterHalf h old s).egr.at h).changes = (s.egr.at h).changes ++ [⟨old, eligible s h, []⟩] := by
  unfold egrAfterHalf
  dsimp only
  rw [if_neg he, egrDrain_changesKept, raise_egr, egrMod_at, if_pos rfl]

theorem egrAfterHalf_other {h g : Half} (hg : g ≠ h) (old : List Nat) (s : State) :
    ((egrAfterHalf h old s).egr.at g).changes = (s.egr.at g).changes := by
  unfold egrAfterHalf
  dsimp only
  split
  · rfl
  · rw [egrDrain_changesKept, raise_egr, egrMod_at, if_neg hg]

/-- A change of the links or masks that changes a half's eligible set is appended to that half's changes (R82). -/
theorem withEgress_changes (f : State → State) (s : State) (h : Half) (he : eligible (f s) h ≠ eligible s h) :
    ((withEgress f s).egr.at h).changes = ((f s).egr.at h).changes ++ [⟨eligible s h, eligible (f s) h, []⟩] := by
  have hw := egrAfterHalf_step .west (eligible s .west) (f s)
  unfold withEgress
  cases h with
  | west => rw [egrAfterHalf_other (by decide), egrAfterHalf_changes he]
  | east =>
    rw [egrAfterHalf_changes (by rwa [hw.eligible]), egrAfterHalf_other (by decide), hw.eligible]

/-! The two commands. -/

theorem egrPortMaskWrite_repins (s : State) (h : Half) (mask : Nat) (hm : mask < 256) (hl : pageLive s (pgEgress h) = true) :
    Ends (.egrPortMaskWrite h mask) s (fun t => rd t (pgEgress h) R.EGR_PORT_MASK_ELIGIBLE = mask ∧
      (∀ n, (fiuGet t n).held = (fiuGet s n).held ∧ fiuState t n = fiuState s n) ∧
      (eligible t h ≠ eligible s h →
        ((t.egr.at h).changes.map (fun c => (c.old, c.new))) =
          ((s.egr.at h).changes.map (fun c => (c.old, c.new))) ++ [(eligible s h, eligible t h)]) ∧
      t = { s with
        regs := t.regs, fiu := t.fiu, egr := t.egr, strikes := t.strikes, woLatch := t.woLatch } ∧
      RegsKept ((pgEgress h, R.EGR_PORT_MASK_ELIGIBLE.off) :: egrRegs) s t) := by
  refine ends_onPage_live hl rfl ?_
  generalize hu : wr (pgEgress h) R.EGR_PORT_MASK_ELIGIBLE mask (unlatched (pgEgress h) s) = u
  have hstep : EgrStep u (egrMaskWrite h mask (unlatched (pgEgress h) s)) := hu ▸ withEgress_step _ _
  have hstate : ∀ n, fiuState u n = fiuState s n := fun n => by
    rw [← hu]
    exact rd_wr_other _ _ _ _ _ _ (fun e => pgEgress_not_pgFiu n h (congrArg RKey.page e).symm)
  refine ⟨?_, fun n => ⟨?_, ?_⟩, fun he => ?_, ?_, ?_⟩
  · rw [hstep.rd_off _ (by decide), ← hu, rd_wr_self]
    exact Nat.mod_eq_of_lt hm
  · rw [(hstep.sameButTxq n).eq, ← hu]
    rfl
  · rw [hstep.fiuState, hstate]
  · rw [hstep.eligible] at he ⊢
    subst hu
    rw [egrMaskWrite, withEgress_changes _ (unlatched (pgEgress h) s) h he, List.map_append]
    rfl
  · have e := hstep.frame
    rw [← hu] at e
    rw [e]
    rfl
  · subst hu
    exact ((wr_kept _ R.EGR_PORT_MASK_ELIGIBLE mask (unlatched (pgEgress h) s)).mono (by simp)).trans
      (hstep.regs.mono fun _ hp => List.mem_cons_of_mem _ hp)

/-- A change with one more destination released. -/
def release (dst : Nat) (c : PinChange) : PinChange :=
  { c with released := if c.released.contains dst then c.released else dst :: c.released }

theorem mem_release (dst : Nat) (c : PinChange) : dst ∈ (release dst c).released := by
  unfold release
  dsimp only
  split
  · rename_i h
    exact List.contains_iff_mem.mp h
  · exact List.mem_cons_self

theorem flowSettleExpiry_releases (s : State) (h : Half) (dst : Nat) :
    Ends (.flowSettleExpiry h dst) s (fun t =>
      (∀ c ∈ (t.egr.at h).changes, dst ∈ c.released) ∧
      (t.egr.at h).changes.length = (s.egr.at h).changes.length ∧
      (∀ n, (fiuGet t n).held = (fiuGet s n).held) ∧
      t = { s with regs := t.regs, fiu := t.fiu, egr := t.egr, strikes := t.strikes } ∧ RegsKept egrRegs s t) := by
  generalize hu : egrMod h (fun e => { e with changes := e.changes.map (release dst) }) s = u
  refine ends_done (t := egrDrain h u) (by rw [← hu]; rfl) ?_
  have hstep : EgrStep s (egrDrain h u) := hu ▸ (egrMod_step h _ s).trans (egrDrain_step h _)
  have hc : ((egrDrain h u).egr.at h).changes = (s.egr.at h).changes.map (release dst) := by
    rw [egrDrain_changesKept, ← hu, egrMod_at, if_pos rfl]
  rw [hc]
  refine ⟨fun c hm => ?_, List.length_map .., fun n => ?_, hstep.frame, hstep.regs⟩
  · obtain ⟨d, -, rfl⟩ := List.mem_map.mp hm
    exact mem_release dst d
  · rw [(hstep.sameButTxq n).eq]

/-- Settles O5: what the egress choice does after a write or an expiry keeps links, eligible sets and changes. -/
theorem egressMasksAndHoldsAct : Obligations.EgressMasksAndHoldsAct := by
  unfold Obligations.EgressMasksAndHoldsAct
  exact ⟨egrPortMaskWrite_repins, flowSettleExpiry_releases⟩

end Sys2Proof.Machine
end

section
/-!
CERTIFICATE. Sending and replay (R44, R48-R50, R54, R67).
-/
namespace Sys2Proof.Machine

/-- What goes out of F[n] as held flits are sent. -/
def flitsOut (n : Nat) (fs : List HeldFlit) : List Out := fs.map (fun f => Out.flit n f.seq f.bytes)

theorem emitFlits_eq (n : Nat) (fs : List HeldFlit) (s : State) :
    emitFlits n fs s = { s with out := s.out ++ flitsOut n fs } := by
  induction fs generalizing s with
  | nil => simp [emitFlits, flitsOut]
  | cons f r ih =>
    calc emitFlits n (f :: r) s = emitFlits n r (emit (.flit n f.seq f.bytes) s) := rfl
      _ = { s with out := s.out ++ [.flit n f.seq f.bytes] ++ flitsOut n r } := ih _
      _ = { s with out := s.out ++ flitsOut n (f :: r) } := by rw [List.append_assoc]; rfl

theorem emitFlits_out (n : Nat) (fs : List HeldFlit) (s : State) : (emitFlits n fs s).out = s.out ++ flitsOut n fs := by
  rw [emitFlits_eq]

@[simp] theorem fiuGet_emitFlits (n m : Nat) (fs : List HeldFlit) (s : State) :
    fiuGet (emitFlits n fs s) m = fiuGet s m := by
  rw [emitFlits_eq]
  rfl

/-- A packet's flits as the replay buffer holds them. -/
def heldOf (p : FiuPort) (q : QPkt) : List HeldFlit := (packetFlits p.txNext q.pkt).map (fun f => ⟨f.1, q.id, f.2⟩)

/-- The record of a port that has sent packet `q` of a VC. -/
def sentPort (vc : Nat) (q : QPkt) (rest : List QPkt) (p : FiuPort) : FiuPort :=
  let k := (packetFlits p.txNext q.pkt).length
  { p with
    txq := tput [] p.txq vc rest, grant := none, txNext := (p.txNext + k) % 4096, held := p.held ++ heldOf p q,
    sent := p.sent ++ [q], consumed := tput 0 p.consumed vc ((tget 0 p.consumed vc + k) % 2048) }

theorem sendHead_eq (n vc : Nat) (q : QPkt) (rest : List QPkt) (s : State) : sendHead n vc q rest s =
    emitFlits n (heldOf (fiuGet s n) q) (fiuMod n (sentPort vc q rest) s) := rfl

theorem packetSend_active {s : State} {n vc : Nat} {q : QPkt} {rest : List QPkt} (h : fiuState s n = fsACTIVE)
    (hq : tget [] (fiuGet s n).txq vc = q :: rest) : packetSend n vc s =
      if (fiuGet s n).held.length + flitCount q.pkt.len ≤ 1536 ∧ flitCount q.pkt.len ≤ creditAvail (fiuGet s n) vc then
        sendHead n vc q rest s
      else fiuMod n (fun p => { p with grant := some vc }) s := by
  have h5 : fiuState s n = 5 := h
  simp only [packetSend, h5, hq]

section
variable {s : State} {n vc : Nat} {q : QPkt} {rest : List QPkt}

theorem packetSend_sends (h : fiuState s n = fsACTIVE) (hq : tget [] (fiuGet s n).txq vc = q :: rest)
    (hroom : (fiuGet s n).held.length + flitCount q.pkt.len ≤ 1536)
    (hcredit : flitCount q.pkt.len ≤ creditAvail (fiuGet s n) vc) :
    Ends (.packetSend n vc) s (fun t =>
      t.out = s.out ++ (packetFlits (fiuGet s n).txNext q.pkt).map (fun f => Out.flit n f.1 f.2) ∧
      (fiuGet t n).held = (fiuGet s n).held ++ (packetFlits (fiuGet s n).txNext q.pkt).map (fun f => ⟨f.1, q.id, f.2⟩) ∧
      (fiuGet t n).txNext = ((fiuGet s n).txNext + flitCount q.pkt.len) % 4096 ∧
      tget [] (fiuGet t n).txq vc = rest ∧
      tget 0 (fiuGet t n).consumed vc = (tget 0 (fiuGet s n).consumed vc + flitCount q.pkt.len) % 2048 ∧
      t = { s with fiu := t.fiu, out := t.out }) := by
  refine ends_done (congrArg done ((packetSend_active h hq).trans (if_pos ⟨hroom, hcredit⟩))) ?_
  have hk : (packetFlits (fiuGet s n).txNext q.pkt).length = flitCount q.pkt.len := length_packetFlits _ _
  rw [sendHead_eq, fiuGet_emitFlits, fiuGet_fiuMod_self, ← hk]
  refine ⟨?_, rfl, rfl, tget_tput_self .., tget_tput_self .., by rw [emitFlits_eq]; rfl⟩
  rw [emitFlits_out, fiuMod_out, flitsOut, heldOf, List.map_map]
  rfl

theorem packetSend_waits (h : fiuState s n = fsACTIVE) (hq : tget [] (fiuGet s n).txq vc = q :: rest)
    (hno : 1536 < (fiuGet s n).held.length + flitCount q.pkt.len ∨
      creditAvail (fiuGet s n) vc < flitCount q.pkt.len) :
    Ends (.packetSend n vc) s (fun t => (fiuGet t n).grant = some vc ∧
      tget [] (fiuGet t n).txq vc = q :: rest ∧ t = { s with fiu := t.fiu }) := by
  refine ends_done (congrArg done ((packetSend_active h hq).trans (if_neg (by omega)))) ?_
  rw [fiuGet_fiuMod_self]
  exact ⟨rfl, hq, rfl⟩

/-! Replay. -/

/-- The state of a replay before its progress is judged. -/
def replayed (n : Nat) (f : HeldFlit) (np : Nat) (s : State) : State :=
  fiuMod n (fun p => { p with prevOldest := some f.seq, noProg := np })
    (emitFlits n (fiuGet s n).held (bump (pgFiu n) R.FIU_CNT_REPLAY s))

/-- Replays without progress, this one counted, where `f` is the oldest held flit (R49). -/
def replayCount (p : FiuPort) (f : HeldFlit) : Nat := if p.prevOldest = some f.seq then p.noProg + 1 else 0

theorem fiuReplay_held {f : HeldFlit} {r : List HeldFlit} (hh : (fiuGet s n).held = f :: r) : fiuReplay n s =
    if max 1 (rd s (pgFiu n) R.FIU_LINK_CTRL_REPLAY_LIMIT) ≤ replayCount (fiuGet s n) f then
      fiuRecover n (raise (pgFiu n) 4 (replayed n f (replayCount (fiuGet s n) f) s))
    else replayed n f (replayCount (fiuGet s n) f) s := by
  simp only [fiuReplay, replayed, replayCount, hh]

theorem replayCount_lt {p : FiuPort} {f : HeldFlit} {limit : Nat}
    (hl : p.prevOldest = some f.seq → p.noProg + 1 < max 1 limit) : replayCount p f < max 1 limit := by
  unfold replayCount
  split
  · exact hl ‹_›
  · omega

theorem replayTimeout_replays (h : fiuState s n = fsACTIVE) (f : HeldFlit) (r : List HeldFlit)
    (hh : (fiuGet s n).held = f :: r)
    (hl : (fiuGet s n).prevOldest = some f.seq →
      (fiuGet s n).noProg + 1 < max 1 (rd s (pgFiu n) R.FIU_LINK_CTRL_REPLAY_LIMIT)) :
    Ends (.replayTimeout n) s (fun t =>
      t.out = s.out ++ (fiuGet s n).held.map (fun f => Out.flit n f.seq f.bytes) ∧
      (fiuGet t n).held = (fiuGet s n).held ∧ t = { s with regs := t.regs, fiu := t.fiu, out := t.out } ∧
      RegsKept [(pgFiu n, R.FIU_CNT_REPLAY.off)] s t) := by
  refine ends_done (congrArg done ((if_pos h).trans ((fiuReplay_held hh).trans
    (if_neg (Nat.not_le.mpr (replayCount_lt hl)))))) ?_
  have hb : bump (pgFiu n) R.FIU_CNT_REPLAY s = { s with regs := (bump (pgFiu n) R.FIU_CNT_REPLAY s).regs } :=
    bumpBy_only ..
  rw [replayed, fiuGet_fiuMod_self]
  refine ⟨?_, ?_, ?_, ?_⟩
  · rw [fiuMod_out, emitFlits_out, bump_out]
    rfl
  · rw [fiuGet_emitFlits, hb]
    rfl
  · rw [emitFlits_eq, hb]
    rfl
  · rw [emitFlits_eq]
    exact bump_kept (pgFiu n) R.FIU_CNT_REPLAY s

theorem replayTimeout_idle (hh : (fiuGet s n).held = []) : exec (.replayTimeout n) s = .next s := by
  have hr : fiuReplay n s = s := by simp only [fiuReplay, hh]
  show done (if fiuState s n = fsACTIVE then fiuReplay n s else s) = done s
  rw [hr, ite_self]

end

/-- Settles O4: flits go out one by one, and the record of the port keeps them. -/
theorem sendingAndReplayKeepTheFlits : Obligations.SendingAndReplayKeepTheFlits := by
  unfold Obligations.SendingAndReplayKeepTheFlits
  exact fun s n vc q rest h => ⟨packetSend_sends h, packetSend_waits h, replayTimeout_replays h, replayTimeout_idle⟩

end Sys2Proof.Machine
end

section
/-!
CERTIFICATE. Codewords as they arrive (R41, R43, R46, R58).
-/
namespace Sys2Proof.Machine

theorem codewordReceive_deaf {s : State} {n : Nat} (cw : Codeword)
    (h : fiuState s n = fsDISABLED ∨ fiuState s n = fsDOWN ∨ fiuState s n = fsTRAIN) : codewordReceive n cw s = s := if_pos h

/-! A codeword past correction. -/

/-- The record of a port after one uncorrectable codeword more. -/
def uncorrPort (p : FiuPort) : FiuPort :=
  { p with uncorrRun := p.uncorrRun + 1, alignRun := 0, cwNext := p.cwNext.map (fun k => (k + 1) % 256) }

theorem fiuMod_congr (n : Nat) {f g : FiuPort → FiuPort} (s : State) (h : f (fiuGet s n) = g (fiuGet s n)) :
    fiuMod n f s = fiuMod n g s := by
  unfold fiuMod
  rw [h]

theorem codewordReceive_uncorrectable {s : State} {n : Nat} {cw : Codeword} (he : 16 < cw.symErr)
    (hon : ¬ (fiuState s n = fsDISABLED ∨ fiuState s n = fsDOWN ∨ fiuState s n = fsTRAIN))
    (hr : fiuState s n = fsACTIVE → (fiuGet s n).uncorrRun < 15) :
    codewordReceive n cw s = fiuMod n uncorrPort (raise (pgFiu n) 8 (bump (pgFiu n) R.FIU_CNT_FEC_UNCORR s)) := by
  have hrun : ¬ (fiuState s n = fsACTIVE ∧ 16 ≤ (fiuGet s n).uncorrRun + 1) := fun ⟨ha, h16⟩ => by
    have := hr ha
    omega
  unfold codewordReceive
  rw [if_neg hon, if_neg (Nat.not_le.mpr he)]
  dsimp only
  rw [if_neg hrun]
  refine fiuMod_congr n _ ?_
  rw [uncorrPort, bump, fiuGet_raise, fiuGet_bumpBy]

theorem codewordReceive_discards {s : State} {n : Nat} {cw : Codeword} (he : 16 < cw.symErr)
    (h0 : fiuState s n ≠ fsDISABLED) (h1 : fiuState s n ≠ fsDOWN) (h2 : fiuState s n ≠ fsTRAIN)
    (hr : fiuState s n = fsACTIVE → (fiuGet s n).uncorrRun < 15) :
    Ends (.codewordReceive n cw) s (fun t => (fiuGet t n).uncorrRun = (fiuGet s n).uncorrRun + 1 ∧
      (fiuGet t n).expect = (fiuGet s n).expect ∧ (fiuGet t n).vcbuf = (fiuGet s n).vcbuf ∧
      (fiuGet t n).held = (fiuGet s n).held ∧ (fiuGet t n).crdCum = (fiuGet s n).crdCum ∧
      t = { s with regs := t.regs, fiu := t.fiu, strikes := t.strikes } ∧
      RegsKept ((pgFiu n, R.FIU_CNT_FEC_UNCORR.off) :: evtRegs (pgFiu n)) s t) := by
  refine ends_done (congrArg done (codewordReceive_uncorrectable he (by tauto) hr)) ?_
  rw [fiuGet_fiuMod_self, bump, fiuGet_raise, fiuGet_bumpBy]
  refine ⟨rfl, rfl, rfl, rfl, rfl, ?_, ?_⟩
  · rw [raise_only, bumpBy_only]
    rfl
  · exact ((bumpBy_kept (pgFiu n) R.FIU_CNT_FEC_UNCORR 1 s).mono (by simp)).trans
      ((raise_kept (pgFiu n) 8 _).mono fun _ hp => List.mem_cons_of_mem _ hp)

/-! A correctable codeword with the expected number in ACTIVE, no control codeword, NAK and LPI clear. -/

/-- What the header of such a codeword does to the port's record (R41, R45, R53). -/
def headerPort (hdr : Nat) (p : FiuPort) : FiuPort :=
  let q := { p with uncorrRun := 0, cwNext := some ((bits hdr 63 56 + 1) % 256) }
  { ackApply (bits hdr 49 38) { q with crdCum := tput 0 q.crdCum (bits hdr 37 35) (bits hdr 34 24) } with lpiRun := 0 }

/-- The header acts on neither receive buffers nor transmit queues. -/
theorem headerPort_keeps (hdr : Nat) (p : FiuPort) : (headerPort hdr p).expect = p.expect ∧
    (headerPort hdr p).vcbuf = p.vcbuf ∧ (headerPort hdr p).arrNext = p.arrNext ∧ (headerPort hdr p).txq = p.txq := by
  unfold headerPort ackApply
  dsimp only
  split <;> exact ⟨rfl, rfl, rfl, rfl⟩

theorem rxLpi_clear {s : State} {n : Nat} (h : fiuState s n = fsACTIVE) :
    rxLpi n false s = fiuMod n (fun p => { p with lpiRun := 0 }) s := by
  have hl : ¬ (fiuState s n = fsLOWPWR ∧ ¬ false = true) := fun ⟨x, _⟩ => absurd (h.symm.trans x) (by decide)
  unfold rxLpi
  simp only [Bool.false_and, Bool.false_eq_true, if_false]
  rw [if_neg (by omega), if_neg (by simpa using hl)]

theorem rxHeader_ack {n hdr : Nat} {s : State} (h : hdr.testBit 50 = false) : rxHeader n hdr s =
    fiuMod n (ackApply (bits hdr 49 38))
      (fiuMod n (fun p => { p with crdCum := tput 0 p.crdCum (bits hdr 37 35) (bits hdr 34 24) }) s) :=
  if_neg (by simp [h])

/-- A port's record once it has taken a flit into the buffer of its VC (R46). -/
def acceptPort (b : List Byte) (p : FiuPort) : FiuPort :=
  { p with
    vcbuf := tput [] p.vcbuf (flitVc b) (tget [] p.vcbuf (flitVc b) ++ [⟨p.arrNext, flitHead b, flitTail b, flitData b⟩]),
    expect := (p.expect + 1) % 4096, gap := false, arrNext := if flitHead b then p.arrNext + 1 else p.arrNext }

theorem rxFlit_in_order {s : State} {n : Nat} {b : List Byte} (hs : flitSeq b = (fiuGet s n).expect)
    (hv : flitVc b < 6) (hr : (tget [] (fiuGet s n).vcbuf (flitVc b)).length < poolOf s n (flitVc b)) :
    rxFlit n b s = fiuMod n (acceptPort b) s := by
  unfold rxFlit
  dsimp only
  rw [if_pos (by omega), if_neg (by omega)]
  rfl

/-- Slots that the header does not name are not looked at. -/
theorem rxSlots_rest (n i : Nat) (bs : List (List Byte)) (s : State) : rxSlots n 1 (i + 1) bs s = s := by
  induction bs generalizing i with
  | nil => rfl
  | cons b r ih =>
    have hb : Nat.testBit 1 (i + 1) = false := by simp [Nat.testBit_succ]
    simp only [rxSlots, hb, Bool.false_and, Bool.false_eq_true, if_false]
    exact ih (i + 1)

theorem rxSlots_first {s : State} {n : Nat} {b : List Byte} (h : fiuState s n = fsACTIVE) (hb : flitOk b = true)
    (bs : List (List Byte)) : rxSlots n 1 0 (b :: bs) s = rxFlit n b s := by
  rw [rxSlots, rxSlots_rest]
  simp [h, hb]

theorem bumpBy_frame (P : Nat) (f : Fld) (k : Nat) (s : State) :
    bumpBy P f k s = { s with regs := (bumpBy P f k s).regs, fiu := (bumpBy P f k s).fiu } := by
  unfold bumpBy
  split <;> rfl

theorem fiuMod_frame (n : Nat) (f : FiuPort → FiuPort) {s u : State} (h : u = { s with regs := u.regs, fiu := u.fiu }) :
    fiuMod n f u = { s with regs := (fiuMod n f u).regs, fiu := (fiuMod n f u).fiu } := by
  rw [h]
  rfl

theorem fiuMod_kept (n : Nat) (f : FiuPort → FiuPort) {ex : List (Nat × Nat)} {s u : State} (h : RegsKept ex s u) :
    RegsKept ex s (fiuMod n f u) := h

/-- What the header of such a codeword leaves: the port's record, and the count of corrected symbols. -/
structure HeaderTaken (n hdr : Nat) (s u : State) : Prop where
  port : fiuGet u n = headerPort hdr (fiuGet s n)
  frame : u = { s with regs := u.regs, fiu := u.fiu }
  regs : RegsKept [(pgFiu n, R.FIU_CNT_FEC_CORR.off)] s u

theorem rxGood_in_step {s : State} {n : Nat} {cw : Codeword} (h : fiuState s n = fsACTIVE)
    (hn : (fiuGet s n).cwNext = some (bits cw.hdr.toNat 63 56)) (hc : cw.hdr.toNat.testBit 55 = false)
    (hk : cw.hdr.toNat.testBit 50 = false) (hl : cw.hdr.toNat.testBit 23 = false) :
    ∃ u, rxGood n cw s = rxSlots n (bits cw.hdr.toNat 54 51) 0 cw.slots u ∧ HeaderTaken n cw.hdr.toNat s u := by
  generalize hu : bumpBy (pgFiu n) R.FIU_CNT_FEC_CORR cw.symErr s = u
  have hu5 : fiuState u n = fsACTIVE := by rw [← hu, fiuState_bumpBy _ _ _ _ (by decide), h]
  unfold rxGood
  dsimp only
  rw [if_pos h, if_neg (not_not.mpr (Or.inr hn)), if_neg (by simp [hc]), hl, rxHeader_ack hk, hu,
    rxLpi_clear (by simpa using hu5)]
  refine ⟨_, rfl, ?_, ?_, ?_⟩
  · simp only [fiuGet_fiuMod_self, headerPort]
    rw [← hu, fiuGet_bumpBy]
  · exact fiuMod_frame n _ (fiuMod_frame n _ (fiuMod_frame n _ (fiuMod_frame n _ (hu ▸ bumpBy_frame ..))))
  · have hk : RegsKept [(pgFiu n, R.FIU_CNT_FEC_CORR.off)] s u := hu ▸ bumpBy_kept _ _ _ s
    exact fiuMod_kept n _ (fiuMod_kept n _ (fiuMod_kept n _ (fiuMod_kept n _ hk)))

theorem poolFld_off {vc : Nat} {f : Fld} (h : poolFld vc = some f) : f.off ≠ R.FIU_CNT_FEC_CORR.off :=
  (by decide : ∀ f ∈ [R.FIU_VC_POOL_LO_POOL_VC0, R.FIU_VC_POOL_LO_POOL_VC1, R.FIU_VC_POOL_LO_POOL_VC2,
    R.FIU_VC_POOL_LO_POOL_VC3, R.FIU_VC_POOL_HI_POOL_VC4, R.FIU_VC_POOL_HI_POOL_VC5], f.off ≠ R.FIU_CNT_FEC_CORR.off)
    f (List.mem_of_getElem? h)

section
variable {n hdr : Nat} {s u : State} (h : HeaderTaken n hdr s u)
include h

theorem HeaderTaken.rd {f : Fld} (hf : f.off ≠ R.FIU_CNT_FEC_CORR.off) : rd u (pgFiu n) f = rd s (pgFiu n) f :=
  h.regs.rd _ f (by simp [hf])

theorem HeaderTaken.poolOf (vc : Nat) : poolOf u n vc = poolOf s n vc := by
  unfold Machine.poolOf
  cases hf : poolFld vc with
  | none => rfl
  | some f => exact h.rd (poolFld_off hf)

end

theorem codewordReceive_accepts {s : State} {n : Nat} {cw : Codeword} (b0 b1 b2 b3 : List Byte) (he : cw.symErr ≤ 16)
    (h : fiuState s n = fsACTIVE) (hslots : cw.slots = [b0, b1, b2, b3])
    (hn : (fiuGet s n).cwNext = some (bits cw.hdr.toNat 63 56)) (hc : cw.hdr.toNat.testBit 55 = false)
    (hk : cw.hdr.toNat.testBit 50 = false) (hl : cw.hdr.toNat.testBit 23 = false) (hv1 : bits cw.hdr.toNat 54 51 = 1)
    (hok : flitOk b0 = true) (hs : flitSeq b0 = (fiuGet s n).expect) (hv : flitVc b0 < 6)
    (_ : (fiuGet s n).expect < 4096)
    (hroom : (tget [] (fiuGet s n).vcbuf (flitVc b0)).length < poolOf s n (flitVc b0)) :
    Ends (.codewordReceive n cw) s (fun t => (fiuGet t n).expect = ((fiuGet s n).expect + 1) % 4096 ∧
      tget [] (fiuGet t n).vcbuf (flitVc b0) = tget [] (fiuGet s n).vcbuf (flitVc b0) ++
        [⟨(fiuGet s n).arrNext, flitHead b0, flitTail b0, flitData b0⟩] ∧
      (fiuGet t n).txq = (fiuGet s n).txq ∧ t = { s with regs := t.regs, fiu := t.fiu } ∧
      RegsKept [(pgFiu n, R.FIU_CNT_FEC_CORR.off)] s t) := by
  obtain ⟨u, hgood, hu⟩ := rxGood_in_step h hn hc hk hl
  obtain ⟨kx, kb, ka, kt⟩ := headerPort_keeps cw.hdr.toNat (fiuGet s n)
  rw [← hu.port] at kx kb ka kt
  have hrx : codewordReceive n cw s = fiuMod n (acceptPort b0) u := by
    have hon : ¬ (fiuState s n = fsDISABLED ∨ fiuState s n = fsDOWN ∨ fiuState s n = fsTRAIN) := by rw [h]; decide
    have hu5 : fiuState u n = fsACTIVE := (hu.rd (by decide)).trans h
    rw [codewordReceive, if_neg hon, if_pos he, hgood, hv1, hslots, rxSlots_first hu5 hok,
      rxFlit_in_order (hs.trans kx.symm) hv (by rwa [kb, hu.poolOf])]
  refine ends_done (congrArg done hrx) ?_
  rw [fiuGet_fiuMod_self, acceptPort, kx, kb, ka, kt]
  exact ⟨rfl, tget_tput_self .., rfl, fiuMod_frame n _ hu.frame, hu.regs⟩

/-- Settles O3: the header is taken, then the one slot that it names is looked at. -/
theorem codewordsArriveAsTheirFlitsSay : Obligations.CodewordsArriveAsTheirFlitsSay := by
  unfold Obligations.CodewordsArriveAsTheirFlitsSay
  exact fun s n cw _ => ⟨codewordReceive_discards, codewordReceive_accepts,
    fun h => congrArg done (codewordReceive_deaf cw h)⟩

end Sys2Proof.Machine
end

section
/-!
CERTIFICATE. Counter clears (R450, R475, R490).
-/
namespace Sys2Proof.Machine

/-! The plain clears of a page's counters. -/

theorem clearAll_only (P : Nat) (fs : List Fld) (s : State) :
    clearAll P fs s = { s with regs := (clearAll P fs s).regs } := by
  induction fs generalizing s with
  | nil => rfl
  | cons f r ih =>
    have e := ih (wr P f 0 s)
    rwa [show wr P f 0 s = { s with regs := (wr P f 0 s).regs } from rfl] at e

theorem tgetBy_wrI_other (P : Nat) (f : Fld) (i v : Nat) (s : State) {k : RKey} (d : Nat) (h : k ≠ f.key P i) :
    tgetBy d (wrI P f i v s).regs k = tgetBy d s.regs k := tgetBy_tputBy_other _ _ _ _ _ _ _ h

theorem tgetBy_clearAll_other (P : Nat) (fs : List Fld) (s : State) (k : RKey) (d : Nat) (h : ∀ f ∈ fs, k ≠ f.key P 0) :
    tgetBy d (clearAll P fs s).regs k = tgetBy d s.regs k := by
  induction fs generalizing s with
  | nil => rfl
  | cons f r ih =>
    obtain ⟨hf, hr⟩ := List.forall_mem_cons.mp h
    exact (ih (wr P f 0 s) hr).trans (tgetBy_wrI_other P f 0 0 s d hf)

theorem clearsExactly_clearAll {c : Instr} {P off : Nat} {fs : List Fld} {s : State}
    (h : exec c s = done (onPage P off (fun s => clearAll P fs s) s)) (hn : (fs.map (fun g => (g.off, g.lo))).Nodup) :
    ClearsExactly c P off fs s := by
  refine ⟨fun hl => ends_onPage_live hl h ⟨fun f hf => rd_clearAll_self P fs _ f hf hn, ?_, fun k d hk => ?_⟩,
    fun hd => ends_onPage_dead hd h rfl⟩
  · rw [clearAll_only]
    rfl
  · exact tgetBy_clearAll_other P fs (unlatched P s) k d hk

/-! A canonical table whose values are changed key by key. -/

theorem twf_lt {α : Type} [DecidableEq α] {d : α} {k : Nat} {v : α} {t : Table α}
    (h : twf (fun n => n) d ((k, v) :: t) = true) : ∀ e ∈ t, k < e.1 := by
  induction t generalizing k v with
  | nil => simp
  | cons e r ih =>
    simp only [twf, Bool.and_eq_true, decide_eq_true_eq] at h
    obtain ⟨⟨-, hk⟩, hr⟩ := h
    exact List.forall_mem_cons.mpr ⟨hk, fun x hx => hk.trans (ih hr x hx)⟩

theorem twf_tail {α : Type} [DecidableEq α] {d : α} {k : Nat} {v : α} {t : Table α}
    (h : twf (fun n => n) d ((k, v) :: t) = true) : twf (fun n => n) d t = true := by
  cases t with
  | nil => rfl
  | cons e r =>
    simp only [twf, Bool.and_eq_true] at h
    exact h.2

/-- A table with every value changed by its key, values that have become the default left out. -/
def tmap {α : Type} [DecidableEq α] (d : α) (g : Nat → α → α) (t : Table α) : Table α :=
  (t.map (fun p => (p.1, g p.1 p.2))).filter (fun p => p.2 != d)

theorem tmap_cons {α : Type} [DecidableEq α] (d : α) (g : Nat → α → α) (j : Nat) (v : α) (t : Table α) :
    tmap d g ((j, v) :: t) = if g j v = d then tmap d g t else (j, g j v) :: tmap d g t := by
  by_cases h : g j v = d <;> simp [tmap, h]

theorem tget_tmap {α : Type} [DecidableEq α] {d : α} {g : Nat → α → α} (hg : ∀ k, g k d = d) {t : Table α}
    (h : twf (fun n => n) d t = true) (k : Nat) : tget d (tmap d g t) k = g k (tget d t k) := by
  induction t with
  | nil => exact (hg k).symm
  | cons e r ih =>
    obtain ⟨j, v⟩ := e
    rw [tmap_cons]
    by_cases hjk : j = k
    · subst hjk
      have hout : tget d (tmap d g r) j = d := tgetBy_of_not_mem d _ _ fun x hx => by
        obtain ⟨y, hy, rfl⟩ := List.mem_map.mp (List.mem_filter.mp hx).1
        exact (twf_lt h y hy).ne'
      split
      · rename_i hd
        rw [hout]
        simp [tget, tgetBy, hd]
      · simp [tget, tgetBy]
    · have hv : tget d ((j, v) :: r) k = tget d r k := if_neg hjk
      rw [hv, ← ih (twf_tail h)]
      split
      · rfl
      · exact if_neg hjk

/-- A table answers its default or a value that it lists. -/
theorem tgetBy_cases {κ α : Type} [DecidableEq κ] (d : α) (t : List (κ × α)) (k : κ) :
    tgetBy d t k = d ∨ ∃ e ∈ t, e.2 = tgetBy d t k := by
  induction t with
  | nil => exact .inl rfl
  | cons e r ih =>
    by_cases hk : e.1 = k
    · exact .inr ⟨e, List.mem_cons_self, by simp [tgetBy, hk]⟩
    · have hr : tgetBy d (e :: r) k = tgetBy d r k := if_neg hk
      rw [hr]
      exact ih.imp_right fun ⟨x, hx, hv⟩ => ⟨x, List.mem_cons_of_mem _ hx, hv⟩

/-! Q_CNT_CLR. -/

/-- A FIFO with its counts cleared. -/
def Fifo.cleared (f : Fifo) : Fifo := { f with corr := 0, uncorr := 0, flushDrop := 0, high := 0 }

/-- A requester with its counts cleared. -/
def ArbReq.cleared (x : ArbReq) : ArbReq := { x with grants := 0, waits := 0, longest := 0 }

/-- Arbiter `aid` of region `r` with its requesters' counts cleared. -/
def arbCleared (r aid : Nat) (a : Arb) : Arb :=
  { a with reqs := (a.reqs.map (fun x => (x.1, x.2.cleared))).filter (fun x => x.2 != arbReset r aid x.1) }

/-- What Q_CNT_CLR of region `r` does to the FIFO of key `k`. -/
def clearFifo (r k : Nat) (f : Fifo) : Fifo := if k / 65536 = r then f.cleared else f

/-- What Q_CNT_CLR of region `r` does to the arbiter of key `k`. -/
def clearArb (r k : Nat) (a : Arb) : Arb := if k / 65536 = r then arbCleared r (k % 65536) a else a

theorem qCntClr_eq (r : Nat) (s : State) : qCntClr r s =
    { s with fifos := tmap {} (clearFifo r) s.fifos, arbs := tmap {} (clearArb r) s.arbs } := by
  have hf : (fun p : Nat × Fifo => if p.1 / 65536 == r then (p.1, p.2.cleared) else p) =
      fun p => (p.1, clearFifo r p.1 p.2) := by
    funext p
    by_cases h : p.1 / 65536 = r <;> simp [clearFifo, h]
  have ha : (fun p : Nat × Arb => if p.1 / 65536 == r then (p.1, arbCleared r (p.1 % 65536) p.2) else p) =
      fun p => (p.1, clearArb r p.1 p.2) := by
    funext p
    by_cases h : p.1 / 65536 = r <;> simp [clearArb, h]
  rw [tmap, tmap, ← hf, ← ha]
  rfl

theorem clearFifo_default (r k : Nat) : clearFifo r k {} = {} := by
  unfold clearFifo
  split <;> rfl

theorem clearArb_default (r k : Nat) : clearArb r k {} = {} := by
  unfold clearArb
  split <;> rfl

theorem arbReset_counts (r aid q : Nat) : (arbReset r aid q).grants = 0 ∧ (arbReset r aid q).waits = 0 ∧
    (arbReset r aid q).longest = 0 := by
  unfold arbReset
  split <;> exact ⟨rfl, rfl, rfl⟩

theorem arbReq_arbCleared (r aid : Nat) (a : Arb) (q : Nat) : (arbReq r aid (arbCleared r aid a) q).grants = 0 ∧
    (arbReq r aid (arbCleared r aid a) q).waits = 0 ∧ (arbReq r aid (arbCleared r aid a) q).longest = 0 := by
  rcases tgetBy_cases (arbReset r aid q) (arbCleared r aid a).reqs q with h | ⟨e, he, h⟩
  · rw [arbReq, tget, h]
    exact arbReset_counts r aid q
  · rw [arbReq, tget, ← h]
    obtain ⟨x, -, rfl⟩ := List.mem_map.mp (List.mem_filter.mp he).1
    exact ⟨rfl, rfl, rfl⟩

theorem qKey_div {q : Nat} (r : Nat) (h : q < 65536) : qKey r q / 65536 = r := by
  unfold qKey
  omega

theorem qKey_mod {q : Nat} (r : Nat) (h : q < 65536) : qKey r q % 65536 = q := by
  unfold qKey
  omega

theorem qCntClr_clears (s : State) (r : Nat) (hwf : TablesWf s) (hl : pageLive s (pgRegQ r) = true) :
    Ends (.qCntClr r) s (fun t =>
      t = { s with fifos := t.fifos, arbs := t.arbs, woLatch := t.woLatch } ∧
      (∀ q, q < 65536 → fifoGet t r q = { fifoGet s r q with corr := 0, uncorr := 0, flushDrop := 0, high := 0 } ∧
        (∀ x, (arbReq r q (arbGet t r q) x).grants = 0 ∧ (arbReq r q (arbGet t r q) x).waits = 0 ∧
          (arbReq r q (arbGet t r q) x).longest = 0)) ∧
      (∀ k, k / 65536 ≠ r → tget {} t.fifos k = tget {} s.fifos k ∧ tget {} t.arbs k = tget {} s.arbs k)) := by
  obtain ⟨-, -, -, hf, ha, -⟩ := hwf
  have gf := tget_tmap (clearFifo_default r) hf
  have ga := tget_tmap (clearArb_default r) ha
  refine ends_onPage_live hl rfl ?_
  rw [qCntClr_eq]
  refine ⟨rfl, fun q hq => ⟨?_, fun x => ?_⟩, fun k hk => ⟨(gf k).trans (if_neg hk), (ga k).trans (if_neg hk)⟩⟩
  · exact (gf (qKey r q)).trans (if_pos (qKey_div r hq))
  · have hx : arbGet { unlatched (pgRegQ r) s with arbs := tmap {} (clearArb r) s.arbs } r q =
        arbCleared r q (arbGet s r q) := by
      refine (ga (qKey r q)).trans ?_
      rw [clearArb, if_pos (qKey_div r hq), qKey_mod r hq]
      rfl
    have hc := arbReq_arbCleared r q (arbGet s r q) x
    rw [← hx] at hc
    exact hc

/-! LAN_CNT_CLR. -/

/-- STRIKES of the listed sources set to zero. -/
def clearStrikes (l : List Nat) (s : State) : State := l.foldl (fun t i => wrI pgLantern R.LAN_SRC_STAT_STRIKES i 0 t) s

theorem clearStrikes_only (l : List Nat) (s : State) : clearStrikes l s = { s with regs := (clearStrikes l s).regs } := by
  induction l generalizing s with
  | nil => rfl
  | cons i r ih =>
    have e := ih (wrI pgLantern R.LAN_SRC_STAT_STRIKES i 0 s)
    exact e

theorem tgetBy_clearStrikes_other (l : List Nat) (s : State) (k : RKey) (d : Nat)
    (h : ∀ i, k ≠ R.LAN_SRC_STAT_STRIKES.key pgLantern i) : tgetBy d (clearStrikes l s).regs k = tgetBy d s.regs k := by
  induction l generalizing s with
  | nil => rfl
  | cons i r ih =>
    exact (ih (wrI pgLantern R.LAN_SRC_STAT_STRIKES i 0 s)).trans (tgetBy_wrI_other _ _ _ _ s d (h i))

theorem rdI_clearStrikes (l : List Nat) (s : State) (i : Nat) :
    rdI (clearStrikes l s) pgLantern R.LAN_SRC_STAT_STRIKES i =
      if i ∈ l then 0 else rdI s pgLantern R.LAN_SRC_STAT_STRIKES i := by
  induction l generalizing s with
  | nil => rfl
  | cons j r ih =>
    have hj : rdI (wrI pgLantern R.LAN_SRC_STAT_STRIKES j 0 s) pgLantern R.LAN_SRC_STAT_STRIKES i =
        if i = j then 0 else rdI s pgLantern R.LAN_SRC_STAT_STRIKES i := by
      split
      · rename_i e
        rw [e, rdI_wrI_self]
        rfl
      · rename_i e
        exact rdI_wrI_other _ _ _ _ _ _ _ _ (fun x => e (congrArg RKey.idx x))
    refine (ih _).trans ?_
    rw [hj]
    by_cases hr : i ∈ r <;> by_cases he : i = j <;> simp [hr, he]

/-- A source that is not listed has no strikes. -/
theorem rdI_of_not_listed {s : State} {P : Nat} {f : Fld} {i : Nat} (h : i ∉ listedIdx s P f) : rdI s P f i = f.rst := by
  refine tgetBy_of_not_mem _ _ _ fun e he hk => h ?_
  refine List.mem_map.mpr ⟨e, List.mem_filter.mpr ⟨he, ?_⟩, congrArg RKey.idx hk⟩
  simp [hk, Fld.key]

theorem lanCntClr_eq (s : State) : lanCntClr s =
    clearStrikes (listedIdx s pgLantern R.LAN_SRC_STAT_STRIKES) (clearAll pgLantern lanCounters s) := rfl

theorem lanCounters_not_strikes : ∀ f ∈ lanCounters, f.off ≠ R.LAN_SRC_STAT_STRIKES.off := by decide

theorem lanCntClr_clears (s : State) : Ends .lanCntClr s (fun t => (∀ f ∈ lanCounters, rd t pgLantern f = 0) ∧
    (∀ i, rdI t pgLantern R.LAN_SRC_STAT_STRIKES i = 0) ∧ t = { s with regs := t.regs, woLatch := t.woLatch } ∧
    (∀ (k : RKey) (d : Nat), (∀ f ∈ lanCounters, k ≠ f.key pgLantern 0) →
      (∀ i, k ≠ R.LAN_SRC_STAT_STRIKES.key pgLantern i) → tgetBy d t.regs k = tgetBy d s.regs k)) := by
  refine ends_onPage_live rfl rfl ?_
  rw [lanCntClr_eq]
  refine ⟨fun f hf => ?_, fun i => ?_, ?_, fun k d hc hs => ?_⟩
  · refine (tgetBy_clearStrikes_other _ _ _ _ fun i e => ?_).trans
      (rd_clearAll_self pgLantern lanCounters _ f hf (by decide))
    exact lanCounters_not_strikes f hf (congrArg RKey.off e)
  · rw [rdI_clearStrikes]
    split
    · rfl
    · rename_i h
      exact (rdI_clearAll_other _ _ _ _ _ _ fun f hf e =>
        lanCounters_not_strikes f hf (congrArg RKey.off e : R.LAN_SRC_STAT_STRIKES.off = f.off).symm).trans
        (rdI_of_not_listed h)
  · rw [clearStrikes_only, clearAll_only]
    rfl
  · rw [tgetBy_clearStrikes_other _ _ _ _ hs, tgetBy_clearAll_other _ _ _ _ _ hc]
    rfl

/-- Settles O35: the plain clears by one lemma, Q_CNT_CLR place by place of its tables, LAN_CNT_CLR source by source. -/
theorem counterClearsClearTheirCounters : Obligations.CounterClearsClearTheirCounters := by
  unfold Obligations.CounterClearsClearTheirCounters
  refine ⟨fun s h n m => ?_, qCntClr_clears, fun s r hd => ends_onPage_dead hd rfl rfl, lanCntClr_clears⟩
  refine ⟨?_, ?_, ?_, ?_, ?_, ?_, ?_, ?_, ?_, ?_, ?_, ?_, ?_, ?_, ?_, ?_, ?_, ?_, ?_, ?_⟩ <;>
    exact clearsExactly_clearAll rfl (by decide)

end Sys2Proof.Machine
end

section
/-!
CERTIFICATE. Received packets and read tags (R55, R75, R76, R78).
-/
namespace Sys2Proof.Machine

section
variable {s : State} {n vc k : Nat} {h : Half} {p : Packet}

theorem rxEvt_of_headIs (hd : HeadIs s n vc k h p) : rxEvt n s = s := by
  obtain ⟨he, -⟩ := hd
  rw [rxEvt, he]

/-- A good packet for the receiving half itself goes to what its type asks for. -/
theorem rxWith_of_headIs (hd : HeadIs s n vc k h p) {ty : Nat} (ht : p.type = ty) (f : Half → Packet → Nat → State → State) :
    rxWith n vc ty f (rxEvt n s) = f h p k s := by
  subst ht
  rw [rxEvt_of_headIs hd]
  obtain ⟨-, hp, hen, hgood, hnode, hhalf, hup⟩ := hd
  have hpow : rxPowered s p.type = true := by simp [rxPowered, hen]
  have hdead : deadTo s n h = false := by simp [deadTo, hup]
  have hreach : rxReach s n h = true := by simp [rxReach, hup, hhalf]
  simp [rxWith, hp, hpow, hgood, hnode, hdead, hreach]

theorem rxAccess_outside (ha : inAperture p.addr = false) :
    rxAccess n vc h p k s = crossArrive h p (n, vc, k) (rxTake n vc k s) := by
  simp [rxAccess, ha]

theorem exec_rxPw (hd : HeadIs s n 1 k h p) (ht : p.type = tPW) (ha : inAperture p.addr = false) :
    exec (.rxPw n) s = .next (settle (crossArrive h p (n, 1, k) (rxTake n 1 k s))) := by
  show done (settle (rxPw n s)) = _
  rw [rxPw, rxWith_of_headIs hd ht, rxAccess_outside ha]
  rfl

theorem rxAsk_outside (hd : HeadIs s n 2 k h p) {ty : Nat} (ht : p.type = ty) (ha : inAperture p.addr = false) :
    rxAsk n ty s = crossArrive h p (n, 2, k) (rxTake n 2 k s) := by
  rw [rxAsk, rxWith_of_headIs hd ht, rxAccess_outside ha]

/-! Answers to read tags. -/

theorem slotsBack_tags (sl : Nat × Nat × Nat) (s : State) : (slotsBack sl s).tags = s.tags := by
  unfold slotsBack
  split <;> rfl

theorem exec_rxRsp (hd : HeadIs s n 0 k h p) (ht : p.type = tRSP) : exec (.rxRsp n) s =
    .next (settle (rspArrive n h p (slotsBack (n, 0, k) (rxTake n 0 k s)))) := by
  show done (settle (rxAnswer n s)) = _
  rw [rxAnswer, rxWith_of_headIs hd ht]
  rfl

theorem rspArrive_answers {len : Nat} {o : TagOwner} (hout : tget .free (s.tags.at h) p.tag = .out len o)
    (hs : p.status = stComplete) (hl : p.len = len) :
    rspArrive n h p s = post (.tagDone h o (some p.payload) 0) (tagPut h p.tag .free s) := by
  simp [rspArrive, hout, hs, hl]

theorem rspArrive_unasked (hno : ∀ len o, tget .free (s.tags.at h) p.tag ≠ .out len o) :
    rspArrive n h p s = raise (pgFiu n) 6 s := by
  unfold rspArrive
  split
  · exact absurd ‹_› (hno _ _)
  · rfl

/-! Timeouts of read tags. -/

theorem exec_rspTimeout_fails {t len : Nat} {o : TagOwner} (hout : tget .free (s.tags.at h) t = .out len o) :
    exec (.rspTimeout h t) s =
      .next (settle (post (.tagDone h o none 0x100) (tagPut h t .quar (raise (pgEgress h) 1 s)))) := by
  show done (settle (rspTimeout h t s)) = _
  simp only [rspTimeout, hout]
  rfl

theorem exec_rspTimeout_idle {t : Nat} (hq : quiet s = true) (hno : ∀ len o, tget .free (s.tags.at h) t ≠ .out len o) :
    exec (.rspTimeout h t) s = .next s := by
  have hr : rspTimeout h t s = s := by
    unfold rspTimeout
    split
    · exact absurd ‹_› (hno _ _)
    · rfl
  show done (settle (rspTimeout h t s)) = _
  rw [hr, settle_quiet s hq]
  rfl

theorem quiet_tagPut (t : Nat) (x : TagSt) : quiet (tagPut h t x s) = quiet s :=
  quiet_congr _ _ rfl rfl rfl rfl rfl rfl rfl rfl

theorem exec_tagQuarantineEnd_frees {t : Nat} (hq : quiet s = true) (hx : tget .free (s.tags.at h) t = .quar) :
    exec (.tagQuarantineEnd h t) s = .next (tagPut h t .free s) := by
  show done (settle (tagBack h t s)) = _
  rw [tagBack, if_pos hx, settle_quiet _ ((quiet_tagPut t .free).trans hq)]
  rfl

theorem exec_tagQuarantineEnd_idle {t : Nat} (hq : quiet s = true) (hx : tget .free (s.tags.at h) t ≠ .quar) :
    exec (.tagQuarantineEnd h t) s = .next s := by
  show done (settle (tagBack h t s)) = _
  rw [tagBack, if_neg hx, settle_quiet s hq]
  rfl

end

/-- Settles O6: the head packet is judged once, and its type names what takes it. -/
theorem receivedPacketsReachTheirPlace : Obligations.ReceivedPacketsReachTheirPlace := by
  unfold Obligations.ReceivedPacketsReachTheirPlace
  refine ⟨fun s n k h p => exec_rxPw, fun s n k h p hd ha => ⟨fun ht => ?_, fun ht => ?_, fun ht => ?_⟩,
    fun s n k h p hd ht => ⟨fun len o hout hs hl => ?_, fun hno => ?_⟩,
    fun s h t => ⟨fun _ _ => exec_rspTimeout_fails, exec_rspTimeout_idle, exec_tagQuarantineEnd_frees,
      exec_tagQuarantineEnd_idle⟩⟩
  · exact congrArg (fun u => done (settle u)) (rxAsk_outside hd ht ha)
  · exact congrArg (fun u => done (settle u)) (rxAsk_outside hd ht ha)
  · exact congrArg (fun u => done (settle u)) (rxAsk_outside hd ht ha)
  · rw [exec_rxRsp hd ht, rspArrive_answers (by rw [slotsBack_tags]; exact hout) hs hl]
  · rw [exec_rxRsp hd ht, rspArrive_unasked (by rw [slotsBack_tags]; exact hno)]

end Sys2Proof.Machine
end

section
/-!
SUPPORT. An Atnen port's record, its entries into DOWN, HELD and TRAIN where it holds nothing, and what its operations
leave quiet (R97, R98, R126).
-/
namespace Sys2Proof.Machine

/-! A port's record. -/

theorem apuGet_apuMod_self (n : Nat) (f : ApuPort → ApuPort) (s : State) : apuGet (apuMod n f s) n = f (apuGet s n) :=
  tget_tput_self ..

@[simp] theorem apuGet_wr (P : Nat) (f : Fld) (v : Nat) (s : State) (n : Nat) :
    apuGet (wr P f v s) n = apuGet s n := rfl

/-! Operations that leave a state quiet. -/

theorem mem_tinsBy {κ α : Type} [DecidableEq κ] {code : κ → Nat} {t : List (κ × α)} {k : κ} {v : α} {e : κ × α}
    (h : e ∈ tinsBy code t k v) : e = (k, v) ∨ e ∈ t := by
  induction t with
  | nil => exact .inl (List.mem_singleton.mp h)
  | cons x r ih =>
    unfold tinsBy at h
    split at h
    · exact (List.mem_cons.mp h).imp_right (List.mem_cons_of_mem _)
    · split at h
      · exact List.mem_cons.mp h
      · rcases List.mem_cons.mp h with rfl | hr
        · exact .inr List.mem_cons_self
        · exact (ih hr).imp_right (List.mem_cons_of_mem _)

theorem mem_tput {α : Type} [DecidableEq α] {d v : α} {t : Table α} {k : Nat} {e : Nat × α} (h : e ∈ tput d t k v) :
    e = (k, v) ∨ e ∈ t := by
  unfold tput tputBy at h
  split at h
  · exact .inr (List.mem_filter.mp h).1
  · exact mem_tinsBy h

/-- Quietness says of the ports that none holds words back. -/
theorem quiet_iff_rxHeld (s : State) (a : Table ApuPort) : quiet { s with apu := a } = true ↔
    quiet { s with apu := [] } = true ∧ ∀ e ∈ a, e.2.rxHeld = [] := by
  simp only [quiet, quietHalf, halfState, Bool.and_eq_true, List.all_eq_true, List.isEmpty_iff, List.not_mem_nil,
    false_imp_iff, implies_true, and_true]

theorem rxHeld_of_quiet {s : State} (hq : quiet s = true) (n : Nat) : (apuGet s n).rxHeld = [] := by
  obtain ⟨-, h⟩ := (quiet_iff_rxHeld s s.apu).mp hq
  rcases tgetBy_cases ({} : ApuPort) s.apu n with hd | ⟨e, he, hv⟩
  · rw [apuGet, tget, hd]
  · rw [apuGet, tget, ← hv]
    exact h e he

/-- A change of a port's record that takes no word into its receive buffer leaves a state quiet. -/
theorem quiet_apuMod {s : State} (hq : quiet s = true) (n : Nat) {f : ApuPort → ApuPort}
    (hf : (f (apuGet s n)).rxHeld = (apuGet s n).rxHeld) : quiet (apuMod n f s) = true := by
  obtain ⟨hs, h⟩ := (quiet_iff_rxHeld s s.apu).mp hq
  refine (quiet_iff_rxHeld s _).mpr ⟨hs, fun e he => ?_⟩
  rcases mem_tput he with rfl | he
  · exact hf.trans (rxHeld_of_quiet hq n)
  · exact h e he

theorem quiet_of_frame {s t : State} (h : t = { s with regs := t.regs, strikes := t.strikes, woLatch := t.woLatch }) :
    quiet t = quiet s := by
  rw [h]
  exact quiet_congr _ _ rfl rfl rfl rfl rfl rfl rfl rfl

theorem mail_of_quiet {s : State} (hq : quiet s = true) : s.mail = [] := by
  simp only [quiet, Bool.and_eq_true] at hq
  obtain ⟨⟨⟨⟨⟨hm, -⟩, -⟩, -⟩, -⟩, -⟩ := hq
  exact List.isEmpty_iff.mp hm

/-! Commands that end in a settled state, and accesses of a live page. -/

theorem ends_settle {c : Instr} {s t : State} {Q : State → Prop} (h : exec c s = done (settle t)) (hq : quiet t = true)
    (hQ : Q t) : Ends c s Q := by
  rw [settle_quiet t hq] at h
  exact ends_done h hQ

theorem exec_settled {c : Instr} {s : State} (h : exec c s = done (settle s)) (hq : quiet s = true) :
    exec c s = .next s := by
  rw [h, settle_quiet s hq]
  rfl

theorem exec_onPage_live {c : Instr} {s : State} {P off : Nat} {f : State → State} (hl : pageLive s P = true)
    (h : exec c s = done (onPage P off f s)) : exec c s = .next (f (unlatched P s)) := by
  rw [h, onPage_live P off f s hl]
  rfl

/-! Entries into a state below ENUM from a state below ENUM: nothing is left behind (R97, R99). -/

theorem apuSetState_below {s : State} {n : Nat} (st : Nat) (h : apuState s n < asENUM) :
    apuSetState n st s = wr (pgApu n) R.APU_STAT_STATE st s := by
  have hw : ¬ ((apuState s n = asENUM ∨ apuState s n = asACTIVE) ∧ st < asENUM) := by
    simp only [asENUM, asACTIVE] at h ⊢
    omega
  exact if_neg hw

theorem rd_bump_congr {P : Nat} {f : Fld} {s t : State} (hf : rd t P f = rd s P f)
    (hz : rd t P R.CTRL_FREEZE = rd s P R.CTRL_FREEZE) : rd (bump P f t) P f = rd (bump P f s) P f := by
  unfold bump bumpBy rdB
  rw [hz]
  split
  · exact hf
  · rw [rd_wr_self, rd_wr_self, hf]

/-- The entry into DOWN after `u`, which has written at most APU_STAT: the cause is the one that stands there. -/
theorem down_entered {s u : State} {n cause : Nat} (hf : u = { s with regs := u.regs })
    (hr : RegsKept [(pgApu n, R.APU_STAT_STATE.off)] s u) (hc : rd u (pgApu n) R.APU_STAT_CAUSE = cause) :
    TrainFailed n cause s
      (raise (pgApu n) 1 (bump (pgApu n) R.APU_CNT_DOWN (wr (pgApu n) R.APU_STAT_STATE asDOWN u))) := by
  have hw : RegsKept [(pgApu n, R.APU_STAT_STATE.off)] s (wr (pgApu n) R.APU_STAT_STATE asDOWN u) :=
    hr.trans (wr_kept _ R.APU_STAT_STATE _ u)
  refine ⟨?_, ?_, ?_, ?_, ?_⟩
  · rw [apuState, rd_raise_off _ _ _ _ (by decide), bump, rd_bumpBy_off _ _ _ _ (by decide), rd_wr_self]
    rfl
  · rw [rd_raise_off _ _ _ _ (by decide), bump, rd_bumpBy_off _ _ _ _ (by decide), rd_wr_place _ _ _ _ (by decide), hc]
  · rw [rd_raise_off _ _ _ _ (by decide)]
    exact rd_bump_congr (hw.rd _ _ (by simp; decide)) (hw.rd _ _ (by simp; decide))
  · rw [raise_only, bump, bumpBy_only, hf]
    rfl
  · exact ((hw.mono (by simp)).trans ((bump_kept _ R.APU_CNT_DOWN _).mono (by simp))).trans
      ((raise_kept _ 1 _).mono (by simp [evtRegs]))

section
variable {s t : State} {n cause : Nat}

theorem apuDown_cause (h : apuState s n < asENUM) (hc : cause < 16) :
    TrainFailed n cause s (apuDown n (some cause) s) := by
  have hs : apuState (wr (pgApu n) R.APU_STAT_CAUSE cause s) n < asENUM := by
    rwa [apuState, rd_wr_place _ _ _ _ (by decide)]
  rw [apuDown, apuSetState_below _ hs]
  refine down_entered rfl (wr_kept _ R.APU_STAT_CAUSE _ s) ?_
  rw [rd_wr_self]
  exact Nat.mod_eq_of_lt hc

theorem apuDown_no_cause (h : apuState s n < asENUM) :
    TrainFailed n (rd s (pgApu n) R.APU_STAT_CAUSE) s (apuDown n none s) := by
  rw [apuDown, apuSetState_below _ h]
  exact down_entered rfl (RegsKept.refl _ s) rfl

/-- An entry into DOWN writes four registers. -/
theorem TrainFailed.rd_off (h : TrainFailed n cause s t) (P : Nat) {f : Fld}
    (hf : f.off ∉ [R.APU_STAT_STATE.off, R.APU_CNT_DOWN.off, R.EVT_RAW.off, R.EVT_PEND.off]) :
    rd t P f = rd s P f := by
  obtain ⟨-, -, -, -, hr⟩ := h
  refine hr.rd P f fun hm => hf ?_
  simp only [evtRegs, List.cons_append, List.nil_append, List.mem_cons, Prod.mk.injEq, List.not_mem_nil,
    or_false] at hm ⊢
  tauto

theorem RegsKept.wr_mem {ex : List (Nat × Nat)} {s u : State} {P v : Nat} {f : Fld} (hf : (P, f.off) ∈ ex)
    (h : RegsKept ex s u) : RegsKept ex s (wr P f v u) :=
  h.trans ((wr_kept P f v u).mono (by simpa using hf))

theorem wr_apuFrame {s u : State} (P : Nat) (f : Fld) (v : Nat) (h : u = { s with regs := u.regs, apu := u.apu }) :
    wr P f v u = { s with regs := (wr P f v u).regs, apu := (wr P f v u).apu } := by
  rw [h]
  rfl

theorem apuMod_apuFrame {s u : State} (n : Nat) (f : ApuPort → ApuPort)
    (h : u = { s with regs := u.regs, apu := u.apu }) :
    apuMod n f u = { s with regs := (apuMod n f u).regs, apu := (apuMod n f u).apu } := by
  rw [h]
  rfl

theorem apuTrain_frame (n : Nat) (s : State) :
    apuTrain n s = { s with regs := (apuTrain n s).regs, apu := (apuTrain n s).apu } :=
  wr_apuFrame _ _ _ (wr_apuFrame _ _ _ (wr_apuFrame _ _ _ (wr_apuFrame _ _ _ (wr_apuFrame _ _ _
    (apuMod_apuFrame n _ rfl)))))

theorem apuTrain_begins (n : Nat) (s : State) : TrainBegun n s (apuTrain n s) := by
  refine ⟨?_, ?_, ?_, ?_, by rw [apuTrain_frame], ?_⟩
  · rw [apuState, apuTrain, rd_wr_self]
    rfl
  · simp only [apuTrain, apuGet_wr, apuGet_apuMod_self]
  · rw [apuTrain, rd_wr_place _ _ _ _ (by decide), rd_wr_self]
    rfl
  · rw [apuTrain, rd_wr_place _ _ _ _ (by decide), rd_wr_place _ _ _ _ (by decide), rd_wr_place _ _ _ _ (by decide),
      rd_wr_self]
    rfl
  · unfold apuTrain
    have hsteer : (pgApu n, R.APU_STEER_RX_STATE.off) ∈
        [(pgApu n, R.APU_STAT_STATE.off), (pgApu n, R.APU_STEER_RX_STATE.off)] := by simp
    exact .wr_mem (by simp) (.wr_mem hsteer (.wr_mem hsteer (.wr_mem hsteer (.wr_mem hsteer (RegsKept.of_eq rfl)))))

theorem TrainBegun.of_unlatched {P : Nat} (h : TrainBegun n (unlatched P s) t) : TrainBegun n s t := by
  obtain ⟨hs, ht, hr, hx, hf, hk⟩ := h
  exact ⟨hs, ht, hr, hx, hf, hk⟩

end

end Sys2Proof.Machine
end

section
/-!
CERTIFICATE. The timers of DOWN and TRAIN and TRAIN_START (R97, R98, R125, R126).
-/
namespace Sys2Proof.Machine

section
variable {s : State} {n : Nat}

theorem below_of_train (h : apuState s n = asTRAIN) : apuState s n < asENUM := by
  rw [h]
  decide

theorem atnTrainNoSignal_fails (h : apuState s n = asTRAIN) : Ends (.atnTrainNoSignal n) s (TrainFailed n 1 s) :=
  ends_done (congrArg done (if_pos h)) (apuDown_cause (below_of_train h) (by decide))

/-- The cause of R97: 2 where some lanes have locked and fewer than eight, 3 otherwise. -/
theorem atnLockTimeout_fails (h : apuState s n = asTRAIN) {cause : Nat}
    (hc : (if 0 < (lockedLanes (apuGet s n)).length ∧ (lockedLanes (apuGet s n)).length < 8 then 2 else 3) = cause) :
    Ends (.atnLockTimeout n) s (TrainFailed n cause s) := by
  refine ends_done (t := apuDown n (some cause) s) (congrArg done ((if_pos h).trans (by rw [← hc]))) ?_
  refine apuDown_cause (below_of_train h) ?_
  rw [← hc]
  split <;> decide

theorem autoTrainExpiry_trains (h : apuState s n = asDOWN) (ha : rdB s (pgApu n) R.APU_CTRL_AUTO_TRAIN = true) :
    Ends (.autoTrainExpiry n) s (TrainBegun n s) :=
  ends_done (congrArg done (if_pos ⟨h, ha⟩)) (apuTrain_begins n s)

theorem autoTrainExpiry_idle (ha : rdB s (pgApu n) R.APU_CTRL_AUTO_TRAIN = false) :
    exec (.autoTrainExpiry n) s = .next s :=
  congrArg done (if_neg fun h => Bool.noConfusion (ha.symm.trans h.2))

theorem trainStart_trains (hl : pageLive s (pgApu n) = true) (h : apuState s n = asDOWN) :
    Ends (.trainStart n) s (TrainBegun n s) :=
  ⟨_, (exec_onPage_live hl rfl).trans (congrArg done (if_pos h)), (apuTrain_begins n _).of_unlatched⟩

theorem trainStart_elsewhere (hl : pageLive s (pgApu n) = true) (h : apuState s n ≠ asDOWN) :
    Ends (.trainStart n) s (fun t => t = { s with woLatch := t.woLatch }) :=
  ⟨_, (exec_onPage_live hl rfl).trans (congrArg done (if_neg h)), rfl⟩

end

/-- Settles O8: TRAIN falls by `apuDown` and is entered by `apuTrain`, where the timer's state is in force. -/
theorem atnenTrainingTimersAct : Obligations.AtnenTrainingTimersAct := by
  unfold Obligations.AtnenTrainingTimersAct
  exact fun s n _ => ⟨atnTrainNoSignal_fails, fun h h0 h8 => atnLockTimeout_fails h (if_pos ⟨h0, h8⟩),
    fun h h0 => atnLockTimeout_fails h (if_neg (by simp [h0])),
    fun h => ⟨congrArg done (if_neg h), congrArg done (if_neg h)⟩, autoTrainExpiry_trains,
    fun _ => autoTrainExpiry_idle, trainStart_trains, trainStart_elsewhere⟩

end Sys2Proof.Machine
end

section
/-!
CERTIFICATE. The controls, the ENUM timeout and the losses of an Atnen port (R97, R99, R105, R126).
-/
namespace Sys2Proof.Machine

section
variable {s : State} {n : Nat}

/-! HOLD and the Keeper's hold (R97). -/

theorem apuHoldCheck_holds (hn : apuHeldNow s n = true) (h : apuState s n ≠ asDISABLED ∧ apuState s n ≠ asHELD) :
    apuHoldCheck n s = apuSetState n asHELD (wr (pgApu n) R.APU_STAT_CAUSE 9 s) :=
  (if_pos hn).trans (if_neg (not_or.mpr h))

theorem apuHoldCheck_frees (hn : apuHeldNow s n = false) (h : apuState s n = asHELD) :
    apuHoldCheck n s = apuDown n none s :=
  (if_neg (by simp [hn])).trans (if_pos h)

theorem apuHoldCheck_free (hn : apuHeldNow s n = false) (h : apuState s n ≠ asHELD) : apuHoldCheck n s = s :=
  (if_neg (by simp [hn])).trans (if_neg h)

theorem apuHeldNow_congr {t : State} (hh : rd t (pgApu n) R.APU_CTRL_HOLD = rd s (pgApu n) R.APU_CTRL_HOLD)
    (hk : rd t pgKeeper R.KP_HOLD_PORTS = rd s pgKeeper R.KP_HOLD_PORTS) : apuHeldNow t n = apuHeldNow s n := by
  simp only [apuHeldNow, rdB, hh, hk]

/-! EN (R97, R126). -/

theorem apuEnWrite_disables (h : apuState s n ≠ asDISABLED) : apuEnWrite n false s =
    apuSetState n asDISABLED (wr (pgApu n) R.APU_STAT_CAUSE 8 (wr (pgApu n) R.APU_CTRL_EN 0 s)) := by
  rw [apuEnWrite, if_neg Bool.false_ne_true, if_neg h]
  rfl

theorem apuEnWrite_enables (h : apuState s n = asDISABLED) : apuEnWrite n true s =
    apuHoldCheck n (apuDown n none (wr (pgApu n) R.APU_CTRL_EN 1 s)) := by
  rw [apuEnWrite, if_pos rfl, if_pos h]
  rfl

theorem exec_apuEnWrite (hl : pageLive s (pgApu n) = true) (en : Bool) :
    exec (.apuEnWrite n en) s = .next (settle (apuEnWrite n en (unlatched (pgApu n) s))) :=
  exec_onPage_live (f := fun s => settle (apuEnWrite n en s)) hl rfl

theorem exec_apuHoldWrite (hl : pageLive s (pgApu n) = true) (hold : Bool) : exec (.apuHoldWrite n hold) s =
    .next (settle (apuHoldCheck n (wr (pgApu n) R.APU_CTRL_HOLD (bit hold) (unlatched (pgApu n) s)))) :=
  exec_onPage_live (f := fun s => settle (apuHoldCheck n (wr (pgApu n) R.APU_CTRL_HOLD (bit hold) s))) hl rfl

/-! A bit of APU_CTRL written. -/

theorem apuState_wr {f : Fld} (P v : Nat) (s : State) (m : Nat)
    (h : (R.APU_STAT_STATE.off, R.APU_STAT_STATE.lo) ≠ (f.off, f.lo)) : apuState (wr P f v s) m = apuState s m :=
  rd_wr_place P _ v s h

theorem rdB_wr_bit {f : Fld} (hw : f.w = 1) (P : Nat) (b : Bool) (s : State) : rdB (wr P f (bit b) s) P f = b := by
  rw [rdB, rd_wr_self, hw]
  cases b <;> rfl

/-- A port that enters DOWN from a state that `u` differs from in APU_CTRL and latches alone. -/
theorem TrainFailed.frame_of {u t : State} {cause : Nat} (h : TrainFailed n cause u t)
    (hu : u = { s with regs := u.regs, woLatch := u.woLatch }) :
    t = { s with regs := t.regs, strikes := t.strikes, woLatch := t.woLatch } := by
  obtain ⟨-, -, -, hf, -⟩ := h
  rw [hf, hu]

theorem apuEnWrite_off (hl : pageLive s (pgApu n) = true) (h : apuState s n ≠ asDISABLED) :
    ∃ l, exec (.apuEnWrite n false) s = .next (settle (apuSetState n asDISABLED (wr (pgApu n) R.APU_STAT_CAUSE 8
      (wr (pgApu n) R.APU_CTRL_EN 0 { s with woLatch := l })))) :=
  ⟨_, (exec_apuEnWrite hl false).trans
    (congrArg (fun u => done (settle u)) (apuEnWrite_disables (s := unlatched (pgApu n) s) h))⟩

theorem apuEnWrite_on (hl : pageLive s (pgApu n) = true) (h : apuState s n = asDISABLED)
    (hn : apuHeldNow s n = false) (hq : quiet s = true) :
    Ends (.apuEnWrite n true) s (fun t => apuState t n = asDOWN ∧ rdB t (pgApu n) R.APU_CTRL_EN = true ∧
      rd t (pgApu n) R.APU_STAT_CAUSE = rd s (pgApu n) R.APU_STAT_CAUSE ∧
      t = { s with regs := t.regs, strikes := t.strikes, woLatch := t.woLatch }) := by
  generalize hu : wr (pgApu n) R.APU_CTRL_EN 1 (unlatched (pgApu n) s) = u
  have hub : apuState u n < asENUM := by
    rw [← hu, apuState_wr _ _ _ _ (by decide), show apuState (unlatched (pgApu n) s) n = asDISABLED from h]
    decide
  have hd := apuDown_no_cause hub
  have hf := hd.frame_of (s := s) (hu ▸ rfl)
  have ⟨hstate, hcause, _⟩ := hd
  have hfree : apuHoldCheck n (apuDown n none u) = apuDown n none u := by
    refine apuHoldCheck_free ?_ (by rw [hstate]; decide)
    rw [apuHeldNow_congr (hd.rd_off _ (by decide)) (hd.rd_off _ (by decide)), ← hu,
      apuHeldNow_congr (rd_wr_place _ _ _ _ (by decide)) (rd_wr_place _ _ _ _ (by decide))]
    exact hn
  refine ends_settle (t := apuDown n none u) ?_ ((quiet_of_frame hf).trans hq) ⟨hstate, ?_, ?_, hf⟩
  · rw [exec_apuEnWrite hl, apuEnWrite_enables (s := unlatched (pgApu n) s) h, hu, hfree]
    rfl
  · rw [rdB, hd.rd_off _ (by decide), ← hu]
    exact rdB_wr_bit rfl _ true _
  · rw [hcause, ← hu, rd_wr_place _ _ _ _ (by decide)]
    rfl

theorem apuHoldWrite_on (hl : pageLive s (pgApu n) = true) (h : apuState s n = asDOWN ∨ apuState s n = asTRAIN)
    (hq : quiet s = true) :
    Ends (.apuHoldWrite n true) s (fun t => apuState t n = asHELD ∧ rd t (pgApu n) R.APU_STAT_CAUSE = 9 ∧
      rdB t (pgApu n) R.APU_CTRL_HOLD = true ∧ t = { s with regs := t.regs, woLatch := t.woLatch }) := by
  generalize hu : wr (pgApu n) R.APU_CTRL_HOLD (bit true) (unlatched (pgApu n) s) = u
  have hus : apuState u n = apuState s n := by
    rw [← hu, apuState_wr _ _ _ _ (by decide)]
    rfl
  have hhold : rdB u (pgApu n) R.APU_CTRL_HOLD = true := by rw [← hu, rdB_wr_bit rfl]
  have hnot : apuState u n ≠ asDISABLED ∧ apuState u n ≠ asHELD ∧ apuState u n < asENUM := by
    rw [hus]
    rcases h with h | h <;> rw [h] <;> decide
  obtain ⟨hdis, hheld, hbelow⟩ := hnot
  have hset : apuHoldCheck n u = wr (pgApu n) R.APU_STAT_STATE asHELD (wr (pgApu n) R.APU_STAT_CAUSE 9 u) := by
    rw [apuHoldCheck_holds (by simp [apuHeldNow, hhold]) ⟨hdis, hheld⟩, apuSetState_below]
    rwa [apuState_wr _ _ _ _ (by decide)]
  refine ends_settle (t := apuHoldCheck n u) ?_ ?_ ?_
  · rw [exec_apuHoldWrite hl, hu]
    rfl
  · rw [hset, ← hu]
    exact (quiet_of_frame rfl).trans hq
  · rw [hset]
    refine ⟨rd_wr_self .., ?_, ?_, ?_⟩
    · rw [rd_wr_place _ _ _ _ (by decide), rd_wr_self]
      rfl
    · rw [rdB, rd_wr_place _ _ _ _ (by decide), rd_wr_place _ _ _ _ (by decide)]
      exact hhold
    · rw [← hu]
      rfl

theorem apuHoldWrite_off (hl : pageLive s (pgApu n) = true) (h : apuState s n = asHELD)
    (hk : (rd s pgKeeper R.KP_HOLD_PORTS).testBit n = false) (hq : quiet s = true) :
    Ends (.apuHoldWrite n false) s (fun t => apuState t n = asDOWN ∧ rdB t (pgApu n) R.APU_CTRL_HOLD = false ∧
      rd t (pgApu n) R.APU_STAT_CAUSE = rd s (pgApu n) R.APU_STAT_CAUSE ∧
      t = { s with regs := t.regs, strikes := t.strikes, woLatch := t.woLatch }) := by
  generalize hu : wr (pgApu n) R.APU_CTRL_HOLD (bit false) (unlatched (pgApu n) s) = u
  have hus : apuState u n = asHELD := by
    rw [← hu, apuState_wr _ _ _ _ (by decide)]
    exact h
  have hhold : rdB u (pgApu n) R.APU_CTRL_HOLD = false := by rw [← hu, rdB_wr_bit rfl]
  have hkeep : rd u pgKeeper R.KP_HOLD_PORTS = rd s pgKeeper R.KP_HOLD_PORTS := by
    rw [← hu, rd_wr_place _ _ _ _ (by decide)]
    rfl
  have hd := apuDown_no_cause (s := u) (n := n) (by rw [hus]; decide)
  have ⟨hstate, hcause, _⟩ := hd
  have hf := hd.frame_of (s := s) (hu ▸ rfl)
  refine ends_settle (t := apuDown n none u) ?_ ((quiet_of_frame hf).trans hq) ⟨hstate, ?_, ?_, hf⟩
  · rw [exec_apuHoldWrite hl, hu, apuHoldCheck_frees (by simp [apuHeldNow, hhold, hkeep, hk]) hus]
    rfl
  · rw [rdB, hd.rd_off _ (by decide)]
    exact hhold
  · rw [hcause, ← hu, rd_wr_place _ _ _ _ (by decide)]
    rfl

theorem enumStart_numbers (hl : pageLive s (pgApu n) = true) (h : apuState s n = asACTIVE) :
    ∃ l, exec (.enumStart n) s = .next (settle (apuEnum n { s with woLatch := l })) :=
  ⟨_, (exec_onPage_live hl rfl).trans (congrArg done (if_pos h))⟩

end

/-- Settles O9: each fall is `apuDown` with R97's cause, and EN and HOLD enter their states by the rules above. -/
theorem atnenPortsEnterAndLeave : Obligations.AtnenPortsEnterAndLeave := by
  unfold Obligations.AtnenPortsEnterAndLeave
  exact fun s n _ => ⟨fun h => congrArg done (if_pos h), fun h => congrArg done (if_neg h),
    fun h => congrArg done (if_pos h), fun h => congrArg done (if_pos h),
    fun h => ⟨congrArg done (if_neg (by simp [h])), congrArg done (if_neg (by simp [h]))⟩,
    apuEnWrite_off, apuEnWrite_on, apuHoldWrite_on, apuHoldWrite_off, enumStart_numbers⟩

end Sys2Proof.Machine
end

section
/-!
CERTIFICATE. TRN words, ENUM_END and the end of an enumeration without stations (R98, R105, R106, R108, R113, R130).
-/
namespace Sys2Proof.Machine

/-! TRN words (R98). -/

/-- A lane's run of good TRN words after a word, from the run before it and its TRN_CNT. -/
def trnRun (ok : Bool) (w : Nat) (before : Nat × Nat) : Nat :=
  if ok then (if before.1 ≠ 0 ∧ bits w 15 0 = (before.2 + 1) % 65536 then before.1 + 1 else 1) else 0

/-- A port's record after a TRN word without LAST on `lane`. -/
def trnPort (lane : Nat) (ok : Bool) (w : Nat) (p : ApuPort) : ApuPort :=
  let p1 : ApuPort :=
    { p with trn := tput (0, 0) p.trn lane (trnRun ok w (tget (0, 0) p.trn lane), bits w 15 0) }
  let ref := (lockedLanes p1).head? == some lane
  { p1 with
    readyTx := if decide (8 ≤ (lockedLanes p1).length) && ref then p1.readyTx + 1 else p1.readyTx
    readyRx := if ok && ref then (if w.testBit 23 then p1.readyRx + 1 else 0) else p1.readyRx
    badLaneRx := if ok then bits w 19 16 else p1.badLaneRx }

section
variable {s : State} {n : Nat}

theorem trnPort_trn (lane : Nat) (ok : Bool) (d : Nat) (p : ApuPort) : tget (0, 0) (trnPort lane ok d p).trn lane =
    (trnRun ok d (tget (0, 0) p.trn lane), bits d 15 0) := tget_tput_self ..

theorem trnWord_not_last {lane d : Nat} {good c ok : Bool} (h : apuState s n = asTRAIN) (hl : lane < 9)
    (hok : (good && c && wCode d == 14) = ok) (hlast : (ok && d.testBit 22) = false) :
    trnWord n lane good c d s = apuMod n (trnPort lane ok d) s := by
  subst hok
  rw [trnWord, if_neg (by omega)]
  simp only [hlast, Bool.false_and, Bool.false_eq_true, if_false]
  rfl

theorem trnWordReceive_counts {lane : Nat} {good ok : Bool} {w : LaneWord} (h : apuState s n = asTRAIN) (hl : lane < 9)
    (hq : quiet s = true) (hok : (good && w.c && wCode w.d.toNat == 14) = ok)
    (hlast : (ok && w.d.toNat.testBit 22) = false) :
    Ends (.trnWordReceive n lane good w) s (fun t =>
      tget (0, 0) (apuGet t n).trn lane =
        (trnRun ok w.d.toNat (tget (0, 0) (apuGet s n).trn lane), bits w.d.toNat 15 0) ∧
      t = { s with apu := t.apu }) := by
  have hna : apuState s n ≠ asACTIVE := by rw [h]; decide
  refine ends_settle (congrArg (fun u => done (settle u)) ((if_neg hna).trans (trnWord_not_last h hl hok hlast)))
    (quiet_apuMod hq n rfl) ⟨?_, rfl⟩
  rw [apuGet_apuMod_self, trnPort_trn]

theorem trnWordReceive_follows {lane : Nat} {w : LaneWord} (h : apuState s n = asTRAIN) (hl : lane < 9)
    (hq : quiet s = true) (hc : w.c = true) (hw : wCode w.d.toNat = 14) (hlast : w.d.toNat.testBit 22 = false)
    (hrun : (tget (0, 0) (apuGet s n).trn lane).1 ≠ 0)
    (hcnt : bits w.d.toNat 15 0 = ((tget (0, 0) (apuGet s n).trn lane).2 + 1) % 65536) :
    Ends (.trnWordReceive n lane true w) s (fun t =>
      tget (0, 0) (apuGet t n).trn lane = ((tget (0, 0) (apuGet s n).trn lane).1 + 1, bits w.d.toNat 15 0) ∧
      t = { s with apu := t.apu }) := by
  have hr : trnRun true w.d.toNat (tget (0, 0) (apuGet s n).trn lane) = (tget (0, 0) (apuGet s n).trn lane).1 + 1 :=
    (if_pos rfl).trans (if_pos ⟨hrun, hcnt⟩)
  rw [← hr]
  exact trnWordReceive_counts h hl hq (by simp [hc, hw]) hlast

theorem trnWordReceive_bad {lane : Nat} (w : LaneWord) (h : apuState s n = asTRAIN) (hl : lane < 9)
    (hq : quiet s = true) : Ends (.trnWordReceive n lane false w) s (fun t =>
      (tget (0, 0) (apuGet t n).trn lane).1 = 0 ∧ t = { s with apu := t.apu }) := by
  obtain ⟨t, he, ht, hf⟩ := trnWordReceive_counts h hl hq (good := false) (w := w) rfl rfl
  exact ⟨t, he, congrArg Prod.fst ht, hf⟩

theorem apuMod_kept {ex : List (Nat × Nat)} {u : State} (n : Nat) (f : ApuPort → ApuPort) (h : RegsKept ex s u) :
    RegsKept ex s (apuMod n f u) := h

/-! ENUM_END (R105, R106). -/

/-- The record of a port whose chain of `c` stations is numbered: each station's header is to be read. -/
def numberedPort (c : Nat) (p : ApuPort) : ApuPort :=
  { p with enumEnd := true, stations := (List.range c).map (fun i => (i, { pend := 1 })) }

/-- The reads of `c` headers, six words each. -/
def headerReads (c : Nat) : List Txn := (List.range c).map (fun i => ⟨txRD, i, 6, 15, 0, [], .hdr i⟩)

theorem enumEnd_first {c w : Nat} (h : apuState s n = asENUM) (he : (apuGet s n).enumEnd = false) (hc : bits w 4 0 = c)
    (h16 : c ≤ 16) (ho : w.testBit 5 = false) : enumEnd n w s = pushTxns n .mgmt (headerReads c)
      (wr (pgApu n) R.APU_STAT_ENUM_OVER 0 (wr (pgApu n) R.APU_STAT_STN_COUNT c (apuMod n (numberedPort c) s))) := by
  rw [enumEnd, if_pos ⟨h, by simp [he]⟩, ho, hc, Nat.min_eq_right h16]
  rfl

theorem enumEnd_asks {c : Nat} {w : BitVec 32} (h : apuState s n = asENUM) (he : (apuGet s n).enumEnd = false)
    (hc : bits w.toNat 4 0 = c) (h16 : c ≤ 16) (ho : w.toNat.testBit 5 = false) :
    Ends (.enumEnd n w) s (fun t => rd t (pgApu n) R.APU_STAT_STN_COUNT = c ∧ (apuGet t n).enumEnd = true ∧
      (apuGet t n).stations.length = c ∧ (apuGet t n).mgmt = (apuGet s n).mgmt ++ headerReads c ∧
      t = { s with regs := t.regs, apu := t.apu } ∧ RegsKept [(pgApu n, R.APU_STAT_STN_COUNT.off)] s t) := by
  refine ends_done (congrArg done (enumEnd_first h he hc h16 ho)) ?_
  generalize hu : wr (pgApu n) R.APU_STAT_ENUM_OVER 0
    (wr (pgApu n) R.APU_STAT_STN_COUNT c (apuMod n (numberedPort c) s)) = u
  have hg : apuGet u n = numberedPort c (apuGet s n) := by rw [← hu, apuGet_wr, apuGet_wr, apuGet_apuMod_self]
  rw [pushTxns, apuGet_apuMod_self, hg]
  refine ⟨?_, rfl, ?_, rfl, ?_, ?_⟩
  · show rd u (pgApu n) R.APU_STAT_STN_COUNT = c
    rw [← hu, rd_wr_place _ _ _ _ (by decide), rd_wr_self]
    exact Nat.mod_eq_of_lt (h16.trans_lt (by decide))
  · rw [numberedPort, List.length_map, List.length_range]
  · rw [← hu]
    exact apuMod_apuFrame _ _ (wr_apuFrame _ _ _ (wr_apuFrame _ _ _ (apuMod_apuFrame _ _ rfl)))
  · rw [← hu]
    exact apuMod_kept _ _ (.wr_mem (List.mem_singleton.mpr rfl)
      (.wr_mem (List.mem_singleton.mpr rfl) (RegsKept.of_eq rfl)))

/-! The end of an enumeration (R105, R108, R130). -/

theorem pushResult_first {q kind : Nat} (ws : List Nat) (he : (tget {} s.results q).words = [])
    (hl : ws.length < 4096) :
    (tget {} (pushResult q kind true ws s).results q).words =
      resWords kind ws.length (tget {} s.results q).nextSeq 0 (ws.length :: ws) := by
  have hlen : (tget {} s.results q).words.length + (ws.length :: ws).length ≤ 4096 := by
    rw [he, List.length_nil, List.length_cons]
    omega
  rw [pushResult]
  simp only [if_true]
  rw [if_pos hlen, raiseIf_results, tget_tput_self, he, List.nil_append]

/-- The port word of the enumeration result (R108). -/
def portWord (s : State) (n : Nat) : Nat :=
  n % 64 * 2 ^ 50 + rd s (pgApu n) R.APU_STAT_STN_COUNT * 2 ^ 45 + rd s (pgApu n) R.APU_STAT_ENUM_OVER * 2 ^ 44

/-- A port's entry into ACTIVE with the result words `ws` (R105, R108). -/
def enumResult (n : Nat) (ws : List Nat) (s : State) : State :=
  raise (pgApu n) 0 (wr (pgApu n) R.APU_STAT_STN_OFF 0 (wr (pgApu n) R.APU_STAT_STATE asACTIVE
    (raise (pgApu n) 2 (pushResult (resOf (aHalf n)) 1 true ws s))))

theorem enumDone_empty (h : apuState s n = asENUM) (he : (apuGet s n).enumEnd = true) (hs : (apuGet s n).stations = [])
    (hp : (apuGet s n).prevSerials = []) (ht : (s.sched.at (aHalf n)).streams = []) :
    enumDone n s = post (.portUp n) (enumResult n [portWord s n] s) := by
  have hsched : (enumResult n [portWord s n] s).sched = s.sched := by simp [enumResult]
  rw [enumDone, if_pos ⟨h, he, by simp [hs]⟩]
  have hstr : ((enumResult n [portWord s n] s).sched.at (aHalf n)).streams = [] := by rw [hsched, ht]
  simp only [hs, hp, List.map_nil, bindAll, List.filter_nil, List.foldl_nil]
  show post (.portUp n) (List.foldl _ (enumResult n [portWord s n] s)
    (List.filter _ ((enumResult n [portWord s n] s).sched.at (aHalf n)).streams)) = _
  rw [hstr]
  rfl


theorem enumResult_active (ws : List Nat) : apuState (enumResult n ws s) n = asACTIVE := by
  rw [enumResult, apuState, rd_raise_off _ _ _ _ (by decide), rd_wr_place _ _ _ _ (by decide), rd_wr_self]
  rfl

theorem rd_evtRaw_raise (P b : Nat) (s : State) :
    rd (raise P b s) P R.EVT_RAW = (rd s P R.EVT_RAW ||| 2 ^ b) % 2 ^ 64 := by
  unfold raise raiseTo
  dsimp only
  split
  · show rd (wr P R.EVT_PEND _ (wr P R.EVT_RAW _ s)) P R.EVT_RAW = _
    rw [rd_wr_place _ _ _ _ (by decide), rd_wr_self]
    rfl
  · rw [rd_wr_self]
    rfl

theorem evtRaw_raise_self (P : Nat) {b : Nat} (s : State) (hb : b < 64) :
    (rd (raise P b s) P R.EVT_RAW).testBit b = true := by
  rw [rd_evtRaw_raise, Nat.testBit_mod_two_pow]
  simp [hb]

theorem evtRaw_raise_keeps {P b k : Nat} {s : State} (hk : k < 64) (h : (rd s P R.EVT_RAW).testBit k = true) :
    (rd (raise P b s) P R.EVT_RAW).testBit k = true := by
  rw [rd_evtRaw_raise, Nat.testBit_mod_two_pow]
  simp [hk, h]

theorem enumResult_raised (ws : List Nat) : (rd (enumResult n ws s) (pgApu n) R.EVT_RAW).testBit 2 = true := by
  refine evtRaw_raise_keeps (by decide) ?_
  rw [rd_wr_place _ _ _ _ (by decide), rd_wr_place _ _ _ _ (by decide)]
  exact evtRaw_raise_self _ _ (by decide)

theorem enumDone_ends (hn : n < 64) (h : apuState s n = asENUM) (he : (apuGet s n).enumEnd = true)
    (hs : (apuGet s n).stations = []) (hp : (apuGet s n).prevSerials = []) (ht : (s.sched.at (aHalf n)).streams = [])
    (hr : (tget {} s.results (resOf (aHalf n))).words = []) :
    ∃ u, exec (.enumDone n) s = .next (settle u) ∧ apuState u n = asACTIVE ∧
      (rd u (pgApu n) R.EVT_RAW).testBit 2 = true ∧
      (tget {} u.results (resOf (aHalf n))).words.map (·.payload) =
        [1, (n * 2 ^ 50 + rd s (pgApu n) R.APU_STAT_STN_COUNT * 2 ^ 45 + rd s (pgApu n) R.APU_STAT_ENUM_OVER * 2 ^ 44) %
          2 ^ 56] := by
  refine ⟨_, congrArg (fun u => done (settle u)) (enumDone_empty h he hs hp ht), enumResult_active _,
    enumResult_raised _, ?_⟩
  have hw := pushResult_first (kind := 1) [portWord s n] hr (show 1 < 4096 by decide)
  rw [post_results, enumResult, raise_results, wr_results, wr_results, raise_results, hw, portWord,
    Nat.mod_eq_of_lt hn]
  rfl

end

/-- Settles O10: a TRN word gives its lane's run by `trnRun`, ENUM_END its reads, and no station is left to bind. -/
theorem atnenTrainingAndNumberingRecord : Obligations.AtnenTrainingAndNumberingRecord := by
  unfold Obligations.AtnenTrainingAndNumberingRecord
  exact ⟨fun s n lane w h hl hq => ⟨trnWordReceive_follows h hl hq, trnWordReceive_bad w h hl hq⟩,
    fun s n c w => enumEnd_asks, fun s n => enumDone_ends⟩

end Sys2Proof.Machine
end

section
/-!
CERTIFICATE. Lane steering, FLOW and LANE words (R100, R103, R104).
-/
namespace Sys2Proof.Machine

/-! Steering into the device (R103, R104). -/

section
variable {s : State} {n : Nat}

/-- A step of steering: the state `st` is entered, its step not answered yet, and LANE word `op` is sent. -/
def steerStep (n st op : Nat) (s : State) : State :=
  emitAtn n [(true, laneWord op (rxLane s n))] (setRxSteer n st s)

/-- The failed attempt as it is counted and raised (R104). -/
def steerFailed (n : Nat) (s : State) : State := raise (pgApu n) 8 (bump (pgApu n) R.APU_CNT_STEER_FAIL s)

theorem rd_steerStep (st op : Nat) (P : Nat) (f : Fld) :
    rd (steerStep n st op s) P f = rd (wr (pgApu n) R.APU_STEER_RX_STATE st s) P f := rfl

theorem rxSteer_steerStep {st : Nat} (op : Nat) (h : st < 16) : rxSteer (steerStep n st op s) n = st := by
  rw [rxSteer, rd_steerStep, rd_wr_self]
  exact Nat.mod_eq_of_lt h

theorem rxLane_steerStep (st op : Nat) : rxLane (steerStep n st op s) n = rxLane s n := by
  rw [rxLane, rd_steerStep, rd_wr_place _ _ _ _ (by decide)]
  rfl

theorem steerStep_out (st op : Nat) :
    (steerStep n st op s).out = s.out ++ [.atn n [(true, laneWord op (rxLane s n))]] := rfl

theorem steerStep_mail (st op : Nat) : (steerStep n st op s).mail = s.mail := rfl

theorem steerStep_kept (st op : Nat) : RegsKept [(pgApu n, R.APU_STEER_RX_STATE.off)] s (steerStep n st op s) :=
  wr_kept (pgApu n) R.APU_STEER_RX_STATE st s

theorem steerFailed_out : (steerFailed n s).out = s.out := by rw [steerFailed, raise_out, bump_out]

theorem steerFailed_mail : (steerFailed n s).mail = s.mail := by rw [steerFailed, raise_mail, bump_mail]

theorem rxLane_steerFailed : rxLane (steerFailed n s) n = rxLane s n := by
  rw [rxLane, steerFailed, rd_raise_off _ _ _ _ (by decide), bump, rd_bumpBy_off _ _ _ _ (by decide)]
  rfl

theorem rxSteer_post (m : Mail) (s : State) : rxSteer (post m s) n = rxSteer s n := rfl

@[simp] theorem rd_post (m : Mail) (s : State) (P : Nat) (f : Fld) : rd (post m s) P f = rd s P f := rfl

theorem post_mail_of_quiet {u : State} (m : Mail) (hq : quiet s = true) (hu : u.mail = s.mail) :
    (post m u).mail = [m] := by
  rw [show (post m u).mail = u.mail ++ [m] from rfl, hu, mail_of_quiet hq, List.nil_append]

theorem steerMatch_swaps (ha : (apuGet s n).steerAns = true) (h : rxSteer s n = ssMIRROR) :
    steerMatch n s = post (.steer n 1) (steerStep n ssSWAPPED 3 s) :=
  (if_pos ha).trans (if_pos h)

theorem steerMatch_releases (ha : (apuGet s n).steerAns = true) (h : rxSteer s n = ssRESTORE) :
    steerMatch n s = post (.steer n 2) (bump (pgApu n) R.APU_CNT_STEER (steerStep n ssNONE 6 s)) :=
  (if_pos ha).trans ((if_neg (by rw [h]; decide)).trans (if_pos h))

theorem steerAbort_ends (h : rxSteer s n = ssMIRROR) :
    steerAbort n s = post (.steer n 0) (steerStep n ssNONE 6 (steerFailed n s)) := by
  rw [steerStep, rxLane_steerFailed, steerAbort]
  exact (if_pos (.inl h)).trans (if_pos h)

theorem steerAbort_restores (h : rxSteer s n = ssSWAPPED) :
    steerAbort n s = post (.steer n 0) (steerStep n ssRESTORE 4 (steerFailed n s)) := by
  rw [steerAbort]
  refine (if_pos (.inr (.inl h))).trans ((if_neg ?_).trans (if_neg fun hr => ?_))
  · rw [h]
    decide
  · exact absurd (h.symm.trans hr.1) (by decide)

theorem steerAbort_none (h : rxSteer s n = ssNONE) : steerAbort n s = s := by
  rw [steerAbort]
  exact if_neg (by rw [h]; decide)

theorem steerMatch_mirror (hq : quiet s = true) (ha : (apuGet s n).steerAns = true) (h : rxSteer s n = ssMIRROR) :
    ∃ u, exec (.steerMatch n) s = .next (settle u) ∧ rxSteer u n = ssSWAPPED ∧ rxLane u n = rxLane s n ∧
      u.mail = [.steer n 1] ∧ u.out = s.out ++ [.atn n [(true, laneWord 3 (rxLane s n))]] ∧
      u = { s with regs := u.regs, apu := u.apu, out := u.out, mail := u.mail } ∧
      RegsKept [(pgApu n, R.APU_STEER_RX_STATE.off)] s u :=
  ⟨_, congrArg (fun u => done (settle u)) (steerMatch_swaps ha h),
    (rxSteer_post ..).trans (rxSteer_steerStep 3 (by decide)), rxLane_steerStep ssSWAPPED 3, post_mail_of_quiet _ hq (steerStep_mail ..), steerStep_out .., rfl,
    steerStep_kept ssSWAPPED 3⟩

theorem steerMatch_restore (hq : quiet s = true) (ha : (apuGet s n).steerAns = true) (h : rxSteer s n = ssRESTORE) :
    ∃ u, exec (.steerMatch n) s = .next (settle u) ∧ rxSteer u n = ssNONE ∧ u.mail = [.steer n 2] ∧
      u.out = s.out ++ [.atn n [(true, laneWord 6 (rxLane s n))]] ∧
      RegsKept [(pgApu n, R.APU_STEER_RX_STATE.off), (pgApu n, R.APU_CNT_STEER.off)] s u := by
  refine ⟨_, congrArg (fun u => done (settle u)) (steerMatch_releases ha h), ?_, post_mail_of_quiet _ hq ?_, ?_, ?_⟩
  · rw [rxSteer_post, rxSteer, bump, rd_bumpBy_off _ _ _ _ (by decide)]
    exact rxSteer_steerStep 6 (by decide)
  · rw [bump_mail, steerStep_mail]
  · rw [post_out, bump_out, steerStep_out]
  · exact ((steerStep_kept ssNONE 6).mono (by simp)).trans ((bump_kept _ R.APU_CNT_STEER _).mono (by simp))

theorem exec_steerAbort {c : Instr} (hc : c ∈ [Instr.steerTimeout n, Instr.steerParityError n]) :
    exec c s = done (settle (steerAbort n s)) := by
  rcases List.mem_pair.mp hc with rfl | rfl <;> rfl

/-- A failed attempt goes on with a step: the port is told, LANE word `op` is sent and event 8 is raised. -/
theorem steerFailed_steps {c : Instr} {st op : Nat} (hq : quiet s = true)
    (hc : c ∈ [Instr.steerTimeout n, Instr.steerParityError n]) (hst : st < 16)
    (h : steerAbort n s = post (.steer n 0) (steerStep n st op (steerFailed n s))) :
    ∃ u, exec c s = .next (settle u) ∧ rxSteer u n = st ∧ u.mail = [.steer n 0] ∧
      u.out = s.out ++ [.atn n [(true, laneWord op (rxLane s n))]] ∧ (rd u (pgApu n) R.EVT_RAW).testBit 8 = true := by
  refine ⟨_, (exec_steerAbort hc).trans (congrArg (fun u => done (settle u)) h),
    (rxSteer_post ..).trans (rxSteer_steerStep op hst), post_mail_of_quiet _ hq steerFailed_mail, ?_, ?_⟩
  · rw [post_out, steerStep_out, steerFailed_out, rxLane_steerFailed]
  · rw [rd_post, rd_steerStep, rd_wr_place _ _ _ _ (by decide)]
    exact evtRaw_raise_self _ _ (by decide)

theorem steerAbort_idle {c : Instr} (hq : quiet s = true) (hc : c ∈ [Instr.steerTimeout n, Instr.steerParityError n])
    (h : rxSteer s n = ssNONE) : exec c s = .next s :=
  exec_settled ((exec_steerAbort hc).trans (congrArg (fun u => done (settle u)) (steerAbort_none h))) hq

/-! FLOW words (R100). -/

theorem flowReceive_hop {w : BitVec 32} (hl : apuLive s n = true) (hw : w.toNat.testBit 26 = false) :
    Ends (.flowReceive n w) s (fun t => rdB t (pgApu n) R.APU_STAT_RX_HOP_OFF = w.toNat.testBit 27 ∧
      t = { s with regs := t.regs }) := by
  refine ends_done (congrArg done ((if_pos hl).trans (if_neg (by simp [hw])))) ?_
  generalize hu : wr (pgApu n) R.APU_STAT_RX_HOP_OFF (bit (w.toNat.testBit 27)) s = u
  have hoff : rdB u (pgApu n) R.APU_STAT_RX_HOP_OFF = w.toNat.testBit 27 := hu ▸ rdB_wr_bit rfl ..
  split
  · refine ⟨?_, ?_⟩
    · rw [rdB, bump, rd_bumpBy_off _ _ _ _ (by decide)]
      exact hoff
    · rw [bump, bumpBy_only, ← hu]
      rfl
  · exact ⟨hoff, hu ▸ rfl⟩

/-- A station's bit set or cleared among sixteen. -/
theorem testBit_setBit {cur k j : Nat} (b : Bool) (hk : k < 16) (hj : j < 16) :
    ((if b then cur ||| 2 ^ k else cur &&& (65535 - 2 ^ k)) % 2 ^ 16).testBit j =
      if j = k then b else cur.testBit j := by
  have hm : (65535 - 2 ^ k).testBit j = !(2 ^ k).testBit j := by
    have h := Nat.testBit_two_pow_sub_succ (n := 16) (Nat.pow_lt_pow_right (by decide) hk : 2 ^ k < 2 ^ 16) j
    rw [show 65535 - 2 ^ k = 2 ^ 16 - (2 ^ k + 1) by omega, h]
    simp [hj]
  rw [Nat.testBit_mod_two_pow]
  by_cases e : j = k
  · subst e
    cases b <;> simp [hj, hm]
  · cases b <;> simp [hj, e, hm, Ne.symm e]

theorem flowReceive_station {w : BitVec 32} (hl : apuLive s n = true) (hw : w.toNat.testBit 26 = true) :
    Ends (.flowReceive n w) s (fun t =>
      (rd t (pgApu n) R.APU_STAT_STN_OFF).testBit (bits w.toNat 25 22) = w.toNat.testBit 27 ∧
      (∀ j, j ≠ bits w.toNat 25 22 → j < 16 →
        (rd t (pgApu n) R.APU_STAT_STN_OFF).testBit j = (rd s (pgApu n) R.APU_STAT_STN_OFF).testBit j) ∧
      t = { s with regs := t.regs }) := by
  refine ends_done (congrArg done ((if_pos hl).trans (if_pos hw))) ?_
  have hk : bits w.toNat 25 22 < 16 := Nat.mod_lt _ (by decide)
  refine ⟨?_, fun j hj hlt => ?_, rfl⟩
  · rw [rd_wr_self]
    exact (testBit_setBit _ hk hk).trans (if_pos rfl)
  · rw [rd_wr_self]
    exact (testBit_setBit _ hk hlt).trans (if_neg hj)

/-! LANE words (R103). -/

theorem laneReceive_answered {w : BitVec 32} (hl : apuLive s n = true) (hw : bits w.toNat 27 25 = 2)
    (h : rxSteer s n = ssMIRROR) :
    Ends (.laneReceive n w) s (fun t => (apuGet t n).steerAns = true ∧ t = { s with apu := t.apu }) := by
  refine ends_done (congrArg done ((if_pos hl).trans (if_pos (.inl ⟨hw, h⟩)))) ⟨?_, rfl⟩
  rw [apuGet_apuMod_self]

theorem laneReceive_starts {w : BitVec 32} (hl : apuLive s n = true) (hw : bits w.toNat 27 25 = 1)
    (h : rd s (pgApu n) R.APU_STEER_TX_STATE = ssNONE) :
    Ends (.laneReceive n w) s (fun t => rd t (pgApu n) R.APU_STEER_TX_STATE = ssMIRROR ∧
      rd t (pgApu n) R.APU_STEER_TX_LANE = bits w.toNat 24 21 ∧
      t.out = s.out ++ [.atn n [(true, laneWord 2 (bits w.toNat 24 21))]] ∧
      t = { s with regs := t.regs, out := t.out }) := by
  refine ends_done (congrArg done ((if_pos hl).trans ((if_neg ?_).trans (if_pos ⟨hw, h⟩)))) ⟨?_, ?_, rfl, rfl⟩
  · simp [hw]
  · exact (rd_wr_place _ _ _ _ (by decide)).trans (rd_wr_self ..)
  · exact (rd_wr_self ..).trans (Nat.mod_mod ..)

end

/-- Settles O11: each step of steering is an equation of `steerMatch`, `steerAbort` or `laneReceive`, read off field by
field. -/
theorem laneSteeringStepsInTurn : Obligations.LaneSteeringStepsInTurn := by
  unfold Obligations.LaneSteeringStepsInTurn
  exact fun s n hq => ⟨steerMatch_mirror hq, steerMatch_restore hq,
    fun c hc => ⟨fun h => steerFailed_steps hq hc (by decide) (steerAbort_ends h),
      fun h => steerFailed_steps hq hc (by decide) (steerAbort_restores h), steerAbort_idle hq hc⟩,
    fun w hl => ⟨flowReceive_hop hl, fun hw _ => flowReceive_station hl hw, laneReceive_answered hl,
      laneReceive_starts hl⟩⟩

end Sys2Proof.Machine
end

section
/-!
CERTIFICATE. The words that a station sends (R94, R95, R112, R116-R118, R120, R121).
-/
namespace Sys2Proof.Machine

/-! Runs of words without control words (R95). -/

theorem takeFollow_payload (ps : List (BitVec 32)) :
    takeFollow ps.length (payloadOf ps) = some (ps.map BitVec.toNat, []) := by
  induction ps with
  | nil => rfl
  | cons p ps ih =>
    have h : takeFollow (ps.length + 1) (⟨false, p⟩ :: payloadOf ps) =
        (takeFollow ps.length (payloadOf ps)).map (fun r => (p.toNat :: r.1, r.2)) := rfl
    exact h.trans (by rw [ih]; rfl)

theorem takePayload_payload (ps : List (BitVec 32)) (fuel : Nat) (hf : ps.length ≤ fuel) :
    takePayload fuel ps.length (payloadOf ps) = some (ps.map BitVec.toNat, [], []) := by
  induction ps generalizing fuel with
  | nil => cases fuel <;> rfl
  | cons p ps ih =>
    obtain ⟨k, rfl⟩ : ∃ k, fuel = k + 1 := ⟨fuel - 1, by simp at hf; omega⟩
    have h : takePayload (k + 1) (ps.length + 1) (⟨false, p⟩ :: payloadOf ps) =
        (takePayload k ps.length (payloadOf ps)).map (fun x => (p.toNat :: x.1, x.2.1, x.2.2)) := rfl
    exact h.trans (by rw [ih k (by simpa using hf)]; rfl)

theorem payloadBytes_eq (ps : List (BitVec 32)) : ((ps.map BitVec.toNat).map beBytes).flatten = payloadBytes ps := by
  rw [List.map_map]
  rfl

/-! The port stream, word by word (R94). -/

section
variable {s : State} {n : Nat}

theorem atnWords_nil (fuel : Nat) (s : State) : atnWords n fuel [] s = s := by cases fuel <;> rfl

/-- The words of one command, where no INT holds the receive buffer, and what settles from them. -/
theorem exec_words {c : Instr} {w : BitVec 32} {ws : List LaneWord} {t : State} (hl : apuLive s n = true)
    (hi : intHeld s n = false) (hc : exec c s = done (atnCommand n w ws s))
    (ht : atnWords n (ws.length + 2) (⟨true, w⟩ :: ws) s = t) : exec c s = .next (settle t) := by
  rw [hc, atnCommand, atnReceive, if_neg (by simp [hl]), if_neg (by simp [hi]), List.length_cons, ht]
  rfl

/-- A control word without payload, whole with its follow words. -/
theorem atnWords_control {w : BitVec 32} {fs : List (BitVec 32)} (hl : apuLive s n = true)
    (hf : followCount w.toNat = some fs.length) : atnWords n ((payloadOf fs).length + 2) (⟨true, w⟩ :: payloadOf fs) s =
      rxControl n w.toNat (fs.map BitVec.toNat) s := by
  rw [atnWords]
  simp only [hl, hf, takeFollow_payload, atnWords_nil]
  rfl

theorem exec_control {c : Instr} {w : BitVec 32} {fs : List (BitVec 32)} {t : State} (hl : apuLive s n = true)
    (hi : intHeld s n = false) (hc : exec c s = done (atnCommand n w (payloadOf fs) s))
    (hf : followCount w.toNat = some fs.length) (ht : rxControl n w.toNat (fs.map BitVec.toNat) s = t) :
    exec c s = .next (settle t) :=
  exec_words hl hi hc ((atnWords_control hl hf).trans ht)

/-- STATUS words (R121). -/
theorem followCount_status {w : BitVec 32} (hw : wCode w.toNat = 9) :
    followCount w.toNat = some (if bits w.toNat 23 20 = 1 then 1 else 0) := by
  simp only [followCount, hw]

theorem rxControl_status {w : BitVec 32} (hw : wCode w.toNat = 9) (f : List Nat) :
    rxControl n w.toNat f s = rxStatus n w.toNat ((f[0]?).getD 0) s := by
  simp only [rxControl, hw]

/-- An answer with as many payload words as it says. -/
theorem atnWords_rsp {w : BitVec 32} {ps : List (BitVec 32)} (hl : apuLive s n = true) (hw : wCode w.toNat = 4)
    (hp : (if bits w.toNat 11 9 = 0 then bits w.toNat 17 12 + 1 else 0) = ps.length) :
    atnWords n ((payloadOf ps).length + 2) (⟨true, w⟩ :: payloadOf ps) s = rxRsp n w.toNat (payloadBytes ps) s := by
  have ht := takePayload_payload ps ((payloadOf ps).length + 1) (by simp [payloadOf])
  rw [atnWords]
  simp only [hl, hw, followCount, hp, ht, payloadBytes_eq, List.foldl_nil, atnWords_nil]
  rfl

/-- A WR of a station with its address and payload. -/
theorem atnWords_wr {w a : BitVec 32} {ps : List (BitVec 32)} (hl : apuLive s n = true) (hw : wCode w.toNat = 3)
    (ht : bits w.toNat 27 25 = txWR) (hp : ps.length = bits w.toNat 14 9 + 1) :
    atnWords n ((payloadOf (a :: ps)).length + 2) (⟨true, w⟩ :: payloadOf (a :: ps)) s =
      inbWrite n (bits w.toNat 24 21) (bits w.toNat 8 5) (bits w.toNat 4 1 * 2 ^ 32 + a.toNat) (payloadBytes ps)
        (bump (pgApu n) R.APU_CNT_TXN_RX s) := by
  have hk := takePayload_payload ps ((payloadOf (a :: ps)).length + 1) (by simp [payloadOf]; omega)
  have hf : takeFollow 1 (payloadOf (a :: ps)) = some ([a.toNat], payloadOf ps) := rfl
  have ha : (([a.toNat])[0]?).getD 0 = a.toNat := rfl
  have h6 : ¬ 6 ≤ txWR := by decide
  rw [atnWords]
  simp only [hl, hw, followCount, ht, hf, ha, h6, ← hp, true_or, if_true, if_false, Bool.not_true, Bool.false_eq_true,
    hk, payloadBytes_eq, List.foldl_nil, atnWords_nil, rxTxn]

/-! Each kind of word. -/

section
variable {w : BitVec 32} (hl : apuLive s n = true) (hi : intHeld s n = false)
include hl hi

theorem atnRxBeacon_reaches (a b : BitVec 32) (hw : wCode w.toNat = 6) (hk : bits w.toNat 16 14 < 3) :
    exec (.atnRxBeacon n w (payloadOf [a, b])) s = .next (settle
      (beacon n (bits w.toNat 27 24) (bits w.toNat 23 17) (bits w.toNat 16 14) (bits w.toNat 13 0 * 2 ^ 32 + a.toNat)
        b.toNat s)) := by
  refine exec_control hl hi rfl (by simp [followCount, hw]) ?_
  simp only [rxControl, hw, if_neg (Nat.not_le.mpr hk)]
  rfl

theorem atnRxVerify_reaches (v : BitVec 32) (hw : wCode w.toNat = 8) :
    exec (.atnRxVerify n w (payloadOf [v])) s = .next (settle (verifyWord n (bits w.toNat 16 13) v.toNat s)) := by
  refine exec_control hl hi rfl (by simp [followCount, hw]) ?_
  simp only [rxControl, hw]
  rfl

theorem atnRxInt_reaches (hw : wCode w.toNat = 5) :
    exec (.atnRxInt n w []) s = .next (settle (rxInt n w.toNat s)) := by
  refine exec_control (fs := []) hl hi rfl (by simp [followCount, hw]) ?_
  simp only [rxControl, hw]

theorem atnRxWrErr_reaches (a : BitVec 32) (hw : wCode w.toNat = 9) (hk : bits w.toNat 23 20 = 1)
    (hd : dpCovers s n (bits w.toNat 27 24) (bits w.toNat 11 8 * 2 ^ 32 + a.toNat) = false) :
    exec (.atnRxWrErr n w (payloadOf [a])) s = .next (settle
      (wrErr n (bits w.toNat 27 24) (bits w.toNat 7 0) (bits w.toNat 11 8 * 2 ^ 32 + a.toNat) false s)) := by
  refine exec_control hl hi rfl (by simp [followCount_status hw, hk]) ((rxControl_status hw _).trans ?_)
  have ha : (([a].map BitVec.toNat)[0]?).getD 0 = a.toNat := rfl
  simp only [ha, rxStatus, hk, hd, Nat.one_ne_zero, if_true, if_false, Bool.false_eq_true]

theorem atnRxUnitState_reaches (l : Nat) (hw : wCode w.toNat = 9) (hk : bits w.toNat 23 20 = 2)
    (hlight : lightOf s n (bits w.toNat 27 24) (bits w.toNat 19 13) = some l) (hs : strOfLight s l = none) :
    exec (.atnRxUnitState n w []) s = .next (settle (unitStateTo l (bits w.toNat 3 0) s)) := by
  refine exec_control (fs := []) hl hi rfl (by simp [followCount_status hw, hk]) ((rxControl_status hw _).trans ?_)
  rw [rxStatus]
  simp [hk, hlight, hs]

theorem atnRxStationFault_raises (hw : wCode w.toNat = 9) (hk : bits w.toNat 23 20 = 3) (hq : quiet s = true) :
    exec (.atnRxStationFault n w []) s = .next (raise (pgApu n) 11 s) := by
  have hr : quiet (raise (pgApu n) 11 s) = true := by
    refine (quiet_of_frame ?_).trans hq
    rw [raise_only]
  have h := exec_control (c := .atnRxStationFault n w []) (fs := []) (t := raise (pgApu n) 11 s) hl hi rfl
    (by simp [followCount_status hw, hk]) ((rxControl_status hw _).trans (by simp [rxStatus, hk]))
  rwa [settle_quiet _ hr] at h

theorem atnRxRsp_reaches (ps : List (BitVec 32)) (hw : wCode w.toNat = 4)
    (hp : bits w.toNat 11 9 = 0 ∧ ps.length = bits w.toNat 17 12 + 1 ∨ bits w.toNat 11 9 ≠ 0 ∧ ps = []) :
    exec (.atnRxRsp n w (payloadOf ps)) s = .next (settle (rxRsp n w.toNat (payloadBytes ps) s)) := by
  refine exec_words hl hi rfl (atnWords_rsp hl hw ?_)
  rcases hp with ⟨hs, hlen⟩ | ⟨hs, rfl⟩
  · rw [if_pos hs, hlen]
  · rw [if_neg hs]
    rfl

theorem atnRxTxnWr_reaches (a : BitVec 32) (ps : List (BitVec 32)) (hw : wCode w.toNat = 3)
    (ht : bits w.toNat 27 25 = txWR) (hp : ps.length = bits w.toNat 14 9 + 1) :
    exec (.atnRxTxnWr n w (payloadOf (a :: ps))) s = .next (settle
      (inbWrite n (bits w.toNat 24 21) (bits w.toNat 8 5) (bits w.toNat 4 1 * 2 ^ 32 + a.toNat) (payloadBytes ps)
        (bump (pgApu n) R.APU_CNT_TXN_RX s))) :=
  exec_words hl hi rfl (atnWords_wr hl hw ht hp)

end

end

/-- Settles O12: the stream takes a word with its follow words or payload, and its CODE names what takes it. -/
theorem stationWordsReachTheirHandlers : Obligations.StationWordsReachTheirHandlers := by
  unfold Obligations.StationWordsReachTheirHandlers
  exact fun s n w hl hi => ⟨atnRxBeacon_reaches hl hi, atnRxVerify_reaches hl hi, atnRxInt_reaches hl hi,
    atnRxWrErr_reaches hl hi, atnRxUnitState_reaches hl hi, atnRxStationFault_raises hl hi, atnRxRsp_reaches hl hi,
    atnRxTxnWr_reaches hl hi⟩

end Sys2Proof.Machine
end

section
/-!
CERTIFICATE. Late reads, quarantines and TSYNC of an Atnen port (R113, R119, R126, R207).
-/
namespace Sys2Proof.Machine

section
variable {s : State} {n : Nat}

theorem readTimeout_fails {stn tn : Nat} {r : RdOut}
    (hf : (apuGet s n).reads.find? (fun r => r.stn == stn && r.tn == tn) = some r) (hr : isLockRd s n r = false) :
    readTimeout n stn tn s = readFailed n r cRD_TIMEOUT (quarantine n r (dropRead n r
      (raise (pgApu n) 6 (bump (pgApu n) R.APU_CNT_RD_TMO s)))) := by
  simp only [readTimeout, hf, hr, Bool.false_eq_true, if_false]

theorem readTimeout_idle {stn tn : Nat}
    (hf : (apuGet s n).reads.find? (fun r => r.stn == stn && r.tn == tn) = none) : readTimeout n stn tn s = s := by
  simp only [readTimeout, hf]

theorem tnQuarantineEnd_frees (stn tn : Nat) : Ends (.tnQuarantineEnd n stn tn) s (fun t =>
    (∀ x, x ∈ (apuGet t n).quar ↔ x ∈ (apuGet s n).quar ∧ x ≠ (stn, tn)) ∧
    (apuGet t n).reads = (apuGet s n).reads ∧ t = { s with apu := t.apu }) := by
  refine ends_done rfl ?_
  rw [apuGet_apuMod_self]
  exact ⟨fun x => by rw [List.mem_filter, bne_iff_ne], rfl, rfl⟩

/-- TSYNC goes out where the port is live, TSYNC_EN is 1 and the hop is not off (R119). -/
theorem tsyncSend_sends (hl : apuLive s n = true) (he : rdB s (pgApu n) R.APU_CTRL_TSYNC_EN = true)
    (ho : rdB s (pgApu n) R.APU_STAT_RX_HOP_OFF = false) : exec (.tsyncSend n) s = .next { s with
      out := s.out ++ [.atn n [(true, 0x78000000), (false, nowH s (aHalf n) / 2 ^ 32 % 2 ^ 32),
        (false, nowH s (aHalf n) % 2 ^ 32)]] } :=
  congrArg done (if_pos (by simp [hl, he, ho]))

theorem tsyncSend_idle (h : apuLive s n = false ∨ rdB s (pgApu n) R.APU_CTRL_TSYNC_EN = false ∨
    rdB s (pgApu n) R.APU_STAT_RX_HOP_OFF = true) : exec (.tsyncSend n) s = .next s :=
  congrArg done (if_neg (by rcases h with h | h | h <;> simp [h]))

theorem tsyncEnWrite_on (hl : pageLive s (pgApu n) = true) :
    Ends (.tsyncEnWrite n true) s (fun t => rdB t (pgApu n) R.APU_CTRL_TSYNC_EN = true ∧
      t = { s with regs := t.regs, woLatch := t.woLatch } ∧ RegsKept [(pgApu n, R.APU_CTRL_EN.off)] s t) :=
  ⟨_, exec_onPage_live hl rfl, rdB_wr_bit rfl _ true _, rfl,
    wr_kept (pgApu n) R.APU_CTRL_TSYNC_EN 1 (unlatched (pgApu n) s)⟩

theorem tsyncEnWrite_off (hl : pageLive s (pgApu n) = true) :
    ∃ l, exec (.tsyncEnWrite n false) s = .next (settle (portReacquire n (wr (pgApu n) R.APU_CTRL_TSYNC_EN 0
      { s with woLatch := l }))) :=
  ⟨_, (exec_onPage_live hl rfl).trans (congrArg done (if_neg Bool.false_ne_true))⟩

end

/-- Settles O13: the read that is late is the one found, and TSYNC's guard and TSYNC_EN's two values are told apart. -/
theorem atnenTimesAndSyncAct : Obligations.AtnenTimesAndSyncAct := by
  unfold Obligations.AtnenTimesAndSyncAct
  exact fun s n => ⟨fun _ _ _ hf hr => congrArg (fun u => done (settle u)) (readTimeout_fails hf hr),
    fun _ _ hf hq => exec_settled (congrArg (fun u => done (settle u)) (readTimeout_idle hf)) hq, tnQuarantineEnd_frees,
    tsyncSend_sends, tsyncSend_idle, fun hl => ⟨tsyncEnWrite_on hl, tsyncEnWrite_off hl⟩⟩

end Sys2Proof.Machine
end

section
/-!
SUPPORT. The parts of a write (R142): what the next part takes of the run, which bytes it writes, and what holds of it.
-/
namespace Sys2Proof.Machine

/-! A run of bytes with its addresses. -/

/-- The bytes of a run at a station address, each with its own address. -/
def runBytes (a : Nat) (d : List Byte) : List (Nat × Byte) :=
  (List.range d.length).map (fun i => (a + i, (d[i]?).getD 0))

@[simp] theorem runBytes_nil (a : Nat) : runBytes a [] = [] := rfl

theorem runBytes_cons (a : Nat) (b : Byte) (d : List Byte) : runBytes a (b :: d) = (a, b) :: runBytes (a + 1) d := by
  simp [runBytes, List.range_succ_eq_map, Nat.add_assoc, Nat.add_comm 1]

theorem runBytes_append (a : Nat) (x y : List Byte) :
    runBytes a (x ++ y) = runBytes a x ++ runBytes (a + x.length) y := by
  induction x generalizing a with
  | nil => rfl
  | cons b x ih =>
    rw [List.cons_append, runBytes_cons, runBytes_cons, ih, List.length_cons, List.cons_append, Nat.add_assoc,
      Nat.add_comm 1]

theorem mem_runBytes_addr {a : Nat} {d : List Byte} {x : Nat × Byte} (h : x ∈ runBytes a d) :
    a ≤ x.1 ∧ x.1 < a + d.length := by
  obtain ⟨i, hi, rfl⟩ := List.mem_map.mp h
  exact ⟨Nat.le_add_right a i, Nat.add_lt_add_left (List.mem_range.mp hi) a⟩

/-! The bytes that a part's byte enables select (R111). -/

/-- The byte enables of a part select the byte at a station address. -/
def selects (p : APart) (x : Nat × Byte) : Bool := p.be.testBit (3 - (x.1 - p.addr) % 4)

theorem partBytes_eq_filter (p : APart) : partBytes p = (runBytes p.addr p.data).filter (selects p) := by
  rw [runBytes, List.filter_map, partBytes]
  congr 2
  funext i
  simp [selects]

theorem partBytes_of_be_all {p : APart} (h : p.be = 15) : partBytes p = runBytes p.addr p.data := by
  have hall : ∀ j < 4, Nat.testBit 15 (3 - j) = true := by decide
  rw [partBytes_eq_filter, List.filter_eq_self]
  intro x _
  rw [selects, h, hall _ (Nat.mod_lt _ (by decide))]

theorem testBit_beMask : ∀ r < 4, ∀ k ≤ 4, r + k ≤ 4 → ∀ j < 4,
    (beMask r k).testBit (3 - j) = decide (r ≤ j ∧ j < r + k) := by decide

theorem beMask_bounds : ∀ r < 4, ∀ k ≤ 4, r + k ≤ 4 → 0 < k → 0 < beMask r k ∧ beMask r k < 16 := by decide

/-! The two kinds of part. -/

/-- The bytes `m` alone within the word that holds `a`, with their byte enables (R142). -/
def wordPart (a : Nat) (m : List Byte) : APart :=
  ⟨txWR, a - a % 4, 1, beMask (a % 4) m.length, zeros (a % 4) ++ m ++ zeros (4 - a % 4 - m.length), [], false, .idle⟩

/-- The whole words `m` from `a` on (R142). -/
def burstPart (a : Nat) (m : List Byte) : APart := ⟨txWR, a, m.length / 4, 15, m, [], false, .idle⟩

section
variable {a : Nat} {m : List Byte} (h : a % 4 + m.length ≤ 4)
include h

theorem selects_wordPart {x : Nat × Byte} (h1 : a - a % 4 ≤ x.1) (h2 : x.1 < a - a % 4 + 4) :
    selects (wordPart a m) x = decide (a ≤ x.1 ∧ x.1 < a + m.length) := by
  obtain ⟨j, hj⟩ := Nat.exists_eq_add_of_le h1
  have hj4 : j < 4 := by omega
  show (beMask (a % 4) m.length).testBit (3 - (x.1 - (a - a % 4)) % 4) = _
  rw [hj, Nat.add_sub_cancel_left, Nat.mod_eq_of_lt hj4,
    testBit_beMask _ (Nat.mod_lt _ (by decide)) _ (by omega) h j hj4]
  exact decide_eq_decide.mpr (by omega)

theorem filter_wordPart_own : (runBytes a m).filter (selects (wordPart a m)) = runBytes a m := by
  rw [List.filter_eq_self]
  intro x hx
  obtain ⟨h1, h2⟩ := mem_runBytes_addr hx
  rw [selects_wordPart h (by omega) (by omega)]
  exact decide_eq_true ⟨h1, h2⟩

/-- Bytes of the word before the run or after it are not enabled. -/
theorem filter_wordPart_padding {b n : Nat} (hb : a - a % 4 ≤ b) (hn : b + n ≤ a - a % 4 + 4)
    (hout : b + n ≤ a ∨ a + m.length ≤ b) : (runBytes b (zeros n)).filter (selects (wordPart a m)) = [] := by
  rw [List.filter_eq_nil_iff]
  intro x hx
  obtain ⟨h1, h2⟩ := mem_runBytes_addr hx
  rw [zeros, List.length_replicate] at h2
  rw [selects_wordPart h (by omega) (by omega), decide_eq_true_eq]
  omega

theorem partBytes_wordPart : partBytes (wordPart a m) = runBytes a m := by
  have hrun : runBytes (wordPart a m).addr (wordPart a m).data = runBytes (a - a % 4) (zeros (a % 4)) ++
      (runBytes a m ++ runBytes (a + m.length) (zeros (4 - a % 4 - m.length))) := by
    have hstart : a - a % 4 + (zeros (a % 4)).length = a := by
      rw [zeros, List.length_replicate, Nat.sub_add_cancel (Nat.mod_le a 4)]
    rw [wordPart, List.append_assoc, runBytes_append, runBytes_append, hstart]
  rw [partBytes_eq_filter, hrun, List.filter_append, List.filter_append, filter_wordPart_own h,
    filter_wordPart_padding h (by omega) (by omega) (by omega),
    filter_wordPart_padding h (by omega) (by omega) (by omega), List.nil_append, List.append_nil]

end

/-- What R142 asks of a part of a write. -/
def GoodPart (p : APart) : Prop :=
  p.ty = txWR ∧ p.addr % 4 = 0 ∧ 1 ≤ p.words ∧ p.words ≤ 64 ∧ p.data.length = 4 * p.words ∧ 0 < p.be ∧ p.be < 16 ∧
    p.addr / 256 = (p.addr + 4 * p.words - 1) / 256 ∧ (1 < p.words → p.be = 15)

theorem goodPart_wordPart {a : Nat} {m : List Byte} (h : a % 4 + m.length ≤ 4) (hm : 0 < m.length) :
    GoodPart (wordPart a m) := by
  obtain ⟨hpos, hlt⟩ := beMask_bounds (a % 4) (Nat.mod_lt _ (by decide)) m.length (by omega) h hm
  refine ⟨rfl, ?_, Nat.le_refl 1, show 1 ≤ 64 by decide, ?_, hpos, hlt, ?_, fun h1 => absurd h1 (Nat.lt_irrefl 1)⟩
  · show (a - a % 4) % 4 = 0
    omega
  · simp only [wordPart, zeros, List.length_append, List.length_replicate]
    omega
  · show (a - a % 4) / 256 = (a - a % 4 + 4 * 1 - 1) / 256
    omega

theorem goodPart_burstPart {a : Nat} {m : List Byte} (ha : a % 4 = 0) (h4 : m.length % 4 = 0) (hm : 0 < m.length)
    (hb : m.length ≤ 256 - a % 256) : GoodPart (burstPart a m) := by
  refine ⟨rfl, ha, ?_, ?_, ?_, show 0 < 15 by decide, show 15 < 16 by decide, ?_, fun _ => rfl⟩
  all_goals dsimp only [burstPart]; omega

/-! The next part. -/

theorem splitWr_nil (fuel a : Nat) : splitWr fuel a [] = [] := by cases fuel <;> rfl

section
variable {fuel a : Nat} {d : List Byte}

/-- A word that the run does not cover whole goes alone. -/
theorem splitWr_word (hd : d ≠ []) (h : a % 4 ≠ 0 ∨ d.length < 4) :
    splitWr (fuel + 1) a d = wordPart a (d.take (4 - a % 4)) ::
      splitWr fuel (a + min (4 - a % 4) d.length) (d.drop (min (4 - a % 4) d.length)) := by
  rw [splitWr, if_neg (by simpa using hd), if_pos h]
  simp only [wordPart, List.length_take, ← List.take_eq_take_min]

/-- Whole words go in one burst up to the end of the block. -/
theorem splitWr_burst (ha : a % 4 = 0) (h4 : 4 ≤ d.length) :
    splitWr (fuel + 1) a d = burstPart a (d.take (min (d.length / 4 * 4) (256 - a % 256))) ::
      splitWr fuel (a + min (d.length / 4 * 4) (256 - a % 256)) (d.drop (min (d.length / 4 * 4) (256 - a % 256))) := by
  have hd : ¬ d.isEmpty = true := by
    rw [List.isEmpty_iff]
    rintro rfl
    exact absurd h4 (by decide)
  rw [splitWr, if_neg hd, if_neg (by omega)]
  simp only [burstPart, List.length_take]
  rw [Nat.min_eq_left (show min (d.length / 4 * 4) (256 - a % 256) ≤ d.length by omega)]

/-- The first part of what is left writes its first bytes, at least one, and the rest is split in the same way. -/
theorem splitWr_next (fuel a : Nat) (hd : d ≠ []) : ∃ p k, 0 < k ∧ GoodPart p ∧ partBytes p = runBytes a (d.take k) ∧
    k ≤ d.length ∧ splitWr (fuel + 1) a d = p :: splitWr fuel (a + k) (d.drop k) := by
  have hpos : 0 < d.length := List.length_pos_iff.mpr hd
  by_cases h : a % 4 ≠ 0 ∨ d.length < 4
  · have hlen : (d.take (4 - a % 4)).length = min (4 - a % 4) d.length := List.length_take
    refine ⟨_, _, ?_, goodPart_wordPart ?_ ?_, ?_, Nat.min_le_right _ _, splitWr_word hd h⟩
    · omega
    · omega
    · omega
    · rw [← List.take_eq_take_min]
      exact partBytes_wordPart (by omega)
  · have hlen : (d.take (min (d.length / 4 * 4) (256 - a % 256))).length = min (d.length / 4 * 4) (256 - a % 256) :=
      List.length_take_of_le (by omega)
    refine ⟨_, _, ?_, goodPart_burstPart ?_ ?_ ?_ ?_, partBytes_of_be_all rfl, ?_, splitWr_burst ?_ ?_⟩
    all_goals omega

end

/-- With fuel for every byte, the parts write the run and nothing else, and each is good. -/
theorem splitWr_writes_run (fuel a : Nat) (d : List Byte) (hf : d.length < fuel) :
    ((splitWr fuel a d).map partBytes).flatten = runBytes a d ∧ ∀ p ∈ splitWr fuel a d, GoodPart p := by
  induction fuel generalizing a d with
  | zero => exact absurd hf (Nat.not_lt_zero _)
  | succ fuel ih =>
    by_cases hd : d = []
    · subst hd
      simp [splitWr_nil]
    · obtain ⟨p, k, hk, hgood, hbytes, hle, hsplit⟩ := splitWr_next fuel a hd
      obtain ⟨hrest, hall⟩ := ih (a + k) (d.drop k) (by rw [List.length_drop]; omega)
      rw [hsplit]
      refine ⟨?_, List.forall_mem_cons.mpr ⟨hgood, hall⟩⟩
      calc ((p :: splitWr fuel (a + k) (d.drop k)).map partBytes).flatten
          = runBytes a (d.take k) ++ runBytes (a + k) (d.drop k) := by
            rw [List.map_cons, List.flatten_cons, hbytes, hrest]
        _ = runBytes a (d.take k ++ d.drop k) := by rw [runBytes_append, List.length_take_of_le hle]
        _ = runBytes a d := by rw [List.take_append_drop]

/-- Settles O16: each part takes the first bytes of what is left, and the fuel is more than the bytes. -/
theorem writeSplitsLoseNoByte : Obligations.WriteSplitsLoseNoByte := by
  unfold Obligations.WriteSplitsLoseNoByte
  exact fun a d => splitWr_writes_run (d.length + 1) a d (Nat.lt_succ_self _)

end Sys2Proof.Machine
end

section
/-!
SUPPORT. The commands of a PALETTE page and the tails of the Crossing Unit's logs: one word pushed, bits cleared, and a
tail that moves only within its log (R158, R159, R195).
-/
namespace Sys2Proof.Machine

/-! A result pushed (R505, R506). -/

/-- A push changes its queue, full or not, and raises at most one event of the queue's page. -/
theorem pushResult_eq_raiseIf (q kind : Nat) (header : Bool) (ws : List Nat) (s : State) :
    ∃ c b r, pushResult q kind header ws s = raiseIf c (resPage q) b { s with results := r } := by
  rw [pushResult]
  generalize (if header then ws.length :: ws else ws) = all
  by_cases hfit : (tget {} s.results q).words.length + all.length ≤ 4096
  · exact ⟨_, _, _, if_pos hfit⟩
  · exact ⟨true, 1, _, if_neg hfit⟩

theorem raiseIf_only (c : Bool) (P b : Nat) (s : State) :
    raiseIf c P b s = { s with regs := (raiseIf c P b s).regs, strikes := (raiseIf c P b s).strikes } := by
  cases c
  · rfl
  · exact raise_only P b s

theorem pushResult_only (q kind : Nat) (header : Bool) (ws : List Nat) (s : State) :
    pushResult q kind header ws s = { s with
      regs := (pushResult q kind header ws s).regs, results := (pushResult q kind header ws s).results,
      strikes := (pushResult q kind header ws s).strikes } := by
  obtain ⟨c, b, r, h⟩ := pushResult_eq_raiseIf q kind header ws s
  rw [h, raiseIf_only]

theorem pushResult_kept (q kind : Nat) (header : Bool) (ws : List Nat) (s : State) :
    RegsKept (evtRegs (resPage q)) s (pushResult q kind header ws s) := by
  obtain ⟨c, b, r, h⟩ := pushResult_eq_raiseIf q kind header ws s
  rw [h]
  exact raiseIf_kept c (resPage q) b { s with results := r }

/-- A single word with room for it comes last in its queue. -/
theorem pushResult_word {q kind w : Nat} {s : State} (hw : w < 2 ^ 56)
    (hr : (tget {} s.results q).words.length < 4096) :
    (tget {} (pushResult q kind false [w] s).results q).words.map (·.payload) =
      (tget {} s.results q).words.map (·.payload) ++ [w] := by
  have hfit : (tget {} s.results q).words.length + [w].length ≤ 4096 := hr
  simp only [pushResult, Bool.false_eq_true, if_false]
  rw [if_pos hfit, raiseIf_results, tget_tput_self, List.map_append]
  simp only [resWords, List.map_cons, List.map_nil, Nat.mod_eq_of_lt hw]

theorem resPage_resOf (h : Half) : resPage (resOf h) = pgMgmt h := by cases h <;> rfl

section
variable {s : State} {h : Half}

/-! Probe, halts and enable (R156, R158, R159). -/

/-- The word that a probe of address `a` pushes (R159). -/
def probeWord (s : State) (h : Half) (a : Nat) : Nat :=
  match winLookup s h a with
  | some w => 2 ^ 55 + w % 1024
  | none => 0

theorem probeWord_lt (s : State) (h : Half) (a : Nat) : probeWord s h a < 2 ^ 56 := by
  unfold probeWord
  split <;> omega

theorem palProbe_pushes (a : Nat) (hl : pageLive s (pgPalette h) = true)
    (hr : (tget {} s.results (resOf h)).words.length < 4096) : Ends (.palProbe h a) s (fun t =>
      (tget {} t.results (resOf h)).words.map (·.payload) =
        (tget {} s.results (resOf h)).words.map (·.payload) ++ [probeWord s h a] ∧
      t = { s with regs := t.regs, results := t.results, strikes := t.strikes, woLatch := t.woLatch } ∧
      RegsKept (evtRegs (pgMgmt h)) s t) := by
  refine ⟨pushResult (resOf h) 2 false [probeWord s h a] (unlatched (pgPalette h) s),
    exec_onPage_live (f := fun s => pushResult (resOf h) 2 false [probeWord s h a] s) hl rfl,
    pushResult_word (s := unlatched (pgPalette h) s) (probeWord_lt s h a) hr, ?_, ?_⟩
  · rw [pushResult_only]
    rfl
  · rw [← resPage_resOf h]
    exact pushResult_kept (resOf h) 2 false [probeWord s h a] (unlatched (pgPalette h) s)

theorem testBit_clear_mask (x : Nat) (mask : BitVec 64) {j : Nat} (hj : j < 64) :
    ((x &&& (2 ^ 64 - 1 - mask.toNat)) % 2 ^ 64).testBit j = (x.testBit j && !mask.toNat.testBit j) := by
  rw [← BitVec.toNat_not, Nat.testBit_mod_two_pow, Nat.testBit_and, BitVec.testBit_toNat, BitVec.testBit_toNat,
    BitVec.getLsbD_not]
  simp [hj]

theorem palHaltClear_clears (i : Nat) (mask : BitVec 64) (hl : pageLive s (pgPalette h) = true) :
    Ends (.palHaltClear h i mask) s (fun t =>
      (∀ j, j < 64 → (rd t (pgPalette h) (R.PAL_HALT.at i)).testBit j =
        ((rd s (pgPalette h) (R.PAL_HALT.at i)).testBit j && !mask.toNat.testBit j)) ∧
      t = { s with regs := t.regs, woLatch := t.woLatch } ∧
      RegsKept [(pgPalette h, (R.PAL_HALT.at i).off)] s t) := by
  refine ⟨_, exec_onPage_live hl rfl, fun j hj => ?_, rfl,
    wr_kept (pgPalette h) (R.PAL_HALT.at i) _ (unlatched (pgPalette h) s)⟩
  rw [rd_wr_self]
  exact testBit_clear_mask _ mask hj

theorem palCtrlEnWrite_stores (en : Bool) (hl : pageLive s (pgPalette h) = true) :
    Ends (.palCtrlEnWrite h en) s (fun t => rdB t (pgPalette h) R.PAL_CTRL_EN = en ∧
      t = { s with regs := t.regs, woLatch := t.woLatch } ∧ RegsKept [(pgPalette h, R.PAL_CTRL_EN.off)] s t) :=
  ⟨_, exec_onPage_live hl rfl, rdB_wr_bit rfl _ en _, rfl,
    wr_kept (pgPalette h) R.PAL_CTRL_EN (bit en) (unlatched (pgPalette h) s)⟩

end

/-! The tail of a log (R195). -/

theorem rd_unlatched (P Q : Nat) (f : Fld) (s : State) : rd (unlatched P s) Q f = rd s Q f := rfl

/-- A write after the latches have ended, stated of the state before. -/
theorem frame_of_unlatched {P : Nat} {s t : State} (h : t = { unlatched P s with regs := t.regs }) :
    t = { s with regs := t.regs, woLatch := t.woLatch } := by
  rw [h]
  rfl

theorem rd_tailWrite {P size : Nat} {head tail : Fld} (v : BitVec 32) (s : State) (hw : tail.w = 32) :
    rd (tailWrite P head tail size v.toNat s) P tail =
      if tailOk (rd s P head) v.toNat size then v.toNat else rd s P tail := by
  unfold tailWrite
  split
  · rw [rd_wr_self, hw]
    exact Nat.mod_eq_of_lt v.isLt
  · rfl

theorem tailWrite_only (P : Nat) (head tail : Fld) (size v : Nat) (s : State) :
    tailWrite P head tail size v s = { s with regs := (tailWrite P head tail size v s).regs } := by
  unfold tailWrite
  split <;> rfl

theorem tailWrite_kept (P : Nat) (head tail : Fld) (size v : Nat) (s : State) :
    RegsKept [(P, tail.off)] s (tailWrite P head tail size v s) := by
  unfold tailWrite
  split
  · exact wr_kept P tail v s
  · exact RegsKept.refl _ s

/-- A command that is a write of a log's tail stores it within the log's size and ignores it elsewhere. -/
theorem ends_tailWrite {c : Instr} {s : State} {P size : Nat} {head tail : Fld} {v : BitVec 32} (hw : tail.w = 32)
    (hl : pageLive s P = true) (h : exec c s = done (onPage P tail.off (tailWrite P head tail size v.toNat) s)) :
    Ends c s (fun t =>
      rd t P tail = (if tailOk (rd s P head) v.toNat size then v.toNat else rd s P tail) ∧
      t = { s with regs := t.regs, woLatch := t.woLatch } ∧ RegsKept [(P, tail.off)] s t) := by
  refine ⟨_, exec_onPage_live hl h, ?_, frame_of_unlatched (tailWrite_only ..),
    tailWrite_kept P head tail size v.toNat (unlatched P s)⟩
  rw [rd_tailWrite v _ hw, rd_unlatched, rd_unlatched]

/-- Settles O14: the probe by what a push does to its queue, the halt bits through the mask's complement, and both tails
by the one rule for logs. -/
theorem paletteControlsAct : Obligations.PaletteControlsAct := by
  unfold Obligations.PaletteControlsAct
  exact fun s h => ⟨fun a => palProbe_pushes a, fun i mask _ => palHaltClear_clears i mask, palCtrlEnWrite_stores,
    fun v hl => ends_tailWrite rfl hl rfl, fun v hl => ends_tailWrite rfl hl rfl⟩

end Sys2Proof.Machine
end

section
/-!
SUPPORT. The byte order of a DI window (R147, R148) and the operations of the atomics (R70).
-/
namespace Sys2Proof.Machine

/-! The byte map of elements of `e` bytes. -/

theorem byteMap_zero (o : Nat) : byteMap 0 o = o := rfl

section
variable {e : Nat} (he : 0 < e) (o : Nat)
include he

/-- The element's first byte, and within the element the mirrored place. -/
theorem byteMap_eq : byteMap e o = e * (o / e) + (e - 1 - o % e) := by
  have hdiv := Nat.div_add_mod o e
  have hmod := Nat.mod_lt o he
  rw [byteMap, if_neg (by omega)]
  generalize e * (o / e) = b at hdiv ⊢
  omega

theorem byteMap_div : byteMap e o / e = o / e := by
  have hlt : e - 1 - o % e < e := by omega
  rw [byteMap_eq he, Nat.mul_add_div he, Nat.div_eq_of_lt hlt, Nat.add_zero]

theorem byteMap_mod : byteMap e o % e = e - 1 - o % e := by
  have hlt : e - 1 - o % e < e := by omega
  rw [byteMap_eq he, Nat.mul_add_mod, Nat.mod_eq_of_lt hlt]

theorem byteMap_byteMap : byteMap e (byteMap e o) = o := by
  have hmod := Nat.mod_lt o he
  calc byteMap e (byteMap e o) = e * (o / e) + (e - 1 - (e - 1 - o % e)) := by
        rw [byteMap_eq he (byteMap e o), byteMap_div he, byteMap_mod he]
    _ = e * (o / e) + o % e := by rw [Nat.sub_sub_self (by omega)]
    _ = o := Nat.div_add_mod o e

end

/-! The atomics on little-endian operands. -/

section
variable {n old x y : Nat}

theorem leNat_operand (hx : x < 2 ^ (8 * n)) (r : List Byte) : leNat ((leBytes n x ++ r).take n) = x := by
  rw [List.take_left' (length_leBytes n x)]
  exact leNat_leBytes_of_lt (by rwa [Nat.pow_mul] at hx)

/-- With one operand, the operation that `aop` names. -/
theorem amoOp_operand (aop : Nat) (hx : x < 2 ^ (8 * n)) (h2 : aop ≠ 2) : amoOp aop n old (leBytes n x) =
    match aop with
    | 0 => (old + x) % 2 ^ (8 * n)
    | 1 => x
    | 3 => old &&& x
    | 4 => old ||| x
    | _ => old ^^^ x := by
  have ha : leNat ((leBytes n x).take n) = x := by simpa using leNat_operand hx []
  match aop, h2 with
  | 0, _ | 1, _ | 3, _ | 4, _ | _ + 5, _ => simp only [amoOp, ha]

/-- Compare and swap takes the second operand where the first is the old value. -/
theorem amoOp_cas (hx : x < 2 ^ (8 * n)) (hy : y < 2 ^ (8 * n)) :
    amoOp 2 n old (leBytes n x ++ leBytes n y) = if old = x then y else old := by
  have hb : leNat (((leBytes n x ++ leBytes n y).drop n).take n) = y := by
    rw [List.drop_left' (length_leBytes n x)]
    simpa using leNat_operand hy []
  simp only [amoOp, leNat_operand hx, hb]

end

/-- Settles O17: an offset is its element and its place in it, and an operand is the number of its bytes. -/
theorem elementsReverseTwice : Obligations.ElementsReverseTwice := by
  unfold Obligations.ElementsReverseTwice
  refine ⟨fun k o _ => ?_, byteMap_zero, fun n old x y _ _ hx hy => ?_⟩
  · have he : 0 < 2 ^ k := Nat.two_pow_pos k
    exact ⟨byteMap_div he o, byteMap_mod he o, byteMap_byteMap he o⟩
  · exact ⟨amoOp_operand 0 hx (by decide), amoOp_operand 1 hx (by decide), amoOp_cas hx hy,
      amoOp_operand 3 hx (by decide), amoOp_operand 4 hx (by decide), amoOp_operand 5 hx (by decide)⟩

end Sys2Proof.Machine
end

section
/-!
SUPPORT. The times of the Crossing Unit: WR_HOLD of an access, the breaking of a port's lock, and the release of a waiting
INT word (R165, R181, R182, R191).
-/
namespace Sys2Proof.Machine

/-! Accesses read back after one is dropped. -/

theorem crossMod_at (h : Half) (f : Cross → Cross) (s : State) : (crossMod h f s).cross.at h = f (s.cross.at h) :=
  PerHalf.at_put_self ..

theorem accGet_accDrop_self (h : Half) (id : Nat) (s : State) : accGet (accDrop h id s) h id = none := by
  rw [accGet, accDrop, crossMod_at, List.find?_filter, List.find?_eq_none]
  simp

theorem accGet_accDrop_other {j id : Nat} (h : Half) (s : State) (hj : j ≠ id) :
    accGet (accDrop h id s) h j = accGet s h j := by
  have hp : (fun a : Access => decide ((a.id != id) = true ∧ (a.id == j) = true)) = fun a => a.id == j := by
    funext a
    by_cases ha : a.id = j
    · simp [ha, hj]
    · simp [ha]
  rw [accGet, accDrop, crossMod_at, List.find?_filter, hp]
  rfl

/-! WR_HOLD (R165, R173). -/

section
variable {s : State} {h : Half} {id : Nat} {a : Access}

/-- What the end of WR_HOLD does to an access that is wholly sent. -/
theorem holdExpiry_sent (ha : accGet s h id = some a) (hh : a.holdFrom.isSome = true) :
    holdExpiry h id s = crossSettle h (if a.pkt.type = tNPW ∧ ¬ a.answered then
      accAnswer h a.pkt stComplete [] (accDrop h id s) else accDrop h id s) := by
  simp only [holdExpiry, ha, hh, if_true]

theorem holdExpiry_freed (ha : accGet s h id = some a) (hh : a.holdFrom.isSome = true)
    (hno : a.pkt.type ≠ tNPW ∨ a.answered = true) : holdExpiry h id s = crossSettle h (accDrop h id s) := by
  rw [holdExpiry_sent ha hh, if_neg fun ⟨ht, hu⟩ => hno.elim (· ht) hu]

theorem holdExpiry_answered (ha : accGet s h id = some a) (hh : a.holdFrom.isSome = true)
    (ht : a.pkt.type = tNPW) (hu : a.answered = false) :
    holdExpiry h id s = crossSettle h (sendPkt h (mkRSP a.pkt stComplete []) (accDrop h id s)) := by
  rw [holdExpiry_sent ha hh, if_pos ⟨ht, by simp [hu]⟩, accAnswer]

/-- Nothing is freed where the access is gone or not wholly sent. -/
theorem holdExpiry_idle (hno : accGet s h id = none ∨ ∃ a, accGet s h id = some a ∧ a.holdFrom = none) :
    holdExpiry h id s = s := by
  obtain hn | ⟨a, ha, hh⟩ := hno
  · simp only [holdExpiry, hn]
  · simp [holdExpiry, ha, hh]

theorem exec_wrHoldExpiry (h : Half) (id : Nat) (s : State) :
    exec (.wrHoldExpiry h id) s = .next (settle (holdExpiry h id s)) := rfl

end

/-! Locks (R181, R182) and INT words (R191). -/

section
variable {s : State} {n : Nat}

theorem lockBreak_closed (code : Nat) (hl : (apuGet s n).lock = none) : lockBreak n code s = s := by
  simp only [lockBreak, hl]

theorem exec_lockTimeout (n : Nat) (s : State) :
    exec (.lockTimeout n) s = .next (settle (lockBreak n cLOCK_TMO s)) := rfl

theorem exec_lockBudgetBreak (n : Nat) (s : State) : exec (.lockBudgetBreak n) s =
    .next (if schedWaiting s n then settle (lockBreak n cLOCK_BUDGET s) else s) := rfl

/-- The waiting word that is found goes to Lantern and leaves the port. -/
theorem intGo_found {i : IntWait}
    (hf : (apuGet s n).ints.find? (fun i => i.needs.all (fun id => !pktOpen s id)) = some i) :
    intGo n s = intRelease n i.word i.time (apuMod n (fun p => { p with ints := p.ints.erase i }) s) := by
  simp only [intGo, hf]

theorem intGo_head {i : IntWait} {r : List IntWait} (hi : (apuGet s n).ints = i :: r)
    (hg : i.needs.all (fun id => !pktOpen s id) = true) :
    intGo n s = intRelease n i.word i.time (apuMod n (fun p => { p with ints := r }) s) := by
  have hf : (apuGet s n).ints.find? (fun i => i.needs.all (fun id => !pktOpen s id)) = some i := by
    rw [hi]
    exact List.find?_cons_of_pos hg
  rw [intGo_found hf, apuMod, hi, List.erase_cons_head]
  rfl

theorem intGo_none (hi : (apuGet s n).ints = []) : intGo n s = s := by
  simp only [intGo, hi, List.find?_nil]

theorem exec_intRelease (n : Nat) (s : State) : exec (.intRelease n) s = .next (intGo n s) := rfl

end

/-- Settles O15: WR_HOLD by the access that it finds, the two breaks by `lockBreak`, and the INT word at the head, whose
writes are acknowledged, is the one found. -/
theorem crossingHoldsAndLocksEnd : Obligations.CrossingHoldsAndLocksEnd := by
  unfold Obligations.CrossingHoldsAndLocksEnd
  refine ⟨fun s h id a ha hh => ⟨fun hno => ?_, fun ht hu => ?_, accGet_accDrop_self h id s,
    fun j hj => accGet_accDrop_other h s hj⟩, fun s h id hq hno => ?_,
    fun s n => ⟨exec_lockTimeout n s, fun hw => ?_, fun hw => ?_, fun hl hq => ?_⟩,
    fun s n i r hi hg => ?_, fun s n hi => ?_⟩
  · rw [exec_wrHoldExpiry, holdExpiry_freed ha hh hno]
  · rw [exec_wrHoldExpiry, holdExpiry_answered ha hh ht hu]
  · rw [exec_wrHoldExpiry, holdExpiry_idle hno, settle_quiet s hq]
  · rw [exec_lockBudgetBreak, if_pos hw]
  · rw [exec_lockBudgetBreak, if_neg (by simp [hw])]
  · rw [exec_lockTimeout, lockBreak_closed _ hl, settle_quiet s hq]
  · rw [exec_intRelease, intGo_head hi hg]
  · rw [exec_intRelease, intGo_none hi]

end Sys2Proof.Machine
end

section
/-!
SUPPORT. One step: every command answers a next state, and what an idle nanosecond of a quiet device does (R199, R201).
-/
namespace Sys2Proof.Machine

/-- Every arm of `exec` ends in `done` of a state. -/
theorem exec_next (c : Instr) (s : State) : ∃ t, exec c s = .next t := by
  cases c <;> exact ⟨_, rfl⟩

theorem withFetchWord_eq (n w : Nat) (s : State) : s.withFetchWord n w = s := rfl

theorem step_nil {s : State} (h : s.pending = []) : step s = .next (idle s) := by
  unfold step
  rw [h]

section
variable {s : State}

theorem limitTick_stopped {h : Half} (hr : rdB s (pgPlace h) R.PL_EFF_CTRL_RUNNING = false) : limitTick h s = s :=
  if_neg (by simp [hr])

theorem not_starting_of_quiet (hq : quiet s = true) (h : Half) : halfState s h ≠ hsSTARTING := by
  simp only [quiet, quietHalf, Bool.and_eq_true, bne_iff_ne] at hq
  obtain ⟨⟨⟨⟨⟨-, -, hw⟩, -, he⟩, -⟩, -⟩, -⟩ := hq
  cases h
  · exact hw
  · exact he

theorem bootGo_of_quiet (hq : quiet s = true) : bootGo s = s :=
  if_neg (not_or.mpr ⟨not_starting_of_quiet hq .west, not_starting_of_quiet hq .east⟩)

theorem dpRun_of_quiet (hq : quiet s = true) : dpRun s = s := by
  simp only [quiet, Bool.and_eq_true] at hq
  obtain ⟨⟨-, hd⟩, -⟩ := hq
  exact if_pos hd

theorem quiet_tick (s : State) : quiet (tick s) = quiet s :=
  quiet_congr s _ rfl rfl rfl rfl rfl rfl rfl rfl

/-- With nothing waiting and no interval running, an idle nanosecond is the tick alone. -/
theorem idle_of_quiet (hq : quiet s = true) (hn : NoInterval s) : idle s = tick s := by
  obtain ⟨hw, he⟩ := hn
  have hqt : quiet (tick s) = true := (quiet_tick s).trans hq
  rw [idle, limitTick_stopped (s := tick s) (h := .west) hw, limitTick_stopped (s := tick s) (h := .east) he,
    bootGo_of_quiet hqt, dpRun_of_quiet hqt, settle_quiet _ hqt]

theorem tickBy_le (t : TimeRef) : tickBy t ≤ 2 := by
  unfold tickBy
  split
  · decide
  · split <;> decide

theorem tickSlew_only (t : TimeRef) :
    tickSlew t = { t with slewTick := (tickSlew t).slewTick, slew := (tickSlew t).slew } := by
  unfold tickSlew
  split
  · rfl
  · split <;> rfl

theorem tick_tb (s : State) (h : Half) :
    (tick s).tb.at h = if s.time.run.at h then (s.tb.at h + tickBy s.time) % 2 ^ 64 else s.tb.at h := by
  cases h <;> rfl

theorem tick_only (s : State) : tick s = { s with
    clk := (tick s).clk, tb := (tick s).tb,
    time := { s.time with slewTick := (tick s).time.slewTick, slew := (tick s).time.slew } } := by
  show tick s = { tick s with time := { s.time with
    slewTick := (tickSlew s.time).slewTick, slew := (tickSlew s.time).slew } }
  rw [← tickSlew_only]
  rfl

end

theorem safeState_reset : SafeState State.reset := ⟨⟨rfl, rfl⟩, ⟨rfl, rfl, rfl, rfl, rfl, rfl⟩, rfl, rfl⟩

/-- Settles O59: the front command by the definition of `step`, totality by the arms of `exec`, and the idle step of a
quiet device, in which only the tick is left. -/
theorem aStepRunsTheFrontCommand : Obligations.AStepRunsTheFrontCommand := by
  unfold Obligations.AStepRunsTheFrontCommand
  refine ⟨step_cons, fun s c => exec_next c s, fun s n w => withFetchWord_eq n w s, fun s h => step_nil h,
    fun s h hq hn => ⟨tick s, ?_, rfl, tick_tb s, tickBy_le s.time, tick_only s⟩, safeState_reset, by decide, by decide,
    by decide, by decide, by decide, by decide, by decide⟩
  rw [step_nil h, idle_of_quiet hq hn]

end Sys2Proof.Machine
end

section
/-!
SUPPORT. Writes of a record's field, events and counters beside each other, and changes that leave a state quiet.
-/
namespace Sys2Proof.Machine

/-! Reads after writes, told apart by the record or by the place of the field. -/

theorem rdI_wrI_record {i j : Nat} (P Q : Nat) (f g : Fld) (v : Nat) (s : State) (h : j ≠ i) :
    rdI (wrI P f i v s) Q g j = rdI s Q g j :=
  rdI_wrI_other s P Q f g i j v (fun e => h (by simp_all [Fld.key]))

theorem rdI_wrI_place {f g : Fld} (P Q i j v : Nat) (s : State) (h : (g.off, g.lo) ≠ (f.off, f.lo)) :
    rdI (wrI P f i v s) Q g j = rdI s Q g j :=
  rdI_wrI_other s P Q f g i j v (fun e => h (by simp_all [Fld.key]))

theorem rdI_raise_off {g : Fld} (P Q b j : Nat) (s : State) (h : g.off ≠ R.EVT_RAW.off ∧ g.off ≠ R.EVT_PEND.off) :
    rdI (raise P b s) Q g j = rdI s Q g j :=
  (raise_kept P b s).rdI Q g j (by simp [evtRegs, h.1, h.2])

theorem rdI_bump_off {f g : Fld} (P Q j : Nat) (s : State) (h : g.off ≠ f.off) :
    rdI (bump P f s) Q g j = rdI s Q g j :=
  (bump_kept P f s).rdI Q g j (by simp [h])

theorem rdBI_wrI_bit {f : Fld} (hw : f.w = 1) (P i : Nat) (b : Bool) (s : State) :
    rdBI (wrI P f i (bit b) s) P f i = b := by
  rw [rdBI, rdI_wrI_self, hw]
  cases b <;> rfl

theorem bump_only (P : Nat) (f : Fld) (s : State) : bump P f s = { s with regs := (bump P f s).regs } :=
  bumpBy_only P f 1 s

/-! One more write among the registers that may change. -/

theorem RegsKept.wrI_mem {ex : List (Nat × Nat)} {s u : State} {P i v : Nat} {f : Fld} (h : RegsKept ex s u)
    (hf : (P, f.off) ∈ ex) : RegsKept ex s (wrI P f i v u) :=
  h.trans ((wrI_kept P f i v u).mono (by simpa using hf))

theorem RegsKept.raise_mem {ex : List (Nat × Nat)} {s u : State} {P b : Nat} (h : RegsKept ex s u)
    (hP : ∀ p ∈ evtRegs P, p ∈ ex) : RegsKept ex s (raise P b u) :=
  h.trans ((raise_kept P b u).mono hP)

theorem RegsKept.bump_mem {ex : List (Nat × Nat)} {s u : State} {P : Nat} {f : Fld} (h : RegsKept ex s u)
    (hf : (P, f.off) ∈ ex) : RegsKept ex s (bump P f u) :=
  h.trans ((bump_kept P f u).mono (by simpa using hf))

/-! Quiet states. -/

theorem quiet_wr (P : Nat) (f : Fld) (v : Nat) (s : State) : quiet (wr P f v s) = quiet s := quiet_wrI P f 0 v s

/-- A change of a scheduler that leaves its waiting inserters leaves a state quiet. -/
theorem quiet_schMod (h : Half) {f : Sched → Sched} {s : State} (hf : (f (s.sched.at h)).wait = (s.sched.at h).wait) :
    quiet (schMod h f s) = quiet s := by
  cases h <;>
  · simp only [PerHalf.at] at hf
    simp only [quiet, quietHalf, halfState, schMod, PerHalf.put, PerHalf.at, hf]

end Sys2Proof.Machine
end

section
/-!
SUPPORT. The Light List: a silent light drifts, a lost one reacquires, HOLD and EN (R206, R207, R214, R221, R232).
-/
namespace Sys2Proof.Machine

/-! HOLD: the held events of a light are fixed when it is LIT (R214, R215). -/

theorem fixEvent_st (s : State) (e : Event) : (fixEvent s e).st = .fixed := by
  unfold fixEvent
  split <;> rfl

section
variable {s : State} {l : Nat}

theorem fixHeld_unlit (h : lightState s l ≠ lsLIT) : fixHeld l s = s := if_neg h

theorem fixHeld_lit (h : lightState s l = lsLIT) : fixHeld l s = schMod (lHalf l) (fun c => { c with
    events := c.events.map (fun e => if e.light = l ∧ e.st = .held then fixEvent s e else e) }) s := if_pos h

theorem fixHeld_events (h : lightState s l = lsLIT) : ((fixHeld l s).sched.at (lHalf l)).events =
    (s.sched.at (lHalf l)).events.map (fun e => if e.light = l ∧ e.st = .held then fixEvent s e else e) := by
  rw [fixHeld_lit h, schMod, PerHalf.at_put_self]

theorem fixHeld_only (l : Nat) (s : State) : fixHeld l s = { s with sched := (fixHeld l s).sched } := by
  unfold fixHeld
  split <;> rfl

theorem fixHeld_regs (l : Nat) (s : State) : (fixHeld l s).regs = s.regs := by rw [fixHeld_only]

theorem fixHeld_keeps_others {e : Event} (he : e ∈ (s.sched.at (lHalf l)).events) (h : e.light ≠ l ∨ e.st ≠ .held) :
    e ∈ ((fixHeld l s).sched.at (lHalf l)).events := by
  by_cases hl : lightState s l = lsLIT
  · rw [fixHeld_events hl]
    exact List.mem_map.mpr ⟨e, he, if_neg (fun hc => h.elim (fun h => h hc.1) (fun h => h hc.2))⟩
  · rwa [fixHeld_unlit hl]

theorem fixHeld_leaves_none_held {e : Event} (h : lightState s l = lsLIT)
    (he : e ∈ ((fixHeld l s).sched.at (lHalf l)).events) (hl : e.light = l) : e.st ≠ .held := by
  rw [fixHeld_events h] at he
  obtain ⟨x, -, rfl⟩ := List.mem_map.mp he
  by_cases hx : x.light = l ∧ x.st = .held
  · rw [if_pos hx, fixEvent_st]
    decide
  · rw [if_neg hx] at hl ⊢
    exact fun hs => hx ⟨hl, hs⟩

/-- A light that no scheduled event names has none to hand back. -/
theorem handBackEvents_none {cause : Nat} {sel : Event → Bool} (h : ∀ e ∈ (s.sched.at (lHalf l)).events, e.light ≠ l) :
    handBackEvents l cause sel s = s := by
  have hn : (s.sched.at (lHalf l)).events.filter (fun e => e.light == l && sel e) = [] :=
    List.filter_eq_nil_iff.mpr (fun e he => by simp [h e he])
  simp only [handBackEvents, hn, List.foldl_nil]

/-- A reacquisition that hands nothing back. -/
def reacquired (l : Nat) (s : State) : State := raise (pgL l) 3 (bump (pgL l) R.LIGHT_CNT_REACQUIRE (enterAcquire l s))

theorem reacquired_only (l : Nat) (s : State) : reacquired l s = { s with
    regs := (reacquired l s).regs, strikes := (reacquired l s).strikes, lights := (reacquired l s).lights } := by
  rw [reacquired, raise_only, bump_only]
  rfl

theorem reacquire_alone (h : ∀ e ∈ (s.sched.at (lHalf l)).events, e.light ≠ l) : reacquire l s = reacquired l s :=
  handBackEvents_none (s := reacquired l s) (by rw [reacquired_only]; exact h)

theorem quiet_reacquired (l : Nat) (s : State) : quiet (reacquired l s) = quiet s := by
  rw [reacquired_only]
  exact quiet_congr s _ rfl rfl rfl rfl rfl rfl rfl rfl

theorem lgt_lgtMod_self (l : Nat) (f : Light → Light) (s : State) : lgt (lgtMod l f s) l = f (lgt s l) :=
  tget_tput_self ..

theorem lgt_reacquired (l : Nat) (s : State) : lgt (reacquired l s) l = (lgt s l).blank := by
  rw [lgt, reacquired, raise_only, bump_only]
  exact lgt_lgtMod_self ..

/-! The commands. -/

theorem lightIndexTimeout_drifts (h : lightState s l = lsLIT) (hd : isDisc s l = true) :
    Ends (.lightIndexTimeout l) s (fun t => lightState t l = lsDRIFT ∧ (rd t (pgL l) R.EVT_RAW).testBit 1 = true ∧
      (∀ m, m ≠ l → lightState t m = lightState s m) ∧ t = { s with regs := t.regs, strikes := t.strikes } ∧
      RegsKept ((pgL l, R.LL_VIEW_0_STATE.off) :: evtRegs (pgL l)) s t) := by
  have he : exec (.lightIndexTimeout l) s = done (enterDrift l s) := congrArg done (if_pos ⟨h, hd⟩)
  refine ends_done he ⟨?_, evtRaw_raise_self _ _ (by decide), fun m hm => ?_, ?_, ?_⟩
  · exact (rdI_raise_off _ _ _ _ _ (by decide)).trans (rdI_wrI_self ..)
  · exact (rdI_raise_off _ _ _ _ _ (by decide)).trans (rdI_wrI_record _ _ _ _ _ _ hm)
  · rw [enterDrift, raise_only]
    rfl
  · exact ((RegsKept.refl _ s).wrI_mem (by simp)).raise_mem (by simp +contextual)

theorem lightIndexTimeout_idle (h : lightState s l ≠ lsLIT ∨ isDisc s l = false) :
    exec (.lightIndexTimeout l) s = .next s :=
  congrArg done (if_neg (fun hc => h.elim (fun h => h hc.1) (fun h => by simp [h] at hc)))

theorem driftRevsExpiry_reacquires (h : lightState s l = lsDRIFT)
    (hn : ∀ e ∈ (s.sched.at (lHalf l)).events, e.light ≠ l) (hq : quiet s = true) :
    Ends (.driftRevsExpiry l) s (fun t => lightState t l = lsACQUIRE ∧ (lgt t l).period = 0 ∧ (lgt t l).first = none ∧
      rd t (pgL l) R.LIGHT_CNT_REACQUIRE = rd (bump (pgL l) R.LIGHT_CNT_REACQUIRE s) (pgL l) R.LIGHT_CNT_REACQUIRE ∧
      t = { s with regs := t.regs, strikes := t.strikes, lights := t.lights } ∧
      RegsKept ((pgL l, R.LL_VIEW_0_STATE.off) :: (pgL l, R.LIGHT_CNT_REACQUIRE.off) :: evtRegs (pgL l)) s t) := by
  have he : exec (.driftRevsExpiry l) s = done (settle (reacquired l s)) := by
    rw [← reacquire_alone hn]
    exact congrArg done (if_pos h)
  have hk : RegsKept [(pgL l, R.LL_VIEW_0_STATE.off)] s (enterAcquire l s) := wrI_kept _ _ _ _ _
  refine ends_settle he ((quiet_reacquired l s).trans hq) ⟨?_, ?_, ?_, ?_, reacquired_only l s, ?_⟩
  · exact ((rdI_raise_off _ _ _ _ _ (by decide)).trans (rdI_bump_off _ _ _ _ (by decide))).trans (rdI_wrI_self ..)
  · rw [lgt_reacquired]
    rfl
  · rw [lgt_reacquired]
    rfl
  · exact (rd_raise_off _ _ _ _ (by decide)).trans
      (rd_bump_congr (hk.rd _ _ (by simp; decide)) (hk.rd _ _ (by simp; decide)))
  · exact ((hk.mono (by simp)).bump_mem (by simp)).raise_mem (by simp +contextual)

theorem driftRevsExpiry_idle (h : lightState s l ≠ lsDRIFT) : exec (.driftRevsExpiry l) s = .next s :=
  congrArg done (if_neg h)

theorem rdBI_lPut_hold (hold : Bool) (s : State) :
    rdBI (lPut l R.LL_VIEW_6_HOLD (bit hold) s) (pgL l) R.LL_VIEW_6_HOLD l = hold := rdBI_wrI_bit rfl _ _ hold s

theorem llHoldWrite_holds (hl : pageLive s (pgL l) = true) :
    Ends (.llHoldWrite l true) s (fun t => rdBI t (pgL l) R.LL_VIEW_6_HOLD l = true ∧
      (∀ m, m ≠ l → rdBI t (pgL l) R.LL_VIEW_6_HOLD m = rdBI s (pgL l) R.LL_VIEW_6_HOLD m) ∧
      t = { s with regs := t.regs, woLatch := t.woLatch } ∧ RegsKept [(pgL l, R.LL_VIEW_6_HOLD.off)] s t) := by
  have he : exec (.llHoldWrite l true) s = .next (lPut l R.LL_VIEW_6_HOLD (bit true) (unlatched (pgL l) s)) :=
    exec_onPage_live hl rfl
  refine ends_done he ⟨rdBI_lPut_hold true _, fun m hm => ?_, rfl, wrI_kept _ _ _ _ _⟩
  exact congrArg (· != 0) (rdI_wrI_record _ _ _ _ _ (unlatched (pgL l) s) hm)

theorem llHoldWrite_releases (hl : pageLive s (pgL l) = true) :
    Ends (.llHoldWrite l false) s (fun t => rdBI t (pgL l) R.LL_VIEW_6_HOLD l = false ∧
      (∀ e ∈ (s.sched.at (lHalf l)).events, e.light ≠ l ∨ e.st ≠ .held → e ∈ (t.sched.at (lHalf l)).events) ∧
      (lightState s l = lsLIT → ∀ e ∈ (t.sched.at (lHalf l)).events, e.light = l → e.st ≠ .held) ∧
      t = { s with regs := t.regs, woLatch := t.woLatch, sched := t.sched } ∧
      RegsKept [(pgL l, R.LL_VIEW_6_HOLD.off)] s t) := by
  have he : exec (.llHoldWrite l false) s =
      .next (fixHeld l (lPut l R.LL_VIEW_6_HOLD (bit false) (unlatched (pgL l) s))) :=
    exec_onPage_live (f := fun s => fixHeld l (lPut l R.LL_VIEW_6_HOLD (bit false) s)) hl rfl
  refine ends_done he ⟨?_, fun e hm hne => fixHeld_keeps_others hm hne, fun hs e hm hle => ?_, ?_, ?_⟩
  · rw [fixHeld_only]
    exact rdBI_lPut_hold false _
  · refine fixHeld_leaves_none_held ?_ hm hle
    exact (rdI_wrI_place _ _ _ _ _ _ (by decide)).trans hs
  · rw [fixHeld_only]
    rfl
  · exact (wrI_kept (pgL l) R.LL_VIEW_6_HOLD l (bit false) (unlatched (pgL l) s)).trans (.of_eq (fixHeld_regs l _))

/-- In a half without bound lights a write of LL_CTRL.EN is stored and nothing more. -/
theorem llCtrlEnWrite_stores {h : Half} (en : Bool) (hl : pageLive s (pgLight h) = true) (hn : halfLights s h = [])
    (hq : quiet s = true) : Ends (.llCtrlEnWrite h en) s (fun t => rdB t (pgLight h) R.LL_CTRL_EN = en ∧
      t = { s with regs := t.regs, woLatch := t.woLatch } ∧ RegsKept [(pgLight h, R.LL_CTRL_EN.off)] s t) := by
  have hw : llEnWrite h en (unlatched (pgLight h) s) = wr (pgLight h) R.LL_CTRL_EN (bit en) (unlatched (pgLight h) s) := by
    have hu : halfLights (unlatched (pgLight h) s) h = [] := hn
    cases en <;> simp [llEnWrite, hu]
  have he : exec (.llCtrlEnWrite h en) s = done (settle (llEnWrite h en (unlatched (pgLight h) s))) :=
    exec_onPage_live (f := fun s => settle (llEnWrite h en s)) hl rfl
  rw [hw] at he
  refine ends_settle he ?_ ⟨rdB_wr_bit rfl _ _ _, rfl, wr_kept _ _ _ _⟩
  rw [quiet_wr, quiet_unlatched, hq]

end

/-- Settles O18: each timeout by the state in which it acts, HOLD by what it does to held events, and EN of a half
without bound lights. -/
theorem lightsLoseAndSeekTheirPhase : Obligations.LightsLoseAndSeekTheirPhase := by
  unfold Obligations.LightsLoseAndSeekTheirPhase
  exact fun s l _ => ⟨lightIndexTimeout_drifts, lightIndexTimeout_idle, driftRevsExpiry_reacquires, driftRevsExpiry_idle,
    fun hl => ⟨llHoldWrite_holds hl, llHoldWrite_releases hl⟩,
    fun h hl hn hq => ⟨llCtrlEnWrite_stores false hl hn hq, llCtrlEnWrite_stores true hl hn hq⟩⟩

end Sys2Proof.Machine
end

section
/-!
SUPPORT. TB_SET and the beacon subscriptions (R211, R229, R230, R231, R493).
-/
namespace Sys2Proof.Machine

section
variable {s : State} {h : Half}

/-! TB_SET. -/

/-- No light of the half is in ACQUIRE, LIT or DRIFT, where it would have a phase to lose (R206, R231). -/
def NonePhased (s : State) (h : Half) : Prop :=
  ∀ l ∈ halfLights s h, lightState s l = lsIDLE ∨ lightState s l = lsFAULT ∨ lightState s l = lsUNASSIGNED

theorem allReacquire_none (hl : NonePhased s h) : allReacquire h s = s := by
  have hn : (halfLights s h).filter (fun l =>
      lightState s l == lsACQUIRE || lightState s l == lsLIT || lightState s l == lsDRIFT) = [] :=
    List.filter_eq_nil_iff.mpr (fun l hm => by rcases hl l hm with e | e | e <;> rw [e] <;> decide)
  simp only [allReacquire, hn, List.foldl_nil]

theorem tbSet_sets {v : Nat} {p : Path} (hw : rdB s (pgSched .west) R.SCH_CTRL_EN = false)
    (he : rdB s (pgSched .east) R.SCH_CTRL_EN = false) (hl : ∀ h, NonePhased s h) :
    tbSet v p s = { s with tb := ⟨v, v⟩ } := by
  rw [tbSet, if_neg (by simp [hw, he]), allReacquire_none (s := { s with tb := ⟨v, v⟩ }) (hl .west),
    allReacquire_none (s := { s with tb := ⟨v, v⟩ }) (hl .east)]

theorem tbSet_running {v : Nat} {p : Path}
    (hs : rdB s (pgSched .west) R.SCH_CTRL_EN = true ∨ rdB s (pgSched .east) R.SCH_CTRL_EN = true) :
    tbSet v p s = cfgReject pgTimebase R.TB_SET.off 1 .stopped (some p) s := if_pos hs

theorem exec_tbSet (v : BitVec 64) (p : Path) (s : State) :
    exec (.tbSet v p) s = done (settle (tbSet v.toNat p (unlatched pgTimebase s))) :=
  exec_onPage_live (f := fun s => settle (tbSet v.toNat p s)) (P := pgTimebase) rfl rfl

theorem tbSet_sets_both (v : BitVec 64) (p : Path) (hq : quiet s = true)
    (hw : rdB s (pgSched .west) R.SCH_CTRL_EN = false) (he : rdB s (pgSched .east) R.SCH_CTRL_EN = false)
    (hl : ∀ h, NonePhased s h) :
    Ends (.tbSet v p) s (fun t => t.tb = ⟨v.toNat, v.toNat⟩ ∧ t = { s with tb := t.tb, woLatch := t.woLatch }) := by
  have hx := exec_tbSet v p s
  rw [tbSet_sets (s := unlatched pgTimebase s) hw he hl] at hx
  exact ends_settle hx ((quiet_congr s _ rfl rfl rfl rfl rfl rfl rfl rfl).trans hq) ⟨rfl, rfl⟩

theorem tbSet_refused (v : BitVec 64) (p : Path) (hq : quiet s = true)
    (hs : rdB s (pgSched .west) R.SCH_CTRL_EN = true ∨ rdB s (pgSched .east) R.SCH_CTRL_EN = true) :
    Ends (.tbSet v p) s (fun t => t.tb = s.tb ∧
      t = cfgReject pgTimebase R.TB_SET.off 1 .stopped (some p) { s with woLatch := t.woLatch }) := by
  have hx := exec_tbSet v p s
  rw [tbSet_running (s := unlatched pgTimebase s) hs] at hx
  refine ends_settle hx (by rw [quiet_cfgReject, quiet_unlatched, hq]) ⟨?_, ?_⟩
  · rw [cfgReject_tb]
    rfl
  · rw [cfgReject_woLatch]
    rfl

/-! Subscriptions. -/

theorem exec_subEnable (i : Nat) (on : Bool) (hl : pageLive s (pgLight h) = true) :
    exec (.subEnable h i on) s = done (subEnable h i on (unlatched (pgLight h) s)) :=
  exec_onPage_live (f := fun s => subEnable h i on s) hl rfl

theorem subEnable_active {i : Nat} (hl : pageLive s (pgLight h) = true)
    (hr : nodeReg s (rdI s (pgLight h) R.LL_SUB_CTRL_DST i) = true) :
    Ends (.subEnable h i true) s (fun t => rdBI t (pgLight h) R.LL_SUB_CTRL_EN i = true ∧
      t = { s with regs := t.regs, woLatch := t.woLatch } ∧ RegsKept [(pgLight h, R.LL_SUB_CTRL_EN.off)] s t) := by
  have hx := exec_subEnable i true hl
  have hu : nodeReg (unlatched (pgLight h) s) (rdI (unlatched (pgLight h) s) (pgLight h) R.LL_SUB_CTRL_DST i) = true := hr
  simp only [subEnable, hu, Bool.not_true, Bool.and_false, Bool.false_eq_true, if_false] at hx
  exact ends_done hx ⟨rdBI_wrI_bit rfl _ _ true _, rfl, wrI_kept _ _ _ _ _⟩

theorem subEnable_alien {i : Nat} (hl : pageLive s (pgLight h) = true)
    (ho : rdBI s (pgLight h) R.LL_SUB_CTRL_EN i = false)
    (hr : nodeReg s (rdI s (pgLight h) R.LL_SUB_CTRL_DST i) = false) :
    Ends (.subEnable h i true) s (fun t => rdBI t (pgLight h) R.LL_SUB_CTRL_EN i = false ∧
      (rd t (pgLight h) R.EVT_RAW).testBit 4 = true ∧
      RegsKept ((pgLight h, R.LL_SUB_CTRL_EN.off) :: evtRegs (pgLight h)) s t) := by
  have hx := exec_subEnable i true hl
  have hu : nodeReg (unlatched (pgLight h) s) (rdI (unlatched (pgLight h) s) (pgLight h) R.LL_SUB_CTRL_DST i) = false := hr
  have hv : rdBI (unlatched (pgLight h) s) (pgLight h) R.LL_SUB_CTRL_EN i = false := ho
  simp only [subEnable, hu, hv, Bool.not_false, Bool.and_true, if_true] at hx
  refine ends_done hx ⟨?_, evtRaw_raise_self _ _ (by decide), ?_⟩
  · exact (congrArg (· != 0) (rdI_raise_off _ _ _ _ _ (by decide))).trans (rdBI_wrI_bit rfl _ _ false _)
  · exact (((RegsKept.of_eq rfl : RegsKept _ s (unlatched (pgLight h) s)).wrI_mem (by simp)).wrI_mem (by simp)).raise_mem
      (by simp +contextual)

theorem subEnable_off {i : Nat} (hl : pageLive s (pgLight h) = true) :
    Ends (.subEnable h i false) s (fun t => rdBI t (pgLight h) R.LL_SUB_CTRL_EN i = false ∧
      t = { s with regs := t.regs, woLatch := t.woLatch }) :=
  ends_done (exec_subEnable i false hl) ⟨rdBI_wrI_bit rfl _ _ false _, rfl⟩

theorem subMod_self (h : Half) (i : Nat) (f : SubSlot → SubSlot) (s : State) :
    tget {} ((subMod h i f s).sched.at h).subs i = f (tget {} (s.sched.at h).subs i) := by
  rw [subMod, schMod, PerHalf.at_put_self, tget_tput_self]

theorem sendPkt_only (h : Half) (p : Packet) (s : State) : sendPkt h p s = { s with
    regs := (sendPkt h p s).regs, fiu := (sendPkt h p s).fiu, egr := (sendPkt h p s).egr
    strikes := (sendPkt h p s).strikes, nextPid := s.nextPid + 1 } := (sendPkt_step h p s).frame

/-- The slot of a subscription whose record has gone out (R229). -/
def subSent (x : SubSlot) : SubSlot := { x with count := 0, written := false, seq := (x.seq + 1) % 2 ^ 32 }

/-- A written slot of an enabled subscription, counted and emptied; its packet goes to the egress choice next. -/
def subCounted (h : Half) (i : Nat) (s : State) : State := bump (pgLight h) R.LIGHT_CNT_SUB_SENT (subMod h i subSent s)

theorem subCounted_self (h : Half) (i : Nat) (s : State) :
    tget {} ((subCounted h i s).sched.at h).subs i = subSent (tget {} (s.sched.at h).subs i) := by
  rw [subCounted, bump_sched, subMod_self]

theorem subInterval_sends {i : Nat} (he : rdBI s (pgLight h) R.LL_SUB_CTRL_EN i = true)
    (hw : (tget {} (s.sched.at h).subs i).written = true) :
    ∃ p, exec (.subIntervalExpiry h i) s = done (sendPkt h p (subCounted h i s)) :=
  ⟨_, congrArg done (if_pos (by rw [he, hw]; rfl))⟩

theorem subInterval_idle {i : Nat} (hn : rdBI s (pgLight h) R.LL_SUB_CTRL_EN i = false ∨
    (tget {} (s.sched.at h).subs i).written = false) : exec (.subIntervalExpiry h i) s = .next s :=
  congrArg done (if_neg (by rcases hn with e | e <;> simp [e]))

theorem subInterval_counts {i : Nat} (he : rdBI s (pgLight h) R.LL_SUB_CTRL_EN i = true)
    (hw : (tget {} (s.sched.at h).subs i).written = true) :
    Ends (.subIntervalExpiry h i) s (fun t => (tget {} (t.sched.at h).subs i).written = false ∧
      (tget {} (t.sched.at h).subs i).count = 0 ∧
      (tget {} (t.sched.at h).subs i).seq = ((tget {} (s.sched.at h).subs i).seq + 1) % 2 ^ 32 ∧
      t.nextPid = s.nextPid + 1 ∧
      rd t (pgLight h) R.LIGHT_CNT_SUB_SENT = rd (bump (pgLight h) R.LIGHT_CNT_SUB_SENT s) (pgLight h) R.LIGHT_CNT_SUB_SENT ∧
      t = { s with
        regs := t.regs, strikes := t.strikes, fiu := t.fiu, egr := t.egr, sched := t.sched, nextPid := t.nextPid } ∧
      RegsKept ((pgLight h, R.LIGHT_CNT_SUB_SENT.off) :: egrRegs) s t) := by
  obtain ⟨p, hx⟩ := subInterval_sends he hw
  have hs : tget {} ((sendPkt h p (subCounted h i s)).sched.at h).subs i = subSent (tget {} (s.sched.at h).subs i) := by
    rw [sendPkt_only, subCounted_self]
  refine ends_done hx ⟨by rw [hs]; rfl, by rw [hs]; rfl, by rw [hs]; rfl, ?_, ?_, ?_, ?_⟩
  · rw [sendPkt_only, subCounted, bump_nextPid]
    rfl
  · exact ((sendPkt_step h p (subCounted h i s)).rd_off _ (by decide)).trans (rd_bump_congr rfl rfl)
  · rw [sendPkt_only, subCounted, bump_only]
    rfl
  · exact (RegsKept.bump_mem (RegsKept.of_eq (t := subMod h i subSent s) rfl) (by simp)).trans
      ((sendPkt_step h p (subCounted h i s)).regs.mono (by simp +contextual))

end

/-- Settles O19: TB_SET with no light to reacquire or refused, a subscription's three writes of EN, and the end of its
interval. -/
theorem timebaseAndSubscriptionsAreSet : Obligations.TimebaseAndSubscriptionsAreSet := by
  unfold Obligations.TimebaseAndSubscriptionsAreSet
  exact ⟨fun s v p hq => ⟨tbSet_sets_both v p hq, tbSet_refused v p hq⟩,
    fun s h i hl => ⟨fun _ => subEnable_active hl, subEnable_alien hl, subEnable_off hl⟩,
    fun s h i => ⟨subInterval_counts, subInterval_idle⟩⟩

end Sys2Proof.Machine
end

section
/-!
SUPPORT. The Angle Scheduler: an event that fires, one past its deadline, one without its VERIFY, and SCH_CTRL.EN
(R216, R217, R219, R220, R221, R233).
-/
namespace Sys2Proof.Machine

section
variable {s : State} {h : Half} {id : Nat} {e : Event}

/-! One event changed. -/

theorem evGet_id (he : evGet s h id = some e) : e.id = id := by simpa using List.find?_some he

theorem evMod_events (h : Half) (id : Nat) (f : Event → Event) (s : State) : ((evMod h id f s).sched.at h).events =
    (s.sched.at h).events.map (fun e => if e.id = id then f e else e) := by
  rw [evMod, schMod, PerHalf.at_put_self]

theorem evMod_length (h : Half) (id : Nat) (f : Event → Event) (s : State) :
    ((evMod h id f s).sched.at h).events.length = (s.sched.at h).events.length := by
  rw [evMod_events, List.length_map]

/-- A change of an event that keeps its number is found under that number. -/
theorem evGet_evMod {f : Event → Event} (hf : ∀ e, (f e).id = e.id) (he : evGet s h id = some e) :
    evGet (evMod h id f s) h id = some (f e) := by
  have hp : (fun x : Event => x.id == id) ∘ (fun e => if e.id = id then f e else e) = fun x => x.id == id := by
    funext x
    dsimp only [Function.comp]
    split
    · rw [hf]
    · rfl
  rw [evGet] at he
  rw [evGet, evMod_events, List.find?_map, hp, he, Option.map_some, if_pos (evGet_id he)]

theorem quiet_evMod (h : Half) (id : Nat) (f : Event → Event) (s : State) : quiet (evMod h id f s) = quiet s :=
  quiet_schMod h rfl

theorem evGet_congr {t : State} (ht : t.sched = s.sched) : evGet t h id = evGet s h id := by rw [evGet, evGet, ht]

/-! Firing (R216). -/

theorem exec_eventFire (he : evGet s h id = some e) : exec (.eventFire h id) s = done (
    if e.st = .fixed ∧ lightState s e.light = lsLIT ∧ ¬ rdBI s (pgL e.light) R.LL_VIEW_6_HOLD e.light ∧
        rdB s (pgSched h) R.SCH_CTRL_EN ∧ rd s pgKeeper R.KP_PWR_STAT_STATE = 4 ∧ fireAt s e ≤ nowH s h then
      lPut e.light R.LL_VIEW_5_FIRED (lV s e.light R.LL_VIEW_5_FIRED + 1)
        (bump (pgSched h) R.SCHED_CNT_FIRED (evMod h id (fun e => { e with st := .fired }) s))
    else s) := by
  show done (eventFire h id s) = _
  rw [eventFire, he]

theorem eventFire_fires (he : evGet s h id = some e) (hm : MayFire s h e) :
    Ends (.eventFire h id) s (fun t => evGet t h id = some { e with st := .fired } ∧
      (t.sched.at h).events.length = (s.sched.at h).events.length ∧
      rd t (pgSched h) R.SCHED_CNT_FIRED = rd (bump (pgSched h) R.SCHED_CNT_FIRED s) (pgSched h) R.SCHED_CNT_FIRED ∧
      t = { s with regs := t.regs, sched := t.sched } ∧
      RegsKept [(pgSched h, R.SCHED_CNT_FIRED.off), (pgL e.light, R.LL_VIEW_5_FIRED.off)] s t) := by
  obtain ⟨hf, hlit, hh, hen, hp, ht⟩ := hm
  have hx := exec_eventFire he
  rw [if_pos ⟨hf, hlit, by simp [hh], hen, hp, ht⟩] at hx
  refine ends_done hx ⟨?_, ?_, ?_, ?_, ?_⟩
  · rw [evGet_congr (s := evMod h id (fun e => { e with st := .fired }) s) (by rw [lPut, wrI_sched, bump_sched])]
    exact evGet_evMod (f := fun e => { e with st := .fired }) (fun _ => rfl) he
  · rw [lPut, wrI_sched, bump_sched, evMod_length]
  · exact (rdI_wrI_place _ _ _ _ _ _ (by decide)).trans (rd_bump_congr rfl rfl)
  · rw [bump_only]
    rfl
  · exact (RegsKept.bump_mem (RegsKept.of_eq (t := evMod h id (fun e => { e with st := .fired }) s) rfl)
      (by simp)).wrI_mem (by simp)

theorem eventFire_waits (he : evGet s h id = some e) (hm : ¬ MayFire s h e) : exec (.eventFire h id) s = .next s := by
  rw [exec_eventFire he, if_neg]
  · rfl
  · rintro ⟨hf, hlit, hh, hen, hp, ht⟩
    exact hm ⟨hf, hlit, by simpa using hh, hen, hp, ht⟩

/-! A missed deadline (R219). -/

/-- The registers in which a miss of light `l` shows. -/
def missRegs (l : Nat) : List (Nat × Nat) :=
  [(pgL l, R.LL_VIEW_0_HEALTH.off), (pgL l, R.LL_VIEW_4_MISS_RUN.off), (pgL l, R.LL_VIEW_5_MISSES.off)] ++
    evtRegs (pgL l) ++ evtRegs (pgSched (lHalf l))

theorem not_mem_missRegs {l P off : Nat} (h : off ∉ [R.LL_VIEW_0_HEALTH.off, R.LL_VIEW_4_MISS_RUN.off,
    R.LL_VIEW_5_MISSES.off, R.EVT_RAW.off, R.EVT_PEND.off]) : (P, off) ∉ missRegs l := by
  simp_all [missRegs, evtRegs]

theorem setHealth_only (l v : Nat) (s : State) : setHealth l v s = { s with
    regs := (setHealth l v s).regs, strikes := (setHealth l v s).strikes, lights := (setHealth l v s).lights } := by
  rw [setHealth, raiseIf_only]
  rfl

theorem setHealth_kept (l v : Nat) (s : State) : RegsKept (missRegs l) s (setHealth l v s) :=
  (RegsKept.wrI_mem (RegsKept.of_eq (t := lgtMod l _ s) rfl) (by simp [missRegs])).trans
    ((raiseIf_kept _ _ _ _).mono (by simp +contextual [missRegs]))

/-- The light's own counts of a miss. -/
def missCounted (l : Nat) (s : State) : State :=
  lPut l R.LL_VIEW_5_MISSES (lV s l R.LL_VIEW_5_MISSES + 1)
    (lPut l R.LL_VIEW_4_MISS_RUN (min 255 (lV s l R.LL_VIEW_4_MISS_RUN + 1)) s)

theorem missCounted_kept (l : Nat) (s : State) : RegsKept (missRegs l) s (missCounted l s) :=
  ((RegsKept.refl _ s).wrI_mem (by simp [missRegs])).wrI_mem (by simp [missRegs])

/-- A miss is counted, and where the run reaches its limit the light may become SUSPECT and the event is raised. -/
theorem missOne_cases (l : Nat) (s : State) : missOne l s = missCounted l s ∨
    missOne l s = raise (pgSched (lHalf l)) 1 (missCounted l s) ∨
    missOne l s = raise (pgSched (lHalf l)) 1 (setHealth l 1 (missCounted l s)) := by
  unfold missOne
  dsimp only
  split
  · split
    · exact .inr (.inr rfl)
    · exact .inr (.inl rfl)
  · exact .inl rfl

theorem missOne_only (l : Nat) (s : State) : missOne l s = { s with
    regs := (missOne l s).regs, strikes := (missOne l s).strikes, lights := (missOne l s).lights } := by
  rcases missOne_cases l s with e | e | e
  · rw [e]
    rfl
  · rw [e, raise_only]
    rfl
  · rw [e, raise_only, setHealth_only]
    rfl

theorem missOne_kept (l : Nat) (s : State) : RegsKept (missRegs l) s (missOne l s) := by
  rcases missOne_cases l s with e | e | e <;> rw [e]
  · exact missCounted_kept l s
  · exact (missCounted_kept l s).raise_mem (by simp +contextual [missRegs])
  · exact ((missCounted_kept l s).trans (setHealth_kept l 1 _)).raise_mem (by simp +contextual [missRegs])

theorem quiet_missOne (l : Nat) (s : State) : quiet (missOne l s) = quiet s := by
  rw [missOne_only]
  exact quiet_congr s _ rfl rfl rfl rfl rfl rfl rfl rfl

/-- An event late at its deadline, with the miss counted for its light and its scheduler. -/
def lateCounted (h : Half) (e : Event) (s : State) : State := missOne e.light (bump (pgSched h) R.SCHED_CNT_MISS_LATE s)

theorem lateCounted_sched (h : Half) (e : Event) (s : State) : (lateCounted h e s).sched = s.sched := by
  rw [lateCounted, missOne_only, bump_sched]

theorem exec_eventDeadlineMiss (he : evGet s h id = some e) : exec (.eventDeadlineMiss h id) s = done (settle (
    if (e.st = .fixed ∨ e.st = .fired) ∧ deadline s e < nowH s h then
      (if e.op = 6 then evEnd h e .failed (lateCounted h e s)
        else evMod h id (fun e => { e with st := .fixed, rev := e.rev + 1 }) (lateCounted h e s))
    else s)) := by
  show done (settle (eventMiss h id s)) = _
  rw [eventMiss, he]
  rfl

theorem eventDeadlineMiss_refixes (he : evGet s h id = some e) (hs : e.st = .fixed ∨ e.st = .fired)
    (hd : deadline s e < nowH s h) (ho : e.op ≠ 6) (hq : quiet s = true) :
    Ends (.eventDeadlineMiss h id) s (fun t => evGet t h id = some { e with st := .fixed, rev := e.rev + 1 } ∧
      (t.sched.at h).events.length = (s.sched.at h).events.length ∧
      rd t (pgSched h) R.SCHED_CNT_MISS_LATE =
        rd (bump (pgSched h) R.SCHED_CNT_MISS_LATE s) (pgSched h) R.SCHED_CNT_MISS_LATE) := by
  have hx := exec_eventDeadlineMiss he
  rw [if_pos ⟨hs, hd⟩, if_neg ho] at hx
  refine ends_settle hx ?_ ⟨evGet_evMod (fun _ => rfl) ((evGet_congr (lateCounted_sched h e s)).trans he), ?_, ?_⟩
  · rw [quiet_evMod, lateCounted, quiet_missOne, bump_only]
    exact (quiet_congr s _ rfl rfl rfl rfl rfl rfl rfl rfl).trans hq
  · rw [evMod_length, lateCounted_sched]
  · exact (missOne_kept e.light _).rd _ _ (not_mem_missRegs (by decide))

theorem eventDeadlineMiss_idle (he : evGet s h id = some e)
    (hn : (e.st ≠ .fixed ∧ e.st ≠ .fired) ∨ nowH s h ≤ deadline s e) (hq : quiet s = true) :
    exec (.eventDeadlineMiss h id) s = .next s := by
  refine exec_settled ?_ hq
  rw [exec_eventDeadlineMiss he, if_neg]
  rintro ⟨hs, hd⟩
  rcases hn with ⟨h1, h2⟩ | hle
  · exact hs.elim h1 h2
  · exact absurd hd (not_lt.mpr hle)

/-! VERIFY and the buffers of a read (R217, R220, R221). -/

theorem verifyTimeout_fails {v : BitVec 32}
    (he : (s.sched.at h).events.find? (fun e => e.vtag == v.toNat && e.st == .verify) = some e) :
    exec (.verifyTimeout h v) s = .next (settle (evEnd h e .failed
      (raise (pgSched h) 6 (bump (pgSched h) R.SCHED_CNT_VFY_TMO s)))) := by
  show done (settle (verifyTimeout h v.toNat s)) = _
  rw [verifyTimeout, he]
  rfl

theorem exec_mediaReadDone {v : BitVec 32} (he : evByVtag s h v.toNat = some e) : exec (.mediaReadDone h v) s =
    done (settle (if e.st = .readback ∧ e.left = 0 then evEnd h e .pass s else s)) := by
  show done (settle (mediaReadDone h v.toNat s)) = _
  rw [mediaReadDone, he]

theorem mediaReadDone_passes {v : BitVec 32} (he : evByVtag s h v.toNat = some e) (hs : e.st = .readback)
    (hl : e.left = 0) : exec (.mediaReadDone h v) s = .next (settle (evEnd h e .pass s)) := by
  rw [exec_mediaReadDone he, if_pos ⟨hs, hl⟩]
  rfl

theorem mediaReadDone_idle {v : BitVec 32} (he : evByVtag s h v.toNat = some e) (hn : e.st ≠ .readback ∨ e.left ≠ 0)
    (hq : quiet s = true) : exec (.mediaReadDone h v) s = .next s := by
  refine exec_settled ?_ hq
  rw [exec_mediaReadDone he, if_neg (fun hc => hn.elim (fun h => h hc.1) (fun h => h hc.2))]

/-! SCH_CTRL.EN (R221, R233, R396). -/

theorem enWrite_stores {en : Bool} (P : Nat) (f : Fld) (p : Path)
    (hs : en = false ∨ rdB s pgEaselG R.EZG_CTRL_SVC = true) : enWrite P f en p s = wr P f (bit en) s :=
  if_neg (by rcases hs with e | e <;> simp [e])

theorem enWrite_refused (P : Nat) (f : Fld) (p : Path) (hs : rdB s pgEaselG R.EZG_CTRL_SVC = false) :
    enWrite P f true p s = cfgReject P f.off 3 .live (some p) s := if_pos (by simp [hs])

theorem exec_schCtrlEnWrite {en : Bool} (p : Path) (hl : pageLive s (pgSched h) = true) :
    exec (.schCtrlEnWrite h en p) s = done (enWrite (pgSched h) R.SCH_CTRL_EN en p (unlatched (pgSched h) s)) :=
  exec_onPage_live (f := fun s => enWrite (pgSched h) R.SCH_CTRL_EN en p s) hl rfl

theorem schCtrlEnWrite_stores {en : Bool} (p : Path) (hl : pageLive s (pgSched h) = true)
    (hs : en = false ∨ rdB s pgEaselG R.EZG_CTRL_SVC = true) :
    Ends (.schCtrlEnWrite h en p) s (fun t => rdB t (pgSched h) R.SCH_CTRL_EN = en ∧
      t = { s with regs := t.regs, woLatch := t.woLatch } ∧ RegsKept [(pgSched h, R.SCH_CTRL_EN.off)] s t) := by
  have hx := exec_schCtrlEnWrite (en := en) p hl
  rw [enWrite_stores (s := unlatched (pgSched h) s) _ _ _ hs] at hx
  exact ends_done hx ⟨rdB_wr_bit rfl _ _ _, rfl, wr_kept _ _ _ _⟩

theorem schCtrlEnWrite_refused (p : Path) (hl : pageLive s (pgSched h) = true)
    (hs : rdB s pgEaselG R.EZG_CTRL_SVC = false) :
    Ends (.schCtrlEnWrite h true p) s (fun t =>
      t = cfgReject (pgSched h) R.SCH_CTRL_EN.off 3 .live (some p) { s with woLatch := t.woLatch }) := by
  have hx := exec_schCtrlEnWrite (en := true) p hl
  rw [enWrite_refused (s := unlatched (pgSched h) s) _ _ _ hs] at hx
  refine ends_done hx ?_
  rw [cfgReject_woLatch]
  rfl

end

/-- Settles O20: firing by R216's conditions, the miss that takes the next revolution, the ends by VERIFY and by the
buffers, and EN stored or refused. -/
theorem scheduledEventsKeepTheirTimes : Obligations.ScheduledEventsKeepTheirTimes := by
  unfold Obligations.ScheduledEventsKeepTheirTimes
  exact ⟨fun s h id e he => ⟨eventFire_fires he, eventFire_waits he, eventDeadlineMiss_refixes he,
      eventDeadlineMiss_idle he⟩,
    fun s h v e => ⟨verifyTimeout_fails, mediaReadDone_passes, mediaReadDone_idle⟩,
    fun s h p hl => ⟨schCtrlEnWrite_stores p hl (.inl rfl), fun hs => schCtrlEnWrite_stores p hl (.inr hs),
      schCtrlEnWrite_refused p hl⟩⟩

end Sys2Proof.Machine
end

section
/-!
SUPPORT. Tape streams: the fill of a FIFO from waiting panels and the offer of a chunk (R224, R225, R226, R371).
-/
namespace Sys2Proof.Machine

/-! Streams and ports. -/

theorem strGet_strMod_self (h : Half) (i : Nat) (f : Stream → Stream) (s : State) :
    strGet (strMod h i f s) h i = f (strGet s h i) := by
  rw [strGet, strMod, schMod, PerHalf.at_put_self, tget_tput_self]
  rfl

theorem strGet_strMod_other {i j : Nat} (h : Half) (f : Stream → Stream) (s : State) (hj : j ≠ i) :
    strGet (strMod h i f s) h j = strGet s h j := by
  rw [strGet, strMod, schMod, PerHalf.at_put_self, tget_tput_other _ _ _ _ _ hj]
  rfl

theorem strGet_congr {s t : State} (ht : t.sched = s.sched) (h : Half) (i : Nat) : strGet t h i = strGet s h i := by
  rw [strGet, strGet, ht]

theorem apuGet_apuMod (n m : Nat) (f : ApuPort → ApuPort) (s : State) :
    apuGet (apuMod n f s) m = if m = n then f (apuGet s n) else apuGet s m := by
  split
  · next e => rw [e, apuGet_apuMod_self]
  · next e => exact tget_tput_other _ _ _ _ _ e

/-! Bytes that the device writes: the line writes are counted, and Easel holds the bytes (R393). -/

theorem raiseTo_only (src P b : Nat) (s : State) : raiseTo src P b s = { s with
    regs := (raiseTo src P b s).regs, strikes := (raiseTo src P b s).strikes } := by
  unfold raiseTo
  dsimp only
  split <;> rfl

theorem addLines_only (st n : Nat) (s : State) : addLines st n s = { s with
    regs := (addLines st n s).regs, strikes := (addLines st n s).strikes } := by
  unfold addLines
  dsimp only
  generalize pgEasel (if st < 4 then .west else .east) = P
  split
  · rw [raiseTo_only]
    rfl
  · rfl

theorem foldl_addLines_only (f : Nat → Nat) (l : List Nat) (s : State) :
    l.foldl (fun t i => addLines (f i) 1 t) s = { s with
      regs := (l.foldl (fun t i => addLines (f i) 1 t) s).regs
      strikes := (l.foldl (fun t i => addLines (f i) 1 t) s).strikes } := by
  induction l generalizing s with
  | nil => rfl
  | cons i r ih =>
    rw [List.foldl_cons, ih, addLines_only]

theorem ezStore_only (a : Nat) (bs : List Byte) (s : State) : ezStore a bs s = { s with
    regs := (ezStore a bs s).regs, strikes := (ezStore a bs s).strikes, easel := cellPuts a bs s.easel } := by
  cases bs with
  | nil => rfl
  | cons b r =>
    show List.foldl _ (ezWrite a (b :: r) s) _ = _
    rw [foldl_addLines_only]
    rfl

/-! STREAM_FILL (R225). -/

section
variable {s : State} {h : Half} {i : Nat}

/-- A stream with one unsent block more, and its fill place moved on. -/
def filled (ord : Nat) (x : Stream) : Stream :=
  { x with blocks := x.blocks ++ [⟨ord, 0, false, false, 0, none, 0⟩], fillOrd := x.fillOrd + 1 }

theorem streamFill_puts {src : TapeSrc}
    (hs : (strGet s h i).srcs.find? (fun p => p.ord == (strGet s h i).fillOrd) = some src)
    (ho : (strGet s h i).open_ = true) (hst : (strGet s h i).state ≠ tsSTOPPING)
    (hf : (strGet s h i).blocks.length < fifoBlocks (strGet s h i)) : exec (.streamFill h i) s =
      done (ezStore (fifoAddr s h (strGet s h i) src.ord) ((src.pages.map (panelData s)).flatten)
        (strMod h i (filled src.ord) s)) := by
  show done (streamFill h i s) = _
  simp only [streamFill, hs, ho, Bool.not_true, Bool.false_or, beq_iff_eq, hst, if_false, hf, if_true]
  rfl

theorem streamFill_none (hs : (strGet s h i).srcs.find? (fun p => p.ord == (strGet s h i).fillOrd) = none) :
    exec (.streamFill h i) s = .next s := by
  show done (streamFill h i s) = _
  simp only [streamFill, hs]
  rfl

theorem streamFill_fills {src : TapeSrc} (hwf : Memory.wf s.easel = true)
    (hs : (strGet s h i).srcs.find? (fun p => p.ord == (strGet s h i).fillOrd) = some src)
    (ho : (strGet s h i).open_ = true) (hst : (strGet s h i).state ≠ tsSTOPPING)
    (hf : (strGet s h i).blocks.length < fifoBlocks (strGet s h i)) :
    Ends (.streamFill h i) s (fun t =>
      (strGet t h i).blocks = (strGet s h i).blocks ++ [⟨src.ord, 0, false, false, 0, none, 0⟩] ∧
      (strGet t h i).fillOrd = (strGet s h i).fillOrd + 1 ∧
      (∀ j, j ≠ i → strGet t h j = strGet s h j) ∧ (strGet t h i).lapped = (strGet s h i).lapped ∧
      t.easel = cellPuts (fifoAddr s h (strGet s h i) src.ord) ((src.pages.map (panelData s)).flatten) s.easel ∧
      (∀ a, (a < fifoAddr s h (strGet s h i) src.ord ∨
          fifoAddr s h (strGet s h i) src.ord + ((src.pages.map (panelData s)).flatten).length ≤ a) →
        ezByte t a = ezByte s a) ∧
      t = { s with regs := t.regs, strikes := t.strikes, sched := t.sched, easel := t.easel }) := by
  have hx := streamFill_puts hs ho hst hf
  generalize fifoAddr s h (strGet s h i) src.ord = a at hx ⊢
  generalize (src.pages.map (panelData s)).flatten = bs at hx ⊢
  have hsch : (ezStore a bs (strMod h i (filled src.ord) s)).sched = (strMod h i (filled src.ord) s).sched := by
    rw [ezStore_only]
  have hez : (ezStore a bs (strMod h i (filled src.ord) s)).easel = cellPuts a bs s.easel := by
    rw [ezStore_only]
    rfl
  have hx' : strGet (ezStore a bs (strMod h i (filled src.ord) s)) h i = filled src.ord (strGet s h i) := by
    rw [strGet_congr hsch, strGet_strMod_self]
  refine ends_done hx ⟨by rw [hx']; rfl, by rw [hx']; rfl, fun j hj => ?_, by rw [hx']; rfl, hez, fun b hb => ?_, ?_⟩
  · rw [strGet_congr hsch, strGet_strMod_other _ _ _ hj]
  · rw [ezByte, hez]
    exact cellGet_cellPuts_other a b bs s.easel hwf hb
  · rw [ezStore_only]
    rfl

/-! STREAM_CHUNK_OFFER (R224). -/

theorem chunkBursts_length (stn : Nat) (h : Half) (i k : Nat) (first : Bool) (a : Nat) (d : List Byte) :
    (chunkBursts stn h i k first a d).length = k := by
  induction k generalizing first a d with
  | zero => rfl
  | succ k ih => rw [chunkBursts, List.length_cons, ih]

/-- A port with transactions at the tail of its tape-feed class. -/
def tapeFed (ts : List Txn) (p : ApuPort) : ApuPort := { p with tape := p.tape ++ ts }

/-- The bursts of the chunk of block `b` that stream `i` sends next. -/
def chunkTxns (s : State) (h : Half) (i : Nat) (b : TapeBlk) : List Txn :=
  let x := strGet s h i
  chunkBursts (lightStn s x.light) h i 256 true
    (unitBuf (lightUnit s x.light) + blkOff b.ord + b.chunks * panelBytes)
    (ezRead s (fifoAddr s h x b.ord + b.chunks * panelBytes) panelBytes)

theorem chunkTxns_length (s : State) (h : Half) (i : Nat) (b : TapeBlk) : (chunkTxns s h i b).length = 256 :=
  chunkBursts_length ..

/-- A stream whose chunk stands in the tape-feed class. -/
def chunkOffered (x : Stream) : Stream := { x with offered := true }

theorem chunkOffer_pushes {b : TapeBlk} (hb : nextChunkBlk (strGet s h i) = some b)
    (hr : feedReady s h (strGet s h i) = true) (hc : 65536 ≤ creditNow s (strGet s h i)) :
    exec (.streamChunkOffer h i) s = done (apuMod (lightPort s (strGet s h i).light) (tapeFed (chunkTxns s h i b))
      (strMod h i chunkOffered s)) := by
  show done (chunkOffer h i s) = _
  rw [chunkOffer, if_pos ⟨hr, hc⟩, hb]
  rfl

theorem chunkOffer_offers {b : TapeBlk} (hb : nextChunkBlk (strGet s h i) = some b)
    (hr : feedReady s h (strGet s h i) = true) (hc : 65536 ≤ creditNow s (strGet s h i)) :
    Ends (.streamChunkOffer h i) s (fun t => (strGet t h i).offered = true ∧
      (apuGet t (lightPort s (strGet s h i).light)).tape.length =
        (apuGet s (lightPort s (strGet s h i).light)).tape.length + 256 ∧
      (∀ n, (apuGet t n).media = (apuGet s n).media ∧ (apuGet t n).mgmt = (apuGet s n).mgmt) ∧
      t = { s with sched := t.sched, apu := t.apu }) := by
  refine ends_done (chunkOffer_pushes hb hr hc) ⟨?_, ?_, fun n => ?_, rfl⟩
  · exact congrArg Stream.offered (strGet_strMod_self h i chunkOffered s)
  · rw [apuGet_apuMod_self, tapeFed, List.length_append, chunkTxns_length]
    rfl
  · rw [apuGet_apuMod]
    split
    · next e => rw [e]; exact ⟨rfl, rfl⟩
    · exact ⟨rfl, rfl⟩

theorem chunkOffer_idle (hn : feedReady s h (strGet s h i) = false ∨ creditNow s (strGet s h i) < 65536) :
    exec (.streamChunkOffer h i) s = .next s :=
  congrArg done (if_neg (fun ⟨hr, hc⟩ => hn.elim (fun e => by simp [e] at hr) (fun e => absurd hc (not_le.mpr e))))

end

/-- Settles O21: the fill by what `ezStore` and the stream's record take, the offer by the bursts that the port's
tape-feed class gains. -/
theorem tapeStreamsFillAndFeed : Obligations.TapeStreamsFillAndFeed := by
  unfold Obligations.TapeStreamsFillAndFeed
  exact ⟨fun s h i src hwf hs ho hst hf => streamFill_fills hwf hs ho hst hf, fun s h i hs => streamFill_none hs,
    fun s h i b hb => ⟨chunkOffer_offers hb, chunkOffer_idle⟩⟩

end Sys2Proof.Machine
end

section
/-!
SUPPORT. The reference inputs: PPS edges, the gates of REF100, holdover and TB_NOW (R201, R202, R231, R576-R579).
-/
namespace Sys2Proof.Machine

theorem rd_timeMod (f : TimeRef → TimeRef) (s : State) (P : Nat) (g : Fld) : rd (timeMod f s) P g = rd s P g := rfl

section
variable {s : State}

/-! PPS (R201, R578). -/

/-- Where a PPS edge is captured: within 2 ns of the timebase. -/
def ppsCap (s : State) : Nat := (now s + Config.ppsJitter s.freeSeq % 5 + 2 ^ 64 - 2) % 2 ^ 64

theorem ppsCap_lt (s : State) : ppsCap s < 2 ^ R.TB_PPS_CAP.w := Nat.mod_lt _ (by decide)

/-- An edge captured at `c` stands no second after the last one. -/
def ppsGlitch (c : Nat) (s : State) : Bool := !s.time.freshPps &&
  (s.time.lastPps.map (fun p => (c + 2 ^ 64 - p) % 2 ^ 64)).any (fun d => decide (d < 999000000 ∨ 1001000000 < d))

/-- An edge captured at `c`, before it is judged. -/
def ppsTaken (c : Nat) (s : State) : State := timeMod (fun t => { t with lastPps := some c })
  (wr pgTimebase R.TB_STAT_PPS_OK 1 (wr pgTimebase R.TB_PPS_CAP c { s with freeSeq := s.freeSeq + 1 }))

/-- An edge captured with error `e` under REF_OK: near, it sets the slew; far, the slew stops and PPS_FAR is raised. -/
def ppsJudged (e : Int) (u : State) : State :=
  let v := wr pgTimebase R.TB_STAT_PPS_ERR (signed32 e) (timeMod (fun t => { t with freshPps := false }) u)
  if e.natAbs ≤ 1000000 then wr pgTimebase R.TB_STAT_PPS_FAR 0 (timeMod (fun t => { t with slew := e }) v)
  else raise pgTimebase 3 (wr pgTimebase R.TB_STAT_PPS_FAR 1 (timeMod (fun t => { t with slew := 0 }) v))

/-- What follows from an edge captured at `c`. -/
def ppsAt (c : Nat) (s : State) : State :=
  if ppsGlitch c s then bump pgTimebase R.TIMEBASE_CNT_PPS_GLITCH (ppsTaken c s)
  else if !rdB s pgTimebase R.TB_STAT_REF_OK then ppsTaken c s else ppsJudged (ppsErr c) (ppsTaken c s)

theorem ppsEdge_eq (he : rdB s pgTimebase R.TB_CTRL_PPS_EN = true) : ppsEdge s = ppsAt (ppsCap s) s :=
  if_neg (by simp [he])

/-- What every judgement of an edge captured at `c` keeps. -/
structure PpsSeen (c : Nat) (s t : State) : Prop where
  ok : rd t pgTimebase R.TB_STAT_PPS_OK = 1
  cap : rd t pgTimebase R.TB_PPS_CAP = c
  last : t.time.lastPps = some c
  frame : t = { s with regs := t.regs, strikes := t.strikes, time := t.time, freeSeq := t.freeSeq }

section
variable {c : Nat}

theorem ppsTaken_seen (s : State) (hc : c < 2 ^ R.TB_PPS_CAP.w) : PpsSeen c s (ppsTaken c s) where
  ok := by
    rw [ppsTaken, rd_timeMod, rd_wr_self]
    rfl
  cap := by
    rw [ppsTaken, rd_timeMod, rd_wr_place _ _ _ _ (by decide), rd_wr_self]
    exact Nat.mod_eq_of_lt hc
  last := rfl
  frame := rfl

theorem PpsSeen.wr {t : State} {f : Fld} {v : Nat} (h : PpsSeen c s t)
    (hok : (R.TB_STAT_PPS_OK.off, R.TB_STAT_PPS_OK.lo) ≠ (f.off, f.lo))
    (hcap : (R.TB_PPS_CAP.off, R.TB_PPS_CAP.lo) ≠ (f.off, f.lo)) : PpsSeen c s (wr pgTimebase f v t) where
  ok := (rd_wr_place _ _ _ _ hok).trans h.ok
  cap := (rd_wr_place _ _ _ _ hcap).trans h.cap
  last := h.last
  frame := by
    rw [h.frame]
    rfl

theorem PpsSeen.timeMod {t : State} {f : TimeRef → TimeRef} (h : PpsSeen c s t)
    (hf : (f t.time).lastPps = t.time.lastPps) : PpsSeen c s (timeMod f t) where
  ok := h.ok
  cap := h.cap
  last := hf.trans h.last
  frame := by
    rw [h.frame]
    rfl

theorem PpsSeen.bump {t : State} {f : Fld} (h : PpsSeen c s t) (hok : R.TB_STAT_PPS_OK.off ≠ f.off)
    (hcap : R.TB_PPS_CAP.off ≠ f.off) : PpsSeen c s (bump pgTimebase f t) where
  ok := (rd_bumpBy_off _ _ _ _ hok).trans h.ok
  cap := (rd_bumpBy_off _ _ _ _ hcap).trans h.cap
  last := by rw [bump_time, h.last]
  frame := by rw [bump_only, h.frame]

theorem PpsSeen.raise {t : State} {b : Nat} (h : PpsSeen c s t) : PpsSeen c s (raise pgTimebase b t) where
  ok := (rd_raise_off _ _ _ _ (by decide)).trans h.ok
  cap := (rd_raise_off _ _ _ _ (by decide)).trans h.cap
  last := by rw [raise_time, h.last]
  frame := by rw [raise_only, h.frame]

theorem PpsSeen.judged {t : State} (h : PpsSeen c s t) (e : Int) : PpsSeen c s (ppsJudged e t) := by
  have hv := (h.timeMod (f := fun t => { t with freshPps := false }) rfl).wr
    (f := R.TB_STAT_PPS_ERR) (v := signed32 e) (by decide) (by decide)
  unfold ppsJudged
  dsimp only
  split
  · exact (hv.timeMod rfl).wr (by decide) (by decide)
  · exact ((hv.timeMod rfl).wr (by decide) (by decide)).raise

theorem ppsAt_seen (s : State) (hc : c < 2 ^ R.TB_PPS_CAP.w) : PpsSeen c s (ppsAt c s) := by
  have ht := ppsTaken_seen s hc
  unfold ppsAt
  split
  · exact ht.bump (by decide) (by decide)
  · split
    · exact ht
    · exact ht.judged _

/-- An edge that is no second after the last one counts as a glitch and leaves the slew. -/
theorem ppsAt_glitch {p : Nat} (hp : s.time.lastPps = some p) (hf : s.time.freshPps = false)
    (hd : (c + 2 ^ 64 - p) % 2 ^ 64 < 999000000 ∨ 1001000000 < (c + 2 ^ 64 - p) % 2 ^ 64) :
    (ppsAt c s).time.slew = s.time.slew ∧ rd (ppsAt c s) pgTimebase R.TIMEBASE_CNT_PPS_GLITCH =
      rd (bump pgTimebase R.TIMEBASE_CNT_PPS_GLITCH s) pgTimebase R.TIMEBASE_CNT_PPS_GLITCH := by
  have hg : ppsGlitch c s = true := by
    rw [ppsGlitch, hp, hf, Option.map_some, Option.any_some, decide_eq_true hd]
    rfl
  have hk : ∀ f : Fld, f = R.TIMEBASE_CNT_PPS_GLITCH ∨ f = R.CTRL_FREEZE →
      rd (ppsTaken c s) pgTimebase f = rd s pgTimebase f := by
    rintro f (rfl | rfl) <;>
    · rw [ppsTaken, rd_timeMod, rd_wr_place _ _ _ _ (by decide), rd_wr_place _ _ _ _ (by decide)]
      rfl
  rw [ppsAt, if_pos hg]
  exact ⟨by rw [bump_time]; rfl, rd_bump_congr (hk _ (.inl rfl)) (hk _ (.inr rfl))⟩

end

theorem ppsEdge_captures (he : rdB s pgTimebase R.TB_CTRL_PPS_EN = true) :
    Ends .ppsEdge s (fun t => rdB t pgTimebase R.TB_STAT_PPS_OK = true ∧ t.tb = s.tb ∧
      (∃ j, j < 5 ∧ rd t pgTimebase R.TB_PPS_CAP = (now s + j + 2 ^ 64 - 2) % 2 ^ 64) ∧
      t.time.lastPps = some (rd t pgTimebase R.TB_PPS_CAP) ∧
      (∀ p, s.time.lastPps = some p → s.time.freshPps = false →
        (rd t pgTimebase R.TB_PPS_CAP + 2 ^ 64 - p) % 2 ^ 64 < 999000000 ∨
          1001000000 < (rd t pgTimebase R.TB_PPS_CAP + 2 ^ 64 - p) % 2 ^ 64 →
        t.time.slew = s.time.slew ∧ rd t pgTimebase R.TIMEBASE_CNT_PPS_GLITCH =
          rd (bump pgTimebase R.TIMEBASE_CNT_PPS_GLITCH s) pgTimebase R.TIMEBASE_CNT_PPS_GLITCH) ∧
      t = { s with regs := t.regs, strikes := t.strikes, time := t.time, freeSeq := t.freeSeq }) := by
  have hx : exec .ppsEdge s = done (ppsAt (ppsCap s) s) := congrArg done (ppsEdge_eq he)
  have hj : ∃ j, j < 5 ∧ ppsCap s = (now s + j + 2 ^ 64 - 2) % 2 ^ 64 := ⟨_, Nat.mod_lt _ (by decide), rfl⟩
  have h := ppsAt_seen s (ppsCap_lt s)
  generalize ppsCap s = c at hx hj h
  rw [← h.cap] at hj
  refine ends_done hx ⟨?_, by rw [h.frame], hj, by rw [h.last, h.cap], fun p hp hf hd => ?_, h.frame⟩
  · rw [rdB, h.ok]
    rfl
  · rw [h.cap] at hd
    exact ppsAt_glitch hp hf hd

theorem pps_disabled (he : rdB s pgTimebase R.TB_CTRL_PPS_EN = false) :
    exec .ppsEdge s = .next s ∧ exec .ppsLost s = .next s :=
  ⟨congrArg done (if_pos (by simp [he])), congrArg done (if_neg (by simp [he]))⟩

theorem ppsLost_stops (he : rdB s pgTimebase R.TB_CTRL_PPS_EN = true) (ho : rdB s pgTimebase R.TB_STAT_PPS_OK = true) :
    Ends .ppsLost s (fun t => rdB t pgTimebase R.TB_STAT_PPS_OK = false ∧ t.time.slew = 0 ∧
      (rd t pgTimebase R.EVT_RAW).testBit 2 = true ∧
      t = { s with regs := t.regs, strikes := t.strikes, time := t.time }) := by
  refine ends_done (congrArg done (if_pos (by rw [he, ho]; rfl))) ⟨?_, ?_, evtRaw_raise_self _ _ (by decide), ?_⟩
  · rw [rdB, rd_raise_off _ _ _ _ (by decide), rd_wr_self]
    rfl
  · rw [raise_time]
    rfl
  · rw [raise_only]
    rfl

/-! The gates of REF100 (R576, R577). -/

/-- What every gate leaves: its deviation, the count of good gates `n`, and a fresh start for the next. -/
def gateTaken (dev : Int) (n : Nat) (s : State) : State :=
  wr pgTimebase R.TB_REF_MEAS_GOOD_GATES n (wr pgTimebase R.TB_REF_MEAS_DEV (signed32 dev)
    (timeMod (fun t => { t with gateBad := false }) s))

theorem rd_gateTaken (dev : Int) {n : Nat} (s : State) (hn : n < 65536) :
    rd (gateTaken dev n s) pgTimebase R.TB_REF_MEAS_GOOD_GATES = n := by
  rw [gateTaken, rd_wr_self]
  exact Nat.mod_eq_of_lt hn

theorem refOk_gateTaken (dev : Int) (n : Nat) (s : State) :
    rdB (gateTaken dev n s) pgTimebase R.TB_STAT_REF_OK = rdB s pgTimebase R.TB_STAT_REF_OK := by
  rw [rdB, gateTaken, rd_wr_place _ _ _ _ (by decide), rd_wr_place _ _ _ _ (by decide), rd_timeMod, rdB]

theorem quiet_gateTaken (dev : Int) (n : Nat) (s : State) : quiet (gateTaken dev n s) = quiet s :=
  quiet_congr s _ rfl rfl rfl rfl rfl rfl rfl rfl

theorem gateTaken_kept (dev : Int) (n : Nat) (s : State) :
    RegsKept [(pgTimebase, R.TB_REF_MEAS_GOOD_GATES.off)] s (gateTaken dev n s) :=
  ((RegsKept.of_eq (t := timeMod _ s) rfl).trans (wr_kept pgTimebase R.TB_REF_MEAS_DEV _ _)).trans
    (wr_kept pgTimebase R.TB_REF_MEAS_GOOD_GATES n _)

theorem refGate_good {dev : Int} (hd : dev.natAbs ≤ 10000) (hg : s.time.gateBad = false)
    (hr : rdB s pgTimebase R.TB_STAT_REF_OK = true) :
    refGate dev true s = gateTaken dev (min 65535 (rd s pgTimebase R.TB_REF_MEAS_GOOD_GATES + 1)) s := by
  simp only [refGate, hg, hd, hr, Bool.not_false, Bool.and_true, decide_true, if_true, not_true_eq_false,
    and_false, if_false]
  rfl

theorem refLost_off (cause : Nat) (h : rdB s pgTimebase R.TB_STAT_REF_OK = false) : refLost cause s = s :=
  if_pos (by simp [h])

theorem refGate_bad {dev : Int} {edges : Bool} (hb : 10000 < dev.natAbs ∨ edges = false ∨ s.time.gateBad = true)
    (hr : rdB s pgTimebase R.TB_STAT_REF_OK = false) : refGate dev edges s = gateTaken dev 0 s := by
  have hn : (edges && !s.time.gateBad && decide (dev.natAbs ≤ 10000)) = false := by
    rcases hb with h | h | h
    · simp [not_le.mpr h]
    · simp [h]
    · simp [h]
  rw [refGate]
  simp only [hn, Bool.false_eq_true, if_false]
  exact refLost_off _ ((refOk_gateTaken dev 0 s).trans hr)

theorem refGate_counts (dev : Int) (hq : quiet s = true) (hd : dev.natAbs ≤ 10000) (hg : s.time.gateBad = false)
    (hr : rdB s pgTimebase R.TB_STAT_REF_OK = true) :
    Ends (.refGate dev true) s (fun t =>
      rd t pgTimebase R.TB_REF_MEAS_GOOD_GATES = min 65535 (rd s pgTimebase R.TB_REF_MEAS_GOOD_GATES + 1) ∧
      rdB t pgTimebase R.TB_STAT_REF_OK = true ∧ t = { s with regs := t.regs } ∧
      RegsKept [(pgTimebase, R.TB_REF_MEAS_GOOD_GATES.off)] s t) := by
  have he : exec (.refGate dev true) s = done (settle (refGate dev true s)) := rfl
  have ht : { s.time with gateBad := false } = s.time := by rw [← hg]
  rw [refGate_good hd hg hr] at he
  refine ends_settle he ((quiet_gateTaken ..).trans hq) ⟨rd_gateTaken _ _ (by omega), (refOk_gateTaken ..).trans hr, ?_,
    gateTaken_kept _ _ _⟩
  show ({ s with regs := _, time := { s.time with gateBad := false } } : State) = _
  rw [ht]
  rfl

theorem refGate_clears (dev : Int) (edges : Bool) (hq : quiet s = true)
    (hb : 10000 < dev.natAbs ∨ edges = false ∨ s.time.gateBad = true)
    (hr : rdB s pgTimebase R.TB_STAT_REF_OK = false) :
    Ends (.refGate dev edges) s (fun t => rd t pgTimebase R.TB_REF_MEAS_GOOD_GATES = 0 ∧
      rdB t pgTimebase R.TB_STAT_REF_OK = false ∧ t = { s with regs := t.regs, time := t.time }) := by
  have he : exec (.refGate dev edges) s = done (settle (refGate dev edges s)) := rfl
  rw [refGate_bad hb hr] at he
  exact ends_settle he ((quiet_gateTaken ..).trans hq) ⟨rd_gateTaken _ _ (by decide), (refOk_gateTaken ..).trans hr, rfl⟩

/-! Holdover (R202, R576, R579). -/

theorem calRefLost_idle {h : Half} (cause : Nat) (hc : s.cal.at h = {}) : calRefLost cause h s = s := by
  simp only [calRefLost, calBlock, hc, List.filter_nil, List.foldl_nil, and_self, or_true, if_true]

theorem step3Ref_elsewhere {h : Half} (ok : Bool) (hs : (s.boot.half h).state ≠ hsSTARTING) : step3Ref h ok s = s :=
  if_neg (fun hc => hs hc.1)

/-- Holdover entered, with nothing to calibrate and no half in step 3. -/
def heldOver (s : State) : State :=
  raise pgTimebase 0 (timeMod (fun t => { t with holdFrom := s.clk, slew := 0 })
    (bump pgTimebase R.TIMEBASE_CNT_HOLDOVER (wr pgTimebase R.TB_STAT_HOLDOVER 1 (wr pgTimebase R.TB_STAT_REF_OK 0 s))))

theorem heldOver_only (s : State) : heldOver s = { s with
    regs := (heldOver s).regs, strikes := (heldOver s).strikes
    time := { s.time with holdFrom := s.clk, slew := 0 } } := by
  rw [heldOver, raise_only, bump_only]
  rfl

theorem refLost_heldOver (cause : Nat) (hr : rdB s pgTimebase R.TB_STAT_REF_OK = true) (hc : CalibrationIdle s) :
    refLost cause s = heldOver s := by
  obtain ⟨hcal, hw, he⟩ := hc
  have hcal' : ∀ h, (heldOver s).cal.at h = {} := fun h => by
    rw [heldOver_only, hcal]
    cases h <;> rfl
  have hb : (heldOver s).boot = s.boot := by rw [heldOver_only]
  have hx : refLost cause s = step3Ref .east false (step3Ref .west false
      (calRefLost cause .east (calRefLost cause .west (heldOver s)))) := if_neg (by simp [hr])
  rw [hx, calRefLost_idle _ (hcal' .west), calRefLost_idle _ (hcal' .east),
    step3Ref_elsewhere (h := .west) _ (by rw [hb]; exact hw), step3Ref_elsewhere (h := .east) _ (by rw [hb]; exact he)]

theorem refEdgeMissing_holdsOver (hq : quiet s = true) (hr : rdB s pgTimebase R.TB_STAT_REF_OK = true)
    (hc : CalibrationIdle s) :
    Ends .refEdgeMissing s (fun t => rdB t pgTimebase R.TB_STAT_REF_OK = false ∧
      rdB t pgTimebase R.TB_STAT_HOLDOVER = true ∧ t.time.slew = 0 ∧ t.time.holdFrom = s.clk ∧
      (rd t pgTimebase R.EVT_RAW).testBit 0 = true ∧
      t = { s with regs := t.regs, strikes := t.strikes, time := t.time }) := by
  have he : exec .refEdgeMissing s = done (settle (refLost 2 (timeMod (fun t => { t with gateBad := true }) s))) := rfl
  rw [refLost_heldOver (s := timeMod _ s) 2 hr hc] at he
  refine ends_settle he ?_ ⟨?_, ?_, ?_, ?_, evtRaw_raise_self _ _ (by decide), ?_⟩
  · rw [heldOver_only]
    exact (quiet_congr s _ rfl rfl rfl rfl rfl rfl rfl rfl).trans hq
  · rw [rdB, heldOver, rd_raise_off _ _ _ _ (by decide), rd_timeMod, bump, rd_bumpBy_off _ _ _ _ (by decide),
      rd_wr_place _ _ _ _ (by decide), rd_wr_self]
    rfl
  · rw [rdB, heldOver, rd_raise_off _ _ _ _ (by decide), rd_timeMod, bump, rd_bumpBy_off _ _ _ _ (by decide), rd_wr_self]
    rfl
  · rw [heldOver_only]
  · rw [heldOver_only]
    rfl
  · rw [heldOver_only]
    rfl

theorem holdoverMeasure_learns (ppb : Int) (hr : rdB s pgTimebase R.TB_STAT_REF_OK = true)
    (hh : rdB s pgTimebase R.TB_STAT_HOLDOVER = false) :
    Ends (.holdoverMeasure ppb) s (fun t => rdB t pgTimebase R.TB_HOLD_HOLD_VALID = true ∧
      rd t pgTimebase R.TB_HOLD_HOLD_PPB = signed32 ppb % 2 ^ R.TB_HOLD_HOLD_PPB.w ∧ t = { s with regs := t.regs } ∧
      RegsKept [(pgTimebase, R.TB_HOLD_HOLD_PPB.off)] s t) := by
  refine ends_done (congrArg done (if_pos (by rw [hr, hh]; rfl))) ⟨?_, ?_, rfl, ?_⟩
  · rw [rdB, rd_wr_self]
    rfl
  · rw [rd_wr_place _ _ _ _ (by decide), rd_wr_self]
  · exact (wr_kept pgTimebase R.TB_HOLD_HOLD_PPB _ s).trans (wr_kept pgTimebase R.TB_HOLD_HOLD_VALID _ _)

end

/-- Settles O22: a captured edge keeps what `PpsSeen` says through every judgement; the gates, holdover and TB_NOW by the
branch of their definitions that the hypotheses pick. -/
theorem referencesAreJudgedAsTheyArrive : Obligations.ReferencesAreJudgedAsTheyArrive := by
  unfold Obligations.ReferencesAreJudgedAsTheyArrive
  exact fun s => ⟨ppsEdge_captures, pps_disabled, ppsLost_stops, refGate_counts, refGate_clears,
    refEdgeMissing_holdsOver, holdoverMeasure_learns, fun _ => rfl⟩

end Sys2Proof.Machine
end

section
/-!
SUPPORT. LL_UNBIND while a message between units waits: the refusal is settled like any command (R211).
-/
namespace Sys2Proof.Machine

/-- A device whose West half runs and in which a light's message that it is IDLE has not been carried yet. -/
def untold : State := { State.reset with
  mail := [.lightIdle 0], boot := { State.reset.boot with west := { s3 := 2, state := hsRUNNING } } }

theorem pageLive_untold : pageLive untold (pgLight .west) = true := by decide

/-- An LL_UNBIND of the other half's light is refused, and the message that waited is carried in the same step. -/
theorem llUnbind_untold_mail : Ends (.llUnbind .west 8192 .pcie) untold (fun t => t.mail = []) :=
  ⟨_, rfl, by decide⟩

/-- Refutes O26: its last clause on LL_UNBIND, of a light that R211 does not let go, does not ask for a quiet device. In
`untold` the refusal of light 8,192 on the West half also carries the waiting message, so that the next state is not the
refusal alone. -/
theorem not_streamsBindingsAndPolicyAct : ¬ Obligations.StreamsBindingsAndPolicyAct := by
  unfold Obligations.StreamsBindingsAndPolicyAct
  rintro ⟨-, -, -, hunbind, -⟩
  obtain ⟨-, hrefused⟩ := hunbind untold .west 8192 .pcie pageLive_untold
  obtain ⟨t, ht, hkept⟩ := hrefused (.inl (by decide))
  obtain ⟨u, hu, hmail⟩ := llUnbind_untold_mail
  obtain rfl : t = u := Host.Outcome.next.inj (ht.symm.trans hu)
  rw [hkept, cfgReject_mail] at hmail
  exact absurd (show untold.mail = [] from hmail) (by decide)

end Sys2Proof.Machine
end

section
/-!
SUPPORT. Efficiency intervals and map lookups: what a result that is reported leaves, and when an interval is armed, starts
and stops (R255, R266, R267, R506).
-/
namespace Sys2Proof.Machine

/-! A result with its header word (R505, R506). -/

theorem pushResult_resultPushed {q kind n : Nat} {ws : List Nat} {s : State} (hr : resRoom s q n = true)
    (hn : ws.length ≤ n) : ResultPushed q kind ws s (pushResult q kind true ws s) := by
  have hroom := of_decide_eq_true hr
  have hfit : (tget {} s.results q).words.length + (ws.length :: ws).length ≤ 4096 := by
    rw [List.length_cons]
    omega
  rw [pushResult]
  simp only [if_true]
  rw [if_pos hfit]
  refine ⟨?_, fun p hp => ?_⟩
  · rw [raiseIf_results, tget_tput_self, List.length_cons]
  · rw [raiseIf_results, tget_tput_other _ _ _ _ _ hp]

section
variable {s : State} {h : Half}

/-! An efficiency result (R267). -/

theorem effPush_only (ws : List Nat) (u : State) : effPush h ws u = { u with
    regs := (effPush h ws u).regs, strikes := (effPush h ws u).strikes, results := (effPush h ws u).results } := by
  rw [effPush, raise_only, pushResult_only]

theorem effPush_kept (ws : List Nat) (u : State) :
    RegsKept (evtRegs (pgPlace h) ++ evtRegs (resPage (resOf h))) u (effPush h ws u) :=
  ((pushResult_kept (resOf h) 4 true ws u).mono fun _ hp => List.mem_append_right _ hp).raise_mem
    fun _ hp => List.mem_append_left _ hp

theorem effPush_raised (ws : List Nat) (u : State) :
    (rd (effPush h ws u) (pgPlace h) R.EVT_RAW).testBit 4 = true :=
  evtRaw_raise_self _ _ (by decide)

theorem effPush_resultPushed {ws : List Nat} {u : State} (hu : u.results = s.results) (hr : resRoom s (resOf h) 3 = true)
    (hw : ws.length = 3) : ResultPushed (resOf h) 4 ws s (effPush h ws u) := by
  have hroom : resRoom u (resOf h) 3 = true := by rw [resRoom, hu]; exact hr
  have hp := pushResult_resultPushed (kind := 4) hroom hw.le
  rw [ResultPushed, hu] at hp
  rw [ResultPushed, effPush, raise_results]
  exact hp

theorem rdB_effPush_ctrl (ws : List Nat) (u : State) (f : Fld) (hf : f.off = R.PL_EFF_CTRL_ARM.off) :
    rdB (effPush h ws u) (pgPlace h) f = rdB u (pgPlace h) f := by
  rw [rdB, (effPush_kept ws u).rd _ _ (by rw [hf]; simp [evtRegs, R.PL_EFF_CTRL_ARM, R.EVT_RAW, R.EVT_PEND]), rdB]

/-! ARM (R267). -/

/-- One more write of a field of PL_EFF_CTRL. -/
theorem RegsKept.effCtrl_wr {u : State} {f : Fld} {v : Nat} (hf : f.off = R.PL_EFF_CTRL_ARM.off)
    (hk : RegsKept [(pgPlace h, R.PL_EFF_CTRL_ARM.off)] s u) :
    RegsKept [(pgPlace h, R.PL_EFF_CTRL_ARM.off)] s (wr (pgPlace h) f v u) :=
  hk.wr_mem (by rw [hf]; exact List.mem_singleton_self _)

/-- No interval is armed and none runs. -/
def disarmed (h : Half) (s : State) : State :=
  wr (pgPlace h) R.PL_EFF_CTRL_RUNNING 0 (wr (pgPlace h) R.PL_EFF_CTRL_ARMED 0 s)

theorem rdB_disarmed_armed : rdB (disarmed h s) (pgPlace h) R.PL_EFF_CTRL_ARMED = false := by
  rw [rdB, disarmed, rd_wr_place _ _ _ _ (by decide), rd_wr_self]
  rfl

theorem rdB_disarmed_running : rdB (disarmed h s) (pgPlace h) R.PL_EFF_CTRL_RUNNING = false := by
  rw [rdB, disarmed, rd_wr_self]
  rfl

theorem disarmed_kept : RegsKept [(pgPlace h, R.PL_EFF_CTRL_ARM.off)] s (disarmed h s) :=
  .effCtrl_wr rfl (.effCtrl_wr rfl (.refl _ s))

theorem effArm_past (ht : rd s (pgPlace h) R.PL_EFF_STOP ≤ rd s (pgPlace h) R.PL_EFF_START ∨
    rd s (pgPlace h) R.PL_EFF_STOP < nowH s h) : effArm h s = effPush h [0, 0, 0] (disarmed h s) := if_pos ht

theorem effArm_ahead (hs : rd s (pgPlace h) R.PL_EFF_START < rd s (pgPlace h) R.PL_EFF_STOP)
    (hn : nowH s h ≤ rd s (pgPlace h) R.PL_EFF_STOP) :
    effArm h s = wr (pgPlace h) R.PL_EFF_CTRL_ARMED 1 (disarmed h s) := if_neg (by omega)

theorem exec_effArm (hl : pageLive s (pgPlace h) = true) :
    exec (.effArm h) s = .next (effArm h (unlatched (pgPlace h) s)) :=
  exec_onPage_live (f := effArm h) hl rfl

theorem effArm_reports (hl : pageLive s (pgPlace h) = true)
    (ht : rd s (pgPlace h) R.PL_EFF_STOP ≤ rd s (pgPlace h) R.PL_EFF_START ∨ rd s (pgPlace h) R.PL_EFF_STOP < nowH s h)
    (hr : resRoom s (resOf h) 3 = true) :
    Ends (.effArm h) s (fun t => ResultPushed (resOf h) 4 [0, 0, 0] s t ∧ rdB t (pgPlace h) R.PL_EFF_CTRL_ARMED = false ∧
      rdB t (pgPlace h) R.PL_EFF_CTRL_RUNNING = false ∧ (rd t (pgPlace h) R.EVT_RAW).testBit 4 = true ∧
      t = { s with regs := t.regs, strikes := t.strikes, results := t.results, woLatch := t.woLatch } ∧
      RegsKept ((pgPlace h, R.PL_EFF_CTRL_ARM.off) :: evtRegs (pgPlace h) ++ evtRegs (resPage (resOf h))) s t) := by
  refine ⟨effPush h [0, 0, 0] (disarmed h (unlatched (pgPlace h) s)), ?_, effPush_resultPushed rfl hr rfl, ?_, ?_,
    effPush_raised _ _, ?_, ?_⟩
  · rw [exec_effArm hl, effArm_past (s := unlatched (pgPlace h) s) ht]
  · rw [rdB_effPush_ctrl _ _ R.PL_EFF_CTRL_ARMED rfl, rdB_disarmed_armed]
  · rw [rdB_effPush_ctrl _ _ R.PL_EFF_CTRL_RUNNING rfl, rdB_disarmed_running]
  · rw [effPush_only]
    rfl
  · exact ((disarmed_kept (s := unlatched (pgPlace h) s)).mono (by simp)).trans
      ((effPush_kept _ _).mono (by simp only [List.mem_append, List.mem_cons]; tauto))

theorem effArm_arms (hl : pageLive s (pgPlace h) = true)
    (hs : rd s (pgPlace h) R.PL_EFF_START < rd s (pgPlace h) R.PL_EFF_STOP)
    (hn : nowH s h ≤ rd s (pgPlace h) R.PL_EFF_STOP) :
    Ends (.effArm h) s (fun t => rdB t (pgPlace h) R.PL_EFF_CTRL_ARMED = true ∧
      rdB t (pgPlace h) R.PL_EFF_CTRL_RUNNING = false ∧ t = { s with regs := t.regs, woLatch := t.woLatch } ∧
      RegsKept [(pgPlace h, R.PL_EFF_CTRL_ARM.off)] s t) := by
  refine ⟨wr (pgPlace h) R.PL_EFF_CTRL_ARMED 1 (disarmed h (unlatched (pgPlace h) s)), ?_, rdB_wr_bit rfl _ true _, ?_, rfl,
    .effCtrl_wr rfl (disarmed_kept (s := unlatched (pgPlace h) s))⟩
  · rw [exec_effArm hl, effArm_ahead (s := unlatched (pgPlace h) s) hs hn]
  · rw [rdB, rd_wr_place _ _ _ _ (by decide)]
    exact rdB_disarmed_running

/-! The start and the stop instant (R267). -/

theorem effStart_runs (ha : rdB s (pgPlace h) R.PL_EFF_CTRL_ARMED = true)
    (ht : rd s (pgPlace h) R.PL_EFF_START ≤ nowH s h) :
    Ends (.effStart h) s (fun t => rdB t (pgPlace h) R.PL_EFF_CTRL_RUNNING = true ∧
      rdB t (pgPlace h) R.PL_EFF_CTRL_ARMED = false ∧ (t.place.at h).thru = 0 ∧ (t.place.at h).limit = 0 ∧
      t = { s with regs := t.regs, place := t.place } ∧ t.place.at h.twin = s.place.at h.twin ∧
      RegsKept [(pgPlace h, R.PL_EFF_CTRL_ARM.off)] s t) := by
  have hkept : RegsKept [(pgPlace h, R.PL_EFF_CTRL_ARM.off)] s
      (wr (pgPlace h) R.PL_EFF_CTRL_RUNNING 1 (wr (pgPlace h) R.PL_EFF_CTRL_ARMED 0 s)) :=
    .effCtrl_wr rfl (.effCtrl_wr rfl (.refl _ s))
  refine ends_done (t := plMod h (fun x => { x with thru := 0, limit := 0 })
    (wr (pgPlace h) R.PL_EFF_CTRL_RUNNING 1 (wr (pgPlace h) R.PL_EFF_CTRL_ARMED 0 s)))
    (congrArg done (if_pos ⟨ha, ht⟩)) ⟨rdB_wr_bit rfl _ true _, ?_, ?_, ?_, rfl, PerHalf.at_put_twin _ _ _, hkept⟩
  · show rdB (wr (pgPlace h) R.PL_EFF_CTRL_RUNNING 1 (wr (pgPlace h) R.PL_EFF_CTRL_ARMED 0 s)) (pgPlace h)
      R.PL_EFF_CTRL_ARMED = false
    rw [rdB, rd_wr_place _ _ _ _ (by decide)]
    exact rdB_wr_bit rfl _ false _
  · exact congrArg PlaceHalf.thru (PerHalf.at_put_self _ _ _)
  · exact congrArg PlaceHalf.limit (PerHalf.at_put_self _ _ _)

theorem effStart_idle (hn : rdB s (pgPlace h) R.PL_EFF_CTRL_ARMED = false ∨ nowH s h < rd s (pgPlace h) R.PL_EFF_START) :
    exec (.effStart h) s = .next s := by
  refine congrArg done (if_neg ?_)
  rintro ⟨ha, ht⟩
  rcases hn with hn | hn
  · simp [hn] at ha
  · omega

theorem effStop_reports (ha : rdB s (pgPlace h) R.PL_EFF_CTRL_RUNNING = true)
    (ht : rd s (pgPlace h) R.PL_EFF_STOP ≤ nowH s h) (hr : resRoom s (resOf h) 3 = true) :
    Ends (.effStop h) s (fun t => ResultPushed (resOf h) 4 [(s.place.at h).thru,
        (openDiv (s.place.at h).limit.num (s.place.at h).limit.den).toNat,
        rd s (pgPlace h) R.PL_EFF_STOP - rd s (pgPlace h) R.PL_EFF_START] s t ∧
      rdB t (pgPlace h) R.PL_EFF_CTRL_RUNNING = false ∧ (rd t (pgPlace h) R.EVT_RAW).testBit 4 = true ∧
      t = { s with regs := t.regs, strikes := t.strikes, results := t.results } ∧
      RegsKept ((pgPlace h, R.PL_EFF_CTRL_ARM.off) :: evtRegs (pgPlace h) ++ evtRegs (resPage (resOf h))) s t) := by
  refine ends_done (congrArg done (if_pos ⟨ha, ht⟩))
    ⟨effPush_resultPushed rfl hr rfl, ?_, effPush_raised _ _, ?_, ?_⟩
  · rw [rdB_effPush_ctrl _ _ R.PL_EFF_CTRL_RUNNING rfl]
    exact rdB_wr_bit rfl _ false _
  · rw [effPush_only]
    rfl
  · have hw : RegsKept [(pgPlace h, R.PL_EFF_CTRL_ARM.off)] s (wr (pgPlace h) R.PL_EFF_CTRL_RUNNING 0 s) :=
      .effCtrl_wr rfl (.refl _ s)
    exact (hw.mono (by simp)).trans
      ((effPush_kept _ _).mono (by simp only [List.mem_append, List.mem_cons]; tauto))

theorem effStop_idle (hn : rdB s (pgPlace h) R.PL_EFF_CTRL_RUNNING = false ∨ nowH s h < rd s (pgPlace h) R.PL_EFF_STOP) :
    exec (.effStop h) s = .next s := by
  refine congrArg done (if_neg ?_)
  rintro ⟨ha, ht⟩
  rcases hn with hn | hn
  · simp [hn] at ha
  · omega

/-! A lookup (R255). -/

/-- The members of stripe `num` of the object in PL_LOOKUP_OBJ that the map of a half holds. -/
def looked (s : State) (h : Half) (num : Nat) : List MapEnt :=
  (s.place.at h).map.filter (fun e => e.obj == rd s (pgPlace h) R.PL_LOOKUP_OBJ_OBJ_ID && e.stripe == num)

/-- A word for each of the first `n` members that `es` holds. -/
def lookupWords (n : Nat) (es : List MapEnt) : List Nat :=
  (List.range n).filterMap (fun m => (es.find? (fun e => e.member == m)).map lookupWord)

theorem lookupWords_length_le (n : Nat) (es : List MapEnt) : (lookupWords n es).length ≤ n :=
  (List.length_filterMap_le _ _).trans List.length_range.le

theorem plLookupStripe_pushes (v : BitVec 64) {es : List MapEnt} (hl : pageLive s (pgPlace h) = true)
    (hes : es = looked s h (v.toNat % 2 ^ 36))
    (hr : resRoom s (resOf h) ((es.map (fun e => e.k + e.m)).headD 0) = true) :
    Ends (.plLookupStripe h v) s (fun t =>
      ResultPushed (resOf h) 3 (lookupWords ((es.map (fun e => e.k + e.m)).headD 0) es) s t ∧
      t = { s with regs := t.regs, strikes := t.strikes, results := t.results, woLatch := t.woLatch } ∧
      RegsKept (evtRegs (resPage (resOf h))) s t) := by
  subst hes
  refine ⟨_, exec_onPage_live (f := fun s => lookup h (v.toNat % 2 ^ 36) s) hl rfl,
    pushResult_resultPushed (s := unlatched (pgPlace h) s) hr (lookupWords_length_le _ _), ?_,
    pushResult_kept (s := unlatched (pgPlace h) s) _ _ _ _⟩
  rw [lookup, pushResult_only]
  rfl

end

/-- Settles O27: each branch of ARM and of the two instants has its lemma, and a lookup pushes at most K + M words. -/
theorem efficiencyAndLookupReport : Obligations.EfficiencyAndLookupReport := by
  unfold Obligations.EfficiencyAndLookupReport
  exact fun s h => ⟨effArm_reports, effArm_arms, effStart_runs, effStart_idle, effStop_reports, effStop_idle,
    fun v _ => plLookupStripe_pushes v⟩

end Sys2Proof.Machine
end

section
/-!
SUPPORT. Stripes that wait or stall are tried again, and the units' spin-up and spin-down (R242, R247, R249, R389).
-/
namespace Sys2Proof.Machine

section
variable {s : State} {h : Half}

/-! NO_STRIPE_RETRY (R242). -/

theorem retryStripes_none
    (hn : s.objs.stripes.all (fun x => !(decide (x.home = h) && x.noStripe && !x.stalled)) = true) :
    retryStripes h s = s := by
  have hf : s.objs.stripes.filter (fun x => decide (x.home = h) && x.noStripe && !x.stalled) = [] :=
    List.filter_eq_nil_iff.mpr fun x hx => Bool.eq_false_iff.mp ((Bool.not_eq_true' _).mp (List.all_eq_true.mp hn x hx))
  rw [retryStripes, hf]
  rfl

theorem retryStripes_one {x : Stripe}
    (hx : s.objs.stripes.filter (fun y => decide (y.home = h) && y.noStripe && !y.stalled) = [x]) :
    retryStripes h s = placeWaiting x.id (stripeChoose x.id s) := by
  rw [retryStripes, hx]
  rfl

theorem noStripeRetry_idle (hq : quiet s = true)
    (hn : s.objs.stripes.all (fun x => !(decide (x.home = h) && x.noStripe && !x.stalled)) = true) :
    exec (.noStripeRetry h) s = .next s :=
  exec_settled (congrArg (fun t => done (settle t)) (retryStripes_none hn)) hq

theorem noStripeRetry_tries {x : Stripe}
    (hx : s.objs.stripes.filter (fun y => decide (y.home = h) && y.noStripe && !y.stalled) = [x]) :
    exec (.noStripeRetry h) s = .next (settle (placeWaiting x.id (stripeChoose x.id s))) :=
  congrArg (fun t => done (settle t)) (retryStripes_one hx)

/-! STALL_RETRY (R249, R389). -/

/-- The owed lost ranges of stripe `x` that the list has room for. -/
def owedNow (x : Stripe) (p : PlaceHalf) : List LostRange := (p.lostOwed.filter (owedIn x)).take (65536 - p.lost.length)

/-- The lists of lost ranges after the owed ones that have room have moved. -/
theorem owedMove_lists (x : Stripe) (s : State) :
    ((owedMove x s).place.at x.home).lost = (s.place.at x.home).lost ++ owedNow x (s.place.at x.home) ∧
    ((owedMove x s).place.at x.home).lostOwed =
      (s.place.at x.home).lostOwed.filter (fun r => !(owedNow x (s.place.at x.home)).contains r) :=
  ⟨congrArg PlaceHalf.lost (PerHalf.at_put_self _ _ _), congrArg PlaceHalf.lostOwed (PerHalf.at_put_self _ _ _)⟩

theorem owedNow_of_room {x : Stripe} {p : PlaceHalf} (hroom : p.lost.length + p.lostOwed.length ≤ 65536) :
    owedNow x p = p.lostOwed.filter (owedIn x) := by
  have hlen := List.length_filter_le (owedIn x) p.lostOwed
  exact List.take_of_length_le (by omega)

theorem owedMove_loses_none {x : Stripe} {r : LostRange}
    (hr : r ∈ (s.place.at x.home).lost ∨ r ∈ (s.place.at x.home).lostOwed) :
    r ∈ ((owedMove x s).place.at x.home).lost ∨ r ∈ ((owedMove x s).place.at x.home).lostOwed := by
  rw [(owedMove_lists x s).1, (owedMove_lists x s).2]
  by_cases hn : r ∈ owedNow x (s.place.at x.home)
  · exact .inl (List.mem_append_right _ hn)
  · rcases hr with hr | hr
    · exact .inl (List.mem_append_left _ hr)
    · exact .inr (List.mem_filter.mpr ⟨hr, by simpa using hn⟩)

theorem owedMove_bounded (x : Stripe) : ((owedMove x s).place.at x.home).lost.length ≤
    max 65536 (s.place.at x.home).lost.length := by
  rw [(owedMove_lists x s).1, List.length_append, owedNow, List.length_take]
  omega

theorem owedMove_frees {x : Stripe}
    (hroom : (s.place.at x.home).lost.length + (s.place.at x.home).lostOwed.length ≤ 65536) :
    ((owedMove x s).place.at x.home).lostOwed.any (owedIn x) = false := by
  rw [(owedMove_lists x s).2, owedNow_of_room hroom, List.any_eq_false]
  intro r hr hin
  obtain ⟨hmem, hnot⟩ := List.mem_filter.mp hr
  have hnow : r ∈ (s.place.at x.home).lostOwed.filter (owedIn x) := List.mem_filter.mpr ⟨hmem, hin⟩
  simp [hnow] at hnot

theorem stallRetry_stalled {id : Nat} {x : Stripe} (hx : stpGet s id = some x) (hst : isStalled s x = true) :
    stallRetry id s = stripeEnd id (placeWaiting id (stripeChoose id (owedMove x s))) := by
  rw [stallRetry, hx]
  exact if_pos hst

theorem stallRetry_other {id : Nat} {x : Stripe} (hx : stpGet s id = some x) (hst : isStalled s x = false) :
    stallRetry id s = s := by
  rw [stallRetry, hx]
  exact if_neg (by simp [hst])

theorem stallRetry_idle {id : Nat} {x : Stripe} (hx : stpGet s id = some x) (hq : quiet s = true)
    (hst : isStalled s x = false) : exec (.stallRetry id) s = .next s :=
  exec_settled (congrArg (fun t => done (settle t)) (stallRetry_other hx hst)) hq

theorem stallRetry_tries {id : Nat} {x : Stripe} (hx : stpGet s id = some x) (hst : isStalled s x = true) :
    exec (.stallRetry id) s =
      .next (settle (stripeEnd id (placeWaiting id (stripeChoose id (owedMove x s))))) :=
  congrArg (fun t => done (settle t)) (stallRetry_stalled hx hst)

/-! A counted command to a unit (R122, R247). -/

theorem plainCmd_only (l op blk : Nat) (s : State) : plainCmd l op blk s = { s with
    sched := (plainCmd l op blk s).sched, apu := (plainCmd l op blk s).apu } := by
  unfold plainCmd unitCmd pushTxns vtagUse
  rfl

theorem rd_plainCmd (l op blk : Nat) (s : State) (P : Nat) (g : Fld) : rd (plainCmd l op blk s) P g = rd s P g := by
  rw [plainCmd_only]
  rfl

/-- A command without data sent to the unit of light `l` and counted in `f`. -/
def countedCmd (l op : Nat) (f : Fld) (s : State) : State := bump (pgPlace (lHalf l)) f (plainCmd l op 0 s)

theorem countedCmd_only (l op : Nat) (f : Fld) (s : State) : countedCmd l op f s = { s with
    regs := (countedCmd l op f s).regs, sched := (countedCmd l op f s).sched, apu := (countedCmd l op f s).apu } := by
  have hcmd := plainCmd_only l op 0 s
  rw [countedCmd]
  generalize plainCmd l op 0 s = u at hcmd
  rw [bump_only]
  generalize (bump _ f u).regs = r
  rw [hcmd]

theorem countedCmd_kept (l op : Nat) (f : Fld) (s : State) :
    RegsKept [(pgPlace (lHalf l), f.off)] s (countedCmd l op f s) := by
  have hcmd : RegsKept [(pgPlace (lHalf l), f.off)] s (plainCmd l op 0 s) := .of_eq (by rw [plainCmd_only])
  exact hcmd.bump_mem (List.mem_singleton_self _)

theorem countedCmd_counts (l op : Nat) (f : Fld) (s : State) : rd (countedCmd l op f s) (pgPlace (lHalf l)) f =
    rd (bump (pgPlace (lHalf l)) f s) (pgPlace (lHalf l)) f := 
  rd_bump_congr (rd_plainCmd _ _ _ _ _ _) (rd_plainCmd _ _ _ _ _ _)

theorem plainCmd_pending (l op blk : Nat) (s : State) : spinPending (plainCmd l op blk s) l op = true := by
  have hcmds : ((plainCmd l op blk s).sched.at (lHalf l)).cmds =
      ((vtagUse (lHalf l) s).sched.at (lHalf l)).cmds ++ [⟨l, op, vtagOf s (lHalf l), none, s.clk⟩] :=
    congrArg Sched.cmds (PerHalf.at_put_self _ _ _)
  rw [spinPending, hcmds]
  simp

theorem countedCmd_pending (l op : Nat) (f : Fld) (s : State) : spinPending (countedCmd l op f s) l op = true := by
  rw [spinPending, countedCmd, bump_sched]
  exact plainCmd_pending l op 0 s

theorem quiet_plainCmd (hq : quiet s = true) (l op blk : Nat) : quiet (plainCmd l op blk s) = true := by
  have hu : quiet (vtagUse (lHalf l) s) = true := by rw [vtagUse, quiet_schMod _ rfl, hq]
  exact quiet_apuMod ((quiet_schMod (s := vtagUse (lHalf l) s) _ rfl).trans hu) _ rfl

theorem quiet_bump (P : Nat) (f : Fld) (s : State) : quiet (bump P f s) = quiet s :=
  quiet_of_frame (by rw [bump_only])

theorem quiet_countedCmd (hq : quiet s = true) (l op : Nat) (f : Fld) : quiet (countedCmd l op f s) = true := by
  rw [countedCmd, quiet_bump, quiet_plainCmd hq]

theorem quiet_plMod (f : PlaceHalf → PlaceHalf) (s : State) : quiet (plMod h f s) = quiet s :=
  quiet_congr _ _ rfl rfl rfl rfl rfl rfl rfl rfl

/-! SPIN_UP_ISSUE (R247). -/

/-- Whether a wait on a spin-up limit of the half has been told. -/
def limitTold (b : Bool) (p : PlaceHalf) : PlaceHalf := { p with spinLimit := b }

theorem spinLimit_plMod (b : Bool) (s : State) : ((plMod h (limitTold b) s).place.at h).spinLimit = b :=
  congrArg PlaceHalf.spinLimit (PerHalf.at_put_self _ _ _)

theorem spinTry_allowed {g l : Nat} (ha : spinAllowed s g l = true) :
    spinTry h g l s = plMod h (limitTold false) (countedCmd l 3 R.PLACE_CNT_SPINUP s) := if_pos ha

theorem spinTry_limited {g l : Nat} (ha : spinAllowed s g l = false) : spinTry h g l s =
    raiseIf (!(s.place.at h).spinLimit) (pgPlace h) 3 (plMod h (limitTold true) s) := if_neg (by simp [ha])

theorem exec_spinUpIssue {g l : Nat} (hw : SpinWanted s h g l) :
    exec (.spinUpIssue h g) s = done (settle (spinTry h g l s)) := by
  obtain ⟨hwait, hspin, hen, hchoice⟩ := hw
  have hissue : spinForStripe h g s = spinTry h g l s := by
    rw [spinForStripe, if_pos ⟨hspin, hen⟩]
    simp only [hchoice]
  exact congrArg (fun t => done (settle t)) ((if_pos hwait).trans hissue)

theorem spinUpIssue_sends {g l : Nat} (hq : quiet s = true) (hw : SpinWanted s h g l) (ha : spinAllowed s g l = true) :
    Ends (.spinUpIssue h g) s (fun t => spinPending t l 3 = true ∧
      rd t (pgPlace (lHalf l)) R.PLACE_CNT_SPINUP =
        rd (bump (pgPlace (lHalf l)) R.PLACE_CNT_SPINUP s) (pgPlace (lHalf l)) R.PLACE_CNT_SPINUP ∧
      (t.place.at h).spinLimit = false ∧
      t = { s with regs := t.regs, sched := t.sched, apu := t.apu, place := t.place } ∧
      RegsKept [(pgPlace (lHalf l), R.PLACE_CNT_SPINUP.off)] s t) := by
  have hexec := exec_spinUpIssue hw
  rw [spinTry_allowed ha] at hexec
  refine ends_settle hexec ((quiet_plMod _ _).trans (quiet_countedCmd hq _ _ _))
    ⟨countedCmd_pending _ _ _ _, countedCmd_counts _ _ _ _, spinLimit_plMod _ _, ?_, countedCmd_kept _ _ _ _⟩
  rw [countedCmd_only]
  rfl

theorem spinUpIssue_limited {g l : Nat} (hq : quiet s = true) (hw : SpinWanted s h g l)
    (ha : spinAllowed s g l = false) :
    Ends (.spinUpIssue h g) s (fun t => (t.place.at h).spinLimit = true ∧
      ((s.place.at h).spinLimit = false → (rd t (pgPlace h) R.EVT_RAW).testBit 3 = true) ∧
      ((s.place.at h).spinLimit = true → t.strikes = s.strikes) ∧
      t = { s with regs := t.regs, strikes := t.strikes, place := t.place } ∧ RegsKept (evtRegs (pgPlace h)) s t) := by
  have hexec := exec_spinUpIssue hw
  rw [spinTry_limited ha] at hexec
  refine ends_settle hexec ?_ ⟨?_, fun hl => ?_, fun hl => ?_, ?_, raiseIf_kept _ _ _ (plMod h (limitTold true) s)⟩
  · rw [quiet_of_frame (by rw [raiseIf_only]), quiet_plMod, hq]
  · rw [raiseIf_place, spinLimit_plMod]
  · rw [hl]
    exact evtRaw_raise_self _ _ (by decide)
  · rw [hl]
    rfl
  · rw [raiseIf_only]
    rfl

/-! SPIN_DOWN_IDLE (R247). -/

theorem spinDownIdle_sends {l : Nat} (hs : SpareIdle s l) :
    spinDownIdle l s = countedCmd l 4 R.PLACE_CNT_SPINDOWN s := by
  obtain ⟨hdisc, hspin, hen, hlit, hfree, hnone, hroom, hspare⟩ := hs
  exact if_pos (by simp only [hdisc, hspin, hen, hlit, hfree, hnone, hroom]; simpa using hspare)

theorem spinDownIdle_unmanaged {l : Nat} (hs : grpSpin s (lHalf l) (lightGroup s l) = false) : spinDownIdle l s = s :=
  if_neg (by simp [hs])

theorem spinDownIdle_counts {l : Nat} (hq : quiet s = true) (hs : SpareIdle s l) :
    Ends (.spinDownIdle l) s (fun t => spinPending t l 4 = true ∧
      rd t (pgPlace (lHalf l)) R.PLACE_CNT_SPINDOWN =
        rd (bump (pgPlace (lHalf l)) R.PLACE_CNT_SPINDOWN s) (pgPlace (lHalf l)) R.PLACE_CNT_SPINDOWN ∧
      t = { s with regs := t.regs, sched := t.sched, apu := t.apu } ∧
      RegsKept [(pgPlace (lHalf l), R.PLACE_CNT_SPINDOWN.off)] s t) :=
  ends_settle (congrArg (fun t => done (settle t)) (spinDownIdle_sends hs)) (quiet_countedCmd hq _ _ _)
    ⟨countedCmd_pending _ _ _ _, countedCmd_counts _ _ _ _, countedCmd_only _ _ _ _, countedCmd_kept _ _ _ _⟩

theorem spinDownIdle_leaves {l : Nat} (hq : quiet s = true) (hs : grpSpin s (lHalf l) (lightGroup s l) = false) :
    exec (.spinDownIdle l) s = .next s :=
  exec_settled (congrArg (fun t => done (settle t)) (spinDownIdle_unmanaged hs)) hq

end

/-- Settles O25: a retry goes on to the choice and the placement of its stripe, the owed ranges move by `owedMove`, and
both spins are one counted command. -/
theorem waitingWorkIsTriedAgain : Obligations.WaitingWorkIsTriedAgain := by
  unfold Obligations.WaitingWorkIsTriedAgain
  refine ⟨fun s h => ⟨noStripeRetry_idle, fun x => noStripeRetry_tries⟩, fun s id x hx =>
    ⟨stallRetry_idle hx, fun hst => ?_⟩, fun s h g l hq hw => ⟨spinUpIssue_sends hq hw, spinUpIssue_limited hq hw⟩,
    fun s l hq => ⟨spinDownIdle_counts hq, spinDownIdle_leaves hq⟩⟩
  exact ⟨owedMove x s, stallRetry_tries hx hst, fun r => owedMove_loses_none, owedMove_bounded x,
    (owedMove_lists x s).1 ▸ List.prefix_append _ _, owedMove_frees, rfl, PerHalf.at_put_twin _ _ _⟩

end Sys2Proof.Machine
end

section
/-!
SUPPORT. The choice of a stripe's members: K + M eligible lights, no domain twice (R242, R243, R245).
-/
namespace Sys2Proof.Machine

theorem bestBy_mem {α : Type} {lt : α → α → Bool} {l : List α} {x : α} (h : bestBy lt l = some x) : x ∈ l := by
  induction l generalizing x with
  | nil => simp [bestBy] at h
  | cons a r ih =>
    rw [bestBy] at h
    cases hr : bestBy lt r with
    | none => simp_all
    | some y =>
      have hy := ih hr
      simp only [hr] at h
      split at h <;> simp_all

theorem mem_of_mem_ite_filter {α : Type} {p : Prop} [Decidable p] {q : α → Bool} {l : List α} {x : α}
    (h : x ∈ if p then l.filter q else l) : x ∈ l := by
  split at h
  · exact List.mem_of_mem_filter h
  · exact h

/-- The level-`lv` domains of the lights of some candidates. -/
def candDomains (s : State) (lv : Nat) (cs : List Cand) : List Nat := cs.map (fun c => domain s lv c.light)

theorem pickMember_mem {s : State} {home : Half} {ps : ParamSet} {lv : Nat} {taken : List Nat} {cs : List Cand} {c : Cand}
    (h : pickMember s home ps lv taken cs = some c) : c ∈ cs ∧ domain s lv c.light ∉ taken.map (domain s lv) := by
  have hfree : c ∈ cs.filter (fun x => !(taken.map (domain s lv)).contains (domain s lv x.light)) := by
    unfold pickMember at h
    dsimp only at h
    generalize cs.filter (fun x => !(taken.map (domain s lv)).contains (domain s lv x.light)) = free at h ⊢
    split at h
    · simp at h
    · exact mem_of_mem_ite_filter (List.mem_of_mem_filter (bestBy_mem h))
  obtain ⟨hc, hd⟩ := List.mem_filter.mp hfree
  exact ⟨hc, by simpa using hd⟩

/-- What the picks of R245 give: as many as asked for, of the candidates, in domains that neither an earlier pick nor a
taken light has. -/
theorem pickAll_spec {s : State} {home : Half} {ps : ParamSet} {lv n : Nat} {cs r : List Cand} {taken : List Nat}
    (h : pickAll s home ps lv cs n taken = some r) : r.length = n ∧ (∀ c ∈ r, c ∈ cs) ∧ (candDomains s lv r).Nodup ∧
      ∀ c ∈ r, domain s lv c.light ∉ taken.map (domain s lv) := by
  induction n generalizing cs r taken with
  | zero =>
    obtain rfl : [] = r := Option.some.inj h
    simp [candDomains]
  | succ n ih =>
    rw [pickAll] at h
    cases hp : pickMember s home ps lv taken cs with
    | none => simp [hp] at h
    | some c =>
      simp only [hp, Option.map_eq_some_iff] at h
      obtain ⟨q, hq, rfl⟩ := h
      obtain ⟨hc, hfresh⟩ := pickMember_mem hp
      obtain ⟨hlen, hmem, hnodup, hnot⟩ := ih hq
      have hsep : ∀ d ∈ q, domain s lv d.light ≠ domain s lv c.light ∧ domain s lv d.light ∉ taken.map (domain s lv) :=
        fun d hd => by
          have hd' := hnot d hd
          rw [List.map_append, List.mem_append, not_or] at hd'
          exact ⟨fun e => hd'.2 (by simp [e]), hd'.1⟩
      refine ⟨by rw [List.length_cons, hlen], ?_, ?_, ?_⟩
      · rintro d (_ | ⟨_, hd⟩)
        · exact hc
        · exact List.mem_of_mem_filter (hmem d hd)
      · refine List.nodup_cons.mpr ⟨fun hin => ?_, hnodup⟩
        obtain ⟨d, hd, he⟩ := List.mem_map.mp hin
        exact (hsep d hd).1 he
      · rintro d (_ | ⟨_, hd⟩)
        · exact hfresh
        · exact (hsep d hd).2

theorem candidates_eligible {s : State} {home : Half} {g n : Nat} {used : List Nat} {c : Cand}
    (h : c ∈ candidates s home g n used) : lightEligible s home g c.light = true := by
  obtain ⟨l, -, hl⟩ := List.mem_filterMap.mp h
  split at hl
  · rename_i he
    obtain ⟨r, -, rfl⟩ := Option.map_eq_some_iff.mp hl
    exact (Bool.and_eq_true_iff.mp he).1
  · simp at hl

/-- A choice is one of `pickAll` at a level that DOMAIN_MIN allows. -/
theorem chooseStripe_some {s : State} {h : Half} {g k m n : Nat} {cs : List Cand}
    (hc : chooseStripe s h g k m n = some cs) : ∃ lv, grpF s h g R.PLG_GRP_VIEW_0_DOMAIN_MIN ≤ lv ∧
      pickAll s h (grpSet s h g) lv (candidates s h g n []) (k + m) [] = some cs := by
  unfold chooseStripe at hc
  dsimp only at hc
  split at hc
  · rename_i lv _
    by_cases hlv : grpF s h g R.PLG_GRP_VIEW_0_DOMAIN_MIN ≤ lv
    · exact ⟨lv, hlv, by rwa [if_pos hlv] at hc⟩
    · simp [hlv] at hc
  · simp at hc

theorem chooseStripe_distinct {s : State} {h : Half} {g k m n : Nat} {cs : List Cand}
    (hc : chooseStripe s h g k m n = some cs) :
    cs.length = k + m ∧ (cs.map (·.light)).Nodup ∧ (∀ c ∈ cs, lightEligible s h g c.light = true) ∧
      ∃ lv, grpF s h g R.PLG_GRP_VIEW_0_DOMAIN_MIN ≤ lv ∧ (cs.map (fun c => domain s lv c.light)).Nodup := by
  obtain ⟨lv, hlv, hp⟩ := chooseStripe_some hc
  obtain ⟨hlen, hmem, hdom, -⟩ := pickAll_spec hp
  have hlights : ((cs.map (·.light)).map (domain s lv)).Nodup := by rw [List.map_map]; exact hdom
  exact ⟨hlen, hlights.of_map, fun c h => candidates_eligible (hmem c h), lv, hlv, hdom⟩

end Sys2Proof.Machine
end

section
/-!
SUPPORT. STRIPE_CHOOSE: what its steps leave of the stripe records, and the members on their lights (R245, R246, R374).
-/
namespace Sys2Proof.Machine

/-! Stripe records (R285). -/

theorem stpGet_id {s : State} {id : Nat} {x : Stripe} (h : stpGet s id = some x) : x.id = id := by
  simpa using List.find?_some h

theorem stpGet_congr {s t : State} (h : t.objs.stripes = s.objs.stripes) (id : Nat) : stpGet t id = stpGet s id := by
  rw [stpGet, stpGet, h]

theorem stpGet_stpMod {s : State} {id : Nat} {x : Stripe} {f : Stripe → Stripe} (hf : ∀ y, (f y).id = y.id)
    (h : stpGet s id = some x) : stpGet (stpMod id f s) id = some (f x) := by
  have hpred : ((fun y : Stripe => y.id == id) ∘ fun y => if y.id = id then f y else y) = fun y => y.id == id := by
    funext y
    by_cases hy : y.id = id <;> simp [hy, hf]
  show List.find? _ (s.objs.stripes.map _) = _
  rw [List.find?_map, hpred, show s.objs.stripes.find? (fun y => y.id == id) = some x from h, Option.map_some,
    if_pos (stpGet_id h)]

theorem smMod_members {x : Stripe} {a b : List SMember} {z : SMember} (f : SMember → SMember)
    (h : x.members = a ++ z :: b) : (smMod a.length f x).members = a ++ f z :: b := by
  have ha : a.mapIdx (fun i y => if i = a.length then f y else y) = a :=
    List.ext_getElem (by simp) fun i h1 h2 => by simp [Nat.ne_of_lt h2]
  have hb : b.mapIdx (fun _ y => y) = b := List.ext_getElem (by simp) (by simp)
  simp [smMod, h, List.mapIdx_append, List.mapIdx_cons, ha, hb]

/-! What leaves the objects' records alone. -/

@[simp] theorem plPut_objs (l : Nat) (f : Fld) (v : Nat) (s : State) : (plPut l f v s).objs = s.objs := wrI_objs _ _ _ _ _

@[simp] theorem freeAdd_objs (l : Nat) (d : Int) (s : State) : (freeAdd l d s).objs = s.objs := plPut_objs _ _ _ _

@[simp] theorem setBusy_objs (l n : Nat) (t : Int) (s : State) : (setBusy l n t s).objs = s.objs := plPut_objs _ _ _ _

@[simp] theorem strMod_objs (h : Half) (i : Nat) (f : Stream → Stream) (s : State) : (strMod h i f s).objs = s.objs :=
  schMod_objs _ _ _

@[simp] theorem schAdmit_objs (h : Half) (e : Event) (s : State) : (schAdmit h e s).objs = s.objs := by
  rw [schAdmit, lgtMod_objs, wr_objs, schMod_objs]

@[simp] theorem schInsert_objs (e : Event) (s : State) : (schInsert e s).objs = s.objs := by
  unfold schInsert
  dsimp only
  split
  · exact post_objs _ _
  · split
    · exact schAdmit_objs _ _ _
    · rw [raiseIf_objs, schMod_objs]

@[simp] theorem ezStore_objs (a : Nat) (bs : List Byte) (s : State) : (ezStore a bs s).objs = s.objs := by
  rw [ezStore_only]

theorem foldl_objs {α : Type} {f : State → α → State} (hf : ∀ t a, (f t a).objs = t.objs) (l : List α) (s : State) :
    (l.foldl f s).objs = s.objs := by
  induction l generalizing s with
  | nil => rfl
  | cons a r ih => exact (ih (f s a)).trans (hf s a)

theorem takePages_objs {h : Half} {n : Nat} {s u : State} {pgs : List Nat} (ht : takePages h n s = some (pgs, u)) :
    u.objs = s.objs := by
  induction n generalizing s pgs with
  | zero => simp_all [takePages]
  | succ n ih =>
    rw [takePages] at ht
    split at ht
    · simp at ht
    · obtain ⟨⟨q, v⟩, hq, hv⟩ := Option.map_eq_some_iff.mp ht
      obtain ⟨-, rfl⟩ := Prod.mk.inj hv
      exact (ih hq).trans rfl

/-! A member goes to its light (R246, R259). -/

/-- A member in flight to the run of candidate `c`, chosen at `stamp`. -/
def flown (c : Cand) (stamp : Nat) (y : SMember) : SMember :=
  { y with light := c.light, track := c.run.track, slot := c.run.slot, st := .flying, stamp := stamp, blks := [] }

theorem placeMember_objs {id m : Nat} {c : Cand} {s : State} {x : Stripe} (hx : stpGet s id = some x) :
    (placeMember id m c s).objs = (stpMod id (smMod m (flown c (nowH s x.home))) s).objs := by
  rw [placeMember, hx]
  dsimp only
  split
  · simp only [schInsert_objs, setBusy_objs, plPut_objs, freeAdd_objs]
    rfl
  · split
    · rfl
    · rw [foldl_objs fun t j => strMod_objs _ _ _ t, freeAdd_objs]
      rfl

theorem placeMember_stripe {id m : Nat} {c : Cand} {s : State} {x : Stripe} (hx : stpGet s id = some x) :
    stpGet (placeMember id m c s) id = some (smMod m (flown c (nowH s x.home)) x) := by
  rw [stpGet_congr (congrArg Objects.stripes (placeMember_objs hx))]
  exact stpGet_stpMod (fun _ => rfl) hx

/-- The stripe `y` is `x` with members on the lights `ls`, all in flight. -/
structure Placed (ls : List Nat) (x y : Stripe) : Prop where
  st : y.st = x.st
  parity : y.parity = x.parity
  own : y.own = x.own
  lights : y.members.map (·.light) = ls
  flying : ∀ z ∈ y.members, z.st = .flying

/-- Candidates placed in order: the members before them stay, and each goes to its light. -/
theorem placeAll_placed {id : Nat} {cs : List Cand} {s : State} {x : Stripe} {a b : List SMember}
    (hx : stpGet s id = some x) (hm : x.members = a ++ b) (hlen : b.length = cs.length) (ha : ∀ z ∈ a, z.st = .flying) :
    ∃ y, stpGet ((cs.zipIdx a.length).foldl (fun t c => placeMember id c.2 c.1 t) s) id = some y ∧
      Placed (a.map (·.light) ++ cs.map (·.light)) x y := by
  induction cs generalizing s x a b with
  | nil =>
    obtain rfl := List.length_eq_zero_iff.mp hlen
    rw [List.append_nil] at hm
    exact ⟨x, hx, rfl, rfl, rfl, by simp [hm], by rwa [hm]⟩
  | cons c cs ih =>
    cases b with
    | nil => simp at hlen
    | cons z b =>
      have hgo := placeMember_stripe (m := a.length) (c := c) hx
      have hmem := smMod_members (flown c (nowH s x.home)) hm
      have hsplit : a ++ flown c (nowH s x.home) z :: b = (a ++ [flown c (nowH s x.home) z]) ++ b := by simp
      obtain ⟨y, hy, hst, hpar, hown, hlights, hfly⟩ := ih hgo (hmem.trans hsplit) (by simpa using hlen) (by
        intro w hw
        rcases List.mem_append.mp hw with hw | hw
        · exact ha w hw
        · rw [List.mem_singleton.mp hw, flown])
      refine ⟨y, ?_, hst, hpar, hown, ?_, hfly⟩
      · rw [List.length_append, List.length_singleton] at hy
        exact hy
      · rw [hlights]
        simp [flown]

/-! Captured edits (R499). -/

theorem boundary_uncaptured {s : State} (hc : s.captured = []) (P : Nat) (sel : RKey → Bool) : boundary P sel s = s := by
  unfold boundary
  simp only [hc, List.filter_nil, List.foldl_nil]
  rw [← hc]

theorem plMod_self {s : State} {h : Half} {f : PlaceHalf → PlaceHalf} (hf : f (s.place.at h) = s.place.at h) :
    plMod h f s = s := by
  unfold plMod
  rw [hf]
  cases h <;> rfl

theorem plgBoundary_uncaptured {s : State} (hc : s.captured = []) (hw : s.place.west.plg = [])
    (he : s.place.east.plg = []) (h : Half) (sel : RKey → Bool) : plgBoundary h sel s = s := by
  have hnone : ∀ g, (s.place.at g).plg = [] := by rintro (_ | _) <;> assumption
  have hkeep : ∀ (g : Half) (f : PlaceHalf → PlaceHalf), (∀ p, p.plg = [] → f p = p) → plMod g f s = s :=
    fun g f hf => plMod_self (hf _ (hnone g))
  have hleft : ∀ {q : RKey × Nat → Bool} (p : PlaceHalf), p.plg = [] → { p with plg := p.plg.filter q } = p := by
    rintro q ⟨⟩ hp
    cases hp
    rfl
  unfold plgBoundary
  simp only [hc, List.filter_nil, List.append_nil]
  have h1 : plMod h (fun x => { x with plg := x.plg }) s = s := hkeep h _ fun _ _ => rfl
  simp only [h1, hc, List.filter_nil, List.foldl_nil]
  have h2 : ({ s with captured := [] } : State) = s := by rw [← hc]
  rw [h2, hkeep .west _ hleft, hkeep .east _ hleft]

theorem groupBoundary_uncaptured {s : State} (hc : s.captured = []) (hw : s.place.west.plg = [])
    (he : s.place.east.plg = []) (h : Half) : groupBoundary h s = s := by
  unfold groupBoundary
  simp only [hc, List.filter_nil, List.map_nil, List.dedup_nil, List.foldl_nil]
  exact plgBoundary_uncaptured hc hw he h _

/-! STRIPE_CHOOSE (R245, R246). -/

/-- A stripe that is chosen, with `n` members to place, its parity at `addrs` in pages of its own. -/
def chosenAs (n : Nat) (addrs pgs : List Nat) (y : Stripe) : Stripe :=
  { y with st := .chosen, parity := addrs, own := y.own ++ pgs, members := List.replicate n {}, noStripe := false }

/-- Stripe `x` of state `s` chosen and counted in `u`, its parity computed into pages `pgs`, its members not placed yet. -/
def parityDone (id : Nat) (x : Stripe) (pgs : List Nat) (s u : State) : State :=
  let addrs := pgs.map (pageAddr s x.home)
  let n := runUnits x.kind x.s
  bump (pgPlace x.home) R.PLACE_CNT_STRIPE (bump (pgErasure x.home) R.ERASURE_CNT_PARITY
    (stpMod id (chosenAs (x.k + x.m) addrs pgs) ((List.range (n * x.m)).foldl (fun t i =>
      ezStore ((addrs[i]?).getD 0) (parityUnit s x (i / n) (i % n)) t) u)))

/-- A stripe that R246 lets be chosen. -/
structure Choosable (s : State) (id : Nat) (x : Stripe) : Prop where
  get : stpGet s id = some x
  waits : x.st = .wait
  enabled : rdB s (pgPlace x.home) R.PL_CTRL_EN = true
  active : takesWork s = true
  free : isStalled s x = false

theorem stripeChoose_chooses {s u : State} {id : Nat} {x : Stripe} {cs : List Cand} {pgs : List Nat}
    (hx : Choosable s id x) (hcap : s.captured = []) (hw : s.place.west.plg = []) (he : s.place.east.plg = [])
    (hcs : chooseStripe s x.home x.group x.k x.m x.s = some cs)
    (hp : takePages x.home (runUnits x.kind x.s * x.m) s = some (pgs, u)) :
    stripeChoose id s = cs.zipIdx.foldl (fun t c => placeMember id c.2 c.1 t) (parityDone id x pgs s u) := by
  obtain ⟨hget, hst, hen, hact, hfree⟩ := hx
  have hgo : ¬ (x.st ≠ .wait || !rdB s (pgPlace x.home) R.PL_CTRL_EN || !takesWork s || isStalled s x) = true := by
    simp [hst, hen, hact, hfree]
  unfold stripeChoose
  simp only [hget]
  rw [if_neg hgo]
  simp only [groupBoundary_uncaptured hcap hw he, boundary_uncaptured hcap, hcs, hp]
  rfl

theorem parityDone_stripe {s u : State} {id : Nat} {x : Stripe} {pgs : List Nat} (hx : stpGet u id = some x) :
    stpGet (parityDone id x pgs s u) id = some (chosenAs (x.k + x.m) (pgs.map (pageAddr s x.home)) pgs x) := by
  rw [parityDone, stpGet_congr (congrArg Objects.stripes ((bump_objs _ _ _).trans (bump_objs _ _ _)))]
  refine stpGet_stpMod (fun _ => rfl) ?_
  rw [stpGet_congr (congrArg Objects.stripes (foldl_objs (fun _ _ => ezStore_objs _ _ _) _ _)), hx]

theorem stripeChoose_places {s u : State} {id : Nat} {x : Stripe} {cs : List Cand} {pgs : List Nat}
    (hx : Choosable s id x) (hcap : s.captured = []) (hw : s.place.west.plg = []) (he : s.place.east.plg = [])
    (hcs : chooseStripe s x.home x.group x.k x.m x.s = some cs)
    (hp : takePages x.home (runUnits x.kind x.s * x.m) s = some (pgs, u)) :
    ∃ y, stpGet (stripeChoose id s) id = some y ∧ y.st = .chosen ∧ y.members.map (·.light) = cs.map (·.light) ∧
      (∀ z ∈ y.members, z.st = .flying) ∧ y.parity = pgs.map (pageAddr s x.home) ∧ (∀ p ∈ pgs, p ∈ y.own) := by
  have hlen := (chooseStripe_distinct hcs).1
  have hget : stpGet u id = some x := by rw [stpGet_congr (congrArg Objects.stripes (takePages_objs hp)), hx.get]
  obtain ⟨y, hy, hst, hpar, hown, hlights, hfly⟩ := placeAll_placed (cs := cs) (a := []) (parityDone_stripe hget)
    (List.nil_append _).symm (List.length_replicate.trans hlen.symm) (by simp)
  rw [stripeChoose_chooses hx hcap hw he hcs hp]
  exact ⟨y, hy, hst, hlights, hfly, hpar, fun p hp => by rw [hown]; exact List.mem_append_right _ hp⟩

theorem stripeChoose_leaves {s : State} {id : Nat} {x : Stripe} (hx : stpGet s id = some x)
    (hn : x.st ≠ .wait ∨ rdB s (pgPlace x.home) R.PL_CTRL_EN = false ∨ takesWork s = false ∨ isStalled s x = true) :
    stripeChoose id s = s := by
  unfold stripeChoose
  simp only [hx]
  refine if_pos ?_
  rcases hn with hn | hn | hn | hn <;> simp [hn]

/-- Settles O24: the picks take distinct domains and so distinct lights, and a member's placement changes no other
member of its stripe. -/
theorem stripesTakeDistinctEligibleLights : Obligations.StripesTakeDistinctEligibleLights := by
  unfold Obligations.StripesTakeDistinctEligibleLights
  refine ⟨fun s h g k m n cs => chooseStripe_distinct, fun s id x cs pgs u hget hst hen hact hfree hcap hw he hcs hp => ?_,
    fun s id x hq hx hn => exec_settled (congrArg (fun t => done (settle t)) (stripeChoose_leaves hx hn)) hq⟩
  exact ⟨stripeChoose id s, rfl, stripeChoose_places ⟨hget, hst, hen, hact, hfree⟩ hcap hw he hcs hp⟩

end Sys2Proof.Machine
end

section
/-!
SUPPORT. A Dikar request's record and its one completion: what both change, and what the Dikar service leaves alone on
the way (R281, R295, R301).
-/
namespace Sys2Proof.Machine

/-! The records of the requests. -/

theorem opGet_id {s : State} {id : Nat} {d : DOp} (h : opGet s id = some d) : d.id = id := by
  simpa using List.find?_some h

theorem opGet_opMod {s : State} {id : Nat} {d : DOp} {f : DOp → DOp} (hf : ∀ x, (f x).id = x.id)
    (h : opGet s id = some d) : opGet (opMod id f s) id = some (f d) := by
  have hpred : ((fun x : DOp => x.id == id) ∘ fun x => if x.id = id then f x else x) = fun x => x.id == id := by
    funext x
    by_cases hx : x.id = id <;> simp [hx, hf]
  show List.find? _ (s.dikar.ops.map _) = _
  rw [List.find?_map, hpred, show s.dikar.ops.find? (fun x => x.id == id) = some d from h, Option.map_some,
    if_pos (opGet_id h)]

theorem opGet_opStop {s : State} {id : Nat} {d : DOp} (h : opGet s id = some d) :
    opGet (opStop id s) id = some { d with st := .ended } :=
  opGet_opMod (f := fun x => { x with st := .ended }) (fun _ => rfl) h

theorem mhMod_at (h g : Half) (f : MatchHalf → MatchHalf) (s : State) :
    mh (mhMod h f s) g = if g = h then f (mh s h) else mh s g := by
  cases h <;> cases g <;> rfl

theorem cqGet_cqMod_self (h : Half) (c : Nat) (f : Cq → Cq) (s : State) :
    cqGet (cqMod h c f s) h c = f (cqGet s h c) := by
  rw [cqGet, cqMod, mhMod_at, if_pos rfl]
  exact tget_tput_self _ _ _ _

theorem mh_congr {s t : State} (ht : t.dikar = s.dikar) (h : Half) : mh t h = mh s h := by rw [mh, mh, ht]

theorem opGet_congr {s t : State} (ht : t.dikar = s.dikar) (id : Nat) : opGet t id = opGet s id := by
  rw [opGet, opGet, ht]

theorem cqGet_congr {s t : State} (ht : t.dikar = s.dikar) (h : Half) (c : Nat) : cqGet t h c = cqGet s h c := by
  rw [cqGet, cqGet, mh_congr ht]

/-! What the service may touch besides records: counters of completions, refused members, events (R301, R305, R359). -/

/-- The registers that show how requests of half `h` end. -/
def svcRegsH (h : Half) : List (Nat × Nat) :=
  evtRegs (pgDikar h) ++ evtRegs (pgColl h) ++ evtRegs (pgEgress h) ++
    [R.DK_STAT_HIGH_WATER, R.DIKAR_CNT_PUT, R.DIKAR_CNT_GET, R.DIKAR_CNT_APPEND, R.DIKAR_CNT_DELETE, R.DIKAR_CNT_STAT,
      R.DIKAR_CNT_FENCE, R.DIKAR_CNT_FAILED, R.DIKAR_CNT_RETRY_ELSEWHERE, R.DIKAR_CNT_PULL_FAIL, R.DIKAR_CNT_MEDIA_LOST,
      R.DIKAR_CNT_OBJ_GONE, R.DIKAR_CNT_NAME_REPAIR].map (fun f => (pgDikar h, f.off)) ++
    [(pgMatch h, R.MATCH_CNT_CQ_DISCARD.off), (pgColl h, R.COLLECTIVE_CNT_MEMBER_REJECT.off)]

/-- The registers that show how requests end. -/
def svcRegs : List (Nat × Nat) := svcRegsH .west ++ svcRegsH .east

theorem mem_svcRegs {h : Half} {p : Nat × Nat} (hp : p ∈ svcRegsH h) : p ∈ svcRegs := by
  cases h
  · exact List.mem_append_left _ hp
  · exact List.mem_append_right _ hp

theorem dikarEvt_svcRegs (h : Half) : ∀ p ∈ evtRegs (pgDikar h), p ∈ svcRegs :=
  fun _ hp => mem_svcRegs (h := h) (by simp [svcRegsH, hp])

theorem collEvt_svcRegs (h : Half) : ∀ p ∈ evtRegs (pgColl h), p ∈ svcRegs :=
  fun _ hp => mem_svcRegs (h := h) (by simp [svcRegsH, hp])

theorem egrRegs_svcRegs : ∀ p ∈ egrRegs, p ∈ svcRegs := by decide

/-- What any work of the Dikar service up to a request's admission or completion leaves alone. -/
structure SvcStep (s t : State) : Prop where
  frame : t = { s with
    regs := t.regs, strikes := t.strikes, fiu := t.fiu, egr := t.egr, nextPid := t.nextPid, dikar := t.dikar
    objs := t.objs, place := t.place }
  regs : RegsKept svcRegs s t
  next : t.dikar.next = s.dikar.next
  ovf : ∀ h, (mh t h).ovf = (mh s h).ovf

theorem SvcStep.refl (s : State) : SvcStep s s := ⟨rfl, .refl _ s, rfl, fun _ => rfl⟩

theorem SvcStep.trans {s t u : State} (h1 : SvcStep s t) (h2 : SvcStep t u) : SvcStep s u := by
  refine ⟨?_, h1.regs.trans h2.regs, h2.next.trans h1.next, fun h => (h2.ovf h).trans (h1.ovf h)⟩
  have e1 := h1.frame
  have e2 := h2.frame
  rw [e1] at e2
  exact e2

theorem SvcStep.quiet {s t : State} (h : SvcStep s t) : quiet t = quiet s := by
  rw [h.frame]
  exact quiet_congr _ _ rfl rfl rfl rfl rfl rfl rfl rfl

theorem SvcStep.ite {s a b : State} {p : Prop} [Decidable p] (ha : SvcStep s a) (hb : SvcStep s b) :
    SvcStep s (if p then a else b) := by
  split
  · exact ha
  · exact hb

theorem SvcStep.of_dikar {s : State} {f : Dikar → Dikar} (hn : (f s.dikar).next = s.dikar.next)
    (hh : (f s.dikar).halves = s.dikar.halves) : SvcStep s (dkMod f s) :=
  ⟨rfl, .of_eq rfl, hn, fun h => congrArg MatchHalf.ovf (congrArg (PerHalf.at · h) hh)⟩

theorem mhMod_svcStep (h : Half) {f : MatchHalf → MatchHalf} (hf : ∀ m, (f m).ovf = m.ovf) (s : State) :
    SvcStep s (mhMod h f s) :=
  ⟨rfl, .of_eq rfl, rfl, fun g => by
    rw [mhMod_at]
    split
    · subst g
      exact hf _
    · rfl⟩

theorem objMod_svcStep (f : Objects → Objects) (s : State) : SvcStep s (objMod f s) :=
  ⟨rfl, .of_eq rfl, rfl, fun _ => rfl⟩

theorem plMod_svcStep (h : Half) (f : PlaceHalf → PlaceHalf) (s : State) : SvcStep s (plMod h f s) :=
  ⟨rfl, .of_eq rfl, rfl, fun _ => rfl⟩

theorem wr_svcStep {P : Nat} {f : Fld} (hp : (P, f.off) ∈ svcRegs) (v : Nat) (s : State) : SvcStep s (wr P f v s) :=
  ⟨rfl, (wr_kept P f v s).mono (by simpa using hp), rfl, fun _ => rfl⟩

/-- `t` is `s` with counters and events of completions. -/
structure CountStep (s t : State) : Prop where
  only : t = { s with regs := t.regs, strikes := t.strikes }
  regs : RegsKept svcRegs s t

section
variable {s t u : State}

theorem CountStep.refl (s : State) : CountStep s s := ⟨rfl, .refl _ s⟩

theorem CountStep.trans (h1 : CountStep s t) (h2 : CountStep t u) : CountStep s u := by
  refine ⟨?_, h1.regs.trans h2.regs⟩
  have e2 := h2.only
  rw [h1.only] at e2
  exact e2

theorem CountStep.ite {p : Prop} [Decidable p] (ht : CountStep s t) (hu : CountStep s u) :
    CountStep s (if p then t else u) := by
  split
  · exact ht
  · exact hu

theorem CountStep.svcStep (h : CountStep s t) : SvcStep s t := by
  have hd : t.dikar = s.dikar := by rw [h.only]
  exact ⟨by rw [h.only], h.regs, by rw [hd], fun g => by rw [mh_congr hd]⟩

end

theorem bump_countStep {P : Nat} {f : Fld} (hp : (P, f.off) ∈ svcRegs) (s : State) : CountStep s (bump P f s) :=
  ⟨by rw [bump_only], (bump_kept P f s).mono (by simpa using hp)⟩

theorem raise_countStep {P : Nat} (b : Nat) (hp : ∀ p ∈ evtRegs P, p ∈ svcRegs) (s : State) :
    CountStep s (raise P b s) :=
  ⟨by rw [raise_only], (raise_kept P b s).mono hp⟩

theorem bump_svcStep {P : Nat} {f : Fld} (hp : (P, f.off) ∈ svcRegs) (s : State) : SvcStep s (bump P f s) :=
  (bump_countStep hp s).svcStep

theorem raise_svcStep {P : Nat} (b : Nat) (hp : ∀ p ∈ evtRegs P, p ∈ svcRegs) (s : State) : SvcStep s (raise P b s) :=
  (raise_countStep b hp s).svcStep

theorem sendPkt_svcStep (h : Half) (p : Packet) (s : State) : SvcStep s (sendPkt h p s) := by
  have hs := sendPkt_step h p s
  have hd : (sendPkt h p s).dikar = s.dikar := by rw [sendPkt_only]
  exact ⟨by rw [sendPkt_only], hs.regs.mono egrRegs_svcRegs, by rw [hd], fun g => by rw [mh_congr hd]⟩

theorem foldl_svcStep {α : Type} {f : State → α → State} (hf : ∀ t a, SvcStep t (f t a)) (l : List α) (s : State) :
    SvcStep s (l.foldl f s) := by
  induction l generalizing s with
  | nil => exact .refl s
  | cons a r ih => exact (hf s a).trans (ih (f s a))

theorem opMod_svcStep (id : Nat) (f : DOp → DOp) (s : State) : SvcStep s (opMod id f s) := .of_dikar rfl rfl

theorem opStop_svcStep (id : Nat) (s : State) : SvcStep s (opStop id s) := .of_dikar rfl rfl

theorem opDrop_svcStep (id : Nat) (s : State) : SvcStep s (opDrop id s) := .of_dikar rfl rfl

theorem ringMod_svcStep (r : Nat) (f : Ring → Ring) (s : State) : SvcStep s (ringMod r f s) := .of_dikar rfl rfl

/-! A completion (R295, R301, R305, R331). -/

theorem okCounter_svcRegs {h : Half} {dop : Nat} {f : Fld} (hf : okCounter dop = some f) :
    (pgDikar h, f.off) ∈ svcRegs := by
  unfold okCounter at hf
  have hmem : f ∈ [R.DIKAR_CNT_PUT, R.DIKAR_CNT_GET, R.DIKAR_CNT_APPEND, R.DIKAR_CNT_DELETE, R.DIKAR_CNT_STAT] := by
    split_ifs at hf <;> simp_all
  refine mem_svcRegs (h := h) ?_
  fin_cases hmem <;> cases h <;> decide

theorem countEnd_countStep (h : Half) (dop st : Nat) (s : State) : CountStep s (countEnd h dop st s) := by
  have hb : ∀ (f : Fld) (t : State), (pgDikar h, f.off) ∈ svcRegsH h → CountStep t (bump (pgDikar h) f t) :=
    fun f t hf => bump_countStep (mem_svcRegs hf) t
  have hr : ∀ (f : Fld) (b : Nat) (t : State), (pgDikar h, f.off) ∈ svcRegsH h →
      CountStep t (raise (pgDikar h) b (bump (pgDikar h) f t)) :=
    fun f b t hf => (hb f t hf).trans (raise_countStep b (dikarEvt_svcRegs h) _)
  unfold countEnd
  extract_lets P s1 s2
  have h1 : CountStep s s1 := by
    refine .ite (hb _ _ (by cases h <;> decide)) (.ite ?_ (.refl s))
    split
    · exact bump_countStep (okCounter_svcRegs ‹_›) s
    · exact .refl s
  have h2 : CountStep s s2 := .ite h1 (h1.trans (hb _ _ (by cases h <;> decide)))
  refine h2.trans (.ite (hr _ _ _ ?_) (.ite (hr _ _ _ ?_) (.ite (hr _ _ _ ?_) (.ite (hb _ _ ?_)
    (.ite (raise_countStep _ (dikarEvt_svcRegs h) _) (.refl s2)))))) <;> cases h <;> decide

theorem countEnd_svcStep (h : Half) (dop st : Nat) (s : State) : SvcStep s (countEnd h dop st s) :=
  (countEnd_countStep h dop st s).svcStep

theorem countEnd_dikar (h : Half) (dop st : Nat) (s : State) : (countEnd h dop st s).dikar = s.dikar := by
  rw [(countEnd_countStep h dop st s).only]

theorem countEnd_objs (h : Half) (dop st : Nat) (s : State) : (countEnd h dop st s).objs = s.objs := by
  rw [(countEnd_countStep h dop st s).only]

theorem cqPush_svcStep (h : Half) (c : Nat) (x : CqRec) (s : State) : SvcStep s (cqPush h c x s) := by
  have hb : SvcStep s (bump (pgMatch h) R.MATCH_CNT_CQ_DISCARD s) :=
    bump_svcStep (mem_svcRegs (h := h) (by cases h <;> decide)) s
  have hc : ∀ f : Cq → Cq, SvcStep s (cqMod h c f s) := fun f =>
    mhMod_svcStep h (f := fun m => { m with cqs := tput {} m.cqs c (f (tget {} m.cqs c)) }) (fun _ => rfl) s
  unfold cqPush
  dsimp only
  refine .ite ?_ ?_
  · cases x.op with
    | some i => exact hb.trans (opDrop_svcStep _ _)
    | none => exact hb
  · split
    · exact (hc _).trans (ringMod_svcStep _ _ _)
    · exact hc _

theorem batchGo_svcStep (r k : Nat) (s : State) : SvcStep s (batchGo r k s) := by
  induction k generalizing s with
  | zero => exact .refl s
  | succ k ih =>
    rw [batchGo]
    dsimp only
    split
    · refine .ite (.trans (.ite ?_ ?_) (ih _)) (.refl s)
      · exact (ringMod_svcStep _ _ s).trans (cqPush_svcStep _ _ _ _)
      · exact ringMod_svcStep _ _ s
    · exact .refl s

theorem descEnd_svcStep (r seq : Nat) (ok : Bool) (body : List Nat) (s : State) :
    SvcStep s (descEnd r seq ok body s) :=
  (ringMod_svcStep _ _ s).trans (batchGo_svcStep _ _ _)

theorem opEnd_svcStep (id st : Nat) (x : Said) (s : State) : SvcStep s (opEnd id st x s) := by
  unfold opEnd
  split
  · exact .refl s
  · rename_i d _
    dsimp only
    have h1 := countEnd_svcStep d.h d.dop st s
    refine .ite ?_ (.ite ?_ ?_)
    · exact h1.trans ((sendPkt_svcStep _ _ _).trans (opDrop_svcStep _ _))
    · exact h1.trans ((bump_svcStep (mem_svcRegs (h := d.h) (by cases d.h <;> decide)) _).trans (opDrop_svcStep _ _))
    · split
      · exact h1.trans ((opStop_svcStep _ _).trans (cqPush_svcStep _ _ _ _))
      · refine .ite (h1.trans ((opDrop_svcStep _ _).trans (descEnd_svcStep _ _ _ _ _))) (h1.trans ?_)
        exact (opStop_svcStep _ _).trans ((cqPush_svcStep _ _ _ _).trans (descEnd_svcStep _ _ _ _ _))

theorem writeDrop_svcStep (w : Nat) (s : State) : SvcStep s (writeDrop w s) := objMod_svcStep _ s

theorem opFail_svcStep (id st : Nat) (s : State) : SvcStep s (opFail id st s) := by
  unfold opFail
  split
  · exact .refl s
  · dsimp only
    refine .trans ?_ (opEnd_svcStep _ _ _ _)
    split
    · exact .ite (.refl s) (writeDrop_svcStep _ s)
    · exact .refl s

/-! A completion that goes to its context's queue. -/

/-- Request `d` stands, and its completion will join the queue of its context, which is not being closed by force (R295,
R312). -/
structure Queued (s : State) (d : DOp) : Prop where
  get : opGet s d.id = some d
  noReply : d.replyMsg = false
  noRing : d.ring = none
  unmuted : d.mute = false
  unforced : (mh s d.h).forced.contains d.ctx = false

theorem ByQueue.queued {s : State} {d : DOp} (h : ByQueue s d) : Queued s d := by
  obtain ⟨hget, hreply, hring, hmute, -, hforced⟩ := h
  exact ⟨hget, hreply, hring, hmute, hforced⟩

/-- The completion record of request `d`. -/
def recordOf (d : DOp) (st : Nat) (x : Said) : CqRec :=
  { body := complBody d.dop st d.reqId d.obj d.ctx d.group x, op := some d.id, ring := none }

theorem opEnd_queued {s : State} {d : DOp} (hq : Queued s d) (st : Nat) (x : Said) : opEnd d.id st x s =
    cqMod d.h d.ctx (fun q => { q with recs := q.recs ++ [recordOf d st x] })
      (opStop d.id (countEnd d.h d.dop st s)) := by
  obtain ⟨hget, hreply, hring, hmute, hforced⟩ := hq
  have hopen : (mh (opStop d.id (countEnd d.h d.dop st s)) d.h).forced.contains d.ctx = false := by
    show (mh (countEnd d.h d.dop st s) d.h).forced.contains d.ctx = false
    rw [mh_congr (countEnd_dikar _ _ _ _), hforced]
  unfold opEnd
  simp only [hget, hreply, hmute, hring, Bool.false_eq_true, if_false]
  rw [cqPush, if_neg (Bool.eq_false_iff.mp hopen)]
  rfl

theorem opEnd_completes {s : State} {d : DOp} (hq : Queued s d) (st : Nat) (x : Said) :
    Completed d st s (opEnd d.id st x s) := by
  have hd := countEnd_dikar d.h d.dop st s
  rw [opEnd_queued hq]
  refine ⟨⟨d.obj, d.group, x, ?_⟩, { d with st := .ended }, opGet_opStop ((opGet_congr hd _).trans hq.get), rfl⟩
  rw [cqGet_cqMod_self]
  show (cqGet (countEnd d.h d.dop st s) d.h d.ctx).recs ++ _ = _
  rw [cqGet_congr hd]
  rfl

theorem opEnd_queue {s : State} {d : DOp} (hq : Queued s d) (st : Nat) (x : Said) (g : Half) :
    (opEnd d.id st x s).dikar.queue.at g = (s.dikar.queue.at g).filter (fun i => i != d.id) := by
  rw [opEnd_queued hq]
  show (opStop d.id (countEnd d.h d.dop st s)).dikar.queue.at g = _
  rw [opStop, dkMod, countEnd_dikar]
  cases g <;> rfl

theorem opEnd_objs {s : State} {d : DOp} (hq : Queued s d) (st : Nat) (x : Said) :
    (opEnd d.id st x s).objs = s.objs := by
  rw [opEnd_queued hq]
  exact countEnd_objs _ _ _ _

/-- A failure is a completion whose counts say nothing, with its write given up (R295). -/
theorem opFail_eq_opEnd {s : State} {d : DOp} (hget : opGet s d.id = some d) (st : Nat) :
    ∃ x t, t.dikar = s.dikar ∧ opFail d.id st s = opEnd d.id st x t := by
  unfold opFail
  simp only [hget]
  refine ⟨_, _, ?_, rfl⟩
  split
  · split
    · rfl
    · exact objMod_dikar _ _
  · rfl

theorem Queued.of_dikar {s t : State} {d : DOp} (hq : Queued s d) (ht : t.dikar = s.dikar) : Queued t d := by
  obtain ⟨hget, hreply, hring, hmute, hforced⟩ := hq
  exact ⟨(opGet_congr ht _).trans hget, hreply, hring, hmute, by rwa [mh_congr ht]⟩

/-- A completion counts from the state that it starts in only through the queue of its context. -/
theorem Completed.since {s u t : State} {d : DOp} {st : Nat} (h : Completed d st u t)
    (hq : (cqGet u d.h d.ctx).recs = (cqGet s d.h d.ctx).recs) : Completed d st s t := by
  rw [Completed, ← hq]
  exact h

theorem opFail_completes {s : State} {d : DOp} (hq : Queued s d) (st : Nat) : Completed d st s (opFail d.id st s) := by
  obtain ⟨x, t, ht, hx⟩ := opFail_eq_opEnd hq.get st
  rw [hx]
  exact (opEnd_completes (hq.of_dikar ht) st x).since (by rw [cqGet_congr ht])

theorem opFail_queue {s : State} {d : DOp} (hq : Queued s d) (st : Nat) (g : Half) :
    (opFail d.id st s).dikar.queue.at g = (s.dikar.queue.at g).filter (fun i => i != d.id) := by
  obtain ⟨x, t, ht, hx⟩ := opFail_eq_opEnd hq.get st
  rw [hx, opEnd_queue (hq.of_dikar ht), ht]

theorem Completed.until {s t u : State} {d : DOp} {st : Nat} (h : Completed d st s t) (hd : u.dikar = t.dikar) :
    Completed d st s u := by
  rw [Completed, cqGet_congr hd, opGet_congr hd]
  exact h

end Sys2Proof.Machine
end

section
/-!
SUPPORT. A request that holds its slot: its checks and its way to admission, and the grant of a slot (R280-R282, R302).
-/
namespace Sys2Proof.Machine

/-! What the way to admission leaves alone. -/

theorem nameCheck_svcStep (h : Half) (s : State) (i : Nat) : SvcStep s (nameCheck h s i) := by
  unfold nameCheck
  extract_lets w e s1 fix s2
  have h1 : SvcStep s s1 := (bump_svcStep (mem_svcRegs (h := h) (by cases h <;> decide)) s).trans
    (raise_svcStep 4 (dikarEvt_svcRegs h) _)
  have h2 : SvcStep s s2 := h1.trans ((plMod_svcStep .west fix s1).trans (plMod_svcStep .east fix _))
  exact .ite (.ite (h2.trans (objMod_svcStep _ s2)) h2) (.refl s)

theorem nameLook_svcStep (h : Half) (name : Nat) (s : State) : SvcStep s (nameLook h name s).1 :=
  foldl_svcStep (nameCheck_svcStep h) _ s

theorem collReject_svcStep (id st : Nat) (h : Half) (s : State) : SvcStep s (collReject id st h s) :=
  ((bump_svcStep (mem_svcRegs (h := h) (by cases h <;> decide)) s).trans (raise_svcStep 2 (collEvt_svcRegs h) _)).trans
    (opFail_svcStep id st _)

theorem opSend_svcStep (id : Nat) (home : Half) (s : State) : SvcStep s (opSend id home s) := by
  unfold opSend
  split
  · exact .refl s
  · exact .ite (opFail_svcStep _ _ s) ((opMod_svcStep _ _ s).trans (.of_dikar rfl rfl))

theorem opChecks_svcStep (id : Nat) (s : State) : SvcStep s (opChecks id s) := by
  unfold opChecks
  split
  · exact .refl s
  · rename_i d _
    split
    · exact opFail_svcStep _ _ s
    · refine .ite (opFail_svcStep _ _ s) ?_
      split
      · exact opFail_svcStep _ _ s
      · exact .ite (opMod_svcStep _ _ s) (.ite (collReject_svcStep _ _ _ s) (.ite (opFail_svcStep _ _ s)
          ((nameLook_svcStep d.h d.name s).trans (opSend_svcStep _ _ _))))

theorem takeSlot_svcStep (id : Nat) (s : State) : SvcStep s (takeSlot id s) := by
  unfold takeSlot
  split
  · exact .refl s
  · rename_i d _
    exact (opMod_svcStep _ _ s).trans (wr_svcStep (mem_svcRegs (h := d.h) (by cases d.h <;> decide)) _ _)

theorem opGo_svcStep (id : Nat) (s : State) : SvcStep s (opGo id s) :=
  (takeSlot_svcStep id s).trans (opChecks_svcStep id _)

/-! The checks of a request in its slot (R280, R290, R302). -/

section
variable {s : State} {d : DOp}

theorem opChecks_unmatched (hget : opGet s d.id = some d) (he : d.ent = none) :
    opChecks d.id s = opFail d.id stDENIED s := by
  unfold opChecks
  simp only [hget, he]

theorem opChecks_turned (hget : opGet s d.id = some d) (he : d.ent ≠ none) (ht : d.turned = true) :
    opChecks d.id s = opFail d.id stRETRY s := by
  obtain ⟨e, he⟩ := Option.ne_none_iff_exists'.mp he
  unfold opChecks
  simp only [hget, he, ht, if_true]

theorem opChecks_fails (hget : opGet s d.id = some d) {e : MatchEnt} {st : Nat} (he : d.ent = some e)
    (ht : d.turned = false) (hc : firstCheck s d e = some st) : opChecks d.id s = opFail d.id st s := by
  unfold opChecks
  simp only [hget, he, ht, hc, Bool.false_eq_true, if_false]

theorem opChecks_fence (hget : opGet s d.id = some d) {e : MatchEnt} (he : d.ent = some e)
    (ht : d.turned = false) (hc : firstCheck s d e = none) (hf : d.dop = doFENCE) :
    opChecks d.id s = opMod d.id (fun x => { x with st := .fence }) s := by
  unfold opChecks
  simp only [hget, he, ht, hc, hf, Bool.false_eq_true, if_false, if_true]

theorem firstCheck_congr {t : State} (hg : grpEn t d.h d.grp = grpEn s d.h d.grp) (e : MatchEnt) :
    firstCheck t d e = firstCheck s d e := by
  unfold firstCheck
  rw [hg]

theorem grpEn_congr {t : State} {ex : List (Nat × Nat)} (hr : RegsKept ex s t)
    (hx : (pgPlaceG, R.PLG_GRP_VIEW_0_EN.off) ∉ ex) (hp : t.place = s.place) (h : Half) (g : Nat) :
    grpEn t h g = grpEn s h g := by
  rw [grpEn, grpEn, grpF, grpF, hr.rdI _ _ _ hx, hp]

/-! OP_SLOT_GRANT (R281). -/

/-- Request `d` of `s` has taken its slot in `t`. -/
structure SlotTaken (s : State) (d : DOp) (t : State) : Prop where
  byQueue : ByQueue t { d with slot := true }
  records : (cqGet t d.h d.ctx).recs = (cqGet s d.h d.ctx).recs
  frame : t = { s with regs := t.regs, dikar := t.dikar }
  regs : RegsKept [(pgDikar d.h, R.DK_STAT_HIGH_WATER.off)] s t

theorem takeSlot_eq (hget : opGet s d.id = some d) : ∃ v, takeSlot d.id s =
    wr (pgDikar d.h) R.DK_STAT_HIGH_WATER v (opMod d.id (fun x => { x with slot := true }) s) := by
  unfold takeSlot
  simp only [hget]
  exact ⟨_, rfl⟩

theorem takeSlot_taken (hd : ByQueue s d) : SlotTaken s d (takeSlot d.id s) := by
  obtain ⟨hget, hreply, hring, hmute, hw, hforced⟩ := hd
  obtain ⟨v, hv⟩ := takeSlot_eq hget
  rw [hv]
  exact ⟨⟨opGet_opMod (f := fun x => { x with slot := true }) (fun _ => rfl) hget, hreply, hring, hmute, hw, hforced⟩,
    rfl, rfl, wr_kept _ _ _ (opMod d.id (fun x => { x with slot := true }) s)⟩

/-- The end of a period in which matched requests of half `h` wait, where the last one gets its slot. -/
def lastServed (h : Half) (r : List DOp) (s : State) : State :=
  if r.isEmpty then mhMod h (fun m => { m with inflFull := false }) s else s

theorem slotGrant_grants {h : Half} {r : List DOp} (hw : slotWaiters s h = d :: r) (hf : slotFree s h = true) :
    slotGrant h s = opChecks d.id (takeSlot d.id (lastServed h r s)) := by
  unfold slotGrant
  simp only [hw, hf, if_true]
  rfl

theorem slotGrant_idle {h : Half} (hn : slotWaiters s h = [] ∨ slotFree s h = false) : slotGrant h s = s := by
  unfold slotGrant
  split
  · rfl
  · exact if_neg (by simp_all)

theorem lastServed_taken (h : Half) (r : List DOp) (hd : ByQueue s d) :
    SlotTaken s d (takeSlot d.id (lastServed h r s)) := by
  have hb : ByQueue (lastServed h r s) d ∧ cqGet (lastServed h r s) d.h d.ctx = cqGet s d.h d.ctx ∧
      lastServed h r s = { s with dikar := (lastServed h r s).dikar } := by
    unfold lastServed
    split
    · obtain ⟨hget, hreply, hring, hmute, hw, hforced⟩ := hd
      refine ⟨⟨hget, hreply, hring, hmute, hw, ?_⟩, ?_, rfl⟩ <;>
      · simp only [cqGet, mhMod_at]
        split <;> simp_all
    · exact ⟨hd, rfl, rfl⟩
  obtain ⟨hb, hc, hframe⟩ := hb
  obtain ⟨hbt, hct, hft, hrt⟩ := takeSlot_taken hb
  generalize takeSlot d.id (lastServed h r s) = t at hbt hct hft hrt ⊢
  refine ⟨hbt, hct.trans (congrArg Cq.recs hc), ?_, .trans (.of_eq (by rw [hframe])) hrt⟩
  rw [hframe] at hft
  exact hft

theorem SlotTaken.firstCheck {t : State} (ht : SlotTaken s d t) (e : MatchEnt) :
    firstCheck t { d with slot := true } e = firstCheck s d e :=
  firstCheck_congr (d := d) (grpEn_congr ht.regs (by cases d.h <;> decide) (by rw [ht.frame]) _ _) e

theorem SlotTaken.fails {t : State} (ht : SlotTaken s d t) (st : Nat) : Completed d st s (opFail d.id st t) :=
  Completed.since (d := d) (opFail_completes ht.byQueue.queued st) ht.records

variable {h : Half} {r : List DOp}

theorem lastServed_svcStep : SvcStep s (lastServed h r s) :=
  .ite (mhMod_svcStep h (fun _ => by rfl) s) (.refl s)

theorem quiet_slotGrant : quiet (slotGrant h s) = quiet s := by
  unfold slotGrant
  split
  · rfl
  · exact (SvcStep.ite (lastServed_svcStep.trans (opGo_svcStep _ _)) (.refl s)).quiet

theorem opSlotGrant_fails (hq : quiet s = true) {st : Nat} (hd : ByQueue s d)
    (hw : slotGrant h s = opFail d.id st (takeSlot d.id (lastServed h r s))) :
    Ends (.opSlotGrant h) s (Completed d st s) := by
  refine ends_settle (t := slotGrant h s) rfl (quiet_slotGrant.trans hq) ?_
  rw [hw]
  exact (lastServed_taken h r hd).fails st

theorem opSlotGrant_denied (hq : quiet s = true) (hw : slotWaiters s h = d :: r) (hf : slotFree s h = true)
    (hd : ByQueue s d) (he : d.ent = none) : Ends (.opSlotGrant h) s (Completed d stDENIED s) :=
  opSlotGrant_fails hq hd ((slotGrant_grants hw hf).trans
    (opChecks_unmatched (d := { d with slot := true }) (lastServed_taken h r hd).byQueue.queued.get he))

theorem opSlotGrant_turned (hq : quiet s = true) (hw : slotWaiters s h = d :: r) (hf : slotFree s h = true)
    (hd : ByQueue s d) (he : d.ent ≠ none) (ht : d.turned = true) :
    Ends (.opSlotGrant h) s (Completed d stRETRY s) :=
  opSlotGrant_fails hq hd ((slotGrant_grants hw hf).trans
    (opChecks_turned (d := { d with slot := true }) (lastServed_taken h r hd).byQueue.queued.get he ht))

theorem opSlotGrant_checked (hq : quiet s = true) (hw : slotWaiters s h = d :: r) (hf : slotFree s h = true)
    (hd : ByQueue s d) {e : MatchEnt} {st : Nat} (he : d.ent = some e) (ht : d.turned = false)
    (hc : firstCheck s d e = some st) : Ends (.opSlotGrant h) s (Completed d st s) := by
  have htaken := lastServed_taken h r hd
  exact opSlotGrant_fails hq hd ((slotGrant_grants hw hf).trans (opChecks_fails (d := { d with slot := true })
    htaken.byQueue.queued.get he ht ((htaken.firstCheck e).trans hc)))

theorem opSlotGrant_fence (hq : quiet s = true) (hw : slotWaiters s h = d :: r) (hf : slotFree s h = true)
    (hd : ByQueue s d) {e : MatchEnt} (he : d.ent = some e) (ht : d.turned = false) (hc : firstCheck s d e = none)
    (hdop : d.dop = doFENCE) :
    Ends (.opSlotGrant h) s (fun t => opGet t d.id = some { d with slot := true, st := .fence } ∧
      t = { s with regs := t.regs, dikar := t.dikar } ∧ RegsKept [(pgDikar d.h, R.DK_STAT_HIGH_WATER.off)] s t) := by
  have htaken := lastServed_taken h r hd
  have hget := htaken.byQueue.queued.get
  have hgo := (slotGrant_grants hw hf).trans
    (opChecks_fence (d := { d with slot := true }) hget he ht ((htaken.firstCheck e).trans hc) hdop)
  refine ends_settle (t := slotGrant h s) rfl (quiet_slotGrant.trans hq) ?_
  rw [hgo]
  refine ⟨opGet_opMod (f := fun x => { x with st := .fence }) (fun _ => rfl) hget, ?_, htaken.regs⟩
  generalize takeSlot d.id (lastServed h r s) = t at htaken
  rw [htaken.frame]
  rfl

theorem opSlotGrant_idle (hq : quiet s = true) (hn : slotWaiters s h = [] ∨ slotFree s h = false) :
    exec (.opSlotGrant h) s = .next s :=
  exec_settled (congrArg (fun t => done (settle t)) (slotGrant_idle hn)) hq

end

end Sys2Proof.Machine
end

section
/-!
SUPPORT. A received MSG: turned away, matched, or put on the overflow list of its context (R272, R281, R314, R320).
-/
namespace Sys2Proof.Machine

/-! A request that becomes an operation (R281, R301). -/

/-- Request `x` joins the operations under the next number. -/
def joined (x : DOp) (s : State) : State :=
  dkMod (fun k => { k with ops := k.ops ++ [x], next := s.dikar.next + 1 }) s

/-- A request that an entry has taken is counted. -/
def matchCounted (h : Half) (d : DOp) (s : State) : State :=
  if d.ent.isSome then bump (pgDikar h) R.DIKAR_CNT_REQ (bump (pgMatch h) R.MATCH_CNT_MATCH s) else s

theorem opArrive_svcStep (h : Half) (d : DOp) (s : State) :
    ∃ x, SvcStep (matchCounted h d (joined x s)) (opArrive h d s) := by
  refine ⟨{ d with
    id := s.dikar.next, h := h, home := h, time := nowH s h
    turned := !(rdB s (pgDikar h) R.DK_CTRL_EN && takesWork s) }, ?_⟩
  unfold opArrive
  dsimp only
  refine .ite ?_ (opGo_svcStep _ _)
  refine (mhMod_svcStep h (f := fun m => { m with inflFull := true }) (fun _ => rfl) _).trans ?_
  unfold raiseIf
  exact .ite (raise_svcStep 1 (dikarEvt_svcRegs h) _) (.refl _)

theorem matchCounted_only (h : Half) (d : DOp) (s : State) :
    matchCounted h d s = { s with regs := (matchCounted h d s).regs } := by
  unfold matchCounted
  split
  · rw [bump_only, bump_only]
  · rfl

theorem matchCounted_kept (h : Half) (d : DOp) (s : State) :
    RegsKept [(pgDikar h, R.DIKAR_CNT_REQ.off), (pgMatch h, R.MATCH_CNT_MATCH.off)] s (matchCounted h d s) := by
  unfold matchCounted
  split
  · exact ((RegsKept.refl _ s).bump_mem (by simp)).bump_mem (by simp)
  · exact .refl _ s

/-- What an arriving request leaves of the matching engines, and the number that it takes. -/
theorem opArrive_arrives (h : Half) (d : DOp) (s : State) :
    (opArrive h d s).dikar.next = s.dikar.next + 1 ∧ (∀ g, (mh (opArrive h d s) g).ovf = (mh s g).ovf) ∧
      quiet (opArrive h d s) = quiet s := by
  obtain ⟨x, hx⟩ := opArrive_svcStep h d s
  have hd : (matchCounted h d (joined x s)).dikar = (joined x s).dikar := by rw [matchCounted_only]
  refine ⟨by rw [hx.next, hd]; rfl, fun g => by rw [hx.ovf, mh_congr hd]; rfl, hx.quiet.trans ?_⟩
  rw [matchCounted_only]
  exact quiet_congr _ _ rfl rfl rfl rfl rfl rfl rfl rfl

theorem opArrive_counts {h : Half} {d : DOp} {e : MatchEnt} (he : d.ent = some e) (s : State) :
    rd (opArrive h d s) (pgDikar h) R.DIKAR_CNT_REQ =
      rd (bump (pgDikar h) R.DIKAR_CNT_REQ s) (pgDikar h) R.DIKAR_CNT_REQ := by
  obtain ⟨x, hx⟩ := opArrive_svcStep h d s
  have hm : matchCounted h d (joined x s) =
      bump (pgDikar h) R.DIKAR_CNT_REQ (bump (pgMatch h) R.MATCH_CNT_MATCH (joined x s)) := if_pos (by simp [he])
  rw [hx.regs.rd _ _ (by cases h <;> decide), hm]
  have hk := bump_kept (pgMatch h) R.MATCH_CNT_MATCH (joined x s)
  exact rd_bump_congr (hk.rd _ _ (by cases h <;> decide)) (hk.rd _ _ (by cases h <;> decide))

theorem opArrive_kept (h : Half) (d : DOp) (s : State) : RegsKept
    (svcRegs ++ [(pgDikar h, R.DIKAR_CNT_REQ.off), (pgMatch h, R.MATCH_CNT_MATCH.off)]) s (opArrive h d s) := by
  obtain ⟨x, hx⟩ := opArrive_svcStep h d s
  have hc := matchCounted_kept h d (joined x s)
  exact (hc.mono fun _ => List.mem_append_right _).trans (hx.regs.mono fun _ => List.mem_append_left _)

/-! The lookup of a context and the duplicate filter (R63, R313). -/

/-- The counters of half `m`'s Matching Engine that move before a request is matched. -/
def lookRegs (m : Half) : List (Nat × Nat) :=
  [R.MATCH_CNT_MSG, R.MATCH_CNT_CACHE_MISS, R.MATCH_CNT_SALV_EVICT, R.MATCH_CNT_STEPS].map (fun f => (pgMatch m, f.off))

/-- What half `m`'s Matching Engine does with a MSG before its search leaves all but its caches, its filter, the
counters of both and the receive buffers. -/
structure Looked (m : Half) (s t : State) : Prop where
  frame : t = { s with regs := t.regs, fiu := t.fiu, dikar := t.dikar }
  regs : RegsKept (lookRegs m) s t
  ops : t.dikar.ops = s.dikar.ops
  next : t.dikar.next = s.dikar.next
  half : ∃ c v, mh t m = { mh s m with cached := c, salv := v }

section
variable {m : Half} {s t u : State}

theorem Looked.trans (h1 : Looked m s t) (h2 : Looked m t u) : Looked m s u := by
  obtain ⟨f1, r1, o1, n1, c1, v1, e1⟩ := h1
  obtain ⟨f2, r2, o2, n2, c2, v2, e2⟩ := h2
  refine ⟨?_, r1.trans r2, o2.trans o1, n2.trans n1, c2, v2, by rw [e2, e1]⟩
  rw [f1] at f2
  exact f2

theorem Looked.ite {p : Prop} [Decidable p] (ht : Looked m s t) (hu : Looked m s u) :
    Looked m s (if p then t else u) := by
  split
  · exact ht
  · exact hu

theorem bumpBy_looked {f : Fld} (hf : (pgMatch m, f.off) ∈ lookRegs m) (k : Nat) (s : State) :
    Looked m s (bumpBy (pgMatch m) f k s) :=
  ⟨by rw [bumpBy_only], (bumpBy_kept _ _ _ s).mono (by simpa using hf), by rw [bumpBy_dikar], by rw [bumpBy_dikar], _,
    _, by rw [mh_congr (bumpBy_dikar _ _ _ _)]⟩

theorem mhMod_looked (f : MatchHalf → MatchHalf) (s : State)
    (hf : ∃ c v, f (mh s m) = { mh s m with cached := c, salv := v }) : Looked m s (mhMod m f s) :=
  ⟨rfl, .of_eq rfl, rfl, rfl, by rw [mhMod_at, if_pos rfl]; exact hf⟩

theorem ctxLoad_looked (m : Half) (c : Nat) (s : State) : Looked m s (ctxLoad m c s) := by
  unfold ctxLoad
  dsimp only
  refine .ite (mhMod_looked _ s ⟨_, _, rfl⟩) ?_
  exact (bumpBy_looked (by simp [lookRegs]) 1 s).trans (mhMod_looked _ _ ⟨_, _, rfl⟩)

theorem salvAdd_looked (m : Half) (e : Nat × Nat × Nat × Nat × Nat) (s : State) : Looked m s (salvAdd m e s) := by
  unfold salvAdd
  dsimp only
  refine .ite (mhMod_looked _ s ⟨_, _, rfl⟩) ?_
  exact (mhMod_looked _ s ⟨_, _, rfl⟩).trans (bumpBy_looked (by simp [lookRegs]) 1 _)

theorem Looked.quiet (h : Looked m s t) : quiet t = quiet s := by
  rw [h.frame]
  exact quiet_congr _ _ rfl rfl rfl rfl rfl rfl rfl rfl

theorem Looked.ovf (h : Looked m s t) : (mh t m).ovf = (mh s m).ovf := by
  obtain ⟨c, v, e⟩ := h.half
  rw [e]

theorem ctxOvf_congr (h : (mh t m).ovf = (mh s m).ovf) (c : Nat) : ctxOvf t m c = ctxOvf s m c := by
  rw [ctxOvf, h, ctxOvf]

theorem search_congr (he : (mh t m).ents = (mh s m).ents) (b : Nat) (bs : List Nat) :
    search t m b bs = search s m b bs := by
  induction bs with
  | nil => rfl
  | cons k r ih =>
    have hb : blkSearch t m k b = blkSearch s m k b := by simp only [blkSearch, entGet, he]
    simp only [search, hb, ih]

theorem Looked.searched (h : Looked m s t) (b c : Nat) :
    search t m b (ctxBlocks t m c) = search s m b (ctxBlocks s m c) := by
  obtain ⟨c', v, e⟩ := h.half
  rw [search_congr (s := s) (by rw [e]), ctxBlocks, e, ctxBlocks]

theorem not_mem_lookRegs {P : Nat} (hP : P ≠ pgMatch m) (o : Nat) : (P, o) ∉ lookRegs m := by simp [lookRegs, hP]

theorem Looked.contexts (h : Looked m s t) (f : Fld) (c : Nat) : rdI t pgContexts f c = rdI s pgContexts f c :=
  h.regs.rdI _ _ _ (not_mem_lookRegs (by cases m <;> decide) _)

theorem Looked.ctxView (h : Looked m s t) (f : Fld) (c : Nat) : ctxV t f c = ctxV s f c := h.contexts f c

theorem Looked.source (h : Looked m s t) (c src : Nat) : srcOk t c src = srcOk s c src := by
  unfold srcOk krNode krV ctxRange
  simp only [h.ctxView, h.contexts]

end

/-! A MSG at the head of its buffer (R75, R272). -/

section
variable {s : State} {n k : Nat} {h m : Half} {p : Packet}

/-- The MSG has left its buffer and its slots are free. -/
def msgTaken (n k : Nat) (s : State) : State := slotsBack (n, 3, k) (rxTake n 3 k s)

theorem msgTaken_only (n k : Nat) (s : State) : msgTaken n k s = { s with fiu := (msgTaken n k s).fiu } := by
  unfold msgTaken slotsBack
  split <;> rfl

theorem exec_dikarReq (hm : MsgIs s n k h m p) :
    exec (.dikarReq n) s = done (settle (msgArrive h p (msgTaken n k s))) := by
  obtain ⟨hhead, htype, hhalf, htakes, hreach, hup, -⟩ := hm
  have hown : deadTo s n h = false := by
    obtain ⟨-, -, -, -, -, -, hup⟩ := hhead
    simp [deadTo, hup]
  have hlive : deadTo s n m = false := by simp [deadTo, hup]
  have hgo : (decide (m = h) || s.boot.span) = true := by simpa using hreach
  show done (settle (rxMsg n s)) = _
  rw [rxMsg, rxWith_of_headIs hhead htype]
  simp only [hown, Bool.false_eq_true, if_false, hhalf, hlive, htakes, hgo, hup, Bool.and_self, if_true]
  rfl

theorem quiet_msgTaken (hm : MsgIs s n k h m p) : quiet (msgTaken n k s) = true := by
  obtain ⟨-, -, -, -, -, -, hq⟩ := hm
  rw [msgTaken_only, ← hq]
  exact quiet_congr _ _ rfl rfl rfl rfl rfl rfl rfl rfl

/-- A MSG that asks for nothing of Dikar is counted and raises BAD_MSG, and no request is made of it (R272). -/
theorem dikarReq_bad (hm : MsgIs s n k h m p) (hop : p.op ≠ 1) :
    Ends (.dikarReq n) s (fun t => (rd t (pgDikar h) R.EVT_RAW).testBit 0 = true ∧
      rd t (pgDikar h) R.DIKAR_CNT_BAD_MSG =
        rd (bump (pgDikar h) R.DIKAR_CNT_BAD_MSG s) (pgDikar h) R.DIKAR_CNT_BAD_MSG ∧
      t.dikar = s.dikar ∧ t = { s with regs := t.regs, strikes := t.strikes, fiu := t.fiu }) := by
  have hframe := msgTaken_only n k s
  have hquiet := quiet_msgTaken hm
  have hx := exec_dikarReq hm
  generalize msgTaken n k s = u at hframe hquiet hx
  rw [msgArrive, if_pos hop] at hx
  have hreg : ∀ (P : Nat) (f : Fld), rd u P f = rd s P f := fun P f => by rw [hframe]; rfl
  refine ends_settle hx ?_ ⟨evtRaw_raise_self _ _ (by decide), ?_, ?_, ?_⟩
  · rw [raise_only, bump_only]
    exact (quiet_congr u _ rfl rfl rfl rfl rfl rfl rfl rfl).trans hquiet
  · rw [rd_raise_off _ _ _ _ (by decide)]
    exact rd_bump_congr (hreg _ _) (hreg _ _)
  · rw [raise_dikar, bump_dikar, hframe]
  · rw [raise_only, bump_only, hframe]

theorem exec_dikarReq_open (hm : MsgIs s n k h m p) (hop : p.op = 1) (hopen : ctxIsOpen s p.ctx = true) :
    exec (.dikarReq n) s =
      done (settle (msgMatch m p (bump (pgMatch m) R.MATCH_CNT_MSG (msgTaken n k s)))) := by
  have hhome : ctxHome (msgTaken n k s) p.ctx = m := by
    obtain ⟨-, -, hhalf, -⟩ := hm
    rw [msgHalf, if_pos ⟨hop, hopen⟩] at hhalf
    rw [msgTaken_only, ← hhalf]
    rfl
  have hopen' : ctxIsOpen (msgTaken n k s) p.ctx = true := by
    rw [msgTaken_only, ← hopen]
    rfl
  rw [exec_dikarReq hm, msgArrive, if_neg (by simp [hop]), if_pos hopen', hhome]

theorem msgCounted_looked (n k : Nat) (m : Half) (s : State) :
    Looked m s (bump (pgMatch m) R.MATCH_CNT_MSG (msgTaken n k s)) := by
  have hd : (msgTaken n k s).dikar = s.dikar := by rw [msgTaken_only]
  have htaken : Looked m s (msgTaken n k s) :=
    ⟨by rw [msgTaken_only], .of_eq (by rw [msgTaken_only]), by rw [hd], by rw [hd], _, _, by rw [mh_congr hd]⟩
  exact htaken.trans (bumpBy_looked (by simp [lookRegs]) 1 _)

end

/-! Orders 2 to 5 of R314. -/

section
variable {s : State} {m : Half} {p : Packet}

theorem msgMatch_rejects (hbad : srcOk s p.ctx p.src = false ∨ p.key ≠ ctxV s R.CTX_VIEW_1_KEY p.ctx) :
    msgMatch m p s = raise (pgMatch m) 0 (bump (pgMatch m) R.MATCH_CNT_CTX_REJECT (ctxLoad m p.ctx s)) := by
  unfold msgMatch
  refine if_pos ?_
  rcases hbad with hbad | hbad <;> simp [hbad]

/-- A MSG that its context takes, and that the duplicate filter lets through, is searched for where nothing waits on its
context's overflow list. -/
theorem msgMatch_searched (hsrc : srcOk s p.ctx p.src = true) (hkey : p.key = ctxV s R.CTX_VIEW_1_KEY p.ctx)
    (hsalv : p.salv = false) (hovf : ctxOvf s m p.ctx = []) :
    ∃ x t, Looked m s t ∧ (x.ctx = p.ctx ∧ x.src = p.src ∧ x.mtch = p.w1) ∧
      (∀ n, (search s m p.w1 (ctxBlocks s m p.ctx)).2 = some n →
        ∃ e, msgMatch m p s = opArrive m (ovfOp x (some e)) (entTake m p.ctx n t)) ∧
      ((search s m p.w1 (ctxBlocks s m p.ctx)).2 = none →
        msgMatch m p s = if ctxV s R.CTX_VIEW_0_OVF_MAX p.ctx = 0 then denyReq m x 1 t else ovfJoin m x t) := by
  unfold msgMatch
  extract_lets c P s1 body x id s2
  have hlook : Looked m s s2 := (ctxLoad_looked m c s).trans (salvAdd_looked m _ _)
  have hnone : (ctxOvf s2 m c).isEmpty = true := by rw [ctxOvf_congr hlook.ovf, hovf]; rfl
  have hfound := hlook.searched p.w1 c
  rw [if_neg (by simp [c, hsrc, hkey]), if_neg (by simp [hsalv]), if_neg (by simp [hnone])]
  refine ⟨x, bumpBy (pgMatch m) R.MATCH_CNT_STEPS (search s2 m p.w1 (ctxBlocks s2 m c)).1 s2,
    hlook.trans (bumpBy_looked (by simp [lookRegs]) _ _), ⟨rfl, rfl, rfl⟩, fun n hn => ⟨entGet s2 m n, ?_⟩,
    fun hn => ?_⟩
  all_goals
    rw [← hfound] at hn
    simp only [matchReq, x, hn]
    rfl

theorem entTake_svcStep (h : Half) (c n : Nat) (s : State) : SvcStep s (entTake h c n s) := by
  have hput : ∀ e, SvcStep s (entPut h n e s) := fun e =>
    mhMod_svcStep h (f := fun m => { m with ents := tput {} m.ents n e }) (fun _ => by rfl) s
  unfold entTake entRemove
  dsimp only
  exact .ite (.ite (hput _) ((hput _).trans (mhMod_svcStep h (fun _ => by rfl) _))) (hput _)

end

section
variable {s : State} {n k : Nat} {h m : Half} {p : Packet}

/-- A MSG whose source or key its context does not take is counted and makes no request (R314). -/
theorem dikarReq_rejected (hm : MsgIs s n k h m p) (hop : p.op = 1) (hopen : ctxIsOpen s p.ctx = true)
    (hbad : srcOk s p.ctx p.src = false ∨ p.key ≠ ctxV s R.CTX_VIEW_1_KEY p.ctx) :
    Ends (.dikarReq n) s (fun t => (rd t (pgMatch m) R.EVT_RAW).testBit 0 = true ∧
      rd t (pgMatch m) R.MATCH_CNT_CTX_REJECT =
        rd (bump (pgMatch m) R.MATCH_CNT_CTX_REJECT s) (pgMatch m) R.MATCH_CNT_CTX_REJECT ∧
      t.dikar.ops = s.dikar.ops ∧ (mh t m).ents = (mh s m).ents ∧ (mh t m).ovf = (mh s m).ovf) := by
  have hc := msgCounted_looked n k m s
  have hl := hc.trans (ctxLoad_looked m p.ctx _)
  have hx := exec_dikarReq_open hm hop hopen
  rw [msgMatch_rejects (by rwa [hc.source, hc.ctxView])] at hx
  obtain ⟨-, -, -, -, -, -, hquiet⟩ := hm
  obtain ⟨c, v, hhalf⟩ := hl.half
  generalize ctxLoad m p.ctx _ = u at hx hl hhalf
  have hd : (raise (pgMatch m) 0 (bump (pgMatch m) R.MATCH_CNT_CTX_REJECT u)).dikar = u.dikar := by
    rw [raise_dikar, bump_dikar]
  refine ends_settle hx ?_ ⟨evtRaw_raise_self _ _ (by decide), ?_, by rw [hd, hl.ops], ?_, ?_⟩
  · rw [raise_only, bump_only]
    exact (quiet_congr u _ rfl rfl rfl rfl rfl rfl rfl rfl).trans (hl.quiet.trans hquiet)
  · rw [rd_raise_off _ _ _ _ (by decide)]
    exact rd_bump_congr (hl.regs.rd _ _ (by cases m <;> decide)) (hl.regs.rd _ _ (by cases m <;> decide))
  · rw [mh_congr hd, hhalf]
  · rw [mh_congr hd, hhalf]

variable (hm : MsgIs s n k h m p) (hop : p.op = 1) (hopen : ctxIsOpen s p.ctx = true)
  (hsrc : srcOk s p.ctx p.src = true) (hkey : p.key = ctxV s R.CTX_VIEW_1_KEY p.ctx) (hsalv : p.salv = false)
  (hovf : ctxOvf s m p.ctx = [])
include hm hop hopen hsrc hkey hsalv hovf

/-- What becomes of a MSG that is searched for. -/
theorem dikarReq_searched : ∃ x t, Looked m s t ∧ (x.ctx = p.ctx ∧ x.src = p.src ∧ x.mtch = p.w1) ∧
    (∀ i, (search s m p.w1 (ctxBlocks s m p.ctx)).2 = some i →
      ∃ e, exec (.dikarReq n) s = done (settle (opArrive m (ovfOp x (some e)) (entTake m p.ctx i t)))) ∧
    ((search s m p.w1 (ctxBlocks s m p.ctx)).2 = none → exec (.dikarReq n) s =
      done (settle (if ctxV s R.CTX_VIEW_0_OVF_MAX p.ctx = 0 then denyReq m x 1 t else ovfJoin m x t))) := by
  have hc := msgCounted_looked n k m s
  have hx := exec_dikarReq_open hm hop hopen
  obtain ⟨x, t, ht, hreq, hsome, hnone⟩ := msgMatch_searched ((hc.source _ _).trans hsrc)
    (hkey.trans (hc.ctxView _ _).symm) hsalv ((ctxOvf_congr hc.ovf _).trans hovf)
  rw [hc.searched] at hsome hnone
  rw [hc.ctxView] at hnone
  refine ⟨x, t, hc.trans ht, hreq, fun i hi => ?_, fun hi => by rw [hx, hnone hi]⟩
  obtain ⟨e, he⟩ := hsome i hi
  exact ⟨e, by rw [hx, he]⟩

/-- A MSG that an entry takes makes one request (R281, R314). -/
theorem dikarReq_taken (hs : (search s m p.w1 (ctxBlocks s m p.ctx)).2 ≠ none) :
    Ends (.dikarReq n) s (fun t => t.dikar.next = s.dikar.next + 1 ∧ (mh t m).ovf = (mh s m).ovf ∧
      rd t (pgDikar m) R.DIKAR_CNT_REQ = rd (bump (pgDikar m) R.DIKAR_CNT_REQ s) (pgDikar m) R.DIKAR_CNT_REQ) := by
  obtain ⟨x, t, ht, -, hsome, -⟩ := dikarReq_searched hm hop hopen hsrc hkey hsalv hovf
  obtain ⟨i, hi⟩ := Option.ne_none_iff_exists'.mp hs
  obtain ⟨e, hx⟩ := hsome i hi
  obtain ⟨-, -, -, -, -, -, hquiet⟩ := hm
  have htake := entTake_svcStep m p.ctx i t
  obtain ⟨hnext, hkept, hstill⟩ := opArrive_arrives m (ovfOp x (some e)) (entTake m p.ctx i t)
  refine ends_settle hx (hstill.trans (htake.quiet.trans (ht.quiet.trans hquiet)))
    ⟨by rw [hnext, htake.next, ht.next], by rw [hkept, htake.ovf, ht.ovf], ?_⟩
  rw [opArrive_counts rfl]
  exact rd_bump_congr
    ((htake.regs.rd _ _ (by cases m <;> decide)).trans (ht.regs.rd _ _ (by cases m <;> decide)))
    ((htake.regs.rd _ _ (by cases m <;> decide)).trans (ht.regs.rd _ _ (by cases m <;> decide)))

/-- A MSG that no entry takes makes a request all the same where its context has no overflow list (R320). -/
theorem dikarReq_unmatched (hs : (search s m p.w1 (ctxBlocks s m p.ctx)).2 = none)
    (hmax : ctxV s R.CTX_VIEW_0_OVF_MAX p.ctx = 0) :
    Ends (.dikarReq n) s (fun t => t.dikar.next = s.dikar.next + 1 ∧ (mh t m).ovf = (mh s m).ovf ∧
      rd t (pgMatch m) R.MATCH_CNT_NO_MATCH =
        rd (bump (pgMatch m) R.MATCH_CNT_NO_MATCH s) (pgMatch m) R.MATCH_CNT_NO_MATCH) := by
  obtain ⟨x, t, ht, -, -, hnone⟩ := dikarReq_searched hm hop hopen hsrc hkey hsalv hovf
  have hx := hnone hs
  obtain ⟨-, -, -, -, -, -, hquiet⟩ := hm
  rw [if_pos hmax, denyReq] at hx
  have hd : (raise (pgMatch m) 1 (bump (pgMatch m) R.MATCH_CNT_NO_MATCH t)).dikar = t.dikar := by
    rw [raise_dikar, bump_dikar]
  obtain ⟨hnext, hkept, hstill⟩ :=
    opArrive_arrives m (ovfOp x none) (raise (pgMatch m) 1 (bump (pgMatch m) R.MATCH_CNT_NO_MATCH t))
  refine ends_settle hx (hstill.trans ?_) ⟨by rw [hnext, hd, ht.next], by rw [hkept, mh_congr hd, ht.ovf], ?_⟩
  · rw [raise_only, bump_only]
    exact (quiet_congr t _ rfl rfl rfl rfl rfl rfl rfl rfl).trans (ht.quiet.trans hquiet)
  · rw [(opArrive_kept m _ _).rd _ _ (by cases m <;> decide), rd_raise_off _ _ _ _ (by decide)]
    exact rd_bump_congr (ht.regs.rd _ _ (by cases m <;> decide)) (ht.regs.rd _ _ (by cases m <;> decide))

/-- A MSG that no entry takes joins the overflow list of its context, which has room (R320). -/
theorem dikarReq_overflows (hs : (search s m p.w1 (ctxBlocks s m p.ctx)).2 = none)
    (hmax : 0 < ctxV s R.CTX_VIEW_0_OVF_MAX p.ctx) (hroom : (mh s m).ovf.length < 65536) :
    Ends (.dikarReq n) s (fun t => t.dikar.ops = s.dikar.ops ∧
      (∃ x : OvfRec, (mh t m).ovf = (mh s m).ovf ++ [x] ∧ x.ctx = p.ctx ∧ x.src = p.src ∧ x.mtch = p.w1) ∧
      rd t (pgMatch m) R.MATCH_CNT_OVF = rd (bump (pgMatch m) R.MATCH_CNT_OVF s) (pgMatch m) R.MATCH_CNT_OVF) := by
  obtain ⟨x, t, ht, hreq, -, hnone⟩ := dikarReq_searched hm hop hopen hsrc hkey hsalv hovf
  have hx := hnone hs
  obtain ⟨-, -, -, -, -, -, hquiet⟩ := hm
  have hfree : ¬ (ctxV t R.CTX_VIEW_0_OVF_MAX x.ctx ≤ (ctxOvf t m x.ctx).length ∨ 65536 ≤ (mh t m).ovf.length) := by
    rw [ht.ctxView, hreq.1, ctxOvf_congr ht.ovf, hovf, ht.ovf]
    simp only [List.length_nil]
    omega
  rw [if_neg (by omega), ovfJoin, if_neg hfree] at hx
  refine ends_settle hx ?_ ⟨?_, ⟨x, ?_, hreq⟩, ?_⟩
  · rw [bump_only]
    exact (quiet_congr t _ rfl rfl rfl rfl rfl rfl rfl rfl).trans (ht.quiet.trans hquiet)
  · rw [bump_dikar]
    exact ht.ops
  · rw [mh_congr (bump_dikar _ _ _), mhMod_at, if_pos rfl, ht.ovf]
  · exact rd_bump_congr (ht.regs.rd _ _ (by cases m <;> decide)) (ht.regs.rd _ _ (by cases m <;> decide))

end

/-- Settles O28: each clause on a MSG follows the way of its request through R314, and each on a waiting request the
order of R280's checks. -/
theorem requestsAreMatchedAndTakeTheirSlots : Obligations.RequestsAreMatchedAndTakeTheirSlots := by
  unfold Obligations.RequestsAreMatchedAndTakeTheirSlots
  refine ⟨fun s n k h m p hm => ⟨dikarReq_bad hm, fun hop hopen => ⟨dikarReq_rejected hm hop hopen,
    fun hsrc hkey hsalv hovf => ⟨dikarReq_taken hm hop hopen hsrc hkey hsalv hovf,
      dikarReq_unmatched hm hop hopen hsrc hkey hsalv hovf, dikarReq_overflows hm hop hopen hsrc hkey hsalv hovf⟩⟩⟩,
    fun s h d r hq hw hf hd => ⟨opSlotGrant_denied hq hw hf hd, opSlotGrant_turned hq hw hf hd,
      fun e st => opSlotGrant_checked hq hw hf hd, fun e => opSlotGrant_fence hq hw hf hd⟩,
    fun s h => opSlotGrant_idle⟩

end Sys2Proof.Machine
end

section
/-!
SUPPORT. A request that is no FENCE but waits as one.
-/
namespace Sys2Proof.Machine

/-- A PUT of context 0 that stands where FENCEs wait. -/
def strayPut : DOp := {
  id := 0, h := .west, ctx := 0, src := 0, mtch := 0, key := 0, body := [doPUT * 2 ^ 56], home := .west, st := .fence }

/-- A device that holds this one request. -/
def strayHeld : State := { State.reset with dikar := { State.reset.dikar with ops := [strayPut] } }

theorem byQueue_strayHeld : ByQueue strayHeld strayPut := ⟨rfl, rfl, rfl, rfl, rfl, rfl⟩

/-- FENCE_COMPLETE ends it, and counts no FENCE. -/
theorem fenceComplete_strayHeld :
    Ends (.fenceComplete 0) strayHeld (fun t => rd t (pgDikar .west) R.DIKAR_CNT_FENCE = 0) := ⟨_, rfl, by decide⟩

/-- Refutes O31: its clause on FENCE_COMPLETE asks for the counter of FENCEs of any request in the state in which FENCEs
wait, and does not say that the request is a FENCE. `strayHeld` holds a PUT there. -/
theorem not_pullsAndGetsMoveTheirBytes : ¬ Obligations.PullsAndGetsMoveTheirBytes := by
  unfold Obligations.PullsAndGetsMoveTheirBytes
  rintro ⟨-, -, -, hfence, -⟩
  obtain ⟨t, ht, -, -, -, hcount⟩ :=
    hfence strayHeld strayPut (by decide) byQueue_strayHeld rfl rfl (by decide) (by decide)
  obtain ⟨u, hu, hnone⟩ := fenceComplete_strayHeld
  obtain rfl : t = u := Host.Outcome.next.inj (ht.symm.trans hu)
  have hone : rd (bump (pgDikar .west) R.DIKAR_CNT_FENCE strayHeld) (pgDikar .west) R.DIKAR_CNT_FENCE = 1 := by decide
  exact absurd (hnone.symm.trans (hcount.trans hone)) (by decide)

end Sys2Proof.Machine
end

section
/-!
SUPPORT. The admission of the next request of a half (R280, R282, R284-R289).
-/
namespace Sys2Proof.Machine

/-! Lookups where no copy of a name is damaged (R277). -/

theorem nameCheck_undamaged {s : State} (hw : s.place.west.badNames = []) (he : s.place.east.badNames = []) (h : Half)
    (i : Nat) : nameCheck h s i = s := by
  unfold nameCheck
  simp [hw, he]

theorem nameLook_undamaged {s : State} (hw : s.place.west.badNames = []) (he : s.place.east.badNames = []) (h : Half)
    (name : Nat) : nameLook h name s = (s, nameFind s name) := by
  have hs : (namePath s name).foldl (nameCheck h) s = s := List.foldl_fixed' (nameCheck_undamaged hw he h) _
  rw [nameLook, hs]

/-! A lookup reads the entries and the table's size alone. -/

theorem nameAt_congr {s t : State} (hn : t.objs.names = s.objs.names) (i : Nat) : nameAt t i = nameAt s i := by
  rw [nameAt, hn, nameAt]

section
variable {s t : State} (hn : t.objs.names = s.objs.names) (hz : nameSize t = nameSize s)
include hn hz

theorem probe_congr (name k i : Nat) : probe t name k i = probe s name k i := by
  induction k generalizing i with
  | zero => rfl
  | succ k ih =>
    rw [probe, probe]
    simp only [nameAt_congr hn, hz, ih]

theorem namePath_congr (name : Nat) : namePath t name = namePath s name := by
  rw [namePath, namePath, nameHash, nameHash, hz, hn, probe_congr hn hz]

theorem nameFind_congr (name : Nat) : nameFind t name = nameFind s name := by
  simp only [nameFind, namePath_congr hn hz, nameAt_congr hn]

theorem freeSlotOf_congr (name : Nat) : freeSlotOf t (namePath t name) = freeSlotOf s (namePath s name) := by
  simp only [freeSlotOf, namePath_congr hn hz, nameAt_congr hn]

theorem nameFull_congr (name : Nat) : nameFull t name = nameFull s name := by
  unfold nameFull namesUsed
  rw [freeSlotOf_congr hn hz, hz, hn]
  split
  · rw [nameAt_congr hn]
  · rfl

end

/-! A request that has left its admission queue. -/

theorem dikar_framed {s v u : State} (hv : v = { s with dikar := v.dikar }) (hu : u = { v with dikar := u.dikar }) :
    u = { s with dikar := u.dikar } := by
  rw [hv] at hu
  exact hu

/-- `v` is `s` where request `d` has left its queue, the last that waited there, and stands as `x`: the same request,
with what its name stands for. -/
structure Admitted (s : State) (d x : DOp) (v : State) : Prop where
  frame : v = { s with dikar := v.dikar }
  halves : v.dikar.halves = s.dikar.halves
  queue : v.dikar.queue = ⟨[], []⟩
  get : opGet v d.id = some x
  same : x = { d with
    obj := x.obj, size := x.size, gen := x.gen, group := x.group, off := x.off, bytes := x.bytes, st := x.st }
  asked : ByQueue s d

/-- The record of a request whose name stands for `e`. -/
def resolved (e : NameEnt) (x : DOp) : DOp := { x with obj := e.objId, size := e.size, gen := e.gen, group := e.group }

section
variable {s v : State} {d x : DOp} {h : Half}

theorem Admitted.id (ha : Admitted s d x v) : x.id = d.id := by rw [ha.same]

theorem Admitted.byQueue (ha : Admitted s d x v) : ByQueue v x := by
  obtain ⟨-, hreply, hring, hmute, hwrite, hforced⟩ := ha.asked
  have hmh : mh v d.h = mh s d.h := congrArg (PerHalf.at · d.h) ha.halves
  rw [← hmh] at hforced
  refine ⟨ha.id ▸ ha.get, ?_, ?_, ?_, ?_, ?_⟩ <;> rw [ha.same] <;> assumption

theorem Admitted.quiet (ha : Admitted s d x v) : quiet v = quiet s := by
  rw [ha.frame]
  exact quiet_congr _ _ rfl rfl rfl rfl rfl rfl rfl rfl

theorem Admitted.emptyQueue (ha : Admitted s d x v) (g : Half) : v.dikar.queue.at g = [] := by
  rw [ha.queue]
  cases g <;> rfl

/-- A completion of the request as it stands is one of the request as it came. -/
theorem Admitted.completed {t : State} {st : Nat} (ha : Admitted s d x v) (hc : Completed x st v t) :
    Completed d st s t := by
  have hx : Completed x st v t = Completed d st v t := by
    rw [ha.same]
    rfl
  rw [hx] at hc
  exact hc.since (congrArg (fun m => (tget {} (PerHalf.at m d.h).cqs d.ctx).recs) ha.halves)

/-- The request as it stands changes in what its name or its operation gives. -/
theorem Admitted.opMod {f : DOp → DOp} (ha : Admitted s d x v) (hf : ∀ y, f y = { y with
      obj := (f y).obj, size := (f y).size, gen := (f y).gen, group := (f y).group, off := (f y).off
      bytes := (f y).bytes, st := (f y).st }) : Admitted s d (f x) (opMod d.id f v) := by
  refine ⟨?_, ha.halves, ha.queue, opGet_opMod (fun y => by rw [hf]) ha.get, ?_, ha.asked⟩
  · exact dikar_framed ha.frame rfl
  · have hfx := hf x
    rw [ha.same] at hfx ⊢
    exact hfx

theorem unqueue_admitted (hn : AdmitNext s h d) : Admitted s d d (unqueue d.id s) := by
  obtain ⟨-, hq, hqt, -, -, -, -, hby, -⟩ := hn
  refine ⟨rfl, rfl, ?_, hby.queued.get, rfl, hby⟩
  cases h
  all_goals
    rw [unqueue, dkMod]
    simp only [PerHalf.at, Half.twin] at hq hqt
    simp [hq, hqt]

/-! How an admission ends. -/

/-- The admission of `d` has come to state `t`. -/
def AdmitsTo (s : State) (h : Half) (t : State) : Prop := exec (.admission h) s = done (settle t)

theorem Admitted.fails {st : Nat} (ha : Admitted s d x v) (hn : AdmitNext s h d)
    (hx : AdmitsTo s h (opFail d.id st v)) :
    Ends (.admission h) s (fun t => Completed d st s t ∧ t.dikar.queue.at h = []) := by
  obtain ⟨hquiet, -⟩ := hn
  rw [← ha.id] at hx
  refine ends_settle hx ((opFail_svcStep _ _ _).quiet.trans (ha.quiet.trans hquiet))
    ⟨ha.completed (opFail_completes ha.byQueue.queued st), ?_⟩
  rw [opFail_queue ha.byQueue.queued, ha.emptyQueue]
  rfl

theorem Admitted.completes {st : Nat} {y : Said} (ha : Admitted s d x v) (hn : AdmitNext s h d)
    (hx : AdmitsTo s h (opEnd d.id st y v)) :
    Ends (.admission h) s (fun t => Completed d st s t ∧ t.dikar.queue.at h = []) := by
  obtain ⟨hquiet, -⟩ := hn
  rw [← ha.id] at hx
  refine ends_settle hx ((opEnd_svcStep _ _ _ _).quiet.trans (ha.quiet.trans hquiet))
    ⟨ha.completed (opEnd_completes ha.byQueue.queued st y), ?_⟩
  rw [opEnd_queue ha.byQueue.queued, ha.emptyQueue]
  rfl

theorem Admitted.stands (ha : Admitted s d x v) (hn : AdmitNext s h d) (hx : AdmitsTo s h v) :
    Ends (.admission h) s (fun t =>
      opGet t d.id = some x ∧ t.dikar.queue.at h = [] ∧ t = { s with dikar := t.dikar }) := by
  obtain ⟨hquiet, -⟩ := hn
  exact ends_settle hx (ha.quiet.trans hquiet) ⟨ha.get, ha.emptyQueue h, ha.frame⟩

/-! The three ways of an admission: the name is absent, at home on the other half, at home here (R282). -/

theorem admission_looks (hn : AdmitNext s h d) : admission h s =
    if nameHome h (nameFind s d.name) ≠ h then opSend d.id (nameHome h (nameFind s d.name)) (unqueue d.id s)
    else
      match nameFind s d.name with
      | some (_, e) => admitFound d.id h e (Machine.opMod d.id (resolved e) (unqueue d.id s))
      | none => admitAbsent d.id h (unqueue d.id s) := by
  obtain ⟨-, hq, -, hb, hh, hw, he, hby, -⟩ := hn
  have hget := hby.queued.get
  have hnext : nextAdmit s [] (s.dikar.queue.at h) = some d.id := by
    rw [hq]
    simp [nextAdmit, hget, hb]
  have hlook : nameLook h d.name (unqueue d.id s) = (unqueue d.id s, nameFind s d.name) := by
    rw [nameLook_undamaged (s := unqueue d.id s) hw he, nameFind_congr (s := s) (t := unqueue d.id s) rfl rfl]
  unfold admission
  simp only [hnext, hget, hh, ne_eq, not_true_eq_false, false_and, if_false, hlook]
  rfl

theorem admission_absent (hn : AdmitNext s h d) (ha : nameFind s d.name = none) :
    AdmitsTo s h (admitAbsent d.id h (unqueue d.id s)) := by
  have hx := admission_looks hn
  rw [ha, if_neg (by simp [nameHome])] at hx
  exact congrArg (fun t => done (settle t)) hx

theorem admission_crosses (hn : AdmitNext s h d) {i : Nat} {e : NameEnt} (hf : nameFind s d.name = some (i, e))
    (he : objHome e.objId = h.twin) : AdmitsTo s h (opSend d.id h.twin (unqueue d.id s)) := by
  have hx := admission_looks hn
  have hhome : nameHome h (some (i, e)) = h.twin := he
  rw [hf, hhome, if_pos (by cases h <;> decide)] at hx
  exact congrArg (fun t => done (settle t)) hx

theorem admission_found (hn : AdmitNext s h d) {i : Nat} {e : NameEnt} (hf : nameFind s d.name = some (i, e))
    (he : objHome e.objId = h) :
    AdmitsTo s h (admitFound d.id h e (Machine.opMod d.id (resolved e) (unqueue d.id s))) := by
  have hx := admission_looks hn
  have hhome : nameHome h (some (i, e)) = h := he
  rw [hf, hhome, if_neg (by simp)] at hx
  exact congrArg (fun t => done (settle t)) hx

end

end Sys2Proof.Machine
end

section
/-!
SUPPORT. What each answer to an admission is (R280, R284-R289).
-/
namespace Sys2Proof.Machine

section
variable {s v : State} {d x : DOp} {h : Half}

/-! The name is absent (R280, R284). -/

theorem admitAbsent_fails (hget : opGet v d.id = some d) (hdop : d.dop ≠ doCOLL) {st : Nat}
    (hst : (d.creates = false ∧ st = stNOT_FOUND) ∨ (d.creates = true ∧ d.condGen ≠ 0 ∧ st = stGEN_MISMATCH) ∨
      (d.creates = true ∧ d.condGen = 0 ∧ nameFull v d.name = true ∧ st = stNO_SPACE)) :
    admitAbsent d.id h v = opFail d.id st v := by
  unfold admitAbsent admitFail
  rcases hst with ⟨hc, rfl⟩ | ⟨hc, hg, rfl⟩ | ⟨hc, hg, hf, rfl⟩
  · simp [hget, hdop, hc]
  · simp [hget, hdop, hc, hg]
  · simp [hget, hdop, hc, hg, hf]

theorem admitAbsent_creates (hget : opGet v d.id = some d) (hdop : d.dop ≠ doCOLL) (hc : d.creates = true)
    (hg : d.condGen = 0) (hf : nameFull v d.name = false) :
    admitAbsent d.id h v = opMod d.id (fun y => { y with st := .step }) v := by
  unfold admitAbsent
  simp [hget, hdop, hc, hg, hf]

/-! Its object is at home on the other half (R282). -/

theorem opSend_crosses (ha : Admitted s d d v) (hst : d.st = .admitting) (hh : d.h = h) (hup : xstepOk s = true) :
    (opSend d.id h.twin v).dikar.queue.at h = [] ∧ (opSend d.id h.twin v).dikar.queue.at h.twin = [d.id] ∧
      opGet (opSend d.id h.twin v) d.id = some { d with home := h.twin } ∧
      opSend d.id h.twin v = { s with dikar := (opSend d.id h.twin v).dikar } := by
  have hxs : xstepOk v = true := by
    rw [ha.frame, ← hup]
    rfl
  have hsend : opSend d.id h.twin v =
      dkMod (fun k => { k with queue := k.queue.put h.twin (k.queue.at h.twin ++ [d.id]) })
        (opMod d.id (fun y => { y with st := .admitting, home := h.twin }) v) := by
    unfold opSend
    simp [ha.get, hxs]
  have hput : (opSend d.id h.twin v).dikar.queue = v.dikar.queue.put h.twin (v.dikar.queue.at h.twin ++ [d.id]) := by
    rw [hsend]
    rfl
  refine ⟨?_, ?_, ?_, ?_⟩
  · rw [hput, ha.queue]
    cases h <;> rfl
  · rw [hput, ha.queue]
    cases h <;> rfl
  · have hd : { d with home := h.twin } = { d with st := .admitting, home := h.twin } := by rw [← hst]
    rw [hsend, hd]
    exact opGet_opMod (f := fun y => { y with st := .admitting, home := h.twin }) (fun _ => by rfl) ha.get
  · rw [hsend]
    exact dikar_framed ha.frame rfl

/-! It is at home here (R280, R284-R289). -/

theorem admitFound_stat (hget : opGet v d.id = some x) (hdop : x.dop = doSTAT) (e : NameEnt) :
    ∃ y, admitFound d.id h e v = opEnd d.id stOK y v := by
  unfold admitFound
  simp only [hget, hdop, if_true]
  exact ⟨_, rfl⟩

theorem admitFound_lost (hget : opGet v d.id = some x) (hdop : x.dop = doGET) {e : NameEnt}
    (hb : min x.len (e.size - x.offset) ≠ 0)
    (hl : lostHit v x.obj x.offset (min x.len (e.size - x.offset)) = true) :
    admitFound d.id h e v = opFail d.id stMEDIA_LOST
      (opMod d.id (fun y => { y with off := x.offset, bytes := min x.len (e.size - x.offset) }) v) := by
  unfold admitFound
  simp only [hget]
  rw [if_neg (by rw [hdop]; decide), if_pos hdop, if_pos ⟨hb, hl⟩]

theorem admitFound_exists (hget : opGet v d.id = some x) (hdop : x.dop = doPUT) (hc : x.create = true)
    (hx : x.excl = true) (e : NameEnt) : admitFound d.id h e v = opFail d.id stEXISTS v := by
  unfold admitFound
  simp [hget, hdop, hc, hx, doPUT, doSTAT, doGET, doCOLL]

/-- A write or a DELETE, of no collective and creating nothing. -/
def ChangesFound (x : DOp) : Prop :=
  (x.dop = doPUT ∨ x.dop = doAPPEND ∨ x.dop = doDELETE) ∧ (x.dop = doPUT → x.create = false)

theorem admitFound_changes (hget : opGet v d.id = some x) (hx : ChangesFound x) (e : NameEnt) : admitFound d.id h e v =
    if x.condGen ≠ 0 ∧ x.condGen ≠ e.gen then opFail d.id stGEN_MISMATCH v
    else if x.dop = doDELETE then opMod d.id (fun y => { y with st := .step }) v
    else writeAdmit d.id h e false v := by
  obtain ⟨hdop, hput⟩ := hx
  have hexcl : ¬ (x.dop = doPUT ∧ x.create = true ∧ x.excl = true) := fun ⟨hp, hc, _⟩ => by simp [hput hp] at hc
  have hother : x.dop ≠ doSTAT ∧ x.dop ≠ doGET ∧ x.dop ≠ doCOLL := by
    simp only [doPUT, doAPPEND, doDELETE, doSTAT, doGET, doCOLL] at hdop ⊢
    omega
  obtain ⟨hstat, hgetd, hcoll⟩ := hother
  unfold admitFound
  simp only [hget]
  rw [if_neg hstat, if_neg hgetd, if_neg hcoll, if_neg hexcl]

/-- The state in which request `d`, which stands as `x`, begins to pull. -/
def pullBegun (d x : DOp) (v : State) : State :=
  opMod d.id (fun y => { y with st := .pull, off := x.offset, write := some v.objs.next })
    (writeNew x.obj x.home [(x.offset, x.len)] [(d.id, x.ctx)] none v).1

/-- A PUT of some bytes begins to pull into a new write of its range (R284). -/
theorem writeAdmit_put (hget : opGet v d.id = some x) (hdop : x.dop = doPUT) (hlen : x.len ≠ 0) (e : NameEnt)
    (fresh : Bool) : writeAdmit d.id h e fresh v = pullBegun d x v := by
  unfold writeAdmit writeBegin
  simp [hget, hdop, hlen, doPUT, doAPPEND, doCOLL]
  rfl

theorem pullBegun_frame (d x : DOp) (v : State) :
    pullBegun d x v = { v with dikar := (pullBegun d x v).dikar, objs := (pullBegun d x v).objs } := rfl

theorem pullBegun_of_admitted (ha : Admitted s d x v) :
    opGet (pullBegun d x v) d.id = some { x with st := .pull, off := x.offset, write := some s.objs.next } ∧
      (pullBegun d x v).objs.writes = s.objs.writes ++ [{
        id := s.objs.next, obj := x.obj, home := x.home, ranges := [(x.offset, x.len)], ops := [(d.id, x.ctx)],
        coll := none }] ∧
      pullBegun d x v = { s with
        dikar := (pullBegun d x v).dikar, objs := (pullBegun d x v).objs } := by
  have hobjs : v.objs = s.objs := by rw [ha.frame]
  refine ⟨?_, ?_, ?_⟩
  · rw [← hobjs]
    exact opGet_opMod (f := fun y => { y with st := .pull, off := x.offset, write := some v.objs.next })
      (fun _ => by rfl) ha.get
  · rw [← hobjs]
    rfl
  · have hu := pullBegun_frame d x v
    generalize pullBegun d x v = u at hu ⊢
    rw [ha.frame] at hu
    exact hu

end

/-! The clauses of O29. -/

section
variable {s : State} {h : Half} {d : DOp} (hn : AdmitNext s h d) (hdop : d.dop ≠ doCOLL)
include hn

theorem resolved_admitted (e : NameEnt) :
    Admitted s d (resolved e d) (opMod d.id (resolved e) (unqueue d.id s)) :=
  (unqueue_admitted hn).opMod (fun _ => rfl)

section
variable (hnone : nameFind s d.name = none)
include hdop hnone

theorem admission_absent_fails {st : Nat} (hst : (d.creates = false ∧ st = stNOT_FOUND) ∨
      (d.creates = true ∧ d.condGen ≠ 0 ∧ st = stGEN_MISMATCH) ∨
      (d.creates = true ∧ d.condGen = 0 ∧ nameFull s d.name = true ∧ st = stNO_SPACE)) :
    Ends (.admission h) s (fun t => Completed d st s t ∧ t.dikar.queue.at h = []) := by
  have ha := unqueue_admitted hn
  have hx := admission_absent hn hnone
  rw [← nameFull_congr (s := s) (t := unqueue d.id s) rfl rfl] at hst
  rw [admitAbsent_fails ha.get hdop hst] at hx
  exact ha.fails hn hx

theorem admission_absent_creates (hc : d.creates = true) (hg : d.condGen = 0) (hf : nameFull s d.name = false) :
    Ends (.admission h) s (fun t => opGet t d.id = some { d with st := .step } ∧ t.dikar.queue.at h = [] ∧
      t = { s with dikar := t.dikar }) := by
  have ha := unqueue_admitted hn
  have hx := admission_absent hn hnone
  rw [← nameFull_congr (s := s) (t := unqueue d.id s) rfl rfl] at hf
  rw [admitAbsent_creates ha.get hdop hc hg hf] at hx
  exact (ha.opMod (f := fun y => { y with st := .step }) (fun _ => rfl)).stands hn hx

end

section
variable {i : Nat} {e : NameEnt} (hfind : nameFind s d.name = some (i, e))
include hfind

theorem admission_sends (he : objHome e.objId = h.twin) (hup : xstepOk s = true) :
    Ends (.admission h) s (fun t => t.dikar.queue.at h = [] ∧ t.dikar.queue.at h.twin = [d.id] ∧
      opGet t d.id = some { d with home := h.twin } ∧ t = { s with dikar := t.dikar }) := by
  have hx := admission_crosses hn hfind he
  have ha := unqueue_admitted hn
  obtain ⟨hquiet, -, -, -, hh, -, -, -, hst⟩ := hn
  obtain ⟨hq, hqt, hget, hframe⟩ := opSend_crosses ha hst hh hup
  refine ends_settle hx ?_ ⟨hq, hqt, hget, hframe⟩
  rw [hframe]
  exact (quiet_congr s _ rfl rfl rfl rfl rfl rfl rfl rfl).trans hquiet

variable (he : objHome e.objId = h)
include he

theorem admission_stat (hd : d.dop = doSTAT) :
    Ends (.admission h) s (fun t => Completed d stOK s t ∧ t.dikar.queue.at h = []) := by
  have ha := resolved_admitted hn e
  have hx := admission_found hn hfind he
  obtain ⟨y, hy⟩ := admitFound_stat (h := h) ha.get hd e
  rw [hy] at hx
  exact ha.completes hn hx

theorem admission_lost (hd : d.dop = doGET) (hb : min d.len (e.size - d.offset) ≠ 0)
    (hl : lostHit s e.objId d.offset (min d.len (e.size - d.offset)) = true) :
    Ends (.admission h) s (fun t => Completed d stMEDIA_LOST s t ∧ t.dikar.queue.at h = []) := by
  have ha := resolved_admitted hn e
  have hx := admission_found hn hfind he
  rw [admitFound_lost ha.get hd hb hl] at hx
  have hb := ha.opMod (f := fun y => { y with off := d.offset, bytes := min d.len (e.size - d.offset) }) (fun _ => rfl)
  exact hb.fails hn hx

theorem admission_exists (hd : d.dop = doPUT) (hc : d.create = true) (hexcl : d.excl = true) :
    Ends (.admission h) s (fun t => Completed d stEXISTS s t ∧ t.dikar.queue.at h = []) := by
  have ha := resolved_admitted hn e
  have hx := admission_found hn hfind he
  rw [admitFound_exists ha.get hd hc hexcl] at hx
  exact ha.fails hn hx

theorem admission_changes (hd : ChangesFound d) : AdmitsTo s h
    (if d.condGen ≠ 0 ∧ d.condGen ≠ e.gen then opFail d.id stGEN_MISMATCH (opMod d.id (resolved e) (unqueue d.id s))
    else if d.dop = doDELETE then
      opMod d.id (fun y => { y with st := .step }) (opMod d.id (resolved e) (unqueue d.id s))
    else writeAdmit d.id h e false (opMod d.id (resolved e) (unqueue d.id s))) := by
  have hx := admission_found hn hfind he
  rw [admitFound_changes (resolved_admitted hn e).get hd] at hx
  exact hx

theorem admission_mismatch (hd : ChangesFound d) (hc : d.condGen ≠ 0) (hg : d.condGen ≠ e.gen) :
    Ends (.admission h) s (fun t => Completed d stGEN_MISMATCH s t ∧ t.dikar.queue.at h = []) := by
  have hx := admission_changes hn hfind he hd
  rw [if_pos ⟨hc, hg⟩] at hx
  exact (resolved_admitted hn e).fails hn hx

theorem admission_delete (hd : d.dop = doDELETE) (hg : d.condGen = 0 ∨ d.condGen = e.gen) :
    Ends (.admission h) s (fun t =>
      opGet t d.id = some { d with obj := e.objId, size := e.size, gen := e.gen, group := e.group, st := .step } ∧
      t.dikar.queue.at h = [] ∧ t = { s with dikar := t.dikar }) := by
  have hchanges : ChangesFound d := ⟨.inr (.inr hd), fun hp => absurd (hp.symm.trans hd) (by decide)⟩
  have hx := admission_changes hn hfind he hchanges
  rw [if_neg (by tauto), if_pos hd] at hx
  exact ((resolved_admitted hn e).opMod (f := fun y => { y with st := .step }) (fun _ => rfl)).stands hn hx

theorem admission_pulls (hd : d.dop = doPUT) (hc : d.create = false) (hg : d.condGen = 0 ∨ d.condGen = e.gen)
    (hlen : d.len ≠ 0) :
    Ends (.admission h) s (fun t =>
      opGet t d.id = some { d with
        obj := e.objId, size := e.size, gen := e.gen, group := e.group, st := .pull, off := d.offset,
        write := some s.objs.next } ∧
      t.objs.writes = s.objs.writes ++ [{
        id := s.objs.next, obj := e.objId, home := d.home, ranges := [(d.offset, d.len)], ops := [(d.id, d.ctx)],
        coll := none }] ∧
      t = { s with dikar := t.dikar, objs := t.objs }) := by
  have hx := admission_changes hn hfind he ⟨.inl hd, fun _ => hc⟩
  have ha := resolved_admitted hn e
  rw [if_neg (by tauto), if_neg (by rw [hd]; decide), writeAdmit_put ha.get hd hlen] at hx
  obtain ⟨hquiet, -⟩ := hn
  obtain ⟨hget, hwrites, hframe⟩ := pullBegun_of_admitted ha
  generalize pullBegun d (resolved e d) _ = u at hx hget hwrites hframe
  refine ends_settle hx ?_ ⟨hget, hwrites, hframe⟩
  rw [hframe]
  exact (quiet_congr s _ rfl rfl rfl rfl rfl rfl rfl rfl).trans hquiet

end

end

/-- Settles O29: the request leaves its queue, and its name, its half and then the checks of R280 decide. -/
theorem admissionAnswersByTheName : Obligations.AdmissionAnswersByTheName := by
  unfold Obligations.AdmissionAnswersByTheName
  intro s h d hn hdop
  refine ⟨fun ha hc => admission_absent_fails hn hdop ha (.inl ⟨hc, rfl⟩),
    fun ha hc hg => admission_absent_fails hn hdop ha (.inr (.inl ⟨hc, hg, rfl⟩)),
    fun ha hc hg hf => admission_absent_fails hn hdop ha (.inr (.inr ⟨hc, hg, hf, rfl⟩)),
    admission_absent_creates hn hdop, fun i e hf => admission_sends hn hf, fun i e hf he => ?_⟩
  exact ⟨admission_stat hn hf he, admission_lost hn hf he, admission_exists hn hf he,
    fun hd hc => admission_mismatch hn hf he ⟨hd, hc⟩, admission_delete hn hf he, admission_pulls hn hf he⟩

end Sys2Proof.Machine
end

section
/-!
SUPPORT. A step of the name table in the journals, and the requests that wait for their namespace step (R277, R279,
R381, R382).
-/
namespace Sys2Proof.Machine

/-! A step journalled (R381, R382). -/

/-- `t` is `s` with what the journals change: their records, the line writes that they cost, their events. -/
def JournalStep (s t : State) : Prop :=
  t = { s with regs := t.regs, strikes := t.strikes, freeSeq := t.freeSeq, jrnl := t.jrnl }

theorem JournalStep.trans {s t u : State} (h1 : JournalStep s t) (h2 : JournalStep t u) : JournalStep s u := by
  unfold JournalStep at *
  rw [h1] at h2
  exact h2

theorem JournalStep.objs {s t : State} (h : JournalStep s t) : t.objs = s.objs := by rw [h]

theorem JournalStep.dikar {s t : State} (h : JournalStep s t) : t.dikar = s.dikar := by rw [h]

/-- The line writes of a step of half `h`'s journal are counted. -/
def stepCounted (h : Half) (s : State) : State :=
  (List.range 4).foldl (fun t i => addLines (4 * h.num + i) (Config.stepLines s.freeSeq i) t)
    { s with freeSeq := s.freeSeq + 1 }

theorem foldl_addLines_framed (f g : Nat → Nat) (l : List Nat) (s : State) :
    l.foldl (fun t i => addLines (f i) (g i) t) s = { s with
      regs := (l.foldl (fun t i => addLines (f i) (g i) t) s).regs
      strikes := (l.foldl (fun t i => addLines (f i) (g i) t) s).strikes } := by
  induction l generalizing s with
  | nil => rfl
  | cons i r ih => rw [List.foldl_cons, ih, addLines_only]

theorem stepCounted_only (h : Half) (s : State) : stepCounted h s = { s with
    regs := (stepCounted h s).regs, strikes := (stepCounted h s).strikes, freeSeq := s.freeSeq + 1 } := by
  unfold stepCounted
  rw [foldl_addLines_framed]

theorem jrnl_eq (h : Half) (s : State) : jrnl h s =
    if jrnlRoom s h then jrnlMod h (fun j => { j with
      jseq := (j.jseq + (stepShape s).1) % 2 ^ 64, fill := j.fill + (stepShape s).2 }) (stepCounted h s)
    else jrnlWait h (jrnlMod h (fun j => { j with owed := j.owed ++ [stepShape s] }) (stepCounted h s)) := rfl

theorem jrnlMod_step (h : Half) (f : Jrnl → Jrnl) (s : State) : JournalStep s (jrnlMod h f s) := rfl

theorem jrnlWait_step (h : Half) (s : State) : JournalStep s (jrnlWait h s) := by
  unfold JournalStep jrnlWait
  rw [raiseIf_only, bump_only]
  rfl

theorem jrnl_step (h : Half) (s : State) : JournalStep s (jrnl h s) := by
  have hc : JournalStep s (stepCounted h s) := by
    unfold JournalStep
    rw [stepCounted_only]
  rw [jrnl_eq]
  split
  · exact hc.trans (jrnlMod_step _ _ _)
  · exact hc.trans ((jrnlMod_step _ _ _).trans (jrnlWait_step _ _))

theorem jrnlBoth_step (h : Half) (s : State) : JournalStep s (jrnlBoth h s) := (jrnl_step _ _).trans (jrnl_step _ _)

theorem nameJrnl_step (h : Half) (s : State) : JournalStep s (nameJrnl h s) := by
  unfold nameJrnl
  split
  · exact jrnl_step _ _
  · exact jrnlBoth_step _ _

/-- Half `k`'s journal holds a step more, or owes one more. -/
def JrnlGrows (k : Half) (s t : State) : Prop :=
  (s.jrnl.at k).fill < (t.jrnl.at k).fill ∨ (s.jrnl.at k).owed.length < (t.jrnl.at k).owed.length

theorem jrnlMod_at (h g : Half) (f : Jrnl → Jrnl) (s : State) :
    (jrnlMod h f s).jrnl.at g = if g = h then f (s.jrnl.at h) else s.jrnl.at g := by
  cases h <;> cases g <;> rfl

theorem jrnl_grows (h : Half) (s : State) : JrnlGrows h s (jrnl h s) := by
  have hc : (stepCounted h s).jrnl = s.jrnl := by rw [stepCounted_only]
  have hlines := stepShape_le s
  unfold JrnlGrows
  rw [jrnl_eq]
  split
  · left
    rw [jrnlMod_at, if_pos rfl, hc]
    dsimp only
    omega
  · right
    have hw : ∀ t : State, ((jrnlWait h t).jrnl.at h).owed = (t.jrnl.at h).owed := fun t => by
      rw [jrnlWait, raiseIf_jrnl, jrnlMod_at, if_pos rfl, bump_jrnl]
    rw [hw, jrnlMod_at, if_pos rfl, hc]
    simp

theorem jrnl_other {h g : Half} (hg : g ≠ h) (s : State) : (jrnl h s).jrnl.at g = s.jrnl.at g := by
  have hc : (stepCounted h s).jrnl = s.jrnl := by rw [stepCounted_only]
  rw [jrnl_eq]
  split
  · rw [jrnlMod_at, if_neg hg, hc]
  · rw [jrnlWait, raiseIf_jrnl, jrnlMod_at, if_neg hg, bump_jrnl, jrnlMod_at, if_neg hg, hc]

/-- A step of the name table is journalled on both halves (R277, R382). -/
theorem nameJrnl_grows {s : State} (hs : s.boot.single = none) (h k : Half) : JrnlGrows k s (nameJrnl h s) := by
  have hboth : nameJrnl h s = jrnl h (jrnl h.twin s) := by
    rw [nameJrnl, hs]
    rfl
  rw [hboth, JrnlGrows]
  by_cases hk : k = h
  · subst hk
    have hgrows := jrnl_grows k (jrnl k.twin s)
    rwa [JrnlGrows, jrnl_other (by cases k <;> decide)] at hgrows
  · obtain rfl : k = h.twin := by cases h <;> cases k <;> simp_all [Half.twin]
    rw [jrnl_other (by cases h <;> decide)]
    exact jrnl_grows _ _

/-! A request that waits for its namespace step (R279). -/

section
variable {s : State} {h : Half} {d : DOp}

theorem admitFail_fails {u : State} {st : Nat} (hget : opGet u d.id = some d) (hdop : d.dop ≠ doCOLL) (g : Half) :
    admitFail d.id st g u = opFail d.id st u := by
  unfold admitFail
  simp [hget, hdop]

theorem namespaceStep_reaches (hw : StepWaits s h d) : namespaceStep h d.id s =
    if holds s h = false ∨ primLost s h = true then opFail d.id stRETRY s
    else if holdsLong s h = false ∨ xstepOk s = false then s
    else if !nameRoom s h then jrnlWait h s
    else if d.dop = doDELETE then deleteStep h d.id s
    else createStep h d.id s := by
  obtain ⟨hby, hst, hstep, hspan, hdop, -⟩ := hw
  have hget := hby.queued.get
  have hgo : ¬ (d.st ≠ .step ∨ stepBy s d.home ≠ h ∨ (h ≠ d.home ∧ s.boot.span = false)) := by
    rintro (hn | hn | ⟨hn, hdown⟩)
    · exact hn hst
    · exact hn hstep
    · rcases hspan with hh | hup
      · exact hn hh
      · simp [hup] at hdown
  unfold namespaceStep
  simp only [hget]
  rw [if_neg hgo, admitFail_fails hget hdop]

theorem opFail_ends {c : Instr} {st : Nat} (hx : exec c s = done (settle (opFail d.id st s))) (hby : ByQueue s d)
    (hq : quiet s = true) : Ends c s (Completed d st s) :=
  ends_settle hx ((opFail_svcStep _ _ _).quiet.trans hq) (opFail_completes hby.queued st)

theorem namespaceStep_turned (hw : StepWaits s h d) (hno : holds s h = false ∨ primLost s h = true) :
    Ends (.namespaceStep h d.id) s (Completed d stRETRY s) := by
  have hx : exec (.namespaceStep h d.id) s = done (settle (namespaceStep h d.id s)) := rfl
  rw [namespaceStep_reaches hw, if_pos hno] at hx
  obtain ⟨hby, -, -, -, -, hq⟩ := hw
  exact opFail_ends hx hby hq

theorem holds_of_holdsLong (hl : holdsLong s h = true) : holds s h = true := by
  unfold holdsLong at hl
  unfold holds
  split
  · rename_i t ht
    simp only [ht, decide_eq_true_eq] at hl ⊢
    omega
  · rename_i ht
    simp [ht] at hl

theorem nsTimeout_retries {stood : Bool} (hby : ByQueue s d) (hst : d.st = .step) (hhome : d.home = h)
    (hdop : d.dop ≠ doCOLL) (hq : quiet s = true) (hno : (holds s h && xstepOk s) = false)
    (hstood : stood = false ∨ holds s h.twin = false) : Ends (.nsTimeout h d.id stood) s (Completed d stRETRY s) := by
  have hget := hby.queued.get
  have hok : (stood && !holds s h && holdsLong s h.twin && xstepOk s && nameRoom s h.twin) = false := by
    rcases hstood with rfl | hn
    · rfl
    · have hl : holdsLong s h.twin = false := by
        cases hl : holdsLong s h.twin
        · rfl
        · rw [holds_of_holdsLong hl] at hn
          exact hn
      simp [hl]
  have hx : exec (.nsTimeout h d.id stood) s = done (settle (nsTimeout h d.id stood s)) := rfl
  have hfail : nsTimeout h d.id stood s = opFail d.id stRETRY s := by
    unfold nsTimeout
    simp only [hget, hst, hhome, hno, hok, ne_eq, not_true_eq_false, Bool.false_eq_true, or_self, if_false]
    exact admitFail_fails hget hdop h
  rw [hfail] at hx
  exact opFail_ends hx hby hq

end

/-! A held merge (R285). -/

theorem mergeRetry_starts {s : State} {id : Nat} {x : Stripe} (hx : stpGet s id = some x) (hh : x.held = true) :
    exec (.mergeRetry id) s = .next (settle (mergeStart id (stpMod id (fun y => { y with held := false }) s))) := by
  have hr : mergeRetry id s = mergeStart id (stpMod id (fun y => { y with held := false }) s) := by
    unfold mergeRetry
    simp only [hx, hh, if_true]
  exact congrArg (fun t => done (settle t)) hr

theorem mergeRetry_leaves {s : State} {id : Nat} {x : Stripe} (hx : stpGet s id = some x) (hh : x.held = false)
    (hq : quiet s = true) : exec (.mergeRetry id) s = .next s := by
  have hr : mergeRetry id s = s := by
    unfold mergeRetry
    simp [hx, hh]
  exact exec_settled (congrArg (fun t => done (settle t)) hr) hq

end Sys2Proof.Machine
end

section
/-!
SUPPORT. Slots of the name table written and given up, and compaction (R277, R278).
-/
namespace Sys2Proof.Machine

/-! A slot written. -/

@[simp] theorem nameAt_namePut_self (i : Nat) (e : NameEnt) (s : State) : nameAt (namePut i e s) i = e :=
  tget_tput_self _ _ _ _

theorem nameAt_namePut_other {i k : Nat} (hk : k ≠ i) (e : NameEnt) (s : State) :
    nameAt (namePut i e s) k = nameAt s k :=
  tget_tput_other _ _ _ _ _ hk

/-- `t` is `s` with other entries in the name table. -/
def NamesStep (s t : State) : Prop := t = { s with objs := { s.objs with names := t.objs.names } }

theorem NamesStep.trans {s t u : State} (h1 : NamesStep s t) (h2 : NamesStep t u) : NamesStep s u := by
  unfold NamesStep at *
  rw [h1] at h2
  exact h2

theorem namePut_step (i : Nat) (e : NameEnt) (s : State) : NamesStep s (namePut i e s) := rfl

/-! A slot given up (R278). -/

/-- Slot `k` is as it was, or was a TOMB and is EMPTY. -/
def TombFreed (k : Nat) (s t : State) : Prop := nameAt t k = nameAt s k ∨ ((nameAt s k).tomb = true ∧ nameAt t k = {})

theorem TombFreed.of_live {k : Nat} {s t : State} (h : TombFreed k s t) (hl : (nameAt s k).tomb = false) :
    nameAt t k = nameAt s k := by
  rcases h with h | ⟨ht, -⟩
  · exact h
  · simp [hl] at ht

theorem nameWalkBack_frees (n i k : Nat) (s : State) : TombFreed k s (nameWalkBack n i s) := by
  induction n generalizing i s with
  | zero => exact .inl rfl
  | succ n ih =>
    rw [nameWalkBack]
    generalize (i + nameSize s - 1) % nameSize s = j
    split
    · rename_i hj
      rw [Bool.and_eq_true] at hj
      by_cases hk : k = j
      · subst hk
        have hfree := ih k (namePut k {} s)
        exact .inr ⟨hj.2, (hfree.of_live (by rw [nameAt_namePut_self])).trans (nameAt_namePut_self _ _ _)⟩
      · have hfree := ih j (namePut j {} s)
        rwa [TombFreed, nameAt_namePut_other hk] at hfree
    · exact .inl rfl

theorem nameWalkBack_step (n i : Nat) (s : State) : NamesStep s (nameWalkBack n i s) := by
  induction n generalizing i s with
  | zero => rfl
  | succ n ih =>
    rw [nameWalkBack]
    split
    · exact (namePut_step _ _ s).trans (ih _ _)
    · rfl

theorem nameClear_step (i : Nat) (s : State) : NamesStep s (nameClear i s) := by
  unfold nameClear
  split
  · exact (namePut_step _ _ s).trans (nameWalkBack_step _ _ _)
  · exact namePut_step _ _ s

theorem nameClear_self (i : Nat) (s : State) :
    (nameAt (nameClear i s) i).used = false ∨ (nameAt (nameClear i s) i).tomb = true := by
  unfold nameClear
  split
  · left
    rw [(nameWalkBack_frees _ i i (namePut i {} s)).of_live (by rw [nameAt_namePut_self]), nameAt_namePut_self]
  · right
    rw [nameAt_namePut_self]

theorem nameClear_other {i k : Nat} (hk : k ≠ i) (s : State) : TombFreed k s (nameClear i s) := by
  unfold nameClear
  split
  · have hfree := nameWalkBack_frees (s.objs.names.length + 1) i k (namePut i {} s)
    rwa [TombFreed, nameAt_namePut_other hk] at hfree
  · exact .inl (nameAt_namePut_other hk _ _)

/-! The next entry to move. -/

theorem twf_nodup {α : Type} [DecidableEq α] {d : α} {t : Table α} (h : twf (fun n => n) d t = true) :
    (t.map (·.1)).Nodup := by
  induction t with
  | nil => exact List.nodup_nil
  | cons e r ih =>
    refine List.nodup_cons.mpr ⟨fun hmem => ?_, ih (twf_tail h)⟩
    obtain ⟨x, hx, hxe⟩ := List.mem_map.mp hmem
    exact absurd hxe (Nat.ne_of_gt (twf_lt h x hx))

/-- An entry that a canonical table lists stands in its slot. -/
theorem nameAt_of_mem {s : State} {p : Nat × NameEnt} (hwf : twf (fun n => n) {} s.objs.names = true)
    (hp : p ∈ s.objs.names) : nameAt s p.1 = p.2 :=
  tgetBy_of_mem _ _ _ _ (twf_nodup hwf) hp

theorem compactNext_live {s : State} {c i j : Nat} (hwf : twf (fun n => n) {} s.objs.names = true)
    (hc : compactNext s c = some (i, j)) : (nameAt s i).used = true ∧ (nameAt s i).tomb = false ∧ i ≠ j := by
  obtain ⟨p, hp, hmap⟩ := List.exists_of_findSome?_eq_some hc
  obtain ⟨b, hb, hpair⟩ := Option.map_eq_some_iff.mp hmap
  obtain ⟨rfl, rfl⟩ := Prod.mk.inj hpair
  simp only [List.mem_filter, Bool.and_eq_true, Bool.not_eq_true'] at hp
  obtain ⟨hmem, ⟨-, hused⟩, htomb⟩ := hp
  rw [nameAt_of_mem hwf hmem]
  refine ⟨hused, htomb, ?_⟩
  have hbefore := List.mem_takeWhile_imp (List.mem_of_find?_eq_some hb)
  intro hij
  simp [hij] at hbefore

/-! Compaction (R278). -/

section
variable {s : State}

theorem nameCompact_idle (hq : quiet s = true)
    (hno : primaryReady s = false ∨ xstepOk s = false ∨ (s.objs.compacting = false ∧ compactDue s = false)) :
    exec .nameCompact s = .next s := by
  have hn : nameCompact s = s := by
    unfold nameCompact
    rcases hno with hno | hno | ⟨hc, hdue⟩
    · simp [hno]
    · simp [hno]
    · simp [hc, hdue]
  exact exec_settled (congrArg (fun t => done (settle t)) hn) hq

/-- The entry of slot `i` moved to slot `j`. -/
def entryMoved (i j : Nat) (s : State) : State := nameClear i (namePut j (nameAt s i) s)

/-- Compaction stands behind slot `i`. -/
def compactedTo (i : Nat) (s : State) : State := objMod (fun o => { o with compacting := true, compactAt := i + 1 }) s

theorem nameCompact_moves {i j : Nat} (hp : primaryReady s = true) (hx : xstepOk s = true)
    (hw : primLost s .west = false) (he : primLost s .east = false)
    (hdue : s.objs.compacting = true ∨ compactDue s = true)
    (hc : compactNext s (if s.objs.compacting then s.objs.compactAt else 0) = some (i, j))
    (hr : nameRoom s (stepHalf s) = true) :
    nameCompact s = nameJrnl (stepHalf s) (compactedTo i (entryMoved i j s)) := by
  have hgo : (!s.objs.compacting && !compactDue s) = false := by rcases hdue with h | h <;> simp [h]
  unfold nameCompact
  simp only [hp, hx, hw, he, hgo, hc, hr, Bool.not_true, Bool.or_self, Bool.false_eq_true, if_false]
  rfl

theorem entryMoved_step (i j : Nat) (s : State) : NamesStep s (entryMoved i j s) :=
  (namePut_step _ _ _).trans (nameClear_step _ _)

theorem entryMoved_slots {i j : Nat} (hij : i ≠ j) (hlive : (nameAt s i).tomb = false) :
    nameAt (entryMoved i j s) j = nameAt s i ∧
      ((nameAt (entryMoved i j s) i).used = false ∨ (nameAt (entryMoved i j s) i).tomb = true) ∧
      ∀ k, k ≠ i → k ≠ j → TombFreed k s (entryMoved i j s) := by
  refine ⟨?_, nameClear_self _ _, fun k hki hkj => ?_⟩
  · have hj := (nameClear_other hij.symm (namePut j (nameAt s i) s)).of_live (by rwa [nameAt_namePut_self])
    rwa [nameAt_namePut_self] at hj
  · have hk := nameClear_other hki (namePut j (nameAt s i) s)
    rwa [TombFreed, nameAt_namePut_other hkj] at hk

theorem nameCompact_ends {i j : Nat} (hq : quiet s = true) (hwf : twf (fun n => n) {} s.objs.names = true)
    (hp : primaryReady s = true) (hx : xstepOk s = true) (hw : primLost s .west = false)
    (he : primLost s .east = false) (hdue : s.objs.compacting = true ∨ compactDue s = true)
    (hc : compactNext s (if s.objs.compacting then s.objs.compactAt else 0) = some (i, j))
    (hr : nameRoom s (stepHalf s) = true) :
    Ends .nameCompact s (fun t => nameAt t j = nameAt s i ∧
      ((nameAt t i).used = false ∨ (nameAt t i).tomb = true) ∧ t.objs.compactAt = i + 1 ∧ t.objs.compacting = true ∧
      (∀ k, k ≠ i → k ≠ j → nameAt t k = nameAt s k ∨ ((nameAt s k).tomb = true ∧ nameAt t k = {})) ∧
      t = { s with regs := t.regs, strikes := t.strikes, objs := t.objs, jrnl := t.jrnl, freeSeq := t.freeSeq }) := by
  obtain ⟨-, hlive, hij⟩ := compactNext_live hwf hc
  obtain ⟨hto, hfrom, hothers⟩ := entryMoved_slots hij hlive
  have hj := nameJrnl_step (stepHalf s) (compactedTo i (entryMoved i j s))
  have hat : ∀ k, nameAt (nameJrnl (stepHalf s) (compactedTo i (entryMoved i j s))) k = nameAt (entryMoved i j s) k :=
    nameAt_congr (by rw [hj.objs]; rfl)
  have hframe : ∀ t, JournalStep (compactedTo i (entryMoved i j s)) t →
      t = { s with regs := t.regs, strikes := t.strikes, objs := t.objs, jrnl := t.jrnl, freeSeq := t.freeSeq } := by
    intro t ht
    rw [JournalStep, compactedTo, entryMoved_step i j s] at ht
    rw [ht]
    rfl
  refine ends_settle (congrArg (fun t => done (settle t)) (nameCompact_moves hp hx hw he hdue hc hr)) ?_
    ⟨(hat j).trans hto, by rwa [hat], by rw [hj.objs]; rfl, by rw [hj.objs]; rfl,
      fun k hki hkj => by rw [hat]; exact hothers k hki hkj, hframe _ hj⟩
  rw [hframe _ hj]
  exact (quiet_congr s _ rfl rfl rfl rfl rfl rfl rfl rfl).trans hq

end

end Sys2Proof.Machine
end

section
/-!
SUPPORT. What the making and the withdrawal of stripes leave of the objects: their names, their writes, the requests and
the map (R252, R253, R257, R285).
-/
namespace Sys2Proof.Machine

/-- `t` is `s` but for stripe records, read plans, track bits and what lies outside the objects; no map entry and no
request has changed. -/
structure StripeStep (s t : State) : Prop where
  dikar : t.dikar = s.dikar
  objs : t.objs = { s.objs with
    next := t.objs.next, stripes := t.objs.stripes, plans := t.objs.plans, lights := t.objs.lights }
  map : ∀ g, (t.place.at g).map = (s.place.at g).map

section
variable {s t u : State}

theorem StripeStep.refl (s : State) : StripeStep s s := ⟨rfl, rfl, fun _ => rfl⟩

theorem StripeStep.trans (h1 : StripeStep s t) (h2 : StripeStep t u) : StripeStep s u := by
  refine ⟨h2.dikar.trans h1.dikar, ?_, fun g => (h2.map g).trans (h1.map g)⟩
  have e2 := h2.objs
  rw [h1.objs] at e2
  exact e2

theorem StripeStep.ite {p : Prop} [Decidable p] (ht : StripeStep s t) (hu : StripeStep s u) :
    StripeStep s (if p then t else u) := by
  split
  · exact ht
  · exact hu

theorem StripeStep.of_eq (hd : t.dikar = s.dikar) (ho : t.objs = s.objs) (hp : t.place = s.place) : StripeStep s t :=
  ⟨hd, by rw [ho], fun _ => by rw [hp]⟩

theorem foldl_stripeStep {α : Type} {f : State → α → State} (hf : ∀ t a, StripeStep t (f t a)) (l : List α)
    (s : State) : StripeStep s (l.foldl f s) := by
  induction l generalizing s with
  | nil => exact .refl s
  | cons a r ih => exact (hf s a).trans (ih (f s a))

theorem StripeStep.names (h : StripeStep s t) : t.objs.names = s.objs.names := by rw [h.objs]

theorem StripeStep.writes (h : StripeStep s t) : t.objs.writes = s.objs.writes := by rw [h.objs]

theorem StripeStep.nextOrd (h : StripeStep s t) : t.objs.nextOrd = s.objs.nextOrd := by rw [h.objs]

end

/-! The records of the objects and of the placement. -/

theorem objMod_stripeStep {f : Objects → Objects} {s : State} (hf : f s.objs = { s.objs with
    next := (f s.objs).next, stripes := (f s.objs).stripes, plans := (f s.objs).plans, lights := (f s.objs).lights }) :
    StripeStep s (objMod f s) := ⟨rfl, hf, fun _ => rfl⟩

theorem stpMod_stripeStep (id : Nat) (f : Stripe → Stripe) (s : State) : StripeStep s (stpMod id f s) :=
  objMod_stripeStep rfl

theorem planMod_stripeStep (id : Nat) (f : Plan → Plan) (s : State) : StripeStep s (planMod id f s) :=
  objMod_stripeStep rfl

theorem planDrop_stripeStep (id : Nat) (s : State) : StripeStep s (planDrop id s) := objMod_stripeStep rfl

theorem plansReap_stripeStep (s : State) : StripeStep s (plansReap s) := objMod_stripeStep rfl

theorem pltMod_stripeStep (l : Nat) (f : PLight → PLight) (s : State) : StripeStep s (pltMod l f s) :=
  objMod_stripeStep rfl

theorem plMod_stripeStep (h : Half) {f : PlaceHalf → PlaceHalf} (hf : ∀ x, (f x).map = x.map) (s : State) :
    StripeStep s (plMod h f s) :=
  ⟨rfl, rfl, fun g => by
    cases h <;> cases g
    · exact hf _
    · rfl
    · rfl
    · exact hf _⟩

theorem takePage_stripeStep (h : Half) (p : Nat) (s : State) : StripeStep s (takePage h p s) :=
  plMod_stripeStep h (fun _ => by rfl) s

theorem takePages_stripeStep {h : Half} {n : Nat} {s u : State} {pgs : List Nat}
    (ht : takePages h n s = some (pgs, u)) : StripeStep s u := by
  induction n generalizing s pgs with
  | zero =>
    obtain ⟨-, rfl⟩ := Prod.mk.inj (Option.some.inj ht)
    exact .refl _
  | succ n ih =>
    rw [takePages] at ht
    split at ht
    · simp at ht
    · obtain ⟨⟨q, v⟩, hq, hv⟩ := Option.map_eq_some_iff.mp ht
      obtain ⟨-, rfl⟩ := Prod.mk.inj hv
      exact (takePage_stripeStep _ _ _).trans (ih hq)

/-! Registers, bytes, events and commands. -/

theorem bump_stripeStep (P : Nat) (f : Fld) (s : State) : StripeStep s (bump P f s) :=
  .of_eq (bump_dikar _ _ _) (bump_objs _ _ _) (bump_place _ _ _)

theorem raise_stripeStep (P b : Nat) (s : State) : StripeStep s (raise P b s) :=
  .of_eq (raise_dikar _ _ _) (raise_objs _ _ _) (raise_place _ _ _)

theorem raiseIf_stripeStep (c : Bool) (P b : Nat) (s : State) : StripeStep s (raiseIf c P b s) :=
  .of_eq (raiseIf_dikar _ _ _ _) (raiseIf_objs _ _ _ _) (raiseIf_place _ _ _ _)

theorem plPut_stripeStep (l : Nat) (f : Fld) (v : Nat) (s : State) : StripeStep s (plPut l f v s) := .of_eq rfl rfl rfl

theorem freeAdd_stripeStep (l : Nat) (d : Int) (s : State) : StripeStep s (freeAdd l d s) := plPut_stripeStep _ _ _ _

theorem setBusy_stripeStep (l n : Nat) (t : Int) (s : State) : StripeStep s (setBusy l n t s) :=
  plPut_stripeStep _ _ _ _

theorem ezStore_stripeStep (a : Nat) (bs : List Byte) (s : State) : StripeStep s (ezStore a bs s) := by
  rw [ezStore_only]
  exact .of_eq rfl rfl rfl

theorem schMod_stripeStep (h : Half) (f : Sched → Sched) (s : State) : StripeStep s (schMod h f s) := .of_eq rfl rfl rfl

theorem schAdmit_stripeStep (h : Half) (e : Event) (s : State) : StripeStep s (schAdmit h e s) := .of_eq rfl rfl rfl

theorem schInsert_stripeStep (e : Event) (s : State) : StripeStep s (schInsert e s) := by
  unfold schInsert
  dsimp only
  exact .ite (.of_eq rfl rfl rfl) (.ite (schAdmit_stripeStep _ _ _)
    ((schMod_stripeStep _ _ _).trans (raiseIf_stripeStep _ _ _ _)))

theorem spinTry_stripeStep (h : Half) (g l : Nat) (s : State) : StripeStep s (spinTry h g l s) := by
  have hcmd : StripeStep s (plainCmd l 3 0 s) := by
    rw [plainCmd_only]
    exact .of_eq rfl rfl rfl
  unfold spinTry spinUp
  exact .ite ((hcmd.trans (bump_stripeStep _ _ _)).trans (plMod_stripeStep h (fun _ => by rfl) _))
    ((plMod_stripeStep h (fun _ => by rfl) _).trans (raiseIf_stripeStep _ _ _ _))

/-! Read plans (R257, R258). -/

theorem planRead_stripeStep (p : Plan) (recon : Bool) (i : Nat) (e : MapEnt) (pages : List Nat) (s : State) :
    StripeStep s (planRead p recon i e pages s) := by
  unfold planRead
  extract_lets P s1 s2
  have h1 : StripeStep s s1 := bump_stripeStep _ _ s
  have h2 : StripeStep s s2 := .ite (h1.trans (setBusy_stripeStep _ _ _ _)) h1
  exact h2.trans (foldl_stripeStep (fun t x => schInsert_stripeStep x t) _ _)

theorem planGo_stripeStep (p : Plan) (es : List MapEnt) (recon : Bool) (s : State) :
    StripeStep s (planGo p es recon s) := by
  unfold planGo
  dsimp only
  split
  · exact planMod_stripeStep _ _ _
  · exact (takePages_stripeStep ‹_›).trans ((planMod_stripeStep _ _ _).trans
      (foldl_stripeStep (fun t x => planRead_stripeStep _ _ _ _ _ t) _ _))

theorem planTry_stripeStep (id : Nat) (s : State) : StripeStep s (planTry id s) := by
  unfold planTry
  split
  · exact .refl s
  · refine .ite (.refl s) ?_
    split
    · exact planGo_stripeStep _ _ _ _
    · split
      · exact planMod_stripeStep _ _ _
      · exact (planMod_stripeStep _ _ _).trans
          (foldl_stripeStep (fun t e => .ite (spinTry_stripeStep _ _ _ _) (.refl t)) _ _)

theorem planNew_stripeStep (o : PlanOwner) (e : MapEnt) (want : List Nat) (nc : Bool) (s : State) :
    StripeStep s (planNew o e want nc s).1 :=
  ((objMod_stripeStep rfl).trans (objMod_stripeStep rfl)).trans (planTry_stripeStep _ _)

/-! A stripe put together (R285). -/

theorem mergeUnit_stripeStep {id size u : Nat} {outs : List (Nat × Nat)} {s t : State}
    (ht : mergeUnit id size u outs s = some t) : StripeStep s t := by
  unfold mergeUnit at ht
  split at ht
  · simp at ht
  · extract_lets p ws base put at ht
    have hput : ∀ a v, StripeStep v (put a v) := fun a v => stpMod_stripeStep _ _ _
    split at ht
    · extract_lets a at ht
      split at ht
      all_goals
        obtain rfl := Option.some.inj ht
      · exact hput _ _
      · exact (ezStore_stripeStep _ _ _).trans (hput _ _)
    · obtain rfl := Option.some.inj ht
      exact hput _ _
    · split at ht
      · simp at ht
      · obtain rfl := Option.some.inj ht
        exact (takePage_stripeStep _ _ _).trans ((ezStore_stripeStep _ _ _).trans
          ((stpMod_stripeStep _ _ _).trans (hput _ _)))

theorem foldl_bind_stripeStep {f : Nat → State → Option State} (hf : ∀ u s t, f u s = some t → StripeStep s t)
    (l : List Nat) {s t : State} (ht : l.foldl (fun o u => o.bind (f u)) (some s) = some t) : StripeStep s t := by
  induction l generalizing s with
  | nil =>
    obtain rfl := Option.some.inj ht
    exact .refl _
  | cons u r ih =>
    rw [List.foldl_cons, Option.bind_some] at ht
    cases hu : f u s with
    | none =>
      have hnone : ∀ l : List Nat, l.foldl (fun o u => o.bind (f u)) none = none :=
        fun l => List.foldl_fixed' (fun _ => rfl) l
      rw [hu, hnone] at ht
      simp at ht
    | some v =>
      rw [hu] at ht
      exact (hf _ _ _ hu).trans (ih ht)

theorem mergeAll_stripeStep (id size : Nat) (outs : List (Nat × Nat)) (s : State) :
    StripeStep s (mergeAll id size outs s) := by
  unfold mergeAll
  split
  · exact .refl s
  · split
    · rename_i hfold
      exact (foldl_bind_stripeStep (fun u s t ht => mergeUnit_stripeStep ht) _ hfold).trans (stpMod_stripeStep _ _ _)
    · exact stpMod_stripeStep _ _ _

theorem mergePlanEnd_stripeStep (p : Plan) (id : Nat) (s : State) : StripeStep s (mergePlanEnd p id s) := by
  unfold mergePlanEnd
  split
  · exact planDrop_stripeStep _ _
  · refine .ite ?_ (.ite ?_ (.refl s))
    · exact (planDrop_stripeStep _ _).trans ((stpMod_stripeStep _ _ _).trans
        ((bump_stripeStep _ _ _).trans (raise_stripeStep _ _ _)))
    · exact .ite ((mergeAll_stripeStep _ _ _ _).trans (planDrop_stripeStep _ _)) (mergeAll_stripeStep _ _ _ _)

theorem mergeStart_stripeStep (id : Nat) (s : State) : StripeStep s (mergeStart id s) := by
  unfold mergeStart
  split
  · exact .refl s
  · refine .ite (.refl s) ?_
    dsimp only
    split
    · exact mergeAll_stripeStep _ _ _ _
    · exact mergeAll_stripeStep _ _ _ _
    · split
      · exact .ite (planTry_stripeStep _ _) (mergePlanEnd_stripeStep _ _ _)
      · split
        · exact (planNew_stripeStep _ _ _ _ _).trans (mergePlanEnd_stripeStep _ _ _)
        · exact planNew_stripeStep _ _ _ _ _

theorem stripeNew_stripeStep (w : Write) (g num : Nat) (early : Option Nat) (s : State) :
    StripeStep s (stripeNew w g num early s) :=
  ((objMod_stripeStep rfl).trans (objMod_stripeStep rfl)).trans (mergeStart_stripeStep _ _)

/-! A stripe withdrawn (R252). -/

/-- Every stripe record of number `id` is withdrawn. -/
def AllGone (id : Nat) (s : State) : Prop := ∀ x ∈ s.objs.stripes, x.id = id → x.gone = true

theorem releaseMember_stripeStep (x : Stripe) (y : SMember) (s : State) : StripeStep s (releaseMember x y s) :=
  .ite (freeAdd_stripeStep _ _ _) (.refl s)

theorem releaseMember_objs (x : Stripe) (y : SMember) (s : State) : (releaseMember x y s).objs = s.objs := by
  unfold releaseMember
  split
  · exact freeAdd_objs _ _ _
  · rfl

theorem AllGone.of_objs {id : Nat} {s t : State} (h : AllGone id s) (ho : t.objs.stripes = s.objs.stripes) :
    AllGone id t := by
  rw [AllGone, ho]
  exact h

theorem AllGone.stpMod {id : Nat} {s : State} (h : AllGone id s) {f : Stripe → Stripe}
    (hf : ∀ y, (f y).gone = y.gone ∧ (f y).id = y.id) (k : Nat) : AllGone id (stpMod k f s) := by
  intro x hx hid
  obtain ⟨y, hy, rfl⟩ := List.mem_map.mp hx
  by_cases hk : y.id = k
  · rw [if_pos hk] at hid ⊢
    rw [(hf y).1]
    exact h y hy ((hf y).2 ▸ hid)
  · rw [if_neg hk] at hid ⊢
    exact h y hy hid

theorem stpMod_allGone (id : Nat) (s : State) : AllGone id (stpMod id (fun x => { x with gone := true }) s) := by
  intro x hx hid
  obtain ⟨y, -, rfl⟩ := List.mem_map.mp hx
  by_cases hk : y.id = id
  · rw [if_pos hk]
  · rw [if_neg hk] at hid
    exact absurd hid hk

theorem foldl_allGone {α : Type} {id : Nat} {f : State → α → State} (hf : ∀ t a, AllGone id t → AllGone id (f t a))
    (l : List α) {s : State} (h : AllGone id s) : AllGone id (l.foldl f s) := by
  induction l generalizing s with
  | nil => exact h
  | cons a r ih => exact ih (hf s a h)

theorem withdraw_keeps (id : Nat) (s : State) :
    StripeStep s (withdraw id s) ∧ (AllGone id s → AllGone id (withdraw id s)) := by
  unfold withdraw
  extract_lets mine hit gone clear s1
  have h1 : StripeStep s s1 := (schMod_stripeStep _ _ _).trans (schMod_stripeStep _ _ _)
  have hrel : ∀ (x : Stripe) (m : Nat) (t : State),
      StripeStep t ((x.members[m]?).elim t (fun y => releaseMember x y t)) ∧
        ((x.members[m]?).elim t (fun y => releaseMember x y t)).objs = t.objs := by
    intro x m t
    cases x.members[m]? with
    | none => exact ⟨.refl t, rfl⟩
    | some y => exact ⟨releaseMember_stripeStep _ _ _, releaseMember_objs _ _ _⟩
  split
  · exact ⟨h1, fun hg => hg.of_objs rfl⟩
  · rename_i x _
    refine ⟨h1.trans (foldl_stripeStep (fun t m => (hrel x m t).1.trans (stpMod_stripeStep _ _ _)) _ _), fun hg => ?_⟩
    refine foldl_allGone (fun t m ht => ?_) _ (hg.of_objs rfl)
    refine AllGone.stpMod (ht.of_objs (congrArg Objects.stripes (hrel x m t).2)) ?_ id
    exact fun _ => ⟨rfl, rfl⟩

theorem stripeDrop_stripeStep (id : Nat) (s : State) : StripeStep s (stripeDrop id s) := by
  unfold stripeDrop
  split
  · exact .refl s
  · exact ((foldl_stripeStep (fun t y => releaseMember_stripeStep _ y t) _ _).trans (objMod_stripeStep rfl)).trans
      (plansReap_stripeStep _)

theorem stripeGone_stripeStep (id : Nat) (s : State) : StripeStep s (stripeGone id s) := by
  obtain ⟨hstep, hgone⟩ := withdraw_keeps id (stpMod id (fun x => { x with gone := true }) s)
  have hall := hgone (stpMod_allGone id s)
  refine ((stpMod_stripeStep _ _ _).trans hstep).trans ?_
  unfold stripeGone stripeEnd
  split
  · exact .refl _
  · rename_i x hx
    rw [if_pos (hall x (List.mem_of_find?_eq_some hx) (stpGet_id hx))]
    exact .ite (stripeDrop_stripeStep _ _) (.refl _)

theorem releaseEnt_stripeStep (s : State) (e : MapEnt) : StripeStep s (releaseEnt s e) :=
  .ite ((pltMod_stripeStep _ _ _).trans (freeAdd_stripeStep _ _ _)) (.refl s)

end Sys2Proof.Machine
end

section
/-!
SUPPORT. A DELETE and a creation carried out (R276, R277, R279, R284, R288).
-/
namespace Sys2Proof.Machine

/-! What a DELETE takes from its object's home half (R288). -/

/-- A request's record once object `obj` is gone: its writes find it gone. -/
def markGone (obj : Nat) (x : DOp) : DOp :=
  if x.obj = obj ∧ x.isWrite = true ∧ x.pullFail.isNone then { x with gone := true } else x

theorem markGone_keeps (obj : Nat) (x : DOp) : (markGone obj x).id = x.id ∧ (markGone obj x).st = x.st := by
  unfold markGone
  split
  · exact ⟨rfl, rfl⟩
  · exact ⟨rfl, rfl⟩

/-- The requests once object `obj` is gone. -/
def opsMarked (obj : Nat) (k : Dikar) : Dikar := { k with ops := k.ops.map (markGone obj) }

theorem cacheDrop_stripeStep (obj : Nat) (sel : Nat → Bool) (s : State) : StripeStep s (cacheDrop obj sel s) := by
  unfold cacheDrop
  exact (plMod_stripeStep _ (fun _ => by rfl) s).trans
    (.of_eq (bumpBy_dikar _ _ _ _) (bumpBy_objs _ _ _ _) (bumpBy_place _ _ _ _))

theorem objectGone_leaves (obj : Nat) (s : State) :
    (objectGone obj s).objs.names = s.objs.names ∧
      (objectGone obj s).dikar = opsMarked obj s.dikar ∧
      ((objectGone obj s).place.at (objHome obj)).map.all (fun x => x.obj != obj) = true := by
  unfold objectGone
  extract_lets h s1 s2 s3 s4 s5 s6
  have h1 : StripeStep s s1 := foldl_stripeStep releaseEnt_stripeStep _ _
  have hmap : (s2.place.at h).map = ((s1.place.at h).map).filter (fun e => e.obj != obj) := by
    simp only [s2]
    cases h <;> rfl
  have h4 : StripeStep s2 s4 := (plMod_stripeStep _ (fun _ => by rfl) _).trans (cacheDrop_stripeStep _ _ _)
  have hnames : s4.objs.names = s.objs.names := h4.names.trans h1.names
  have hdikar : s4.dikar = s.dikar := h4.dikar.trans h1.dikar
  have hgone : (s4.place.at h).map.all (fun x => x.obj != obj) = true := by
    rw [h4.map, hmap]
    simp
  clear_value s4
  have h6 := foldl_stripeStep (fun t (x : Stripe) => stripeGone_stripeStep x.id t)
    (s6.objs.stripes.filter (fun x => x.obj == obj)) s6
  refine ⟨h6.names.trans hnames, h6.dikar.trans ?_, ?_⟩
  · rw [← hdikar]
    rfl
  · rw [h6.map]
    exact hgone

theorem Completed.markGone {s t u : State} {d : DOp} {st obj : Nat} (hc : Completed d st s t)
    (hu : u.dikar = opsMarked obj t.dikar) : Completed d st s u := by
  obtain ⟨hrec, y, hy, hst⟩ := hc
  have hcq : cqGet u d.h d.ctx = cqGet t d.h d.ctx := by
    rw [cqGet, cqGet, mh, mh, hu]
    rfl
  refine ⟨by rwa [hcq], Machine.markGone obj y, ?_, (markGone_keeps obj y).2.trans hst⟩
  have hpred : ((fun x : DOp => x.id == d.id) ∘ Machine.markGone obj) = fun x => x.id == d.id :=
    funext fun x => by simp [(markGone_keeps obj x).1]
  rw [opGet, hu, opsMarked, List.find?_map, hpred, show t.dikar.ops.find? (fun x => x.id == d.id) = some y from hy]
  rfl

/-! A DELETE (R288). -/

section
variable {s : State} {h : Half} {d : DOp}

theorem collGone_quiet {t : State} (hc : t.coll = s.coll) (hq : quiet s = true) (obj : Nat) : collGone obj t = t := by
  have hrecs : (t.coll.at (objHome obj)).recs = [] := by
    simp only [quiet, quietHalf, Bool.and_eq_true, List.isEmpty_iff] at hq
    obtain ⟨⟨⟨⟨⟨-, ⟨⟨-, hw⟩, -⟩⟩, ⟨⟨-, he⟩, -⟩⟩, -⟩, -⟩, -⟩ := hq
    rw [hc]
    cases objHome obj
    · exact hw
    · exact he
  unfold collGone
  dsimp only
  rw [hrecs]
  rfl

theorem nameJrnl_nameClear (h : Half) (i : Nat) (t : State) :
    (nameJrnl h (nameClear i t)).dikar = t.dikar ∧
      ((nameAt (nameJrnl h (nameClear i t)) i).used = false ∨ (nameAt (nameJrnl h (nameClear i t)) i).tomb = true) := by
  have hj := nameJrnl_step h (nameClear i t)
  refine ⟨?_, ?_⟩
  · rw [hj.dikar, nameClear_step i t]
  · rw [nameAt_congr (congrArg Objects.names hj.objs)]
    exact nameClear_self _ _

theorem namespaceStep_works (hw : StepWaits s h d) (hr : StepReady s h) : namespaceStep h d.id s =
    if d.dop = doDELETE then deleteStep h d.id s else createStep h d.id s := by
  obtain ⟨hh, hl, hlong, hup, hroom, -, -, -⟩ := hr
  rw [namespaceStep_reaches hw, if_neg (by simp [hh, hl]), if_neg (by simp [hlong, hup]), if_neg (by simp [hroom])]

theorem namespaceStep_deletes {i : Nat} {e : NameEnt} (hw : StepWaits s h d) (hr : StepReady s h)
    (hd : d.dop = doDELETE) (hf : nameFind s d.name = some (i, e)) (ho : e.objId = d.obj) :
    Settles (.namespaceStep h d.id) s (fun u => Completed d stOK s u ∧
      ((nameAt u i).used = false ∨ (nameAt u i).tomb = true) ∧
      (u.place.at (objHome d.obj)).map.all (fun x => x.obj != d.obj) = true) := by
  have hx : exec (.namespaceStep h d.id) s = done (settle (namespaceStep h d.id s)) := rfl
  rw [namespaceStep_works hw hr, if_pos hd] at hx
  obtain ⟨hby, -, -, -, -, hq⟩ := hw
  obtain ⟨-, -, -, -, -, -, hbw, hbe⟩ := hr
  have hstep : ∃ x, deleteStep h d.id s = deleteName h i d.obj (opEnd d.id stOK x s) := by
    unfold deleteStep
    simp only [hby.queued.get, nameLook_undamaged hbw hbe, hf, ho, ne_eq, not_true_eq_false, if_false]
    exact ⟨_, rfl⟩
  obtain ⟨x, hstep⟩ := hstep
  rw [hstep] at hx
  have hc := opEnd_completes hby.queued stOK x
  have hcoll : (opEnd d.id stOK x s).coll = s.coll := by rw [(opEnd_svcStep d.id stOK x s).frame]
  generalize opEnd d.id stOK x s = t at hx hc hcoll
  have hname := nameJrnl_nameClear h i t
  rw [deleteName, collGone_quiet hcoll hq] at hx
  generalize nameJrnl h (nameClear i t) = v at hx hname
  obtain ⟨hdikar, hslot⟩ := hname
  obtain ⟨hnames, hops, hmap⟩ := objectGone_leaves d.obj v
  refine ⟨_, hx, hc.markGone (by rw [hops, hdikar]), ?_, hmap⟩
  rwa [nameAt_congr hnames]

/-! A creation (R276, R277, R284). -/

/-- The entry that a creation for request `d`, journalled on half `h`, makes. -/
def entryMade (d : DOp) (h : Half) (s : State) : NameEnt := {
  name := d.name, objId := d.home.num * 2 ^ 63 + s.objs.serial % 2 ^ 63, size := 0, gen := 1, group := d.grp
  tomb := false, creator := d.ctx, created := nowH s h, modified := Config.freeNat s.freeSeq % 2 ^ 64, used := true }

/-- The state in which the creation for request `d` has put its entry into slot `i`. -/
def nameMade (d : DOp) (h : Half) (i : Nat) (s : State) : State :=
  objMod (fun o => { o with serial := o.serial + 1 }) (namePut i (entryMade d h s) { s with freeSeq := s.freeSeq + 1 })

theorem nameCreate_makes {i : Nat} (hi : freeSlotOf s (namePath s d.name) = some i) :
    nameCreate d.name d.grp d.ctx d.home (nowH s h) s = nameMade d h i s := by
  unfold nameCreate
  simp only [hi]
  rfl

/-- The names, the next serial number and the journals of `t` are those of `s`. -/
def SameNames (s t : State) : Prop :=
  t.objs.names = s.objs.names ∧ t.objs.serial = s.objs.serial ∧ t.jrnl = s.jrnl

theorem pullBegun_sameNames (d x : DOp) (v : State) : SameNames v (pullBegun d x v) := ⟨rfl, rfl, rfl⟩

/-- A PUT of some bytes that begins to pull into the object just made leaves its entry alone (R284). -/
theorem writeAdmit_sameNames {u : State} {e : NameEnt} (hget : opGet u d.id = some d) (hd : d.dop = doPUT)
    (hlen : d.len ≠ 0) (fresh : Bool) : SameNames u (writeAdmit d.id h e fresh (opMod d.id (resolved e) u)) := by
  have hx : opGet (opMod d.id (resolved e) u) d.id = some (resolved e d) := opGet_opMod (fun _ => rfl) hget
  rw [writeAdmit_put hx hd hlen]
  exact pullBegun_sameNames d (resolved e d) (opMod d.id (resolved e) u)

theorem createStep_creates {i : Nat} (hget : opGet s d.id = some d) (hd : d.dop = doPUT) (hlen : d.len ≠ 0)
    (hbw : s.place.west.badNames = []) (hbe : s.place.east.badNames = []) (hf : nameFind s d.name = none)
    (hfull : nameFull s d.name = false) (hi : freeSlotOf s (namePath s d.name) = some i) :
    SameNames (nameJrnl h (nameMade d h i s)) (createStep h d.id s) := by
  have hj := nameJrnl_step h (nameMade d h i s)
  unfold createStep
  simp only [hget, nameLook_undamaged hbw hbe, hf, hfull, nameCreate_makes hi, Bool.false_eq_true, if_false]
  generalize nameJrnl h (nameMade d h i s) = u at hj ⊢
  have hu : opGet u d.id = some d := by rw [opGet_congr (s := s) hj.dikar, hget]
  split
  · rename_i k e _
    exact writeAdmit_sameNames hu hd hlen true
  · exact ⟨rfl, rfl, rfl⟩

theorem namespaceStep_creates {i : Nat} (hw : StepWaits s h d) (hr : StepReady s h) (hd : d.dop = doPUT)
    (hlen : d.len ≠ 0) (hf : nameFind s d.name = none) (hfull : nameFull s d.name = false)
    (hi : freeSlotOf s (namePath s d.name) = some i) :
    Settles (.namespaceStep h d.id) s (fun u => (nameAt u i).name = d.name ∧ (nameAt u i).used = true ∧
      (nameAt u i).tomb = false ∧ (nameAt u i).gen = 1 ∧ (nameAt u i).size = 0 ∧ (nameAt u i).group = d.grp ∧
      (nameAt u i).objId = d.home.num * 2 ^ 63 + s.objs.serial % 2 ^ 63 ∧ u.objs.serial = s.objs.serial + 1 ∧
      (∀ j, j ≠ i → nameAt u j = nameAt s j) ∧
      (∀ k, (s.jrnl.at k).fill < (u.jrnl.at k).fill ∨ (s.jrnl.at k).owed.length < (u.jrnl.at k).owed.length)) := by
  have hx : exec (.namespaceStep h d.id) s = done (settle (namespaceStep h d.id s)) := rfl
  rw [namespaceStep_works hw hr, if_neg (by rw [hd]; decide)] at hx
  obtain ⟨hby, -⟩ := hw
  obtain ⟨-, -, -, -, -, hsingle, hbw, hbe⟩ := hr
  obtain ⟨hnames, hserial, hjrnl⟩ := createStep_creates (h := h) hby.queued.get hd hlen hbw hbe hf hfull hi
  have hj := nameJrnl_step h (nameMade d h i s)
  have hgrow := nameJrnl_grows (s := nameMade d h i s) hsingle h
  have hat : ∀ j, nameAt (createStep h d.id s) j = nameAt (nameMade d h i s) j :=
    nameAt_congr (hnames.trans (congrArg Objects.names hj.objs))
  have hi : nameAt (createStep h d.id s) i = entryMade d h s := (hat i).trans (nameAt_namePut_self _ _ _)
  refine ⟨_, hx, ?_⟩
  dsimp only
  rw [hi]
  refine ⟨rfl, rfl, rfl, rfl, rfl, rfl, rfl, ?_, fun j hne => ?_, fun k => ?_⟩
  · rw [hserial, hj.objs]
    rfl
  · exact (hat j).trans (nameAt_namePut_other hne _ _)
  · rw [hjrnl]
    exact hgrow k

end

end Sys2Proof.Machine
end

section
/-!
SUPPORT. A durable write takes effect, and a write's data is copied over the span (R283, R284, R299).
-/
namespace Sys2Proof.Machine

/-! The records of the writes. -/

theorem wrGet_id {s : State} {id : Nat} {w : Write} (h : wrGet s id = some w) : w.id = id := by
  simpa using List.find?_some h

theorem wrGet_congr {s t : State} (h : t.objs.writes = s.objs.writes) (id : Nat) : wrGet t id = wrGet s id := by
  rw [wrGet, wrGet, h]

theorem wrGet_wrMod {s : State} {id : Nat} {w : Write} {f : Write → Write} (hf : ∀ y, (f y).id = y.id)
    (h : wrGet s id = some w) : wrGet (wrMod id f s) id = some (f w) := by
  have hpred : ((fun y : Write => y.id == id) ∘ fun y => if y.id = id then f y else y) = fun y => y.id == id := by
    funext y
    by_cases hy : y.id = id <;> simp [hy, hf]
  show List.find? _ (s.objs.writes.map _) = _
  rw [List.find?_map, hpred, show s.objs.writes.find? (fun y => y.id == id) = some w from h, Option.map_some,
    if_pos (wrGet_id h)]

/-! A write's stripes (R284). -/

theorem foldl_stripeNew_stripeStep (w : Write) (g : Nat) (l : List Nat) (s : State) :
    StripeStep s (l.foldl (fun t n => stripeNew w g n none t) s) :=
  foldl_stripeStep (fun t n => stripeNew_stripeStep w g n none t) l s

theorem buildStripes_keeps (id : Nat) (s : State) : (buildStripes id s).dikar = s.dikar ∧
    (buildStripes id s).objs.names = s.objs.names ∧ (buildStripes id s).objs.nextOrd = s.objs.nextOrd ∧
    ∀ w, wrGet s id = some w →
      ∃ sb b, wrGet (buildStripes id s) id = some { w with built := b, stripeBytes := sb } := by
  unfold buildStripes
  split
  · rename_i hn
    exact ⟨rfl, rfl, rfl, fun w hw => by simp [hn] at hw⟩
  · rename_i w hw
    split
    · exact ⟨rfl, rfl, rfl, fun y hy => ⟨y.stripeBytes, y.built, hy⟩⟩
    · rename_i e _
      extract_lets sb early s1
      have hs1 : wrGet s1 id = some { w with built := true, stripeBytes := sb } := wrGet_wrMod (fun _ => rfl) hw
      simp only [hs1]
      have hb := foldl_stripeNew_stripeStep { w with built := true, stripeBytes := sb } e.group
        ((wrStripes { w with built := true, stripeBytes := sb } sb).filter (fun n => !early.contains n)) s1
      refine ⟨hb.dikar, hb.names, hb.nextOrd, fun y hy => ⟨sb, true, ?_⟩⟩
      rw [hw] at hy
      obtain rfl := Option.some.inj hy
      rw [wrGet_congr hb.writes, hs1]

/-! A write's effect (R283). -/

theorem lostWrite_stripeStep (obj off len : Nat) (s : State) : StripeStep s (lostWrite obj off len s) :=
  plMod_stripeStep _ (fun _ => by rfl) s

/-- The write's place in the order of effect is given. -/
def writeOrdered (wid : Nat) (s : State) : State :=
  objMod (fun o => { o with
    nextOrd := s.objs.nextOrd + 1
    writes := o.writes.map (fun x => if x.id = wid then { x with ord := s.objs.nextOrd, coll := none } else x)
    stripes := o.stripes.map (fun x => if x.write = wid ∧ ¬ x.repair then { x with ord := s.objs.nextOrd } else x) }) s

/-- Where a write reaches to. -/
def reachOf (w : Write) : Nat := (w.ranges.map (fun r => r.1 + r.2)).foldl max 0

/-- The entry of an object after a write that reaches to `size` (R283). -/
def entryWritten (e : NameEnt) (size now : Nat) : NameEnt :=
  { e with size := max e.size size, gen := genNext e.gen, modified := now }

theorem writeStep_keeps {s : State} {wid now i : Nat} {w : Write} {e : NameEnt} (hw : wrGet s wid = some w)
    (he : objEnt s w.obj = some (i, e)) :
    StripeStep (namePut i (entryWritten e (reachOf w) now) (writeOrdered wid s)) (writeStep wid now s) := by
  have hnamed : nameWritten w.obj (reachOf w) now (writeOrdered wid s) =
      namePut i (entryWritten e (reachOf w) now) (writeOrdered wid s) := by
    have he' : objEnt (writeOrdered wid s) w.obj = some (i, e) := he
    unfold nameWritten
    rw [he']
    rfl
  rw [← hnamed]
  unfold writeStep
  simp only [hw]
  exact foldl_stripeStep (fun t r => (cacheDrop_stripeStep _ _ t).trans (lostWrite_stripeStep _ _ _ _)) _ _

section
variable {s : State} {d : DOp} {w : Write} (hq : Queued s d) (hwrite : d.write = some w.id)
  (hw : wrGet s w.id = some w) (hcoll : d.coll = none) (hdur : d.durable = true)
include hq hwrite hcoll hdur

theorem writeEffect_gone (hquiet : quiet s = true) (hg : d.gone = true) :
    Ends (.writeEffect d.id) s (Completed d stOBJ_GONE s) := by
  have hx : writeEffect d.id s = opFail d.id stOBJ_GONE s := by
    unfold writeEffect
    simp [hq.get, hwrite, hcoll, hdur, hg]
  refine ends_settle (congrArg (fun t => done (settle t)) hx) ((opFail_svcStep _ _ _).quiet.trans hquiet) ?_
  exact opFail_completes hq stOBJ_GONE

theorem writeEffect_writes (hg : d.gone = false) (hok : nameStepOk s = true) (hroom : nameRoom s d.home = true) :
    ∃ x t, t = opEnd d.id stOK x (nameJrnl d.home (writeStep w.id (nowH s d.home) s)) ∧
      writeEffect d.id s = writeGc (if (wrGet t w.id).any allHome then buildStripes w.id t else t) := by
  unfold writeEffect
  simp only [hq.get, hwrite, hcoll, hdur, hg, hok, hroom]
  exact ⟨_, _, rfl, rfl⟩

include hw

theorem writeEffect_ends {i : Nat} {e : NameEnt} (hg : d.gone = false) (hok : nameStepOk s = true)
    (hroom : nameRoom s d.home = true) (he : objEnt s w.obj = some (i, e)) :
    Settles (.writeEffect d.id) s (fun u => Completed d stOK s u ∧
      nameAt u i = { e with
        size := max e.size ((w.ranges.map (fun r => r.1 + r.2)).foldl max 0), gen := genNext e.gen,
        modified := nowH s d.home } ∧
      u.objs.nextOrd = s.objs.nextOrd + 1 ∧ ∀ j, j ≠ i → nameAt u j = nameAt s j) := by
  obtain ⟨x, t, ht, hx⟩ := writeEffect_writes hq hwrite hcoll hdur hg hok hroom
  have hstep := writeStep_keeps (now := nowH s d.home) hw he
  have hj := nameJrnl_step d.home (writeStep w.id (nowH s d.home) s)
  have hd : (nameJrnl d.home (writeStep w.id (nowH s d.home) s)).dikar = s.dikar := hj.dikar.trans hstep.dikar
  have hobjs : t.objs = (writeStep w.id (nowH s d.home) s).objs := by rw [ht, opEnd_objs (hq.of_dikar hd), hj.objs]
  have hc : Completed d stOK s t := by
    rw [ht]
    exact (opEnd_completes (hq.of_dikar hd) stOK x).since (by rw [cqGet_congr hd])
  obtain ⟨hbd, hbn, hbo, -⟩ := buildStripes_keeps w.id t
  have hv : ∀ v, v = (if (wrGet t w.id).any allHome then buildStripes w.id t else t) →
      v.dikar = t.dikar ∧ v.objs.names = t.objs.names ∧ v.objs.nextOrd = t.objs.nextOrd := by
    rintro v rfl
    split
    · exact ⟨hbd, hbn, hbo⟩
    · exact ⟨rfl, rfl, rfl⟩
  obtain ⟨hvd, hvn, hvo⟩ := hv _ rfl
  have hat : ∀ j, nameAt (writeEffect d.id s) j =
      nameAt (namePut i (entryWritten e (reachOf w) (nowH s d.home)) (writeOrdered w.id s)) j :=
    nameAt_congr (by rw [hx]; exact hvn.trans ((congrArg Objects.names hobjs).trans hstep.names))
  refine ⟨writeEffect d.id s, rfl, hc.until (by rw [hx]; exact hvd), (hat i).trans (nameAt_namePut_self _ _ _), ?_,
    fun j hne => (hat j).trans (nameAt_namePut_other hne _ _)⟩
  rw [hx]
  exact hvo.trans ((congrArg Objects.nextOrd hobjs).trans hstep.nextOrd)

end

/-! A copy over the span (R284). -/

/-- Write `wid` of half `home` has its pages there, but for those of `gs`. -/
def HomeBut (wid : Nat) (home : Half) (gs : List WPg) (s : State) : Prop :=
  ∃ w, wrGet s wid = some w ∧ w.home = home ∧ ∀ g ∈ w.pages, g.half = home ∨ g ∈ gs

theorem copyPage_homeBut {wid : Nat} {home : Half} {g : WPg} {gs : List WPg} {s : State}
    (hb : HomeBut wid home (g :: gs) s) (q : Nat) : HomeBut wid home gs (copyPage wid home g q s) := by
  obtain ⟨w, hw, hh, hp⟩ := hb
  refine ⟨{ w with pages := w.pages.map (fun x => if x = g then ⟨g.panel, home, q, g.settled⟩ else x) }, ?_, hh, ?_⟩
  · rw [copyPage, wrGet_congr (congrArg Objects.writes (ezStore_objs _ _ _))]
    exact wrGet_wrMod (fun _ => rfl) hw
  · intro y hy
    obtain ⟨x, hx, rfl⟩ := List.mem_map.mp hy
    by_cases hxg : x = g
    · rw [if_pos hxg]
      exact .inl rfl
    · rw [if_neg hxg]
      rcases hp x hx with hhome | hmem
      · exact .inl hhome
      · exact .inr ((List.mem_cons.mp hmem).resolve_left hxg)

theorem foldl_copyPage_homeBut {wid : Nat} {home : Half} {gs : List WPg} {qs : List Nat} {s : State}
    (hl : qs.length = gs.length) (hb : HomeBut wid home gs s) :
    HomeBut wid home [] ((gs.zip qs).foldl (fun t x => copyPage wid home x.1 x.2 t) s) := by
  induction gs generalizing qs s with
  | nil => exact hb
  | cons g r ih =>
    obtain _ | ⟨q, qs⟩ := qs
    · simp at hl
    · have hr : qs.length = r.length := by simpa using hl
      rw [List.zip_cons_cons, List.foldl_cons]
      exact ih hr (copyPage_homeBut hb q)

theorem takePages_length {h : Half} {n : Nat} {s u : State} {pgs : List Nat} (ht : takePages h n s = some (pgs, u)) :
    pgs.length = n := by
  induction n generalizing s pgs with
  | zero =>
    obtain ⟨rfl, -⟩ := Prod.mk.inj (Option.some.inj ht)
    rfl
  | succ n ih =>
    rw [takePages] at ht
    split at ht
    · simp at ht
    · obtain ⟨⟨q, v⟩, hq, hv⟩ := Option.map_eq_some_iff.mp ht
      obtain ⟨rfl, rfl⟩ := Prod.mk.inj hv
      rw [List.length_cons, ih hq]

theorem spanCopy_copies {s t : State} {w : Write} {qs : List Nat} (hw : wrGet s w.id = some w) (ho : w.ord ≠ 0)
    (hbuilt : w.built = false) (hh : allHome w = false) (hspan : s.boot.span = true) (hroom : jrnlRoom s w.home = true)
    (ht : takePages w.home (w.pages.filter (fun g => decide (g.half ≠ w.home))).length s = some (qs, t)) :
    spanCopy w.id s = buildStripes w.id (jrnl w.home
      (((w.pages.filter (fun g => decide (g.half ≠ w.home))).zip qs).foldl
        (fun t x => copyPage w.id w.home x.1 x.2 t) t)) := by
  unfold spanCopy
  simp only [hw, ho, hbuilt, hh, hspan, hroom, ht, Bool.false_eq_true, or_self]
  rw [if_neg (by decide)]

theorem spanCopy_ends {s t : State} {w : Write} {qs : List Nat} (hw : wrGet s w.id = some w) (ho : w.ord ≠ 0)
    (hbuilt : w.built = false) (hh : allHome w = false) (hspan : s.boot.span = true) (hroom : jrnlRoom s w.home = true)
    (hops : s.dikar.ops.all (fun d => !(d.coll.isSome && d.write == some w.id)) = true)
    (ht : takePages w.home (w.pages.filter (fun g => decide (g.half ≠ w.home))).length s = some (qs, t)) :
    Settles (.spanCopy w.id) s (fun u => (wrGet u w.id).any allHome = true) := by
  have hnone : s.dikar.ops.filter (fun d => d.coll.isSome && d.write == some w.id) = [] :=
    List.filter_eq_nil_iff.mpr fun x hx =>
      Bool.eq_false_iff.mp ((Bool.not_eq_true' _).mp (List.all_eq_true.mp hops x hx))
  have hall : spanCopyAll w.id s = spanCopy w.id s := by
    rw [spanCopyAll, hnone]
    rfl
  have hbut : HomeBut w.id w.home (w.pages.filter (fun g => decide (g.half ≠ w.home))) t := by
    refine ⟨w, by rw [wrGet_congr (congrArg Objects.writes (takePages_objs ht)), hw], rfl, fun g hg => ?_⟩
    by_cases hgh : g.half = w.home
    · exact .inl hgh
    · exact .inr (List.mem_filter.mpr ⟨hg, by simpa using hgh⟩)
  obtain ⟨y, hy, hyh, hpages⟩ := foldl_copyPage_homeBut (takePages_length ht) hbut
  have hx := hall.trans (spanCopy_copies hw ho hbuilt hh hspan hroom ht)
  refine ⟨spanCopyAll w.id s, rfl, ?_⟩
  rw [hx]
  generalize List.foldl _ t _ = v at hy ⊢
  have hj : wrGet (jrnl w.home v) w.id = some y := by
    rw [wrGet_congr (congrArg Objects.writes (jrnl_step w.home v).objs), hy]
  obtain ⟨-, -, -, hkept⟩ := buildStripes_keeps w.id (jrnl w.home v)
  obtain ⟨sb, b, hbuilt⟩ := hkept y hj
  rw [hbuilt]
  simp only [Option.any_some, allHome, List.all_eq_true, decide_eq_true_eq]
  intro g hg
  have hhome := hpages g hg
  simpa [hyh] using hhome

/-- Settles O30: each clause follows its command's one change of the name table, and what is done beside it leaves the
entries and the one completion alone. -/
theorem namespaceStepsAndWritesTakeEffect : Obligations.NamespaceStepsAndWritesTakeEffect := by
  unfold Obligations.NamespaceStepsAndWritesTakeEffect
  refine ⟨fun s h d hw =>
      ⟨namespaceStep_turned hw, fun i e => namespaceStep_deletes hw, fun i => namespaceStep_creates hw⟩,
    fun s h stood d => nsTimeout_retries, fun s d w hget hreply hring hmute hforced hwrite hw hcoll hdur hq => ?_,
    fun s w qs t => spanCopy_ends, fun s id x hx => ⟨mergeRetry_starts hx, mergeRetry_leaves hx⟩,
    fun s hq => ⟨nameCompact_idle hq, fun i j => nameCompact_ends hq⟩⟩
  have hqueued : Queued s d := ⟨hget, hreply, hring, hmute, hforced⟩
  exact ⟨writeEffect_gone hqueued hwrite hcoll hdur hq, fun i e => writeEffect_ends hqueued hwrite hw hcoll hdur⟩

end Sys2Proof.Machine
end

section
/-!
SUPPORT. Pages whose registers a change leaves alone: the journals and Easel's line counts stay on the pages of Easel,
and what the Matching Engines, Dikar and the egress choices count stays on theirs (R381, R393, R490).
-/
namespace Sys2Proof.Machine

/-- No register of page `P` has changed. -/
def PageKept (P : Nat) (s t : State) : Prop := ∀ (f : Fld) (i : Nat), rdI t P f i = rdI s P f i

section
variable {P : Nat} {s t u : State}

theorem PageKept.refl (P : Nat) (s : State) : PageKept P s s := fun _ _ => rfl

theorem PageKept.trans (h1 : PageKept P s t) (h2 : PageKept P t u) : PageKept P s u :=
  fun f i => (h2 f i).trans (h1 f i)

theorem PageKept.of_eq (h : t.regs = s.regs) : PageKept P s t := fun f i => by rw [rdI, h, rdI]

theorem PageKept.ite {p : Prop} [Decidable p] (ht : PageKept P s t) (hu : PageKept P s u) :
    PageKept P s (if p then t else u) := by
  split
  · exact ht
  · exact hu

theorem RegsKept.page {ex : List (Nat × Nat)} (h : RegsKept ex s t) (hP : ∀ p ∈ ex, p.1 ≠ P) : PageKept P s t :=
  fun f i => h.rdI P f i fun hk => hP _ hk rfl

end

theorem evtRegs_page {P Q : Nat} (h : Q ≠ P) : ∀ p ∈ evtRegs Q, p.1 ≠ P := by simp [evtRegs, h]

section
variable {P Q : Nat} (s : State)

theorem wrI_pageKept (hQ : Q ≠ P) (f : Fld) (i v : Nat) : PageKept P s (wrI Q f i v s) :=
  (wrI_kept Q f i v s).page (by simpa using hQ)

theorem bump_pageKept (hQ : Q ≠ P) (f : Fld) : PageKept P s (bump Q f s) := (bump_kept Q f s).page (by simpa using hQ)

theorem raise_pageKept (hQ : Q ≠ P) (b : Nat) : PageKept P s (raise Q b s) := (raise_kept Q b s).page (evtRegs_page hQ)

theorem raiseIf_pageKept (hQ : Q ≠ P) (c : Bool) (b : Nat) : PageKept P s (raiseIf c Q b s) :=
  (raiseIf_kept c Q b s).page (evtRegs_page hQ)

/-! The pages of Easel (R381, R393). -/

variable (hP : ∀ g, pgEasel g ≠ P)
include hP

theorem addLines_pageKept (st n : Nat) : PageKept P s (addLines st n s) := by
  unfold addLines
  extract_lets Q i w ppm s1
  have hQ : Q ≠ P := hP _
  have h1 : PageKept P s s1 := (wrI_pageKept s hQ _ _ _).trans (wrI_pageKept _ hQ _ _ _)
  have hwarn := (raiseTo_kept (176 + st) Q 11 (wrI Q R.EZ_STK_VIEW_1_WARN i 1 s1)).page (evtRegs_page hQ)
  exact .ite ((h1.trans (wrI_pageKept s1 hQ _ _ _)).trans hwarn) h1

theorem foldl_addLines_pageKept (f g : Nat → Nat) (l : List Nat) :
    PageKept P s (l.foldl (fun t i => addLines (f i) (g i) t) s) := by
  induction l generalizing s with
  | nil => exact .refl P s
  | cons i r ih => exact (addLines_pageKept s hP _ _).trans (ih _)

theorem ezStore_pageKept (a : Nat) (bs : List Byte) : PageKept P s (ezStore a bs s) := by
  unfold ezStore
  refine .ite (.refl P s) ?_
  have hw : PageKept P s (ezWrite a bs s) := .of_eq rfl
  exact hw.trans (foldl_addLines_pageKept (ezWrite a bs s) hP _ (fun _ => 1) _)

omit hP in
theorem jrnlMod_pageKept (h : Half) (f : Jrnl → Jrnl) : PageKept P s (jrnlMod h f s) := .of_eq rfl

theorem jrnlWait_pageKept (h : Half) : PageKept P s (jrnlWait h s) :=
  ((bump_pageKept s (hP h) _).trans (jrnlMod_pageKept _ h _)).trans (raiseIf_pageKept _ (hP h) _ _)

theorem stepCounted_pageKept (h : Half) : PageKept P s (stepCounted h s) := by
  have hw : PageKept P s { s with freeSeq := s.freeSeq + 1 } := .of_eq rfl
  exact hw.trans (foldl_addLines_pageKept { s with freeSeq := s.freeSeq + 1 } hP _ _ _)

theorem jrnl_pageKept (h : Half) : PageKept P s (jrnl h s) := by
  have hc := stepCounted_pageKept s hP h
  rw [jrnl_eq]
  exact .ite (hc.trans (jrnlMod_pageKept _ h _))
    (hc.trans ((jrnlMod_pageKept _ h _).trans (jrnlWait_pageKept _ hP h)))

end

theorem pgEasel_ne_contexts (g : Half) : pgEasel g ≠ pgContexts := by cases g <;> decide

theorem pgEasel_ne_rings (g : Half) : pgEasel g ≠ pgRings := by cases g <;> decide

theorem pgMatch_ne_contexts (g : Half) : pgMatch g ≠ pgContexts := by cases g <;> decide

theorem pgMatch_ne_rings (g : Half) : pgMatch g ≠ pgRings := by cases g <;> decide

theorem svcRegs_ne_contexts : ∀ p ∈ svcRegs, p.1 ≠ pgContexts := by decide

theorem svcRegs_ne_rings : ∀ p ∈ svcRegs, p.1 ≠ pgRings := by decide

theorem quiet_raise (P b : Nat) (s : State) : quiet (raise P b s) = quiet s := by
  rw [raise_only]
  exact quiet_congr _ _ rfl rfl rfl rfl rfl rfl rfl rfl

theorem sendPkt_pageKept (h : Half) (p : Packet) (s : State) {P : Nat} (hP : ∀ q ∈ egrRegs, q.1 ≠ P) :
    PageKept P s (sendPkt h p s) :=
  (PageKept.of_eq rfl).trans ((sendPkt_step h p s).regs.page hP)

end Sys2Proof.Machine
end

section
/-!
SUPPORT. CTX_CMD and PIN: what a command of the selected context answers, what it makes of the context and of its
entries, and what it leaves of everything else (R311-R313, R319, R334, R335).
-/
namespace Sys2Proof.Machine

/-! What is done beside a context's own record: a journalled step, a result. -/

/-- `t` is `s` for whoever looks at contexts and their entries, and as quiet. -/
structure CtxKept (s t : State) : Prop where
  dikar : t.dikar = s.dikar
  page : PageKept pgContexts s t
  quiet : quiet t = quiet s

section
variable {s t u : State}

theorem CtxKept.trans (h1 : CtxKept s t) (h2 : CtxKept t u) : CtxKept s u :=
  ⟨h2.dikar.trans h1.dikar, h1.page.trans h2.page, h2.quiet.trans h1.quiet⟩

theorem CtxKept.view (h : CtxKept s t) (f : Fld) (c : Nat) : ctxV t f c = ctxV s f c := h.page f c

theorem CtxKept.entry (h : CtxKept s t) (g : Half) (n : Nat) : entGet t g n = entGet s g n := by
  rw [entGet, mh_congr h.dikar, entGet]

theorem CtxKept.blocks (h : CtxKept s t) (g : Half) (c : Nat) : ctxBlocks t g c = ctxBlocks s g c := by
  rw [ctxBlocks, mh_congr h.dikar, ctxBlocks]

theorem CtxKept.queue (h : CtxKept s t) (g : Half) (c : Nat) : cqGet t g c = cqGet s g c := cqGet_congr h.dikar g c

theorem CtxKept.overflow (h : CtxKept s t) (g : Half) (c : Nat) : ctxOvf t g c = ctxOvf s g c := by
  rw [ctxOvf, mh_congr h.dikar, ctxOvf]

end

theorem JournalStep.quiet {s t : State} (h : JournalStep s t) : quiet t = quiet s := by
  rw [h]
  exact quiet_congr _ _ rfl rfl rfl rfl rfl rfl rfl rfl

theorem jrnl_ctxKept (h : Half) (s : State) : CtxKept s (jrnl h s) :=
  ⟨(jrnl_step h s).dikar, jrnl_pageKept s pgEasel_ne_contexts h, (jrnl_step h s).quiet⟩

theorem jrnl_results (h : Half) (s : State) : (jrnl h s).results = s.results := by
  rw [show jrnl h s = _ from jrnl_step h s]

theorem resPage_ne_contexts (h : Half) : resPage (resOf h) ≠ pgContexts := by cases h <;> decide

theorem ctxResult_only (h : Half) (op c code entry : Nat) (s : State) : ctxResult h op c code entry s = { s with
    regs := (ctxResult h op c code entry s).regs, strikes := (ctxResult h op c code entry s).strikes
    results := (ctxResult h op c code entry s).results } :=
  pushResult_only _ _ _ _ s

theorem ctxResult_ctxKept (h : Half) (op c code entry : Nat) (s : State) :
    CtxKept s (ctxResult h op c code entry s) := by
  refine ⟨by rw [ctxResult_only], (pushResult_kept _ _ _ _ s).page (evtRegs_page (resPage_ne_contexts h)), ?_⟩
  rw [ctxResult_only]
  exact quiet_congr _ _ rfl rfl rfl rfl rfl rfl rfl rfl

theorem pushResult_wordPushed {q kind w : Nat} {s u : State} (hu : u.results = s.results) (hr : resRoom s q 0 = true) :
    WordPushed q kind w s (pushResult q kind false [w] u) := by
  have hfit : (tget {} u.results q).words.length + [w].length ≤ 4096 := by
    rw [hu]
    exact of_decide_eq_true hr
  rw [pushResult]
  simp only [Bool.false_eq_true, if_false]
  rw [if_pos hfit, WordPushed, raiseIf_results, ← hu]
  exact ⟨tget_tput_self .., fun p hp => tget_tput_other _ _ _ _ _ hp⟩

/-- The one result word of a command with OP `op` on context `c` (R335). -/
def ctxWord (op c code entry : Nat) : Nat := code * 2 ^ 48 + entry * 2 ^ 24 + op * 2 ^ 20 + c

/-- The step of a command is journalled, and then the command answers. -/
def stepAnswered (h : Half) (op c entry : Nat) (s : State) : State := ctxResult h op c 0 entry (jrnl h s)

theorem stepAnswered_ctxKept (h : Half) (op c entry : Nat) (s : State) : CtxKept s (stepAnswered h op c entry s) :=
  (jrnl_ctxKept h s).trans (ctxResult_ctxKept _ _ _ _ _ _)

/-! The selected context (R334, R335). -/

section
variable {s : State} {h : Half} {c : Nat}

theorem CtxSel.sel (hs : CtxSel s h c) : rd s pgContexts R.CTX_SEL_CTX = c := by
  obtain ⟨hsel, -⟩ := hs
  exact hsel

theorem CtxSel.home (hs : CtxSel s h c) : ctxHome s c = h := by
  obtain ⟨-, hhome, -⟩ := hs
  exact hhome

theorem CtxSel.room (hs : CtxSel s h c) : resRoom s (resOf h) 0 = true := by
  obtain ⟨-, -, hroom, -⟩ := hs
  exact hroom

theorem CtxSel.quiet (hs : CtxSel s h c) : quiet s = true := by
  obtain ⟨-, -, -, hq⟩ := hs
  exact hq

theorem stepAnswered_wordPushed {u : State} (hu : u.results = s.results) (hs : CtxSel s h c) (op entry : Nat) :
    WordPushed (resOf h) 5 (ctxWord op c 0 entry) s (stepAnswered h op c entry u) := by
  obtain ⟨-, -, hroom, -⟩ := hs
  exact pushResult_wordPushed ((jrnl_results h u).trans hu) hroom

theorem ends_onCtx {i : Instr} {f : Nat → State → State} {Q : State → Prop} (hs : CtxSel s h c)
    (hx : exec i s = done (onCtx f s)) (hq : quiet (f c (unlatched pgContexts s)) = true)
    (hQ : Q (f c (unlatched pgContexts s))) : Ends i s Q := by
  obtain ⟨hc, -⟩ := hs
  have hf : onCtx f s = settle (f c (unlatched pgContexts s)) := by
    rw [onCtx, onPage_live _ _ _ _ rfl, ← hc]
    rfl
  exact ends_settle (hx.trans (congrArg done hf)) hq hQ

/-- A command that does nothing but answer. -/
theorem onlyAnswers_of_result {i : Instr} {f : Nat → State → State} {op code entry w : Nat} (hs : CtxSel s h c)
    (hx : exec i s = done (onCtx f s))
    (hf : f c (unlatched pgContexts s) = ctxResult h op c code entry (unlatched pgContexts s))
    (hw : w = ctxWord op c code entry) : OnlyAnswers i s h w := by
  have hkept := ctxResult_ctxKept h op c code entry (unlatched pgContexts s)
  refine ends_onCtx hs hx ?_ ?_
  · obtain ⟨-, -, -, hq⟩ := hs
    rw [hf, hkept.quiet, quiet_unlatched, hq]
  · obtain ⟨-, -, hroom, -⟩ := hs
    rw [hf, hw]
    refine ⟨pushResult_wordPushed rfl hroom, ?_, pushResult_kept _ _ _ _ (unlatched pgContexts s)⟩
    rw [ctxResult_only]
    rfl

/-- A command that has changed only what stands with the contexts, has it journalled and answers. -/
theorem ends_stepAnswered {i : Instr} {f : Nat → State → State} {op entry : Nat} {u : State} {Q : State → Prop}
    (hs : CtxSel s h c) (hx : exec i s = done (onCtx f s))
    (hf : f c (unlatched pgContexts s) = stepAnswered h op c entry u) (hu : quiet u = quiet s)
    (hQ : Q (stepAnswered h op c entry u)) : Ends i s Q := by
  refine ends_onCtx hs hx ?_ ?_
  · obtain ⟨-, -, -, hq⟩ := hs
    rw [hf, (stepAnswered_ctxKept h op c entry u).quiet, hu, hq]
  · rwa [hf]

/-! OPEN (R311). -/

/-- The record of context `c` as OPEN leaves it. -/
def opened (c : Nat) (s : State) : State :=
  ctxPut R.CTX_VIEW_0_STATE c csOPEN (mhMod (ctxHome s c) (fun m => { m with
    blocks := tput [] m.blocks c [], ovf := m.ovf.filter (fun x => x.ctx != c), cqs := tput {} m.cqs c {}
    forced := m.forced.filter (fun x => x != c) })
    (ctxPut R.CTX_VIEW_5_CQ_CI c 0 (ctxPut R.CTX_VIEW_5_CQ_PI c 0 (ctxPut R.CTX_VIEW_0_POISON c 0
      (ctxPut R.CTX_VIEW_7_FAILED c 0 s)))))

theorem ctxOpen_fails (hc : openCode s c ≠ 0) : ctxOpen c s = ctxResult (ctxHome s c) 1 c (openCode s c) 0 s :=
  if_pos hc

theorem ctxOpen_opens (hc : openCode s c = 0) : ctxOpen c s = stepAnswered (ctxHome s c) 1 c 0 (opened c s) :=
  if_neg (not_not.mpr hc)

theorem ctxPut_half (f : Fld) (v : Nat) (s : State) (g : Half) : mh (ctxPut f c v s) g = mh s g := rfl

theorem ctxPut_view_record {f g : Fld} {v d : Nat} (hd : d ≠ c) : ctxV (ctxPut f c v s) g d = ctxV s g d :=
  rdI_wrI_record pgContexts pgContexts f g v s hd

theorem ctxPut_view_place {f g : Fld} {v : Nat} (d : Nat) (hg : (g.off, g.lo) ≠ (f.off, f.lo)) :
    ctxV (ctxPut f c v s) g d = ctxV s g d :=
  rdI_wrI_place pgContexts pgContexts c d v s hg

theorem ctxPut_view_self (f : Fld) (v : Nat) : ctxV (ctxPut f c v s) f c = v % 2 ^ f.w :=
  rdI_wrI_self s pgContexts f c v

theorem mhMod_view (f : MatchHalf → MatchHalf) (g : Fld) (d : Nat) : ctxV (mhMod h f s) g d = ctxV s g d := rfl

theorem quiet_mhMod (f : MatchHalf → MatchHalf) (s : State) : quiet (mhMod h f s) = quiet s :=
  quiet_congr _ _ rfl rfl rfl rfl rfl rfl rfl rfl

theorem opened_record (c : Nat) (s : State) : ctxState (opened c s) c = csOPEN ∧
    ctxV (opened c s) R.CTX_VIEW_7_FAILED c = 0 ∧ ctxV (opened c s) R.CTX_VIEW_0_POISON c = 0 ∧
    ctxV (opened c s) R.CTX_VIEW_5_CQ_PI c = 0 ∧ ctxV (opened c s) R.CTX_VIEW_5_CQ_CI c = 0 := by
  unfold opened ctxState
  refine ⟨ctxPut_view_self _ _, ?_, ?_, ?_, ?_⟩ <;>
    simp (disch := decide) only [ctxPut_view_place, mhMod_view, ctxPut_view_self, Nat.zero_mod]

theorem opened_other {d : Nat} (hd : d ≠ c) (f : Fld) : ctxV (opened c s) f d = ctxV s f d := by
  unfold opened
  simp only [ctxPut_view_record hd, mhMod_view]

theorem filter_not_filter_self {α : Type} (p : α → Bool) (l : List α) : (l.filter (fun x => !p x)).filter p = [] := by
  simp

theorem opened_lists (c : Nat) (s : State) : ctxBlocks (opened c s) (ctxHome s c) c = [] ∧
    ctxOvf (opened c s) (ctxHome s c) c = [] ∧ cqGet (opened c s) (ctxHome s c) c = {} := by
  rw [ctxBlocks, ctxOvf, cqGet, opened, ctxPut_half, mhMod_at, if_pos rfl]
  refine ⟨?_, filter_not_filter_self (fun x : OvfRec => x.ctx == c) _, ?_⟩ <;> simp only [tget_tput_self]

theorem ctxPut_results (f : Fld) (c v : Nat) (s : State) : (ctxPut f c v s).results = s.results := rfl

theorem mhMod_results (h : Half) (f : MatchHalf → MatchHalf) (s : State) : (mhMod h f s).results = s.results := rfl

theorem quiet_ctxPut (f : Fld) (c v : Nat) (s : State) : quiet (ctxPut f c v s) = quiet s := quiet_wrI _ _ _ _ _

theorem quiet_opened (c : Nat) (s : State) : quiet (opened c s) = quiet s := by
  unfold opened
  simp only [quiet_ctxPut, quiet_mhMod]

theorem opened_results (c : Nat) (s : State) : (opened c s).results = s.results := by
  unfold opened
  rw [ctxPut_results, mhMod_results, ctxPut_results, ctxPut_results, ctxPut_results, ctxPut_results]

theorem ctxOpen_ends (hs : CtxSel s h c) (hcode : openCode s c = 0) :
    Ends .ctxOpen s (fun t => WordPushed (resOf h) 5 (2 ^ 20 + c) s t ∧ ctxState t c = csOPEN ∧
      ctxV t R.CTX_VIEW_7_FAILED c = 0 ∧ ctxV t R.CTX_VIEW_0_POISON c = 0 ∧ ctxV t R.CTX_VIEW_5_CQ_PI c = 0 ∧
      ctxV t R.CTX_VIEW_5_CQ_CI c = 0 ∧ ctxBlocks t h c = [] ∧ ctxOvf t h c = [] ∧ cqGet t h c = {} ∧
      (∀ f d, d ≠ c → ctxV t f d = ctxV s f d) ∧ t.dikar.ops = s.dikar.ops) := by
  have hw : 2 ^ 20 + c = ctxWord 1 c 0 0 := by simp only [ctxWord]; omega
  have hhome : ctxHome (unlatched pgContexts s) c = h := hs.home
  have hf := ctxOpen_opens (s := unlatched pgContexts s) hcode
  have hlists := opened_lists c (unlatched pgContexts s)
  rw [hhome] at hf hlists
  refine ends_stepAnswered (f := ctxOpen) hs rfl hf ((quiet_opened _ _).trans (quiet_unlatched _ _)) ?_
  obtain ⟨hstate, hfailed, hpoison, hpi, hci⟩ := opened_record c (unlatched pgContexts s)
  obtain ⟨hblocks, hovf, hqueue⟩ := hlists
  have hk := stepAnswered_ctxKept h 1 c 0 (opened c (unlatched pgContexts s))
  rw [hw]
  refine ⟨stepAnswered_wordPushed (opened_results c (unlatched pgContexts s)) hs 1 0, (hk.view _ _).trans hstate,
    (hk.view _ _).trans hfailed, (hk.view _ _).trans hpoison, (hk.view _ _).trans hpi, (hk.view _ _).trans hci,
    (hk.blocks _ _).trans hblocks, (hk.overflow _ _).trans hovf, (hk.queue _ _).trans hqueue,
    fun f d hd => (hk.view f d).trans (opened_other hd f), ?_⟩
  rw [hk.dikar]
  rfl

/-! CLOSE (R312). -/

/-- Context `c` is closing, and its step is journalled. -/
def closing (c : Nat) (s : State) : State := jrnl (ctxHome s c) (ctxPut R.CTX_VIEW_0_STATE c csCLOSING s)

/-- Requests of context `c` that hold a place but have not been admitted. -/
def unadmitted (s : State) (c : Nat) : List DOp :=
  s.dikar.ops.filter (fun d => d.ctx == c && (d.st == .slot || d.st == .admitting))

theorem closing_dikar (c : Nat) (s : State) : (closing c s).dikar = s.dikar := (jrnl_step _ _).dikar

theorem closing_results (c : Nat) (s : State) : (closing c s).results = s.results := jrnl_results _ _

theorem quiet_closing (c : Nat) (s : State) : quiet (closing c s) = quiet s :=
  (jrnl_ctxKept _ _).quiet.trans (quiet_wrI _ _ _ _ _)

theorem closing_state (c : Nat) (s : State) : ctxState (closing c s) c = csCLOSING :=
  ((jrnl_ctxKept _ _).view _ _).trans (ctxPut_view_self _ _)

theorem closing_other {d : Nat} (hd : d ≠ c) (f : Fld) : ctxV (closing c s) f d = ctxV s f d :=
  ((jrnl_ctxKept _ _).view _ _).trans (ctxPut_view_record hd)

theorem mhMod_of_fixed {f : MatchHalf → MatchHalf} (hf : f (mh s h) = mh s h) : mhMod h f s = s := by
  have hput : s.dikar.halves.put h (f (s.dikar.halves.at h)) = s.dikar.halves := by
    rw [show f (s.dikar.halves.at h) = _ from hf]
    cases h <;> rfl
  rw [mhMod, dkMod, hput]

theorem filter_ne_of_filter_eq_nil {l : List OvfRec} (hl : l.filter (fun x => x.ctx == c) = []) :
    l.filter (fun x => x.ctx != c) = l := by
  refine List.filter_eq_self.mpr fun x hx => ?_
  simpa using List.filter_eq_nil_iff.mp hl x hx

theorem ctxClose_ringed (force : Bool) (hr : ctxRings s c ≠ []) :
    ctxClose c force s = ctxResult (ctxHome s c) 2 c 4 0 s :=
  if_pos (by simpa using hr)

theorem ctxClose_notOpen (force : Bool) (hr : ctxRings s c = []) (ho : ctxIsOpen s c = false) :
    ctxClose c force s = ctxResult (ctxHome s c) 2 c 1 0 s :=
  (if_neg (by simp [hr])).trans (if_pos (by simp [ho]))

/-- A close that is not forced, of an open context without overflow requests, fails the requests not yet admitted. -/
theorem ctxClose_closes (hr : ctxRings s c = []) (ho : ctxIsOpen s c = true) (hv : ctxOvf s (ctxHome s c) c = []) :
    ctxClose c false s = ((unadmitted s c).map (·.id)).foldl (fun t i => opFail i stCTX_CLOSED t) (closing c s) := by
  have hfix : mhMod (ctxHome s c) (fun m => { m with ovf := m.ovf.filter (fun x => x.ctx != c) }) (closing c s) =
      closing c s := by
    refine mhMod_of_fixed ?_
    rw [mh_congr (closing_dikar c s), filter_ne_of_filter_eq_nil hv]
  unfold ctxClose
  simp only [hr, ho, hv, List.isEmpty_nil, Bool.not_true, Bool.false_eq_true, if_false, List.foldl_nil]
  rw [show jrnl (ctxHome s c) (ctxPut R.CTX_VIEW_0_STATE c csCLOSING s) = closing c s from rfl, hfix, unadmitted,
    closing_dikar]

theorem ctxClose_ends_closing (hs : CtxSel s h c) (hr : ctxRings s c = []) (ho : ctxIsOpen s c = true)
    (hv : ctxOvf s h c = [])
    (hn : s.dikar.ops.all (fun d => !(d.ctx == c && (d.st == .slot || d.st == .admitting))) = true) :
    Ends (.ctxClose false) s (fun t => ctxState t c = csCLOSING ∧ t.results = s.results ∧ t.dikar = s.dikar ∧
      (∀ f d, d ≠ c → ctxV t f d = ctxV s f d)) := by
  have hnone : unadmitted s c = [] := List.filter_eq_nil_iff.mpr fun d hd =>
    Bool.eq_false_iff.mp ((Bool.not_eq_true' _).mp (List.all_eq_true.mp hn d hd))
  have hf : ctxClose c false (unlatched pgContexts s) = closing c (unlatched pgContexts s) := by
    rw [ctxClose_closes (s := unlatched pgContexts s) hr ho (hs.home.symm ▸ hv),
      show unadmitted (unlatched pgContexts s) c = [] from hnone]
    rfl
  refine ends_onCtx (f := fun c => ctxClose c false) hs rfl ?_ ?_
  · rw [hf, quiet_closing, quiet_unlatched, hs.quiet]
  · rw [hf]
    exact ⟨closing_state _ _, closing_results _ _, closing_dikar _ _, fun f d hd => closing_other hd f⟩

theorem ctxClose_ends_completed {d : DOp} (hs : CtxSel s h c) (hr : ctxRings s c = []) (ho : ctxIsOpen s c = true)
    (hv : ctxOvf s h c = []) (hd : ByQueue s d)
    (hn : s.dikar.ops.filter (fun x => x.ctx == c && (x.st == .slot || x.st == .admitting)) = [d]) :
    Ends (.ctxClose false) s (fun t => ctxState t c = csCLOSING ∧ Completed d stCTX_CLOSED s t) := by
  have hf : ctxClose c false (unlatched pgContexts s) =
      opFail d.id stCTX_CLOSED (closing c (unlatched pgContexts s)) := by
    rw [ctxClose_closes (s := unlatched pgContexts s) hr ho (hs.home.symm ▸ hv),
      show unadmitted (unlatched pgContexts s) c = [d] from hn]
    rfl
  have hdk := closing_dikar c (unlatched pgContexts s)
  have hstep := opFail_svcStep d.id stCTX_CLOSED (closing c (unlatched pgContexts s))
  refine ends_onCtx (f := fun c => ctxClose c false) hs rfl ?_ ?_
  · rw [hf, hstep.quiet, quiet_closing, quiet_unlatched, hs.quiet]
  · rw [hf]
    refine ⟨(hstep.regs.page svcRegs_ne_contexts _ _).trans (closing_state _ _), ?_⟩
    exact (opFail_completes (hd.queued.of_dikar hdk) _).since (congrArg Cq.recs (cqGet_congr hdk _ _))

/-! The end of a close (R312). -/

/-- Context `c` has no entries and no completion queue any more. -/
def emptied (c : Nat) (s : State) : State :=
  mhMod (ctxHome s c) (fun m => { m with
    ents := m.ents.filter (fun p => !(ctxBlocks s (ctxHome s c) c).contains (p.1 / 64)), blocks := tput [] m.blocks c []
    usedSlots := (ctxBlocks s (ctxHome s c) c).foldl (fun t b => tput 0 t b 0) m.usedSlots
    cqs := tput {} m.cqs c {}, forced := m.forced.filter (fun x => x != c) }) s

/-- The operations of context `c` answer no more. -/
def muted (c : Nat) (s : State) : State :=
  dkMod (fun d => { d with ops := d.ops.map (fun x => if x.ctx = c then { x with mute := true } else x) }) s

/-- Context `c` as the end of its close leaves it. -/
def closed (c : Nat) (s : State) : State :=
  ctxPut R.CTX_VIEW_7_FAILED c 0 (ctxPut R.CTX_VIEW_0_POISON c 0 (ctxPut R.CTX_VIEW_0_STATE c csCLOSED
    (muted c (emptied c s))))

theorem ctxCloseFinish_closes (hst : ctxState s c = csCLOSING) (hr : closeReady s (ctxHome s c) c = true) :
    ctxCloseFinish c s = stepAnswered (ctxHome s c) 2 c 0 (closed c s) :=
  if_neg (by simp [hst, hr])

theorem ctxCloseFinish_idle (hn : ctxState s c ≠ csCLOSING ∨ closeReady s (ctxHome s c) c = false) :
    ctxCloseFinish c s = s :=
  if_pos hn

theorem closed_record (c : Nat) (s : State) : ctxState (closed c s) c = csCLOSED ∧
    ctxV (closed c s) R.CTX_VIEW_7_FAILED c = 0 ∧ ctxV (closed c s) R.CTX_VIEW_0_POISON c = 0 := by
  unfold closed ctxState
  refine ⟨?_, ?_, ?_⟩ <;> simp (disch := decide) only [ctxPut_view_place, ctxPut_view_self, Nat.zero_mod]
  rfl

theorem muted_half (c : Nat) (s : State) (g : Half) : mh (muted c s) g = mh s g := rfl

theorem muted_results (c : Nat) (s : State) : (muted c s).results = s.results := rfl

theorem quiet_muted (c : Nat) (s : State) : quiet (muted c s) = quiet s :=
  quiet_congr _ _ rfl rfl rfl rfl rfl rfl rfl rfl

theorem closed_lists (c : Nat) (s : State) :
    ctxBlocks (closed c s) (ctxHome s c) c = [] ∧ cqGet (closed c s) (ctxHome s c) c = {} := by
  rw [ctxBlocks, cqGet, closed, ctxPut_half, ctxPut_half, ctxPut_half, muted_half, emptied, mhMod_at, if_pos rfl]
  constructor <;> simp only [tget_tput_self]

theorem quiet_closed (c : Nat) (s : State) : quiet (closed c s) = quiet s := by
  unfold closed emptied
  simp only [quiet_ctxPut, quiet_muted, quiet_mhMod]

theorem closed_results (c : Nat) (s : State) : (closed c s).results = s.results := by
  unfold closed emptied
  rw [ctxPut_results, ctxPut_results, ctxPut_results, muted_results, mhMod_results]

theorem ctxCloseFinish_ends (hs : CtxSel s h c) (hst : ctxState s c = csCLOSING) (hr : closeReady s h c = true) :
    Ends (.ctxCloseFinish c) s (fun t => ctxState t c = csCLOSED ∧ ctxBlocks t h c = [] ∧ cqGet t h c = {} ∧
      ctxV t R.CTX_VIEW_7_FAILED c = 0 ∧ ctxV t R.CTX_VIEW_0_POISON c = 0 ∧
      WordPushed (resOf h) 5 (2 * 2 ^ 20 + c) s t) := by
  have hw : 2 * 2 ^ 20 + c = ctxWord 2 c 0 0 := by simp only [ctxWord]; omega
  have hhome := hs.home
  subst hhome
  obtain ⟨hstate, hfailed, hpoison⟩ := closed_record c s
  obtain ⟨hblocks, hqueue⟩ := closed_lists c s
  have hk := stepAnswered_ctxKept (ctxHome s c) 2 c 0 (closed c s)
  refine ends_settle (congrArg (fun t => done (settle t)) (ctxCloseFinish_closes hst hr)) ?_ ?_
  · rw [hk.quiet, quiet_closed, hs.quiet]
  · rw [hw]
    exact ⟨(hk.view _ _).trans hstate, (hk.blocks _ _).trans hblocks, (hk.queue _ _).trans hqueue,
      (hk.view _ _).trans hfailed, (hk.view _ _).trans hpoison, stepAnswered_wordPushed (closed_results c s) hs 2 0⟩

theorem ctxCloseFinish_waits (hs : CtxSel s h c) (hn : ctxState s c ≠ csCLOSING ∨ closeReady s h c = false) :
    exec (.ctxCloseFinish c) s = .next s :=
  exec_settled (congrArg (fun t => done (settle t)) (ctxCloseFinish_idle (hs.home.symm ▸ hn))) hs.quiet

/-! APPEND_ENTRY (R319). -/

/-- The staged entry stands in slot `n` of context `c`'s list, in a new block where `new` says so. -/
def appended (c n : Nat) (new : Bool) (s : State) : State :=
  mhMod (ctxHome s c) (fun m => { m with
    ents := tput {} m.ents n (staged s c), usedSlots := tput 0 m.usedSlots (n / 64) (n % 64 + 1)
    blocks := if new then tput [] m.blocks c (tget [] m.blocks c ++ [n / 64]) else m.blocks }) s

/-- What R315 asks of a staged entry. -/
def StagedBad (s : State) (c : Nat) : Prop :=
  (staged s c).dops = 0 ∨ (staged s c).nameHi < (staged s c).nameLo ∨ bits (stageWord s 4) 25 0 ≠ 0

theorem meAppend_notOpen (ho : ctxIsOpen s c = false) : meAppend c s = ctxResult (ctxHome s c) 3 c 1 0 s :=
  if_pos (by simp [ho])

theorem meAppend_bad (ho : ctxIsOpen s c = true) (hb : StagedBad s c) :
    meAppend c s = ctxResult (ctxHome s c) 3 c 3 0 s :=
  (if_neg (by simp [ho])).trans (if_pos hb)

theorem meAppend_appends {n : Nat} {new : Bool} (ho : ctxIsOpen s c = true) (hb : ¬ StagedBad s c)
    (hslot : entSlot s (ctxHome s c) c = some (n, new)) (hv : ctxOvf s (ctxHome s c) c = []) :
    meAppend c s = stepAnswered (ctxHome s c) 3 c (entNo (ctxHome s c) n) (appended c n new s) := by
  have hstep : meAppend c s = ovfPass (ctxHome s c)
      (ctxOvf (stepAnswered (ctxHome s c) 3 c (entNo (ctxHome s c) n) (appended c n new s)) (ctxHome s c) c)
      (stepAnswered (ctxHome s c) 3 c (entNo (ctxHome s c) n) (appended c n new s)) := by
    refine (if_neg (by simp [ho])).trans ((if_neg hb).trans ?_)
    rw [hslot]
    rfl
  have hnone : ctxOvf (appended c n new s) (ctxHome s c) c = [] := by
    rw [ctxOvf, appended, mhMod_at, if_pos rfl]
    exact hv
  rw [hstep, (stepAnswered_ctxKept _ _ _ _ _).overflow, hnone]
  rfl

theorem appended_results (c n : Nat) (new : Bool) (s : State) : (appended c n new s).results = s.results :=
  mhMod_results _ _ _

theorem entGet_appended (c n k : Nat) (new : Bool) (s : State) : entGet (appended c n new s) (ctxHome s c) k =
    if k = n then staged s c else entGet s (ctxHome s c) k := by
  rw [entGet, appended, mhMod_at, if_pos rfl]
  by_cases hk : k = n
  · rw [if_pos hk, hk]
    exact tget_tput_self _ _ _ _
  · rw [if_neg hk]
    exact tget_tput_other _ _ _ _ _ hk

theorem ctxBlocks_appended (c n d : Nat) (new : Bool) (s : State) : ctxBlocks (appended c n new s) (ctxHome s c) d =
    if d = c ∧ new = true then ctxBlocks s (ctxHome s c) c ++ [n / 64] else ctxBlocks s (ctxHome s c) d := by
  rw [ctxBlocks, appended, mhMod_at, if_pos rfl]
  cases new
  · simp [ctxBlocks]
  · by_cases hd : d = c
    · simp [hd, ctxBlocks]
    · simp [hd, ctxBlocks, tget_tput_other _ _ _ _ _ hd]

theorem meAppend_ends {n : Nat} {new : Bool} (hs : CtxSel s h c) (ho : ctxIsOpen s c = true) (hb : ¬ StagedBad s c)
    (hslot : entSlot s h c = some (n, new)) (hv : ctxOvf s h c = []) :
    Ends .meAppendEntry s (fun t => WordPushed (resOf h) 5 (entNo h n * 2 ^ 24 + 3 * 2 ^ 20 + c) s t ∧
      entGet t h n = staged s c ∧ (∀ k, k ≠ n → entGet t h k = entGet s h k) ∧
      ctxBlocks t h c = (if new then ctxBlocks s h c ++ [n / 64] else ctxBlocks s h c) ∧
      (∀ d, d ≠ c → ctxBlocks t h d = ctxBlocks s h d)) := by
  have hw : entNo h n * 2 ^ 24 + 3 * 2 ^ 20 + c = ctxWord 3 c 0 (entNo h n) := by simp only [ctxWord]; omega
  have hhome := hs.home
  subst hhome
  have hk := stepAnswered_ctxKept (ctxHome s c) 3 c (entNo (ctxHome s c) n) (appended c n new (unlatched pgContexts s))
  have hent := fun k => entGet_appended c n k new (unlatched pgContexts s)
  have hblk := fun d => ctxBlocks_appended c n d new (unlatched pgContexts s)
  refine ends_stepAnswered (f := meAppend) hs rfl (meAppend_appends (s := unlatched pgContexts s) ho hb hslot hv)
    ((quiet_mhMod _ _).trans (quiet_unlatched _ _)) ?_
  rw [hw]
  refine ⟨stepAnswered_wordPushed (appended_results c n new (unlatched pgContexts s)) hs 3 _, ?_, fun k hkn => ?_, ?_,
    fun d hd => ?_⟩
  · exact (hk.entry _ _).trans ((hent n).trans (if_pos rfl))
  · exact (hk.entry _ _).trans ((hent k).trans (if_neg hkn))
  · refine (hk.blocks _ _).trans ((hblk c).trans ?_)
    simp only [true_and]
    rfl
  · exact (hk.blocks _ _).trans ((hblk d).trans (if_neg (by simp [hd])))

/-! REMOVE_ENTRY and READ_ENTRY (R319). -/

/-- The number of the entry in ME_SEL. -/
def selNo (s : State) : Nat := entNo (Half.ofBit (rd s pgContexts R.ME_SEL_HALF)) (rd s pgContexts R.ME_SEL_VALUE)

theorem meRemove_bad (ho : ctxIsOpen s c = true) (hsel : selOk s c = false) :
    meRemove c s = ctxResult (ctxHome s c) 4 c 6 (selNo s) s :=
  (if_neg (by simp [ho])).trans (if_pos (by simp [hsel]))

theorem meRead_bad (ho : ctxIsOpen s c = true) (hsel : selOk s c = false) :
    meRead c s = ctxResult (ctxHome s c) 5 c 6 (selNo s) s :=
  (if_neg (by simp [ho])).trans (if_pos (by simp [hsel]))

theorem meRemove_removes (ho : ctxIsOpen s c = true) (hsel : selOk s c = true)
    (hr : (ctxRings s c).any (fun r => rdI s pgRings R.RING_CTRL_ENTRY r == rd s pgContexts R.ME_SEL_VALUE) = false) :
    meRemove c s = stepAnswered (ctxHome s c) 4 c (selNo s)
      (entRemove (ctxHome s c) c (rd s pgContexts R.ME_SEL_VALUE) s) :=
  (if_neg (by simp [ho])).trans ((if_neg (by simp [hsel])).trans (if_neg (by simp [hr])))

/-- The eight words of an entry stand in ME_VIEW (R334). -/
def viewed (ws : List Nat) (s : State) : State :=
  ws.zipIdx.foldl (fun t x => wr pgContexts (R.ME_VIEW.at x.2) x.1 t) s

theorem meRead_reads (ho : ctxIsOpen s c = true) (hsel : selOk s c = true) : meRead c s =
    ctxResult (ctxHome s c) 5 c 0 (selNo s)
      (viewed (entWords (entGet s (ctxHome s c) (rd s pgContexts R.ME_SEL_VALUE))) s) :=
  (if_neg (by simp [ho])).trans (if_neg (by simp [hsel]))

theorem entPut_half (n : Nat) (e : MatchEnt) (s : State) :
    mh (entPut h n e s) h = { mh s h with ents := tput {} (mh s h).ents n e } := by
  rw [entPut, mhMod_at, if_pos rfl]

theorem entGet_entRemove (h : Half) (c n : Nat) (s : State) : entGet (entRemove h c n s) h n = {} := by
  unfold entRemove
  extract_lets s1 b
  have hput : entGet s1 h n = {} := by
    rw [entGet, entPut_half]
    simp only [tget_tput_self]
  split
  · exact hput
  · rw [entGet, mhMod_at, if_pos rfl]
    exact tgetBy_of_not_mem (κ := Nat) ({} : MatchEnt) _ n fun e he hk => by simp [hk, b] at he

theorem entRemove_results (h : Half) (c n : Nat) (s : State) : (entRemove h c n s).results = s.results := by
  unfold entRemove
  dsimp only
  split <;> rfl

theorem quiet_entRemove (h : Half) (c n : Nat) (s : State) : quiet (entRemove h c n s) = quiet s := by
  unfold entRemove
  dsimp only
  split
  · exact quiet_mhMod _ _
  · exact (quiet_mhMod _ _).trans (quiet_mhMod _ _)

theorem meRemove_ends (hs : CtxSel s h c) (ho : ctxIsOpen s c = true) (hsel : selOk s c = true)
    (hr : (ctxRings s c).any (fun r => rdI s pgRings R.RING_CTRL_ENTRY r == rd s pgContexts R.ME_SEL_VALUE) = false) :
    Ends .meRemoveEntry s (fun t => WordPushed (resOf h) 5 (selNo s * 2 ^ 24 + 4 * 2 ^ 20 + c) s t ∧
      entGet t h (rd s pgContexts R.ME_SEL_VALUE) = {}) := by
  have hw : selNo s * 2 ^ 24 + 4 * 2 ^ 20 + c = ctxWord 4 c 0 (selNo s) := by simp only [ctxWord]; omega
  have hhome := hs.home
  subst hhome
  refine ends_stepAnswered (f := meRemove) hs rfl (meRemove_removes (s := unlatched pgContexts s) ho hsel hr)
    ((quiet_entRemove _ _ _ _).trans (quiet_unlatched _ _)) ?_
  rw [hw]
  exact ⟨stepAnswered_wordPushed (entRemove_results (ctxHome s c) c _ (unlatched pgContexts s)) hs 4 _,
    ((stepAnswered_ctxKept _ _ _ _ _).entry _ _).trans (entGet_entRemove _ _ _ _)⟩

theorem foldl_view_only (l : List (Nat × Nat)) (s : State) :
    l.foldl (fun t x => wr pgContexts (R.ME_VIEW.at x.2) x.1 t) s = { s with
      regs := (l.foldl (fun t x => wr pgContexts (R.ME_VIEW.at x.2) x.1 t) s).regs } := by
  induction l generalizing s with
  | nil => rfl
  | cons x r ih => rw [List.foldl_cons, ih]; rfl

theorem rd_foldl_view_other {l : List (Nat × Nat)} {j : Nat} (hj : ∀ x ∈ l, x.2 ≠ j) (s : State) :
    rd (l.foldl (fun t x => wr pgContexts (R.ME_VIEW.at x.2) x.1 t) s) pgContexts (R.ME_VIEW.at j) =
      rd s pgContexts (R.ME_VIEW.at j) := by
  induction l generalizing s with
  | nil => rfl
  | cons x r ih =>
    rw [List.foldl_cons, ih fun y hy => hj y (List.mem_cons_of_mem _ hy)]
    refine rd_wr_place _ _ _ _ ?_
    have hx := hj x List.mem_cons_self
    simp only [Fld.at, ne_eq, Prod.mk.injEq, not_and]
    omega

theorem rd_viewed (ws : List Nat) (k : Nat) (s : State) {i w : Nat} (hi : ws[i]? = some w) :
    rd ((ws.zipIdx k).foldl (fun t x => wr pgContexts (R.ME_VIEW.at x.2) x.1 t) s) pgContexts (R.ME_VIEW.at (k + i)) =
      w % 2 ^ 64 := by
  induction ws generalizing s k i with
  | nil => simp at hi
  | cons a r ih =>
    rw [List.zipIdx_cons, List.foldl_cons]
    cases i with
    | zero =>
      obtain rfl : a = w := by simpa using hi
      rw [rd_foldl_view_other fun x hx => ?_]
      · exact rd_wr_self _ _ _ _
      · have := (List.mem_zipIdx hx).1
        omega
    | succ i =>
      have := ih (k + 1) (wr pgContexts (R.ME_VIEW.at k) a s) (by simpa using hi)
      rwa [show k + (i + 1) = k + 1 + i by omega]

theorem meRead_ends (hs : CtxSel s h c) (ho : ctxIsOpen s c = true) (hsel : selOk s c = true) :
    Ends .meReadEntry s (fun t => WordPushed (resOf h) 5 (selNo s * 2 ^ 24 + 5 * 2 ^ 20 + c) s t ∧
      (∀ i w, (entWords (entGet s h (rd s pgContexts R.ME_SEL_VALUE)))[i]? = some w →
        rd t pgContexts (R.ME_VIEW.at i) = w % 2 ^ 64) ∧ t.dikar = s.dikar) := by
  have hw : selNo s * 2 ^ 24 + 5 * 2 ^ 20 + c = ctxWord 5 c 0 (selNo s) := by simp only [ctxWord]; omega
  have hhome := hs.home
  subst hhome
  have hf := meRead_reads (s := unlatched pgContexts s) ho hsel
  generalize hws : entWords (entGet s (ctxHome s c) (rd s pgContexts R.ME_SEL_VALUE)) = ws
  have hf' : meRead c (unlatched pgContexts s) =
      ctxResult (ctxHome s c) 5 c 0 (selNo s) (viewed ws (unlatched pgContexts s)) := hws ▸ hf
  have honly : viewed ws (unlatched pgContexts s) = { unlatched pgContexts s with
    regs := (viewed ws (unlatched pgContexts s)).regs } := foldl_view_only _ _
  have hk := ctxResult_ctxKept (ctxHome s c) 5 c 0 (selNo s) (viewed ws (unlatched pgContexts s))
  refine ends_onCtx (f := meRead) hs rfl ?_ ?_
  · rw [hf', hk.quiet, honly, ← hs.quiet]
    exact quiet_congr _ _ rfl rfl rfl rfl rfl rfl rfl rfl
  · rw [hf', hw]
    obtain ⟨-, -, hroom, -⟩ := hs
    refine ⟨pushResult_wordPushed (by rw [honly]; rfl) hroom, fun i w hi => ?_, by rw [hk.dikar, honly]; rfl⟩
    refine (hk.page _ 0).trans ?_
    have := rd_viewed ws 0 (unlatched pgContexts s) hi
    rwa [Nat.zero_add] at this

/-! PIN (R313). -/

theorem exec_pinWrite (hs : CtxSel s h c) (v : Bool) (p : Path) :
    exec (.pinWrite v p) s = .next (pinWrite c v p (unlatched pgContexts s)) := by
  have hx := exec_onPage_live (c := .pinWrite v p) (s := s) (P := pgContexts) rfl rfl
  rw [hx, ← hs.sel]
  rfl

theorem pinWrite_pins {v : Bool} (p : Path) (hs : CtxSel s h c)
    (hv : v = false ∨ ctxV s R.CTX_VIEW_0_PIN c ≠ 0 ∨ pinned s h < 16384) :
    Ends (.pinWrite v p) s (fun t => ctxV t R.CTX_VIEW_0_PIN c = bit v ∧
      t = { s with regs := t.regs, woLatch := t.woLatch } ∧ RegsKept [(pgContexts, R.CTX_VIEW_0_PIN.off)] s t) := by
  have hput : pinWrite c v p (unlatched pgContexts s) =
      ctxPut R.CTX_VIEW_0_PIN c (bit v) (unlatched pgContexts s) := by
    refine if_neg ?_
    show ¬ (v && ctxV s R.CTX_VIEW_0_PIN c == 0 && decide (16384 ≤ pinned s (ctxHome s c))) = true
    rw [hs.home]
    rcases hv with rfl | hpin | hroom
    · simp
    · simp [hpin]
    · simp [hroom]
  refine ⟨_, (exec_pinWrite hs v p).trans (congrArg _ hput), ?_, rfl,
    wrI_kept pgContexts R.CTX_VIEW_0_PIN c (bit v) (unlatched pgContexts s)⟩
  refine (ctxPut_view_self _ _).trans ?_
  cases v <;> rfl

theorem pinWrite_refused (p : Path) (hs : CtxSel s h c) (hpin : ctxV s R.CTX_VIEW_0_PIN c = 0)
    (hfull : 16384 ≤ pinned s h) : Ends (.pinWrite true p) s (fun t =>
      t = cfgReject pgContexts R.CTX_VIEW_0_PIN.off 3 .live (some p) { s with woLatch := t.woLatch }) := by
  have hput : pinWrite c true p (unlatched pgContexts s) =
      cfgReject pgContexts R.CTX_VIEW_0_PIN.off 3 .live (some p) (unlatched pgContexts s) := by
    refine if_pos ?_
    show (true && ctxV s R.CTX_VIEW_0_PIN c == 0 && decide (16384 ≤ pinned s (ctxHome s c))) = true
    simp [hs.home, hpin, hfull]
  refine ⟨_, (exec_pinWrite hs true p).trans (congrArg _ hput), ?_⟩
  dsimp only
  rw [cfgReject_woLatch]
  rfl

end

/-- Settles O32: a refusal is one result word, and each command's own change is followed by its journalled step and its
word, which leave contexts and entries as they are. -/
theorem contextCommandsReport : Obligations.ContextCommandsReport := by
  unfold Obligations.ContextCommandsReport
  intro s h c hs
  obtain rfl := hs.home
  refine ⟨fun hc => ?_, ctxOpen_ends hs, fun force hr => ?_, fun force hr ho => ?_, ctxClose_ends_closing hs,
    fun d hr ho hv hd => ctxClose_ends_completed hs hr ho hv hd, ctxCloseFinish_ends hs, ctxCloseFinish_waits hs,
    fun ho => ?_, fun ho hb => ?_, fun n new ho hd hn hz => meAppend_ends hs ho ?_, ?_,
    fun v p => ⟨pinWrite_pins p hs, ?_⟩⟩
  · have hw : openCode s c * 2 ^ 48 + 2 ^ 20 + c = ctxWord 1 c (openCode s c) 0 := by simp only [ctxWord]; omega
    exact onlyAnswers_of_result hs rfl (ctxOpen_fails (s := unlatched pgContexts s) hc) hw
  · exact onlyAnswers_of_result (f := fun c => ctxClose c force) hs rfl
      (ctxClose_ringed (s := unlatched pgContexts s) force hr) (by simp only [ctxWord]; omega)
  · exact onlyAnswers_of_result (f := fun c => ctxClose c force) hs rfl
      (ctxClose_notOpen (s := unlatched pgContexts s) force hr ho) (by simp only [ctxWord]; omega)
  · exact onlyAnswers_of_result hs rfl (meAppend_notOpen (s := unlatched pgContexts s) ho)
      (by simp only [ctxWord]; omega)
  · exact onlyAnswers_of_result hs rfl (meAppend_bad (s := unlatched pgContexts s) ho hb)
      (by simp only [ctxWord]; omega)
  · rintro (hd' | hn' | hz')
    · exact hd hd'
    · omega
    · exact hz' hz
  · rintro k rfl
    refine ⟨fun ho hsel => ⟨?_, ?_⟩, meRemove_ends hs, meRead_ends hs⟩
    · exact onlyAnswers_of_result hs rfl (meRemove_bad (s := unlatched pgContexts s) ho hsel)
        (by simp only [ctxWord]; rfl)
    · exact onlyAnswers_of_result hs rfl (meRead_bad (s := unlatched pgContexts s) ho hsel)
        (by simp only [ctxWord]; rfl)
  · rintro rfl
    exact pinWrite_refused p hs

end Sys2Proof.Machine
end

section
/-!
SUPPORT. Overflow lists, completion queues and the consumer index: a request that has waited too long, records and index
writes that go out, and what a client's aperture write makes of CI (R320-R326).
-/
namespace Sys2Proof.Machine

/-! OVF_TIMEOUT (R320). -/

section
variable {s : State} {h : Half} {c : Nat}

theorem ovfTimeout_denies {x : OvfRec} (ho : ctxOvf s h c = [x]) :
    ovfTimeout h c s = denyReq h x 3 (mhMod h (fun m => { m with ovf := m.ovf.erase x }) s) := by
  unfold ovfTimeout
  rw [ho]
  rfl

theorem ovfTimeout_none (ho : ctxOvf s h c = []) : ovfTimeout h c s = s := by
  unfold ovfTimeout
  rw [ho]

theorem denyReq_counts (h : Half) (x : OvfRec) {ev : Nat} (hev : ev < 64) (s : State) :
    (rd (denyReq h x ev s) (pgMatch h) R.EVT_RAW).testBit ev = true ∧
      rd (denyReq h x ev s) (pgMatch h) R.MATCH_CNT_NO_MATCH =
        rd (bump (pgMatch h) R.MATCH_CNT_NO_MATCH s) (pgMatch h) R.MATCH_CNT_NO_MATCH := by
  unfold denyReq
  dsimp only
  rw [(opArrive_kept h _ _).rd (pgMatch h) R.EVT_RAW (by cases h <;> decide),
    (opArrive_kept h _ _).rd (pgMatch h) R.MATCH_CNT_NO_MATCH (by cases h <;> decide)]
  exact ⟨evtRaw_raise_self _ _ hev, rd_raise_off _ _ _ _ (by decide)⟩

theorem denyReq_arrives (h : Half) (x : OvfRec) (ev : Nat) (s : State) :
    (denyReq h x ev s).dikar.next = s.dikar.next + 1 ∧ (mh (denyReq h x ev s) h).ovf = (mh s h).ovf ∧
      quiet (denyReq h x ev s) = quiet s := by
  have hd : (raise (pgMatch h) ev (bump (pgMatch h) R.MATCH_CNT_NO_MATCH s)).dikar = s.dikar := by
    rw [raise_dikar, bump_dikar]
  obtain ⟨hnext, hovf, hquiet⟩ :=
    opArrive_arrives h (ovfOp x none) (raise (pgMatch h) ev (bump (pgMatch h) R.MATCH_CNT_NO_MATCH s))
  exact ⟨hnext.trans (by rw [hd]), (hovf h).trans (by rw [mh_congr hd]),
    hquiet.trans ((quiet_raise _ _ _).trans (quiet_bump _ _ _))⟩

theorem ovfTimeout_ends {x : OvfRec} (hq : quiet s = true) (ho : ctxOvf s h c = [x]) :
    Ends (.ovfTimeout h c) s (fun t => (mh t h).ovf = (mh s h).ovf.erase x ∧ t.dikar.next = s.dikar.next + 1 ∧
      (rd t (pgMatch h) R.EVT_RAW).testBit 3 = true ∧
      rd t (pgMatch h) R.MATCH_CNT_NO_MATCH =
        rd (bump (pgMatch h) R.MATCH_CNT_NO_MATCH s) (pgMatch h) R.MATCH_CNT_NO_MATCH) := by
  generalize hu : mhMod h (fun m => { m with ovf := m.ovf.erase x }) s = u
  have hx : exec (.ovfTimeout h c) s = done (settle (denyReq h x 3 u)) :=
    congrArg (fun t => done (settle t)) (hu ▸ ovfTimeout_denies ho)
  obtain ⟨hnext, hovf, hquiet⟩ := denyReq_arrives h x 3 u
  obtain ⟨hevt, hcnt⟩ := denyReq_counts h x (ev := 3) (by decide) u
  subst hu
  refine ends_settle hx (hquiet.trans ((quiet_mhMod _ _).trans hq)) ⟨hovf.trans ?_, hnext, hevt, hcnt.trans ?_⟩
  · rw [mhMod_at, if_pos rfl]
  · exact rd_bump_congr rfl rfl

theorem ovfTimeout_idle (hq : quiet s = true) (ho : ctxOvf s h c = []) : exec (.ovfTimeout h c) s = .next s :=
  exec_settled (congrArg (fun t => done (settle t)) (ovfTimeout_none ho)) hq

end

/-! CQ_RECORD_WRITE (R322). -/

theorem cqGet_cqMod_other {c d : Nat} (h : Half) (f : Cq → Cq) (s : State) (hd : d ≠ c) :
    cqGet (cqMod h c f s) h d = cqGet s h d := by
  rw [cqGet, cqMod, mhMod_at, if_pos rfl]
  exact tget_tput_other _ _ _ _ _ hd

theorem cqMod_view (h : Half) (c : Nat) (f : Cq → Cq) (s : State) (g : Fld) (d : Nat) :
    ctxV (cqMod h c f s) g d = ctxV s g d := rfl

theorem cqMod_nextPid (h : Half) (c : Nat) (f : Cq → Cq) (s : State) : (cqMod h c f s).nextPid = s.nextPid := rfl

theorem quiet_cqMod (h : Half) (c : Nat) (f : Cq → Cq) (s : State) : quiet (cqMod h c f s) = quiet s := quiet_mhMod _ _

/-- The operation of a record that has gone out is over. -/
def recordOver (o : Option Nat) (s : State) : State :=
  match o with
  | some i => opDrop i s
  | none => s

theorem recordOver_only (o : Option Nat) (s : State) : recordOver o s = { s with
    dikar := { s.dikar with ops := (recordOver o s).dikar.ops, queue := (recordOver o s).dikar.queue } } := by
  cases o <;> rfl

theorem quiet_recordOver (o : Option Nat) (s : State) : quiet (recordOver o s) = quiet s := by
  rw [recordOver_only]
  exact quiet_congr _ _ rfl rfl rfl rfl rfl rfl rfl rfl

theorem recordOver_queue (o : Option Nat) (s : State) (g : Half) (d : Nat) :
    cqGet (recordOver o s) g d = cqGet s g d := by
  rw [recordOver_only]
  rfl

theorem recordOver_view (o : Option Nat) (s : State) (f : Fld) (d : Nat) : ctxV (recordOver o s) f d = ctxV s f d := by
  rw [recordOver_only]
  rfl

theorem recordOver_nextPid (o : Option Nat) (s : State) : (recordOver o s).nextPid = s.nextPid := by
  rw [recordOver_only]

theorem opGet_recordOver {o : Option Nat} {i : Nat} (ho : o = some i) (s : State) :
    opGet (recordOver o s) i = none := by
  subst ho
  refine List.find?_eq_none.mpr fun d hd => ?_
  simpa using (List.mem_filter.mp hd).2

/-- A completion queue whose oldest record `x` has gone out before `r` (R322). -/
def cqWritten (x : CqRec) (r : List CqRec) (q : Cq) : Cq :=
  { q with
    recs := r, uncovered := q.uncovered + 1, rings := q.rings ++ x.ring.toList, full := q.full && r.any (·.waited) }

/-- One packet of context `c` has gone out for its oldest record, and PI has moved on. -/
def recordSent (c : Nat) (x : CqRec) (s : State) : State :=
  bump (pgMatch (ctxHome s c)) R.MATCH_CNT_CQ_REC
    (ctxPut R.CTX_VIEW_5_CQ_PI c
      ((ctxV s R.CTX_VIEW_5_CQ_PI c + 1) % 2 ^ (ctxV s R.CTX_VIEW_2_CQ_LOG2 c + 1))
      (sendPkt (ctxHome s c) (mkPW true (ctxV s R.CTX_VIEW_5_CQ_NODE c)
        (ctxV s R.CTX_VIEW_2_CQ_ADDR c * 64 +
          64 * (ctxV s R.CTX_VIEW_5_CQ_PI c % 2 ^ ctxV s R.CTX_VIEW_2_CQ_LOG2 c)) c
        (ctxV s R.CTX_VIEW_4_CQ_KEY c) (bodyBytes x.body)) s))

section
variable {s : State} {c : Nat} {x : CqRec} {r : List CqRec}

theorem cqRecordWrite_writes (hrec : (cqGet s (ctxHome s c) c).recs = x :: r) (hroom : cqRoom s c ≠ 0) :
    cqRecordWrite c s = recordOver x.op (cqMod (ctxHome s c) c (cqWritten x r) (recordSent c x s)) := by
  unfold cqRecordWrite
  simp only [hrec, hroom, if_false]
  cases x.op <;> rfl

theorem cqRecordWrite_waits (hrec : (cqGet s (ctxHome s c) c).recs = x :: r) (hroom : cqRoom s c = 0) :
    cqRecordWrite c s = cqMod (ctxHome s c) c (fun q => { q with recs := { x with waited := true } :: r, full := true })
      (raiseIf (!(cqGet s (ctxHome s c) c).full) (pgMatch (ctxHome s c)) 4
        (if x.waited then s else bump (pgMatch (ctxHome s c)) R.MATCH_CNT_CQ_FULL s)) := by
  unfold cqRecordWrite
  simp only [hrec, hroom, if_true]

theorem sendPkt_contexts (h : Half) (p : Packet) (s : State) : PageKept pgContexts s (sendPkt h p s) :=
  sendPkt_pageKept h p s (by decide)

theorem quiet_sendPkt (h : Half) (p : Packet) (s : State) : quiet (sendPkt h p s) = quiet s :=
  (sendPkt_svcStep h p s).quiet

theorem sendPkt_dikar (h : Half) (p : Packet) (s : State) : (sendPkt h p s).dikar = s.dikar := by rw [sendPkt_only]

theorem recordSent_dikar (c : Nat) (x : CqRec) (s : State) : (recordSent c x s).dikar = s.dikar := by
  rw [recordSent, bump_dikar, ctxPut, wrI_dikar, sendPkt_dikar]

theorem recordSent_nextPid (c : Nat) (x : CqRec) (s : State) : (recordSent c x s).nextPid = s.nextPid + 1 := by
  rw [recordSent, bump_nextPid, ctxPut, wrI_nextPid, sendPkt_only]

theorem quiet_recordSent (c : Nat) (x : CqRec) (s : State) : quiet (recordSent c x s) = quiet s := by
  rw [recordSent, quiet_bump, quiet_ctxPut, quiet_sendPkt]

theorem recordSent_index (x : CqRec) (hlog : ctxV s R.CTX_VIEW_2_CQ_LOG2 c ≤ 16) :
    ctxV (recordSent c x s) R.CTX_VIEW_5_CQ_PI c =
      (ctxV s R.CTX_VIEW_5_CQ_PI c + 1) % 2 ^ (ctxV s R.CTX_VIEW_2_CQ_LOG2 c + 1) := by
  have hfit : 2 ^ (ctxV s R.CTX_VIEW_2_CQ_LOG2 c + 1) ≤ 2 ^ 17 := Nat.pow_le_pow_right (by decide) (by omega)
  refine ((bump_pageKept _ (pgMatch_ne_contexts _) _) _ c).trans ((ctxPut_view_self _ _).trans ?_)
  exact Nat.mod_eq_of_lt ((Nat.mod_lt _ (Nat.two_pow_pos _)).trans_le hfit)

theorem cqRecordWrite_ends (hq : quiet s = true) (hrec : (cqGet s (ctxHome s c) c).recs = x :: r)
    (hroom : cqRoom s c ≠ 0) (hlog : ctxV s R.CTX_VIEW_2_CQ_LOG2 c ≤ 16) :
    Ends (.cqRecordWrite c) s (fun t => (cqGet t (ctxHome s c) c).recs = r ∧
      (cqGet t (ctxHome s c) c).uncovered = (cqGet s (ctxHome s c) c).uncovered + 1 ∧
      ctxV t R.CTX_VIEW_5_CQ_PI c = (ctxV s R.CTX_VIEW_5_CQ_PI c + 1) % 2 ^ (ctxV s R.CTX_VIEW_2_CQ_LOG2 c + 1) ∧
      t.nextPid = s.nextPid + 1 ∧ (∀ i, x.op = some i → opGet t i = none) ∧
      (∀ d, d ≠ c → cqGet t (ctxHome s c) d = cqGet s (ctxHome s c) d)) := by
  have hsent := fun d => cqGet_congr (recordSent_dikar c x s) (ctxHome s c) d
  have hown : cqGet (recordOver x.op (cqMod (ctxHome s c) c (cqWritten x r) (recordSent c x s))) (ctxHome s c) c =
      cqWritten x r (cqGet s (ctxHome s c) c) := by
    rw [recordOver_queue, cqGet_cqMod_self, hsent]
  refine ends_settle (congrArg (fun t => done (settle t)) (cqRecordWrite_writes hrec hroom)) ?_
    ⟨by rw [hown]; rfl, by rw [hown]; rfl, ?_, ?_, fun i hi => opGet_recordOver hi _, fun d hd => ?_⟩
  · rw [quiet_recordOver, quiet_cqMod, quiet_recordSent, hq]
  · rw [recordOver_view, cqMod_view, recordSent_index x hlog]
  · rw [recordOver_nextPid, cqMod_nextPid, recordSent_nextPid]
  · rw [recordOver_queue, cqGet_cqMod_other _ _ _ hd, hsent]

/-- The oldest record begins to wait for room, or goes on waiting: counted once. -/
def waitCounted (h : Half) (x : CqRec) (s : State) : State :=
  if x.waited then s else bump (pgMatch h) R.MATCH_CNT_CQ_FULL s

theorem waitCounted_only (h : Half) (x : CqRec) (s : State) :
    waitCounted h x s = { s with regs := (waitCounted h x s).regs } := by
  unfold waitCounted
  split
  · rfl
  · rw [bump_only]

theorem waitCounted_contexts (h : Half) (x : CqRec) (s : State) : PageKept pgContexts s (waitCounted h x s) :=
  .ite (.refl _ s) (bump_pageKept s (pgMatch_ne_contexts h) _)

theorem cqRecordWrite_full (hq : quiet s = true) (hrec : (cqGet s (ctxHome s c) c).recs = x :: r)
    (hroom : cqRoom s c = 0) : Ends (.cqRecordWrite c) s (fun t =>
      (cqGet t (ctxHome s c) c).recs = { x with waited := true } :: r ∧
      rd t (pgMatch (ctxHome s c)) R.MATCH_CNT_CQ_FULL =
        (if x.waited then rd s (pgMatch (ctxHome s c)) R.MATCH_CNT_CQ_FULL
        else rd (bump (pgMatch (ctxHome s c)) R.MATCH_CNT_CQ_FULL s) (pgMatch (ctxHome s c)) R.MATCH_CNT_CQ_FULL) ∧
      ((cqGet s (ctxHome s c) c).full = false → (rd t (pgMatch (ctxHome s c)) R.EVT_RAW).testBit 4 = true) ∧
      (∀ f d, ctxV t f d = ctxV s f d) ∧ t.nextPid = s.nextPid ∧ t.dikar.ops = s.dikar.ops) := by
  have hx : cqRecordWrite c s = cqMod (ctxHome s c) c
      (fun q => { q with recs := { x with waited := true } :: r, full := true })
      (raiseIf (!(cqGet s (ctxHome s c) c).full) (pgMatch (ctxHome s c)) 4 (waitCounted (ctxHome s c) x s)) :=
    cqRecordWrite_waits hrec hroom
  have honly := waitCounted_only (ctxHome s c) x s
  have hpage := waitCounted_contexts (ctxHome s c) x s
  generalize hb : (!(cqGet s (ctxHome s c) c).full) = b at hx
  have hraised := raiseIf_only b (pgMatch (ctxHome s c)) 4 (waitCounted (ctxHome s c) x s)
  have hkept := raiseIf_pageKept (waitCounted (ctxHome s c) x s) (pgMatch_ne_contexts (ctxHome s c)) b 4
  refine ends_settle (congrArg (fun t => done (settle t)) hx) ?_ ⟨?_, ?_, fun hfull => ?_, fun f d => ?_, ?_, ?_⟩
  · refine (quiet_mhMod _ _).trans ?_
    rw [hraised, honly, ← hq]
    exact quiet_congr _ _ rfl rfl rfl rfl rfl rfl rfl rfl
  · rw [cqGet_cqMod_self]
  · refine ((raiseIf_kept b _ 4 _).rd (pgMatch (ctxHome s c)) R.MATCH_CNT_CQ_FULL (by simp [evtRegs]; decide)).trans ?_
    unfold waitCounted
    split <;> rfl
  · obtain rfl : b = true := by rw [← hb, hfull]; rfl
    exact evtRaw_raise_self _ (waitCounted (ctxHome s c) x s) (by decide)
  · exact (hpage.trans hkept) f d
  · show (raiseIf b _ 4 _).nextPid = _
    rw [raiseIf_nextPid, honly]
  · show (raiseIf b _ 4 _).dikar.ops = _
    rw [raiseIf_dikar, honly]

end

/-! CQ_PI_WRITE (R322). -/

theorem raiseTo_strikes (src P b : Nat) (s : State) : s.strikes.length ≤ (raiseTo src P b s).strikes.length := by
  unfold raiseTo
  dsimp only
  split
  · simp [strike]
  · exact le_rfl

theorem raiseIf_strikes_le (c : Bool) (P b : Nat) (s : State) :
    s.strikes.length ≤ (raiseIf c P b s).strikes.length := by
  cases c
  · exact le_rfl
  · exact raiseTo_strikes _ P b s

theorem egrWait_strikes (q : QPkt) (e : Bool) (s : State) : s.strikes.length ≤ (egrWait q e s).strikes.length :=
  raiseIf_strikes_le _ _ _ (egrMod _ _ s)

theorem egrPut_strikes (q : QPkt) (s : State) : s.strikes.length ≤ (egrPut q s).strikes.length := by
  unfold egrPut
  dsimp only
  split
  · exact egrWait_strikes q true s
  · split
    · split
      · exact egrWait_strikes q false s
      · exact le_rfl
    · split <;> exact le_rfl

theorem sendPkt_strikes (h : Half) (p : Packet) (s : State) : s.strikes.length ≤ (sendPkt h p s).strikes.length :=
  egrPut_strikes _ { s with nextPid := s.nextPid + 1 }

/-- The rings of covered records have one open record less each. -/
def ringsCovered (rs : List Nat) (s : State) : State :=
  rs.foldl (fun t r => ringMod r (fun y => { y with open_ := y.open_ - 1 }) t) s

theorem ringsCovered_only (rs : List Nat) (s : State) : ringsCovered rs s = { s with
    dikar := { s.dikar with rings := (ringsCovered rs s).dikar.rings } } := by
  unfold ringsCovered
  induction rs generalizing s with
  | nil => rfl
  | cons r rs ih => rw [List.foldl_cons, ih]; rfl

/-- The index write of context `c` has gone out and covers every record. -/
def indexSent (c : Nat) (s : State) : State :=
  ringsCovered (cqGet s (ctxHome s c) c).rings (cqMod (ctxHome s c) c (fun x => { x with uncovered := 0, rings := [] })
    (sendPkt (ctxHome s c) (mkPW true (ctxV s R.CTX_VIEW_5_CQ_NODE c) (ctxV s R.CTX_VIEW_3_CQ_PI_ADDR c * 8) c
      (ctxV s R.CTX_VIEW_4_CQ_KEY c) (leBytes 8 (ctxV s R.CTX_VIEW_5_CQ_PI c))) s))

section
variable {s : State} {c : Nat}

theorem cqPiWrite_covers (hu : (cqGet s (ctxHome s c) c).uncovered ≠ 0) : cqPiWrite c s =
    if ctxV s R.CTX_VIEW_0_EVT_EN c = 1 then
      strikeAfter (208 + ctxV s R.CTX_VIEW_0_EVT_AGG c) (ctxHome s c) [s.nextPid] (indexSent c s)
    else indexSent c s :=
  if_neg hu

theorem cqPiWrite_idle (hq : quiet s = true) (hu : (cqGet s (ctxHome s c) c).uncovered = 0) :
    exec (.cqPiWrite c) s = .next s :=
  exec_settled (congrArg (fun t => done (settle t)) (if_pos hu : cqPiWrite c s = s)) hq

/-- The index write changes the queue of its context, its rings and what a packet changes. -/
theorem indexSent_only (c : Nat) (s : State) : indexSent c s = { s with
    regs := (indexSent c s).regs, fiu := (indexSent c s).fiu, egr := (indexSent c s).egr
    strikes := (indexSent c s).strikes, nextPid := s.nextPid + 1, dikar := (indexSent c s).dikar } := by
  unfold indexSent
  rw [ringsCovered_only, cqMod, mhMod, dkMod, sendPkt_only]

theorem indexSent_queue (c : Nat) (s : State) : cqGet (indexSent c s) (ctxHome s c) c =
    { cqGet s (ctxHome s c) c with uncovered := 0, rings := [] } := by
  have hr : ∀ u : State, cqGet (ringsCovered (cqGet s (ctxHome s c) c).rings u) (ctxHome s c) c =
      cqGet u (ctxHome s c) c := fun u => by rw [ringsCovered_only]; rfl
  rw [indexSent, hr, cqGet_cqMod_self, cqGet_congr (sendPkt_dikar _ _ _)]

theorem indexSent_contexts (c : Nat) (s : State) : PageKept pgContexts s (indexSent c s) := by
  have hrest : ∀ (rs : List Nat) (f : Cq → Cq) (u : State),
      PageKept pgContexts u (ringsCovered rs (cqMod (ctxHome s c) c f u)) := fun rs f u => by
    rw [ringsCovered_only]
    exact .of_eq rfl
  exact (sendPkt_contexts _ _ s).trans (hrest _ _ _)

theorem indexSent_strikes (c : Nat) (s : State) : s.strikes.length ≤ (indexSent c s).strikes.length := by
  have hrest : ∀ (rs : List Nat) (f : Cq → Cq) (u : State),
      (ringsCovered rs (cqMod (ctxHome s c) c f u)).strikes = u.strikes := fun rs f u => by
    rw [ringsCovered_only]
    rfl
  rw [indexSent, hrest]
  exact sendPkt_strikes _ _ s

theorem cqPiWrite_ends (hq : quiet s = true) (hu : (cqGet s (ctxHome s c) c).uncovered ≠ 0) :
    Ends (.cqPiWrite c) s (fun t =>
      cqGet t (ctxHome s c) c = { cqGet s (ctxHome s c) c with uncovered := 0, rings := [] } ∧
      t.nextPid = s.nextPid + 1 ∧ (∀ f d, ctxV t f d = ctxV s f d) ∧
      (ctxV s R.CTX_VIEW_0_EVT_EN c = 1 → s.strikes.length < t.strikes.length)) := by
  have hx := cqPiWrite_covers hu
  have hquiet : quiet (indexSent c s) = true := by
    rw [indexSent_only, ← hq]
    exact quiet_congr _ _ rfl rfl rfl rfl rfl rfl rfl rfl
  have hpid : (indexSent c s).nextPid = s.nextPid + 1 := by rw [indexSent_only]
  have hpage := indexSent_contexts c s
  by_cases hen : ctxV s R.CTX_VIEW_0_EVT_EN c = 1
  · rw [if_pos hen] at hx
    refine ends_settle (congrArg (fun t => done (settle t)) hx) ?_ ⟨indexSent_queue c s, hpid, fun f d => hpage f d,
      fun _ => ?_⟩
    · rw [← hquiet]
      exact quiet_congr _ _ rfl rfl rfl rfl rfl rfl rfl rfl
    · have hle := indexSent_strikes c s
      simp only [strikeAfter, List.length_append, List.length_singleton]
      omega
  · rw [if_neg hen] at hx
    exact ends_settle (congrArg (fun t => done (settle t)) hx) hquiet ⟨indexSent_queue c s, hpid, fun f d => hpage f d,
      fun h => absurd h hen⟩

end

/-! Writes to the aperture (R325, R326). -/

/-- The PW has left its buffer and its slots are free. -/
def pwTaken (n k : Nat) (s : State) : State := slotsBack (n, 1, k) (rxTake n 1 k s)

theorem pwTaken_only (n k : Nat) (s : State) : pwTaken n k s = { s with fiu := (pwTaken n k s).fiu } := by
  unfold pwTaken slotsBack
  split <;> rfl

theorem quiet_pwTaken (n k : Nat) (s : State) : quiet (pwTaken n k s) = quiet s := by
  rw [pwTaken_only]
  exact quiet_congr _ _ rfl rfl rfl rfl rfl rfl rfl rfl

/-- The context of a PW that has left its buffer is loaded for it. -/
theorem pwTaken_loaded (n k : Nat) (h : Half) (c : Nat) (s : State) : Looked h s (ctxLoad h c (pwTaken n k s)) := by
  have htaken : Looked h s (pwTaken n k s) := by
    rw [pwTaken_only]
    exact ⟨rfl, .of_eq rfl, rfl, rfl, _, _, rfl⟩
  exact htaken.trans (ctxLoad_looked h c _)

theorem pwTaken_reg (n k : Nat) (s : State) (P : Nat) (f : Fld) (i : Nat) :
    rdI (pwTaken n k s) P f i = rdI s P f i := by
  rw [pwTaken_only]
  rfl

section
variable {s : State} {n k : Nat} {h : Half} {p : Packet}

theorem rxAp_of_headIs (hd : HeadIs s n 1 k h p) (ht : p.type = tPW) (ha : inAperture p.addr = true) {kind : ApKind}
    (hk : apKind p.addr = kind) : rxAp n kind s = apWrite h p (pwTaken n k s) := by
  have hhead : rxHead s n 1 = some (p, k) := by
    obtain ⟨-, hhead, -⟩ := hd
    exact hhead
  rw [rxAp, hhead]
  dsimp only
  rw [if_pos ⟨ht, ha, hk⟩, rxPw, rxWith_of_headIs hd ht]
  simp only [rxAccess, ha, ht, if_true]
  rfl

theorem apCause_pwTaken (h : Half) (p : Packet) (n k : Nat) (s : State) :
    apCause (pwTaken n k s) h p = apCause s h p := by
  rw [pwTaken_only]
  rfl

theorem apWrite_rejects {a : Nat} (hc : apCause s h p = some a) : apWrite h p s = apReject h p a s := by
  unfold apWrite
  rw [hc]

theorem apWrite_ci (hc : apCause s h p = none) (hb : p.addr.testBit 39 = true) :
    apWrite h p s = cqCi (apCtx s p) (leNat p.payload) (ctxLoad h (apCtx s p) s) := by
  unfold apWrite
  rw [hc]
  exact if_pos hb

end

/-! CQ_CI_WRITE (R323, R326). -/

/-- Entries of a ring of `m` places from place `ci` on to place `i`. -/
def ahead (m ci i : Nat) : Nat := (i + m - ci % m) % m

section
variable {s : State} {c v : Nat}

/-- Places of the consumer index of context `c`: twice the size of its queue (R321). -/
def cqPlaces (s : State) (c : Nat) : Nat := 2 ^ (ctxV s R.CTX_VIEW_2_CQ_LOG2 c + 1)

theorem cqCi_moves (hin : ahead (cqPlaces s c) (ctxV s R.CTX_VIEW_5_CQ_CI c) (v % cqPlaces s c) ≤
    ahead (cqPlaces s c) (ctxV s R.CTX_VIEW_5_CQ_CI c) (ctxV s R.CTX_VIEW_5_CQ_PI c)) :
    cqCi c v s = ctxPut R.CTX_VIEW_5_CQ_CI c (v % cqPlaces s c) s :=
  if_pos hin

theorem cqCi_refuses (hout : ahead (cqPlaces s c) (ctxV s R.CTX_VIEW_5_CQ_CI c) (ctxV s R.CTX_VIEW_5_CQ_PI c) <
    ahead (cqPlaces s c) (ctxV s R.CTX_VIEW_5_CQ_CI c) (v % cqPlaces s c)) :
    cqCi c v s = raise (pgMatch (ctxHome s c)) 5 (bump (pgMatch (ctxHome s c)) R.MATCH_CNT_CQ_BAD_CI s) :=
  if_neg (Nat.not_le.mpr hout)

theorem ctxFail_kept (c : Nat) (s : State) :
    RegsKept [(pgContexts, R.CTX_VIEW_7_FAILED.off), (pgContexts, R.CTX_VIEW_0_POISON.off)] s (ctxFail c s) := by
  unfold ctxFail
  split
  · exact ((RegsKept.refl _ s).wrI_mem (by simp)).wrI_mem (by simp)
  · exact .refl _ s

theorem quiet_ctxFail (c : Nat) (s : State) : quiet (ctxFail c s) = quiet s := by
  unfold ctxFail
  split
  · rw [quiet_wrI, quiet_wrI]
  · rfl

/-- A rejection as it is recorded: its cause, its context and its source (R326). -/
def apRecorded (h : Half) (p : Packet) (cause : Nat) (s : State) : State :=
  wr (pgMatch h) R.MT_AP_LAST_CAUSE cause (wr (pgMatch h) R.MT_AP_LAST_CTX p.ctx
    (wr (pgMatch h) R.MT_AP_LAST_SRC_ID p.src s))

theorem apReject_eq (h : Half) (p : Packet) (a : Nat) (s : State) : apReject h p a s =
    ctxFail p.ctx (raise (pgMatch h) 6 (bump (pgMatch h) R.MATCH_CNT_AP_REJECT (apRecorded h p a s))) := rfl

theorem quiet_apReject (h : Half) (p : Packet) (a : Nat) (s : State) : quiet (apReject h p a s) = quiet s := by
  rw [apReject_eq, quiet_ctxFail, quiet_raise, quiet_bump, apRecorded, quiet_wr, quiet_wr, quiet_wr]

theorem apReject_records (h : Half) (p : Packet) {a : Nat} (ha : a ≤ 4) (s : State) :
    rd (apReject h p a s) (pgMatch h) R.MT_AP_LAST_CAUSE = a ∧
      (rd (apReject h p a s) (pgMatch h) R.EVT_RAW).testBit 6 = true := by
  have hne := pgMatch_ne_contexts h
  rw [apReject_eq, (ctxFail_kept _ _).rd _ _ (by simp [hne]), (ctxFail_kept _ _).rd _ _ (by simp [hne])]
  refine ⟨?_, evtRaw_raise_self _ _ (by decide)⟩
  rw [rd_raise_off _ _ _ _ (by decide), bump, rd_bumpBy_off _ _ _ _ (by decide), apRecorded, rd_wr_self]
  exact Nat.mod_eq_of_lt (show a < 2 ^ 4 by omega)

theorem apReject_index (h : Half) (p : Packet) (a c : Nat) (s : State) :
    ctxV (apReject h p a s) R.CTX_VIEW_5_CQ_CI c = ctxV s R.CTX_VIEW_5_CQ_CI c := by
  have hne := pgMatch_ne_contexts h
  have hrec : PageKept pgContexts s (apRecorded h p a s) :=
    ((wrI_pageKept s hne _ 0 _).trans (wrI_pageKept _ hne _ 0 _)).trans (wrI_pageKept _ hne _ 0 _)
  have hall := (hrec.trans (bump_pageKept _ hne R.MATCH_CNT_AP_REJECT)).trans (raise_pageKept _ hne 6)
  exact ((ctxFail_kept p.ctx _).rdI pgContexts R.CTX_VIEW_5_CQ_CI c (by decide)).trans (hall _ c)

end

section
variable {s : State} {n k : Nat} {h : Half} {p : Packet} {c : Nat}

/-- The aperture write of a consumer index at the head of F[n], whose context is `c`. -/
structure CiWrite (s : State) (n k : Nat) (h : Half) (p : Packet) (c : Nat) : Prop where
  quiet : quiet s = true
  head : HeadIs s n 1 k h p
  type : p.type = tPW
  aperture : inAperture p.addr = true
  isCi : p.addr.testBit 39 = true
  ctx : apCtx s p = c

theorem CiWrite.exec_eq (hw : CiWrite s n k h p c) :
    exec (.cqCiWrite n) s = done (settle (apWrite h p (pwTaken n k s))) :=
  congrArg (fun t => done (settle t)) (rxAp_of_headIs hw.head hw.type hw.aperture (if_pos hw.isCi))

/-- A consumer index that R326 lets in is judged on a state that shows the same contexts. -/
theorem CiWrite.judged (hw : CiWrite s n k h p c) (hc : apCause s h p = none) :
    ∃ u, Looked h s u ∧ exec (.cqCiWrite n) s = done (settle (cqCi c (leNat p.payload) u)) := by
  have hctx : apCtx (pwTaken n k s) p = c := by
    rw [← hw.ctx, pwTaken_only]
    rfl
  refine ⟨ctxLoad h c (pwTaken n k s), pwTaken_loaded n k h c s, ?_⟩
  rw [hw.exec_eq, apWrite_ci ((apCause_pwTaken h p n k s).trans hc) hw.isCi, hctx]

theorem Looked.places {m : Half} {u : State} (hl : Looked m s u) (c : Nat) : cqPlaces u c = cqPlaces s c := by
  rw [cqPlaces, hl.ctxView, cqPlaces]

theorem cqCiWrite_moves (hw : CiWrite s n k h p c) (hlog : ctxV s R.CTX_VIEW_2_CQ_LOG2 c ≤ 16)
    (hc : apCause s h p = none)
    (hin : ahead (cqPlaces s c) (ctxV s R.CTX_VIEW_5_CQ_CI c) (leNat p.payload % cqPlaces s c) ≤
      ahead (cqPlaces s c) (ctxV s R.CTX_VIEW_5_CQ_CI c) (ctxV s R.CTX_VIEW_5_CQ_PI c)) :
    Ends (.cqCiWrite n) s (fun t => ctxV t R.CTX_VIEW_5_CQ_CI c = leNat p.payload % cqPlaces s c ∧
      ctxV t R.CTX_VIEW_5_CQ_PI c = ctxV s R.CTX_VIEW_5_CQ_PI c ∧ (∀ d, d ≠ c → ∀ f, ctxV t f d = ctxV s f d)) := by
  obtain ⟨u, hl, hx⟩ := hw.judged hc
  have hfit : cqPlaces s c ≤ 2 ^ 17 := Nat.pow_le_pow_right (by decide) (by omega)
  rw [← hl.places, ← hl.ctxView, ← hl.ctxView R.CTX_VIEW_5_CQ_PI] at hin
  rw [cqCi_moves hin, hl.places] at hx
  refine ends_settle hx ((quiet_ctxPut _ _ _ _).trans (hl.quiet.trans hw.quiet)) ⟨?_, ?_, fun d hd f => ?_⟩
  · refine (ctxPut_view_self _ _).trans (Nat.mod_eq_of_lt ?_)
    exact (Nat.mod_lt _ (Nat.two_pow_pos _)).trans_le hfit
  · exact (ctxPut_view_place _ (by decide)).trans (hl.ctxView _ _)
  · exact (ctxPut_view_record hd).trans (hl.ctxView _ _)

theorem cqCiWrite_refused (hw : CiWrite s n k h p c) (hc : apCause s h p = none)
    (hout : ahead (cqPlaces s c) (ctxV s R.CTX_VIEW_5_CQ_CI c) (ctxV s R.CTX_VIEW_5_CQ_PI c) <
      ahead (cqPlaces s c) (ctxV s R.CTX_VIEW_5_CQ_CI c) (leNat p.payload % cqPlaces s c)) :
    Ends (.cqCiWrite n) s (fun t => (∀ f d, ctxV t f d = ctxV s f d) ∧
      (rd t (pgMatch (ctxHome s c)) R.EVT_RAW).testBit 5 = true) := by
  obtain ⟨u, hl, hx⟩ := hw.judged hc
  have hhome : ctxHome u c = ctxHome s c := congrArg Half.ofBit (hl.ctxView _ _)
  rw [← hl.places, ← hl.ctxView, ← hl.ctxView R.CTX_VIEW_5_CQ_PI] at hout
  rw [cqCi_refuses hout, hhome] at hx
  have hne := pgMatch_ne_contexts (ctxHome s c)
  refine ends_settle hx ?_ ⟨fun f d => ?_, evtRaw_raise_self _ _ (by decide)⟩
  · rw [quiet_raise, quiet_bump, hl.quiet, hw.quiet]
  · exact (((bump_pageKept u hne _).trans (raise_pageKept _ hne 5)) f d).trans (hl.ctxView f d)

theorem cqCiWrite_rejected (hw : CiWrite s n k h p c) {a : Nat} (hc : apCause s h p = some a) (ha : a ≤ 4) :
    Ends (.cqCiWrite n) s (fun t => ctxV t R.CTX_VIEW_5_CQ_CI c = ctxV s R.CTX_VIEW_5_CQ_CI c ∧
      rd t (pgMatch h) R.MT_AP_LAST_CAUSE = a ∧ (rd t (pgMatch h) R.EVT_RAW).testBit 6 = true) := by
  have hx := hw.exec_eq
  rw [apWrite_rejects ((apCause_pwTaken h p n k s).trans hc)] at hx
  exact ends_settle hx ((quiet_apReject _ _ _ _).trans ((quiet_pwTaken n k s).trans hw.quiet))
    ⟨(apReject_index h p a c _).trans (pwTaken_reg n k s _ _ _), apReject_records h p ha _⟩

end

/-- Settles O33: the one request of the list is denied, the oldest record goes out or waits, the index write covers what
is written, and CI is judged by its distance from PI. -/
theorem requestsOverflowAndRecordsAreWritten : Obligations.RequestsOverflowAndRecordsAreWritten := by
  unfold Obligations.RequestsOverflowAndRecordsAreWritten
  refine ⟨fun s h c x hq ho => ovfTimeout_ends hq ho, fun s h c hq ho => ovfTimeout_idle hq ho,
    fun s c x r hq hrec => ⟨cqRecordWrite_ends hq hrec, cqRecordWrite_full hq hrec⟩,
    fun s c hq => ⟨cqPiWrite_idle hq, cqPiWrite_ends hq⟩, ?_⟩
  rintro s n k h p c _ hq hd ht ha hb hctx rfl hlog
  have hw : CiWrite s n k h p c := ⟨hq, hd, ht, ha, hb, hctx⟩
  exact ⟨cqCiWrite_moves hw hlog, cqCiWrite_refused hw, fun a hc hle => cqCiWrite_rejected hw hc hle⟩

end Sys2Proof.Machine
end

section
/-!
SUPPORT. Work rings: their index and descriptors as the aperture writes them, and a ring that is enabled, disabled,
polled and found idle (R324, R325, R328-R332, R370).
-/
namespace Sys2Proof.Machine

/-! Bytes written to Easel read back (R393). -/

theorem cellGet_cellPuts_self {bs : List Byte} {i : Nat} (hi : i < bs.length) (a : Nat) (m : List Host.Cell)
    (hm : Memory.wf m = true) : cellGet (a + i) (cellPuts a bs m) = bs[i] := by
  induction bs generalizing a m i with
  | nil => simp at hi
  | cons v vs ih =>
    rw [cellPuts]
    cases i with
    | zero =>
      rw [cellGet_cellPuts_other (a + 1) (a + 0) vs _ (cellPut_wf a v m hm) (by omega)]
      exact cellGet_cellPut_self a v m hm
    | succ i =>
      rw [show a + (i + 1) = a + 1 + i by omega]
      exact ih (by simpa using hi) (a + 1) _ (cellPut_wf a v m hm)

theorem onlyWrites_of_easel {s t : State} {a : Nat} {bs : List Byte} (hm : Memory.wf s.easel = true)
    (ht : t.easel = cellPuts a bs s.easel) : OnlyWrites a bs s t := by
  refine ⟨List.ext_getElem (by simp [ezRead]) fun i hi hb => ?_, fun b hb => ?_⟩
  · simp only [ezRead, List.getElem_map, List.getElem_range, ezByte, ht]
    exact cellGet_cellPuts_self hb a s.easel hm
  · rw [ezByte, ht]
    exact cellGet_cellPuts_other a b bs s.easel hm hb

theorem quiet_ezStore (a : Nat) (bs : List Byte) (s : State) : quiet (ezStore a bs s) = quiet s := by
  rw [ezStore_only]
  exact quiet_congr _ _ rfl rfl rfl rfl rfl rfl rfl rfl

theorem ezStore_easel (a : Nat) (bs : List Byte) (s : State) : (ezStore a bs s).easel = cellPuts a bs s.easel := by
  rw [ezStore_only]

theorem ezStore_dikar (a : Nat) (bs : List Byte) (s : State) : (ezStore a bs s).dikar = s.dikar := by rw [ezStore_only]

/-! Aperture writes of a ring (R325, R370). -/

section
variable {s : State} {n k r : Nat} {h : Half} {p : Packet}

theorem apWrite_ringPi (hc : apCause s h p = none) (hb : p.addr.testBit 39 = false) (ho : bits p.addr 22 0 = 0) :
    apWrite h p s = ezStore (ringRec s (apRing p)) p.payload (ctxLoad h (apCtx s p) s) := by
  unfold apWrite
  rw [hc]
  exact (if_neg (by simp [hb])).trans (if_pos ho)

/-- Where a write to the descriptor area stands in Easel (R325, R370). -/
def descAddr (s : State) (p : Packet) : Nat := (ringGet s (apRing p)).blk.getD 0 + (bits p.addr 22 0 - 0x1000)

theorem apWrite_ringDesc (hc : apCause s h p = none) (hb : p.addr.testBit 39 = false) (ho : bits p.addr 22 0 ≠ 0) :
    apWrite h p s = slotsClean h (descAddr s p) p.len (ezStore (descAddr s p) p.payload (ctxLoad h (apCtx s p) s)) := by
  unfold apWrite
  rw [hc]
  exact (if_neg (by simp [hb])).trans (if_neg ho)

theorem Looked.easel {u : State} {m : Half} (hl : Looked m s u) : u.easel = s.easel := by rw [hl.frame]

theorem ringPiWrite_ends (hw : RingWrite s n k h r p) (ho : bits p.addr 22 0 = 0) :
    Ends (.ringPiWrite n) s (OnlyWrites (ringRec s r) p.payload s) := by
  obtain ⟨hq, hd, ht, ha, hb, rfl, hc, hm⟩ := hw
  have hkind : apKind p.addr = .pi := by simp [apKind, hb, ho]
  have hrec : ringRec (pwTaken n k s) (apRing p) = ringRec s (apRing p) := by
    rw [pwTaken_only]
    rfl
  have hx := congrArg (fun t => done (settle t)) (rxAp_of_headIs hd ht ha hkind)
  rw [apWrite_ringPi ((apCause_pwTaken h p n k s).trans hc) hb ho, hrec] at hx
  have hl := pwTaken_loaded n k h (apCtx (pwTaken n k s) p) s
  refine ends_settle hx ((quiet_ezStore _ _ _).trans (hl.quiet.trans hq)) (onlyWrites_of_easel hm ?_)
  rw [ezStore_easel, hl.easel]

theorem ringDescWrite_ends (hw : RingWrite s n k h r p) (ho : bits p.addr 22 0 ≠ 0) :
    Ends (.ringDescWrite n) s
      (OnlyWrites ((ringGet s r).blk.getD 0 + (bits p.addr 22 0 - 0x1000)) p.payload s) := by
  obtain ⟨hq, hd, ht, ha, hb, rfl, hc, hm⟩ := hw
  have hkind : apKind p.addr = .desc := by simp [apKind, hb, ho]
  have hdesc : descAddr (pwTaken n k s) p = descAddr s p := by
    rw [pwTaken_only]
    rfl
  have hx := congrArg (fun t => done (settle t)) (rxAp_of_headIs hd ht ha hkind)
  rw [apWrite_ringDesc ((apCause_pwTaken h p n k s).trans hc) hb ho, hdesc] at hx
  have hl := pwTaken_loaded n k h (apCtx (pwTaken n k s) p) s
  refine ends_settle hx ?_ (onlyWrites_of_easel hm ?_)
  · exact (quiet_plMod _ _).trans ((quiet_ezStore _ _ _).trans (hl.quiet.trans hq))
  · show (ezStore (descAddr s p) p.payload _).easel = _
    rw [ezStore_easel, hl.easel]
    rfl

end

/-! A ring's fields and its record (R336). -/

section
variable {s : State} {r : Nat}

theorem ringPut_view_record {f g : Fld} {v j : Nat} (hj : j ≠ r) : ringV (ringPut f r v s) g j = ringV s g j :=
  rdI_wrI_record pgRings pgRings f g v s hj

theorem ringPut_view_place {f g : Fld} {v : Nat} (j : Nat) (hg : (g.off, g.lo) ≠ (f.off, f.lo)) :
    ringV (ringPut f r v s) g j = ringV s g j :=
  rdI_wrI_place pgRings pgRings r j v s hg

theorem ringPut_view_self (f : Fld) (v : Nat) : ringV (ringPut f r v s) f r = v % 2 ^ f.w :=
  rdI_wrI_self s pgRings f r v

theorem ringMod_view (f : Ring → Ring) (g : Fld) (j : Nat) : ringV (ringMod r f s) g j = ringV s g j := rfl

theorem ringGet_ringMod_self (f : Ring → Ring) : ringGet (ringMod r f s) r = f (ringGet s r) := tget_tput_self _ _ _ _

theorem ringGet_ringMod_other {j : Nat} (hj : j ≠ r) (f : Ring → Ring) : ringGet (ringMod r f s) j = ringGet s j :=
  tget_tput_other _ _ _ _ _ hj

theorem ringGet_congr {t : State} (ht : t.dikar = s.dikar) (j : Nat) : ringGet t j = ringGet s j := by
  rw [ringGet, ht, ringGet]

theorem ringPut_dikar (f : Fld) (v : Nat) : (ringPut f r v s).dikar = s.dikar := rfl

theorem quiet_ringPut (f : Fld) (v : Nat) : quiet (ringPut f r v s) = quiet s := quiet_wrI _ _ _ _ _

theorem quiet_ringMod (f : Ring → Ring) : quiet (ringMod r f s) = quiet s := (ringMod_svcStep r f s).quiet

theorem ringAgg_only (r : Nat) (s : State) : ringAgg r s = { s with strikes := (ringAgg r s).strikes } := by
  unfold ringAgg
  split <;> rfl

theorem ringAgg_view (f : Fld) (j : Nat) : ringV (ringAgg r s) f j = ringV s f j := by
  rw [ringAgg_only]
  rfl

/-- An event of the RINGS page with the strike of the ring's aggregate (R336). -/
def ringEvent (r b : Nat) (s : State) : State := ringAgg r (raise pgRings b s)

theorem ringEvent_only (r b : Nat) (s : State) : ringEvent r b s = { s with
    regs := (ringEvent r b s).regs, strikes := (ringEvent r b s).strikes } := by
  unfold ringEvent
  rw [ringAgg_only, raise_only]

theorem ringEvent_raised (r : Nat) {b : Nat} (hb : b < 64) (s : State) :
    (rd (ringEvent r b s) pgRings R.EVT_RAW).testBit b = true := by
  rw [ringEvent, ringAgg_only]
  exact evtRaw_raise_self _ s hb

theorem ringEvent_view {f : Fld} (b j : Nat) (hf : f.off ≠ R.EVT_RAW.off ∧ f.off ≠ R.EVT_PEND.off) :
    ringV (ringEvent r b s) f j = ringV s f j :=
  (ringAgg_view f j).trans (rdI_raise_off _ _ b j s hf)

theorem quiet_ringEvent (r b : Nat) (s : State) : quiet (ringEvent r b s) = quiet s := by
  rw [ringEvent_only]
  exact quiet_congr _ _ rfl rfl rfl rfl rfl rfl rfl rfl

theorem ringEvent_dikar (r b : Nat) (s : State) : (ringEvent r b s).dikar = s.dikar := by rw [ringEvent_only]

/-! RING_ENABLE (R332, R370). -/

/-- The block of a ring: the one that it holds, or one that is found (R370). -/
def ringOwnBlock (s : State) (r : Nat) : Option Nat :=
  if (ringGet s r).blk.isSome then (ringGet s r).blk else ringBlock s (ringHome s r) r

/-- Ring `r` enabled, with its block at `a` and nothing fetched. -/
def ringFresh (r a : Nat) (s : State) : State :=
  ringMod r (fun y => { y with blk := some a }) (ringPut R.RING_CTRL_EN r 1 (ringPut R.RING_STAT_IDLE r 0
    (ringPut R.RING_STAT_LAPPED r 0 (ringPut R.RING_STAT_CI r 0 (ringPut R.RING_STAT_PI r 0 s)))))

theorem ringEnable_enables {a : Nat} (p : Path) (he : ringEn s r = false) (hok : ringOk s r = true)
    (ha : ringOwnBlock s r = some a) :
    ringEnable r p s = ezStore (ringRec s r) (zeros 8) (ringFresh r a s) := by
  unfold ringOwnBlock at ha
  unfold ringEnable
  simp only [he, hok, ha, Bool.false_eq_true, if_false]
  rfl

theorem ringEnable_refuses (p : Path) (he : ringEn s r = false) (hok : ringOk s r = false) :
    ringEnable r p s = cfgReject pgRings R.RING_CTRL_EN.off 3 .live (some p) s := by
  unfold ringEnable
  simp only [he, hok, Bool.false_eq_true, if_false]

theorem exec_ringEnable (hr : rd s pgRings R.RING_SEL_RING = r) (p : Path) :
    exec (.ringEnable p) s = done (settle (ringEnable r p (unlatched pgRings s))) := by
  subst hr
  show done (onPage _ _ _ s) = _
  rw [onPage_live _ _ _ _ rfl]
  rfl

theorem ringFresh_own (r a : Nat) (s : State) : ringV (ringFresh r a s) R.RING_CTRL_EN r = 1 ∧
    ringV (ringFresh r a s) R.RING_STAT_PI r = 0 ∧ ringV (ringFresh r a s) R.RING_STAT_CI r = 0 ∧
    ringV (ringFresh r a s) R.RING_STAT_LAPPED r = 0 ∧ ringV (ringFresh r a s) R.RING_STAT_IDLE r = 0 := by
  unfold ringFresh
  simp only [ringMod_view]
  refine ⟨ringPut_view_self _ _, ?_, ?_, ?_, ?_⟩ <;>
    simp (disch := decide) only [ringPut_view_place, ringPut_view_self, Nat.zero_mod]

theorem ringFresh_other {j : Nat} (hj : j ≠ r) (a : Nat) (s : State) :
    ringGet (ringFresh r a s) j = ringGet s j ∧ ringEn (ringFresh r a s) j = ringEn s j := by
  refine ⟨ringGet_ringMod_other hj _, ?_⟩
  unfold ringEn ringFresh
  simp only [ringMod_view, ringPut_view_record hj]

theorem ringFresh_easel (r a : Nat) (s : State) : (ringFresh r a s).easel = s.easel := rfl

theorem ringRec_unlatched (P r : Nat) (s : State) : ringRec (unlatched P s) r = ringRec s r := rfl

theorem quiet_ringFresh (r a : Nat) (s : State) : quiet (ringFresh r a s) = quiet s := by
  unfold ringFresh
  simp only [quiet_ringMod, quiet_ringPut]

theorem ringEnable_ends {a : Nat} (p : Path) (hr : rd s pgRings R.RING_SEL_RING = r) (hq : quiet s = true)
    (he : ringEn s r = false) (hok : ringOk s r = true) (ha : ringOwnBlock s r = some a) :
    Ends (.ringEnable p) s (fun t => ringEn t r = true ∧ ringV t R.RING_STAT_PI r = 0 ∧ ringV t R.RING_STAT_CI r = 0 ∧
      ringV t R.RING_STAT_LAPPED r = 0 ∧ ringV t R.RING_STAT_IDLE r = 0 ∧ (ringGet t r).blk = some a ∧
      (Memory.wf s.easel = true → OnlyWrites (ringRec s r) (zeros 8) s t) ∧
      (∀ j, j ≠ r → ringGet t j = ringGet s j ∧ ringEn t j = ringEn s j)) := by
  have hx := exec_ringEnable hr p
  rw [ringEnable_enables (s := unlatched pgRings s) p he hok ha, ringRec_unlatched] at hx
  have hpage := ezStore_pageKept (ringFresh r a (unlatched pgRings s)) pgEasel_ne_rings (ringRec s r) (zeros 8)
  have hget := ringGet_congr (ezStore_dikar (ringRec s r) (zeros 8) (ringFresh r a (unlatched pgRings s)))
  obtain ⟨hen, hpi, hci, hlap, hidle⟩ := ringFresh_own r a (unlatched pgRings s)
  refine ends_settle hx ?_ ⟨?_, (hpage _ _).trans hpi, (hpage _ _).trans hci, (hpage _ _).trans hlap,
    (hpage _ _).trans hidle, ?_, fun hm => onlyWrites_of_easel hm ((ezStore_easel _ _ _).trans ?_),
    fun j hj => ⟨?_, ?_⟩⟩
  · rw [quiet_ezStore, quiet_ringFresh, quiet_unlatched, hq]
  · exact beq_iff_eq.mpr ((hpage _ _).trans hen)
  · rw [hget, ringFresh, ringGet_ringMod_self]
  · rw [ringFresh_easel]
    rfl
  · exact (hget j).trans (ringFresh_other hj a _).1
  · exact (congrArg (· == 1) (hpage _ j)).trans (ringFresh_other hj a _).2

theorem ringEnable_refused (p : Path) (hr : rd s pgRings R.RING_SEL_RING = r) (hq : quiet s = true)
    (he : ringEn s r = false) (hok : ringOk s r = false) :
    Ends (.ringEnable p) s (fun t =>
      t = cfgReject pgRings R.RING_CTRL_EN.off 3 .live (some p) { s with woLatch := t.woLatch }) := by
  have hx := exec_ringEnable hr p
  rw [ringEnable_refuses (s := unlatched pgRings s) p he hok] at hx
  refine ends_settle hx (by rw [quiet_cfgReject, quiet_unlatched, hq]) ?_
  rw [cfgReject_woLatch]
  rfl

/-! RING_DISABLE (R332). -/

theorem ringStop_svcStep (r : Nat) (s : State) : SvcStep (ringPut R.RING_CTRL_EN r 0 s) (ringStop r s) :=
  (ringMod_svcStep _ _ _).trans (batchGo_svcStep _ _ _)

theorem ringStop_view (f : Fld) (j : Nat) : ringV (ringStop r s) f j = ringV (ringPut R.RING_CTRL_EN r 0 s) f j :=
  (ringStop_svcStep r s).regs.page svcRegs_ne_rings f j

theorem quiet_ringStop (r : Nat) (s : State) : quiet (ringStop r s) = quiet s :=
  (ringStop_svcStep r s).quiet.trans (quiet_ringPut _ _)

theorem ringEn_ringStop_self (r : Nat) (s : State) : ringEn (ringStop r s) r = false := by
  rw [ringEn, ringStop_view, ringPut_view_self]
  rfl

theorem ringEn_ringStop_other {j : Nat} (hj : j ≠ r) (s : State) : ringEn (ringStop r s) j = ringEn s j := by
  rw [ringEn, ringStop_view, ringPut_view_record hj, ringEn]

theorem ringDisable_ends (hr : rd s pgRings R.RING_SEL_RING = r) (hq : quiet s = true) (he : ringEn s r = true) :
    Ends .ringDisable s (fun t => ringEn t r = false ∧ (∀ j, j ≠ r → ringEn t j = ringEn s j)) := by
  have hstop : ringDisable r (unlatched pgRings s) = ringStop r (unlatched pgRings s) := if_pos he
  have hx : exec .ringDisable s = done (settle (ringStop r (unlatched pgRings s))) := by
    subst hr
    rw [← hstop]
    show done (onPage _ _ _ s) = _
    rw [onPage_live _ _ _ _ rfl]
    rfl
  refine ends_settle hx ?_ ⟨ringEn_ringStop_self _ _, fun j hj => ringEn_ringStop_other hj _⟩
  rw [quiet_ringStop, quiet_unlatched, hq]

/-! RING_IDLE (R332, R370). -/

theorem ringIdle_idles (he : ringEn s r = false) (hi : ringV s R.RING_STAT_IDLE r ≠ 1) (hd : (ringGet s r).descs = [])
    (ho : (ringGet s r).open_ = 0) (hn : s.dikar.ops.any (fun d => d.ring.any (fun x => x.1 == r)) = false) :
    ringIdle r s = ringEvent r 0 (ringMod r (fun y => { y with blk := none }) (ringPut R.RING_STAT_IDLE r 1 s)) :=
  if_neg (by simp [he, hi, hd, ho, hn])

theorem ringIdle_ends (hq : quiet s = true) (he : ringEn s r = false) (hi : ringV s R.RING_STAT_IDLE r ≠ 1)
    (hd : (ringGet s r).descs = []) (ho : (ringGet s r).open_ = 0)
    (hn : s.dikar.ops.any (fun d => d.ring.any (fun x => x.1 == r)) = false) :
    Ends (.ringIdle r) s (fun t => ringV t R.RING_STAT_IDLE r = 1 ∧ (ringGet t r).blk = none ∧
      (rd t pgRings R.EVT_RAW).testBit 0 = true ∧ (∀ j, j ≠ r → ringGet t j = ringGet s j)) := by
  have hx := congrArg (fun t => done (settle t)) (ringIdle_idles he hi hd ho hn)
  refine ends_settle hx ?_ ⟨?_, ?_, ringEvent_raised r (by decide) _, fun j hj => ?_⟩
  · rw [quiet_ringEvent, quiet_ringMod, quiet_ringPut, hq]
  · rw [ringEvent_view _ _ (by decide), ringMod_view, ringPut_view_self]
    rfl
  · rw [ringGet_congr (ringEvent_dikar _ _ _), ringGet_ringMod_self]
  · rw [ringGet_congr (ringEvent_dikar _ _ _), ringGet_ringMod_other hj, ringGet_congr (ringPut_dikar _ _)]

theorem ringIdle_stays (hq : quiet s = true) (hi : ringV s R.RING_STAT_IDLE r = 1) :
    exec (.ringIdle r) s = .next s :=
  exec_settled (congrArg (fun t => done (settle t)) (if_pos (.inr (.inl hi)) : ringIdle r s = s)) hq

end

/-! RING_POLL (R328-R330). -/

section
variable {s : State} {r : Nat}

/-- A poll has read the producer index and is counted. -/
def ringSeen (r : Nat) (s : State) : State :=
  bump (pgMatch (ringHome s r)) R.MATCH_CNT_POLL (ringPut R.RING_STAT_PI r
    (leNat (ezRead s (ringRec s r) 8) % 2 ^ (ringV s R.RING_CTRL_SIZE_LOG2 r + 1)) s)

theorem ringSeen_only (r : Nat) (s : State) : ringSeen r s = { s with regs := (ringSeen r s).regs } := by
  unfold ringSeen
  generalize leNat _ % _ = v
  rw [bump_only]
  rfl

theorem ringSeen_dikar (r : Nat) (s : State) : (ringSeen r s).dikar = s.dikar := by rw [ringSeen_only]

theorem quiet_ringSeen (r : Nat) (s : State) : quiet (ringSeen r s) = quiet s := by
  rw [ringSeen_only]
  exact quiet_congr _ _ rfl rfl rfl rfl rfl rfl rfl rfl

theorem ringSeen_view {f : Fld} (j : Nat) (hf : (f.off, f.lo) ≠ (R.RING_STAT_PI.off, R.RING_STAT_PI.lo)) :
    ringV (ringSeen r s) f j = ringV s f j :=
  (bump_pageKept _ (pgMatch_ne_rings _) _ f j).trans (ringPut_view_place j hf)

theorem ringSeen_kept (r : Nat) (s : State) :
    RegsKept [(pgRings, R.RING_STAT_PI.off), (pgMatch (ringHome s r), R.MATCH_CNT_POLL.off)] s (ringSeen r s) :=
  ((RegsKept.refl _ s).wrI_mem (by simp)).bump_mem (by simp)

theorem freeSlots_congr {t : State} (ht : t.dikar = s.dikar) (h : Half) : freeSlots t h = freeSlots s h := by
  unfold freeSlots slotWaiters slotsUsed
  rw [ht]

theorem ringPoll_stays (hn : ringEn s r = false ∨ takesWork s = false ∨ halfUp s (ringHome s r) = false) :
    ringPoll r s = s :=
  if_pos (by rcases hn with h | h | h <;> simp [h])

/-- A poll of a ring goes by how many descriptors it finds (R329, R330). -/
theorem ringPoll_polls (hp : Polled s r) : ringPoll r s =
    if ringNew s r = 0 then ringSeen r s
    else if 2 ^ ringV s R.RING_CTRL_SIZE_LOG2 r < ringNew s r then
      ringEvent r 1 (ringStop r (ringPut R.RING_STAT_LAPPED r 1 (ringSeen r s)))
    else if min (min (ringNew s r) 64) (freeSlots (ringSeen r s) (ringHome s r)) = 0 then ringSeen r s
    else ciWrite r (ringFetches r (min (min (ringNew s r) 64) (freeSlots (ringSeen r s) (ringHome s r)))
      (ctxLoad (ringHome s r) (ringCtx s r) (ringSeen r s))) := by
  obtain ⟨-, he, hw, hup, -⟩ := hp
  exact if_neg (by simp [he, hw, hup])

theorem ringPoll_ends_empty (hp : Polled s r) (hn : ringNew s r = 0) :
    Ends (.ringPoll r) s (fun t => ringV t R.RING_STAT_CI r = ringV s R.RING_STAT_CI r ∧ t = { s with regs := t.regs } ∧
      RegsKept [(pgRings, R.RING_STAT_PI.off), (pgMatch (ringHome s r), R.MATCH_CNT_POLL.off)] s t) := by
  have hx : ringPoll r s = ringSeen r s := (ringPoll_polls hp).trans (if_pos hn)
  obtain ⟨hq, -⟩ := hp
  exact ends_settle (congrArg (fun t => done (settle t)) hx) ((quiet_ringSeen r s).trans hq)
    ⟨ringSeen_view r (by decide), ringSeen_only r s, ringSeen_kept r s⟩

theorem ringPoll_ends_lapped (hp : Polled s r) (hn : 2 ^ ringV s R.RING_CTRL_SIZE_LOG2 r < ringNew s r) :
    Ends (.ringPoll r) s (fun t => ringV t R.RING_STAT_LAPPED r = 1 ∧ ringEn t r = false ∧
      (rd t pgRings R.EVT_RAW).testBit 1 = true ∧ ringV t R.RING_STAT_CI r = ringV s R.RING_STAT_CI r ∧
      t.dikar.next = s.dikar.next) := by
  have hx := (ringPoll_polls hp).trans ((if_neg (Nat.ne_zero_of_lt hn)).trans (if_pos hn))
  obtain ⟨hq, -⟩ := hp
  refine ends_settle (congrArg (fun t => done (settle t)) hx) ?_ ⟨?_, ?_, ringEvent_raised r (by decide) _, ?_, ?_⟩
  · rw [quiet_ringEvent, quiet_ringStop, quiet_ringPut, quiet_ringSeen, hq]
  · rw [ringEvent_view _ _ (by decide), ringStop_view, ringPut_view_place _ (by decide), ringPut_view_self]
    rfl
  · rw [ringEn, ringEvent_view _ _ (by decide)]
    exact ringEn_ringStop_self r _
  · rw [ringEvent_view _ _ (by decide), ringStop_view, ringPut_view_place _ (by decide),
      ringPut_view_place _ (by decide), ringSeen_view _ (by decide)]
  · rw [ringEvent_dikar, (ringStop_svcStep r _).next, ringPut_dikar, ringPut_dikar, ringSeen_dikar]

/-! Descriptors fetched (R329). -/

/-- `t` shows the rings as `s` does, and no request has arrived. -/
structure RingsKept (s t : State) : Prop where
  page : PageKept pgRings s t
  next : t.dikar.next = s.dikar.next
  quiet : quiet t = quiet s

theorem RingsKept.trans {s t u : State} (h1 : RingsKept s t) (h2 : RingsKept t u) : RingsKept s u :=
  ⟨h1.page.trans h2.page, h2.next.trans h1.next, h2.quiet.trans h1.quiet⟩

theorem SvcStep.ringsKept {s t : State} (h : SvcStep s t) : RingsKept s t :=
  ⟨h.regs.page svcRegs_ne_rings, h.next, h.quiet⟩

theorem Looked.ringsKept {s t : State} {m : Half} (h : Looked m s t) : RingsKept s t := by
  refine ⟨h.regs.page fun p hp => ?_, h.next, h.quiet⟩
  obtain ⟨f, -, rfl⟩ := List.mem_map.mp hp
  exact pgMatch_ne_rings m

theorem bump_ringsKept (h : Half) (f : Fld) (s : State) : RingsKept s (bump (pgMatch h) f s) :=
  ⟨bump_pageKept s (pgMatch_ne_rings h) f, by rw [bump_dikar], quiet_bump _ _ _⟩

theorem raise_ringsKept (h : Half) (b : Nat) (s : State) : RingsKept s (raise (pgMatch h) b s) :=
  ⟨raise_pageKept s (pgMatch_ne_rings h) b, by rw [raise_dikar], quiet_raise _ _ _⟩

theorem ringEnt_ringsKept (r : Nat) (s : State) : RingsKept s (ringEnt r s).1 := by
  unfold ringEnt
  dsimp only
  split
  · exact (entTake_svcStep _ _ _ s).ringsKept
  · exact (bump_ringsKept _ _ s).trans (raise_ringsKept _ 1 _)

theorem opArrive_rings (h : Half) (d : DOp) (s : State) : PageKept pgRings s (opArrive h d s) := by
  refine (opArrive_kept h d s).page fun p hp => ?_
  rcases List.mem_append.mp hp with hp | hp
  · exact svcRegs_ne_rings p hp
  · revert p
    cases h <;> decide

/-- A fetch moves CI on by one and makes one request of what it has read. -/
theorem ringFetch_eq (r : Nat) (s : State) : ∃ f d, ringFetch r s = opArrive (ringHome s r) d
    (ringEnt r (bump (pgMatch (ringHome s r)) R.MATCH_CNT_DESC (ringMod r f (ringPut R.RING_STAT_CI r
      ((ringV s R.RING_STAT_CI r + 1) % 2 ^ (ringV s R.RING_CTRL_SIZE_LOG2 r + 1)) s)))).1 := by
  unfold ringFetch
  exact ⟨_, _, rfl⟩

theorem ringFetch_fetches (hk : ringV s R.RING_CTRL_SIZE_LOG2 r ≤ 16) :
    (ringFetch r s).dikar.next = s.dikar.next + 1 ∧ quiet (ringFetch r s) = quiet s ∧
      ringV (ringFetch r s) R.RING_CTRL_SIZE_LOG2 r = ringV s R.RING_CTRL_SIZE_LOG2 r ∧
      ringV (ringFetch r s) R.RING_STAT_CI r =
        (ringV s R.RING_STAT_CI r + 1) % 2 ^ (ringV s R.RING_CTRL_SIZE_LOG2 r + 1) := by
  obtain ⟨f, d, hf⟩ := ringFetch_eq r s
  have hfit : 2 ^ (ringV s R.RING_CTRL_SIZE_LOG2 r + 1) ≤ 2 ^ 17 := Nat.pow_le_pow_right (by decide) (by omega)
  generalize hv : (ringV s R.RING_STAT_CI r + 1) % 2 ^ (ringV s R.RING_CTRL_SIZE_LOG2 r + 1) = v at hf
  have hlt : v < 2 ^ 17 := hv ▸ (Nat.mod_lt _ (Nat.two_pow_pos _)).trans_le hfit
  have hkept := ((ringMod_svcStep r f (ringPut R.RING_STAT_CI r v s)).ringsKept.trans
    (bump_ringsKept (ringHome s r) R.MATCH_CNT_DESC _)).trans (ringEnt_ringsKept r _)
  obtain ⟨hnext, -, hquiet⟩ := opArrive_arrives (ringHome s r) d (ringEnt r (bump (pgMatch (ringHome s r))
    R.MATCH_CNT_DESC (ringMod r f (ringPut R.RING_STAT_CI r v s)))).1
  have hview : ∀ g, ringV (ringFetch r s) g r = ringV (ringPut R.RING_STAT_CI r v s) g r := fun g =>
    hf ▸ (hkept.page.trans (opArrive_rings (ringHome s r) d _)) g r
  refine ⟨by rw [hf, hnext, hkept.next, ringPut_dikar], by rw [hf, hquiet, hkept.quiet, quiet_ringPut], ?_, ?_⟩
  · rw [hview, ringPut_view_place _ (by decide)]
  · rw [hview, ringPut_view_self]
    exact Nat.mod_eq_of_lt hlt

theorem ringFetches_one (r : Nat) (s : State) : ringFetches r 1 s = ringFetch r s := by rw [ringFetches, ringFetches]

theorem ringFetches_fetch (m : Nat) (hk : ringV s R.RING_CTRL_SIZE_LOG2 r ≤ 16) :
    (ringFetches r (m + 1) s).dikar.next = s.dikar.next + (m + 1) ∧ quiet (ringFetches r (m + 1) s) = quiet s ∧
      ringV (ringFetches r (m + 1) s) R.RING_STAT_CI r =
        (ringV s R.RING_STAT_CI r + (m + 1)) % 2 ^ (ringV s R.RING_CTRL_SIZE_LOG2 r + 1) := by
  obtain ⟨hnext, hquiet, hsize, hci⟩ := ringFetch_fetches hk
  induction m generalizing s with
  | zero =>
    rw [ringFetches_one]
    exact ⟨hnext, hquiet, hci⟩
  | succ m ih =>
    have hk' : ringV (ringFetch r s) R.RING_CTRL_SIZE_LOG2 r ≤ 16 := hsize.trans_le hk
    obtain ⟨hnext', hquiet', hsize', hci'⟩ := ringFetch_fetches hk'
    obtain ⟨hn, hq, hc⟩ := ih hk' hnext' hquiet' hsize' hci'
    refine ⟨hn.trans (by omega), hq.trans hquiet, hc.trans ?_⟩
    rw [hci, hsize, Nat.mod_add_mod, Nat.add_assoc, Nat.add_comm 1 (m + 1)]

theorem ciWrite_ringsKept (r : Nat) (s : State) : RingsKept s (ciWrite r s) := (sendPkt_svcStep _ _ s).ringsKept

theorem ringPoll_ends_fetched {m : Nat} (hp : Polled s r) (hn : ringNew s r ≠ 0)
    (hle : ringNew s r ≤ 2 ^ ringV s R.RING_CTRL_SIZE_LOG2 r)
    (hm : m = min (min (ringNew s r) 64) (freeSlots s (ringHome s r))) (hm0 : m ≠ 0) :
    Ends (.ringPoll r) s (fun t => t.dikar.next = s.dikar.next + m ∧
      ringV t R.RING_STAT_CI r =
        (ringV s R.RING_STAT_CI r + m) % 2 ^ (ringV s R.RING_CTRL_SIZE_LOG2 r + 1)) := by
  have hx := (ringPoll_polls hp).trans ((if_neg hn).trans (if_neg (Nat.not_lt.mpr hle)))
  rw [freeSlots_congr (ringSeen_dikar r s), ← hm, if_neg hm0] at hx
  obtain ⟨m, rfl⟩ := Nat.exists_eq_succ_of_ne_zero hm0
  obtain ⟨hq, -, -, -, hk⟩ := hp
  have hload := (ctxLoad_looked (ringHome s r) (ringCtx s r) (ringSeen r s)).ringsKept
  generalize ctxLoad (ringHome s r) (ringCtx s r) (ringSeen r s) = u at hx hload
  have hsize : ringV u R.RING_CTRL_SIZE_LOG2 r = ringV s R.RING_CTRL_SIZE_LOG2 r :=
    (hload.page _ r).trans (ringSeen_view r (by decide))
  have hci : ringV u R.RING_STAT_CI r = ringV s R.RING_STAT_CI r :=
    (hload.page _ r).trans (ringSeen_view r (by decide))
  obtain ⟨hnext, hquiet, hmoved⟩ := ringFetches_fetch m (hsize.trans_le hk)
  have hsent := ciWrite_ringsKept r (ringFetches r (m + 1) u)
  rw [hsize, hci] at hmoved
  refine ends_settle (congrArg (fun t => done (settle t)) hx) ?_ ⟨?_, (hsent.page _ r).trans hmoved⟩
  · rw [hsent.quiet, hquiet, hload.quiet, quiet_ringSeen, hq]
  · rw [hsent.next, hnext, hload.next, ringSeen_dikar]

end

/-- Settles O34: the aperture's writes by the bytes that they store, enabling and stopping by the ring's fields, and a
poll by how many descriptors it finds. -/
theorem ringsArePolledAndStop : Obligations.RingsArePolledAndStop := by
  unfold Obligations.RingsArePolledAndStop
  refine ⟨fun s n k h r p hw => ⟨ringPiWrite_ends hw, ringDescWrite_ends hw⟩,
    fun s r p hr hq he => ⟨fun a => ringEnable_ends p hr hq he, ringEnable_refused p hr hq he⟩,
    fun s r => ringDisable_ends, fun s r => ⟨fun hq hn => ?_, ringPoll_ends_empty, ringPoll_ends_lapped,
      fun m => ringPoll_ends_fetched⟩, fun s r hq he => ⟨ringIdle_ends hq he, ringIdle_stays hq⟩⟩
  exact exec_settled (congrArg (fun t => done (settle t)) (ringPoll_stays hn)) hq

end Sys2Proof.Machine
end

section
/-!
SUPPORT. A packet that a half has just built waits, or stands in a port's transmit queue: it is open (R45, R79, R459).
-/
namespace Sys2Proof.Machine

theorem tget_listed {α : Type} {d : α} {t : Table α} {k : Nat} (h : tget d t k ≠ d) : (k, tget d t k) ∈ t := by
  induction t with
  | nil => exact absurd rfl h
  | cons p r ih =>
    obtain ⟨j, v⟩ := p
    unfold tget tgetBy at h ⊢
    split
    · rename_i hj
      exact List.mem_cons.mpr (.inl (by rw [hj]))
    · rename_i hj
      rw [if_neg hj] at h
      exact List.mem_cons_of_mem _ (ih h)

section
variable {s : State} {q : QPkt}

theorem pktOpen_of_waiting {h : Half} (hq : q ∈ (s.egr.at h).waiting) : pktOpen s q.id = true := by
  have hany : (s.egr.at h).waiting.any (·.id == q.id) = true := List.any_eq_true.mpr ⟨q, hq, by simp⟩
  unfold pktOpen
  cases h
  · rw [show s.egr.west.waiting.any (·.id == q.id) = true from hany]
    rfl
  · rw [show s.egr.east.waiting.any (·.id == q.id) = true from hany, Bool.or_true]
    rfl

theorem pktOpen_of_queued {n vc : Nat} (hq : q ∈ tget [] (fiuGet s n).txq vc) : pktOpen s q.id = true := by
  have hvc : (vc, tget [] (fiuGet s n).txq vc) ∈ (fiuGet s n).txq := tget_listed (List.ne_nil_of_mem hq)
  have hport : (n, fiuGet s n) ∈ s.fiu := by
    refine tget_listed fun hn => List.ne_nil_of_mem hvc ?_
    rw [fiuGet, hn]
  unfold pktOpen
  refine Bool.or_eq_true_iff.mpr (.inr (List.any_eq_true.mpr ⟨_, hport, Bool.or_eq_true_iff.mpr (.inr ?_)⟩))
  exact List.any_eq_true.mpr ⟨_, hvc, List.any_eq_true.mpr ⟨q, hq, by simp⟩⟩

theorem pktOpen_egrWait (e : Bool) : pktOpen (egrWait q e s) q.id = true := by
  refine pktOpen_of_waiting (h := q.half) ?_
  rw [egrWait, raiseIf_egr, egrMod, PerHalf.at_put_self]
  exact List.mem_append_right _ (List.mem_singleton.mpr rfl)

theorem pktOpen_txEnqueue (n : Nat) : pktOpen (txEnqueue n q s) q.id = true := by
  refine pktOpen_of_queued (n := n) (vc := vcOfType q.pkt.type) ?_
  rw [txEnqueue, fiuGet_fiuMod, if_pos rfl, tget_tput_self]
  exact List.mem_append_right _ (List.mem_singleton.mpr rfl)

theorem pktOpen_egrPut : pktOpen (egrPut q s) q.id = true := by
  unfold egrPut
  dsimp only
  split
  · exact pktOpen_egrWait true
  · split
    · split
      · exact pktOpen_egrWait false
      · exact pktOpen_txEnqueue _
    · split
      · exact pktOpen_txEnqueue _
      · exact pktOpen_txEnqueue _

end

theorem pktOpen_sendPkt (h : Half) (p : Packet) (s : State) : pktOpen (sendPkt h p s) s.nextPid = true := pktOpen_egrPut

theorem pktOpen_congr {s t : State} (he : t.egr = s.egr) (hf : t.fiu = s.fiu) (id : Nat) :
    pktOpen t id = pktOpen s id := by
  rw [pktOpen, pktOpen, he, hf]

end Sys2Proof.Machine
end

section
/-!
SUPPORT. What the Collective Engine of a half sees of the building of stripes, of the journals and of completions:
nothing (R284, R285, R295, R381).
-/
namespace Sys2Proof.Machine

/-- No collective, and no register of half `h`'s COLLECTIVE page, has changed. -/
structure CollKept (h : Half) (s t : State) : Prop where
  coll : t.coll = s.coll
  page : PageKept (pgColl h) s t

theorem pgPlace_ne_coll (g h : Half) : pgPlace g ≠ pgColl h := by cases g <;> cases h <;> decide

theorem pgSched_ne_coll (g h : Half) : pgSched g ≠ pgColl h := by cases g <;> cases h <;> decide

theorem pgDikar_ne_coll (g h : Half) : pgDikar g ≠ pgColl h := by cases g <;> cases h <;> decide

theorem pgEasel_ne_coll (g h : Half) : pgEasel g ≠ pgColl h := by cases g <;> cases h <;> decide

section
variable {h : Half} {s t u : State}

theorem CollKept.refl (s : State) : CollKept h s s := ⟨rfl, .refl _ s⟩

theorem CollKept.trans (h1 : CollKept h s t) (h2 : CollKept h t u) : CollKept h s u :=
  ⟨h2.coll.trans h1.coll, h1.page.trans h2.page⟩

theorem CollKept.ite {p : Prop} [Decidable p] (ht : CollKept h s t) (hu : CollKept h s u) :
    CollKept h s (if p then t else u) := by
  split
  · exact ht
  · exact hu

theorem CollKept.of_eq (hc : t.coll = s.coll) (hr : t.regs = s.regs) : CollKept h s t := ⟨hc, .of_eq hr⟩

theorem foldl_collKept {α : Type} {f : State → α → State} (hf : ∀ t a, CollKept h t (f t a)) (l : List α)
    (s : State) : CollKept h s (l.foldl f s) := by
  induction l generalizing s with
  | nil => exact .refl s
  | cons a r ih => exact (hf s a).trans (ih (f s a))

end

section
variable {h : Half} {s t : State}

/-! Records of the objects and of the placement, registers, bytes. -/

theorem objMod_collKept (f : Objects → Objects) (s : State) : CollKept h s (objMod f s) := .of_eq rfl rfl

theorem plMod_collKept (g : Half) (f : PlaceHalf → PlaceHalf) (s : State) : CollKept h s (plMod g f s) := .of_eq rfl rfl

theorem dkMod_collKept (f : Dikar → Dikar) (s : State) : CollKept h s (dkMod f s) := .of_eq rfl rfl

theorem schMod_collKept (g : Half) (f : Sched → Sched) (s : State) : CollKept h s (schMod g f s) := .of_eq rfl rfl

theorem bump_collKept {P : Nat} (hP : P ≠ pgColl h) (f : Fld) (s : State) : CollKept h s (bump P f s) :=
  ⟨bump_coll _ _ _, bump_pageKept s hP f⟩

theorem raise_collKept {P : Nat} (hP : P ≠ pgColl h) (b : Nat) (s : State) : CollKept h s (raise P b s) :=
  ⟨raise_coll _ _ _, raise_pageKept s hP b⟩

theorem raiseIf_collKept {P : Nat} (hP : P ≠ pgColl h) (c : Bool) (b : Nat) (s : State) :
    CollKept h s (raiseIf c P b s) :=
  ⟨raiseIf_coll _ _ _ _, raiseIf_pageKept s hP c b⟩

theorem ezStore_collKept (a : Nat) (bs : List Byte) (s : State) : CollKept h s (ezStore a bs s) :=
  ⟨by rw [ezStore_only], ezStore_pageKept s (pgEasel_ne_coll · h) a bs⟩

theorem takePages_collKept {g : Half} {n : Nat} {pgs : List Nat} (ht : takePages g n s = some (pgs, t)) :
    CollKept h s t := by
  induction n generalizing s pgs with
  | zero =>
    obtain ⟨-, rfl⟩ := Prod.mk.inj (Option.some.inj ht)
    exact .refl _
  | succ n ih =>
    rw [takePages] at ht
    split at ht
    · simp at ht
    · obtain ⟨⟨q, v⟩, hq, hv⟩ := Option.map_eq_some_iff.mp ht
      obtain ⟨-, rfl⟩ := Prod.mk.inj hv
      exact (plMod_collKept _ _ _).trans (ih hq)

/-! Events and commands that a read plan starts (R214, R247, R257). -/

theorem schAdmit_collKept (g : Half) (e : Event) (s : State) : CollKept h s (schAdmit g e s) := by
  unfold schAdmit
  extract_lets e1 e2 s1 P
  have hwr : ∀ v, CollKept h s1 (wr P R.SCH_STAT_HIGH_WATER v s1) :=
    fun v => ⟨rfl, wrI_pageKept s1 (pgSched_ne_coll g h) _ _ v⟩
  exact ((schMod_collKept g _ s).trans (hwr _)).trans (.of_eq rfl rfl)

theorem schInsert_collKept (e : Event) (s : State) : CollKept h s (schInsert e s) := by
  unfold schInsert
  dsimp only
  exact .ite (.of_eq rfl rfl) (.ite (schAdmit_collKept _ _ _)
    ((schMod_collKept _ _ _).trans (raiseIf_collKept (pgSched_ne_coll _ h) _ _ _)))

theorem spinTry_collKept (g : Half) (grp l : Nat) (s : State) : CollKept h s (spinTry g grp l s) := by
  have hcmd : CollKept h s (plainCmd l 3 0 s) := by
    rw [plainCmd_only]
    exact .of_eq rfl rfl
  unfold spinTry spinUp
  exact .ite ((hcmd.trans (bump_collKept (pgPlace_ne_coll _ h) _ _)).trans (plMod_collKept _ _ _))
    ((plMod_collKept _ _ _).trans (raiseIf_collKept (pgPlace_ne_coll _ h) _ _ _))

theorem setBusy_collKept (l n : Nat) (i : Int) (s : State) : CollKept h s (setBusy l n i s) :=
  ⟨wrI_coll _ _ _ _ _, wrI_pageKept s (pgPlace_ne_coll _ h) _ _ _⟩

theorem planRead_collKept (p : Plan) (recon : Bool) (i : Nat) (e : MapEnt) (pages : List Nat) (s : State) :
    CollKept h s (planRead p recon i e pages s) := by
  unfold planRead
  extract_lets P s1 s2
  have h1 : CollKept h s s1 := bump_collKept (pgPlace_ne_coll _ h) _ s
  have h2 : CollKept h s s2 := .ite (h1.trans (setBusy_collKept _ _ _ _)) h1
  exact h2.trans (foldl_collKept (fun t x => schInsert_collKept x t) _ _)

theorem planGo_collKept (p : Plan) (es : List MapEnt) (recon : Bool) (s : State) :
    CollKept h s (planGo p es recon s) := by
  unfold planGo
  dsimp only
  split
  · exact objMod_collKept _ _
  · exact (takePages_collKept ‹_›).trans ((objMod_collKept _ _).trans
      (foldl_collKept (fun t x => planRead_collKept _ _ _ _ _ t) _ _))

theorem planTry_collKept (id : Nat) (s : State) : CollKept h s (planTry id s) := by
  unfold planTry
  split
  · exact .refl s
  · refine .ite (.refl s) ?_
    split
    · exact planGo_collKept _ _ _ _
    · split
      · exact objMod_collKept _ _
      · exact (objMod_collKept _ _).trans
          (foldl_collKept (fun t e => .ite (spinTry_collKept _ _ _ _) (.refl t)) _ _)

theorem planNew_collKept (o : PlanOwner) (e : MapEnt) (want : List Nat) (nc : Bool) (s : State) :
    CollKept h s (planNew o e want nc s).1 :=
  ((objMod_collKept _ s).trans (objMod_collKept _ _)).trans (planTry_collKept _ _)

/-! A write's stripes put together (R284, R285). -/

theorem mergeUnit_collKept {id size u : Nat} {outs : List (Nat × Nat)} (ht : mergeUnit id size u outs s = some t) :
    CollKept h s t := by
  unfold mergeUnit at ht
  split at ht
  · simp at ht
  · extract_lets p ws base put at ht
    have hput : ∀ a v, CollKept h v (put a v) := fun a v => objMod_collKept _ _
    split at ht
    · extract_lets a at ht
      split at ht
      all_goals
        obtain rfl := Option.some.inj ht
      · exact hput _ _
      · exact (ezStore_collKept _ _ _).trans (hput _ _)
    · obtain rfl := Option.some.inj ht
      exact hput _ _
    · split at ht
      · simp at ht
      · obtain rfl := Option.some.inj ht
        exact (plMod_collKept _ _ _).trans ((ezStore_collKept _ _ _).trans ((objMod_collKept _ _).trans (hput _ _)))

theorem foldl_bind_collKept {f : Nat → State → Option State} (hf : ∀ u s t, f u s = some t → CollKept h s t)
    (l : List Nat) (ht : l.foldl (fun o u => o.bind (f u)) (some s) = some t) : CollKept h s t := by
  induction l generalizing s with
  | nil =>
    obtain rfl := Option.some.inj ht
    exact .refl _
  | cons u r ih =>
    rw [List.foldl_cons, Option.bind_some] at ht
    cases hu : f u s with
    | none =>
      rw [hu, List.foldl_fixed' (fun _ => rfl)] at ht
      simp at ht
    | some v =>
      rw [hu] at ht
      exact (hf _ _ _ hu).trans (ih ht)

theorem mergeAll_collKept (id size : Nat) (outs : List (Nat × Nat)) (s : State) :
    CollKept h s (mergeAll id size outs s) := by
  unfold mergeAll
  split
  · exact .refl s
  · split
    · rename_i hfold
      exact (foldl_bind_collKept (fun u s t ht => mergeUnit_collKept ht) _ hfold).trans (objMod_collKept _ _)
    · exact objMod_collKept _ _

theorem mergePlanEnd_collKept (p : Plan) (id : Nat) (s : State) : CollKept h s (mergePlanEnd p id s) := by
  unfold mergePlanEnd
  split
  · exact objMod_collKept _ _
  · refine .ite ?_ (.ite ?_ (.refl s))
    · exact ((objMod_collKept _ _).trans (objMod_collKept _ _)).trans
        ((bump_collKept (pgDikar_ne_coll _ h) _ _).trans (raise_collKept (pgDikar_ne_coll _ h) _ _))
    · exact .ite ((mergeAll_collKept _ _ _ _).trans (objMod_collKept _ _)) (mergeAll_collKept _ _ _ _)

theorem mergeStart_collKept (id : Nat) (s : State) : CollKept h s (mergeStart id s) := by
  unfold mergeStart
  split
  · exact .refl s
  · refine .ite (.refl s) ?_
    dsimp only
    split
    · exact mergeAll_collKept _ _ _ _
    · exact mergeAll_collKept _ _ _ _
    · split
      · exact .ite (planTry_collKept _ _) (mergePlanEnd_collKept _ _ _)
      · split
        · exact (planNew_collKept _ _ _ _ _).trans (mergePlanEnd_collKept _ _ _)
        · exact planNew_collKept _ _ _ _ _

theorem stripeNew_collKept (w : Write) (g num : Nat) (early : Option Nat) (s : State) :
    CollKept h s (stripeNew w g num early s) :=
  ((objMod_collKept _ s).trans (objMod_collKept _ _)).trans (mergeStart_collKept _ _)

theorem buildStripes_collKept (id : Nat) (s : State) : CollKept h s (buildStripes id s) := by
  unfold buildStripes
  split
  · exact .refl s
  · split
    · exact .refl s
    · dsimp only
      split
      · exact objMod_collKept _ _
      · exact (objMod_collKept _ _).trans (foldl_collKept (fun t n => stripeNew_collKept _ _ n none t) _ _)

/-! A write's effect and its step in the journals (R283, R381). -/

theorem cacheDrop_collKept (obj : Nat) (sel : Nat → Bool) (s : State) : CollKept h s (cacheDrop obj sel s) :=
  (plMod_collKept _ _ s).trans
    ⟨bumpBy_coll _ _ _ _, (bumpBy_kept _ _ _ _).page (by simpa using pgEasel_ne_coll _ h)⟩

theorem nameWritten_names (obj size now : Nat) (s : State) :
    ∃ ns, nameWritten obj size now s = objMod (fun o => { o with names := ns }) s := by
  unfold nameWritten
  split
  · rename_i j e _
    exact ⟨tput {} s.objs.names j { e with size := max e.size size, gen := genNext e.gen, modified := now }, rfl⟩
  · exact ⟨s.objs.names, rfl⟩

theorem writeStep_eq {wid now : Nat} {w : Write} (hw : wrGet s wid = some w) : writeStep wid now s =
    w.ranges.foldl (fun t r => lostWrite w.obj r.1 r.2
      (cacheDrop w.obj (fun p => (rangeUnits r.1 r.2).contains p) t))
      (nameWritten w.obj (reachOf w) now (writeOrdered wid s)) := by
  unfold writeStep
  simp only [hw]
  rfl

theorem writeStep_collKept (wid now : Nat) (s : State) : CollKept h s (writeStep wid now s) := by
  cases hw : wrGet s wid with
  | none =>
    rw [writeStep, hw]
    exact .refl s
  | some w =>
    obtain ⟨ns, hns⟩ := nameWritten_names w.obj (reachOf w) now (writeOrdered wid s)
    rw [writeStep_eq hw, hns]
    exact ((objMod_collKept _ s).trans (objMod_collKept _ (writeOrdered wid s))).trans
      (foldl_collKept (fun t r => (cacheDrop_collKept _ _ t).trans (plMod_collKept _ _ _)) _ _)

/-- A write's effect takes one place in the order of effect, and adds no stripe. -/
theorem writeStep_orders {wid now : Nat} {w : Write} (hw : wrGet s wid = some w) :
    (writeStep wid now s).dikar = s.dikar ∧ (writeStep wid now s).objs.nextOrd = s.objs.nextOrd + 1 ∧
      ∀ id, (writeStep wid now s).objs.stripes.filter (fun x => x.write == id) = [] ↔
        s.objs.stripes.filter (fun x => x.write == id) = [] := by
  obtain ⟨ns, hns⟩ := nameWritten_names w.obj (reachOf w) now (writeOrdered wid s)
  have hobjs : (writeStep wid now s).objs = (nameWritten w.obj (reachOf w) now (writeOrdered wid s)).objs := by
    rw [writeStep_eq hw]
    refine foldl_objs (fun t r => ?_) _ _
    rw [lostWrite, plMod_objs, cacheDrop, bumpBy_objs, plMod_objs]
  have hdikar : (writeStep wid now s).dikar = (nameWritten w.obj (reachOf w) now (writeOrdered wid s)).dikar := by
    rw [writeStep_eq hw]
    exact (foldl_stripeStep (fun t r => (cacheDrop_stripeStep _ _ t).trans (lostWrite_stripeStep _ _ _ _)) _ _).dikar
  rw [hdikar, hobjs, hns]
  refine ⟨rfl, rfl, fun id => ?_⟩
  show List.filter _ (s.objs.stripes.map _) = [] ↔ _
  simp only [List.filter_eq_nil_iff, List.forall_mem_map]
  refine forall₂_congr fun x _ => ?_
  split <;> rfl

theorem nameJrnl_collKept (g : Half) (s : State) : CollKept h s (nameJrnl g s) := by
  have hj : ∀ k u, PageKept (pgColl h) u (jrnl k u) := fun k u => jrnl_pageKept u (pgEasel_ne_coll · h) k
  refine ⟨by rw [nameJrnl_step g s], ?_⟩
  unfold nameJrnl
  split
  · exact hj _ _
  · exact (hj _ _).trans (hj _ _)

/-! A completion (R295, R301). -/

theorem countEnd_collKept (g : Half) (dop st : Nat) (s : State) : CollKept h s (countEnd g dop st s) := by
  have hb : ∀ f t, CollKept h t (bump (pgDikar g) f t) := fun f t => bump_collKept (pgDikar_ne_coll g h) f t
  have hr : ∀ b t, CollKept h t (raise (pgDikar g) b t) := fun b t => raise_collKept (pgDikar_ne_coll g h) b t
  unfold countEnd
  extract_lets P s1 s2
  have h1 : CollKept h s s1 := by
    refine .ite (hb _ _) (.ite ?_ (.refl s))
    split
    · exact hb _ _
    · exact .refl s
  have h2 : CollKept h s s2 := .ite h1 (h1.trans (hb _ _))
  exact h2.trans (.ite ((hb _ _).trans (hr _ _)) (.ite ((hb _ _).trans (hr _ _)) (.ite ((hb _ _).trans (hr _ _))
    (.ite (hb _ _) (.ite (hr _ _) (.refl s2))))))

theorem opEnd_collKept {d : DOp} (hq : Queued s d) (st : Nat) (x : Said) : CollKept h s (opEnd d.id st x s) := by
  rw [opEnd_queued hq, cqMod, mhMod, opStop]
  exact ((countEnd_collKept d.h d.dop st s).trans (dkMod_collKept _ _)).trans (dkMod_collKept _ _)

end

end Sys2Proof.Machine
end

section
/-!
SUPPORT. Collectives: a member gathered, the close, the nodes told, the linger table (R343, R344, R346, R347, R349,
R351).
-/
namespace Sys2Proof.Machine

/-! Gather records and their members (R343). -/

section
variable {s t : State} {h : Half} {i : Nat} {r : Coll} {d : DOp}

theorem recGet_congr (hc : t.coll = s.coll) (h : Half) (i : Nat) : recGet t h i = recGet s h i := by
  rw [recGet, recGet, hc]

theorem recGet_recMod (f : Coll → Coll) (hr : recGet s h i = some r) : recGet (recMod h i f s) h i = some (f r) := by
  obtain ⟨p, hp, rfl⟩ := Option.map_eq_some_iff.mp hr
  have hpred : ((fun p : Nat × Coll => p.1 == i) ∘ fun p => if p.1 = i then (i, f p.2) else p) =
      fun p => p.1 == i := by
    funext p
    by_cases hi : p.1 = i <;> simp [hi]
  rw [recGet, recMod, collMod, PerHalf.at_put_self, List.find?_map, hpred, hp, Option.map_some, Option.map_some,
    if_pos (by simpa using List.find?_some hp)]

theorem recOps_congr (hd : t.dikar = s.dikar) {x : Coll} (hm : x.members = r.members) : recOps t x = recOps s r := by
  rw [recOps, recOps, hd, hm]

theorem OneMember.queued (ho : OneMember s h i r d) : Queued s d := by
  obtain ⟨-, -, hget, hh, -, hreply, hring, hmute, hforced, -⟩ := ho
  exact ⟨hget, hreply, hring, hmute, hh ▸ hforced⟩

/-- The requests alone, and the record's members, decide whether `d` is its one member. -/
theorem OneMember.congr (ho : OneMember s h i r d) {x : Coll} (hx : recGet t h i = some x)
    (hm : x.members = r.members) (hover : x.over = false) (hd : t.dikar = s.dikar) : OneMember t h i x d := by
  obtain ⟨-, hops, hget, hh, hhome, hreply, hring, hmute, hforced, -⟩ := ho
  exact ⟨hx, (recOps_congr hd hm).trans hops, (opGet_congr hd _).trans hget, hh, hhome, hreply, hring, hmute,
    by rwa [mh_congr hd], hover⟩

theorem OneMember.of_kept (ho : OneMember s h i r d) (hc : t.coll = s.coll) (hd : t.dikar = s.dikar) :
    OneMember t h i r d := by
  obtain ⟨hr, -, -, -, -, -, -, -, -, hover⟩ := id ho
  exact ho.congr ((recGet_congr hc h i).trans hr) rfl hover hd

end

/-! A member is gathered (R344). -/

section
variable {s : State} {h : Half} {i k : Nat} {r : Coll} {d : DOp} {w : Write}

/-- A member's record once its contribution, of checksum `crc`, is durable: its slot is given back (R344). -/
def memberReceived (crc : Nat) (x : DOp) : DOp := { x with st := .member, slot := false, received := true, crc := crc }

/-- A member's record with its data in the assembly area `wid`. -/
def placedIn (wid : Nat) (x : DOp) : DOp := { x with write := some wid }

/-- A write that the range of member `d` has joined. -/
def rangeJoined (d : DOp) (w : Write) : Write :=
  { w with ranges := w.ranges ++ [(d.off, d.len)], ops := w.ops ++ [(d.id, d.ctx)] }

/-- The state in which member `d` of write `w` is received and counted, before its range joins the assembly area. -/
def memberCounted (w : Write) (d : DOp) (s : State) : State :=
  bump (pgColl d.home) R.COLLECTIVE_CNT_MEMBER (opMod d.id (memberReceived (crc64 (wrBytes s w d.h d.off d.len))) s)

/-- Member `d` gathered into the assembly area `w`. -/
def memberGathered (w : Write) (d : DOp) (s : State) : State :=
  opMod d.id (placedIn w.id) (wrMod w.id (rangeJoined d) (memberCounted w d s))

theorem opGet_opMod_other {id j : Nat} {f : DOp → DOp} (hf : ∀ x, (f x).id = x.id) (hj : j ≠ id) (s : State) :
    opGet (opMod id f s) j = opGet s j := by
  have hpred : ((fun x : DOp => x.id == j) ∘ fun x => if x.id = id then f x else x) = fun x => x.id == j := by
    funext x
    by_cases hx : x.id = id <;> simp [hx, hf]
  have hfix : ∀ x, s.dikar.ops.find? (fun x => x.id == j) = some x → (if x.id = id then f x else x) = x :=
    fun x hx => if_neg (by rw [show x.id = j by simpa using List.find?_some hx]; exact hj)
  show List.find? _ (s.dikar.ops.map _) = s.dikar.ops.find? _
  rw [List.find?_map, hpred]
  cases hx : s.dikar.ops.find? (fun x => x.id == j) with
  | none => rfl
  | some x => rw [Option.map_some, hfix x hx]

theorem memberCounted_dikar : (memberCounted w d s).dikar =
    (opMod d.id (memberReceived (crc64 (wrBytes s w d.h d.off d.len))) s).dikar := bump_dikar _ _ _

theorem memberCounted_objs : (memberCounted w d s).objs = s.objs := bump_objs _ _ _

theorem collPlaced_late (hr : recGet s h i = some r) (he : rdB s (pgColl h) R.COL_CTRL_EARLY = false) :
    collPlaced h i d s = opMod d.id (placedIn r.write) (wrMod r.write (rangeJoined d) s) := by
  unfold collPlaced
  simp only [hr]
  exact if_neg (Bool.eq_false_iff.mp he)

theorem collGather_into (hcoll : d.coll = some (i, k)) (hwr : d.write = some r.write) (hw : wrGet s r.write = some w) :
    collGather d s = if (recGet s d.home i).any (fun x => x.write == w.id) then
      collPlaced d.home i d (memberCounted w d s) else memberCounted w d s := by
  unfold collGather
  simp only [hcoll, hwr, Option.bind_some, hw]
  rfl

theorem collGather_home (hcoll : d.coll = some (i, k)) (hwr : d.write = some r.write) (hw : wrGet s r.write = some w)
    (hr : recGet s d.home i = some r) (he : rdB s (pgColl d.home) R.COL_CTRL_EARLY = false) :
    collGather d s = memberGathered w d s := by
  have hid : w.id = r.write := wrGet_id hw
  have hr' : recGet (memberCounted w d s) d.home i = some r := (recGet_congr (bump_coll _ _ _) _ _).trans hr
  have he' : rdB (memberCounted w d s) (pgColl d.home) R.COL_CTRL_EARLY = false := by
    rw [rdB, memberCounted, bump, rd_bumpBy_off _ _ _ _ (by decide)]
    exact he
  rw [collGather_into hcoll hwr hw, hr, if_pos (by simp [hid]), collPlaced_late hr' he', memberGathered, hid]

theorem opGet_memberGathered (hget : opGet s d.id = some d) (hwr : d.write = some w.id) :
    opGet (memberGathered w d s) d.id = some (memberReceived (crc64 (wrBytes s w d.h d.off d.len)) d) := by
  have hrec : opGet (wrMod w.id (rangeJoined d) (memberCounted w d s)) d.id =
      some (memberReceived (crc64 (wrBytes s w d.h d.off d.len)) d) :=
    (opGet_congr memberCounted_dikar _).trans (opGet_opMod (fun _ => rfl) hget)
  rw [memberGathered, opGet_opMod (f := placedIn w.id) (fun _ => rfl) hrec, placedIn, ← hwr]
  rfl

theorem opGet_memberGathered_other {j : Nat} (hj : j ≠ d.id) : opGet (memberGathered w d s) j = opGet s j := by
  have hcount : opGet (wrMod w.id (rangeJoined d) (memberCounted w d s)) j = opGet s j :=
    (opGet_congr memberCounted_dikar _).trans (opGet_opMod_other (f := memberReceived _) (fun _ => rfl) hj s)
  rw [memberGathered, opGet_opMod_other (f := placedIn w.id) (fun _ => rfl) hj, hcount]

theorem wrGet_memberGathered (hw : wrGet s w.id = some w) :
    wrGet (memberGathered w d s) w.id = some (rangeJoined d w) := by
  have hc : wrGet (memberCounted w d s) w.id = some w := by
    rw [wrGet_congr (congrArg Objects.writes memberCounted_objs), hw]
  exact wrGet_wrMod (fun _ => rfl) hc

theorem memberGathered_frame : memberGathered w d s = { s with
    regs := (memberGathered w d s).regs, dikar := (memberGathered w d s).dikar
    objs := (memberGathered w d s).objs } := by
  rw [memberGathered, memberCounted, bump, bumpBy_only]
  rfl

theorem memberGathered_regs : (memberGathered w d s).regs = (memberCounted w d s).regs := by
  rw [memberGathered, opMod, dkMod_regs, wrMod, objMod_regs]

theorem memberGathered_kept : RegsKept [(pgColl d.home, R.COLLECTIVE_CNT_MEMBER.off)] s (memberGathered w d s) :=
  ((RegsKept.of_eq rfl).trans (bump_kept _ _ (opMod d.id _ s))).trans (.of_eq memberGathered_regs)

theorem memberGathered_count : rd (memberGathered w d s) (pgColl d.home) R.COLLECTIVE_CNT_MEMBER =
    rd (bump (pgColl d.home) R.COLLECTIVE_CNT_MEMBER s) (pgColl d.home) R.COLLECTIVE_CNT_MEMBER := by
  have hcount : rd (memberCounted w d s) (pgColl d.home) R.COLLECTIVE_CNT_MEMBER =
      rd (bump (pgColl d.home) R.COLLECTIVE_CNT_MEMBER s) (pgColl d.home) R.COLLECTIVE_CNT_MEMBER := by
    rw [memberCounted]
    exact rd_bump_congr rfl rfl
  exact (PageKept.of_eq memberGathered_regs _ 0).trans hcount

theorem collGathered_durable (hget : opGet s d.id = some d) (hcoll : d.coll = some (i, k)) (hh : d.h = h)
    (hhome : d.home = h) (hdur : d.durable = true) (hr : recGet s h i = some r) (hover : r.over = false) :
    collGathered h d.id s = collGather d s := by
  unfold collGathered
  simp [hget, hcoll, hh, hhome, hdur, hr, hover]

theorem collMemberGathered_settles (hget : opGet s d.id = some d) (hcoll : d.coll = some (i, k)) (hh : d.h = h)
    (hhome : d.home = h) (hdur : d.durable = true) (hr : recGet s h i = some r) (hover : r.over = false)
    (hwr : d.write = some r.write) (hw : wrGet s r.write = some w)
    (he : rdB s (pgColl h) R.COL_CTRL_EARLY = false) :
    Settles (.collMemberGathered h d.id) s (fun u =>
      opGet u d.id = some { d with
        st := .member, slot := false, received := true, crc := crc64 (wrBytes s w h d.off d.len) } ∧
      (∀ j, j ≠ d.id → opGet u j = opGet s j) ∧
      wrGet u r.write = some { w with ranges := w.ranges ++ [(d.off, d.len)], ops := w.ops ++ [(d.id, d.ctx)] } ∧
      rd u (pgColl h) R.COLLECTIVE_CNT_MEMBER =
        rd (bump (pgColl h) R.COLLECTIVE_CNT_MEMBER s) (pgColl h) R.COLLECTIVE_CNT_MEMBER ∧
      u = { s with regs := u.regs, dikar := u.dikar, objs := u.objs } ∧
      RegsKept [(pgColl h, R.COLLECTIVE_CNT_MEMBER.off)] s u) := by
  have hid : w.id = r.write := wrGet_id hw
  have hx := collGathered_durable hget hcoll hh hhome hdur hr hover
  subst hhome
  rw [collGather_home hcoll hwr hw hr he] at hx
  rw [← hid] at hwr hw ⊢
  refine ⟨memberGathered w d s, congrArg (fun t => done (settle t)) hx, ?_, fun j => opGet_memberGathered_other,
    wrGet_memberGathered hw, memberGathered_count, memberGathered_frame, memberGathered_kept⟩
  rw [opGet_memberGathered hget hwr, memberReceived, hh]

theorem collGathered_leaves {id : Nat}
    (hd : ∀ d, opGet s id = some d → d.durable = false ∨ d.h ≠ h ∨ d.coll = none) :
    collGathered h id s = s := by
  unfold collGathered
  split
  · rfl
  · rename_i d hget
    split
    · rfl
    · rename_i hcoll
      rw [if_pos]
      rcases hd d hget with hdur | hh | hnone
      · exact .inr hdur
      · exact .inl hh
      · simp [hcoll] at hnone

end

/-! The close of a collective of one member that waits (R346, R349). -/

theorem collStatus_collBody (s : State) (r : Coll) {st : Nat} (hst : st < 256) (sum size gen now : Nat) :
    collStatus (collBody s r st sum size gen now) = st := by
  unfold collStatus collBody complBody bits doCOLL
  simp only [List.getD_cons_zero]
  omega

section
variable {s : State} {h : Half} {i st now : Nat} {r : Coll} {d : DOp} {body : List Nat}

/-- A collective that has closed with status `st` and has completed its one member `d`; the objects, and the registers
of its half's page, are as in `s`. -/
structure CollFinished (h : Half) (i : Nat) (r : Coll) (d : DOp) (st : Nat) (s u : State) : Prop where
  closed : ClosedWith h i r st u
  completed : Completed d st s u
  page : PageKept (pgColl h) s u
  objs : u.objs = s.objs

/-- The outcome of a close recorded, before its members' completions. -/
def outcomeRecorded (h : Half) (i : Nat) (r : Coll) (body : List Nat) (s : State) : State :=
  lingerAdd h r.obj r.tag (recMod h i (fun x => { x with closing := true, doneBody := body }) s)

theorem recGet_outcomeRecorded (hr : recGet s h i = some r) :
    recGet (outcomeRecorded h i r body s) h i = some { r with closing := true, doneBody := body } := by
  have hm := recGet_recMod (fun x => { x with closing := true, doneBody := body }) hr
  rwa [recGet, outcomeRecorded, lingerAdd, collMod, PerHalf.at_put_self]

theorem mem_linger_outcomeRecorded : (r.obj, r.tag) ∈ ((outcomeRecorded h i r body s).coll.at h).linger := by
  rw [outcomeRecorded, lingerAdd, collMod, PerHalf.at_put_self]
  exact List.mem_append_right _ (List.mem_singleton.mpr rfl)

theorem memberEnd_home (hh : d.h = d.home) (s : State) : memberEnd body d s =
    opEnd d.id (memberStatus (collStatus body) d) (collSaid body (if d.received then d.crc else 0)) s := by
  unfold memberEnd
  cases d.write.bind (wrGet s) with
  | none => rfl
  | some w => simp [hh]

theorem collFinish_one (ho : OneMember s h i r d) (hm : d.st = .member) : collFinish h i body s =
    memberEnd body d (outcomeRecorded h i r body s) := by
  obtain ⟨hr, hops, -⟩ := ho
  unfold collFinish
  simp only [hr, hops, List.foldl_cons, List.foldl_nil, hm, if_true]
  rfl

theorem memberStatus_in (hin : MemberIn r d) : memberStatus st d = st := by
  obtain ⟨-, hrec, hpull, -⟩ := hin
  simp [memberStatus, hrec, hpull]

theorem collFinish_finishes (ho : OneMember s h i r d) (hin : MemberIn r d) (hst : collStatus body = st)
    (hb : body ≠ []) : CollFinished h i r d st s (collFinish h i body s) := by
  have hq : Queued (outcomeRecorded h i r body s) d := ho.queued.of_dikar rfl
  have hx := collFinish_one (body := body) ho hin.1
  obtain ⟨hr, -, -, hh, hhome, -⟩ := ho
  rw [memberEnd_home (hh.trans hhome.symm), memberStatus_in hin, hst] at hx
  rw [hx]
  have hkept := opEnd_collKept (h := h) hq st (collSaid body (if d.received then d.crc else 0))
  refine ⟨⟨⟨_, (recGet_congr hkept.coll h i).trans (recGet_outcomeRecorded hr), hst, ?_, rfl⟩, ?_⟩, ?_, ?_, ?_⟩
  · simp [Coll.over, hb]
  · rw [hkept.coll]
    exact mem_linger_outcomeRecorded
  · exact (opEnd_completes hq st _).since rfl
  · exact (PageKept.of_eq rfl).trans hkept.page
  · exact opEnd_objs hq st _

/-! A collective is abandoned at its deadline (R346). -/

theorem collAbandon_one (hr : recGet s h i = some r) (hs : s.objs.stripes.filter (fun x => x.write == r.write) = []) :
    collAbandon h i st now s = collFinish h i (collBody s r st 0 (objSize s r.obj) (objGen s r.obj) now)
      (raise (pgColl h) 1 (bump (pgColl h) R.COLLECTIVE_CNT_COLL_ABANDON
        (wrMod r.write (fun w => { w with coll := none }) s))) := by
  unfold collAbandon
  simp only [hr, hs, List.foldl_nil]

theorem collEffect_missing (hr : recGet s h i = some r) (hops : recOps s r = [d]) (hover : r.over = false)
    (hin : MemberIn r d) (hc : r.closing = true) (hn : 1 < r.nmemb) (hp : r.partialOk = false) :
    collEffect h i s = collAbandon h i stCOLL_TIMEOUT r.deadline (raise (pgColl h) 0 s) := by
  obtain ⟨-, hrec, hpull, hwr⟩ := hin
  have hgot : [d].filter (·.received) = [d] := by simp [hrec]
  have hplace : collIn s h i d = true := by simp [collIn, hr, hwr]
  have hfailed : [d].filter (fun x => x.pullFail.isSome) = [] := by simp [hpull]
  have hmiss : ¬ r.nmemb - 1 = 0 := by omega
  unfold collEffect
  simp [hr, hops, hgot, hfailed, hplace, hover, hc, hp, hn, hmiss, raiseIf]

/-- Gather record `i` is closing: its deadline has passed (R346). -/
def collClosing (h : Half) (i : Nat) (s : State) : State := recMod h i (fun x => { x with closing := true }) s

theorem memberDue_member (hm : d.st = .member) (s : State) : memberDue d s = s := by
  have hdur : d.durable = false := by rw [DOp.durable, hm]; rfl
  unfold memberDue
  rw [if_neg (by simp [hdur]), if_neg (by simp [hm])]

theorem collDeadline_closes (ho : OneMember s h i r d) (hm : d.st = .member) (hc : r.closing = false)
    (hd : r.deadline ≤ nowH s h) :
    collDeadline h i s = collEffect h i (collClosing h i s) := by
  obtain ⟨hr, hops, -⟩ := ho
  unfold collDeadline
  simp only [hr, hops, List.foldl_cons, List.foldl_nil, memberDue_member hm]
  exact if_neg (by simp [hc, hd])

theorem collDeadline_early (hr : recGet s h i = some r) (hd : nowH s h < r.deadline) : collDeadline h i s = s := by
  unfold collDeadline
  simp [hr, hd]

/-- The state in which the close of gather record `i` at its deadline is counted as an abandonment. -/
def abandonCounted (h : Half) (i : Nat) (r : Coll) (s : State) : State :=
  raise (pgColl h) 1 (bump (pgColl h) R.COLLECTIVE_CNT_COLL_ABANDON (wrMod r.write (fun w => { w with coll := none })
    (raise (pgColl h) 0 (collClosing h i s))))

theorem abandonCounted_keeps (h : Half) (i : Nat) (r : Coll) (s : State) :
    (abandonCounted h i r s).dikar = s.dikar ∧ (abandonCounted h i r s).coll = (collClosing h i s).coll ∧
      (abandonCounted h i r s).objs.names = s.objs.names ∧
      (abandonCounted h i r s).objs.nextOrd = s.objs.nextOrd := by
  rw [abandonCounted, raise_only, bump, bumpBy_only, raise_only (pgColl h) 0]
  exact ⟨rfl, rfl, rfl, rfl⟩

theorem abandonCounted_events (h : Half) (i : Nat) (r : Coll) (s : State) :
    (rd (abandonCounted h i r s) (pgColl h) R.EVT_RAW).testBit 0 = true ∧
      (rd (abandonCounted h i r s) (pgColl h) R.EVT_RAW).testBit 1 = true := by
  refine ⟨evtRaw_raise_keeps (by decide) ?_, evtRaw_raise_self _ _ (by decide)⟩
  rw [bump, rd_bumpBy_off _ _ _ _ (by decide)]
  exact evtRaw_raise_self _ _ (by decide)

theorem abandonCounted_count (h : Half) (i : Nat) (r : Coll) (s : State) :
    rd (abandonCounted h i r s) (pgColl h) R.COLLECTIVE_CNT_COLL_ABANDON =
      rd (bump (pgColl h) R.COLLECTIVE_CNT_COLL_ABANDON s) (pgColl h) R.COLLECTIVE_CNT_COLL_ABANDON := by
  rw [abandonCounted, rd_raise_off _ _ _ _ (by decide)]
  exact rd_bump_congr (rd_raise_off _ _ 0 _ (by decide)) (rd_raise_off _ _ 0 _ (by decide))

theorem collDeadline_abandons (ho : OneMember s h i r d) (hin : MemberIn r d) (hc : r.closing = false)
    (hd : r.deadline ≤ nowH s h) (hn : 1 < r.nmemb) (hp : r.partialOk = false)
    (hs : s.objs.stripes.filter (fun x => x.write == r.write) = []) :
    CollFinished h i r d stCOLL_TIMEOUT (abandonCounted h i r s) (collDeadline h i s) := by
  have hx := collDeadline_closes ho hin.1 hc hd
  obtain ⟨hr, hops, -, -, -, -, -, -, -, hover⟩ := id ho
  obtain ⟨hdikar, hcoll, -, -⟩ := abandonCounted_keeps h i r s
  have hr' : recGet (collClosing h i s) h i = some { r with closing := true } := recGet_recMod _ hr
  have ho' : OneMember (abandonCounted h i r s) h i { r with closing := true } d :=
    ho.congr ((recGet_congr hcoll h i).trans hr') rfl hover hdikar
  rw [collEffect_missing hr' hops hover hin rfl hn hp, collAbandon_one ((recGet_congr (raise_coll _ _ _) h i).trans hr')
    (by rw [raise_objs]; exact hs)] at hx
  rw [hx]
  obtain ⟨hclosed, hcompl, hpage, hobjs⟩ :=
    collFinish_finishes ho' hin (collStatus_collBody (st := stCOLL_TIMEOUT) _ _ (by decide) _ _ _ _)
      (List.cons_ne_nil _ _)
  exact ⟨hclosed, hcompl, hpage, hobjs⟩

theorem collDeadline_settles (ho : OneMember s h i r d) (hin : MemberIn r d) (hc : r.closing = false)
    (hd : r.deadline ≤ nowH s h) (hn : 1 < r.nmemb) (hp : r.partialOk = false)
    (hs : s.objs.stripes.filter (fun x => x.write == r.write) = []) :
    Settles (.collDeadline h i) s (fun u => ClosedWith h i r stCOLL_TIMEOUT u ∧ Completed d stCOLL_TIMEOUT s u ∧
      (rd u (pgColl h) R.EVT_RAW).testBit 0 = true ∧ (rd u (pgColl h) R.EVT_RAW).testBit 1 = true ∧
      rd u (pgColl h) R.COLLECTIVE_CNT_COLL_ABANDON =
        rd (bump (pgColl h) R.COLLECTIVE_CNT_COLL_ABANDON s) (pgColl h) R.COLLECTIVE_CNT_COLL_ABANDON ∧
      u.objs.nextOrd = s.objs.nextOrd ∧ (∀ n, nameAt u n = nameAt s n)) := by
  obtain ⟨hclosed, hcompl, hpage, hobjs⟩ := collDeadline_abandons ho hin hc hd hn hp hs
  obtain ⟨hevt0, hevt1⟩ := abandonCounted_events h i r s
  have hreg : ∀ f, rd (collDeadline h i s) (pgColl h) f = rd (abandonCounted h i r s) (pgColl h) f :=
    fun f => hpage f 0
  obtain ⟨hdikar, -, hnames, hord⟩ := abandonCounted_keeps h i r s
  refine ⟨collDeadline h i s, rfl, hclosed, hcompl.since ?_, by rwa [hreg], by rwa [hreg], ?_,
    (congrArg Objects.nextOrd hobjs).trans hord, nameAt_congr ((congrArg Objects.names hobjs).trans hnames)⟩
  · rw [cqGet_congr hdikar]
  · rw [hreg, abandonCounted_count]

/-! A collective takes effect as one write (R346, R347). -/

theorem collEffect_waits (hr : recGet s h i = some r) (hc : r.closing = false) (ha : collAllIn s r = false) :
    collEffect h i s = s := by
  unfold collEffect
  simp [hr, hc, ha]

theorem collEffect_complete (hr : recGet s h i = some r) (hops : recOps s r = [d]) (hover : r.over = false)
    (hin : MemberIn r d) (hc : r.closing = false) (hn : r.nmemb = 1) (hok : nameStepOk s = true)
    (hroom : nameRoom s h = true) : collEffect h i s = collWrite h i stOK (nowH s h) s := by
  obtain ⟨hm, hrec, -, hwr⟩ := hin
  have hgot : [d].filter (·.received) = [d] := by simp [hrec]
  have hplace : collIn s h i d = true := by simp [collIn, hr, hwr]
  have hall : collAllIn s r = true := by simp [collAllIn, hops, hm, hn]
  unfold collEffect
  simp [hr, hops, hgot, hplace, hover, hc, hall, hok, hroom, hn, raiseIf]

/-- The write of collective `r` has taken effect at `now`, journalled and counted (R347). -/
def effectCounted (h : Half) (r : Coll) (now : Nat) (s : State) : State :=
  bump (pgColl h) R.COLLECTIVE_CNT_COLL_OK (nameJrnl h (writeStep r.write now s))

theorem collWrite_whole {w : Write} (hr : recGet s h i = some r) (hw : wrGet s r.write = some w)
    (hs : s.objs.stripes.filter (fun x => x.write == r.write) = []) :
    ∃ sum size gen, collWrite h i stOK now s = writeGc (collFinish h i
      (collBody (nameJrnl h (writeStep r.write now s)) r stOK sum size gen now)
      (buildStripes r.write (effectCounted h r now s))) := by
  obtain ⟨-, -, hstripes⟩ := writeStep_orders (now := now) hw
  have hmine : (nameJrnl h (writeStep r.write now s)).objs.stripes.filter (fun x => x.write == r.write) = [] := by
    rw [(nameJrnl_step h (writeStep r.write now s)).objs]
    exact (hstripes r.write).mpr hs
  unfold collWrite
  simp only [hr, hmine]
  exact ⟨_, _, _, rfl⟩

theorem effectCounted_keeps {w : Write} (hw : wrGet s r.write = some w) :
    (effectCounted h r now s).dikar = s.dikar ∧ (effectCounted h r now s).coll = s.coll ∧
      (effectCounted h r now s).objs.nextOrd = s.objs.nextOrd + 1 ∧
      rd (effectCounted h r now s) (pgColl h) R.COLLECTIVE_CNT_COLL_OK =
        rd (bump (pgColl h) R.COLLECTIVE_CNT_COLL_OK s) (pgColl h) R.COLLECTIVE_CNT_COLL_OK := by
  obtain ⟨hdikar, hord, -⟩ := writeStep_orders (now := now) hw
  have hj := nameJrnl_step h (writeStep r.write now s)
  obtain ⟨hcoll, hpage⟩ := (writeStep_collKept (h := h) r.write now s).trans (nameJrnl_collKept h _)
  refine ⟨?_, (bump_coll _ _ _).trans hcoll, ?_, rd_bump_congr (hpage _ 0) (hpage _ 0)⟩
  · rw [effectCounted, bump_dikar, hj.dikar, hdikar]
  · rw [effectCounted, bump_objs, hj.objs, hord]

theorem collEffect_settles {w : Write} (ho : OneMember s h i r d) (hin : MemberIn r d) (hc : r.closing = false)
    (hn : r.nmemb = 1) (hw : wrGet s r.write = some w) (hok : nameStepOk s = true) (hroom : nameRoom s h = true)
    (hs : s.objs.stripes.filter (fun x => x.write == r.write) = []) :
    Settles (.collEffect h i) s (fun u => ClosedWith h i r stOK u ∧ Completed d stOK s u ∧
      rd u (pgColl h) R.COLLECTIVE_CNT_COLL_OK =
        rd (bump (pgColl h) R.COLLECTIVE_CNT_COLL_OK s) (pgColl h) R.COLLECTIVE_CNT_COLL_OK ∧
      u.objs.nextOrd = s.objs.nextOrd + 1) := by
  obtain ⟨hr, hops, -, -, -, -, -, -, -, hover⟩ := id ho
  obtain ⟨sum, size, gen, hwhole⟩ := collWrite_whole (now := nowH s h) hr hw hs
  have hx := (collEffect_complete hr hops hover hin hc hn hok hroom).trans hwhole
  obtain ⟨hdikar, hcoll, hord, hcount⟩ := effectCounted_keeps (h := h) (now := nowH s h) hw
  generalize effectCounted h r (nowH s h) s = v at hx hdikar hcoll hord hcount
  obtain ⟨hbdikar, -, hbord, -⟩ := buildStripes_keeps r.write v
  obtain ⟨hbcoll, hbpage⟩ := buildStripes_collKept (h := h) r.write v
  have hob := ho.of_kept (hbcoll.trans hcoll) (hbdikar.trans hdikar)
  obtain ⟨hclosed, hcompl, hpage, hobjs⟩ :=
    collFinish_finishes hob hin (collStatus_collBody (st := stOK) _ r (by decide) sum size gen (nowH s h))
      (List.cons_ne_nil _ _)
  refine ⟨_, congrArg (fun t => done (settle t)) hx, hclosed, hcompl.since ?_, ?_, ?_⟩
  · rw [cqGet_congr (hbdikar.trans hdikar)]
  · exact ((hbpage.trans hpage) _ 0).trans hcount
  · exact (congrArg Objects.nextOrd hobjs).trans (hbord.trans hord)

/-! COLL_DONE (R351). -/

theorem collNotify_tells {n : Nat} (hr : recGet s h i = some r) (hover : r.over = true)
    (hn : r.nodes.find? (fun m => !((recOps s r).map (·.src)).contains m) = some n) :
    collNotify h i s = bump (pgColl h) R.COLLECTIVE_CNT_NOTIFY (recMod h i (fun x => { x with nodes := x.nodes.erase n })
      (sendPkt h (mkEVT n 0xC1 r.obj (bodyBytes r.doneBody)) s)) := by
  unfold collNotify
  simp only [hr, hn, hover, if_true]

theorem collNotify_settles {n : Nat} (hr : recGet s h i = some r) (hover : r.over = true)
    (hn : r.nodes.find? (fun m => !((recOps s r).map (·.src)).contains m) = some n) :
    Settles (.collNotify h i) s (fun u => recGet u h i = some { r with nodes := r.nodes.erase n } ∧
      rd u (pgColl h) R.COLLECTIVE_CNT_NOTIFY =
        rd (bump (pgColl h) R.COLLECTIVE_CNT_NOTIFY (sendPkt h (mkEVT n 0xC1 r.obj (bodyBytes r.doneBody)) s)) (pgColl h)
          R.COLLECTIVE_CNT_NOTIFY ∧
      pktOpen u s.nextPid = true ∧
      u = { sendPkt h (mkEVT n 0xC1 r.obj (bodyBytes r.doneBody)) s with regs := u.regs, coll := u.coll }) := by
  have hsent : recGet (sendPkt h (mkEVT n 0xC1 r.obj (bodyBytes r.doneBody)) s) h i = some r := by
    rw [recGet_congr (s := s) (by rw [sendPkt_only]), hr]
  have hopen := pktOpen_sendPkt h (mkEVT n 0xC1 r.obj (bodyBytes r.doneBody)) s
  refine ⟨_, congrArg (fun t => done (settle t)) (collNotify_tells hr hover hn), ?_, rd_bump_congr rfl rfl, ?_, ?_⟩
  · exact (recGet_congr (bump_coll _ _ _) h i).trans (recGet_recMod _ hsent)
  · rw [pktOpen_congr (bump_egr _ _ _) (bump_fiu _ _ _)]
    exact hopen
  · rw [bump, bumpBy_only]
    rfl

/-! The linger table (R343). -/

theorem lingerExpiry_ends (s : State) (h : Half) (obj tag : Nat) : Ends (.lingerExpiry h obj tag) s (fun t =>
    (t.coll.at h).linger = (s.coll.at h).linger.filter (fun e => e != (obj, tag)) ∧
    t = { s with coll := t.coll } ∧ t.coll.at h.twin = s.coll.at h.twin ∧ (t.coll.at h).recs = (s.coll.at h).recs) := by
  have hat : (collMod h (fun c => { c with linger := c.linger.filter (fun e => e != (obj, tag)) }) s).coll.at h =
      { s.coll.at h with linger := (s.coll.at h).linger.filter (fun e => e != (obj, tag)) } := PerHalf.at_put_self _ _ _
  refine ⟨_, rfl, ?_, rfl, PerHalf.at_put_twin _ _ _, ?_⟩
  · rw [hat]
  · rw [hat]

end

/-- Settles O36: each command by the one branch that it takes, and a close by what the building of stripes and the one
member's completion leave of the collectives. -/
theorem collectivesGatherAndClose : Obligations.CollectivesGatherAndClose := by
  unfold Obligations.CollectivesGatherAndClose
  refine ⟨fun s h i k r d w hget hcoll hh hhome hdur hr hover hwr hw he =>
      collMemberGathered_settles hget hcoll hh hhome hdur hr hover hwr hw he,
    fun s h id hd => ⟨s, congrArg (fun t => done (settle t)) (collGathered_leaves hd), rfl⟩,
    fun s h i r hr hd => ⟨s, congrArg (fun t => done (settle t)) (collDeadline_early hr hd), rfl⟩,
    fun s h i r d => collDeadline_settles, fun s h i r d w => collEffect_settles,
    fun s h i r hr _ hc ha => ⟨s, congrArg (fun t => done (settle t)) (collEffect_waits hr hc ha), rfl⟩,
    fun s h i n r => collNotify_settles, lingerExpiry_ends⟩

end Sys2Proof.Machine
end

section
/-!
SUPPORT. The emergency path: what its operations disable, what they leave of every GUARDED field, and how a proposal ends
with one (R535, R539-R541).
-/
namespace Sys2Proof.Machine

/-! Pages of the global region, which no half's state kills (R489). -/

theorem pageLive_of_global {P : Nat} (hP : pageHalf P = none) (s : State) : pageLive s P = true := by
  unfold pageLive
  rw [hP]

/-- A write that is refused on a live page, of which everything but the page's latches tells (R494, R500). -/
theorem ends_refused {c : Instr} {P Q off cause : Nat} {cls : FCls} {p : Option Path} {s : State}
    (hx : exec c s = .next (cfgReject P off cause cls p (unlatched Q s))) :
    Ends c s (fun t => t = cfgReject P off cause cls p { s with woLatch := t.woLatch }) := by
  refine ⟨_, hx, ?_⟩
  dsimp only
  rw [cfgReject_woLatch]
  rfl

/-! GUARDED fields that are left or cleared (R523, R541). -/

/-- The pages that entries change (R523). -/
def guardedPages : List Nat :=
  [pgPalette .west, pgPalette .east, pgCrossing .west, pgCrossing .east, pgContexts, pgProtect]

/-- Every GUARDED field reads as before or 0, the write-enable mask apart. -/
def OnlyDisabled (s t : State) : Prop :=
  ∀ P ∈ guardedPages, ∀ f ∈ guardedFlds, ∀ i, rdI t P f i = rdI s P f i ∨ rdI t P f i = 0 ∨ f = R.PR_ATN_WREN_MASK

section
variable {s t u : State}

theorem OnlyDisabled.trans (h1 : OnlyDisabled s t) (h2 : OnlyDisabled t u) : OnlyDisabled s u := by
  intro P hP f hf i
  rcases h2 P hP f hf i with h | h
  · rw [h]
    exact h1 P hP f hf i
  · exact .inr h

theorem RegsKept.onlyDisabled {ex : List (Nat × Nat)} (h : RegsKept ex s t)
    (hex : ∀ P ∈ guardedPages, ∀ f ∈ guardedFlds, (P, f.off) ∉ ex) : OnlyDisabled s t :=
  fun P hP f hf i => .inl (h.rdI P f i (hex P hP f hf))

end

/-- The places that a field's clearing may show at are read 0 from then on. -/
def clearable (f : Fld) : Bool :=
  decide (f.rst = 0) && guardedFlds.all (fun g => decide ((g.off, g.lo) = (f.off, f.lo) → g.rst = 0))

theorem wrI_zero_onlyDisabled {f : Fld} (hf : clearable f = true) (P i : Nat) (s : State) :
    OnlyDisabled s (wrI P f i 0 s) := by
  simp only [clearable, Bool.and_eq_true, decide_eq_true_eq, List.all_eq_true] at hf
  obtain ⟨hrst, hplace⟩ := hf
  intro Q _ g hg j
  by_cases hk : g.key Q j = f.key P i
  · have hlo : (g.off, g.lo) = (f.off, f.lo) := by simp_all [Fld.key]
    refine .inr (.inl ?_)
    have hread := tgetBy_tputBy_self RKey.code 0 s.regs (f.key P i) 0
    rwa [rdI, hk, wrI, Nat.zero_mod, hplace g hg hlo, hrst]
  · exact .inl (rdI_wrI_other _ _ _ _ _ _ _ _ hk)

theorem foldl_wrI_zero_onlyDisabled {f : Fld} (hf : clearable f = true) (P : Nat) (ws : List Nat) (s : State) :
    OnlyDisabled s (ws.foldl (fun t w => wrI P f w 0 t) s) := by
  induction ws generalizing s with
  | nil => exact (RegsKept.refl [] s).onlyDisabled (by simp)
  | cons w r ih => exact (wrI_zero_onlyDisabled hf P w s).trans (ih _)

theorem wrMask_onlyDisabled (v : Nat) (s : State) : OnlyDisabled s (wr pgProtect R.PR_ATN_WREN_MASK v s) := by
  have hsame : ∀ g ∈ guardedFlds, (g.off, g.lo) = (R.PR_ATN_WREN_MASK.off, R.PR_ATN_WREN_MASK.lo) →
      g = R.PR_ATN_WREN_MASK := by decide
  intro Q _ g hg j
  by_cases hp : (g.off, g.lo) = (R.PR_ATN_WREN_MASK.off, R.PR_ATN_WREN_MASK.lo)
  · exact .inr (.inr (hsame g hg hp))
  · exact .inl (rdI_wrI_place _ _ _ _ _ _ hp)

/-! Windows disabled (R139, R539). -/

theorem winGens_kept (h : Half) (ws : List Nat) (s : State) : RegsKept [(pgPalette h, R.PAL_WIN_VIEW_7_GEN.off)] s
    (ws.foldl (fun t w => wrI (pgPalette h) R.PAL_WIN_VIEW_7_GEN w (rdI t (pgPalette h) R.PAL_WIN_VIEW_7_GEN w + 1) t) s) := by
  induction ws generalizing s with
  | nil => exact .refl _ s
  | cons w r ih => exact (wrI_kept _ _ _ _ s).trans (ih _)

theorem winGens_only (h : Half) (ws : List Nat) (s : State) :
    ws.foldl (fun t w => wrI (pgPalette h) R.PAL_WIN_VIEW_7_GEN w (rdI t (pgPalette h) R.PAL_WIN_VIEW_7_GEN w + 1) t) s =
      { s with regs := (ws.foldl (fun t w => wrI (pgPalette h) R.PAL_WIN_VIEW_7_GEN w
        (rdI t (pgPalette h) R.PAL_WIN_VIEW_7_GEN w + 1) t) s).regs } := by
  induction ws generalizing s with
  | nil => rfl
  | cons w r ih =>
    rw [List.foldl_cons, ih]
    rfl

/-- The registers that tell of windows altered (R139). -/
def winRegs (h : Half) : List (Nat × Nat) :=
  [(pgPalette h, R.PAL_WIN_VIEW_7_GEN.off), (pgPalette h, R.PAL_STAT_PAL_GEN.off)] ++ evtRegs (pgPalette h)

theorem winCommit_kept (h : Half) (ws : List Nat) (s : State) : RegsKept (winRegs h) s (winCommit h ws s) := by
  unfold winCommit
  extract_lets P s1
  split
  · exact .refl _ s
  · have h1 : RegsKept (winRegs h) s s1 := (winGens_kept h ws s).mono (by simp [winRegs])
    exact (h1.wrI_mem (by simp [winRegs, P])).raise_mem (by simp [winRegs, evtRegs, P])

theorem winCommit_only (h : Half) (ws : List Nat) (s : State) : winCommit h ws s = { s with
    regs := (winCommit h ws s).regs, strikes := (winCommit h ws s).strikes } := by
  unfold winCommit
  extract_lets P s1
  have h1 : s1 = { s with regs := s1.regs } := winGens_only h ws s
  split
  · rfl
  · rw [raise_only, h1]
    rfl

/-- The windows `ws` of half `h` cleared. -/
def winsOff (h : Half) (ws : List Nat) (s : State) : State :=
  ws.foldl (fun t w => wrI (pgPalette h) R.PAL_WIN_VIEW_2_EN w 0 t) s

theorem winsOff_kept (h : Half) (ws : List Nat) (s : State) :
    RegsKept [(pgPalette h, R.PAL_WIN_VIEW_2_EN.off)] s (winsOff h ws s) := by
  induction ws generalizing s with
  | nil => exact .refl _ s
  | cons w r ih => exact (wrI_kept _ _ _ _ s).trans (ih _)

theorem winsOff_only (h : Half) (ws : List Nat) (s : State) :
    winsOff h ws s = { s with regs := (winsOff h ws s).regs } := by
  induction ws generalizing s with
  | nil => rfl
  | cons w r ih =>
    refine (ih _).trans ?_
    rfl

theorem rdI_winsOff (h : Half) (ws : List Nat) (s : State) (w : Nat) :
    rdI (winsOff h ws s) (pgPalette h) R.PAL_WIN_VIEW_2_EN w =
      if w ∈ ws then 0 else rdI s (pgPalette h) R.PAL_WIN_VIEW_2_EN w := by
  induction ws generalizing s with
  | nil => rfl
  | cons x r ih =>
    refine (ih _).trans ?_
    by_cases hx : w = x
    · subst hx
      rw [rdI_wrI_self]
      simp
    · rw [rdI_wrI_record _ _ _ _ _ _ hx]
      simp [hx]

/-! The disabling change of an operation (R539). -/

section
variable (tg : BitVec 11) (m : Nat) (s : State)

theorem emergApply_wins {op : Nat} (hop : op = 1 ∨ op = 2) : emergApply op tg.toNat m s =
    winCommit (emergHalf tg) (emergWins s op tg.toNat) (winsOff (emergHalf tg) (emergWins s op tg.toNat) s) :=
  if_pos hop

theorem emergApply_wren : emergApply 3 tg.toNat m s = wr pgProtect R.PR_ATN_WREN_MASK
    (rd s pgProtect R.PR_ATN_WREN_MASK ^^^ (rd s pgProtect R.PR_ATN_WREN_MASK &&& m)) s := rfl

theorem emergApply_privSrc : emergApply 4 tg.toNat m s =
    wr (pgPalette (emergHalf tg)) (R.PAL_PRIV_SRC_VALID.at (tg.toNat % 8)) 0 s := rfl

theorem emergApply_inb : emergApply 5 tg.toNat m s =
    wrI (pgCrossing (emergHalf tg)) R.CX_INB_VIEW_EN (tg.toNat % 512) 0 s := rfl

theorem emergApply_keyRange : emergApply 6 tg.toNat m s = wrI pgContexts R.KR_VIEW_0_VALID (tg.toNat % 256) 0 s := rfl

theorem emergApply_abandon : emergApply 7 tg.toNat m s = s := rfl

end

/-- The registers that a disabling change may touch. -/
def emergRegs (tg : BitVec 11) : List (Nat × Nat) :=
  [(pgProtect, R.PR_ATN_WREN_MASK.off), (pgPalette (emergHalf tg), R.PAL_WIN_VIEW_2_EN.off),
    (pgPalette (emergHalf tg), (R.PAL_PRIV_SRC_VALID.at (tg.toNat % 8)).off),
    (pgCrossing (emergHalf tg), R.CX_INB_VIEW_EN.off), (pgContexts, R.KR_VIEW_0_VALID.off)] ++ winRegs (emergHalf tg)

/-- A disabling change: what it may touch, and that it grants nothing. -/
structure Disabling (tg : BitVec 11) (s t : State) : Prop where
  only : t = { s with regs := t.regs, strikes := t.strikes }
  kept : RegsKept (emergRegs tg) s t
  disabled : OnlyDisabled s t

theorem winCommit_disabling (tg : BitVec 11) (ws : List Nat) (s : State) :
    Disabling tg s (winCommit (emergHalf tg) ws (winsOff (emergHalf tg) ws s)) := by
  refine ⟨?_, ?_, ?_⟩
  · rw [winCommit_only, winsOff_only]
  · exact ((winsOff_kept _ ws s).mono (by simp [emergRegs])).trans
      ((winCommit_kept _ ws _).mono fun p hp => List.mem_append_right _ hp)
  · have hex : ∀ h, ∀ P ∈ guardedPages, ∀ f ∈ guardedFlds, (P, f.off) ∉ winRegs h := by
      intro h
      cases h <;> decide
    exact (foldl_wrI_zero_onlyDisabled (by decide) _ ws s).trans ((winCommit_kept _ ws _).onlyDisabled (hex _))

theorem wrI_zero_disabling {tg : BitVec 11} {P : Nat} {f : Fld} (hf : clearable f = true)
    (hP : (P, f.off) ∈ emergRegs tg) (i : Nat) (s : State) : Disabling tg s (wrI P f i 0 s) :=
  ⟨rfl, (RegsKept.refl _ s).wrI_mem hP, wrI_zero_onlyDisabled hf P i s⟩

theorem clearable_privSrc : ∀ k < 8, clearable (R.PAL_PRIV_SRC_VALID.at k) = true := by decide

theorem emergApply_disabling {op : Nat} (h1 : 1 ≤ op) (h7 : op ≤ 7) (tg : BitVec 11) (m : Nat) (s : State) :
    Disabling tg s (emergApply op tg.toNat m s) := by
  have hk : tg.toNat % 8 < 8 := Nat.mod_lt _ (by decide)
  obtain hop | rfl | rfl | rfl | rfl | rfl : (op = 1 ∨ op = 2) ∨ op = 3 ∨ op = 4 ∨ op = 5 ∨ op = 6 ∨ op = 7 := by omega
  · rw [emergApply_wins tg m s hop]
    exact winCommit_disabling tg _ s
  · rw [emergApply_wren]
    exact ⟨rfl, (RegsKept.refl _ s).wrI_mem (by simp [emergRegs]), wrMask_onlyDisabled _ s⟩
  · rw [emergApply_privSrc]
    exact wrI_zero_disabling (clearable_privSrc _ hk) (by simp [emergRegs]) 0 s
  · rw [emergApply_inb]
    exact wrI_zero_disabling (by decide) (by simp [emergRegs]) _ s
  · rw [emergApply_keyRange]
    exact wrI_zero_disabling (by decide) (by simp [emergRegs]) _ s
  · rw [emergApply_abandon]
    exact ⟨rfl, .refl _ s, (RegsKept.refl [] s).onlyDisabled (by simp)⟩

/-- A window that is not listed is off already. -/
theorem winsOff_named (h : Half) (s : State) (w : Nat) {ws : List Nat} (hws : w ∈ winsOn s h → w ∈ ws) :
    rdI (winsOff h ws s) (pgPalette h) R.PAL_WIN_VIEW_2_EN w = 0 := by
  rw [rdI_winsOff]
  split
  · rfl
  · next hn => exact rdI_of_not_listed fun hon => hn (hws hon)

theorem rdI_winCommit_en (h g : Half) (ws : List Nat) (s : State) (w : Nat) :
    rdI (winCommit h ws s) (pgPalette g) R.PAL_WIN_VIEW_2_EN w = rdI s (pgPalette g) R.PAL_WIN_VIEW_2_EN w :=
  (winCommit_kept h ws s).rdI _ _ _ (by cases h <;> cases g <;> decide)

/-- The mask without the bits of another. -/
theorem testBit_mask_cleared (x m : Nat) {i : Nat} (hi : i < 64) :
    ((x ^^^ (x &&& m)) % 2 ^ 64).testBit i = (x.testBit i && !m.testBit i) := by
  rw [Nat.testBit_mod_two_pow, Nat.testBit_xor, Nat.testBit_and]
  cases x.testBit i <;> cases m.testBit i <;> simp [hi]

theorem emergApply_done {op : Nat} (h1 : 1 ≤ op) (h7 : op ≤ 7) (tg : BitVec 11) (s : State) :
    EmergDone op tg s (emergApply op tg.toNat (rd s pgProtect R.PR_EMERG_MASK) s) := by
  refine ⟨?_, ?_, ?_, ?_, ?_, ?_⟩
  · rintro rfl
    rw [emergApply_wins _ _ _ (.inl rfl), rdI_winCommit_en]
    exact winsOff_named _ s _ fun hon => List.mem_filter.mpr ⟨hon, by simp⟩
  · rintro rfl w
    rw [emergApply_wins _ _ _ (.inr rfl), rdI_winCommit_en]
    exact winsOff_named _ s _ id
  · rintro rfl i hi
    rw [emergApply_wren, rd_wr_self]
    exact testBit_mask_cleared _ _ hi
  · rintro rfl
    rw [emergApply_privSrc, rd_wr_self, Nat.zero_mod]
  · rintro rfl
    rw [emergApply_inb, rdI_wrI_self, Nat.zero_mod]
  · rintro rfl
    rw [emergApply_keyRange, rdI_wrI_self, Nat.zero_mod]

/-! The journalled step, EPOCH, the count and the event (R532, R540). -/

/-- The step of an emergency operation journalled (R540). -/
def emergJournalled (op : Nat) (s : State) : State :=
  if emergBoth op then jrnlBoth ((leadHalf s).getD .west) s else jrnl ((leadHalf s).getD .west) s

theorem emergJournalled_step (op : Nat) (s : State) : JournalStep s (emergJournalled op s) := by
  unfold emergJournalled
  split
  · exact jrnlBoth_step _ s
  · exact jrnl_step _ s

theorem emergJournalled_pageKept {P : Nat} (hP : ∀ g, pgEasel g ≠ P) (op : Nat) (s : State) :
    PageKept P s (emergJournalled op s) :=
  .ite ((jrnl_pageKept s hP _).trans (jrnl_pageKept _ hP _)) (jrnl_pageKept s hP _)

theorem pgEasel_ne_guarded (g : Half) : ∀ P ∈ guardedPages, pgEasel g ≠ P := by cases g <;> decide

theorem pgEasel_ne_protect (g : Half) : pgEasel g ≠ pgProtect := by cases g <;> decide

theorem emergJournalled_disabled (op : Nat) (s : State) : OnlyDisabled s (emergJournalled op s) :=
  fun P hP f _ i => .inl (emergJournalled_pageKept (fun g => pgEasel_ne_guarded g P hP) op s f i)

/-- EPOCH one up, the operation counted and EMERG_USED raised (R540). -/
def emergCounted (s : State) : State := raise pgProtect 6 (bump pgProtect R.PROTECT_CNT_EMERG (epochUp s))

theorem emergCounted_only (s : State) : emergCounted s = { s with
    regs := (emergCounted s).regs, strikes := (emergCounted s).strikes } := by
  rw [emergCounted, raise_only, bump_only]
  rfl

theorem emergCounted_kept (s : State) : RegsKept ([(pgProtect, R.PR_EPOCH.off), (pgProtect, R.PROTECT_CNT_EMERG.off)] ++
    evtRegs pgProtect) s (emergCounted s) :=
  (((RegsKept.refl _ s).wrI_mem (by simp)).bump_mem (by simp)).raise_mem (by simp [evtRegs])

theorem epoch_emergCounted (s : State) : epoch (emergCounted s) = (epoch s + 1) % 2 ^ 32 := by
  rw [epoch, emergCounted, rd_raise_off _ _ _ _ (by decide), bump, rd_bumpBy_off _ _ _ _ (by decide), epochUp, rd_wr_self]
  rfl

theorem cntEmerg_emergCounted (s : State) : rd (emergCounted s) pgProtect R.PROTECT_CNT_EMERG =
    rd (bump pgProtect R.PROTECT_CNT_EMERG s) pgProtect R.PROTECT_CNT_EMERG := by
  rw [emergCounted, rd_raise_off _ _ _ _ (by decide)]
  exact rd_bump_congr (rd_wr_place _ _ _ _ (by decide)) (rd_wr_place _ _ _ _ (by decide))

/-! The end of a proposal other than by a commit (R535). -/

/-- The registers of the proposal that an end clears. -/
def proposalRegs : List (Nat × Nat) :=
  [(pgProtect, R.PR_STAT_STATE.off), (pgProtect, R.PR_DIGEST.off), (pgProtect, R.PR_DEADLINE.off)]

/-- The registers that such an end touches. -/
def prEndRegs : List (Nat × Nat) := proposalRegs ++ [(pgProtect, R.PROTECT_CNT_EXPIRED.off)] ++ evtRegs pgProtect

section
variable {c : Nat}

theorem prEnd_eq (hc : c ≠ 0) (s : State) : prEnd c s = raise pgProtect 2 (bump pgProtect R.PROTECT_CNT_EXPIRED
    (wr pgProtect R.PR_STAT_END_CAUSE c (prEmpty s))) := if_neg hc

/-- The fields of the proposal that an end clears. -/
def proposalFlds : List Fld :=
  [R.PR_DEADLINE, R.PR_DIGEST, R.PR_STAT_CONF_FM, R.PR_STAT_CONF_SP, R.PR_STAT_ENTRIES, R.PR_STAT_OPENER, R.PR_STAT_STATE]

theorem prEmpty_eq (s : State) : prEmpty s =
    protMod (fun p => { p with entries := [], epoch := 0 }) (clearAll pgProtect proposalFlds s) := rfl

theorem prEmpty_kept (s : State) : RegsKept proposalRegs s (prEmpty s) := by
  rw [prEmpty_eq]
  exact ((clearAll_kept pgProtect proposalFlds s).mono (by decide)).trans (.of_eq rfl)

/-- The proposal area emptied with the cause of its end. -/
def prClosed (c : Nat) (s : State) : State := wr pgProtect R.PR_STAT_END_CAUSE c (prEmpty s)

theorem prClosed_only (s : State) : prClosed c s = { s with
    regs := (prClosed c s).regs, prot := { s.prot with entries := [], epoch := 0 } } := by
  rw [prClosed, prEmpty_eq, clearAll_only]
  rfl

theorem prEnd_kept (hc : c ≠ 0) (s : State) : RegsKept prEndRegs s (prEnd c s) := by
  rw [prEnd_eq hc]
  exact ((((prEmpty_kept s).mono (by decide)).wrI_mem (by decide)).bump_mem (by decide)).raise_mem (by decide)

theorem prEnd_only (hc : c ≠ 0) (s : State) : prEnd c s = { s with
    regs := (prEnd c s).regs, strikes := (prEnd c s).strikes, prot := { s.prot with entries := [], epoch := 0 } } := by
  have heq : prEnd c s = raise pgProtect 2 (bump pgProtect R.PROTECT_CNT_EXPIRED (prClosed c s)) := prEnd_eq hc s
  rw [heq, raise_only, bump_only, prClosed_only]

theorem prState_prEnd (hc : c ≠ 0) (s : State) : prState (prEnd c s) = 0 := by
  rw [prEnd_eq hc, prState, rd_raise_off _ _ _ _ (by decide), bump, rd_bumpBy_off _ _ _ _ (by decide),
    rd_wr_place _ _ _ _ (by decide), prEmpty_eq]
  exact rd_clearAll_self pgProtect proposalFlds s _ (by decide) (by decide)

theorem endCause_prEnd (hc : c ≠ 0) (h8 : c < 8) (s : State) : rd (prEnd c s) pgProtect R.PR_STAT_END_CAUSE = c := by
  rw [prEnd_eq hc, rd_raise_off _ _ _ _ (by decide), bump, rd_bumpBy_off _ _ _ _ (by decide), rd_wr_self]
  exact Nat.mod_eq_of_lt h8

theorem ended_prEnd (hc : c ≠ 0) (s : State) : (rd (prEnd c s) pgProtect R.EVT_RAW).testBit 2 = true := by
  rw [prEnd_eq hc]
  exact evtRaw_raise_self _ _ (by decide)

theorem evtRaw_prEnd_keeps (hc : c ≠ 0) {k : Nat} (hk : k < 64) {s : State}
    (h : (rd s pgProtect R.EVT_RAW).testBit k = true) : (rd (prEnd c s) pgProtect R.EVT_RAW).testBit k = true := by
  rw [prEnd_eq hc]
  refine evtRaw_raise_keeps hk ?_
  rw [bump, rd_bumpBy_off _ _ _ _ (by decide), rd_wr_place _ _ _ _ (by decide),
    (prEmpty_kept s).rd _ _ (by decide)]
  exact h

end

/-! An operation carried out (R539, R540). -/

/-- The proposal after an operation: OP 7 ends any, the others one that is SEALED (R535). -/
def emergEnded (op st : Nat) (s : State) : State :=
  if op = 7 then if st ≠ 0 then prEnd 2 s else s else if st = 2 then prEnd 3 s else s

/-- An operation on the way: its step journalled, its target disabled, the operation counted. -/
def emergTaken (op tg mask : Nat) (s : State) : State := emergCounted (emergApply op tg mask (emergJournalled op s))

theorem emergDo_eq (op tg mask : Nat) (s : State) :
    emergDo op tg mask s = emergEnded op (prState s) (emergTaken op tg mask s) := rfl

theorem emergEnded_stays {op st : Nat} (h : if op = 7 then st = 0 else st ≠ 2) (s : State) : emergEnded op st s = s := by
  unfold emergEnded
  by_cases hop : op = 7 <;> simp_all

theorem emergEnded_ends {op st : Nat} (h : if op = 7 then st ≠ 0 else st = 2) (s : State) :
    emergEnded op st s = prEnd (if op = 7 then 2 else 3) s := by
  unfold emergEnded
  by_cases hop : op = 7 <;> simp_all

/-- What an operation does, the proposal apart. -/
structure EmergCarried (op : Nat) (tg : BitVec 11) (s t : State) : Prop where
  done : EmergDone op tg s t
  epoch : epoch t = (epoch s + 1) % 2 ^ 32
  used : (rd t pgProtect R.EVT_RAW).testBit 6 = true
  counted : rd t pgProtect R.PROTECT_CNT_EMERG = rd (bump pgProtect R.PROTECT_CNT_EMERG s) pgProtect R.PROTECT_CNT_EMERG
  disabled : OnlyDisabled s t
  rest : t.stnMode = s.stnMode ∧ t.fw = s.fw ∧ t.out = s.out ∧ t.pending = s.pending

section
variable {op : Nat} {tg : BitVec 11} {s t u v : State}

/-- What an operation disables stays disabled where only registers of the PROTECT page beside the mask change. -/
theorem EmergDone.of_kept {ex : List (Nat × Nat)} (hd : EmergDone op tg u t) (hu : PageKept pgProtect s u)
    (ht : RegsKept ex t v) (hex : ∀ p ∈ ex, p.1 = pgProtect) (hm : (pgProtect, R.PR_ATN_WREN_MASK.off) ∉ ex) :
    EmergDone op tg s v := by
  obtain ⟨h1, h2, h3, h4, h5, h6⟩ := hd
  have hpage : ∀ P, P ≠ pgProtect → PageKept P t v := fun P hP => ht.page fun p hp e => hP (e.symm.trans (hex p hp))
  have hpal : ∀ h, pgPalette h ≠ pgProtect := by
    intro h
    cases h <;> decide
  have hcross : ∀ h, pgCrossing h ≠ pgProtect := by
    intro h
    cases h <;> decide
  refine ⟨fun hop => ?_, fun hop w => ?_, fun hop i hi => ?_, fun hop => ?_, fun hop => ?_, fun hop => ?_⟩
  · rw [hpage _ (hpal _), h1 hop]
  · rw [hpage _ (hpal _), h2 hop]
  · rw [ht.rd _ _ hm, h3 hop i hi, rd, hu, rd, hu]
    rfl
  · exact (hpage _ (hpal _) _ 0).trans (h4 hop)
  · rw [hpage _ (hcross _), h5 hop]
  · rw [hpage _ (by decide), h6 hop]

theorem emergRegs_protect (tg : BitVec 11) {off : Nat} (h : off ≠ R.PR_ATN_WREN_MASK.off) :
    (pgProtect, off) ∉ emergRegs tg := by
  have hpage : ∀ g, pgProtect ≠ pgPalette g ∧ pgProtect ≠ pgCrossing g ∧ pgProtect ≠ pgContexts := by
    intro g
    cases g <;> decide
  obtain ⟨hpal, hcross, hctx⟩ := hpage (emergHalf tg)
  simp [emergRegs, winRegs, evtRegs, h, hpal, hcross, hctx]

/-- A field of the PROTECT page, the write-enable mask apart, once the target is disabled. -/
theorem rd_disabled_protect (h1 : 1 ≤ op) (h7 : op ≤ 7) (m : Nat) {f : Fld} (hf : f.off ≠ R.PR_ATN_WREN_MASK.off) :
    rd (emergApply op tg.toNat m (emergJournalled op s)) pgProtect f = rd s pgProtect f :=
  ((emergApply_disabling h1 h7 tg m _).kept.rd _ _ (emergRegs_protect tg hf)).trans
    (emergJournalled_pageKept pgEasel_ne_protect op s f 0)

theorem emergTaken_step (h1 : 1 ≤ op) (h7 : op ≤ 7) (tg : BitVec 11) (m : Nat) (s : State) :
    JournalStep s (emergTaken op tg.toNat m s) := by
  have hd := (emergApply_disabling h1 h7 tg m (emergJournalled op s)).only
  refine (emergJournalled_step op s).trans ?_
  rw [JournalStep, emergTaken, emergCounted_only, hd]

theorem prState_emergTaken (h1 : 1 ≤ op) (h7 : op ≤ 7) (tg : BitVec 11) (m : Nat) (s : State) :
    prState (emergTaken op tg.toNat m s) = prState s :=
  ((emergCounted_kept _).rd _ _ (by decide)).trans (rd_disabled_protect h1 h7 m (by decide))

theorem emergTaken_carried (h1 : 1 ≤ op) (h7 : op ≤ 7) (tg : BitVec 11) (s : State) :
    EmergCarried op tg s (emergTaken op tg.toNat (rd s pgProtect R.PR_EMERG_MASK) s) := by
  have hj : PageKept pgProtect s (emergJournalled op s) := emergJournalled_pageKept pgEasel_ne_protect op s
  have hdone := emergApply_done h1 h7 tg (emergJournalled op s)
  have hdis := emergApply_disabling h1 h7 tg (rd s pgProtect R.PR_EMERG_MASK) (emergJournalled op s)
  rw [show rd (emergJournalled op s) pgProtect R.PR_EMERG_MASK = _ from hj _ 0] at hdone
  have hcount := emergCounted_kept (emergApply op tg.toNat (rd s pgProtect R.PR_EMERG_MASK) (emergJournalled op s))
  refine ⟨hdone.of_kept hj hcount (by decide) (by decide), ?_, evtRaw_raise_self _ _ (by decide), ?_, ?_, ?_⟩
  · rw [emergTaken, epoch_emergCounted, epoch, rd_disabled_protect h1 h7 _ (by decide)]
    rfl
  · rw [emergTaken, cntEmerg_emergCounted]
    exact rd_bump_congr (rd_disabled_protect h1 h7 _ (by decide)) (rd_disabled_protect h1 h7 _ (by decide))
  · exact ((emergJournalled_disabled op s).trans hdis.disabled).trans (hcount.onlyDisabled (by decide))
  · rw [show emergTaken op tg.toNat _ s = _ from emergTaken_step h1 h7 tg _ s]
    exact ⟨rfl, rfl, rfl, rfl⟩

theorem EmergCarried.prEnd {c : Nat} (hc : c ≠ 0) (h : EmergCarried op tg s u) : EmergCarried op tg s (prEnd c u) := by
  obtain ⟨hd, he, hu, hn, ho, hr⟩ := h
  have hk := prEnd_kept hc u
  refine ⟨hd.of_kept (.refl _ s) hk (by decide) (by decide), (hk.rd _ _ (by decide)).trans he,
    evtRaw_prEnd_keeps hc (by decide) hu, (hk.rd _ _ (by decide)).trans hn, ho.trans (hk.onlyDisabled (by decide)), ?_⟩
  rw [prEnd_only hc]
  exact hr

/-- How the proposal stands after an operation (R535). -/
theorem emergDo_ends (h1 : 1 ≤ op) (h7 : op ≤ 7) (tg : BitVec 11) (s : State) (ht : t = emergDo op tg.toNat
    (rd s pgProtect R.PR_EMERG_MASK) s) :
    EmergCarried op tg s t ∧ prState t = (if op = 7 ∨ prState s = 2 then 0 else prState s) ∧
      (prState s = 2 → op ≠ 7 → rd t pgProtect R.PR_STAT_END_CAUSE = 3) ∧
      (prState s ≠ 0 → op = 7 → rd t pgProtect R.PR_STAT_END_CAUSE = 2) ∧
      ((op = 7 ∨ prState s = 2) → prState s ≠ 0 → t.prot.entries = [] ∧ (rd t pgProtect R.EVT_RAW).testBit 2 = true) ∧
      (op ≠ 7 → prState s ≠ 2 → t.prot = s.prot) := by
  have hcar := emergTaken_carried h1 h7 tg s
  have hst := prState_emergTaken h1 h7 tg (rd s pgProtect R.PR_EMERG_MASK) s
  have hprot : (emergTaken op tg.toNat (rd s pgProtect R.PR_EMERG_MASK) s).prot = s.prot := by
    rw [show emergTaken op tg.toNat _ s = _ from emergTaken_step h1 h7 tg _ s]
  rw [emergDo_eq] at ht
  by_cases hend : if op = 7 then prState s ≠ 0 else prState s = 2
  · have hc : (if op = 7 then 2 else 3) ≠ 0 := by split <;> decide
    rw [emergEnded_ends hend] at ht
    subst ht
    have hcause := endCause_prEnd hc (by split <;> decide) (emergTaken op tg.toNat (rd s pgProtect R.PR_EMERG_MASK) s)
    refine ⟨hcar.prEnd hc, ?_, fun _ hop => ?_, fun _ hop => ?_, fun _ _ => ⟨?_, ended_prEnd hc _⟩, fun hop hs => ?_⟩
    · rw [prState_prEnd hc, if_pos]
      by_cases hop : op = 7
      · exact .inl hop
      · exact .inr (by simpa [hop] using hend)
    · rw [hcause, if_neg hop]
    · rw [hcause, if_pos hop]
    · rw [prEnd_only hc]
    · exact absurd (by simpa [hop] using hend) hs
  · have hstay : if op = 7 then prState s = 0 else prState s ≠ 2 := by
      by_cases hop : op = 7 <;> simp_all
    rw [emergEnded_stays hstay] at ht
    subst ht
    refine ⟨hcar, ?_, fun hs hop => ?_, fun hs hop => ?_, fun ho hs => ?_, fun _ _ => hprot⟩
    · rw [hst]
      by_cases hop : op = 7 <;> simp_all
    · exact absurd hs (by simpa [hop] using hstay)
    · exact absurd (by simpa [hop] using hstay) hs
    · by_cases hop : op = 7 <;> simp_all

end

/-! The pin and the register PR_EMERG (R539). -/

theorem emergAssert_asserts {s : State} (hup : s.boot.keeperUp = true) :
    Ends .emergAssert s (fun t => rd t pgProtect R.PR_EMERG_STAT_ASSERTED = 1 ∧
      t = { s with regs := t.regs, keeper := { s.keeper with emergN := true } } ∧
      RegsKept [(pgProtect, R.PR_EMERG_STAT_ASSERTED.off)] s t) :=
  ends_done (congrArg done (if_pos hup)) ⟨rd_wr_self _ _ _ _, rfl, wr_kept pgProtect R.PR_EMERG_STAT_ASSERTED _ _⟩

theorem emergRelease_clears {s : State} (hup : s.boot.keeperUp = true) :
    Ends .emergRelease s (fun t => rd t pgProtect R.PR_EMERG_STAT_ASSERTED = 0 ∧ rd t pgProtect R.PR_EMERG_MASK = 0 ∧
      t = { s with regs := t.regs, keeper := { s.keeper with emergN := false } } ∧
      RegsKept [(pgProtect, R.PR_EMERG_STAT_ASSERTED.off), (pgProtect, R.PR_EMERG_MASK.off)] s t) := by
  refine ends_done (congrArg done (if_pos hup)) ⟨?_, rd_wr_self _ _ _ _, rfl, ?_⟩
  · exact (rd_wr_place _ _ _ _ (by decide)).trans (rd_wr_self _ _ _ _)
  · exact ((RegsKept.of_eq (s := s) rfl).wrI_mem (P := pgProtect) (by simp)).wrI_mem (by simp)

section
variable {s : State} {p : Path}

theorem emergMask_stores (he : s.keeper.emergN = true) (v : Nat) :
    emergMask v .pcie s = wr pgProtect R.PR_EMERG_MASK v s := if_neg (by simp [he])

theorem emergMask_refused (h : s.keeper.emergN = false ∨ p ≠ .pcie) (v : Nat) :
    emergMask v p s = cfgReject pgProtect R.PR_EMERG_MASK.off 3 .live (some p) s := if_pos (by simpa using h)

theorem emergOp_refused (h : s.keeper.emergN = false ∨ p ≠ .pcie) (op tg : Nat) :
    emergOp op tg p s = cfgReject pgProtect R.PR_EMERG_OP.off 3 .live (some p) s := if_pos (by simpa using h)

theorem emergOp_accepted {op : Nat} (he : s.keeper.emergN = true) (h1 : 1 ≤ op) (h7 : op ≤ 7) (tg : Nat) :
    emergOp op tg .pcie s = if (leadHalf s).isNone then s
      else if emergBoth op && !xstepOk s then
        protMod (fun p => { p with emerg := p.emerg ++ [(op, tg, rd s pgProtect R.PR_EMERG_MASK)] }) s
      else emergDo op tg (rd s pgProtect R.PR_EMERG_MASK) s := by
  unfold emergOp
  rw [if_neg (by simp [he]), if_neg (by omega)]

theorem exec_emergOp {tg : BitVec 11} {c : Instr} {op : Nat} (hc : EmergOps tg p c op) (s : State) :
    (1 ≤ op ∧ op ≤ 7) ∧ exec c s = .next (emergOp op tg.toNat p (unlatched pgProtect s)) := by
  have hl := pageLive_of_global (P := pgProtect) rfl s
  obtain ⟨rfl, rfl⟩ | ⟨rfl, rfl⟩ | ⟨rfl, rfl⟩ | ⟨rfl, rfl⟩ | ⟨rfl, rfl⟩ | ⟨rfl, rfl⟩ | ⟨rfl, rfl⟩ := hc
  all_goals exact ⟨by omega, exec_onPage_live hl rfl⟩

end

/-- Settles O53: the pin and the mask by one write each; an operation by its refusals in order, and, once accepted, by the
disabling change carried through the count and the end of the proposal. -/
theorem theEmergencyPathOnlyDisables : Obligations.TheEmergencyPathOnlyDisables := by
  unfold Obligations.TheEmergencyPathOnlyDisables
  refine ⟨fun s => ⟨fun hup => ⟨emergAssert_asserts hup, emergRelease_clears hup⟩, fun hdown => ⟨?_, ?_⟩⟩,
    fun s v p => ⟨fun he => ?_, fun h => ?_⟩, fun s tg p c op hc => ?_⟩
  · exact congrArg done (if_neg (by simp [hdown]))
  · exact congrArg done (if_neg (by simp [hdown]))
  · have hx : exec (.prEmergWrite v .pcie) s = .next (emergMask v.toNat .pcie (unlatched pgProtect s)) :=
      exec_onPage_live (pageLive_of_global rfl s) rfl
    rw [emergMask_stores (s := unlatched pgProtect s) he] at hx
    exact ⟨_, hx, (rd_wr_self _ _ _ _).trans (Nat.mod_eq_of_lt v.isLt), rfl, wr_kept pgProtect R.PR_EMERG_MASK _ _⟩
  · have hx : exec (.prEmergWrite v p) s = .next (emergMask v.toNat p (unlatched pgProtect s)) :=
      exec_onPage_live (pageLive_of_global rfl s) rfl
    rw [emergMask_refused (s := unlatched pgProtect s) h] at hx
    exact ends_refused hx
  · obtain ⟨⟨h1, h7⟩, hx⟩ := exec_emergOp hc s
    refine ⟨fun h => ?_, fun he hp hlead => ?_, fun he hp hlead hop hspan => ?_, fun he hp hlead hspan => ?_⟩
    · rw [emergOp_refused (s := unlatched pgProtect s) h] at hx
      exact ends_refused hx
    all_goals
      subst hp
      rw [emergOp_accepted (s := unlatched pgProtect s) he h1 h7] at hx
    · rw [if_pos (by rw [show leadHalf (unlatched pgProtect s) = none from hlead]; rfl)] at hx
      exact ⟨_, hx, rfl⟩
    · have hsome : ¬ (leadHalf (unlatched pgProtect s)).isNone = true := fun hn => hlead (Option.isNone_iff_eq_none.mp hn)
      have hwait : (emergBoth op && !xstepOk (unlatched pgProtect s)) = true := by
        rw [show xstepOk (unlatched pgProtect s) = false from hspan]
        rcases hop with rfl | rfl <;> rfl
      rw [if_neg hsome, if_pos hwait] at hx
      exact ⟨_, hx, rfl, rfl⟩
    · have hsome : ¬ (leadHalf (unlatched pgProtect s)).isNone = true := fun hn => hlead (Option.isNone_iff_eq_none.mp hn)
      have hgo : ¬ (emergBoth op && !xstepOk (unlatched pgProtect s)) = true := by
        intro hw
        simp only [emergBoth, Bool.and_eq_true, Bool.or_eq_true, beq_iff_eq, Bool.not_eq_true'] at hw
        exact absurd ((hspan hw.1).symm.trans hw.2) (by decide)
      rw [if_neg hsome, if_neg hgo] at hx
      obtain ⟨⟨hdone, hepoch, hused, hcount, hdis, hstn, hfw, hout, hpend⟩, hst, hstale, haband, hend, hprot⟩ :=
        emergDo_ends h1 h7 tg (unlatched pgProtect s) rfl
      exact ⟨_, hx, hdone, hepoch, hused, hcount.trans (rd_bump_congr rfl rfl), hst, hstale, haband, hend, hprot,
        hdis, hstn, hfw, hout, hpend⟩

end Sys2Proof.Machine
end

section
/-!
SUPPORT. Carves, FORMAT and the service bit of Easel: what a carve writes, what the tables of the lights and the journals
take of it, and what refusals leave (R364-R366, R369, R396).
-/
namespace Sys2Proof.Machine

/-! What a refusal may touch (R500, R501). -/

/-- The registers of a refusal on page `P`. -/
def rejectRegs (P : Nat) : List (Nat × Nat) :=
  [(P, R.ERRLOG_HEAD.off), (P, R.CLASS_STAT_REJECTS.off), (pgGlobal, R.GLOBAL_CNT_CFG_REJECT.off),
    (pgGlobal, R.GL_CFG_LAST_PAGE.off), (pgGlobal, R.GL_CFG_LAST_OFFSET.off), (pgGlobal, R.GL_CFG_LAST_CAUSE.off),
    (pgGlobal, R.GL_CFG_LAST_PATH.off), (pgGlobal, R.GL_CFG_LAST_TIME.off)] ++ evtRegs pgGlobal

theorem cfgReject_kept (P off cause : Nat) (cls : FCls) (p : Option Path) (s : State) :
    RegsKept (rejectRegs P) s (cfgReject P off cause cls p s) := by
  unfold cfgReject
  extract_lets t payload s1 s2 s3 s4 s5
  have h2 : RegsKept (rejectRegs P) s s2 := RegsKept.wrI_mem (.of_eq rfl) (by simp [rejectRegs])
  have h4 : RegsKept (rejectRegs P) s s4 := (h2.wrI_mem (by simp [rejectRegs])).bump_mem (by simp [rejectRegs])
  have h5 : RegsKept (rejectRegs P) s s5 := by
    unfold s5 wr
    iterate 5 refine RegsKept.wrI_mem ?_ (by simp [rejectRegs])
    exact h4
  split
  · exact h2
  · exact h5.raise_mem (by simp [rejectRegs, evtRegs])

/-! Fields of one page written one after another. -/

/-- Fields written in the order of a list. -/
def wrAll (P : Nat) (l : List (Fld × Nat)) (s : State) : State := l.foldl (fun t x => wr P x.1 x.2 t) s

theorem rd_wrAll_other {P : Nat} {g : Fld} {l : List (Fld × Nat)}
    (hg : (g.off, g.lo) ∉ (l.map Prod.fst).map (fun f => (f.off, f.lo))) (s : State) : rd (wrAll P l s) P g = rd s P g := by
  induction l generalizing s with
  | nil => rfl
  | cons x r ih =>
    simp only [List.map_cons, List.mem_cons, not_or] at hg
    obtain ⟨hx, hr⟩ := hg
    exact (ih hr _).trans (rd_wr_place _ _ _ _ hx)

theorem rd_wrAll {P : Nat} {l : List (Fld × Nat)} (hn : ((l.map Prod.fst).map (fun f => (f.off, f.lo))).Nodup)
    (s : State) {x : Fld × Nat} (hx : x ∈ l) : rd (wrAll P l s) P x.1 = x.2 % 2 ^ x.1.w := by
  induction l generalizing s with
  | nil => simp at hx
  | cons y r ih =>
    simp only [List.map_cons, List.nodup_cons] at hn
    obtain ⟨hy, hr⟩ := hn
    rcases List.mem_cons.mp hx with rfl | hx
    · exact (rd_wrAll_other hy _).trans (rd_wr_self _ _ _ _)
    · exact ih hr _ hx

theorem wrAll_kept {P : Nat} {ex : List (Nat × Nat)} {l : List (Fld × Nat)} (h : ∀ f ∈ l.map Prod.fst, (P, f.off) ∈ ex)
    (s : State) : RegsKept ex s (wrAll P l s) := by
  induction l generalizing s with
  | nil => exact .refl ex s
  | cons x r ih =>
    simp only [List.map_cons, List.mem_cons, forall_eq_or_imp] at h
    exact ((RegsKept.refl ex s).wrI_mem h.1).trans (ih h.2 _)

theorem wrAll_only (P : Nat) (l : List (Fld × Nat)) (s : State) : wrAll P l s = { s with regs := (wrAll P l s).regs } := by
  induction l generalizing s with
  | nil => rfl
  | cons x r ih =>
    refine (ih _).trans ?_
    rfl

/-! A carve put in force (R364, R365). -/

theorem carvePut_eq (c : List Nat) (s : State) : carvePut c s = wrAll pgEaselG (carveFlds.zip c) s := rfl

theorem carveFlds_zip (n : Nat) : (carveFlds.zip (carveOf n)).map Prod.fst = carveFlds := rfl

theorem carveOf_fits (n : Nat) : ∀ x ∈ carveFlds.zip (carveOf n), x.2 % 2 ^ x.1.w = x.2 := by
  intro x hx
  simp only [carveFlds, carveOf, List.zip_cons_cons, List.zip_nil_right, List.mem_cons, List.not_mem_nil, or_false] at hx
  obtain rfl | rfl | rfl | rfl | rfl | rfl | rfl := hx
  all_goals exact Nat.mod_mod _ _

theorem carvePut_fields (n : Nat) (s : State) : carveFlds.map (rd (carvePut (carveOf n) s) pgEaselG) = carveOf n := by
  have hput : ∀ x ∈ carveFlds.zip (carveOf n), rd (carvePut (carveOf n) s) pgEaselG x.1 = x.2 := fun x hx =>
    (rd_wrAll (by rw [carveFlds_zip]; decide) s hx).trans (carveOf_fits n x hx)
  calc carveFlds.map (rd (carvePut (carveOf n) s) pgEaselG)
      = (carveFlds.zip (carveOf n)).map (fun x => rd (carvePut (carveOf n) s) pgEaselG x.1) := rfl
    _ = (carveFlds.zip (carveOf n)).map Prod.snd := List.map_congr_left hput
    _ = carveOf n := rfl

theorem carvePut_kept (n : Nat) (s : State) : RegsKept [(pgEaselG, R.EZG_CARVE_NAME_LOG2.off)] s (carvePut (carveOf n) s) :=
  wrAll_kept (by rw [carveFlds_zip]; decide) s

/-- The carve `n` in force, CAUSE 0, CARVE_GEN one up (R365). -/
def carveTaken (n : Nat) (s : State) : State := genUp (wr pgEaselG R.EZG_STAT_CAUSE 0 (carvePut (carveOf n) s))

theorem carveTaken_only (n : Nat) (s : State) : carveTaken n s = { s with regs := (carveTaken n s).regs } := by
  rw [carveTaken, carvePut_eq, wrAll_only]
  rfl

theorem rd_genUp (s : State) : rd (genUp s) pgEaselG R.EZG_STAT_CARVE_GEN =
    (rd s pgEaselG R.EZG_STAT_CARVE_GEN + 1) % 2 ^ 32 := rd_wr_self _ _ _ _

theorem rd_genUp_other {f : Fld} (hf : (f.off, f.lo) ≠ (R.EZG_STAT_CARVE_GEN.off, R.EZG_STAT_CARVE_GEN.lo)) (s : State) :
    rd (genUp s) pgEaselG f = rd s pgEaselG f := rd_wr_place _ _ _ _ hf

theorem carveTaken_gen (n : Nat) (s : State) : rd (carveTaken n s) pgEaselG R.EZG_STAT_CARVE_GEN =
    (rd s pgEaselG R.EZG_STAT_CARVE_GEN + 1) % 2 ^ 32 := by
  rw [carveTaken, rd_genUp, rd_wr_place _ _ _ _ (by decide), (carvePut_kept n s).rd _ _ (by decide)]

theorem carveTaken_cause (n : Nat) (s : State) : rd (carveTaken n s) pgEaselG R.EZG_STAT_CAUSE = 0 := by
  rw [carveTaken, rd_genUp_other (by decide), rd_wr_self, Nat.zero_mod]

theorem carveFlds_off : ∀ f ∈ carveFlds, f.off = R.EZG_CARVE_NAME_LOG2.off := by decide

/-- The carve is the same where the register EZG_CARVE is. -/
theorem carve_congr {ex : List (Nat × Nat)} {s t : State} (h : RegsKept ex s t)
    (hex : (pgEaselG, R.EZG_CARVE_NAME_LOG2.off) ∉ ex) : carveFlds.map (rd t pgEaselG) = carveFlds.map (rd s pgEaselG) :=
  List.map_congr_left fun f hf => h.rd _ _ (by rw [carveFlds_off f hf]; exact hex)

theorem carveTaken_carve (n : Nat) (s : State) : carveFlds.map (rd (carveTaken n s) pgEaselG) = carveOf n := by
  have hcause : RegsKept [(pgEaselG, R.EZG_STAT_CARVE_GEN.off)] (carvePut (carveOf n) s) (carveTaken n s) :=
    ((RegsKept.refl _ _).wrI_mem (by decide)).wrI_mem (by decide)
  exact (carve_congr hcause (by decide)).trans (carvePut_fields n s)

/-! What the tables of the lights and the journals take (R366, R369, R381). -/

/-- `t` is `s` but for tables of lights, journals, events, and registers of other pages than EASEL_G. -/
structure TableStep (s t : State) : Prop where
  only : t = { s with
    regs := t.regs, strikes := t.strikes, freeSeq := t.freeSeq, jrnl := t.jrnl
    objs := { s.objs with lights := t.objs.lights } }
  page : PageKept pgEaselG s t

section
variable {s t u : State}

theorem TableStep.refl (s : State) : TableStep s s := ⟨rfl, .refl _ s⟩

theorem TableStep.trans (h1 : TableStep s t) (h2 : TableStep t u) : TableStep s u := by
  refine ⟨?_, h1.page.trans h2.page⟩
  have e2 := h2.only
  rw [h1.only] at e2
  exact e2

theorem TableStep.ite {p : Prop} [Decidable p] (ht : TableStep s t) (hu : TableStep s u) :
    TableStep s (if p then t else u) := by
  split
  · exact ht
  · exact hu

theorem foldl_tableStep {f : State → Nat → State} (hf : ∀ t l, TableStep t (f t l)) (ls : List Nat) (s : State) :
    TableStep s (ls.foldl f s) := by
  induction ls generalizing s with
  | nil => exact .refl s
  | cons l r ih => exact (hf s l).trans (ih _)

theorem TableStep.quiet (h : TableStep s t) : quiet t = quiet s := by
  rw [h.only]
  exact quiet_congr _ _ rfl rfl rfl rfl rfl rfl rfl rfl

end

theorem pgPlace_ne_easelG (h : Half) : pgPlace h ≠ pgEaselG := by cases h <;> decide

theorem pgEasel_ne_easelG (h : Half) : pgEasel h ≠ pgEaselG := by cases h <;> decide

theorem plPut_tableStep (l : Nat) (f : Fld) (v : Nat) (s : State) : TableStep s (plPut l f v s) :=
  ⟨rfl, wrI_pageKept s (pgPlace_ne_easelG _) f l v⟩

theorem pltMod_tableStep (l : Nat) (f : PLight → PLight) (s : State) : TableStep s (pltMod l f s) := ⟨rfl, .of_eq rfl⟩

theorem raiseEasel_tableStep (h : Half) (b : Nat) (s : State) : TableStep s (raise (pgEasel h) b s) :=
  ⟨by rw [raise_only], raise_pageKept s (pgEasel_ne_easelG h) b⟩

theorem JournalStep.tableStep {s t : State} (h : JournalStep s t) (hp : PageKept pgEaselG s t) : TableStep s t :=
  ⟨by rw [show t = _ from h], hp⟩

theorem jrnlBoth_tableStep (h : Half) (s : State) : TableStep s (jrnlBoth h s) :=
  (jrnlBoth_step h s).tableStep
    ((jrnl_pageKept s pgEasel_ne_easelG h.twin).trans (jrnl_pageKept _ pgEasel_ne_easelG h))

theorem giveTable_tableStep (s : State) (l : Nat) : TableStep s (giveTable s l) := by
  unfold giveTable
  extract_lets h
  refine .ite ?_ (.refl s)
  split
  · exact pltMod_tableStep _ _ s
  · exact (plPut_tableStep _ _ _ s).trans (raiseEasel_tableStep _ _ _)

theorem formatLight_tableStep (s : State) (l : Nat) : TableStep s (formatLight s l) :=
  (TableStep.ite (plPut_tableStep _ _ _ s) (.refl s)).trans ((pltMod_tableStep _ _ _).trans (plPut_tableStep _ _ _ _))

/-! A write of EZG_CARVE (R365). -/

/-- The carve in force. -/
def carveNow (s : State) : List Nat := carveFlds.map (rd s pgEaselG)

section
variable {s : State} {n : Nat}

theorem carveCause_eq (c : List Nat) : carveCause s c = if carveOk s c = false then some 2
    else if carveBusy s = true then some 4
    else if c.take 3 ≠ (carveNow s).take 3 ∧ carveHolds s = true then some 5 else none := by
  simp only [carveCause, carveNow, Bool.not_eq_true', Bool.and_eq_true, decide_eq_true_eq]
  rfl

theorem carveCause_refuses {k : Nat} (h : carveOk s (carveOf n) = false ∧ k = 2 ∨
    carveOk s (carveOf n) = true ∧ carveBusy s = true ∧ k = 4 ∨
    carveOk s (carveOf n) = true ∧ carveBusy s = false ∧
      (carveOf n).take 3 ≠ (carveNow s).take 3 ∧ carveHolds s = true ∧ k = 5) :
    carveCause s (carveOf n) = some k := by
  rw [carveCause_eq]
  obtain ⟨hok, rfl⟩ | ⟨hok, hbusy, rfl⟩ | ⟨hok, hbusy, hsize, hholds, rfl⟩ := h
  · rw [if_pos hok]
  · rw [if_neg (by simp [hok]), if_pos hbusy]
  · rw [if_neg (by simp [hok]), if_neg (by simp [hbusy]), if_pos ⟨hsize, hholds⟩]

theorem carveCause_none (hok : carveOk s (carveOf n) = true) (hbusy : carveBusy s = false)
    (h : (carveOf n).take 3 = (carveNow s).take 3 ∨ carveHolds s = false) : carveCause s (carveOf n) = none := by
  rw [carveCause_eq, if_neg (by simp [hok]), if_neg (by simp [hbusy]), if_neg]
  rintro ⟨hsize, hholds⟩
  rcases h with h | h
  · exact hsize h
  · exact absurd hholds (by simp [h])

theorem wrAll_unlatched (P Q : Nat) (l : List (Fld × Nat)) (s : State) :
    wrAll P l (unlatched Q s) = unlatched Q (wrAll P l s) := by
  induction l generalizing s with
  | nil => rfl
  | cons x r ih => exact ih (wr P x.1 x.2 s)

theorem carveOk_unlatched (P : Nat) (c : List Nat) (s : State) : carveOk (unlatched P s) c = carveOk s c := by
  unfold carveOk
  rw [carvePut_eq, carvePut_eq, wrAll_unlatched]
  rfl

theorem carveCause_unlatched (P : Nat) (c : List Nat) (s : State) : carveCause (unlatched P s) c = carveCause s c := by
  rw [carveCause_eq, carveCause_eq, carveOk_unlatched]
  rfl

theorem carveWrite_serving (p : Path) (hs : rdB s pgEaselG R.EZG_CTRL_SVC = true) :
    carveWrite n p s = cfgReject pgEaselG R.EZG_CARVE_NAME_LOG2.off 1 .stopped (some p) s := if_pos hs

theorem carveWrite_refused {k : Nat} (p : Path) (hs : rdB s pgEaselG R.EZG_CTRL_SVC = false)
    (hc : carveCause s (carveOf n) = some k) : carveWrite n p s =
      cfgReject pgEaselG R.EZG_CARVE_NAME_LOG2.off 3 .stopped (some p) (wr pgEaselG R.EZG_STAT_CAUSE k s) := by
  unfold carveWrite
  simp only [hs, hc, Bool.false_eq_true, if_false]

/-- Both halves' placement changed alike. -/
def plBoth (f : PlaceHalf → PlaceHalf) (s : State) : State := { s with place := ⟨f s.place.west, f s.place.east⟩ }

theorem plMod_both (f : PlaceHalf → PlaceHalf) (s : State) : plMod .east f (plMod .west f s) = plBoth f s := rfl

theorem plBoth_at (f : PlaceHalf → PlaceHalf) (s : State) (h : Half) : (plBoth f s).place.at h = f (s.place.at h) := by
  cases h <;> rfl

/-- The read cache of a half emptied (R365). -/
def uncached (x : PlaceHalf) : PlaceHalf := { x with cache := [] }

/-- A carve in force with both caches empty (R365). -/
def carveUncached (n : Nat) (s : State) : State := plBoth uncached (carveTaken n s)

theorem carveUncached_only (n : Nat) (s : State) : carveUncached n s = { s with
    regs := (carveTaken n s).regs, place := (plBoth uncached s).place } := by
  rw [carveUncached, carveTaken_only]
  rfl

theorem plBoth_tableStep {s t : State} (h : JournalStep s t) (hp : PageKept pgEaselG s t) (f : PlaceHalf → PlaceHalf) :
    TableStep (plBoth f s) (plBoth f t) := by
  refine ⟨?_, hp⟩
  rw [show t = _ from h]
  rfl

theorem carveWrite_taken (p : Path) (hs : rdB s pgEaselG R.EZG_CTRL_SVC = false)
    (hc : carveCause s (carveOf n) = none) : ∃ u, TableStep (carveUncached n s) u ∧
      carveWrite n p s = raise pgEaselG 0 u := by
  have hjrnl : TableStep (carveUncached n s) (plBoth uncached (jrnlBoth (stepHalf s) (carveTaken n s))) :=
    plBoth_tableStep (jrnlBoth_step _ _) (jrnlBoth_tableStep _ _).page _
  refine ⟨_, hjrnl.trans (foldl_tableStep giveTable_tableStep
    (boundLights (plBoth uncached (jrnlBoth (stepHalf s) (carveTaken n s)))) _), ?_⟩
  unfold carveWrite
  simp only [hs, hc, Bool.false_eq_true, if_false]
  rfl

end

/-! A state after which only tables and events follow. -/

section
variable {u v : State}

/-- A field of EASEL_G, the event registers apart, is left by tables and an event. -/
theorem TableStep.rd_raised (h : TableStep u v) (b : Nat) {f : Fld} (hf : f.off ≠ R.EVT_RAW.off ∧ f.off ≠ R.EVT_PEND.off) :
    rd (raise pgEaselG b v) pgEaselG f = rd u pgEaselG f := (rd_raise_off _ _ _ _ hf).trans (h.page f 0)

theorem TableStep.carve_raised (h : TableStep u v) (b : Nat) :
    carveFlds.map (rd (raise pgEaselG b v) pgEaselG) = carveFlds.map (rd u pgEaselG) :=
  List.map_congr_left fun f hf => h.rd_raised b (by rw [carveFlds_off f hf]; decide)

theorem TableStep.place (h : TableStep u v) : v.place = u.place := by rw [h.only]

theorem TableStep.easel (h : TableStep u v) : v.easel = u.easel := by rw [h.only]

theorem TableStep.names (h : TableStep u v) : v.objs.names = u.objs.names := by rw [h.only]

theorem TableStep.writes (h : TableStep u v) : v.objs.writes = u.objs.writes := by rw [h.only]

theorem TableStep.stripes (h : TableStep u v) : v.objs.stripes = u.objs.stripes := by rw [h.only]

end

/-! EZG_CMD FORMAT (R366). -/

/-- The names, writes and stripes that FORMAT leaves: none. -/
def unnamed (o : Objects) : Objects :=
  { o with names := [], compactAt := 0, compacting := false, writes := [], stripes := [], plans := [] }

/-- The placement that FORMAT leaves of a half. -/
def unplaced (x : PlaceHalf) : PlaceHalf := { x with
  map := [], cache := [], fills := [], lost := [], lostOwed := [], repairs := [], sweep := false, badNames := [] }

section
variable {s : State} {gen : Nat}

theorem format_refused (p : Path) (h : rdB s pgEaselG R.EZG_CTRL_SVC = true ∨ (∃ g, (s.place.at g).used ≠ []) ∨
    gen ≠ rd s pgEaselG R.EZG_STAT_CARVE_GEN) : format gen p s =
      cfgReject pgEaselG R.EZG_CMD_OP.off 3 .live (some p) (wr pgEaselG R.EZG_STAT_CAUSE 6 s) := by
  refine if_pos ?_
  rcases h with h | ⟨g, hg⟩ | h
  · simp [h]
  · cases g <;> simp [hg]
  · simp [h]

theorem format_taken (p : Path) (hs : rdB s pgEaselG R.EZG_CTRL_SVC = false) (hu : ∀ g, (s.place.at g).used = [])
    (hgen : gen = rd s pgEaselG R.EZG_STAT_CARVE_GEN) : ∃ u v, TableStep (plBoth unplaced (objMod unnamed s)) u ∧
      TableStep (genUp u) v ∧ format gen p s = raise pgEaselG 1 v := by
  refine ⟨(boundLights (plBoth unplaced (objMod unnamed s))).foldl formatLight (plBoth unplaced (objMod unnamed s)), _,
    foldl_tableStep formatLight_tableStep _ _, jrnlBoth_tableStep (stepHalf s) _, if_neg ?_⟩
  simp [hs, hu, hgen]

end

/-! The three commands (R365, R366, R396). -/

section
variable {s : State} {p : Path}

theorem pageLive_easelG (s : State) : pageLive s pgEaselG = true := pageLive_of_global rfl s

theorem exec_ezgCarveWrite (v : BitVec 64) : exec (.ezgCarveWrite v p) s =
    .next (settle (if carveOf v.toNat = carveNow s then unlatched pgEaselG s
      else carveWrite v.toNat p (unlatched pgEaselG s))) :=
  exec_onPage_live (f := fun s => settle (if carveOf v.toNat = carveNow s then s else carveWrite v.toNat p s))
    (pageLive_easelG s) rfl

theorem exec_newCarve (v : BitVec 64) (h : carveOf v.toNat ≠ carveNow s) : exec (.ezgCarveWrite v p) s =
    .next (settle (carveWrite v.toNat p (unlatched pgEaselG s))) := by
  rw [exec_ezgCarveWrite, if_neg h]

/-- A refused command of EASEL_G that sets CAUSE. -/
theorem ends_cause_refused {c : Instr} {off k : Nat} {cls : FCls} (hk : k < 16) (hq : quiet s = true)
    (hx : exec c s = .next (settle (cfgReject pgEaselG off 3 cls (some p)
      (wr pgEaselG R.EZG_STAT_CAUSE k (unlatched pgEaselG s))))) :
    Ends c s (fun t => rd t pgEaselG R.EZG_STAT_CAUSE = k ∧
      t = cfgReject pgEaselG off 3 cls (some p) (wr pgEaselG R.EZG_STAT_CAUSE k { s with woLatch := t.woLatch })) := by
  refine ends_settle hx (by rw [quiet_cfgReject, quiet_wr, quiet_unlatched, hq]) ⟨?_, ?_⟩
  · rw [(cfgReject_kept _ _ _ _ _ _).rd _ _ (by decide), rd_wr_self]
    exact Nat.mod_eq_of_lt hk
  · rw [cfgReject_woLatch]
    rfl

theorem ends_settle_refused {c : Instr} {off k : Nat} {cls : FCls} (hq : quiet s = true)
    (hx : exec c s = .next (settle (cfgReject pgEaselG off k cls (some p) (unlatched pgEaselG s)))) :
    Ends c s (fun t => t = cfgReject pgEaselG off k cls (some p) { s with woLatch := t.woLatch }) := by
  rw [settle_quiet _ (by rw [quiet_cfgReject, quiet_unlatched, hq])] at hx
  exact ends_refused hx

theorem carveWrite_ends (v : BitVec 64) (hq : quiet s = true) (hne : carveOf v.toNat ≠ carveNow s)
    (hs : rdB s pgEaselG R.EZG_CTRL_SVC = false)
    (hc : carveCause s (carveOf v.toNat) = none) :
    Ends (.ezgCarveWrite v p) s (fun t => carveNow t = carveOf v.toNat ∧ rd t pgEaselG R.EZG_STAT_CAUSE = 0 ∧
      rd t pgEaselG R.EZG_STAT_CARVE_GEN = (rd s pgEaselG R.EZG_STAT_CARVE_GEN + 1) % 2 ^ 32 ∧
      (∀ h, (t.place.at h).cache = [] ∧ (t.place.at h).map = (s.place.at h).map) ∧ t.objs.names = s.objs.names ∧
      (rd t pgEaselG R.EVT_RAW).testBit 0 = true ∧ t.easel = s.easel) := by
  obtain ⟨u, hstep, hw⟩ := carveWrite_taken (s := unlatched pgEaselG s) p hs
    ((carveCause_unlatched _ _ s).trans hc)
  have hx := exec_newCarve (p := p) v hne
  rw [hw] at hx
  have hframe := carveUncached_only v.toNat (unlatched pgEaselG s)
  refine ends_settle hx ?_ ⟨?_, ?_, ?_, fun h => ?_, ?_, evtRaw_raise_self _ _ (by decide), ?_⟩
  · rw [quiet_raise, hstep.quiet, hframe, ← hq]
    exact quiet_congr _ _ rfl rfl rfl rfl rfl rfl rfl rfl
  · exact (hstep.carve_raised 0).trans (carveTaken_carve v.toNat (unlatched pgEaselG s))
  · rw [hstep.rd_raised 0 (by decide)]
    exact carveTaken_cause v.toNat (unlatched pgEaselG s)
  · rw [hstep.rd_raised 0 (by decide)]
    exact carveTaken_gen v.toNat (unlatched pgEaselG s)
  · rw [raise_place, hstep.place, carveUncached, plBoth_at, carveTaken_only]
    exact ⟨rfl, rfl⟩
  · rw [raise_objs, hstep.names, hframe]
    rfl
  · rw [raise_easel, hstep.easel, hframe]
    rfl

theorem exec_ezgFormat (gen : BitVec 32) : exec (.ezgFormat gen p) s =
    .next (settle (format gen.toNat p (unlatched pgEaselG s))) :=
  exec_onPage_live (f := fun s => settle (format gen.toNat p s)) (pageLive_easelG s) rfl

theorem ezgFormat_ends (gen : BitVec 32) (hq : quiet s = true) (hs : rdB s pgEaselG R.EZG_CTRL_SVC = false)
    (hu : ∀ h, (s.place.at h).used = []) (hgen : gen.toNat = rd s pgEaselG R.EZG_STAT_CARVE_GEN) :
    Ends (.ezgFormat gen p) s (fun t => t.objs.names = [] ∧ t.objs.writes = [] ∧ t.objs.stripes = [] ∧
      (∀ h, (t.place.at h).map = [] ∧ (t.place.at h).cache = [] ∧ (t.place.at h).lost = []) ∧
      rd t pgEaselG R.EZG_STAT_CARVE_GEN = (rd s pgEaselG R.EZG_STAT_CARVE_GEN + 1) % 2 ^ 32 ∧
      carveNow t = carveNow s ∧ (rd t pgEaselG R.EVT_RAW).testBit 1 = true) := by
  obtain ⟨u, v, hfmt, hjrnl, hw⟩ := format_taken (s := unlatched pgEaselG s) p hs hu hgen
  have hx := exec_ezgFormat (s := s) (p := p) gen
  rw [hw] at hx
  refine ends_settle hx ?_ ⟨?_, ?_, ?_, fun h => ?_, ?_, ?_, evtRaw_raise_self _ _ (by decide)⟩
  · rw [quiet_raise, hjrnl.quiet, genUp, quiet_wr, hfmt.quiet, ← hq]
    exact quiet_congr _ _ rfl rfl rfl rfl rfl rfl rfl rfl
  · rw [raise_objs, hjrnl.names]
    exact hfmt.names
  · rw [raise_objs, hjrnl.writes]
    exact hfmt.writes
  · rw [raise_objs, hjrnl.stripes]
    exact hfmt.stripes
  · rw [raise_place, hjrnl.place, genUp, wr_place, hfmt.place, plBoth_at]
    exact ⟨rfl, rfl, rfl⟩
  · rw [hjrnl.rd_raised 1 (by decide), rd_genUp, rd, hfmt.page]
    rfl
  · have hgen : RegsKept [(pgEaselG, R.EZG_STAT_CARVE_GEN.off)] u (genUp u) := wr_kept _ _ _ _
    exact (hjrnl.carve_raised 1).trans ((carve_congr hgen (by decide)).trans
      (List.map_congr_left fun f _ => hfmt.page f 0))

theorem exec_ezgSvcWrite (v : Bool) : exec (.ezgSvcWrite v p) s =
    .next (settle (svcWrite v p (unlatched pgEaselG s))) :=
  exec_onPage_live (f := fun s => settle (svcWrite v p s)) (pageLive_easelG s) rfl

theorem svcWrite_same {v : Bool} (h : v = rdB s pgEaselG R.EZG_CTRL_SVC) : svcWrite v p s = s := if_pos h

theorem svcWrite_stored {v : Bool} (h : v ≠ rdB s pgEaselG R.EZG_CTRL_SVC)
    (hok : if v then ezState s = 1 else svcNeeded s = false) :
    svcWrite v p s = wr pgEaselG R.EZG_CTRL_SVC (bit v) s := by
  refine (if_neg h).trans (if_pos ?_)
  cases v <;> simpa using hok

theorem svcWrite_refused {v : Bool} (h : v ≠ rdB s pgEaselG R.EZG_CTRL_SVC)
    (hno : if v then ezState s ≠ 1 else svcNeeded s = true) :
    svcWrite v p s = cfgReject pgEaselG R.EZG_CTRL_SVC.off 3 .live (some p) s := by
  refine (if_neg h).trans (if_neg ?_)
  cases v <;> simpa using hno

end

/-- Settles O37: each write by the first of its checks that fails, or by the tables and the journal steps that follow what
it puts in force. -/
theorem carvesFormatAndServiceAreChecked : Obligations.CarvesFormatAndServiceAreChecked := by
  unfold Obligations.CarvesFormatAndServiceAreChecked
  intro s p hq
  have hqu : quiet (unlatched pgEaselG s) = true := (quiet_unlatched _ _).trans hq
  refine ⟨fun v hv => ?_, fun v hv hs => ?_, fun v k hv hs hk => ?_, fun v hv hs hok hbusy hsize => ?_,
    fun gen h => ?_, fun gen hs hu hgen => ezgFormat_ends gen hq hs hu hgen, fun v hv => ?_, fun v hv hok => ?_,
    fun v hv hno => ?_⟩
  · have hx := exec_ezgCarveWrite (s := s) (p := p) v
    rw [if_pos (show carveOf v.toNat = carveNow s from hv)] at hx
    exact ends_settle hx hqu rfl
  · have hx := exec_newCarve (p := p) v hv
    rw [carveWrite_serving (s := unlatched pgEaselG s) p hs] at hx
    exact ends_settle_refused hq hx
  · have hx := exec_newCarve (p := p) v hv
    rw [carveWrite_refused (s := unlatched pgEaselG s) p hs
      ((carveCause_unlatched _ _ s).trans (carveCause_refuses hk))] at hx
    have hlt : k < 16 := by
      rcases hk with ⟨-, rfl⟩ | ⟨-, -, rfl⟩ | ⟨-, -, -, -, rfl⟩ <;> decide
    exact ends_cause_refused hlt hq hx
  · exact carveWrite_ends v hq hv hs (carveCause_none hok hbusy hsize)
  · have hx := exec_ezgFormat (s := s) (p := p) gen
    rw [format_refused (s := unlatched pgEaselG s) p h] at hx
    exact ends_cause_refused (by decide) hq hx
  · have hx := exec_ezgSvcWrite (s := s) (p := p) v
    rw [svcWrite_same (s := unlatched pgEaselG s) hv] at hx
    exact ends_settle hx hqu rfl
  · have hx := exec_ezgSvcWrite (s := s) (p := p) v
    rw [svcWrite_stored (s := unlatched pgEaselG s) hv hok] at hx
    exact ends_settle hx ((quiet_wr _ _ _ _).trans hqu) ⟨rdB_wr_bit rfl _ v _, rfl,
      fun k d hk => tgetBy_tputBy_other _ _ _ _ _ _ _ hk⟩
  · have hx := exec_ezgSvcWrite (s := s) (p := p) v
    rw [svcWrite_refused (s := unlatched pgEaselG s) hv hno] at hx
    exact ends_settle_refused hq hx

end Sys2Proof.Machine
end

section
/-!
SUPPORT. Easel's upkeep: the release of pages and the fills of the read cache, checkpoints of the journals, and the gaps
of wear levelling (R375, R377, R381, R392).
-/
namespace Sys2Proof.Machine

/-! A step that finds room, and one that waits (R381). -/

theorem jrnl_fills {s : State} {h : Half} (hr : jrnlRoom s h = true) : (jrnl h s).jrnl.at h = { s.jrnl.at h with
    jseq := ((s.jrnl.at h).jseq + (stepShape s).1) % 2 ^ 64, fill := (s.jrnl.at h).fill + (stepShape s).2 } := by
  rw [jrnl_eq, if_pos hr, jrnlMod_at, if_pos rfl, stepCounted_only]

theorem jrnlWait_tells (h : Half) (s : State) : ((jrnlWait h s).jrnl.at h).full = true ∧
    rd (jrnlWait h s) (pgEasel h) R.EASEL_CNT_JRNL_WAIT =
      rd (bump (pgEasel h) R.EASEL_CNT_JRNL_WAIT s) (pgEasel h) R.EASEL_CNT_JRNL_WAIT ∧
    ((s.jrnl.at h).full = false → (rd (jrnlWait h s) (pgEasel h) R.EVT_RAW).testBit 1 = true) := by
  refine ⟨?_, ?_, fun hf => ?_⟩
  · rw [jrnlWait, raiseIf_jrnl, jrnlMod_at, if_pos rfl]
  · exact (raiseIf_kept _ _ _ _).rd _ _ (by simp [evtRegs]; decide)
  · rw [jrnlWait, hf]
    exact evtRaw_raise_self _ _ (by decide)

/-! A page released (R375). -/

section
variable {s : State} {h : Half} {p : Nat}

/-- Page `p` of half `h` no longer used, and out of every write. -/
def pageDropped (h : Half) (p : Nat) (s : State) : State :=
  objMod (fun o => { o with writes := o.writes.map (fun w =>
    { w with pages := w.pages.filter (fun g => !(decide (g.half = h) && g.page == p)) }) })
    (plMod h (fun x => { x with used := x.used.filter (fun q => q != p) }) s)

theorem pageRelease_stays (hp : (s.place.at h).used.contains p = false ∨ pageHeld s h p = true) :
    pageRelease h p s = s := if_pos (by rcases hp with hp | hp <;> rw [hp] <;> simp)

theorem pageRelease_waits (hu : (s.place.at h).used.contains p = true) (hh : pageHeld s h p = false)
    (hr : jrnlRoom s h = false) : pageRelease h p s = jrnlWait h s :=
  (if_neg (by rw [hu, hh]; decide)).trans (if_pos (by rw [hr]; rfl))

theorem pageRelease_goes (hu : (s.place.at h).used.contains p = true) (hh : pageHeld s h p = false)
    (hr : jrnlRoom s h = true) :
    pageRelease h p s = placeRetry (mergesGo (writeGc (jrnl h (pageDropped h p s)))) :=
  (if_neg (by rw [hu, hh]; decide)).trans (if_neg (by rw [hr]; decide))

theorem placeRetry_idle (hn : NoRetry s) : placeRetry s = s := by
  obtain ⟨hp, hx⟩ := hn
  have hplans : s.objs.plans.filter (fun x => x.waits) = [] :=
    List.filter_eq_nil_iff.mpr fun x hm => by simpa using List.all_eq_true.mp hp x hm
  have hstripes : s.objs.stripes.filter (fun x => x.noStripe && !x.stalled) = [] :=
    List.filter_eq_nil_iff.mpr fun x hm =>
      Bool.eq_false_iff.mp ((Bool.not_eq_true' _).mp (List.all_eq_true.mp hx x hm))
  unfold placeRetry
  simp only [hplans, hstripes, List.foldl_nil, List.map_nil]

theorem mergesGo_idle (hm : s.objs.stripes.filter (fun x => x.st == .merge && !x.held && !x.gone) = []) :
    mergesGo s = s := by rw [mergesGo, hm, List.foldl_nil]

/-- The page gone and the step journalled, with writes that have come to their end forgotten. -/
def pageReleased (h : Half) (p : Nat) (s : State) : State := writeGc (jrnl h (pageDropped h p s))

theorem pageReleased_only (h : Half) (p : Nat) (s : State) : pageReleased h p s = { s with
    regs := (pageReleased h p s).regs, strikes := (pageReleased h p s).strikes
    freeSeq := (pageReleased h p s).freeSeq, jrnl := (jrnl h (pageDropped h p s)).jrnl
    place := (pageDropped h p s).place, objs := { s.objs with writes := (pageReleased h p s).objs.writes } } := by
  unfold pageReleased writeGc
  rw [show jrnl h (pageDropped h p s) = _ from jrnl_step h (pageDropped h p s)]
  rfl

theorem pageReleased_quiet (h : Half) (p : Nat) (s : State) : quiet (pageReleased h p s) = quiet s := by
  rw [pageReleased_only]
  exact quiet_congr _ _ rfl rfl rfl rfl rfl rfl rfl rfl

theorem pageReleased_writes {w : Write} (hw : w ∈ (pageReleased h p s).objs.writes) :
    ∀ g ∈ w.pages, g.half = h → g.page ≠ p := by
  have hobjs := (jrnl_step h (pageDropped h p s)).objs
  have hmem : w ∈ (jrnl h (pageDropped h p s)).objs.writes := List.mem_of_mem_filter hw
  rw [hobjs] at hmem
  obtain ⟨v, -, rfl⟩ := List.mem_map.mp hmem
  intro g hg hh hp
  have hno := (List.mem_filter.mp hg).2
  simp [hh, hp] at hno

theorem pageRelease_released (hu : (s.place.at h).used.contains p = true) (hh : pageHeld s h p = false)
    (hr : jrnlRoom s h = true) (hn : NoRetry s)
    (hm : s.objs.stripes.filter (fun x => x.st == .merge && !x.held && !x.gone) = []) :
    pageRelease h p s = pageReleased h p s := by
  have hobjs : (pageReleased h p s).objs = { s.objs with writes := (pageReleased h p s).objs.writes } := by
    rw [pageReleased_only]
  rw [pageRelease_goes hu hh hr]
  show placeRetry (mergesGo (pageReleased h p s)) = _
  rw [mergesGo_idle (by rw [hobjs]; exact hm), placeRetry_idle (by unfold NoRetry; rw [hobjs]; exact hn)]

theorem pageRelease_ends (hq : quiet s = true) (hu : (s.place.at h).used.contains p = true) (hh : pageHeld s h p = false)
    (hr : jrnlRoom s h = true) (hn : NoRetry s)
    (hm : s.objs.stripes.filter (fun x => x.st == .merge && !x.held && !x.gone) = []) :
    Ends (.pageRelease h p) s (fun t =>
      (t.place.at h).used = (s.place.at h).used.filter (fun q => q != p) ∧
      (∀ w ∈ t.objs.writes, ∀ g ∈ w.pages, g.half = h → g.page ≠ p) ∧
      (t.jrnl.at h).fill = (s.jrnl.at h).fill + (stepShape s).2 ∧
      (t.jrnl.at h).jseq = ((s.jrnl.at h).jseq + (stepShape s).1) % 2 ^ 64 ∧ t.objs.stripes = s.objs.stripes ∧
      t.easel = s.easel) := by
  have hx : exec (.pageRelease h p) s = done (settle (pageReleased h p s)) :=
    congrArg (fun t => done (settle t)) (pageRelease_released hu hh hr hn hm)
  have hjrnl : (pageReleased h p s).jrnl.at h = { s.jrnl.at h with
      jseq := ((s.jrnl.at h).jseq + (stepShape s).1) % 2 ^ 64, fill := (s.jrnl.at h).fill + (stepShape s).2 } :=
    jrnl_fills (s := pageDropped h p s) hr
  refine ends_settle hx ((pageReleased_quiet h p s).trans hq) ⟨?_, fun w hw => pageReleased_writes hw, ?_, ?_, ?_, ?_⟩
  · rw [pageReleased_only]
    exact congrArg PlaceHalf.used (PerHalf.at_put_self _ _ _)
  · rw [hjrnl]
  · rw [hjrnl]
  · rw [pageReleased_only]
  · rw [pageReleased_only]

end

/-! A checkpoint (R381). -/

theorem prCommit_idle {s : State} (h : prState s ≠ prSEALED) : prCommit s = s := by
  have hready : commitReady s = false := by
    simp [commitReady, h]
  exact if_pos (by rw [hready]; rfl)

theorem jrnlMod_jrnlMod (h : Half) (f g : Jrnl → Jrnl) (s : State) :
    jrnlMod h g (jrnlMod h f s) = jrnlMod h (fun j => g (f j)) s := by cases h <;> rfl

/-- A half's journal after a CHECKPOINT for which no step waited. -/
def checkpointed (j : Jrnl) : Jrnl := { j with jseq := (j.jseq + 1) % 2 ^ 64, fill := 1, full := false }

theorem checkpoint_alone {s : State} {h : Half} (ho : (s.jrnl.at h).owed = []) :
    checkpoint h s = jrnlMod h checkpointed s := by
  unfold checkpoint
  extract_lets s1
  have hs1 : (s1.jrnl.at h).owed = [] := by
    rw [jrnlMod_at, if_pos rfl]
    exact ho
  rw [hs1, List.length_nil, jrnlPay, hs1]
  exact jrnlMod_jrnlMod h _ _ s

theorem journalCheckpoint_ends {s : State} {h : Half} (hq : quiet s = true) (hp : prState s ≠ prSEALED)
    (ho : (s.jrnl.at h).owed = []) : Ends (.journalCheckpoint h) s (fun t => (t.jrnl.at h).fill = 1 ∧
      (t.jrnl.at h).full = false ∧ (t.jrnl.at h).jseq = ((s.jrnl.at h).jseq + 1) % 2 ^ 64 ∧ t = { s with jrnl := t.jrnl } ∧
      t.jrnl.at h.twin = s.jrnl.at h.twin) := by
  have hx : exec (.journalCheckpoint h) s = done (settle (prCommit (checkpoint h s))) := rfl
  rw [checkpoint_alone ho, prCommit_idle (by exact hp)] at hx
  have hat : (jrnlMod h checkpointed s).jrnl.at h = checkpointed (s.jrnl.at h) := PerHalf.at_put_self _ _ _
  refine ends_settle hx ((jrnlMod_step h _ s).quiet.trans hq) ⟨?_, ?_, ?_, rfl, PerHalf.at_put_twin _ _ _⟩
  all_goals rw [hat, checkpointed]

/-! A fill of the read cache (R377). -/

section
variable {s : State} {h : Half} {f : Fill} {r : List Fill} {q : Nat}

/-- The fills `r` left to a half. -/
def fillsLeft (r : List Fill) (x : PlaceHalf) : PlaceHalf := { x with fills := r }

/-- Panel `f` at place `q`, the last of a half's cache. -/
def cacheTaken (f : Fill) (q : Nat) (x : PlaceHalf) : PlaceHalf :=
  { x with cache := x.cache.filter (fun c => c.place != q) ++ [⟨f.obj, f.panel, q⟩] }

theorem cachePlace_fillsLeft (h : Half) (f : Fill) (r : List Fill) (s : State) :
    cachePlace (plMod h (fillsLeft r) s) h f = cachePlace s h f := by
  cases h <;> rfl

theorem cacheFill_fills (hf : (s.place.at h).fills = f :: r) (hq : cachePlace s h f = some q) :
    cacheFill h s = plMod h (cacheTaken f q) (ezStore (cacheAddr s h q) (ezRead s (pageAddr s h f.page) panelBytes)
      (plMod h (fillsLeft r) s)) := by
  have hplace := (cachePlace_fillsLeft h f r s).trans hq
  unfold cacheFill
  split
  · next hnil => exact absurd (hnil.symm.trans hf) (List.cons_ne_nil _ _).symm
  · next g l hcons =>
    obtain ⟨rfl, rfl⟩ := List.cons.inj (hf.symm.trans hcons)
    extract_lets s1
    have hat : cachePlace s1 h f = some q := hplace
    rw [hat]
    rfl

/-- Half `h` once fill `f` stands in its cache at place `q` with the bytes `bs`, written from `a`. -/
def cacheFilled (h : Half) (f : Fill) (r : List Fill) (q a : Nat) (bs : List Byte) (s : State) : State :=
  plMod h (cacheTaken f q) (ezStore a bs (plMod h (fillsLeft r) s))

theorem cacheFilled_at (a : Nat) (bs : List Byte) :
    (cacheFilled h f r q a bs s).place.at h = cacheTaken f q (fillsLeft r (s.place.at h)) := by
  have hplace : (ezStore a bs (plMod h (fillsLeft r) s)).place.at h = fillsLeft r (s.place.at h) := by
    rw [ezStore_only]
    exact PerHalf.at_put_self _ _ _
  rw [cacheFilled, plMod, PerHalf.at_put_self, hplace]

theorem cacheFilled_quiet (a : Nat) (bs : List Byte) : quiet (cacheFilled h f r q a bs s) = quiet s := by
  rw [cacheFilled, quiet_plMod, quiet_ezStore, quiet_plMod]

theorem cacheFilled_writes (hm : Memory.wf s.easel = true) (a : Nat) (bs : List Byte) :
    OnlyWrites a bs s (cacheFilled h f r q a bs s) := by
  refine onlyWrites_of_easel hm ?_
  exact ezStore_easel a bs (plMod h (fillsLeft r) s)

theorem cacheFill_ends (hqt : quiet s = true) (hf : (s.place.at h).fills = f :: r) (hq : cachePlace s h f = some q)
    (hm : Memory.wf s.easel = true) : Ends (.cacheFill h) s (fun t => (t.place.at h).fills = r ∧
      (t.place.at h).cache = (s.place.at h).cache.filter (fun c => c.place != q) ++ [⟨f.obj, f.panel, q⟩] ∧
      OnlyWrites (cacheAddr s h q) (ezRead s (pageAddr s h f.page) panelBytes) s t) := by
  have hx : exec (.cacheFill h) s = done (settle (cacheFilled h f r q (cacheAddr s h q)
      (ezRead s (pageAddr s h f.page) panelBytes) s)) := congrArg (fun t => done (settle t)) (cacheFill_fills hf hq)
  have hat := cacheFilled_at (s := s) (h := h) (f := f) (r := r) (q := q) (cacheAddr s h q)
    (ezRead s (pageAddr s h f.page) panelBytes)
  refine ends_settle hx ((cacheFilled_quiet _ _).trans hqt) ⟨?_, ?_, cacheFilled_writes hm _ _⟩
  · rw [hat]
    rfl
  · rw [hat]
    rfl

end

theorem ezRead_length (s : State) (a n : Nat) : (ezRead s a n).length = n := by
  rw [ezRead, List.length_map, List.length_range]

/-! Line writes counted (R393). -/

theorem rdI_raiseTo_off {g : Fld} (src P Q b j : Nat) (s : State) (h : g.off ≠ R.EVT_RAW.off ∧ g.off ≠ R.EVT_PEND.off) :
    rdI (raiseTo src P b s) Q g j = rdI s Q g j :=
  (raiseTo_kept src P b s).rdI Q g j (by simp [evtRegs, h.1, h.2])

/-- The fields that counted line writes may change, the event registers apart. -/
def lineFlds : List (Nat × Nat) :=
  [(R.EZ_STK_VIEW_0_LINE_WRITES.off, R.EZ_STK_VIEW_0_LINE_WRITES.lo),
    (R.EZ_STK_VIEW_1_LIFE_PPM.off, R.EZ_STK_VIEW_1_LIFE_PPM.lo), (R.EZ_STK_VIEW_1_WARN.off, R.EZ_STK_VIEW_1_WARN.lo)]

/-- A field that neither line writes nor events change. -/
def offLines (g : Fld) : Bool :=
  decide ((g.off, g.lo) ∉ lineFlds ∧ g.off ≠ R.EVT_RAW.off ∧ g.off ≠ R.EVT_PEND.off)

theorem rdI_addLines_other {g : Fld} (hg : offLines g = true) (st n : Nat) (s : State) (Q j : Nat) :
    rdI (addLines st n s) Q g j = rdI s Q g j := by
  obtain ⟨hline, hevt⟩ := of_decide_eq_true hg
  simp only [lineFlds, List.mem_cons, List.not_mem_nil, or_false, not_or] at hline
  obtain ⟨hw, hppm, hwarn⟩ := hline
  unfold addLines
  extract_lets P i w ppm s1
  have h1 : rdI s1 Q g j = rdI s Q g j := by rw [rdI_wrI_place _ _ _ _ _ _ hppm, rdI_wrI_place _ _ _ _ _ _ hw]
  split
  · rw [rdI_raiseTo_off _ _ _ _ _ _ hevt, rdI_wrI_place _ _ _ _ _ _ hwarn, h1]
  · exact h1

theorem lineWrites_addLines (st n : Nat) (s : State) :
    rdI (addLines st n s) (pgEasel (stackHalf st)) R.EZ_STK_VIEW_0_LINE_WRITES (st % 4) =
      (rdI s (pgEasel (stackHalf st)) R.EZ_STK_VIEW_0_LINE_WRITES (st % 4) + n) % 2 ^ 64 := by
  unfold addLines
  extract_lets P i w ppm s1
  have h1 : rdI s1 P R.EZ_STK_VIEW_0_LINE_WRITES i = w := by
    rw [rdI_wrI_place _ _ _ _ _ _ (by decide), rdI_wrI_self]
    exact Nat.mod_mod _ _
  split
  · exact (rdI_raiseTo_off _ _ _ _ _ _ (by decide)).trans ((rdI_wrI_place _ _ _ _ _ _ (by decide)).trans h1)
  · exact h1

/-! The gap of a stack (R392, R393). -/

section
variable {s : State} {st : Nat}

theorem gapCopy_rests (h : rdB s pgEaselG R.EZG_CTRL_WL_EN = false ∨
    rdI s (pgEasel (stackHalf st)) R.EZ_STK_VIEW_0_LINE_WRITES (st % 4) < (gapGet s (stackHalf st) (st % 4)).1 + 64) :
    gapCopy st s = s := by
  refine if_neg ?_
  rintro ⟨hen, -, hdue⟩
  rcases h with h | h
  · exact absurd (hen.symm.trans h) (by decide)
  · exact absurd hdue (Nat.not_le.mpr h)

/-- The gap of stack `i` of a half at `g`. -/
def gapPut (i : Nat) (g : Nat × Nat) (x : PlaceHalf) : PlaceHalf :=
  { x with gaps := x.gaps.filter (fun y => y.1 != i) ++ [(i, g)] }

theorem gapGet_gapPut (h : Half) (i : Nat) (g : Nat × Nat) (s : State) : gapGet (plMod h (gapPut i g) s) h i = g := by
  have hno : ((s.place.at h).gaps.filter (fun y => y.1 != i)).find? (fun y => y.1 == i) = none := by
    rw [List.find?_eq_none]
    intro y hy
    simpa using (List.mem_filter.mp hy).2
  rw [gapGet, plMod, PerHalf.at_put_self, gapPut, List.find?_append, hno]
  simp

/-- The gap of stack `st` one line on, which costs one line write. -/
def gapMoved (st : Nat) (s : State) : State :=
  plMod (stackHalf st) (gapPut (st % 4) ((gapGet s (stackHalf st) (st % 4)).1 + 65,
    if (gapGet s (stackHalf st) (st % 4)).2 + 1 = 2 ^ 30 + 1 then 0 else (gapGet s (stackHalf st) (st % 4)).2 + 1))
    (addLines st 1 s)

theorem gapCopy_moves (hen : rdB s pgEaselG R.EZG_CTRL_WL_EN = true) (hst : st < 8)
    (hdue : (gapGet s (stackHalf st) (st % 4)).1 + 64 ≤
      rdI s (pgEasel (stackHalf st)) R.EZ_STK_VIEW_0_LINE_WRITES (st % 4)) :
    gapCopy st s = if (gapGet s (stackHalf st) (st % 4)).2 + 1 = 2 ^ 30 + 1 then
      wrI (pgEasel (stackHalf st)) R.EZ_STK_VIEW_2_ROT_PASSES (st % 4)
        (rdI s (pgEasel (stackHalf st)) R.EZ_STK_VIEW_2_ROT_PASSES (st % 4) + 1) (gapMoved st s)
      else gapMoved st s := if_pos ⟨hen, hst, hdue⟩

theorem gapMoved_only (st : Nat) (s : State) : gapMoved st s = { s with
    regs := (gapMoved st s).regs, strikes := (gapMoved st s).strikes, place := (gapMoved st s).place } := by
  rw [gapMoved, addLines_only]
  rfl

theorem wearGapCopy_ends (hq : quiet s = true) (hen : rdB s pgEaselG R.EZG_CTRL_WL_EN = true) (hst : st < 8)
    (hdue : (gapGet s (stackHalf st) (st % 4)).1 + 64 ≤
      rdI s (pgEasel (stackHalf st)) R.EZ_STK_VIEW_0_LINE_WRITES (st % 4))
    (hpos : (gapGet s (stackHalf st) (st % 4)).2 ≤ 2 ^ 30) :
    Ends (.wearGapCopy st) s (fun t => BytesKept s t ∧
      gapGet t (stackHalf st) (st % 4) =
        ((gapGet s (stackHalf st) (st % 4)).1 + 65, ((gapGet s (stackHalf st) (st % 4)).2 + 1) % (2 ^ 30 + 1)) ∧
      rdI t (pgEasel (stackHalf st)) R.EZ_STK_VIEW_0_LINE_WRITES (st % 4) =
        (rdI s (pgEasel (stackHalf st)) R.EZ_STK_VIEW_0_LINE_WRITES (st % 4) + 1) % 2 ^ 64) := by
  have hx := congrArg (fun t => done (settle t)) (gapCopy_moves hen hst hdue)
  have hlines := lineWrites_addLines st 1 s
  have hgap : gapGet (gapMoved st s) (stackHalf st) (st % 4) = ((gapGet s (stackHalf st) (st % 4)).1 + 65,
      if (gapGet s (stackHalf st) (st % 4)).2 + 1 = 2 ^ 30 + 1 then 0 else (gapGet s (stackHalf st) (st % 4)).2 + 1) :=
    gapGet_gapPut _ _ _ _
  have hquiet : quiet (gapMoved st s) = true := by
    rw [gapMoved_only, ← hq]
    exact quiet_congr _ _ rfl rfl rfl rfl rfl rfl rfl rfl
  have hbytes : BytesKept s (gapMoved st s) := fun b => by
    rw [gapMoved_only]
    rfl
  by_cases hwrap : (gapGet s (stackHalf st) (st % 4)).2 + 1 = 2 ^ 30 + 1
  · rw [if_pos hwrap] at hx
    refine ends_settle hx ((quiet_wrI _ _ _ _ _).trans hquiet) ⟨hbytes, ?_, ?_⟩
    · refine Eq.trans hgap ?_
      rw [if_pos hwrap, hwrap, Nat.mod_self]
    · exact (rdI_wrI_place _ _ _ _ _ _ (by decide)).trans hlines
  · have hlt : (gapGet s (stackHalf st) (st % 4)).2 + 1 < 2 ^ 30 + 1 := Nat.lt_of_le_of_ne (by gcongr) hwrap
    rw [if_neg hwrap] at hx hgap
    refine ends_settle hx hquiet ⟨hbytes, ?_, hlines⟩
    rw [hgap, Nat.mod_eq_of_lt hlt]

end

end Sys2Proof.Machine
end

section
/-!
SUPPORT. What a patrol read finds: lines corrected, lines retired to a spare, and codewords that cannot be read, with the
log of Easel (R386-R388, R391).
-/
namespace Sys2Proof.Machine

/-! Events sent to a source of their own. -/

theorem rd_evtRaw_raiseTo (src P b : Nat) (s : State) :
    rd (raiseTo src P b s) P R.EVT_RAW = (rd s P R.EVT_RAW ||| 2 ^ b) % 2 ^ 64 := by
  unfold raiseTo
  dsimp only
  split
  · show rd (wr P R.EVT_PEND _ (wr P R.EVT_RAW _ s)) P R.EVT_RAW = _
    rw [rd_wr_place _ _ _ _ (by decide), rd_wr_self]
    rfl
  · rw [rd_wr_self]
    rfl

theorem evtRaw_raiseTo_self (src P : Nat) {b : Nat} (s : State) (hb : b < 64) :
    (rd (raiseTo src P b s) P R.EVT_RAW).testBit b = true := by
  rw [rd_evtRaw_raiseTo, Nat.testBit_mod_two_pow]
  simp [hb]

/-! Bytes of Easel stored back as they were. -/

theorem bytesKept_of_easel {s t : State} (h : t.easel = s.easel) : BytesKept s t := fun b => by rw [ezByte, h, ezByte]

theorem bytesKept_rewritten {s t : State} {a n : Nat} (hm : Memory.wf s.easel = true)
    (ht : t.easel = cellPuts a (ezRead s a n) s.easel) : BytesKept s t := by
  intro b
  by_cases hb : a ≤ b ∧ b < a + n
  · obtain ⟨i, rfl⟩ : ∃ i, b = a + i := ⟨b - a, by omega⟩
    have hi : i < (ezRead s a n).length := by
      rw [ezRead_length]
      omega
    rw [ezByte, ht, cellGet_cellPuts_self hi a _ hm]
    simp [ezRead]
  · rw [ezByte, ht, cellGet_cellPuts_other a b _ _ hm (by rw [ezRead_length]; omega), ezByte]

theorem rdI_foldl_addLines_other {g : Fld} (hg : offLines g = true) (f : Nat → Nat) (l : List Nat) (s : State) (Q j : Nat) :
    rdI (l.foldl (fun t i => addLines (f i) 1 t) s) Q g j = rdI s Q g j := by
  induction l generalizing s with
  | nil => rfl
  | cons i r ih => exact (ih _).trans (rdI_addLines_other hg _ _ s Q j)

theorem rdI_ezStore_other {g : Fld} (hg : offLines g = true) (a : Nat) (bs : List Byte) (s : State) (Q j : Nat) :
    rdI (ezStore a bs s) Q g j = rdI s Q g j := by
  unfold ezStore
  split
  · rfl
  · exact rdI_foldl_addLines_other hg _ _ (ezWrite a bs s) Q j

/-! Entries of Easel's log (R391). -/

section
variable (h : Half) (kind a owner : Nat) (s : State)

/-- The entry that stands at the head of the log. -/
def elogEntry : Nat × List Nat :=
  (rd s (pgEasel h) R.EZ_ELOG_HEAD % 4096,
    [kind * 2 ^ 56 + regionOf s (a % 2 ^ 40) * 2 ^ 52 + ezStack a * 2 ^ 48, a, nowH s h, owner])

/-- An entry at the head of the log, in the place of the one that stood there. -/
def elogged (x : PlaceHalf) : PlaceHalf :=
  { x with elog := x.elog.filter (fun y => y.1 != (elogEntry h kind a owner s).1) ++ [elogEntry h kind a owner s] }

/-- The entry written and HEAD one on. -/
def elogWritten : State := wr (pgEasel h) R.EZ_ELOG_HEAD (rd s (pgEasel h) R.EZ_ELOG_HEAD + 1)
  (plMod h (elogged h kind a owner s) s)

theorem elogPut_eq : elogPut h kind a owner s =
    if (rd s (pgEasel h) R.EZ_ELOG_HEAD + 1 + 2 ^ 32 - rd s (pgEasel h) R.EZ_ELOG_TAIL) % 2 ^ 32 > 4096 then
      raise (pgEasel h) 4 (bump (pgEasel h) R.EASEL_CNT_ELOG_OVF
        (wr (pgEasel h) R.EZ_ELOG_TAIL (rd s (pgEasel h) R.EZ_ELOG_TAIL + 1) (elogWritten h kind a owner s)))
    else elogWritten h kind a owner s := rfl

theorem elogPut_frame : elogPut h kind a owner s = { elogWritten h kind a owner s with
    regs := (elogPut h kind a owner s).regs, strikes := (elogPut h kind a owner s).strikes } := by
  rw [elogPut_eq]
  split
  · rw [raise_only, bump_only]
    rfl
  · rfl

theorem elogPut_only : elogPut h kind a owner s = { s with
    regs := (elogPut h kind a owner s).regs, strikes := (elogPut h kind a owner s).strikes
    place := (plMod h (elogged h kind a owner s) s).place } := (elogPut_frame h kind a owner s).trans rfl

theorem elogPut_kept : RegsKept ([(pgEasel h, R.EZ_ELOG_HEAD.off), (pgEasel h, R.EZ_ELOG_TAIL.off),
    (pgEasel h, R.EASEL_CNT_ELOG_OVF.off)] ++ evtRegs (pgEasel h)) s (elogPut h kind a owner s) := by
  have hw : RegsKept [(pgEasel h, R.EZ_ELOG_HEAD.off)] s (elogWritten h kind a owner s) :=
    RegsKept.wrI_mem (.of_eq rfl) (by simp)
  rw [elogPut_eq]
  split
  · exact (((hw.mono (by simp)).wrI_mem (by simp)).bump_mem (by simp)).raise_mem (by simp [evtRegs])
  · exact hw.mono (by simp)

theorem evtRaw_elogPut_keeps {k : Nat} (hk : k < 64) (he : (rd s (pgEasel h) R.EVT_RAW).testBit k = true) :
    (rd (elogPut h kind a owner s) (pgEasel h) R.EVT_RAW).testBit k = true := by
  have h1 : rd (elogWritten h kind a owner s) (pgEasel h) R.EVT_RAW = rd s (pgEasel h) R.EVT_RAW :=
    rd_wr_place _ _ _ _ (by decide)
  rw [elogPut_eq]
  split
  · refine evtRaw_raise_keeps hk ?_
    rw [bump, rd_bumpBy_off _ _ _ _ (by decide), rd_wr_place _ _ _ _ (by decide), h1]
    exact he
  · rw [h1]
    exact he

theorem elogPut_place : (elogPut h kind a owner s).place.at h = elogged h kind a owner s (s.place.at h) := by
  rw [elogPut_only]
  exact PerHalf.at_put_self _ _ _

end

/-! The parts of a patrol read (R386, R387). -/

/-- The counts and the event of a corrected codeword of stack `st`. -/
def correctedMarks (st : Nat) (s : State) : State :=
  raiseTo (176 + st) (pgEasel (stackHalf st)) 8 (stackBump (stackHalf st) R.EZ_STK_VIEW_3_CORR (st % 4)
    (bump (pgEasel (stackHalf st)) R.EASEL_CNT_CORR s))

/-- A codeword at `a` of stack `st` written back corrected. -/
def lineCorrected (st a : Nat) (s : State) : State := correctedMarks st (ezStore a (ezRead s a 64) s)

/-- The counts and the event of an uncorrectable codeword of stack `st`. -/
def codewordBad (st : Nat) (s : State) : State :=
  raiseTo (176 + st) (pgEasel (stackHalf st)) 12 (stackBump (stackHalf st) R.EZ_STK_VIEW_3_UNCORR (st % 4)
    (bump (pgEasel (stackHalf st)) R.EASEL_CNT_UNCORR s))

/-- The line at `a` warned of, or no longer. -/
def warnMark (corr : Bool) (a : Nat) (x : PlaceHalf) : PlaceHalf := { x with
  warned := if corr then x.warned.filter (fun b => b != a) ++ [a] else x.warned.filter (fun b => b != a) }

section
variable {s : State} {st n e : Nat} {both : Bool}

theorem patrolCw_corrects (h1 : 1 ≤ e) (h4 : e ≤ 4) (a : Nat) : patrolCw st a e both s = lineCorrected st a s :=
  (if_neg (by omega)).trans (if_pos h4)

theorem patrolCw_loses (h5 : 5 ≤ e) (a : Nat) :
    patrolCw st a e both s = codewordLost (stackHalf st) a both (codewordBad st s) :=
  (if_neg (by omega)).trans (if_neg (by omega))

theorem patrolRead_clean (hst : st < 8) (hn : n < 2 ^ 30) : patrolRead st n [0, 0, 0, 0] both s =
    plMod (stackHalf st) (warnMark false (lineAddr st n)) s := by
  unfold patrolRead
  rw [if_neg (by omega)]
  rfl

/-- A patrol read that finds errors in the first codeword at most. -/
theorem patrolRead_first (hst : st < 8) (hn : n < 2 ^ 30) {corr deep : Bool}
    (hc : (e != 0 && decide (e ≤ 4)) = corr) (hd : (e == 3 || e == 4) = deep) : patrolRead st n [e] both s =
    if (deep || (corr && (s.place.at (stackHalf st)).warned.contains (lineAddr st n))) = true then
      lineRetire st (lineAddr st n)
        (plMod (stackHalf st) (warnMark corr (lineAddr st n)) (patrolCw st (lineAddr st n) e both s))
    else plMod (stackHalf st) (warnMark corr (lineAddr st n)) (patrolCw st (lineAddr st n) e both s) := by
  unfold patrolRead
  rw [if_neg (by omega)]
  extract_lets h a es s1 corr' deep' again s2
  have hcorr : corr' = corr := (Bool.or_false _).trans hc
  have hdeep : deep' = deep := (Bool.or_false _).trans hd
  have hcw : s1 = patrolCw st a e both s := by
    show patrolCw st (a + 64 * 0) e both s = _
    rw [Nat.mul_zero, Nat.add_zero]
  unfold s2 again
  rw [hcorr, hdeep, hcw]
  rfl

theorem patrolRead_corrects (hst : st < 8) (hn : n < 2 ^ 30) (h1 : 1 ≤ e) (h2 : e ≤ 2)
    (hw : (s.place.at (stackHalf st)).warned.contains (lineAddr st n) = false) : patrolRead st n [e] both s =
      plMod (stackHalf st) (warnMark true (lineAddr st n)) (lineCorrected st (lineAddr st n) s) := by
  rw [patrolRead_first (corr := true) (deep := false) hst hn (by simp; omega) (by simp; omega), hw,
    patrolCw_corrects h1 (by omega)]
  exact if_neg (by decide)

theorem patrolRead_retires (hst : st < 8) (hn : n < 2 ^ 30) (h3 : 3 ≤ e) (h4 : e ≤ 4) : patrolRead st n [e] both s =
    lineRetire st (lineAddr st n)
      (plMod (stackHalf st) (warnMark true (lineAddr st n)) (lineCorrected st (lineAddr st n) s)) := by
  rw [patrolRead_first (corr := true) (deep := true) hst hn (by simp; omega) (by simp; omega),
    patrolCw_corrects (by omega) h4]
  exact if_pos rfl

theorem patrolRead_loses (hst : st < 8) (hn : n < 2 ^ 30) : patrolRead st n [5] both s =
    plMod (stackHalf st) (warnMark false (lineAddr st n))
      (codewordLost (stackHalf st) (lineAddr st n) both (codewordBad st s)) := by
  rw [patrolRead_first (corr := false) (deep := false) hst hn rfl rfl, patrolCw_loses (Nat.le_refl 5)]
  exact if_neg (by simp)

end

/-! A corrected codeword (R386). -/

section
variable (st a : Nat) (s : State)

theorem correctedMarks_only : correctedMarks st s = { s with
    regs := (correctedMarks st s).regs, strikes := (correctedMarks st s).strikes } := by
  rw [correctedMarks, raiseTo_only, stackBump, bump_only]
  rfl

theorem lineCorrected_only : lineCorrected st a s = { s with
    regs := (lineCorrected st a s).regs, strikes := (lineCorrected st a s).strikes
    easel := cellPuts a (ezRead s a 64) s.easel } := by
  rw [lineCorrected, correctedMarks_only, ezStore_only]

theorem lineCorrected_raised : (rd (lineCorrected st a s) (pgEasel (stackHalf st)) R.EVT_RAW).testBit 8 = true :=
  evtRaw_raiseTo_self _ _ _ (by decide)

theorem lineCorrected_counted : rd (lineCorrected st a s) (pgEasel (stackHalf st)) R.EASEL_CNT_CORR =
    rd (bump (pgEasel (stackHalf st)) R.EASEL_CNT_CORR s) (pgEasel (stackHalf st)) R.EASEL_CNT_CORR := by
  have hmarks : ∀ u, rd (correctedMarks st u) (pgEasel (stackHalf st)) R.EASEL_CNT_CORR =
      rd (bump (pgEasel (stackHalf st)) R.EASEL_CNT_CORR u) (pgEasel (stackHalf st)) R.EASEL_CNT_CORR := fun u =>
    (rdI_raiseTo_off _ _ _ _ _ _ (by decide)).trans (rdI_wrI_place _ _ _ _ _ _ (by decide))
  rw [lineCorrected, hmarks]
  exact rd_bump_congr (rdI_ezStore_other (by decide) _ _ s _ 0) (rdI_ezStore_other (by decide) _ _ s _ 0)

theorem lineCorrected_spares : rdI (lineCorrected st a s) (pgEasel (stackHalf st)) R.EZ_STK_VIEW_1_SPARES_LEFT (st % 4) =
    rdI s (pgEasel (stackHalf st)) R.EZ_STK_VIEW_1_SPARES_LEFT (st % 4) := by
  rw [lineCorrected, correctedMarks, rdI_raiseTo_off _ _ _ _ _ _ (by decide), stackBump,
    rdI_wrI_place _ _ _ _ _ _ (by decide), rdI_bump_off _ _ _ _ (by decide)]
  exact rdI_ezStore_other (by decide) _ _ s _ _

/-! A line retired while spares are left (R387). -/

/-- The line at `a` among the retired. -/
def retiredToo (a : Nat) (x : PlaceHalf) : PlaceHalf := { x with retired := x.retired ++ [a] }

/-- A spare of stack `st` taken for the line at `a`. -/
def spareTaken : State :=
  plMod (stackHalf st) (retiredToo a) (wrI (pgEasel (stackHalf st)) R.EZ_STK_VIEW_1_SPARES_LEFT (st % 4)
    (rdI s (pgEasel (stackHalf st)) R.EZ_STK_VIEW_1_SPARES_LEFT (st % 4) - 1)
    (wrI (pgEasel (stackHalf st)) R.EZ_STK_VIEW_2_RETIRED (st % 4)
      (rdI s (pgEasel (stackHalf st)) R.EZ_STK_VIEW_2_RETIRED (st % 4) + 1) s))

/-- The copy of the line to its spare, counted and raised. -/
def spareCopied : State :=
  raiseTo (176 + st) (pgEasel (stackHalf st)) 9 (bump (pgEasel (stackHalf st)) R.EASEL_CNT_RETIRE
    (addLines st 1 (spareTaken st a s)))

theorem spareCopied_only : spareCopied st a s = { s with
    regs := (spareCopied st a s).regs, strikes := (spareCopied st a s).strikes
    place := (plMod (stackHalf st) (retiredToo a) s).place } := by
  have htaken : spareTaken st a s = { s with
      regs := (spareTaken st a s).regs, place := (plMod (stackHalf st) (retiredToo a) s).place } := rfl
  rw [spareCopied, raiseTo_only, bump_only, addLines_only, htaken]

variable {st a s}

theorem lineRetire_spares (hleft : 1 < rdI s (pgEasel (stackHalf st)) R.EZ_STK_VIEW_1_SPARES_LEFT (st % 4))
    (hr : (s.place.at (stackHalf st)).retired.contains a = false) :
    lineRetire st a s = elogPut (stackHalf st) 2 a 0 (spareCopied st a s) := by
  refine (if_neg ?_).trans (if_neg (by omega))
  rintro (h0 | h1)
  · omega
  · exact absurd (h1.symm.trans hr) (by decide)

theorem spareCopied_left (hfits : rdI s (pgEasel (stackHalf st)) R.EZ_STK_VIEW_1_SPARES_LEFT (st % 4) <
    2 ^ R.EZ_STK_VIEW_1_SPARES_LEFT.w) :
    rdI (spareCopied st a s) (pgEasel (stackHalf st)) R.EZ_STK_VIEW_1_SPARES_LEFT (st % 4) =
      rdI s (pgEasel (stackHalf st)) R.EZ_STK_VIEW_1_SPARES_LEFT (st % 4) - 1 := by
  have htaken : rdI (spareTaken st a s) (pgEasel (stackHalf st)) R.EZ_STK_VIEW_1_SPARES_LEFT (st % 4) = _ :=
    rdI_wrI_self _ _ _ _ _
  rw [spareCopied, rdI_raiseTo_off _ _ _ _ _ _ (by decide), rdI_bump_off _ _ _ _ (by decide),
    rdI_addLines_other (by decide), htaken]
  exact Nat.mod_eq_of_lt (by omega)

theorem lineRetire_facts (hleft : 1 < rdI s (pgEasel (stackHalf st)) R.EZ_STK_VIEW_1_SPARES_LEFT (st % 4))
    (hfits : rdI s (pgEasel (stackHalf st)) R.EZ_STK_VIEW_1_SPARES_LEFT (st % 4) < 2 ^ R.EZ_STK_VIEW_1_SPARES_LEFT.w)
    (hr : (s.place.at (stackHalf st)).retired.contains a = false) :
    quiet (lineRetire st a s) = quiet s ∧ (lineRetire st a s).easel = s.easel ∧
      ((lineRetire st a s).place.at (stackHalf st)).retired = (s.place.at (stackHalf st)).retired ++ [a] ∧
      rdI (lineRetire st a s) (pgEasel (stackHalf st)) R.EZ_STK_VIEW_1_SPARES_LEFT (st % 4) =
        rdI s (pgEasel (stackHalf st)) R.EZ_STK_VIEW_1_SPARES_LEFT (st % 4) - 1 ∧
      (rd (lineRetire st a s) (pgEasel (stackHalf st)) R.EVT_RAW).testBit 9 = true := by
  rw [lineRetire_spares hleft hr]
  refine ⟨?_, ?_, ?_, ?_, evtRaw_elogPut_keeps _ _ _ _ _ (by decide) (evtRaw_raiseTo_self _ _ _ (by decide))⟩
  · rw [elogPut_only, spareCopied_only]
    exact quiet_congr _ _ rfl rfl rfl rfl rfl rfl rfl rfl
  · rw [elogPut_only, spareCopied_only]
  · rw [elogPut_place, spareCopied_only]
    exact congrArg PlaceHalf.retired (PerHalf.at_put_self s.place (stackHalf st) _)
  · rw [(elogPut_kept _ _ _ _ _).rdI _ _ _ (by simp [evtRegs]; decide), spareCopied_left hfits]

end

/-! Where a codeword lies (R363). -/

theorem regionBase_congr {s t : State} (h : PageKept pgEaselG s t) (r : Nat) : regionBase t r = regionBase s r := by
  simp only [regionBase, regionSizes, rd, h _ 0]

theorem regionOf_congr {s t : State} (h : PageKept pgEaselG s t) (o : Nat) : regionOf t o = regionOf s o := by
  simp only [regionOf, regionBase_congr h]

/-! A codeword that cannot be read (R386, R388). -/

section
variable (st : Nat) (s : State)

theorem codewordBad_only : codewordBad st s = { s with
    regs := (codewordBad st s).regs, strikes := (codewordBad st s).strikes } := by
  rw [codewordBad, raiseTo_only, stackBump, bump_only]
  rfl

theorem codewordBad_page : PageKept pgEaselG s (codewordBad st s) := by
  have hP := pgEasel_ne_easelG (stackHalf st)
  exact ((bump_pageKept s hP _).trans (wrI_pageKept _ hP _ _ _)).trans ((raiseTo_kept _ _ _ _).page (evtRegs_page hP))

theorem codewordBad_raised : (rd (codewordBad st s) (pgEasel (stackHalf st)) R.EVT_RAW).testBit 12 = true :=
  evtRaw_raiseTo_self _ _ _ (by decide)

theorem codewordBad_counted : rd (codewordBad st s) (pgEasel (stackHalf st)) R.EASEL_CNT_UNCORR =
    rd (bump (pgEasel (stackHalf st)) R.EASEL_CNT_UNCORR s) (pgEasel (stackHalf st)) R.EASEL_CNT_UNCORR :=
  (rdI_raiseTo_off _ _ _ _ _ _ (by decide)).trans (rdI_wrI_place _ _ _ _ _ _ (by decide))

theorem codewordBad_stack : rdI (codewordBad st s) (pgEasel (stackHalf st)) R.EZ_STK_VIEW_3_UNCORR (st % 4) =
    min (rdI s (pgEasel (stackHalf st)) R.EZ_STK_VIEW_3_UNCORR (st % 4) + 1) (2 ^ 32 - 1) := by
  rw [codewordBad, rdI_raiseTo_off _ _ _ _ _ _ (by decide), stackBump, rdI_wrI_self,
    rdI_bump_off _ _ _ _ (by decide)]
  exact Nat.mod_eq_of_lt (by show _ < 2 ^ 32; omega)

theorem codewordBad_head : rd (codewordBad st s) (pgEasel (stackHalf st)) R.EZ_ELOG_HEAD =
    rd s (pgEasel (stackHalf st)) R.EZ_ELOG_HEAD := by
  rw [codewordBad, rd, rdI_raiseTo_off _ _ _ _ _ _ (by decide), stackBump, rdI_wrI_place _ _ _ _ _ _ (by decide),
    rdI_bump_off _ _ _ _ (by decide), rd]

end

/-- The cache without the panel at place `q`. -/
def uncachedAt (q : Nat) (x : PlaceHalf) : PlaceHalf := { x with cache := x.cache.filter (fun c => c.place != q) }

/-- Name entry `i` among those that cannot be read. -/
def badNamed (i : Nat) (x : PlaceHalf) : PlaceHalf := { x with badNames := x.badNames.filter (fun j => j != i) ++ [i] }

section
variable {s u : State} {h : Half} {a st n : Nat} {both : Bool} {f : PlaceHalf → PlaceHalf}

theorem codewordLost_cache (hr : regionOf s (a % 2 ^ 40) = 8) : codewordLost h a both s =
    plMod h (uncachedAt ((a % 2 ^ 40 - regionBase s 8) / panelBytes)) (elogPut h 1 a 0 s) := by
  unfold codewordLost
  extract_lets off r o own s1
  have hreg : r = 8 := hr
  have ho : o = a % 2 ^ 40 - regionBase s 8 := congrArg (fun r => a % 2 ^ 40 - regionBase s r) hreg
  have hown : own = 0 := by
    unfold own
    rw [hreg]
    rfl
  unfold s1
  rw [hreg, hown, ho]
  rfl

theorem codewordLost_names (hr : regionOf s (a % 2 ^ 40) = 3) : codewordLost h a both s =
    plMod h (badNamed ((a % 2 ^ 40 - regionBase s 3) / 64)) (elogPut h 1 a 0 s) := by
  unfold codewordLost
  extract_lets off r o own s1
  have hreg : r = 3 := hr
  have ho : o = a % 2 ^ 40 - regionBase s 3 := congrArg (fun r => a % 2 ^ 40 - regionBase s r) hreg
  have hown : own = 0 := by
    unfold own
    rw [hreg]
    rfl
  unfold s1
  rw [hreg, hown, ho]
  rfl

/-- What is left of a codeword of stack `st` whose loss `f` shows in the half's placement. -/
def codewordGone (st a : Nat) (f : PlaceHalf → PlaceHalf) (s : State) : State :=
  plMod (stackHalf st) (warnMark false a) (plMod (stackHalf st) f (elogPut (stackHalf st) 1 a 0 (codewordBad st s)))

theorem quiet_codewordGone : quiet (codewordGone st a f s) = quiet s := by
  have helog : ∀ u, quiet (elogPut (stackHalf st) 1 a 0 u) = quiet u := fun u => by
    rw [elogPut_only]
    exact quiet_congr _ _ rfl rfl rfl rfl rfl rfl rfl rfl
  have hbad : quiet (codewordBad st s) = quiet s := by
    rw [codewordBad_only]
    exact quiet_congr _ _ rfl rfl rfl rfl rfl rfl rfl rfl
  rw [codewordGone, quiet_plMod, quiet_plMod, helog, hbad]

theorem codewordGone_easel : (codewordGone st a f s).easel = s.easel := by
  rw [codewordGone, plMod_easel, plMod_easel, elogPut_only, codewordBad_only]

theorem codewordGone_at : (codewordGone st a f s).place.at (stackHalf st) =
    warnMark false a (f (elogged (stackHalf st) 1 a 0 (codewordBad st s) (s.place.at (stackHalf st)))) := by
  have hplace : (codewordBad st s).place = s.place := by rw [codewordBad_only]
  rw [codewordGone, plMod, PerHalf.at_put_self, plMod, PerHalf.at_put_self, elogPut_place, hplace]

theorem codewordGone_regs : (codewordGone st a f s).regs = (elogPut (stackHalf st) 1 a 0 (codewordBad st s)).regs := by
  rw [codewordGone, plMod_regs, plMod_regs]

theorem elogEntry_codewordBad : elogEntry (stackHalf st) 1 a 0 (codewordBad st s) =
    (rd s (pgEasel (stackHalf st)) R.EZ_ELOG_HEAD % 4096,
      [2 ^ 56 + regionOf s (a % 2 ^ 40) * 2 ^ 52 + ezStack a * 2 ^ 48, a, nowH s (stackHalf st), 0]) := by
  have hnow : nowH (codewordBad st s) (stackHalf st) = nowH s (stackHalf st) := by
    rw [codewordBad_only]
    rfl
  rw [elogEntry, codewordBad_head, regionOf_congr (codewordBad_page st s), hnow, Nat.one_mul]

theorem rdI_codewordGone {g : Fld} (j : Nat)
    (hg : (pgEasel (stackHalf st), g.off) ∉ [(pgEasel (stackHalf st), R.EZ_ELOG_HEAD.off),
      (pgEasel (stackHalf st), R.EZ_ELOG_TAIL.off), (pgEasel (stackHalf st), R.EASEL_CNT_ELOG_OVF.off)] ++
        evtRegs (pgEasel (stackHalf st))) :
    rdI (codewordGone st a f s) (pgEasel (stackHalf st)) g j = rdI (codewordBad st s) (pgEasel (stackHalf st)) g j := by
  rw [rdI, codewordGone_regs]
  exact (elogPut_kept (stackHalf st) 1 a 0 (codewordBad st s)).rdI _ _ _ hg

theorem codewordGone_raised : (rd (codewordGone st a f s) (pgEasel (stackHalf st)) R.EVT_RAW).testBit 12 = true := by
  rw [rd, rdI, codewordGone_regs]
  exact evtRaw_elogPut_keeps _ _ _ _ _ (by decide) (codewordBad_raised st s)

theorem codewordGone_uncorrectable (hf : ∀ x, (f x).elog = x.elog) :
    Uncorrectable (stackHalf st) st a (regionOf s (a % 2 ^ 40)) 0 s (codewordGone st a f s) := by
  refine ⟨(rdI_codewordGone 0 ?_).trans (codewordBad_counted st s), (rdI_codewordGone _ ?_).trans (codewordBad_stack st s),
    codewordGone_raised, ?_⟩
  · generalize pgEasel (stackHalf st) = P
    simp [evtRegs]
    decide
  · generalize pgEasel (stackHalf st) = P
    simp [evtRegs]
    decide
  · rw [codewordGone_at, ← elogEntry_codewordBad]
    show _ ∈ (f _).elog
    rw [hf]
    exact List.mem_append_right _ (List.mem_singleton.mpr rfl)

end

end Sys2Proof.Machine
end

section
/-!
SUPPORT. The outcomes of a patrol read (R386-R388), and O38.
-/
namespace Sys2Proof.Machine

theorem exec_patrolRead (st n : Nat) (errs : List Nat) (both : Bool) (s : State) :
    exec (.patrolRead st n errs both) s = done (settle (patrolRead st n errs both s)) := rfl

section
variable {s : State} {st a : Nat}

theorem warnMark_true (a : Nat) (x : PlaceHalf) : (warnMark true a x).warned.contains a = true := by
  simp [warnMark]

theorem warnMark_false (a : Nat) (x : PlaceHalf) : (warnMark false a x).warned.contains a = false := by
  simp [warnMark]

theorem warnMark_retired (corr : Bool) (a : Nat) (x : PlaceHalf) : (warnMark corr a x).retired = x.retired := rfl

theorem plMod_at (h : Half) (f : PlaceHalf → PlaceHalf) (s : State) : (plMod h f s).place.at h = f (s.place.at h) :=
  PerHalf.at_put_self _ _ _

theorem lineClean_facts (h : Half) (a : Nat) (s : State) :
    BytesKept s (plMod h (warnMark false a) s) ∧
      ((plMod h (warnMark false a) s).place.at h).warned.contains a = false ∧
      plMod h (warnMark false a) s = { s with place := (plMod h (warnMark false a) s).place } := by
  refine ⟨bytesKept_of_easel (plMod_easel _ _ _), ?_, rfl⟩
  rw [plMod_at]
  exact warnMark_false _ _

/-- A line at `a` of stack `st` corrected, and warned of. -/
def lineWarned (st a : Nat) (s : State) : State := plMod (stackHalf st) (warnMark true a) (lineCorrected st a s)

theorem quiet_lineWarned (st a : Nat) (s : State) : quiet (lineWarned st a s) = quiet s := by
  rw [lineWarned, quiet_plMod, lineCorrected_only]
  exact quiet_congr _ _ rfl rfl rfl rfl rfl rfl rfl rfl

theorem lineWarned_at (st a : Nat) (s : State) :
    (lineWarned st a s).place.at (stackHalf st) = warnMark true a (s.place.at (stackHalf st)) := by
  rw [lineWarned, plMod_at, lineCorrected_only]

theorem lineWarned_bytes (st a : Nat) (hm : Memory.wf s.easel = true) : BytesKept s (lineWarned st a s) :=
  bytesKept_rewritten hm (by rw [lineWarned, plMod_easel, lineCorrected_only])

theorem rdI_lineWarned (st a : Nat) (s : State) (P : Nat) (f : Fld) (i : Nat) :
    rdI (lineWarned st a s) P f i = rdI (lineCorrected st a s) P f i := by rw [rdI, rdI, lineWarned, plMod_regs]

theorem lineWarned_facts (hm : Memory.wf s.easel = true) :
    BytesKept s (lineWarned st a s) ∧ ((lineWarned st a s).place.at (stackHalf st)).warned.contains a = true ∧
      ((lineWarned st a s).place.at (stackHalf st)).retired = (s.place.at (stackHalf st)).retired ∧
      (rd (lineWarned st a s) (pgEasel (stackHalf st)) R.EVT_RAW).testBit 8 = true ∧
      rd (lineWarned st a s) (pgEasel (stackHalf st)) R.EASEL_CNT_CORR =
        rd (bump (pgEasel (stackHalf st)) R.EASEL_CNT_CORR s) (pgEasel (stackHalf st)) R.EASEL_CNT_CORR := by
  refine ⟨lineWarned_bytes st a hm, ?_, ?_, ?_, (rdI_lineWarned ..).trans (lineCorrected_counted st a s)⟩
  · rw [lineWarned_at]
    exact warnMark_true _ _
  · rw [lineWarned_at, warnMark_retired]
  · rw [rd, rdI_lineWarned]
    exact lineCorrected_raised st a s

/-- What a retired line leaves: the bytes, one line more among the retired, one spare fewer and the event. -/
theorem lineWarned_retires (hm : Memory.wf s.easel = true)
    (hleft : 1 < rdI s (pgEasel (stackHalf st)) R.EZ_STK_VIEW_1_SPARES_LEFT (st % 4))
    (hfits : rdI s (pgEasel (stackHalf st)) R.EZ_STK_VIEW_1_SPARES_LEFT (st % 4) < 2 ^ R.EZ_STK_VIEW_1_SPARES_LEFT.w)
    (hr : (s.place.at (stackHalf st)).retired.contains a = false) :
    quiet (lineRetire st a (lineWarned st a s)) = quiet s ∧ BytesKept s (lineRetire st a (lineWarned st a s)) ∧
      ((lineRetire st a (lineWarned st a s)).place.at (stackHalf st)).retired =
        (s.place.at (stackHalf st)).retired ++ [a] ∧
      rdI (lineRetire st a (lineWarned st a s)) (pgEasel (stackHalf st)) R.EZ_STK_VIEW_1_SPARES_LEFT (st % 4) =
        rdI s (pgEasel (stackHalf st)) R.EZ_STK_VIEW_1_SPARES_LEFT (st % 4) - 1 ∧
      (rd (lineRetire st a (lineWarned st a s)) (pgEasel (stackHalf st)) R.EVT_RAW).testBit 9 = true := by
  have hspares := (rdI_lineWarned st a s (pgEasel (stackHalf st)) R.EZ_STK_VIEW_1_SPARES_LEFT (st % 4)).trans
    (lineCorrected_spares st a s)
  have hret : ((lineWarned st a s).place.at (stackHalf st)).retired = (s.place.at (stackHalf st)).retired := by
    rw [lineWarned_at, warnMark_retired]
  rw [← hspares] at hleft hfits ⊢
  obtain ⟨hquiet, heasel, hplus, hspare, hevt⟩ := lineRetire_facts hleft hfits (by rw [hret]; exact hr)
  exact ⟨hquiet.trans (quiet_lineWarned st a s),
    fun b => (bytesKept_of_easel heasel b).trans (lineWarned_bytes st a hm b), hplus.trans (by rw [hret]), hspare, hevt⟩

end

section
variable {s : State} {st n a : Nat} {h : Half} {both : Bool}

theorem patrolRead_keeps (hp : Patrolled s st n a h) : Ends (.patrolRead st n [0, 0, 0, 0] both) s (fun t =>
    BytesKept s t ∧ (t.place.at h).warned.contains a = false ∧ t = { s with place := t.place }) := by
  obtain ⟨hq, hst, hn, rfl, rfl, hm⟩ := hp
  have hx := exec_patrolRead st n [0, 0, 0, 0] both s
  rw [patrolRead_clean hst hn] at hx
  exact ends_settle hx ((quiet_plMod _ _).trans hq) (lineClean_facts _ _ _)

theorem patrolRead_warns {e : Nat} (hp : Patrolled s st n a h) (h1 : 1 ≤ e) (h2 : e ≤ 2)
    (hw : (s.place.at h).warned.contains a = false) : Ends (.patrolRead st n [e] both) s (fun t =>
      BytesKept s t ∧ (t.place.at h).warned.contains a = true ∧
        (t.place.at h).retired = (s.place.at h).retired ∧ (rd t (pgEasel h) R.EVT_RAW).testBit 8 = true ∧
        rd t (pgEasel h) R.EASEL_CNT_CORR = rd (bump (pgEasel h) R.EASEL_CNT_CORR s) (pgEasel h) R.EASEL_CNT_CORR) := by
  obtain ⟨hq, hst, hn, rfl, rfl, hm⟩ := hp
  have hx := exec_patrolRead st n [e] both s
  rw [patrolRead_corrects hst hn h1 h2 hw] at hx
  exact ends_settle hx ((quiet_lineWarned _ _ _).trans hq) (lineWarned_facts hm)

theorem patrolRead_retires_ends {e left : Nat} (hp : Patrolled s st n a h) (h3 : 3 ≤ e) (h4 : e ≤ 4)
    (hr : (s.place.at h).retired.contains a = false)
    (hl : left = rdI s (pgEasel h) R.EZ_STK_VIEW_1_SPARES_LEFT (st % 4)) (hleft : 1 < left)
    (hfits : left < 2 ^ R.EZ_STK_VIEW_1_SPARES_LEFT.w) : Ends (.patrolRead st n [e] both) s (fun t => BytesKept s t ∧
      (t.place.at h).retired = (s.place.at h).retired ++ [a] ∧
      rdI t (pgEasel h) R.EZ_STK_VIEW_1_SPARES_LEFT (st % 4) = left - 1 ∧
      (rd t (pgEasel h) R.EVT_RAW).testBit 9 = true) := by
  obtain ⟨hq, hst, hn, rfl, rfl, hm⟩ := hp
  subst hl
  have hx := exec_patrolRead st n [e] both s
  rw [patrolRead_retires hst hn h3 h4] at hx
  obtain ⟨hquiet, hfacts⟩ := lineWarned_retires hm hleft hfits hr
  exact ends_settle hx (hquiet.trans hq) hfacts

/-- A codeword lost with the mark `f` in the half's placement, whatever `f` is. -/
theorem patrolRead_loses_ends {f : PlaceHalf → PlaceHalf} (hp : Patrolled s st n a h)
    (hlost : codewordLost h a both (codewordBad st s) = plMod h f (elogPut h 1 a 0 (codewordBad st s)))
    (hf : ∀ x, (f x).elog = x.elog) : Ends (.patrolRead st n [5] both) s (fun t =>
      Uncorrectable h st a (regionOf s (a % 2 ^ 40)) 0 s t ∧ BytesKept s t ∧
      t.place.at h = warnMark false a (f (elogged h 1 a 0 (codewordBad st s) (s.place.at h)))) := by
  obtain ⟨hq, hst, hn, rfl, rfl, hm⟩ := hp
  have hx := exec_patrolRead st n [5] both s
  rw [patrolRead_loses hst hn, hlost] at hx
  exact ends_settle hx (quiet_codewordGone.trans hq)
    ⟨codewordGone_uncorrectable hf, bytesKept_of_easel codewordGone_easel, codewordGone_at⟩

theorem ends_weaken {c : Instr} {P Q : State → Prop} (h : Ends c s P) (hPQ : ∀ t, P t → Q t) : Ends c s Q :=
  h.imp fun t => And.imp_right (hPQ t)

theorem patrolRead_uncaches (hp : Patrolled s st n a h) (hr : regionOf s (a % 2 ^ 40) = 8) :
    Ends (.patrolRead st n [5] both) s (fun t => Uncorrectable h st a 8 0 s t ∧
      BytesKept s t ∧ (t.place.at h).cache =
        (s.place.at h).cache.filter (fun c => c.place != (a % 2 ^ 40 - regionBase s 8) / panelBytes)) := by
  have hbase := regionBase_congr (codewordBad_page st s) 8
  have hlost := codewordLost_cache (h := h) (both := both) ((regionOf_congr (codewordBad_page st s) _).trans hr)
  rw [hbase] at hlost
  refine ends_weaken (patrolRead_loses_ends hp hlost fun _ => rfl) fun t ht => ?_
  obtain ⟨hun, hbytes, hat⟩ := ht
  rw [hr] at hun
  refine ⟨hun, hbytes, ?_⟩
  rw [hat]
  rfl

theorem patrolRead_marksNames (hp : Patrolled s st n a h) (hr : regionOf s (a % 2 ^ 40) = 3) :
    Ends (.patrolRead st n [5] both) s (fun t => Uncorrectable h st a 3 0 s t ∧
      BytesKept s t ∧ (t.place.at h).badNames.contains ((a % 2 ^ 40 - regionBase s 3) / 64) = true) := by
  have hbase := regionBase_congr (codewordBad_page st s) 3
  have hlost := codewordLost_names (h := h) (both := both) ((regionOf_congr (codewordBad_page st s) _).trans hr)
  rw [hbase] at hlost
  refine ends_weaken (patrolRead_loses_ends hp hlost fun _ => rfl) fun t ht => ?_
  obtain ⟨hun, hbytes, hat⟩ := ht
  rw [hr] at hun
  refine ⟨hun, hbytes, ?_⟩
  rw [hat]
  simp [warnMark, badNamed]

end

/-! O38. -/

theorem exec_pageRelease (h : Half) (p : Nat) (s : State) :
    exec (.pageRelease h p) s = done (settle (pageRelease h p s)) := rfl

theorem pageRelease_waits_ends {s : State} {h : Half} {p : Nat} (hq : quiet s = true)
    (hu : (s.place.at h).used.contains p = true) (hh : pageHeld s h p = false) (hr : jrnlRoom s h = false) :
    Ends (.pageRelease h p) s (fun t => (t.place.at h).used = (s.place.at h).used ∧ (t.jrnl.at h).full = true ∧
      rd t (pgEasel h) R.EASEL_CNT_JRNL_WAIT =
        rd (bump (pgEasel h) R.EASEL_CNT_JRNL_WAIT s) (pgEasel h) R.EASEL_CNT_JRNL_WAIT ∧
      ((s.jrnl.at h).full = false → (rd t (pgEasel h) R.EVT_RAW).testBit 1 = true)) := by
  have hx := exec_pageRelease h p s
  have hstep := jrnlWait_step h s
  rw [pageRelease_waits hu hh hr] at hx
  exact ends_settle hx (hstep.quiet.trans hq) ⟨congrArg (fun u => (u.place.at h).used) hstep, jrnlWait_tells h s⟩

theorem wearGapCopy_rests {s : State} {st : Nat} (hq : quiet s = true)
    (h : rdB s pgEaselG R.EZG_CTRL_WL_EN = false ∨
      rdI s (pgEasel (stackHalf st)) R.EZ_STK_VIEW_0_LINE_WRITES (st % 4) < (gapGet s (stackHalf st) (st % 4)).1 + 64) :
    exec (.wearGapCopy st) s = .next s :=
  exec_settled (congrArg (fun t => done (settle t)) (gapCopy_rests h)) hq

/-- Settles O38: page releases and checkpoints by the journal's step, a fill by the store to the cache's place, patrol
reads by what they do to the first codeword of the line, and the gap by the line write its move counts. -/
theorem easelKeepsItsPagesAndLines : Obligations.EaselKeepsItsPagesAndLines := by
  unfold Obligations.EaselKeepsItsPagesAndLines
  refine ⟨fun s h p hq => ⟨fun hp => ?_, pageRelease_waits_ends hq, pageRelease_ends hq⟩,
    fun s h hq => journalCheckpoint_ends hq, fun s h hq => ⟨fun hf => ?_, fun f r q hf hc hm => cacheFill_ends hq hf hc hm⟩,
    fun s st n a h both hp => ⟨patrolRead_keeps hp, fun e => patrolRead_warns hp,
      fun e left h3 h4 hr hl hleft hfits => patrolRead_retires_ends hp h3 h4 hr hl hleft hfits,
      patrolRead_uncaches hp, patrolRead_marksNames hp⟩,
    ?_, fun s h v hl => ends_tailWrite rfl hl rfl⟩
  · exact exec_settled (congrArg (fun t => done (settle t)) (pageRelease_stays hp)) hq
  · have hnone : cacheFill h s = s := by
      rw [cacheFill, hf]
    exact exec_settled (congrArg (fun t => done (settle t)) hnone) hq
  · rintro s st h hq hst rfl
    exact ⟨wearGapCopy_rests hq, fun hen hdue hpos => wearGapCopy_ends hq hen hst hdue hpos⟩

end Sys2Proof.Machine
end

section
/-!
SUPPORT. Bytes that a data-port access writes where its byte enables say so (R510, R514), and the bytes of a policy region
and of a staging area (R367, R372, R511).
-/
namespace Sys2Proof.Machine

/-- A cell list with the enabled bytes of a run written from `c` on. -/
def maskedPuts (c : Nat) : List Bool → List Byte → List Host.Cell → List Host.Cell
  | e :: es, d :: ds, m => maskedPuts (c + 1) es ds (if e then cellPut c d m else m)
  | _, _, m => m

section
variable {c : Nat} {es : List Bool} {ds : List Byte} {m : List Host.Cell}

theorem maskedCell_wf (e : Bool) (c : Nat) (d : Byte) (hm : Memory.wf m = true) :
    Memory.wf (if e then cellPut c d m else m) = true := by
  split
  · exact cellPut_wf c d m hm
  · exact hm

theorem cellGet_maskedPuts_other {b : Nat} (hm : Memory.wf m = true) (hb : ¬ (c ≤ b ∧ b < c + es.length)) :
    cellGet b (maskedPuts c es ds m) = cellGet b m := by
  induction es generalizing c ds m with
  | nil => rfl
  | cons e es ih =>
    cases ds with
    | nil => rfl
    | cons d ds =>
      rw [List.length_cons] at hb
      rw [maskedPuts, ih (maskedCell_wf e c d hm) (by omega)]
      split
      · exact cellGet_cellPut_other c b d m hm (by omega)
      · rfl

theorem cellGet_maskedPuts_self {i : Nat} (hm : Memory.wf m = true) (hl : ds.length = es.length) (hi : i < es.length) :
    cellGet (c + i) (maskedPuts c es ds m) =
      if (es[i]?).getD false then (ds[i]?).getD 0 else cellGet (c + i) m := by
  induction es generalizing c ds m i with
  | nil => exact absurd hi (Nat.not_lt_zero i)
  | cons e es ih =>
    cases ds with
    | nil => exact absurd hl (Nat.succ_ne_zero _).symm
    | cons d ds =>
      rw [maskedPuts]
      cases i with
      | zero =>
        rw [cellGet_maskedPuts_other (maskedCell_wf e c d hm) (by omega)]
        cases e
        · rfl
        · exact cellGet_cellPut_self c d m hm
      | succ i =>
        rw [show c + (i + 1) = c + 1 + i by omega,
          ih (maskedCell_wf e c d hm) (Nat.succ.inj hl) (Nat.lt_of_succ_lt_succ hi)]
        have hold : cellGet (c + 1 + i) (if e then cellPut c d m else m) = cellGet (c + 1 + i) m := by
          split
          · exact cellGet_cellPut_other c (c + 1 + i) d m hm (by omega)
          · rfl
        rw [hold]
        rfl

theorem maskedPuts_all (c : Nat) (ds : List Byte) (m : List Host.Cell) :
    maskedPuts c (List.replicate ds.length true) ds m = cellPuts c ds m := by
  induction ds generalizing c m with
  | nil => rfl
  | cons d ds ih => exact ih (c + 1) (cellPut c d m)

/-- Byte after byte of the enabled ones, at the cells `g` gives their addresses. -/
theorem foldl_enabled (g : Nat → Nat) (b k : Nat) (ds : List Byte) (hg : ∀ i, i < es.length → g (b + (k + i)) = c + i) :
    ((((List.range' k es.length).zip (es.zip ds)).filter (fun x => x.2.1)).map (fun x => (b + x.1, x.2.2))).foldl
      (fun m x => cellPut (g x.1) x.2 m) m = maskedPuts c es ds m := by
  induction es generalizing k c ds m with
  | nil => rfl
  | cons e es ih =>
    cases ds with
    | nil => simp [maskedPuts]
    | cons d ds =>
      have hnext : ∀ i, i < es.length → g (b + (k + 1 + i)) = c + 1 + i := fun i hi => by
        rw [show k + 1 + i = k + (i + 1) by omega, hg (i + 1) (Nat.succ_lt_succ hi)]
        omega
      have hhead : g (b + k) = c := hg 0 (Nat.succ_pos _)
      rw [maskedPuts, List.length_cons, List.range'_succ, List.zip_cons_cons, List.zip_cons_cons]
      cases e
      · exact ih (k + 1) ds hnext
      · refine Eq.trans ?_ (ih (k + 1) ds hnext)
        show List.foldl _ (cellPut (g (b + k)) d m) _ = _
        rw [hhead]
        rfl

end

theorem dpBytes_puts {a : DpAcc} {c : Nat} (g : Nat → Nat) (m : List Host.Cell) (hb : a.ben.length = a.size)
    (hg : ∀ i, i < a.size → g (a.addr + i) = c + i) :
    (dpBytes a).foldl (fun m x => cellPut (g x.1) x.2 m) m = maskedPuts c a.ben a.data m := by
  rw [dpBytes, List.range_eq_range', ← hb]
  refine foldl_enabled g a.addr 0 a.data fun i hi => ?_
  rw [Nat.zero_add]
  exact hg i (hb ▸ hi)

theorem foldl_ezWrite (l : List (Nat × Byte)) (s : State) : l.foldl (fun t x => ezWrite x.1 [x.2] t) s =
    { s with easel := l.foldl (fun m x => cellPut x.1 x.2 m) s.easel } := by
  induction l generalizing s with
  | nil => rfl
  | cons x l ih => exact ih (ezWrite x.1 [x.2] s)

theorem getD_fit {n i : Nat} (hi : i < n) (l : List Byte) : ((fit n l)[i]?).getD 0 = (l[i]?).getD 0 := by
  by_cases hl : i < l.length
  · rw [fit, List.getElem?_append_left (by simp; omega), List.getElem?_take_of_lt hi]
  · rw [fit, List.getElem?_append_right (by simp; omega), List.getElem?_eq_none (Nat.le_of_not_lt hl)]
    simp [zeros, List.getElem?_replicate]
    split <;> rfl

/-! The bytes of a policy region (R363, R372). -/

theorem regionOf_sys {s : State} {o : Nat} (ho : o < 2 ^ 31) : regionOf s o = 0 := by
  have hbase : ∀ r, 2 ^ 31 ≤ regionBase s (r + 1) := fun r => by
    rw [regionBase, regionSizes, List.take_succ_cons, List.sum_cons]
    omega
  rw [regionOf, List.length_eq_zero_iff, List.filter_eq_nil_iff]
  intro r _
  have := hbase r
  simp
  omega

theorem ezView_policy {s : State} {a o : Nat} {h : Half} (ha : a = ezAddr h o) (h1 : 0x100000 ≤ o) (h2 : o < 0x200000) :
    ezView s a = ezByte s a := by
  have ho : a % 2 ^ 40 = o := by
    rw [ha, ezAddr]
    omega
  unfold ezView
  extract_lets g o' free r b x
  have ho' : o' = o := ho
  have hr : r = 0 := regionOf_sys (by omega)
  rw [hr, ho']
  exact if_pos ⟨h1, h2⟩

theorem ezView_run {s : State} {a n : Nat} (hp : InPolicyRegion s a n) :
    (List.range n).map (fun i => ezView s (a + i)) = ezRead s a n := by
  obtain ⟨h, -, hlo, hhi⟩ := hp
  refine List.map_congr_left fun i hi => ?_
  have hin := List.mem_range.mp hi
  rw [ezAddr] at hlo hhi
  exact ezView_policy (h := h) (o := a + i - h.num * 2 ^ 40) (by rw [ezAddr]; omega) (by omega) (by omega)

end Sys2Proof.Machine
end

section
/-!
SUPPORT. An access that finds nothing waiting at the data port: how it starts, what it answers and how it fails
(R509-R513).
-/
namespace Sys2Proof.Machine

/-! One access alone at the data port. -/

/-- Access `a` alone at the data port. -/
def dpHeld (a : DpAcc) (s : State) : State := { s with dp := [a], nextDp := s.nextDp + 1 }

/-- A data-port access as it arrives. -/
def dpNew (id : Nat) (bar2 write : Bool) (space addr size : Nat) (data : List Byte) (ben : List Bool) : DpAcc :=
  { id, bar2, write, path := 0, space, addr, size, data, ben }

theorem dp_of_quiet {s : State} (hq : quiet s = true) : s.dp = [] := by
  simp only [quiet, Bool.and_eq_true] at hq
  obtain ⟨⟨-, hd⟩, -⟩ := hq
  exact List.isEmpty_iff.mp hd

theorem dpGo_once {s : State} {a : DpAcc} (h : dpNext s.dp false = some a) : dpGo 1 s = dpStart a s := by
  rw [dpGo, h]
  rfl

theorem dpArrive_starts {s : State} (hd : s.dp = []) (bar2 write : Bool) (space addr size : Nat) (data : List Byte)
    (ben : List Bool) : dpArrive bar2 write space addr size data ben s =
      dpStart (dpNew s.nextDp bar2 write space addr size data ben)
        (dpHeld (dpNew s.nextDp bar2 write space addr size data ben) s) := by
  have hnext : dpNext [dpNew s.nextDp bar2 write space addr size data ben] false =
      some (dpNew s.nextDp bar2 write space addr size data ben) := by
    cases write <;> rfl
  unfold dpArrive
  rw [hd]
  show dpGo 1 (dpHeld _ s) = _
  exact dpGo_once hnext

section
variable {s u : State} {a : DpAcc} {c : Nat}

theorem dpDrop_alone (hu : u.dp = [a]) (hs : s.dp = []) : dpDrop a.id u = { u with dp := s.dp } := by
  rw [dpDrop, hu, hs, List.filter_cons, bne_self_eq_false]
  rfl

/-- What an access answers with bytes `bs`. -/
def dpAnswer (a : DpAcc) (bs : List Byte) : Out := if a.bar2 then .bytes bs else .answer a.path (leNat bs)

theorem dpReply_eq (a : DpAcc) (bs : List Byte) (s : State) : dpReply a bs s = emit (dpAnswer a bs) s := by
  unfold dpReply dpAnswer
  split <;> rfl

/-! The three ways to go on without the Atnen space (R510-R513). -/

theorem dpStart_reads_easel (hr : dpRefusal s a = none) (hs : a.space = 0) (hw : a.write = false) : dpStart a s =
    dpDrop a.id (dpReply a ((List.range a.size).map (fun i => ezView s (a.addr + i)))
      { s with freeSeq := s.freeSeq + 1 }) := by
  unfold dpStart
  rw [hr, hs, hw]
  rfl

theorem dpStart_writes_easel (hr : dpRefusal s a = none) (hs : a.space = 0) (hw : a.write = true) : dpStart a s =
    dpDrop a.id ((dpBytes a).foldl (fun t x => ezWrite x.1 [x.2] t) (ezStore a.addr (ezRead s a.addr a.size) s)) := by
  unfold dpStart
  rw [hr, hs, hw]
  rfl

theorem dpStart_writes_stage (hr : dpRefusal s a = none) (hs : a.space = 2) (hw : a.write = true) : dpStart a s =
    dpDrop a.id { s with stage := (dpBytes a).foldl (fun m x =>
      cellPut ((dpHalf a).num * 0x800000 + (x.1 % 2 ^ 24 - 0x800000)) x.2 m) s.stage } := by
  unfold dpStart
  rw [hr, hs, hw]
  rfl

/-- An Easel write in range and outside the policy regions raises DP_DENY (R372). -/
def dpDenied (a : DpAcc) (s : State) : State :=
  if a.write && a.space == 0 && !dpRange s a && !inPolicy a then raise (pgEasel (dpHalf a)) 7 s else s

theorem dpStart_refused (hr : dpRefusal s a = some c) (hp : a.parts = []) : dpStart a s = dpDrop a.id
    (if a.write then dpError c a.addr (dpDenied a s)
      else dpReply a (List.replicate a.size 255) (dpError c a.addr (dpDenied a s))) := by
  have hfail : ∀ t, dpFail a c t = dpDrop a.id
      (if a.write then dpError c a.addr t else dpReply a (List.replicate a.size 255) (dpError c a.addr t)) := fun t => by
    unfold dpFail
    rw [hp]
    cases a.write <;> rfl
  unfold dpStart
  rw [hr]
  exact hfail _

end

/-! What a failed access leaves (R513). -/

section
variable (c x : Nat) (u : State)

/-- A failed access counted, with DP_ERR raised. -/
def dpCounted : State := raise pgHost 3 (bump pgHost R.HOST_CNT_DP_ERR
  (wr pgDataPort R.DP_STAT_ERR_COUNT (min (rd u pgDataPort R.DP_STAT_ERR_COUNT + 1) (2 ^ 32 - 1)) u))

theorem dpError_eq : dpError c x u = if rdB u pgDataPort R.DP_STAT_ERR_VALID then dpCounted u else
    wr pgDataPort R.DP_STAT_ERR_VALID 1 (wr pgDataPort R.DP_STAT_ERR_CODE c (wr pgDataPort R.DP_ERR_ADDR x
      (dpCounted u))) := rfl

theorem dpCounted_only : dpCounted u = { u with regs := (dpCounted u).regs, strikes := (dpCounted u).strikes } := by
  rw [dpCounted, raise_only, bump_only]
  rfl

theorem dpError_only : dpError c x u = { u with
    regs := (dpError c x u).regs, strikes := (dpError c x u).strikes } := by
  rw [dpError_eq]
  split
  · exact dpCounted_only u
  · rw [dpCounted_only]
    rfl

theorem dpError_kept : RegsKept ([(pgDataPort, R.DP_STAT_ERR_VALID.off), (pgDataPort, R.DP_ERR_ADDR.off),
    (pgHost, R.HOST_CNT_DP_ERR.off)] ++ evtRegs pgHost) u (dpError c x u) := by
  have hcount : RegsKept ([(pgDataPort, R.DP_STAT_ERR_VALID.off), (pgDataPort, R.DP_ERR_ADDR.off),
      (pgHost, R.HOST_CNT_DP_ERR.off)] ++ evtRegs pgHost) u (dpCounted u) :=
    (((RegsKept.refl _ u).wrI_mem (by decide)).bump_mem (by decide)).raise_mem (by decide)
  rw [dpError_eq]
  split
  · exact hcount
  · exact ((hcount.wrI_mem (by decide)).wrI_mem (by decide)).wrI_mem (by decide)

theorem rd_dpCounted {g : Fld} (hg : g.off ≠ R.EVT_RAW.off ∧ g.off ≠ R.EVT_PEND.off) (hn : g.off ≠ R.HOST_CNT_DP_ERR.off)
    (hc : (g.off, g.lo) ≠ (R.DP_STAT_ERR_COUNT.off, R.DP_STAT_ERR_COUNT.lo)) (Q : Nat) :
    rd (dpCounted u) Q g = rd u Q g := by
  rw [dpCounted, rd_raise_off _ _ _ _ hg, bump, rd_bumpBy_off _ _ _ _ hn, rd_wr_place _ _ _ _ hc]

/-- A field that no first failure writes reads as after the count. -/
theorem rd_dpError {g : Fld} (hv : (g.off, g.lo) ≠ (R.DP_STAT_ERR_VALID.off, R.DP_STAT_ERR_VALID.lo))
    (hc : (g.off, g.lo) ≠ (R.DP_STAT_ERR_CODE.off, R.DP_STAT_ERR_CODE.lo))
    (ha : (g.off, g.lo) ≠ (R.DP_ERR_ADDR.off, R.DP_ERR_ADDR.lo)) (Q : Nat) :
    rd (dpError c x u) Q g = rd (dpCounted u) Q g := by
  rw [dpError_eq]
  split
  · rfl
  · rw [rd_wr_place _ _ _ _ hv, rd_wr_place _ _ _ _ hc, rd_wr_place _ _ _ _ ha]

variable {c x u}

theorem dpError_first (hc : c < 2 ^ 8) (hx : x < 2 ^ 64) (hv : rdB u pgDataPort R.DP_STAT_ERR_VALID = false) :
    rd (dpError c x u) pgDataPort R.DP_STAT_ERR_VALID = 1 ∧ rd (dpError c x u) pgDataPort R.DP_STAT_ERR_CODE = c ∧
      rd (dpError c x u) pgDataPort R.DP_ERR_ADDR = x := by
  rw [dpError_eq, hv]
  refine ⟨rd_wr_self _ _ _ _, ?_, ?_⟩
  · refine (rd_wr_place _ _ _ _ (by decide)).trans ((rd_wr_self _ _ _ _).trans (Nat.mod_eq_of_lt hc))
  · refine (rd_wr_place _ _ _ _ (by decide)).trans ((rd_wr_place _ _ _ _ (by decide)).trans
      ((rd_wr_self _ _ _ _).trans (Nat.mod_eq_of_lt hx)))

theorem dpError_later (hv : rdB u pgDataPort R.DP_STAT_ERR_VALID = true) : dpError c x u = dpCounted u := by
  rw [dpError_eq, hv]
  rfl

/-- What the reader of a failed access sees, when the data port's page reads before it as it does in `s`. -/
theorem dpFailed_dpError {s : State} (hc : c < 2 ^ 8) (hx : x < 2 ^ 64)
    (hr : ∀ g : Fld, g.off ≠ R.DP_ADDR.off → rd u pgDataPort g = rd s pgDataPort g)
    (hh : ∀ g : Fld, rd u pgHost g = rd s pgHost g) (heasel : u.easel = s.easel) (hstage : u.stage = s.stage)
    (hapu : u.apu = s.apu) : DpFailed c x s (dpError c x u) := by
  have honly := dpError_only c x u
  have hvalid : rdB u pgDataPort R.DP_STAT_ERR_VALID = rdB s pgDataPort R.DP_STAT_ERR_VALID :=
    congrArg (· != 0) (hr _ (by decide))
  have hcount : rd (dpError c x u) pgDataPort R.DP_STAT_ERR_COUNT =
      min (rd s pgDataPort R.DP_STAT_ERR_COUNT + 1) (2 ^ 32 - 1) := by
    rw [rd_dpError _ _ _ (by decide) (by decide) (by decide), dpCounted, rd_raise_off _ _ _ _ (by decide), bump,
      rd_bumpBy_off _ _ _ _ (by decide), rd_wr_self, hr _ (by decide)]
    exact Nat.mod_eq_of_lt (by show _ < 2 ^ 32; omega)
  have hcnt : rd (dpError c x u) pgHost R.HOST_CNT_DP_ERR =
      rd (bump pgHost R.HOST_CNT_DP_ERR s) pgHost R.HOST_CNT_DP_ERR := by
    rw [rd_dpError _ _ _ (by decide) (by decide) (by decide), dpCounted, rd_raise_off _ _ _ _ (by decide)]
    exact rd_bump_congr ((rd_wr_place _ _ _ _ (by decide)).trans (hh _))
      ((rd_wr_place _ _ _ _ (by decide)).trans (hh _))
  have hevt : (rd (dpError c x u) pgHost R.EVT_RAW).testBit 3 = true := by
    rw [rd_dpError _ _ _ (by decide) (by decide) (by decide)]
    exact evtRaw_raise_self _ _ (by decide)
  refine ⟨hcount, hcnt, hevt, ?_, fun hv => ?_, fun hv => ?_, ?_, ?_, ?_⟩
  · cases hv : rdB u pgDataPort R.DP_STAT_ERR_VALID with
    | false =>
      rw [(dpError_first hc hx hv).1]
      decide
    | true =>
      rw [dpError_later hv, rd_dpCounted _ (by decide) (by decide) (by decide)]
      exact bne_iff_ne.mp hv
  · exact (dpError_first hc hx (hvalid.trans hv)).2
  · rw [dpError_later (hvalid.trans hv), rd_dpCounted _ (by decide) (by decide) (by decide),
      rd_dpCounted _ (by decide) (by decide) (by decide)]
    exact ⟨hr _ (by decide), hr _ (by decide)⟩
  · rw [honly, heasel]
  · rw [honly, hstage]
  · rw [honly, hapu]

end

end Sys2Proof.Machine
end

section
/-!
SUPPORT. DP_DATA: the policy regions of Easel, the staging areas, stations, and accesses that fail (R509-R513).
-/
namespace Sys2Proof.Machine

/-! DP_ADDR steps on (R510). -/

/-- The state in which an access by DP_DATA starts. -/
def dpStepped (s : State) : State :=
  wr pgDataPort R.DP_ADDR ((rd s pgDataPort R.DP_ADDR + 4 * rd s pgDataPort R.DP_STRIDE) % 2 ^ 64) (unlatched pgDataPort s)

/-- The access that DP_DATA makes. -/
def dpAcc (write wide : Bool) (v : BitVec 64) (s : State) : DpAcc :=
  dpNew s.nextDp false write (rd s pgDataPort R.DP_CFG_SPACE) (rd s pgDataPort R.DP_ADDR) (dpN wide)
    (leBytes (dpN wide) v.toNat) (List.replicate (dpN wide) true)

section
variable {s : State} {write wide : Bool} {v : BitVec 64}

theorem dpData_eq (w : Nat) (u : State) : dpData write wide w u =
    dpArrive false write (rd u pgDataPort R.DP_CFG_SPACE) (rd u pgDataPort R.DP_ADDR) (dpN wide) (leBytes (dpN wide) w)
      (List.replicate (dpN wide) true)
      (wr pgDataPort R.DP_ADDR ((rd u pgDataPort R.DP_ADDR + 4 * rd u pgDataPort R.DP_STRIDE) % 2 ^ 64) u) := rfl

theorem exec_dpDataAccess (hq : quiet s = true) : exec (.dpDataAccess write wide v) s =
    done (settle (dpStart (dpAcc write wide v s) (dpHeld (dpAcc write wide v s) (dpStepped s)))) := by
  have hx : exec (.dpDataAccess write wide v) s = done (settle (dpData write wide v.toNat (unlatched pgDataPort s))) :=
    exec_onPage_live (f := fun s => settle (dpData write wide v.toNat s)) (pageLive_of_global rfl s) rfl
  have hd : (dpStepped s).dp = [] := dp_of_quiet hq
  rw [hx, dpData_eq, rd_unlatched, rd_unlatched, rd_unlatched]
  exact congrArg (fun t => done (settle t)) (dpArrive_starts hd false write _ _ _ _ _)

theorem rd_dpStepped {g : Fld} (hg : g.off ≠ R.DP_ADDR.off) (Q : Nat) : rd (dpStepped s) Q g = rd s Q g :=
  rd_wr_place _ _ _ _ fun e => hg (congrArg Prod.fst e)

theorem rd_dpStepped_page (Q : Nat) (hQ : Q ≠ pgDataPort) (g : Fld) : rd (dpStepped s) Q g = rd s Q g :=
  rd_wr_other _ _ _ _ _ _ fun e => hQ (congrArg RKey.page e)

theorem stepped_dpStepped (s : State) : Stepped s (dpStepped s) :=
  (rd_wr_self _ _ _ _).trans (Nat.mod_mod _ _)

theorem dpStepped_kept (s : State) : RegsKept [(pgDataPort, R.DP_ADDR.off)] s (dpStepped s) :=
  wr_kept _ _ _ (unlatched pgDataPort s)

theorem quiet_dpStepped (s : State) : quiet (dpStepped s) = quiet s := (quiet_wr ..).trans (quiet_unlatched ..)

end

/-! Where an access lies (R361, R509, R511). -/

section
variable {s : State} {a : DpAcc} {h : Half}

theorem half_of_num (h : Half) : (if h.num % 2 = 0 then Half.west else Half.east) = h := by cases h <;> rfl

theorem dpHalf_easel (hs : a.space = 0) (ha : a.addr / 2 ^ 40 = h.num) : dpHalf a = h := by
  rw [dpHalf, if_pos hs, ha]
  exact half_of_num h

theorem dpHalf_stage (hs : a.space = 2) (ha : a.addr / 2 ^ 24 = h.num) : dpHalf a = h := by
  rw [dpHalf, if_neg (show ¬ a.space = 0 by rw [hs]; decide), ha]
  exact half_of_num h

theorem half_num_le (h : Half) : h.num ≤ 1 := by cases h <;> decide

theorem dpRange_easel (hs : a.space = 0) (hup : halfUp s h = true) (ha : a.addr / 2 ^ 40 = h.num)
    (hend : dpLast a < 2 ^ 41) : dpRange s a = false := by
  unfold dpRange
  rw [hs]
  show (decide _ || !halfUp s (dpHalf a)) = false
  rw [dpHalf_easel hs ha, hup, decide_eq_false (Nat.not_le.mpr hend)]
  rfl

theorem dpRange_stage (hs : a.space = 2) (hup : halfUp s h = true) (ha : a.addr / 2 ^ 24 = h.num)
    (hend : dpLast a < 2 ^ 25) : dpRange s a = false := by
  unfold dpRange
  rw [hs]
  show (decide _ || !halfUp s (dpHalf a)) = false
  rw [dpHalf_stage hs ha, hup, decide_eq_false (Nat.not_le.mpr hend)]
  rfl

theorem dpRange_atnen (hs : a.space = 1) (hend : a.addr + a.size ≤ 2 ^ 46) : dpRange s a = false := by
  unfold dpRange
  rw [hs]
  exact decide_eq_false (by unfold dpLast; omega)

/-! An access that its address and its alignment allow is judged by its space (R512, R513). -/

theorem dpRefusal_easel (hr : dpRange s a = false) (ha : a.addr % (if a.bar2 then 4 else a.size) = 0)
    (hs : a.space = 0) : dpRefusal s a = if a.write && !inPolicy a then some 3 else none := by
  simp [dpRefusal, hr, ha, hs]

theorem dpRefusal_atnen (hr : dpRange s a = false) (ha : a.addr % (if a.bar2 then 4 else a.size) = 0)
    (hs : a.space = 1) : dpRefusal s a =
      if a.write && (stnObject s (dpPort a) (dpStn a) || !(rd s pgProtect R.PR_ATN_WREN_MASK).testBit (dpPort a)) then
        some 3
      else tgtDead s (dpPort a) (dpStn a) := by
  simp [dpRefusal, hr, ha, hs]

theorem dpRefusal_sram (hr : dpRange s a = false) (ha : a.addr % (if a.bar2 then 4 else a.size) = 0)
    (hs : a.space = 2) : dpRefusal s a = if a.write && !inStaging a then some 3 else none := by
  simp [dpRefusal, hr, ha, hs]

theorem dpRefusal_policy (hs : a.space = 0) (hp : InPolicyRegion s a.addr a.size) (hn : 0 < a.size)
    (ha : a.addr % (if a.bar2 then 4 else a.size) = 0) : dpRefusal s a = none := by
  obtain ⟨h, hup, hlo, hhi⟩ := hp
  have hh := half_num_le h
  rw [ezAddr] at hlo hhi
  have hin : inPolicy a = true := decide_eq_true (by unfold dpLast; omega)
  have hr : dpRange s a = false := dpRange_easel hs hup (by omega) (by unfold dpLast; omega)
  rw [dpRefusal_easel hr ha hs, hin]
  exact if_neg (by simp)

theorem dpRefusal_stage (hs : a.space = 2) (hup : halfUp s h = true) (hlo : h.num * 2 ^ 24 + 0x800000 ≤ a.addr)
    (hend : a.addr + a.size ≤ h.num * 2 ^ 24 + 2 ^ 24) (hn : 0 < a.size)
    (ha : a.addr % (if a.bar2 then 4 else a.size) = 0) : dpRefusal s a = none := by
  have hh := half_num_le h
  have hin : inStaging a = true := decide_eq_true (by unfold dpLast; omega)
  have hr : dpRange s a = false := dpRange_stage hs hup (by omega) (by unfold dpLast; omega)
  rw [dpRefusal_sram hr ha hs, hin]
  exact if_neg (by simp)

end

end Sys2Proof.Machine
end

section
/-!
SUPPORT. What an access alone at the data port comes to: bytes answered, bytes written, one transaction, or a failure
(R510-R513).
-/
namespace Sys2Proof.Machine

section
variable {s : State} {a : DpAcc} {c : Nat}

theorem dpStart_answers_policy (hd : s.dp = []) (hs : a.space = 0) (hw : a.write = false) (hn : 0 < a.size)
    (hp : InPolicyRegion s a.addr a.size) (ha : a.addr % (if a.bar2 then 4 else a.size) = 0) :
    dpStart a (dpHeld a s) = { s with
      out := s.out ++ [dpAnswer a (ezRead s a.addr a.size)]
      freeSeq := s.freeSeq + 1
      nextDp := s.nextDp + 1 } := by
  have hbytes : (List.range a.size).map (fun i => ezView (dpHeld a s) (a.addr + i)) = ezRead s a.addr a.size :=
    ezView_run (s := dpHeld a s) hp
  rw [dpStart_reads_easel (dpRefusal_policy (s := dpHeld a s) hs hp hn ha) hs hw, hbytes, dpReply_eq,
    dpDrop_alone (s := s) rfl hd]
  rfl

theorem dpDrop_written {u : State} (hu : u.dp = [a]) (hd : s.dp = []) (l : List (Nat × Byte)) :
    dpDrop a.id (l.foldl (fun t x => ezWrite x.1 [x.2] t) u) =
      { u with easel := l.foldl (fun m x => cellPut x.1 x.2 m) u.easel, dp := s.dp } := by
  rw [foldl_ezWrite]
  exact dpDrop_alone (s := s) (u := { u with easel := _ }) hu hd

/-- A policy region's bytes stored back as they were, then written where they are enabled (R393, R510). -/
theorem dpStart_writes_policy (hd : s.dp = []) (hs : a.space = 0) (hw : a.write = true) (hn : 0 < a.size)
    (hb : a.ben.length = a.size) (hp : InPolicyRegion s a.addr a.size)
    (ha : a.addr % (if a.bar2 then 4 else a.size) = 0) :
    dpStart a (dpHeld a s) = { ezStore a.addr (ezRead s a.addr a.size) (dpHeld a s) with
      easel := maskedPuts a.addr a.ben a.data (cellPuts a.addr (ezRead s a.addr a.size) s.easel)
      dp := s.dp } := by
  have hputs := dpBytes_puts (a := a) (c := a.addr) (fun x => x) (cellPuts a.addr (ezRead s a.addr a.size) s.easel) hb
    fun _ _ => rfl
  have hstored := ezStore_easel a.addr (ezRead s a.addr a.size) (dpHeld a s)
  have hdp : (ezStore a.addr (ezRead s a.addr a.size) (dpHeld a s)).dp = [a] := by rw [ezStore_only]; rfl
  rw [dpStart_writes_easel (dpRefusal_policy (s := dpHeld a s) hs hp hn ha) hs hw]
  refine (dpDrop_written (u := ezStore a.addr (ezRead s a.addr a.size) (dpHeld a s)) hdp hd _).trans ?_
  rw [hstored, ← hputs]
  rfl

theorem dpStart_writes_staging {h : Half} {q : Nat} (hd : s.dp = []) (hs : a.space = 2) (hw : a.write = true)
    (hup : halfUp s h = true) (hn : 0 < a.size) (hb : a.ben.length = a.size) (hq : q + a.size ≤ 0x800000)
    (haddr : a.addr = h.num * 2 ^ 24 + 0x800000 + q) (ha : a.addr % (if a.bar2 then 4 else a.size) = 0) :
    dpStart a (dpHeld a s) = { s with
      stage := maskedPuts (h.num * 0x800000 + q) a.ben a.data s.stage
      nextDp := s.nextDp + 1 } := by
  have hhalf : dpHalf a = h := dpHalf_stage hs (by omega)
  have hputs := dpBytes_puts (a := a) (c := h.num * 0x800000 + q)
    (fun x => (dpHalf a).num * 0x800000 + (x % 2 ^ 24 - 0x800000)) s.stage hb fun i hi => by
      rw [hhalf]
      omega
  rw [dpStart_writes_stage (dpRefusal_stage (s := dpHeld a s) hs hup (by rw [haddr]; exact Nat.le_add_right _ _)
    (by omega) hn ha) hs hw, ← hputs, dpDrop_alone (s := s) rfl hd]
  rfl

/-! One transaction of the management class (R123, R512). -/

theorem dpStart_reads_station {p : DpPart} (hr : dpRefusal s a = none) (hs : a.space = 1) (hp : dpParts a = [p]) :
    dpStart a s = pushTxns (dpPort a) .mgmt [dpTxn a 0 p]
      (dpMod a.id (fun x => { x with started := true, parts := [p] }) s) := by
  unfold dpStart
  rw [hr, hs, hp]
  rfl

theorem burstsOf_two {x : Nat} (hx : x % 8 = 0) : burstsOf x [0, 1] = [(x, 2)] :=
  if_pos ⟨rfl, by omega⟩

theorem dpParts_read {wide : Bool} (hw : a.write = false) (hn : a.size = dpN wide)
    (ha : a.addr % 2 ^ 36 % dpN wide = 0) :
    dpParts a = [{ addr := a.addr % 2 ^ 36, words := if wide then 2 else 1, be := 15, data := [] }] := by
  have hbursts : burstsOf (a.addr % 2 ^ 36) (List.range (a.size / 4)) = [(a.addr % 2 ^ 36, if wide then 2 else 1)] := by
    rw [hn]
    cases wide
    · rfl
    · exact burstsOf_two ha
  unfold dpParts
  rw [hw]
  exact congrArg (List.map _) hbursts

/-! An access that fails at once (R513). -/

/-- The state in which a refused access ends. -/
def dpEnded (c : Nat) (a : DpAcc) (s : State) : State := { dpError c a.addr (dpDenied a (dpHeld a s)) with
  dp := s.dp
  out := s.out ++ if a.write then [] else [dpAnswer a (List.replicate a.size 255)] }

theorem dpDenied_only (a : DpAcc) (s : State) : dpDenied a s = { s with
    regs := (dpDenied a s).regs, strikes := (dpDenied a s).strikes } := by
  unfold dpDenied
  split
  · exact raise_only _ _ _
  · rfl

theorem dpStart_ends (hd : s.dp = []) (hp : a.parts = []) (hr : dpRefusal (dpHeld a s) a = some c) :
    dpStart a (dpHeld a s) = dpEnded c a s := by
  have honly : dpError c a.addr (dpDenied a (dpHeld a s)) = { dpHeld a s with
      regs := (dpError c a.addr (dpDenied a (dpHeld a s))).regs
      strikes := (dpError c a.addr (dpDenied a (dpHeld a s))).strikes } := by
    rw [dpError_only, dpDenied_only]
  have hdp : (dpError c a.addr (dpDenied a (dpHeld a s))).dp = [a] := by rw [honly]; rfl
  have hout : (dpError c a.addr (dpDenied a (dpHeld a s))).out = s.out := by rw [honly]; rfl
  rw [dpStart_refused hr hp, dpEnded, ← hout]
  cases a.write with
  | true =>
    rw [if_pos rfl, if_pos rfl, dpDrop_alone hdp hd, List.append_nil]
  | false =>
    rw [if_neg (by decide), if_neg (by decide), dpReply_eq]
    exact dpDrop_alone (s := s) hdp hd

theorem dpEnded_only (c : Nat) (a : DpAcc) (s : State) : dpEnded c a s = { s with
    regs := (dpEnded c a s).regs, strikes := (dpEnded c a s).strikes, out := (dpEnded c a s).out
    nextDp := s.nextDp + 1 } := by
  rw [dpEnded, dpError_only, dpDenied_only]
  rfl

theorem quiet_dpEnded (c : Nat) (a : DpAcc) (s : State) : quiet (dpEnded c a s) = quiet s := by
  rw [dpEnded_only]
  exact quiet_congr _ _ rfl rfl rfl rfl rfl rfl rfl rfl

theorem dpDenied_page (a : DpAcc) (s : State) {P : Nat} (hP : pgEasel (dpHalf a) ≠ P) :
    PageKept P s (dpDenied a s) := by
  unfold dpDenied
  split
  · exact raise_pageKept _ hP _
  · exact .refl P s

/-! Why an access is refused (R509, R512, R513). -/

theorem dpRefusal_range (hr : dpRange s a = true) : dpRefusal s a = some 1 := if_pos hr

theorem dpRefusal_misaligned (hr : dpRange s a = false) (ha : a.addr % (if a.bar2 then 4 else a.size) ≠ 0) :
    dpRefusal s a = some 2 := by
  unfold dpRefusal
  rw [hr, if_neg (by decide), if_pos ha]

theorem dpRefusal_denied (hr : dpRange s a = false) (ha : a.addr % (if a.bar2 then 4 else a.size) = 0) (hs : a.space = 0)
    (hw : a.write = true) (hp : inPolicy a = false) : dpRefusal s a = some 3 := by
  rw [dpRefusal_easel hr ha hs, hw, hp]
  rfl

theorem dpRefusal_wren (hr : dpRange s a = false) (ha : a.addr % (if a.bar2 then 4 else a.size) = 0) (hs : a.space = 1)
    (hw : a.write = true) (hp : (rd s pgProtect R.PR_ATN_WREN_MASK).testBit (dpPort a) = false) :
    dpRefusal s a = some 3 := by
  rw [dpRefusal_atnen hr ha hs, hw, hp]
  exact if_pos (by simp)

theorem dpRefusal_station (hr : dpRange s a = false) (ha : a.addr % (if a.bar2 then 4 else a.size) = 0) (hs : a.space = 1)
    (hw : a.write = false) : dpRefusal s a = tgtDead s (dpPort a) (dpStn a) := by
  rw [dpRefusal_atnen hr ha hs, hw]
  rfl

end

end Sys2Proof.Machine
end

section
/-!
SUPPORT. DP_DATA and BAR2 each on its own (R510-R514), and O48.
-/
namespace Sys2Proof.Machine

theorem dpN_pos (wide : Bool) : 0 < dpN wide := by cases wide <;> decide

theorem dpN_bounds (wide : Bool) : dpN wide = 4 ∨ dpN wide = 8 := by cases wide <;> decide

section
variable {s : State} {wide write : Bool} {v : BitVec 64} {a : Nat}

/-! DP_DATA in a policy region (R372, R510). -/

theorem dpDataAccess_reads (hat : DpAt s 0 a (dpN wide)) (hp : InPolicyRegion s a (dpN wide)) :
    Ends (.dpDataAccess false wide v) s (fun t => Stepped s t ∧
      t.out = s.out ++ [.answer 0 (leNat (ezRead s a (dpN wide)))] ∧
      t = { s with
        regs := t.regs, out := t.out, freeSeq := s.freeSeq + 1, nextDp := s.nextDp + 1, woLatch := t.woLatch } ∧
      RegsKept [(pgDataPort, R.DP_ADDR.off)] s t) := by
  obtain ⟨hq, hsp, rfl, ha⟩ := hat
  have hx := exec_dpDataAccess (write := false) (wide := wide) (v := v) hq
  rw [dpStart_answers_policy (s := dpStepped s) (a := dpAcc false wide v s) (dp_of_quiet hq) hsp rfl (dpN_pos wide) hp
    ha] at hx
  refine ends_settle hx ?_ ⟨stepped_dpStepped s, rfl, rfl, dpStepped_kept s⟩
  exact (quiet_congr (dpStepped s) _ rfl rfl rfl rfl rfl rfl rfl rfl).trans ((quiet_dpStepped s).trans hq)

/-- A run of bytes stored over what had been stored back in its place. -/
theorem storedBack_onlyWrites {t : State} {bs : List Byte} (hm : Memory.wf s.easel = true)
    (ht : t.easel = cellPuts a bs (cellPuts a (ezRead s a bs.length) s.easel)) : OnlyWrites a bs s t := by
  have hback : BytesKept s { s with easel := cellPuts a (ezRead s a bs.length) s.easel } := bytesKept_rewritten hm rfl
  obtain ⟨hself, hother⟩ := onlyWrites_of_easel (s := { s with easel := cellPuts a (ezRead s a bs.length) s.easel })
    (cellPuts_wf _ _ _ hm) ht
  exact ⟨hself, fun b hb => (hother b hb).trans (hback b)⟩

/-- The state after DP_DATA has written a policy region. -/
def dpPolicyWritten (wide : Bool) (v : BitVec 64) (s : State) : State :=
  { ezStore (rd s pgDataPort R.DP_ADDR) (ezRead s (rd s pgDataPort R.DP_ADDR) (dpN wide))
      (dpHeld (dpAcc true wide v s) (dpStepped s)) with
    easel := maskedPuts (rd s pgDataPort R.DP_ADDR) (List.replicate (dpN wide) true) (leBytes (dpN wide) v.toNat)
      (cellPuts (rd s pgDataPort R.DP_ADDR) (ezRead s (rd s pgDataPort R.DP_ADDR) (dpN wide)) s.easel)
    dp := s.dp }

theorem dpPolicyWritten_only (wide : Bool) (v : BitVec 64) (s : State) : dpPolicyWritten wide v s = { dpStepped s with
    regs := (dpPolicyWritten wide v s).regs, strikes := (dpPolicyWritten wide v s).strikes
    easel := (dpPolicyWritten wide v s).easel, nextDp := s.nextDp + 1 } := by
  rw [dpPolicyWritten, ezStore_only]
  rfl

theorem dpPolicyWritten_page (wide : Bool) (v : BitVec 64) (s : State) :
    PageKept pgDataPort (dpStepped s) (dpPolicyWritten wide v s) := by
  have hstore := ezStore_pageKept (P := pgDataPort) (dpHeld (dpAcc true wide v s) (dpStepped s))
    (fun h => by cases h <;> decide) (rd s pgDataPort R.DP_ADDR) (ezRead s (rd s pgDataPort R.DP_ADDR) (dpN wide))
  exact hstore

theorem dpPolicyWritten_onlyWrites (hm : Memory.wf s.easel = true) :
    OnlyWrites (rd s pgDataPort R.DP_ADDR) (leBytes (dpN wide) v.toNat) s (dpPolicyWritten wide v s) := by
  refine storedBack_onlyWrites hm ?_
  have hall := maskedPuts_all (rd s pgDataPort R.DP_ADDR) (leBytes (dpN wide) v.toNat)
    (cellPuts (rd s pgDataPort R.DP_ADDR) (ezRead s (rd s pgDataPort R.DP_ADDR) (dpN wide)) s.easel)
  rw [length_leBytes] at hall ⊢
  exact hall

theorem dpDataAccess_writes (hat : DpAt s 0 a (dpN wide)) (hp : InPolicyRegion s a (dpN wide)) (hm : MemoriesWf s) :
    Ends (.dpDataAccess true wide v) s (fun t => Stepped s t ∧ t.out = s.out ∧
      ezRead t a (dpN wide) = leBytes (dpN wide) v.toNat ∧
      (∀ b, ¬ (a ≤ b ∧ b < a + dpN wide) → ezByte t b = ezByte s b) ∧
      t = { s with
        regs := t.regs, easel := t.easel, strikes := t.strikes, nextDp := s.nextDp + 1, woLatch := t.woLatch }) := by
  obtain ⟨hq, hsp, rfl, ha⟩ := hat
  obtain ⟨hm, -⟩ := hm
  have hx := exec_dpDataAccess (write := true) (wide := wide) (v := v) hq
  have hgoes : dpStart (dpAcc true wide v s) (dpHeld (dpAcc true wide v s) (dpStepped s)) = dpPolicyWritten wide v s :=
    dpStart_writes_policy (s := dpStepped s) (dp_of_quiet hq) hsp rfl (dpN_pos wide) List.length_replicate hp ha
  rw [hgoes] at hx
  have honly := dpPolicyWritten_only wide v s
  obtain ⟨hself, hother⟩ := dpPolicyWritten_onlyWrites (wide := wide) (v := v) hm
  rw [length_leBytes] at hself hother
  refine ends_settle hx ?_ ⟨?_, ?_, hself, fun b hb => hother b (by omega), ?_⟩
  · rw [honly, ← hq]
    exact quiet_congr _ _ rfl rfl rfl rfl rfl rfl rfl rfl
  · exact (dpPolicyWritten_page wide v s R.DP_ADDR 0).trans (stepped_dpStepped s)
  · rw [honly]
    rfl
  · rw [honly]
    rfl

/-! DP_DATA in a staging area (R511). -/

theorem dpDataAccess_stages {h : Half} {o : Nat} (hm : MemoriesWf s) (hup : halfUp s h = true) (hlo : 0x800000 ≤ o)
    (hhi : o + dpN wide ≤ 0x1000000) (hat : DpAt s 2 (h.num * 2 ^ 24 + o) (dpN wide)) :
    Ends (.dpDataAccess true wide v) s (fun t => Stepped s t ∧
      (∀ i, i < dpN wide → cellGet (h.num * 0x800000 + (o - 0x800000) + i) t.stage =
        ((leBytes (dpN wide) v.toNat)[i]?).getD 0) ∧
      (∀ b, ¬ (h.num * 0x800000 + (o - 0x800000) ≤ b ∧ b < h.num * 0x800000 + (o - 0x800000) + dpN wide) →
        cellGet b t.stage = cellGet b s.stage) ∧
      t = { s with regs := t.regs, stage := t.stage, nextDp := s.nextDp + 1, woLatch := t.woLatch } ∧
      RegsKept [(pgDataPort, R.DP_ADDR.off)] s t) := by
  obtain ⟨hq, hsp, haddr, ha⟩ := hat
  obtain ⟨-, hm⟩ := hm
  have hx := exec_dpDataAccess (write := true) (wide := wide) (v := v) hq
  have hben : (dpAcc true wide v s).ben.length = dpN wide := List.length_replicate
  rw [← haddr] at ha
  rw [dpStart_writes_staging (s := dpStepped s) (q := o - 0x800000) (dp_of_quiet hq) hsp rfl hup (dpN_pos wide) hben
    (by show o - 0x800000 + dpN wide ≤ _; omega) (haddr.trans (by omega)) ha] at hx
  refine ends_settle hx ?_ ⟨stepped_dpStepped s, fun i hi => ?_, fun b hb => ?_, rfl, dpStepped_kept s⟩
  · exact (quiet_congr (dpStepped s) _ rfl rfl rfl rfl rfl rfl rfl rfl).trans ((quiet_dpStepped s).trans hq)
  · refine (cellGet_maskedPuts_self hm ((length_leBytes _ _).trans hben.symm) (by rw [hben]; exact hi)).trans (if_pos ?_)
    show ((List.replicate (dpN wide) true)[i]?).getD false = true
    rw [List.getElem?_replicate, if_pos hi]
    rfl
  · exact cellGet_maskedPuts_other hm (by rw [hben]; exact hb)

/-! DP_DATA that fails (R513). -/

theorem leNat_ones (wide : Bool) : leNat (List.replicate (dpN wide) 255) = 2 ^ (8 * dpN wide) - 1 := by
  cases wide <;> rfl

/-- What every refused access of DP_DATA leaves. -/
theorem dpDataAccess_fails {c : Nat} (hq : quiet s = true) (ha : rd s pgDataPort R.DP_ADDR < 2 ^ 64) (hc : c < 2 ^ 8)
    (hr : dpRefusal (dpHeld (dpAcc write wide v s) (dpStepped s)) (dpAcc write wide v s) = some c) :
    exec (.dpDataAccess write wide v) s = .next (dpEnded c (dpAcc write wide v s) (dpStepped s)) ∧
      Stepped s (dpEnded c (dpAcc write wide v s) (dpStepped s)) ∧
      DpFailed c (rd s pgDataPort R.DP_ADDR) s (dpEnded c (dpAcc write wide v s) (dpStepped s)) ∧
      (dpEnded c (dpAcc write wide v s) (dpStepped s)).out =
        s.out ++ (if write then [] else [.answer 0 (2 ^ (8 * dpN wide) - 1)]) := by
  have hx := exec_dpDataAccess (write := write) (wide := wide) (v := v) hq
  rw [dpStart_ends (s := dpStepped s) (dp_of_quiet hq) rfl hr,
    settle_quiet _ ((quiet_dpEnded _ _ _).trans ((quiet_dpStepped s).trans hq))] at hx
  have hport := dpDenied_page (dpAcc write wide v s) (dpHeld (dpAcc write wide v s) (dpStepped s)) (P := pgDataPort)
    (by cases dpHalf (dpAcc write wide v s) <;> decide)
  have hhost := dpDenied_page (dpAcc write wide v s) (dpHeld (dpAcc write wide v s) (dpStepped s)) (P := pgHost)
    (by cases dpHalf (dpAcc write wide v s) <;> decide)
  have honly := dpDenied_only (dpAcc write wide v s) (dpHeld (dpAcc write wide v s) (dpStepped s))
  refine ⟨hx, ?_, ?_, ?_⟩
  · refine ((dpError_kept _ _ _).rd pgDataPort R.DP_ADDR (by decide)).trans ((hport _ 0).trans (stepped_dpStepped s))
  · exact dpFailed_dpError hc ha (fun g hg => (hport g 0).trans (rd_dpStepped hg _))
      (fun g => (hhost g 0).trans (rd_dpStepped_page _ (by decide) g)) (by rw [honly]; rfl) (by rw [honly]; rfl)
      (by rw [honly]; rfl)
  · have hones : dpAnswer (dpAcc write wide v s) (List.replicate (dpN wide) 255) = .answer 0 (2 ^ (8 * dpN wide) - 1) :=
      congrArg (Out.answer 0) (leNat_ones wide)
    rw [← hones]
    rfl

end

end Sys2Proof.Machine
end

section
/-!
SUPPORT. The accesses that fail for their address, a write that no port enables, a station read, BAR2 (R509-R514), and
O48.
-/
namespace Sys2Proof.Machine

section
variable {s : State} {wide write : Bool} {v : BitVec 64} {a sp : Nat}

/-! Accesses that fail for their address (R509, R513). -/

/-- The half of an Easel address below 2 TiB (R361). -/
theorem easelHalf_num {a : Nat} (h41 : a < 2 ^ 41) : a / 2 ^ 40 = (if a < 2 ^ 40 then Half.west else Half.east).num := by
  split
  · next h => exact Nat.div_eq_of_lt h
  · show a / 2 ^ 40 = 1
    omega

theorem dpRange_out {a : DpAcc} (hn : 0 < a.size) (hout : a.space = 3 ∨ (a.space = 0 ∧ (2 ^ 41 ≤ a.addr ∨
    halfUp s (if a.addr < 2 ^ 40 then .west else .east) = false))) : dpRange s a = true := by
  unfold dpRange
  rcases hout with h3 | ⟨h0, hout⟩
  · rw [h3]
    rfl
  · rw [h0]
    show (decide (2 ^ 41 ≤ dpLast a) || !halfUp s (dpHalf a)) = true
    rcases Nat.lt_or_ge a.addr (2 ^ 41) with h41 | h41
    · rw [dpHalf_easel h0 (easelHalf_num h41), hout.resolve_left (Nat.not_le.mpr h41)]
      exact Bool.or_true _
    · rw [decide_eq_true (show 2 ^ 41 ≤ dpLast a by unfold dpLast; omega)]
      rfl

theorem dpDataAccess_outOfRange (hq : quiet s = true) (hsp : rd s pgDataPort R.DP_CFG_SPACE = sp)
    (ha : rd s pgDataPort R.DP_ADDR = a) (h64 : a < 2 ^ 64)
    (hout : sp = 3 ∨ (sp = 0 ∧ (2 ^ 41 ≤ a ∨ halfUp s (if a < 2 ^ 40 then .west else .east) = false))) :
    Ends (.dpDataAccess write wide v) s (fun t => Stepped s t ∧ DpFailed 1 a s t ∧
      t.out = s.out ++ (if write then [] else [.answer 0 (2 ^ (8 * dpN wide) - 1)])) := by
  subst ha hsp
  exact ⟨_, dpDataAccess_fails hq h64 (by decide) (dpRefusal_range (dpRange_out (dpN_pos wide) hout))⟩

theorem dpDataAccess_misaligned (hq : quiet s = true) (hsp : rd s pgDataPort R.DP_CFG_SPACE = 0)
    (ha : rd s pgDataPort R.DP_ADDR = a) (h64 : a < 2 ^ 64)
    (hup : halfUp s (if a < 2 ^ 40 then .west else .east) = true) (hend : a + dpN wide ≤ 2 ^ 41)
    (hal : a % dpN wide ≠ 0) : Ends (.dpDataAccess write wide v) s (fun t => Stepped s t ∧ DpFailed 2 a s t ∧
      t.out = s.out ++ (if write then [] else [.answer 0 (2 ^ (8 * dpN wide) - 1)])) := by
  subst ha
  have hn := dpN_bounds wide
  have hrange : dpRange (dpHeld (dpAcc write wide v s) (dpStepped s)) (dpAcc write wide v s) = false :=
    dpRange_easel hsp hup (easelHalf_num (a := rd s pgDataPort R.DP_ADDR) (by omega)) (by
      show rd s pgDataPort R.DP_ADDR + dpN wide - 1 < 2 ^ 41
      omega)
  exact ⟨_, dpDataAccess_fails hq h64 (by decide) (dpRefusal_misaligned hrange hal)⟩

theorem dpEnded_woLatch (c : Nat) (a : DpAcc) (s : State) : (dpEnded c a s).woLatch = s.woLatch := by rw [dpEnded_only]

theorem dpDenied_raises {a : DpAcc} {h : Half} (hw : a.write = true) (hs : a.space = 0) (hr : dpRange s a = false)
    (hp : inPolicy a = false) (hh : dpHalf a = h) : dpDenied a s = raise (pgEasel h) 7 s := by
  unfold dpDenied
  rw [hw, hs, hr, hp, hh]
  rfl

theorem dpDataAccess_denied {h : Half} (hq : quiet s = true) (hsp : rd s pgDataPort R.DP_CFG_SPACE = 0)
    (ha : rd s pgDataPort R.DP_ADDR = a) (h64 : a < 2 ^ 64) (hup : halfUp s h = true) (hlo : ezAddr h 0 ≤ a)
    (hout : a < ezAddr h 0x100000 ∨ (ezAddr h 0x200000 ≤ a ∧ a < ezAddr h (2 ^ 40))) (hal : a % dpN wide = 0) :
    Ends (.dpDataAccess true wide v) s (fun t => Stepped s t ∧ DpFailed 3 a s t ∧ t.out = s.out ∧
      (rd t (pgEasel h) R.EVT_RAW).testBit 7 = true ∧
      t = { s with regs := t.regs, strikes := t.strikes, nextDp := s.nextDp + 1, woLatch := t.woLatch } ∧
      RegsKept (dpRegs ++ evtRegs (pgEasel h)) s t) := by
  subst ha
  have hn := dpN_bounds wide
  have hh := half_num_le h
  unfold ezAddr at hlo hout
  have hhalf : rd s pgDataPort R.DP_ADDR / 2 ^ 40 = h.num := by omega
  have hrange : dpRange (dpHeld (dpAcc true wide v s) (dpStepped s)) (dpAcc true wide v s) = false :=
    dpRange_easel hsp hup hhalf (by
      show rd s pgDataPort R.DP_ADDR + dpN wide - 1 < 2 ^ 41
      rcases hn with hn | hn <;> rw [hn] at hal ⊢ <;> omega)
  have hpol : inPolicy (dpAcc true wide v s) = false := decide_eq_false (by
    show ¬ (_ ∧ _ ≤ rd s pgDataPort R.DP_ADDR % 2 ^ 40 ∧ (rd s pgDataPort R.DP_ADDR + dpN wide - 1) % 2 ^ 40 < _)
    rcases hn with hn | hn <;> rw [hn] at hal ⊢ <;> omega)
  obtain ⟨hx, hstep, hfail, ho⟩ :=
    dpDataAccess_fails (write := true) (v := v) hq h64 (by decide) (dpRefusal_denied hrange hal hsp rfl hpol)
  rw [if_pos rfl, List.append_nil] at ho
  have hden := dpDenied_raises rfl hsp hrange hpol (dpHalf_easel hsp hhalf)
  have hkept := dpError_kept 3 (rd s pgDataPort R.DP_ADDR)
    (dpDenied (dpAcc true wide v s) (dpHeld (dpAcc true wide v s) (dpStepped s)))
  refine ⟨_, hx, hstep, hfail, ho, ?_, ?_, ?_⟩
  · refine Eq.trans (congrArg (fun n => n.testBit 7) (hkept.rd (pgEasel h) R.EVT_RAW (by cases h <;> decide))) ?_
    rw [hden]
    exact evtRaw_raise_self _ _ (by decide)
  · refine (dpEnded_only _ _ _).trans ?_
    rw [ho, dpEnded_woLatch]
    rfl
  · have hdenied : RegsKept (dpRegs ++ evtRegs (pgEasel h)) s
        (dpDenied (dpAcc true wide v s) (dpHeld (dpAcc true wide v s) (dpStepped s))) := by
      rw [hden]
      exact RegsKept.raise_mem ((dpStepped_kept s).mono (by simp [dpRegs])) fun p hp => List.mem_append_right _ hp
    exact hdenied.trans (hkept.mono fun p hp => List.mem_append_left _ (List.mem_cons_of_mem _ hp))

/-! Stations (R512). -/

section
variable {n stn x : Nat}

theorem dpPort_of (hn : n < 64) (hst : stn < 16) (hx : x < 2 ^ 36) : bits (n * 2 ^ 40 + stn * 2 ^ 36 + x) 45 40 = n := by
  unfold bits
  omega

theorem dpStn_of (hst : stn < 16) (hx : x < 2 ^ 36) : bits (n * 2 ^ 40 + stn * 2 ^ 36 + x) 39 36 = stn := by
  unfold bits
  omega

theorem dpAtnen_end (hn : n < 64) (hst : stn < 16) (hx : x < 2 ^ 36)
    (ha : (n * 2 ^ 40 + stn * 2 ^ 36 + x) % dpN wide = 0) : n * 2 ^ 40 + stn * 2 ^ 36 + x + dpN wide ≤ 2 ^ 46 := by
  rcases dpN_bounds wide with hw | hw <;> rw [hw] at ha ⊢ <;> omega

theorem tgtDead_dpStepped (n stn : Nat) : tgtDead (dpStepped s) n stn = tgtDead s n stn := by
  have hstate : apuState (dpStepped s) n = apuState s n := rd_dpStepped (by decide) _
  unfold tgtDead
  rw [hstate]
  rfl

theorem mgmt_pushTxns (n : Nat) (ts : List Txn) (s : State) :
    (apuGet (pushTxns n .mgmt ts s) n).mgmt = (apuGet s n).mgmt ++ ts := by
  rw [pushTxns, apuGet_apuMod_self]

theorem apuGet_pushTxns_other {n m : Nat} (hm : m ≠ n) (ts : List Txn) (s : State) :
    apuGet (pushTxns n .mgmt ts s) m = apuGet s m := (apuGet_apuMod n m _ s).trans (if_neg hm)

/-- The transaction of a station read by DP_DATA (R512). -/
def dpReadTxn (wide : Bool) (stn x : Nat) (s : State) : Txn :=
  ⟨txRD, stn, if wide then 2 else 1, 15, x, [], .dp s.nextDp 0⟩

/-- A station read that waits for its one transaction. -/
def dpAsked (wide : Bool) (v : BitVec 64) (n stn x : Nat) (s : State) : State :=
  pushTxns n .mgmt [dpReadTxn wide stn x s] (dpMod s.nextDp
    (fun a => { a with
      started := true, parts := [{ addr := x, words := if wide then 2 else 1, be := 15, data := [] }] })
    (dpHeld (dpAcc false wide v s) (dpStepped s)))

theorem pushTxns_only (n : Nat) (c : AClass) (ts : List Txn) (s : State) :
    pushTxns n c ts s = { s with apu := (pushTxns n c ts s).apu } := rfl

theorem dpMod_only (id : Nat) (f : DpAcc → DpAcc) (s : State) : dpMod id f s = { s with dp := (dpMod id f s).dp } := rfl

theorem dpAsked_only : dpAsked wide v n stn x s = { dpStepped s with
    apu := (dpAsked wide v n stn x s).apu, dp := (dpAsked wide v n stn x s).dp, nextDp := s.nextDp + 1 } := by
  rw [dpAsked, pushTxns_only, dpMod_only]
  rfl

theorem dpAsked_regs : (dpAsked wide v n stn x s).regs = (dpStepped s).regs := by rw [dpAsked_only]

theorem dpAsked_frame : dpAsked wide v n stn x s = { s with
    regs := (dpAsked wide v n stn x s).regs, apu := (dpAsked wide v n stn x s).apu
    dp := (dpAsked wide v n stn x s).dp, nextDp := s.nextDp + 1
    woLatch := (dpAsked wide v n stn x s).woLatch } := by
  rw [dpAsked_only]
  rfl

theorem dpAsked_out : (dpAsked wide v n stn x s).out = s.out := by
  rw [dpAsked_only]
  rfl

theorem dpAsked_stepped : Stepped s (dpAsked wide v n stn x s) := by
  unfold Stepped rd rdI
  rw [dpAsked_regs]
  exact stepped_dpStepped s

theorem dpStart_asks (hn : n < 64) (hst : stn < 16) (hx : x < 2 ^ 36) (hsp : rd s pgDataPort R.DP_CFG_SPACE = 1)
    (haddr : rd s pgDataPort R.DP_ADDR = n * 2 ^ 40 + stn * 2 ^ 36 + x)
    (ha : (n * 2 ^ 40 + stn * 2 ^ 36 + x) % dpN wide = 0) (hlive : tgtDead s n stn = none) :
    dpStart (dpAcc false wide v s) (dpHeld (dpAcc false wide v s) (dpStepped s)) = dpAsked wide v n stn x s := by
  have hport : dpPort (dpAcc false wide v s) = n := (congrArg (bits · 45 40) haddr).trans (dpPort_of hn hst hx)
  have hstn : dpStn (dpAcc false wide v s) = stn := (congrArg (bits · 39 36) haddr).trans (dpStn_of hst hx)
  have hlow : (dpAcc false wide v s).addr % 2 ^ 36 = x := (congrArg (· % 2 ^ 36) haddr).trans (by
    show (n * 2 ^ 40 + stn * 2 ^ 36 + x) % 2 ^ 36 = x
    omega)
  have hrange : dpRange (dpHeld (dpAcc false wide v s) (dpStepped s)) (dpAcc false wide v s) = false :=
    dpRange_atnen hsp ((congrArg (· + dpN wide) haddr).trans_le (dpAtnen_end hn hst hx ha))
  have hr : dpRefusal (dpHeld (dpAcc false wide v s) (dpStepped s)) (dpAcc false wide v s) = none := by
    rw [dpRefusal_station hrange ((congrArg (· % dpN wide) haddr).trans ha) hsp rfl, hport, hstn]
    exact (tgtDead_dpStepped n stn).trans hlive
  have hparts := dpParts_read (a := dpAcc false wide v s) rfl rfl (by
    rw [hlow]
    rcases dpN_bounds wide with hw | hw <;> rw [hw] at ha ⊢ <;> omega)
  have htxn : dpTxn (dpAcc false wide v s) 0 { addr := x, words := if wide then 2 else 1, be := 15, data := [] } =
      dpReadTxn wide stn x s := by
    rw [dpTxn, hstn]
    rfl
  rw [hlow] at hparts
  rw [dpStart_reads_station hr hsp hparts, hport, htxn]
  rfl

theorem dpDataAccess_asks (hn : n < 64) (hst : stn < 16) (hx : x < 2 ^ 36)
    (hat : DpAt s 1 (n * 2 ^ 40 + stn * 2 ^ 36 + x) (dpN wide)) (hlive : tgtDead s n stn = none) :
    Settles (.dpDataAccess false wide v) s (fun u => Stepped s u ∧
      (apuGet u n).mgmt = (apuGet s n).mgmt ++ [⟨txRD, stn, if wide then 2 else 1, 15, x, [], .dp s.nextDp 0⟩] ∧
      (∀ m, m ≠ n → apuGet u m = apuGet s m) ∧ u.out = s.out ∧
      u = { s with regs := u.regs, apu := u.apu, dp := u.dp, nextDp := s.nextDp + 1, woLatch := u.woLatch } ∧
      RegsKept [(pgDataPort, R.DP_ADDR.off)] s u) := by
  obtain ⟨hq, hsp, haddr, ha⟩ := hat
  have hexec := exec_dpDataAccess (write := false) (wide := wide) (v := v) hq
  rw [dpStart_asks hn hst hx hsp haddr ha hlive] at hexec
  exact ⟨dpAsked wide v n stn x s, hexec, dpAsked_stepped, mgmt_pushTxns n _ _,
    fun m hm => apuGet_pushTxns_other hm _ _, dpAsked_out, dpAsked_frame, (dpStepped_kept s).trans (.of_eq dpAsked_regs)⟩

theorem dpDataAccess_disabled (hn : n < 64) (hst : stn < 16) (hx : x < 2 ^ 36)
    (hat : DpAt s 1 (n * 2 ^ 40 + stn * 2 ^ 36 + x) (dpN wide))
    (hwren : (rd s pgProtect R.PR_ATN_WREN_MASK).testBit n = false) : Ends (.dpDataAccess true wide v) s (fun t =>
      Stepped s t ∧ DpFailed 3 (n * 2 ^ 40 + stn * 2 ^ 36 + x) s t ∧ t.out = s.out) := by
  obtain ⟨hq, hsp, haddr, ha⟩ := hat
  have hend := dpAtnen_end hn hst hx ha
  have hport : dpPort (dpAcc true wide v s) = n := (congrArg (bits · 45 40) haddr).trans (dpPort_of hn hst hx)
  have hal : (dpAcc true wide v s).addr % dpN wide = 0 := (congrArg (· % dpN wide) haddr).trans ha
  have hrange : dpRange (dpHeld (dpAcc true wide v s) (dpStepped s)) (dpAcc true wide v s) = false :=
    dpRange_atnen hsp ((congrArg (· + dpN wide) haddr).trans_le hend)
  have hmask : (rd (dpHeld (dpAcc true wide v s) (dpStepped s)) pgProtect R.PR_ATN_WREN_MASK).testBit
      (dpPort (dpAcc true wide v s)) = false := by
    rw [hport, ← hwren]
    exact congrArg (fun m => m.testBit n) (rd_dpStepped_page pgProtect (by decide) _)
  obtain ⟨hexec, hstep, hfail, hout⟩ := dpDataAccess_fails (write := true) (v := v) hq
    (by rw [haddr]; omega) (by decide) (dpRefusal_wren hrange hal hsp rfl hmask)
  rw [haddr] at hfail
  exact ⟨_, hexec, hstep, hfail, hout.trans (List.append_nil _)⟩

end

end

end Sys2Proof.Machine
end

section
/-!
SUPPORT. Accesses of BAR2 (R481, R514), and O48.
-/
namespace Sys2Proof.Machine

section
variable {s : State} {o base : Nat} {ben : List Bool} {data : List Byte} {write : Bool}

/-- The access that BAR2 makes. -/
def bar2Acc (write : Bool) (o : Nat) (ben : List Bool) (data : List Byte) (s : State) : DpAcc :=
  dpNew s.nextDp true write (rd s pgDataPort R.DP_WIN_SPACE) (rd s pgDataPort R.DP_WIN_BASE * 2 ^ 20 + o) ben.length
    (fit ben.length data) ben

theorem exec_bar2Access (hq : quiet s = true) (hn : ben ≠ []) (hl : ¬ (512 < ben.length ∧ ¬ write)) :
    exec (.bar2Access write o ben data) s =
      done (settle (dpStart (bar2Acc write o ben data s) (dpHeld (bar2Acc write o ben data s) s))) := by
  have hpos : ben.length ≠ 0 := fun h => hn (List.length_eq_zero_iff.mp h)
  have hgoes : dpBar2 write o ben data s =
      dpStart (bar2Acc write o ben data s) (dpHeld (bar2Acc write o ben data s) s) :=
    (if_neg hl).trans ((if_neg hpos).trans (dpArrive_starts (dp_of_quiet hq) _ _ _ _ _ _ _))
  exact congrArg (fun t => done (settle t)) hgoes

theorem bar2Access_unsupported (hq : quiet s = true) (hl : 512 < ben.length) :
    Ends (.bar2Access false o ben data) s (fun t =>
      t.out = s.out ++ [.unsupported] ∧ t = { barErr 3 o s with out := t.out }) := by
  have hlong : dpBar2 false o ben data s = emit .unsupported (barErr 3 o s) := if_pos ⟨hl, by decide⟩
  have hx : exec (.bar2Access false o ben data) s = done (settle (emit .unsupported (barErr 3 o s))) :=
    congrArg (fun t => done (settle t)) hlong
  have hout : (barErr 3 o s).out = s.out := by
    rw [barErr, raise_only, bump_only]
    rfl
  refine ends_settle hx ?_ ⟨congrArg (· ++ [Out.unsupported]) hout, rfl⟩
  exact (quiet_congr (barErr 3 o s) _ rfl rfl rfl rfl rfl rfl rfl rfl).trans ((quiet_barErr _ _ _).trans hq)

theorem bar2Access_reads (hq : quiet s = true) (hb : rd s pgDataPort R.DP_WIN_BASE = base)
    (hs : rd s pgDataPort R.DP_WIN_SPACE = 0) (hn : ben ≠ []) (hl : ben.length ≤ 512) (ha : (base * 2 ^ 20 + o) % 4 = 0)
    (hp : InPolicyRegion s (base * 2 ^ 20 + o) ben.length) : Ends (.bar2Access false o ben data) s (fun t =>
      t = { s with
        out := s.out ++ [.bytes (ezRead s (base * 2 ^ 20 + o) ben.length)]
        freeSeq := s.freeSeq + 1
        nextDp := s.nextDp + 1 }) := by
  subst hb
  have hx := exec_bar2Access (o := o) (data := data) (write := false) hq hn (by omega)
  rw [dpStart_answers_policy (a := bar2Acc false o ben data s) (dp_of_quiet hq) hs rfl (List.length_pos_iff.mpr hn) hp
    ha] at hx
  exact ends_settle hx ((quiet_congr s _ rfl rfl rfl rfl rfl rfl rfl rfl).trans hq) rfl

theorem bar2Access_stages {h : Half} {q : Nat} (hq : quiet s = true) (hb : rd s pgDataPort R.DP_WIN_BASE = base)
    (hs : rd s pgDataPort R.DP_WIN_SPACE = 2) (hm : MemoriesWf s) (hup : halfUp s h = true) (hn : ben ≠ [])
    (hq4 : q % 4 = 0) (haddr : base * 2 ^ 20 + o = h.num * 2 ^ 24 + 0x800000 + q) (hend : q + ben.length ≤ 0x800000) :
    Ends (.bar2Access true o ben data) s (fun t => (∀ i, i < ben.length → cellGet (h.num * 0x800000 + q + i) t.stage =
        (if (ben[i]?).getD false then (data[i]?).getD 0 else cellGet (h.num * 0x800000 + q + i) s.stage)) ∧
      (∀ b, ¬ (h.num * 0x800000 + q ≤ b ∧ b < h.num * 0x800000 + q + ben.length) → cellGet b t.stage = cellGet b s.stage) ∧
      t = { s with stage := t.stage, nextDp := s.nextDp + 1 }) := by
  subst hb
  obtain ⟨-, hm⟩ := hm
  have hal : (bar2Acc true o ben data s).addr % 4 = 0 := (congrArg (· % 4) haddr).trans (by
    show (h.num * 2 ^ 24 + 0x800000 + q) % 4 = 0
    omega)
  have hx := exec_bar2Access (o := o) (data := data) (write := true) hq hn (by simp)
  rw [dpStart_writes_staging (a := bar2Acc true o ben data s) (dp_of_quiet hq) hs rfl hup (List.length_pos_iff.mpr hn) rfl
    hend haddr hal] at hx
  refine ends_settle hx ((quiet_congr s _ rfl rfl rfl rfl rfl rfl rfl rfl).trans hq) ⟨fun i hi => ?_, fun b hb => ?_, rfl⟩
  · rw [← getD_fit hi data]
    exact cellGet_maskedPuts_self hm (length_fit _ _) hi
  · exact cellGet_maskedPuts_other hm hb

end

/-- Settles O48: every access starts at once and alone, so that each clause is the one way its space and its address
leave. -/
theorem theDataPortReachesItsSpaces : Obligations.TheDataPortReachesItsSpaces := by
  unfold Obligations.TheDataPortReachesItsSpaces
  refine ⟨fun s wide a v hat hp => ⟨dpDataAccess_reads hat hp, dpDataAccess_writes hat hp⟩,
    fun s wide h o v hm hup hlo hhi hat => dpDataAccess_stages hm hup hlo hhi hat,
    fun s wr wide a sp v hq hsp ha h64 => ⟨dpDataAccess_outOfRange hq hsp ha h64, ?_, ?_⟩,
    fun s wide n stn x v hn hst hx hat => ⟨dpDataAccess_asks hn hst hx hat, dpDataAccess_disabled hn hst hx hat⟩,
    fun s o base ben data hq hb => ⟨bar2Access_unsupported hq, bar2Access_reads hq hb,
      fun h q hs hm hup hn hq4 haddr hend => bar2Access_stages hq hb hs hm hup hn hq4 haddr hend⟩⟩
  · rintro rfl
    exact dpDataAccess_misaligned hq hsp ha h64
  · rintro h rfl hup hlo hout hal
    exact dpDataAccess_denied hq hsp ha h64 hup hlo hout hal

end Sys2Proof.Machine
end
